-- ==== Sys2Proof/Word.lean ====
section
/-!
DEFINITION. The word types of the FV32 block: bytes, the 32-bit register word (R6), the 16-bit
status code (R133), the 48-bit SAMPLE_IX (R26) and the 64-bit results and statistics.
-/

namespace Sys2Proof

/-- One byte. -/
abbrev Byte := BitVec 8
/-- A 16-bit field. -/
abbrev W16 := BitVec 16
/-- A register word (R6). -/
abbrev W32 := BitVec 32
/-- A SAMPLE_IX value (R26). -/
abbrev W48 := BitVec 48
/-- A result, a host address or a statistic. -/
abbrev W64 := BitVec 64
/-- A SHA-384 digest. -/
abbrev Digest := BitVec 384
/-- A 16-bit status code: the class in the high byte, the detail in the low byte (R14). -/
abbrev Code := BitVec 16

end Sys2Proof
end

