-- ==== Sys2Proof/Machine/Parts/Counter.lean ====
section
/-!
DEFINITION. The 32-bit counter of R206 and R501.
-/

namespace Sys2Proof.Machine

/-- A 32-bit error or event counter with its SAT flag (R206, R501). -/
structure Counter where
  count : W32 := 0
  sat : Bool := false
  deriving DecidableEq, Repr

end Sys2Proof.Machine
end

