-- ==== Sys2Proof/Machine/Parts/Boot.lean ====
section
/-!
DEFINITION. Boot, measurement, attestation, update and Nadir mode (ch. 19).
-/

namespace Sys2Proof.Machine

/-- The fields of a boot header (R460). -/
structure BootHeader where
  generation : W32
  confirmed : Bool
  trial : Option Bool
  ephBoot : Option (BitVec 2)
  ipv4 : W32
  prefixLen : Nat
  lastSeq : W32
  lastDigest : Digest
  deriving DecidableEq, Repr

/-- A quote that waits for its signature (R472): its 440 unsigned bytes. -/
structure Quote where
  flight : Nat
  slot : Nat
  port : Nat
  body : List Byte
  addr : W64
  toBuffer : Bool
  deriving DecidableEq, Repr

/-- A flash write that runs, with the command that it completes (R76, R473). -/
structure FlashJob where
  flight : Nat
  /-- RESULT0 of the completion. -/
  r0 : Nat := 0
  deriving DecidableEq, Repr

/-- A manifest check that runs: UPD_VERIFY or UPD_ACTIVATE (R463, R474). -/
structure UpdCheck where
  flight : Nat
  slot : Nat
  activate : Bool
  deriving DecidableEq, Repr

/-- The digests of a manifest and of its seven images (R467). -/
structure BankDigests where
  manifest : Digest
  images : List Digest
  deriving DecidableEq, Repr

/-- Where an activation stands (R475). -/
inductive ActPhase
  | management | control | transit | data | window | confirming
  deriving DecidableEq, Repr

/-- An activation in progress. -/
structure Activation where
  flight : Option Nat
  slot : Nat
  bank : Bool
  digests : BankDigests
  old : BankDigests
  phase : ActPhase
  /-- The swap of the data-plane images waits for DATA_STATE 1 (R118). -/
  atEnd : Bool := false
  deriving DecidableEq, Repr

/-- A Nadir frame (R484): the bytes of the UDP payload. -/
structure NadirFrame where
  bytes : List Byte
  deriving DecidableEq, Repr

/-- A Nadir reply: OP, STATUS, SEQ, ARG and data (R484). -/
structure NadirReply where
  op : Nat
  status : Code
  seq : W32
  arg : W32
  data : List Byte
  deriving DecidableEq, Repr

/-- Nadir mode (R482–R484). -/
structure Nadir where
  cause : Nat := 0
  /-- The rate of DRAM channel 0 in MT/s, and the core that runs (R483). -/
  dramRate : Nat := 1600
  core : Nat := 0
  staging : List (Nat × Byte) := []
  verified : Bool := false
  lastTest : Code := 0
  lastSeq : Option W32 := none
  replies : List NadirReply := []
  deriving DecidableEq, Repr

/-- Boot, trust and update. -/
structure Boot where
  digestOk : W32 := 0
  sigOk : Bool := false
  fallback : Bool := false
  trial : Bool := false
  confirmed : Bool := false
  running : Bool := false
  /-- The bank of the control firmware and of the data-plane images in force. -/
  ctlBank : Bool := false
  dataBank : Bool := false
  mr : Vector Digest 8 := Vector.replicate 8 0
  keyReady : Bool := false
  extending : Bool := false
  quotes : List Quote := []
  pwrCycles : W32 := 0
  /-- Operating seconds, 40 bits. -/
  opsec : Nat := 0
  updState : Nat := 0
  updResult : Nat := 0
  /-- Samples since the health window began (R478). -/
  windowFor : Option Nat := none
  /-- Samples since the boot began (R465). -/
  bootFor : Nat := 0
  activation : Option Activation := none
  /-- The digests of the bank in force, for reverts (R467). -/
  inForce : Option BankDigests := none
  /-- A revert whose data-plane images wait for a Syzygy point (R479). -/
  revertPending : Option BankDigests := none
  checks : List UpdCheck := []
  flashJobs : List FlashJob := []
  /-- The management address and prefix in force (R100). -/
  ipv4 : W32 := 0xC0A81920
  prefixLen : Nat := 24
  /-- SEQUENCE and digest, and TRIAL to be cleared, that wait for the NV window (R444, R461). -/
  headerWaits : Bool := false
  trialWaits : Bool := false
  nadir : Nadir := {}
  deriving DecidableEq, Repr

end Sys2Proof.Machine
end

