-- ==== Sys2Proof/Machine/Parts/Eph.lean ====
section
/-!
DEFINITION. The ephemeris in parsed form (R37–R70), and the state of its storage, staging,
validation and commit (R72–R92). Coordinates are integers of 0.25 µm (R43), Q16.16 values
integers of 1/65,536.
-/

namespace Sys2Proof.Machine

/-- MACHINE (R43). -/
structure EphMachine where
  machineId : W64
  bedXMin : Int
  bedXMax : Int
  bedYMin : Int
  bedYMax : Int
  gasX : Int
  gasY : Int
  headCount : Nat
  laserCount : Nat
  deriving DecidableEq, Repr

/-- One HEADS entry (R44). -/
structure EphHead where
  head : Nat
  moonlink : Nat
  forceDetect : Bool
  farLoop : Bool
  vendor : Nat
  model : Nat
  minFw : Nat
  roiSize : Nat
  roiKfps : Nat
  caps : Nat
  mountX : Int
  mountY : Int
  mountZ : Int
  yaw : Int
  pitch : Int
  roll : Int
  gridX0 : Int
  gridY0 : Int
  gridPitch : Int
  gridCrc : W32
  parkX : Int
  parkY : Int
  polygon : List (Int × Int)
  deriving DecidableEq, Repr

/-- One LASERS entry (R47). -/
structure EphLaser where
  laser : Nat
  head : Nat
  gateInvert : Bool
  ratedMw : Nat
  powerCeil : Nat
  powerFloor : Nat
  wavelength : Nat
  gateSkew : Int
  slew : Nat
  deriving DecidableEq, Repr

/-- One ZONES entry (R48). -/
structure EphZone where
  headMask : Nat
  seamsAllowed : Bool
  polygon : List (Int × Int)
  deriving DecidableEq, Repr

/-- One EXCLUSION class (R51). -/
structure EphClass where
  minSep : Nat
  coneHalf : Nat
  sepOn : Bool
  coneOn : Bool
  coneLen : Nat
  deriving DecidableEq, Repr

/-- One ORRERY route (R52). -/
structure EphRoute where
  srcType : Nat
  srcIndex : Nat
  srcField : Nat
  signed : Bool
  holdLast : Bool
  sinkType : Nat
  sinkIndex : Nat
  sinkInput : Nat
  scale : Int
  offset : Int
  deriving DecidableEq, Repr

/-- One LOOPS entry (R54). -/
structure EphLoop where
  slot : Nat
  kind : Nat
  target : Nat
  startAuto : Bool
  period : Nat
  defaultSet : Nat
  feTimer : Nat
  feLimit : Int
  deriving DecidableEq, Repr

/-- The values of one coefficient set (R54). -/
structure CoefSet where
  kp : Int := 0
  ki : Int := 0
  kd : Int := 0
  kff : Int := 0
  outMin : Int := 0
  outMax : Int := 0
  outSlew : Int := 0
  deriving DecidableEq, Repr

/-- One AXES entry (R56). -/
structure EphAxis where
  axis : Nat
  role : Nat
  stepIn : Bool
  quad : Bool
  ssi : Bool
  homePositive : Bool
  limPosLow : Bool
  limNegLow : Bool
  homeLow : Bool
  ustepPerMm : Nat
  vMax : Nat
  aMax : Nat
  jMax : Nat
  softMin : Int
  softMax : Int
  debounce : Nat
  ssiBits : Nat
  ssiClk : Nat
  encPerUstep : Nat
  devWindow : Nat
  aStop : Nat
  deriving DecidableEq, Repr

/-- One CAMERA entry (R57). -/
structure EphSensor where
  sensor : Nat
  port : Nat
  vc : Nat
  dataType : Nat
  width : Nat
  height : Nat
  lanes : Nat
  laneRate : Nat
  context : Nat
  mode : Nat
  stripe : Nat
  latencyK : Nat
  cfa : Nat
  cciAddr : Nat
  cciBus : Nat
  fpsMax : Nat
  strobeMask : Nat
  embLines : Nat
  deriving DecidableEq, Repr

/-- One HALO channel entry (R59). -/
structure EphHaloCh where
  enable : Bool
  current : Nat
  vf : Nat
  dutyMax : Nat
  deriving DecidableEq, Repr

/-- HALO (R59). -/
structure EphHalo where
  globalRef : Nat
  pwmBits : Nat
  stretchInt : Nat
  stretchOn : Bool
  neighbourTest : Bool
  vled : Nat
  channels : List EphHaloCh
  deriving DecidableEq, Repr

/-- One THERMAL sensor entry (R61). -/
structure EphTherm where
  kind : Nat
  ideality : Int
  eclipseAll : Bool
  riseWin : Nat
  high : Int
  low : Int
  riseMax : Nat
  eclipseMask : W32
  beta : Nat
  deriving DecidableEq, Repr

/-- One THERMAL heater entry (R61). -/
structure EphHeater where
  enable : Bool
  period : Nat
  dutyMax : Nat
  safeDuty : Nat
  deriving DecidableEq, Repr

/-- THERMAL (R61). -/
structure EphThermal where
  nvSensor : Nat
  nvLow : Int
  nvHigh : Int
  sensors : List EphTherm
  heaters : List EphHeater
  deriving DecidableEq, Repr

/-- RING_TIME (R62). -/
structure EphRing where
  mode : Nat
  portA : Bool
  portB : Bool
  bypass : Bool
  mac : Nat
  vlan : Nat
  domainA : Nat
  domainB : Nat
  preferred : Nat
  logSync : Int
  epochS : Nat
  epochNs : Nat
  holdover : Nat
  switchNs : Nat
  deriving DecidableEq, Repr

/-- One HOSTS entry (R64), in the coding of HOST_SLOT_STATUS: PORT 3 marks an unused slot. -/
structure SlotCfg where
  port : Nat := 3
  roles : BitVec 4 := 0
  qFirst : Nat := 0
  qCount : Nat := 0
  msixFirst : Nat := 0
  msixCount : Nat := 0
  deriving DecidableEq, Repr

/-- DRAM (R66). -/
structure EphDram where
  capacity : Nat
  rate : Nat
  nrK : Nat
  fsp : Bool
  scrubH : Nat
  vendor : Nat
  pasr : W64
  deriving DecidableEq, Repr

/-- DISPLAY (R68). -/
structure EphDisplay where
  enable : Bool
  lanes : Nat
  link : Nat
  format : Nat
  width : Nat
  height : Nat
  hblank : Nat
  vblank : Nat
  syncHz : Nat
  staticDiv : Nat
  background : Nat
  deriving DecidableEq, Repr

/-- CAL (R69). -/
structure EphCal where
  cleis : Bool
  deltaT : Nat
  subjects : Nat
  deriving DecidableEq, Repr

/-- PERIHELION (R70): each curve holds 32 (TEMP, FACTOR) points. -/
structure EphPeri where
  enable : Bool
  pitch : Nat
  x0 : Int
  y0 : Int
  alpha : Nat
  decay : Nat
  under : Nat
  biasComp : Int
  gain : Nat
  curves : List (List (Nat × Nat))
  deriving DecidableEq, Repr

/-- A whole ephemeris. An absent optional section leaves its list empty or its option `none` (R41). -/
structure Eph where
  sequence : W32
  signed : Bool
  /-- The SHA-384 digest of the container (R87). -/
  digest : Digest
  /-- The digest of PUBKEY, or zero for an unsigned container (R87). -/
  signerDigest : Digest
  machine : EphMachine
  heads : List EphHead
  lasers : List EphLaser
  zones : List EphZone
  classes : List EphClass
  routes : List EphRoute
  loops : List EphLoop
  sets : List (Nat × CoefSet)
  axes : List EphAxis
  sensors : List EphSensor
  halo : Option EphHalo
  thermal : EphThermal
  ring : EphRing
  hosts : List SlotCfg
  dram : EphDram
  display : Option EphDisplay
  cal : Option EphCal
  peri : Option EphPeri
  deriving DecidableEq, Repr

/-- A rejection of a container: code, section type and byte offset (R79, R80). -/
structure EphFail where
  code : Code
  sect : Nat
  ofs : Nat
  deriving DecidableEq, Repr

/-- BOOT_EPH_STATUS STAGE. -/
inductive StageState
  | empty | loading | loaded | validating | valid | rejected
  deriving DecidableEq, Repr

/-- BOOT_EPH_STATUS COMMIT. -/
inductive CommitState
  | none | pending | adopting | adopted | cancelled | failed
  deriving DecidableEq, Repr

/-- A route switch that waits for its sample S (R92). -/
structure RouteSwitch where
  route : Nat
  at_ : Nat
  scale : Int
  offset : Int
  holdLast : Bool
  deriving DecidableEq, Repr

/-- What the source of a route last delivered (R90, R94). -/
structure RouteVal where
  /-- The value at the sink input, in 1/65,536. -/
  y : Int := 0
  /-- The source was valid at its last update. -/
  valid : Bool := false
  /-- The route has been evaluated since it was adopted: HOLD_LAST has a valid y to keep. -/
  ever : Bool := false
  deriving DecidableEq, Repr

/-- An EPH_STAGE copy, an EPH_VALIDATE or an EPH_COMMIT validation that runs (R76–R78). -/
structure EphJob where
  flight : Nat
  slot : Nat
  deriving DecidableEq, Repr

/-- Storage, staging, validation, commit and the Orrery (ch. 03). -/
structure EphState where
  /-- The ephemeris in force. -/
  eph : Option Eph := none
  /-- The container in force: the copy that R89 keeps in DRAM channel 0. -/
  container : List Byte := []
  /-- SEQUENCE and digest of the last committed ephemeris (R38, R88). -/
  last : Option (W32 × Digest) := none
  staging : List Byte := []
  /-- LENGTH of the inline staging that runs (R76). -/
  stageLen : Nat := 0
  stage : StageState := .empty
  commit : CommitState := .none
  /-- The parsed container, held while STAGE is VALID. -/
  validated : Option Eph := none
  /-- The EPH_STAGE commands that copy, oldest first, with the flash slot each reads, if any (R74). -/
  copying : List (EphJob × Option Nat) := []
  /-- The EPH_VALIDATE commands that run, oldest first. -/
  validating : List EphJob := []
  /-- The EPH_COMMIT whose validation runs (R77, R81). -/
  committing : Option EphJob := none
  /-- The slot whose commit is pending (R77). -/
  pendingSlot : Option Nat := none
  /-- The pending commit came while a FINAL layer ran or was being prepared: it waits for DATA_STATE 1 (R118). -/
  atEnd : Bool := false
  /-- An uncorrectable word in the staged image (R389 region 10). -/
  stagingBad : Bool := false
  bootSlot : BitVec 2 := 0
  bootNone : Bool := false
  seq : W32 := 0
  adoptIx : W48 := 0
  rejCode : Code := 0
  rejSect : W16 := 0
  rejOfs : W32 := 0
  routeVals : List RouteVal := []
  switches : List RouteSwitch := []
  deriving DecidableEq, Repr

end Sys2Proof.Machine
end

