-- ==== Sys2Proof/Machine/Parts/Host.lean ====
section
/-!
DEFINITION. Ports, slots, queues, sessions and what the device sends to its hosts (ch. 04). Ports are
numbered 0 PCIe A, 1 PCIe B, 2 management, as PORT of HOST_SLOT_STATUS numbers them.
-/

namespace Sys2Proof.Machine

/-- The sender of a management-port frame: IPv4 address and UDP port (R128). -/
structure Sender where
  ip : W32
  udp : W16
  deriving DecidableEq, Repr

/-- The header of a frame as far as the device reads it: sender, SLOT and SEQ (R126). -/
structure FrameHdr where
  sender : Sender
  slot : Nat
  seq : W32
  deriving DecidableEq, Repr

/-- Where a register access comes from: BAR0 or BAR2 of PCIe A (false) or B (true), or a register frame. -/
inductive Origin
  | pcie (b : Bool)
  | bar2 (b : Bool)
  | frame (h : FrameHdr)
  deriving DecidableEq, Repr

/-- A register access: offset in its BAR, width in bytes and, for a write, the value. -/
structure RegAccess where
  origin : Origin
  addr : Nat
  width : Nat := 4
  value : W32 := 0
  deriving DecidableEq, Repr

/-- Where a submission entry comes from: a queue, or a command frame with inline data. -/
inductive EntryOrigin
  | queue (q : Nat)
  | frame (h : FrameHdr)
  deriving DecidableEq, Repr

/-- A submission entry with the data its buffer holds (R117). `dmaOk` is false when reading the
entry or the buffer fails (R122). -/
structure Entry where
  origin : EntryOrigin
  opcode : W16
  flags : W16 := 0
  cmdId : W16 := 0
  res06 : W16 := 0
  bufAddr : W64 := 0
  bufLen : W32 := 0
  res14 : W32 := 0
  params : List Byte := []
  data : List Byte := []
  dmaOk : Bool := true
  deriving DecidableEq, Repr

/-- A completion entry or event (R118). -/
structure Cpl where
  r0 : W64
  r1 : W64
  sqHead : W16
  sqId : Nat
  cmdId : W16
  status : Code
  sample : W32
  phase : Bool := false
  late : Bool
  deriving DecidableEq, Repr

/-- The body of a management-port reply. -/
inductive ReplyBody
  /-- KIND 2: a completion and the data it returns. -/
  | completion (c : Cpl) (data : List Byte)
  /-- KIND 5: address, value and code. -/
  | register (addr : Nat) (value : W32) (code : Code)
  /-- The answer to a session open, session close or keepalive, or to a frame that is refused. -/
  | code (c : Code)
  deriving DecidableEq, Repr

/-- The HSR tag of an own frame: path identifier, sequence number and LSDU size (R364). -/
structure HsrTag where
  path : Nat
  seq : W16
  lsdu : Nat
  deriving DecidableEq, Repr

/-- What the device sends: the outputs that a partner outside can see. -/
inductive Out
  /-- A completion or event written to the completion ring of a queue. -/
  | completion (queue : Nat) (c : Cpl)
  /-- An MSI-X message: a write of `data` to `addr` (R119). -/
  | msix (port vector : Nat) (addr : W64) (data : W32)
  /-- Data written to a host buffer. -/
  | buffer (port : Nat) (addr : W64) (data : List Byte)
  /-- The value of a register read over PCIe. -/
  | readValue (port : Nat) (addr : Nat) (value : W32)
  | reply (h : FrameHdr) (body : ReplyBody)
  | eventFrame (slot : Nat) (sender : Sender) (c : Cpl)
  /-- A Nadir reply: the bytes of the UDP payload (R484). -/
  | nadir (bytes : List Byte)
  /-- The device's own frame on an Orbit ring port: EtherType, destination MAC, sequence number, VLAN
  tag (0 untagged), correctionField in 2^−16 ns, and the HSR tag in MODE 1 (R364, R368, R370). -/
  | ringOwn (port etherType dst seq vlan : Nat) (correction : Int) (tag : Option HsrTag)
  /-- A frame forwarded to an Orbit ring port: EtherType, source and destination MAC, sequence number,
  correctionField added in 2^−16 ns, and whether its FCS is inverted. -/
  | ring (port etherType src dst seq : Nat) (correction : Int) (badFcs : Bool)
  | arp (ip mac : Nat)
  | icmp (ip : Nat) (data : List Byte)
  /-- A write over I²C/CCI: sensor, register and value (R342). -/
  | cci (sensor reg value : Nat)
  /-- A frame on the panel: DISP_FRAME, and its rows of pixels as R, G, B from bit 23 down (R413, R416, R420). -/
  | panel (frame : W32) (rows : List (List Nat))
  deriving DecidableEq, Repr

/-- A management session (R128, R129). -/
structure Session where
  sender : Sender
  highest : Option W32 := none
  /-- The last 32 SEQ values taken, newest first, each with its reply once it has been sent. -/
  replies : List (W32 × Option ReplyBody) := []
  deriving DecidableEq, Repr

/-- A slot (R101–R108). -/
structure Slot where
  cfg : SlotCfg
  /-- ROLES_HELD: bit 0 PILOT, 1 OBSERVER, 2 SERVICE, 3 KEEPER. -/
  held : BitVec 4 := 0
  reject : Counter := {}
  eventsOn : Bool := false
  qpSelect : Nat := 0
  /-- Events dropped since the last one posted (R123). -/
  dropped : W32 := 0
  session : Option Session := none
  deriving DecidableEq, Repr

/-- A queue pair (R116–R122). -/
structure Queue where
  vector : Nat := 0
  weight : Nat := 1
  enable : Bool := false
  sqM1 : Nat := 15
  cqM1 : Nat := 15
  sqBase : W64 := 0
  cqBase : W64 := 0
  sqHead : Nat := 0
  sqTail : Nat := 0
  cqWrite : Nat := 0
  cqHead : Nat := 0
  phase : Bool := true
  error : Bool := false
  /-- Completions that wait for room in the completion ring (R116), with their IRQ flags. -/
  waiting : List (Cpl × Bool) := []
  deriving DecidableEq, Repr

/-- A command that has been dispatched and has not completed. -/
structure Flight where
  id : Nat
  slot : Nat
  /-- The port through which it came. -/
  port : Nat
  origin : EntryOrigin
  cmdId : W16
  irq : Bool
  opcode : W16
  /-- BUF_ADDR, where returned data goes. -/
  bufAddr : W64 := 0
  /-- Its port went down: its completion is discarded and counted (R106). -/
  lost : Bool := false
  deriving DecidableEq, Repr

/-- An MSI-X table entry (R96): its layout and its reset value are those of the PCIe specification. -/
structure MsixVec where
  addr : W64 := 0
  data : W32 := 0
  masked : Bool := true
  deriving DecidableEq, Repr

/-- A port: its error registers (R115), the read latches of R501, the quote buffer (R472), and the
Tail cursor and window (R497). -/
structure Port where
  linkUp : Bool := false
  /-- The MSI-X table of a PCIe port, by vector, and its pending-bit array (R96). -/
  msix : List (Nat × MsixVec) := []
  pba : W64 := 0
  d3hot : Bool := false
  errSlot : Nat := 0xF
  errCode : Code := 0
  errAddr : Nat := 0
  lostCpl : W32 := 0
  /-- Latched words, by BAR0 offset. -/
  latches : List (Nat × W32) := []
  quote : List Byte := []
  cursor : Nat := 0
  /-- A window load runs, and the window is loaded (R497). -/
  loading : Bool := false
  ready : Bool := false
  window : List Byte := []
  deriving DecidableEq, Repr

/-- What a power-up finds outside the dies: rail voltages in mV, what the core rails still hold before they are
ramped up, the DRAM's manufacturer, capacity and channels that fail training, and the BOOT_NADIR_L strap. -/
structure BootEnv where
  before : List Nat := []
  rails : List Nat := []
  vendor : Nat := 0
  capacity : Nat := 0
  failed : W32 := 0
  strap : Bool := false
  deriving DecidableEq, Repr

/-- A management-port frame that arrives while the management core restarts (R475, R515). -/
inductive HeldFrame
  | entry (e : Entry)
  | wake (e : Entry) (env : BootEnv)
  | write (a : RegAccess)
  | read (a : RegAccess)
  | sessionOpen (h : FrameHdr)
  | sessionClose (h : FrameHdr)
  | keepalive (h : FrameHdr)
  | replay (h : FrameHdr)
  | bad (sender : Sender) (frame : List Byte)
  | arp (sender : Sender) (mac target : Nat)
  | icmp (sender : Sender) (target : Nat) (data : List Byte)
  deriving DecidableEq, Repr

/-- A completion that falls due in a Transit pause (R477). -/
structure HeldPost where
  flight : Flight
  status : Code
  r0 : W64
  r1 : W64
  sample : W32
  late : Bool
  data : List Byte
  deriving DecidableEq, Repr

/-- An event that falls due in a Transit pause (R477): slot, type, STATUS and RESULT1. -/
structure HeldEvent where
  slot : Nat
  type : Nat
  status : Code
  r1 : W64
  deriving DecidableEq, Repr

/-- A post that falls due in a Transit pause. -/
inductive Held
  | post (p : HeldPost)
  | event (e : HeldEvent)
  deriving DecidableEq, Repr

/-- Host ports, slots, queues and commands in flight. -/
structure HostState where
  ports : Vector Port 3 := Vector.replicate 3 {}
  slots : List Slot
  /-- The queues that differ from a queue at reset, by number. -/
  queues : List (Nat × Queue) := []
  flights : List Flight := []
  nextFlight : Nat := 0
  /-- The weighted round robin (R120): the queue whose turn it is, the entries it has given in this turn,
  and the sessions that have given theirs since a queue last gave. -/
  rrQueue : Nat := 0
  rrGiven : Nat := 0
  rrSessions : List Nat := []
  /-- Commands that wait until the validation of an EPH_COMMIT ends (R77), oldest first. -/
  ephWaits : List (Flight × Entry) := []
  /-- Frames with a bad CRC (R127). -/
  badFrames : Nat := 0
  /-- Posts that fall due in a Transit pause (R477), oldest first. -/
  held : List Held := []
  /-- Frames that wait until the management core runs again, oldest first, at most 32 (R475, R515). -/
  heldFrames : List HeldFrame := []
  deriving DecidableEq, Repr

end Sys2Proof.Machine
end

