-- ==== Sys2Proof/Machine/Parts/Time.lean ====
section
/-!
DEFINITION. Machine time, the servo and the Orbit ring (ch. 14). The time keeper counts 2^−48 ns, and machine
time is shown in 2^−16 ns; offsets are integers of 2^−16 ns; rates are rationals in 0.01 ppb.
-/

namespace Sys2Proof.Machine

/-- STATE of PTP_STATUS (R376). -/
inductive ServoState
  | unset | freeRun | acquiring | locked | holdover
  deriving DecidableEq, Repr

/-- The number of STATE (R376). -/
def ServoState.num : ServoState → Nat
  | .unset => 0 | .freeRun => 1 | .acquiring => 2 | .locked => 3 | .holdover => 4

/-- The dataset of an Announce (R370). -/
structure Announce where
  priority1 : Nat := 0
  clockClass : Nat := 0
  accuracy : Nat := 0
  variance : Nat := 0
  priority2 : Nat := 0
  gm : W64 := 0
  steps : Nat := 0
  utc : Int := 0
  /-- logMessageInterval: the Announce interval is 2^logInterval s. -/
  logInterval : Int := 0
  deriving DecidableEq, Repr

/-- A two-step Sync that waits for its Follow_Up (R370). -/
structure TwoStep where
  seq : W16
  port : Nat
  t2 : Int
  corr : Int
  deriving DecidableEq, Repr

/-- A time domain (R377). -/
structure PtpDomain where
  /-- Consecutive valid Syncs, and consecutive ones within 100 ns (R376). -/
  run : Nat := 0
  near : Nat := 0
  syncValid : Bool := false
  announceValid : Bool := false
  best : Announce := {}
  /-- The port that sent the best Announce, and machine time of its last one. -/
  parent : Nat := 0
  announceAt : Nat := 0
  lastSeq : Option W16 := none
  waiting : Option TwoStep := none
  offset : Int := 0
  freq : Rat := 0
  /-- Origin time (corrected) and receive time of the previous Sync. -/
  prev : Option (Int × Int) := none
  /-- The sum of applied rates at that Sync, for the mean rate of R377. -/
  prevSum : Rat := 0
  lastSync : Option Nat := none
  deriving DecidableEq, Repr

/-- What a forwarded two-step Sync adds to its Follow_Up (R370): its source port, sequenceId and ingress port. -/
structure Resid where
  source : Nat
  seq : W16
  port : Nat
  add : Int
  deriving DecidableEq, Repr

/-- An entry of the duplicate table (R366): MAC, sequence number, ingress port and arrival. -/
structure DupEntry where
  mac : Nat
  seq : W16
  dir : Nat
  at_ : Nat
  deriving DecidableEq, Repr

/-- A Pdelay exchange of a port (R370): the request's sequenceId and departure, and the response's
receipt times once it has come. -/
structure Pdelay where
  seq : W16 := 0
  t1 : Option Int := none
  resp : Option (Int × Int) := none
  deriving DecidableEq, Repr

/-- An Orbit ring port. -/
structure RingPort where
  blockLock : Bool := false
  oos : Bool := false
  prbs : Nat := 0
  meanDelay : Int := 0
  pdelay : Pdelay := {}
  /-- Bits that wait in the forwarding queue towards this port (R365). -/
  queueBits : Nat := 0
  fcs : Counter := {}
  dup : Counter := {}
  drop : Counter := {}
  prbsErr : Counter := {}
  prbsBits : W64 := 0
  deriving DecidableEq, Repr

/-- Machine time, the servo and the ring. -/
structure TimeState where
  /-- The time keeper in 2^−48 ns (R372). -/
  clock : Nat := 0
  /-- SAMPLE_IX (R26, R373). -/
  ix : W48 := 0
  preEpoch : Bool := false
  /-- A step has put SAMPLE_IX where it stands: no periodic unit runs at it (R379). -/
  landed : Bool := false
  state : ServoState := .unset
  /-- The selected domain: false A, true B. -/
  selected : Bool := false
  /-- The rate applied, and the offset still to be slewed in ns. -/
  rate : Rat := 0
  phaseLeft : Rat := 0
  /-- The last frequency estimate of a selected domain (R376). -/
  estimate : Rat := 0
  /-- The applied rate summed over the samples since power-up, a short one by its length: the model's own field,
  with which R377 measures a domain against the crystal. -/
  rateSum : Rat := 0
  domains : Vector PtpDomain 2 := Vector.replicate 2 {}
  /-- Machine time at which HOLDOVER began. -/
  holdSince : Nat := 0
  /-- A TIME_SET that takes effect at the next sample boundary (R384). -/
  setTo : Option Nat := none
  ports : Vector RingPort 2 := Vector.replicate 2 {}
  bypReq : Bool := false
  bypHold : Bool := false
  dupTable : List DupEntry := []
  resid : List Resid := []
  hsrSeq : W16 := 0
  rxSup : Nat := 0
  rxOther : W32 := 0
  stepCnt : Counter := {}
  switchCnt : Counter := {}
  holdoverCnt : Counter := {}
  seqErr : Counter := {}
  /-- The AON time keeper during Umbra, in 2^−16 ns (R383). -/
  aon : Nat := 0
  deriving DecidableEq, Repr

/-- Machine time T in 2^−16 ns: the upper 16 of the 48 fraction bits (R372). -/
def TimeState.t (x : TimeState) : Nat := x.clock / 2 ^ 32

/-- The time keeper put to a machine time. -/
def TimeState.setT (v : Nat) (x : TimeState) : TimeState := { x with clock := v * 2 ^ 32 }

end Sys2Proof.Machine
end

