-- ==== Sys2Proof/Syntax.lean ====
section
/-!
DEFINITION. The commands of the block: one constructor per row of the opcode table. A register row
carries the access, a command row its submission entry, and an event row what its environment
delivers with it.
-/

namespace Sys2Proof

open Sys2Proof.Machine

/-- An uncorrectable DRAM line (R398): channel and byte address in it. -/
structure LineUe where
  channel : Nat
  addr : Nat
  deriving DecidableEq, Repr

/-- An uncorrectable line in a staged block: the first 16-byte unit it covers, and its place. -/
structure StageUe where
  unit : Nat
  line : LineUe
  deriving DecidableEq, Repr

/-- An SRAM error that a read finds (R388): a single-bit error, or a double-bit one in a REGION of
R389 at a byte offset, with the object it hits: the engine, atlas entry, grid cell or sensor; in region 10 the
ephemeris staging area (0) or capture unit c (1 + c), of which `i` is the row. -/
structure SramErr where
  double : Bool
  region : Nat
  offset : Nat
  object : Nat
  /-- Region 1: the 16-byte unit `i` of the block that engine `object` executes. Region 2: the tile (i, j).
  Region 4: both copies fail. Region 6: `object` is the word's offset in the frame buffer. -/
  i : Nat := 0
  j : Nat := 0
  both : Bool := false
  deriving DecidableEq, Repr

/-- A block of an uplink's bulk channel (R298): sync header and payload bytes. -/
structure BulkBlock where
  sync : Nat
  bytes : List Byte
  deriving DecidableEq, Repr

/-- An uplink frame as it arrives (R288): whether the sync headers of U0–U3 are valid, their 32
payload bytes, and the bulk blocks that follow. -/
structure UplinkFrame where
  syncOk : Bool
  bytes : List Byte
  bulk : List BulkBlock := []
  deriving DecidableEq, Repr

/-- The switches of an axis (R314). -/
inductive SwitchName
  | limPos | limNeg | home
  deriving DecidableEq, Repr

/-- A switch and its new level (R314). -/
structure SwitchEdge where
  sw : SwitchName
  level : Bool
  deriving DecidableEq, Repr

/-- A CSI-2 long packet (R326): virtual channel, data type, payload, whether its CRC matches, and
whether its header needed a single-bit correction. -/
structure CsiPacket where
  vc : Nat
  dt : Nat
  payload : List Byte
  crcOk : Bool := true
  ecc : Bool := false
  deriving DecidableEq, Repr

/-- What a Halo sink's measurement finds (R355, R357): the current stays below its set value, the
pin voltage and VLED in mV. -/
structure SinkReading where
  low : Bool := false
  mv : Nat := 0
  vled : Nat := 0
  deriving DecidableEq, Repr

/-- The end of an exposure window of a sensor (R328), with the readings of the sinks that its strobe drove (R355). -/
structure ExposureEnd where
  sensor : Nat
  ms : List (Nat × SinkReading) := []
  deriving DecidableEq, Repr

/-- A ring frame (R364–R368). -/
structure RingFrame where
  src : Nat
  dst : Nat
  etherType : Nat
  seq : W16
  length : Nat
  fcsOk : Bool := true
  deriving DecidableEq, Repr

/-- A PTP event or follow-up message (R370, R377). Times and corrections are in 2^−16 ns; `sub` is
the receipt within the present sample. -/
structure PtpMsg where
  domain : Nat := 0
  seq : W16
  twoStep : Bool := false
  followUp : Bool := false
  origin : Int := 0
  correction : Int := 0
  sub : Nat := 0
  vlanTags : Nat := 0
  /-- The source MAC, the sequence number of the HSR tag, and the sourcePortIdentity (R364, R370). -/
  src : Nat := 0
  hsrSeq : W16 := 0
  source : Nat := 0
  deriving DecidableEq, Repr

/-- An Announce message: its header and its dataset (R370). -/
structure AnnounceMsg where
  head : PtpMsg
  data : Announce
  deriving DecidableEq, Repr

/-- Readings of the two companion-die entries in reset, and the environment of the boot that follows (R443). -/
structure CooledStart where
  buck : Int
  halo : Int
  env : BootEnv
  deriving DecidableEq, Repr

/-- The watchdogs of R508. -/
inductive WatchUnit
  | engine (n : Nat) | arbiter | tide | perihelion
  deriving DecidableEq, Repr

/-- The commands of the block, one per row of the opcode table. -/
inductive Instr
  /-- A write of a submission doorbell sets the ring tail, so that the dispatcher fetches the new entries (R116). -/
  | hostDbSqTail (a : RegAccess)
  /-- A write of a completion doorbell frees completion entries, so that a stalled queue may dispatch again (R116). -/
  | hostDbCqHead (a : RegAccess)
  /-- A write of ENABLE in HOST_QP_CTRL starts the selected queue pair at head and tail 0, or stops it and clears ERROR (R122). -/
  | qpEnable (a : RegAccess)
  /-- A slot claims roles all or nothing, as decided by the role arbiter (R102). -/
  | hostRoleClaim (a : RegAccess)
  /-- A slot releases roles it holds, and ROLE_CHANGE and commit effects follow (R105). -/
  | hostRoleRelease (a : RegAccess)
  /-- A write of CNT_CLEAR in HOST_SLOT_CTL clears HOST_REJECT_CNT and CNT_SAT (R134). -/
  | cntClear (a : RegAccess)
  /-- A write to a register without behaviour of its own is checked under R546 and stored, or rejected and charged to a slot (R11). -/
  | registerWrite (a : RegAccess)
  /-- A narrow or misaligned read returns zero, records ERR_LAST and advances the charged slot's reject counter (R7). -/
  | refusedRead (a : RegAccess)
  /-- A read of a _LO word or another latching register captures the companion words in the latch of that port (R501). -/
  | latchingRead (a : RegAccess)
  /-- A read of TAIL_STATUS that returns BUSY 0 stops the writer from starting a record for 10 µs (R496). -/
  | tailStatusRead (a : RegAccess)
  /-- A submission entry with an unknown group or command is rejected with BAD_OPCODE (R133). -/
  | unknownCommand (e : Entry)
  /-- A session-open frame binds a management-port slot to its sender (R128). -/
  | sessionOpen (h : FrameHdr)
  /-- A session-close frame takes the port down for that slot (R106). -/
  | sessionClose (h : FrameHdr)
  /-- A keepalive frame keeps a management session alive (R128). -/
  | keepalive (h : FrameHdr)
  /-- A session that receives no frame for 3 s goes down, and its slots lose their roles and queues (R106). -/
  | sessionTimeout (slot : Nat)
  /-- A JCS frame with a bad CRC is dropped and counted; one with a bad MAGIC or VERSION is answered with BAD_OPCODE (R127). -/
  | jcsFrameBad (sender : Sender) (frame : List Byte)
  /-- A frame whose SEQ is not later than the highest seen is answered from the reply store, or dropped (R129). -/
  | jcsFrameReplay (h : FrameHdr)
  /-- A PCIe link goes down, which takes the port down for its slots (R106). -/
  | pcieLinkDown (b : Bool)
  /-- A PCIe link comes up, and LINK_UP is set for its slots (R97). -/
  | pcieLinkUp (b : Bool)
  /-- PERST# asserted on an endpoint takes its port down (R106). -/
  | perstAssert (b : Bool)
  /-- A PCIe hot reset takes the port down for its slots (R106). -/
  | hotReset (b : Bool)
  /-- A Function Level Reset takes the port down for its slots (R106). -/
  | functionLevelReset (b : Bool)
  /-- An endpoint enters D3hot, which affects only the slots of that endpoint (R99). -/
  | d3hotEntry (b : Bool)
  /-- Returns SEQUENCE, length, flags, TAG and digest of the staged or committed ephemeris, or of a flash slot (R76). -/
  | ephInfo (e : Entry)
  /-- Writes data into an ephemeris flash slot inside the NV write window (R73). -/
  | ephStore (e : Entry)
  /-- Selects the ephemeris flash slot that is loaded at power-up (R75). -/
  | ephSetBoot (e : Entry)
  /-- Copies a container into staging from a flash slot, a host buffer or inline chunks (R76). -/
  | ephStage (e : Entry)
  /-- Runs the ten-stage validation on the staged container (R78). -/
  | ephValidate (e : Entry)
  /-- Validates the staged container if needed, then requests adoption (R81). -/
  | ephCommit (e : Entry)
  /-- When a commit's validation ends, PILOT is judged again and the ephemeris is adopted at once, deferred or rejected (R81). -/
  | ephCommitValidated
  /-- Withdraws a pending commit and posts COMMIT_CANCELLED (R83). -/
  | ephCancel (e : Entry)
  /-- Changes SCALE, OFFSET and HOLD_LAST of a committed route (R92). -/
  | ephRouteSet (e : Entry)
  /-- At switch sample S the new route values take effect (R92). -/
  | routeSwitch (route : Nat)
  /-- Returns the layer state, and for a pool its queue depth and next vector sequence (R166). -/
  | jobStatus (e : Entry)
  /-- Opens a layer, starting a build when it carries FIRST (R160). -/
  | jobLayerOpen (e : Entry)
  /-- States that all of a layer's descriptors have been submitted (R160). -/
  | jobLayerClose (e : Entry)
  /-- Checks one pool block in fifteen steps, then copies it to the job area and queues its descriptor (R148). -/
  | jobSubmit (e : Entry)
  /-- Raises host-command Eclipse of all channels, which ends the build (R165). -/
  | jobAbort (e : Entry)
  /-- The staging mover finishes copying a block or an overlap window into an engine's staging buffer (R153). -/
  | blockStaged (n pool : Nat) (dseq : W32) (ue : Option StageUe)
  /-- A requested correction-grid tile arrives in the engine's cache (R193). -/
  | tileResident (n i j : Nat) (ue : Option LineUe)
  /-- An engine that waited at a vector boundary starts the stroke or jump once its words are staged and its tiles are resident (R32). -/
  | vectorStart (n : Nat)
  /-- A layer ends when it is closed, complete and all engines are idle; LAYER_END is posted and the Syzygy sequence begins (R161). -/
  | layerEnd
  /-- The recoat dwell expires, and Syzygy step 1 completes (R322). -/
  | recoatDwellEnd
  /-- Each sensor with SYZYGY set is triggered at E minus TRIG_DLY for the image step (R330). -/
  | syzygyTrigger (sensor : Nat)
  /-- The fixed 2,000-sample transition step ends, and the commits step begins (R162). -/
  | transitionStepEnd
  /-- All engines start the new layer at the computed multiple of 80, and the ranks are set (R33). -/
  | commonStart
  /-- Each 250 ns sample advances SAMPLE_IX and drives records, arbitration, deposits and lookups (R26). -/
  | sampleTick (errs : List SramErr)
  /-- A WAIT word's count or ABS sample is reached, and the engine moves on (R141). -/
  | waitEnd (n : Nat)
  /-- An engine at a SYNC word is released once every engine in MASK qualifies (R142). -/
  | syncRelease (n : Nat)
  /-- An Eclipsed engine completes its park jump and reaches PARK_X and PARK_Y (R205). -/
  | engineParked (n : Nat)
  /-- An engine held for 40,000 samples is escalated (R219). -/
  | holdEscalation (n : Nat)
  /-- A take that waits 10 ms without a grant is forced onto the earliest candidate (R225). -/
  | takeEscalation (zone : Nat)
  /-- A write of POP removes the oldest hold-log entry (R234). -/
  | arbLogPop (a : RegAccess)
  /-- A write of CLEAR in ARB_CNT_CTL clears the arbiter counters, statistics and per-engine registers (R234). -/
  | arbCntClear (a : RegAccess)
  /-- A write of CLEAR in SE_CNT_CTL clears the engine's counters and statistics (R206). -/
  | seCntClear (a : RegAccess)
  /-- Returns COUNT atlas entries from FIRST (R156). -/
  | paramAtlasRead (e : Entry)
  /-- Writes atlas entries all or nothing, with a reference check before VALID is cleared (R157). -/
  | paramAtlasWrite (e : Entry)
  /-- At switch sample S the new atlas values take effect for vectors that start later (R157). -/
  | atlasSwitch
  /-- Snapshots a grid rectangle after the next pass and returns it (R254). -/
  | paramPeriRead (e : Entry)
  /-- Loads a grid rectangle at the next pass, or defers it to the next transition (R254). -/
  | paramPeriLoad (e : Entry)
  /-- At every multiple of 4,096 samples a diffusion pass starts (R249). -/
  | diffusionTick
  /-- A diffusion pass completes, PERI_STEPS advances, and a pending read or load is served (R252). -/
  | diffusionPassEnd
  /-- A write of CLEAR in PERI_CNT_CTL clears the Perihelion counters and statistics (R257). -/
  | periCntClear (a : RegAccess)
  /-- At the end of each 4-sample period the photodiode sums and the ratio are published (R238). -/
  | powerPeriodEnd (n : Nat)
  /-- At the end of its period a loop latches its inputs and updates its output (R262). -/
  | tideUpdate (slot : Nat)
  /-- Returns a loop's output, status, PV and setpoint (R275). -/
  | loopStatus (e : Entry)
  /-- Returns coefficient sets (R275). -/
  | loopSetRead (e : Entry)
  /-- Returns rows of a capture (R280). -/
  | loopCaptureRead (e : Entry)
  /-- Writes coefficient sets all or nothing, effective at a switch sample (R276). -/
  | loopSetWrite (e : Entry)
  /-- At switch sample S the new coefficient values take effect (R276). -/
  | setSwitch
  /-- Assigns a capture unit and arms it, with optional injection (R277). -/
  | loopCaptureStart (e : Entry)
  /-- Stops a capture and its injection, and frees the unit with RELEASE (R275). -/
  | loopCaptureStop (e : Entry)
  /-- A write of MODE in TIDE_LOOP_CTL switches a loop between manual and automatic at its next update (R271). -/
  | loopModeWrite (a : RegAccess)
  /-- A write of SET in TIDE_LOOP_CTL selects the coefficient set of a loop that is not a power loop (R266). -/
  | loopSetSelect (a : RegAccess)
  /-- A W1C write clears FE_TRIP, which allows MODE 1 again (R274). -/
  | feTripClear (a : RegAccess)
  /-- A W1C write clears SET_EMPTY (R265). -/
  | setEmptyClear (a : RegAccess)
  /-- A W1C write clears SAT_AT_SWAP (R267). -/
  | satAtSwapClear (a : RegAccess)
  /-- A write of CLEAR in TIDE_CNT_CTL clears the Tide counters (R281). -/
  | tideCntClear (a : RegAccess)
  /-- An ROI_END block completes an ROI frame, which goes to its metric unit, or is counted as damaged (R298). -/
  | roiFrameEnd (n : Nat) (block : List Byte)
  /-- No frame within two frame periods counts a missed period and clears ROI_VALID (R245). -/
  | roiLate (n : Nat)
  /-- A write of CLEAR in MP_CNT_CTL clears a channel's melt-pool counters (R256). -/
  | mpCntClear (a : RegAccess)
  /-- An uplink frame arrives and is judged good, damaged or out of sequence, and its fields are updated (R299). -/
  | uplinkFrame (n : Nat) (f : UplinkFrame)
  /-- No UP_START by its deadline marks an uplink frame missing (R299). -/
  | uplinkFrameMissing (n : Nat)
  /-- 16 invalid sync headers in 64 blocks lose block lock and frame lock (R291). -/
  | blockLockLoss (n : Nat)
  /-- Both lanes detect a termination, or FORCE_DETECT is set, and the link goes to TRAIN (R290). -/
  | receiverDetect (n : Nat)
  /-- 100 ms without detection send the link to BACKOFF (R290). -/
  | detectTimeout (n : Nat)
  /-- The own phase is found and the head shows PHASE_OK, and the link goes to LOCK (R290). -/
  | phaseFound (n : Nat)
  /-- 2 ms in TRAIN send the link to BACKOFF (R290). -/
  | trainTimeout (n : Nat)
  /-- Frame lock is gained and d is measured, and the link goes to CAPS (R291). -/
  | frameLock (n roundTrips : Nat) (seq : W16)
  /-- 1 ms in LOCK send the link to BACKOFF (R290). -/
  | lockTimeout (n : Nat)
  /-- A CAPS message is checked against HEADS, and the link goes to ACTIVE or HELD_OUT (R295). -/
  | caps (n : Nat) (msg : List Byte)
  /-- 10 ms in CAPS without a valid CAPS hold the link out with REASON 7 (R295). -/
  | capsTimeout (n : Nat)
  /-- 10 ms of backoff end, and the link returns to DETECT, or is held out after three attempts (R290). -/
  | backoffEnd (n : Nat)
  /-- The head sets HEAD_READY, and the engine may start words (R296). -/
  | headReady (n : Nat)
  /-- A LOOP_ACK puts the link into far-end loopback TEST (R303). -/
  | loopAck (n : Nat) (msg : List Byte)
  /-- No LOOP_ACK within 10 ms returns the link to its state and reads TEST 0 (R303). -/
  | loopAckTimeout (n : Nat)
  /-- A write of TEST in ML_CTL starts or ends a loopback (R303). -/
  | mlTest (a : RegAccess)
  /-- A write of INJECT inverts one bit of the test pattern (R302). -/
  | mlInject (a : RegAccess)
  /-- A write of RETRAIN restarts bring-up from DETECT with a new count of attempts (R290). -/
  | mlRetrain (a : RegAccess)
  /-- A write of CLEAR in ML_CNT_CTL clears a link's counters (R305). -/
  | mlCntClear (a : RegAccess)
  /-- Returns the state, position, encoder and deviation of an axis (R307). -/
  | axisStatus (e : Entry)
  /-- Enables or disables an axis (R307). -/
  | axisEnable (e : Entry)
  /-- Starts a homing run (R316). -/
  | axisHome (e : Entry)
  /-- Plans a move to, or by, a target (R311). -/
  | axisMove (e : Entry)
  /-- Runs an axis at VEL until it is stopped (R307). -/
  | axisJog (e : Entry)
  /-- Makes an axis follow STEP_IN (R318). -/
  | axisFollow (e : Entry)
  /-- Stops an axis at the A in force, or at A_STOP (R307). -/
  | axisStop (e : Entry)
  /-- Changes V and A in force, applied now or kept until the next motion (R313). -/
  | axisSetDyn (e : Entry)
  /-- Reruns a failed recoat sequence from the move that failed (R323). -/
  | axisRecoatResume (e : Entry)
  /-- Every 80 samples each axis updates its commanded position, its clamps and its deviation (R310). -/
  | servoTick
  /-- The raw first edge of a limit stops an axis that moves towards it, at A_STOP (R315). -/
  | limitEdge (a : Nat) (positive level : Bool)
  /-- A debounce window closes, and the switch level qualifies or not (R314). -/
  | switchQualify (a : Nat) (sw : SwitchName)
  /-- The homing target's edge latches the position, and on qualification the axis is homed (R316). -/
  | homeEdge (a : Nat) (edge : SwitchEdge) (ns : Nat)
  /-- A limit other than the target aborts homing (R317). -/
  | homingLimit (a : Nat) (positive level : Bool) (ns : Nat)
  /-- A STEP_IN edge updates the follow target and its rate (R318). -/
  | stepInEdge (a : Nat) (dirIn : Bool) (ns : Nat)
  /-- No STEP_IN edge for INTERP_TMO moves p to T, where it rests (R318). -/
  | interpTimeout (a : Nat)
  /-- A rising Z edge latches the encoder count (R319). -/
  | encoderZEdge (a : Nat)
  /-- A quadrature transition changes the count, or counts an error (R319). -/
  | quadTransition (a ab : Nat)
  /-- An SSI frame ends, and its value is decoded or counted as an error (R320). -/
  | ssiFrameEnd (a bits : Nat) (highBefore highAfter : Bool)
  /-- A W1C write clears PROFILE_KEPT (R313). -/
  | profileKeptClear (a : RegAccess)
  /-- A write of CLEAR in AX_CNT_CTL clears an axis's counters and AX_STEPS (R325). -/
  | axCntClear (a : RegAccess)
  /-- Returns a frame record (R345). -/
  | camFrameInfo (e : Entry)
  /-- Returns a frame's histogram (R345). -/
  | camHistRead (e : Entry)
  /-- Returns the pixel rows or embedded lines of a frame (R345). -/
  | camFrameRead (e : Entry)
  /-- Returns a frame's 256 zone means (R345). -/
  | camZoneRead (e : Entry)
  /-- Triggers the sensors in MASK that have no frame outstanding (R329). -/
  | camTrigger (e : Entry)
  /-- Loads a context's defect list (R341). -/
  | camDefectLoad (e : Entry)
  /-- Loads a context's shading grid (R341). -/
  | camShadingLoad (e : Entry)
  /-- At each multiple of PERIOD a periodic sensor is triggered, or the trigger is skipped (R329). -/
  | periodicTrigger (sensor : Nat)
  /-- EXPOSING and then the strobe wires rise ahead of an exposure window (R353). -/
  | strobeStart (sensor : Nat)
  /-- An exposure window closes, strobes fall, and a Syzygy image step may complete (R328). -/
  | exposureEnd (x : ExposureEnd)
  /-- A frame-start packet opens the frame of a triggered sensor (R331). -/
  | csiFrameStart (port vc : Nat) (ecc : Bool)
  /-- A frame-end packet closes the frame, normal, SHORT or LONG (R331). -/
  | csiFrameEnd (port vc : Nat) (ecc : Bool)
  /-- A long packet delivers an image or embedded line into the stripe buffer, or is discarded (R334). -/
  | csiLongPacket (port : Nat) (p : CsiPacket)
  /-- A header with an uncorrectable ECC error is discarded, and the open frame is marked HDR_ERR (R327). -/
  | csiHeaderError (port vc : Nat)
  /-- FRAME_TMO expires, and the frame closes MISSING or SHORT (R331). -/
  | frameTimeout (sensor : Nat)
  /-- The pipeline finishes a frame or stripe unit and takes the next ready unit (R339). -/
  | pipelineUnitDone
  /-- A write of COMMIT latches the sensor's shadows as a pending exposure set (R342). -/
  | camSCommit (a : RegAccess)
  /-- The CCI writes complete, and GEN_LAST advances (R342). -/
  | cciWritesDone (sensor : Nat)
  /-- A CCI write unacknowledged twice abandons the commit and sets CCI_ERR (R343). -/
  | cciNak (sensor reg : Nat)
  /-- A write of COMMIT applies a context's shadows to later frames (R341). -/
  | camCCommit (a : RegAccess)
  /-- A W1C write clears CCI_ERR (R343). -/
  | cciErrClear (a : RegAccess)
  /-- A write of CLEAR in CAM_CNT_CTL clears the port counters and CAM_BUF_PEAK (R348). -/
  | camCntClear (a : RegAccess)
  /-- A write of CLEAR in CAM_S_CNT_CTL clears a sensor's counters (R348). -/
  | camSCntClear (a : RegAccess)
  /-- A sensor's deskew sequence, received while subject 2 is armed, yields new lane taps (R452). -/
  | deskewSequence (port ui : Nat) (run1 run2 : List Nat)
  /-- Returns a channel's Halo status and level (R351). -/
  | haloStatus (e : Entry)
  /-- Sets duty and current on the channels in MASK, with an optional fade (R352). -/
  | haloSet (e : Entry)
  /-- Requests the neighbour-short test (R358). -/
  | haloNtest (e : Entry)
  /-- A write of HALO_CH_LEVEL ends any fade and sets duty and current at the next period (R352). -/
  | haloChLevel (a : RegAccess)
  /-- Every 1 ms a fading channel takes its next duty step (R352). -/
  | fadeStep (ch : Nat)
  /-- A channel starts a PWM period, and its pulse is checked for open (R350). -/
  | pwmPeriod (ch : Nat) (m : SinkReading)
  /-- 20 s without a checked pulse turn DIAG to OPEN_UNVERIFIED or OFF (R355). -/
  | verifyExpiry (ch : Nat)
  /-- At each multiple of 400,000 samples the channel on-time budgets restart (R354). -/
  | accountingInterval
  /-- A channel reaching its on-time budget is held off for the rest of the interval (R354). -/
  | budgetCut (ch : Nat)
  /-- Every STRETCH_INT a short-pulse channel gets one 2 µs pulse once EXPOSING is low (R356). -/
  | stretchDue (ch : Nat)
  /-- A pin above VLED − 0.5 V turns the channel off and latches SHORT_SUPPLY (R357). -/
  | haloShort (ch : Nat) (m : SinkReading)
  /-- A due neighbour test starts once DATA_STATE is 1 and EXPOSING is low (R358). -/
  | ntestStart
  /-- The 2.3 ms neighbour test ends, and shorted pairs are latched NSHORT (R358). -/
  | ntestComplete (pairs : W32)
  /-- A W1C write of FAULT clears a latched fault, and the channel is reassessed (R355). -/
  | haloFaultClear (a : RegAccess)
  /-- A W1C write clears STROBE_CUT (R354). -/
  | strobeCutClear (a : RegAccess)
  /-- A write of CLEAR in HALO_CNT_CTL clears the Halo counters (R361). -/
  | haloCntClear (a : RegAccess)
  /-- A ring frame is received, forwarded, discarded as a duplicate, or consumed (R365). -/
  | ringFrame (port : Nat) (f : RingFrame)
  /-- Every 2 s a supervision frame is sent on each port (R364). -/
  | supervisionTimer
  /-- A Sync of a declared domain updates the offset and frequency estimate and steers the servo (R377). -/
  | sync (port : Nat) (m : PtpMsg)
  /-- A Follow_Up supplies the origin time of a two-step Sync and has its correction updated when forwarded (R370). -/
  | followUp (port : Nat) (m : PtpMsg)
  /-- An Announce updates the best time source of its domain (R370). -/
  | announce (port : Nat) (m : AnnounceMsg)
  /-- An Announce timeout loses the domain (R381). -/
  | announceTimeout (domain : Nat)
  /-- A received Pdelay_Req is answered with a one-step Pdelay_Resp (R370). -/
  | pdelayReq (port seq src : Nat)
  /-- A Pdelay_Resp or its Follow_Up updates the port's mean link delay (R370). -/
  | pdelayResp (port : Nat) (m : PtpMsg)
  /-- Every 1 s a Pdelay_Req is sent on each port (R370). -/
  | pdelayTimer
  /-- Three Sync intervals without a Sync switch the servo to the other domain or into HOLDOVER (R381). -/
  | domainLost (domain : Nat)
  /-- HOLDOVER lasting HOLDOVER ms becomes FREE_RUN (R382). -/
  | holdoverExpiry
  /-- Both ports gain block lock, and ORB_BYP_HOLD is driven once nothing else releases it (R369). -/
  | ringBlockLock (port : Nat) (gained : Bool)
  /-- A write of BYP_REQ releases or permits ORB_BYP_HOLD (R369). -/
  | bypReq (a : RegAccess)
  /-- A write of OOS takes a port out of service to run PRBS, or returns it (R386). -/
  | oos (a : RegAccess)
  /-- A write of INJECT inverts one bit of the PRBS pattern (R385). -/
  | orbInject (a : RegAccess)
  /-- A write of BURST inverts 16 bits of the PRBS pattern (R385). -/
  | orbBurst (a : RegAccess)
  /-- A write of CLEAR in ORB_Pp_CNT_CTL clears a port's counters (R387). -/
  | orbCntClear (a : RegAccess)
  /-- A write of CLEAR in PTP_CNT_CTL clears the PTP counters (R387). -/
  | ptpCntClear (a : RegAccess)
  /-- Returns machine time and PTP_STATUS (R384). -/
  | timeStatus (e : Entry)
  /-- Sets machine time at the next sample boundary (R384). -/
  | timeSet (e : Entry)
  /-- Every tREFI an all-bank refresh is issued on all channels (R394). -/
  | refresh
  /-- Every 16 ms MR4 is read, and the refresh is derated or restored (R395). -/
  | mr4Poll (fast : Bool)
  /-- A write of START begins the next DRAM scrub pass at once (R399). -/
  | dramScrubStart (a : RegAccess)
  /-- The DRAM scrubber completes a pass over all lines (R399). -/
  | dramScrubPass (corrected : Nat) (ues : List LineUe)
  /-- The SRAM scrubber completes a pass over all banks (R390). -/
  | sramScrubPass (errs : List SramErr)
  /-- After DATA_STATE has been 1 for 1 s, channels 0–1 switch to 1600 MT/s (R400). -/
  | fspSwitchDown
  /-- A frequency switch of channels 0–1 completes, and waiting requests proceed (R400). -/
  | fspSwitchDone
  /-- A write of CLEAR in DRAM_CNT_CTL clears the DRAM counters (R410). -/
  | dramCntClear (a : RegAccess)
  /-- A write of CLEAR in SRAM_CNT_CTL clears the SRAM counters (R410). -/
  | sramCntClear (a : RegAccess)
  /-- A write of CLEAR in CRC_CNT_CTL clears CRC_BYTES (R410). -/
  | crcCntClear (a : RegAccess)
  /-- Computes a check value on a host check-value unit (R408). -/
  | diagCrc (e : Entry)
  /-- Runs a destructive memory test on the areas named (R409). -/
  | diagMemTest (e : Entry)
  /-- A write of COMMIT applies the display shadows at the next frame start (R415). -/
  | dispCommit (a : RegAccess)
  /-- A write of RETRAIN restarts panel bring-up from DISP_VDD_EN (R412). -/
  | dispRetrain (a : RegAccess)
  /-- A write through the aperture updates the frame buffer and ends static refresh (R414). -/
  | apertureWrite (a : RegAccess)
  /-- A rising edge on DISP_SYNC_IN starts a frame, or is ignored as too early (R417). -/
  | dispSyncEdge (ns : Nat)
  /-- No edge within 50 ms starts a frame and sets SYNC_LOST (R418). -/
  | syncTimeout (ns : Nat)
  /-- DISP_HPD rises, and DPCD capabilities are read and the link is trained (R412). -/
  | hpdAssert (lanes link : Nat) (adaptive : Bool)
  /-- An HPD IRQ reporting lost lock starts retraining (R412). -/
  | hpdIrq (lockLost : Bool)
  /-- HPD low for more than 2 ms restarts the sequence from the HPD wait (R412). -/
  | hpdLoss
  /-- Link training ends, with video started or LINK_STATE 4 (R412). -/
  | linkTrainingDone (ok : Bool)
  /-- A write of CLEAR in DISP_CNT_CTL clears the display counters (R422). -/
  | dispCntClear (a : RegAccess)
  /-- VIN_12V crossing 10.8 V runs rail sequencing, boot, measurement and the boot ephemeris (R464). -/
  | powerUp (env : BootEnv)
  /-- A failing CONFIRMED bank, or a start timeout, boots the other bank (R465). -/
  | bootFallback (env : BootEnv)
  /-- VIN_12V below 10.8 V starts the power-down sequence (R424). -/
  | vinLow
  /-- PWR_RESET_L low holds the device in reset (R536). -/
  | pwrResetAssert
  /-- PWR_RESET_L rising reruns power-up from step 1 (R536). -/
  | pwrResetRelease (env : BootEnv)
  /-- A rail outside its window for 2 µs raises Eclipse and takes the core die down (R427). -/
  | railFault (rail mv : Nat)
  /-- XTAL_MAIN failing or a PLL losing lock takes the core die down (R426). -/
  | clockFault (pll : Bool)
  /-- A core-die reading of 125 °C or more takes the core die down (R443). -/
  | junctionTrip (entry : Nat) (reading : Int)
  /-- A companion-die reading of 150 °C or more holds the device in reset (R443). -/
  | companionOvertemp (entry : Nat) (reading : Int)
  /-- Both companion entries below 130 °C end the reset, and the device powers up (R443). -/
  | companionCooled (x : CooledStart)
  /-- XTAL_32K stops, and the AON domain switches to a clock derived from XTAL_MAIN (R426). -/
  | xtal32Lost
  /-- 16 µs without a valid flit raise Eclipse of all channels (R17). -/
  | dieLinkLoss
  /-- Returns power, plane and Umbra status (R431). -/
  | powerStatus (e : Entry)
  /-- Checks the conditions, then runs Umbra entry (R433). -/
  | powerUmbra (e : Entry)
  /-- Wakes the device from Umbra, or restarts a core die held off (R435). -/
  | powerWake (e : Entry) (env : BootEnv)
  /-- PWR_WAKE_L low for 10 µs wakes the device from Umbra (R435). -/
  | pwrWakeL
  /-- A rising PERST# wakes the device from Umbra and releases WAKE# (R435). -/
  | perstRelease (b : Bool)
  /-- Expiry of the WAKE_MS timer wakes the device (R435). -/
  | wakeTimer
  /-- All planes are ready after exit; an UMBRA event is posted and the ephemeris copy is re-adopted (R436). -/
  | umbraExitDone (us : Nat)
  /-- A write of CLEAR in PWR_CNT_CTL clears the power counters and every MIN (R445). -/
  | pwrCntClear (a : RegAccess)
  /-- A temperature entry is converted and its HIGH and LOW limits are evaluated (R439). -/
  | sensorConversion (entry : Nat) (reading : Option Int)
  /-- Once per second the rate of rise is evaluated against RISE_MAX (R441). -/
  | riseEvaluation
  /-- A W1C write clears latched breach flags of an entry (R442). -/
  | thmLatchedClear (a : RegAccess)
  /-- A write of CLEAR in THM_CNT_CTL clears breach counters and MAXMIN (R445). -/
  | thmCntClear (a : RegAccess)
  /-- Requests calibration subjects, run now or deferred (R453). -/
  | calRun (e : Entry)
  /-- Loads a head's correction grid, replacing it now or in step 4 (R454). -/
  | calGridLoad (e : Entry)
  /-- Two runs of a subject end and are applied or rejected (R449). -/
  | calRunDone (s : Nat) (run1 run2 : List (List Int))
  /-- A write of CLEAR in CAL_CNT_CTL clears CAL_REJECT_CNT (R458). -/
  | calCntClear (a : RegAccess)
  /-- Requests a signed quote of the measurement registers (R471). -/
  | trustQuote (e : Entry)
  /-- The management core finishes signing a quote and writes it out (R472). -/
  | quoteSigned
  /-- Returns the device certificate (R470). -/
  | trustCert (e : Entry)
  /-- Extends MR7 with the SHA-384 of the data (R470). -/
  | trustExtend (e : Entry)
  /-- Returns update and boot status (R473). -/
  | updStatus (e : Entry)
  /-- Writes data into the bank other than CONFIRMED (R473). -/
  | updWrite (e : Entry)
  /-- Checks the written bank's manifest in three stages (R463). -/
  | updVerify (e : Entry)
  /-- Activates the new bank through the management, control and data-plane phases (R475). -/
  | updActivate (e : Entry)
  /-- Writes the management address for the next power-up (R473). -/
  | updMgmtAddr (e : Entry)
  /-- Enters Nadir mode (R482). -/
  | updNadir (e : Entry)
  /-- The management core runs again after a restart, and held frames are answered (R475). -/
  | mgmtRestartDone
  /-- The standby pair is synchronised, and a Transit follows in an activation (R475). -/
  | standbyReady
  /-- Dispatching resumes after a Transit pause, and a TRANSIT event is posted (R124). -/
  | transitPauseEnd
  /-- 600 s without failure confirm the new bank (R480). -/
  | healthWindowEnd
  /-- A failure in the health window reverts every part to the CONFIRMED bank (R479). -/
  | healthFailure (check : Nat)
  /-- Returns the entry cause, BOOT_STATUS and the last test result (R484). -/
  | nadirStatus (f : NadirFrame)
  /-- Writes data into the Nadir staging area (R484). -/
  | nadirLoad (f : NadirFrame)
  /-- Checks the staging area under R463 (R484). -/
  | nadirVerify (f : NadirFrame)
  /-- Programs the verified image into a bank and sets CONFIRMED to it (R484). -/
  | nadirProgram (f : NadirFrame)
  /-- Tests channel 0 and the tightly coupled memory (R484). -/
  | nadirMemtest (f : NadirFrame) (defect : Option Nat)
  /-- Returns 1,024 bytes of the Tail region (R484). -/
  | nadirTailRead (f : NadirFrame)
  /-- Reruns boot from step 2 without clearing the measurement registers (R483). -/
  | nadirReboot (f : NadirFrame) (env : BootEnv)
  /-- A staged record is programmed to flash while the window is open and FREEZE is clear (R492). -/
  | tailFlush
  /-- Returns Tail status, write position and sequence values (R498). -/
  | tailStatus (e : Entry)
  /-- Sets or clears FREEZE at a safe moment (R498). -/
  | tailFreeze (e : Entry)
  /-- Makes a HOST_NOTE record (R498). -/
  | tailNote (e : Entry)
  /-- Erases the Tail region (R499). -/
  | tailClear (e : Entry)
  /-- The erase ends, FULL clears, and TAIL_CLEARED is written first (R499). -/
  | tailEraseDone
  /-- A write of FREEZE in TAIL_CTL stops or resumes flushing (R495). -/
  | freeze (a : RegAccess)
  /-- A write of BLOCK starts loading that flash block into the port's window (R497). -/
  | tailCursor (a : RegAccess)
  /-- The window buffer is loaded, and READY is set (R497). -/
  | windowLoadDone (port : Nat)
  /-- A write of CLEAR in TAIL_CNT_CTL clears the Tail counters (R503). -/
  | tailCntClear (a : RegAccess)
  /-- ECLIPSE_IN held for 20 ns puts every channel in Eclipse (R505). -/
  | eclipseInRequest
  /-- ECLIPSE_IN stops requesting, which takes no channel out of Eclipse (R505). -/
  | eclipseInRelease
  /-- A write of ECLIPSE_ENTER puts the masked channels in Eclipse (R507). -/
  | eclipseEnter (a : RegAccess)
  /-- A write of ECLIPSE_LEAVE checks the masked channels and accepts or rejects their leave (R510). -/
  | eclipseLeave (a : RegAccess)
  /-- At the next sample the accepted channels leave Eclipse (R511). -/
  | eclipseLeaveEffect
  /-- A write of CLEAR in ECLIPSE_CTL clears ECLIPSE_ENTRY_CNT (R520). -/
  | eclipseCntClear (a : RegAccess)
  /-- A data-plane deadline missed raises Eclipse with WATCHDOG (R508). -/
  | watchdog (unit : WatchUnit)
  /-- A control-pair fault fails over by Transit or restarts the pair (R514). -/
  | ctlFault (cause : Nat) (recordOk : Bool)
  /-- A management-core fault restarts the core on its bank (R515). -/
  | mgmtFault (cause : Nat)
  /-- A Moonlink receiver gains block lock after 64 consecutive blocks with a valid sync header and sets BLOCK_LOCK (R291). -/
  | blockLockGained (n : Nat)
  /-- 200 ms pass after DISP_VDD_EN without DISP_HPD, so LINK_STATE becomes 4, DISP_TRAIN_FAIL_CNT advances and DISP_LINK_FAIL is recorded (R412). -/
  | hpdWaitTimeout
  /-- An on-demand domain that has been idle for 1 ms stops its clock, which shows in PWR_DOMAINS (R430). -/
  | domainClockStop (d : Nat)
  /-- An ARP request for the management port's address is answered (R100). -/
  | arpRequest (sender : Sender) (mac target : Nat)
  /-- An ICMP echo request to the management port is answered (R100). -/
  | icmpEchoRequest (sender : Sender) (target : Nat) (data : List Byte)
  /-- The Perihelion transition pass ends within 300 µs: TRANSITION clears, a suspended diffusion pass resumes and a tick that fell during it starts its pass (R252). -/
  | transitionPassEnd
  /-- Machine time reaches the committed epoch, so PRE_EPOCH clears, SAMPLE_IX starts to advance and sample-driven work begins (R373). -/
  | epochReached
  /-- An edge on a THM_PIN pulse input updates its frequency, duty and count, which the Orrery routes (R93). -/
  | pulseInputEdge (input : Nat) (frequency duty : Int)
  /-- Each voltage-to-frequency input produces a new scaled value and raw frequency at 1 kS/s for the Orrery (R93). -/
  | analogInputSample (input : Nat) (hz : Int)
  /-- The copy of a container from a flash slot or a host buffer finishes, so STAGE becomes LOADED and EPH_STAGE completes (R76). -/
  | ephStageLoaded
  /-- Validation of an EPH_VALIDATE ends (up to 50 ms), so STAGE becomes VALID or REJECTED, BOOT_EPH_REJECT may be written and the command completes (R78). -/
  | ephValidateDone
  /-- A memory test ends (up to 1 s) with OK or SELFTEST_FAIL, and a waiting JOB_LAYER_OPEN with FIRST proceeds (R409). -/
  | diagMemTestDone (defect : Option (Nat × Nat))
  /-- Flash programming for EPH_STORE, EPH_SET_BOOT, UPD_WRITE or UPD_MGMT_ADDR finishes, and the command completes (R76). -/
  | flashWriteDone
  /-- The three-stage manifest check of UPD_VERIFY or UPD_ACTIVATE ends, so STATE becomes 2, or the activation passes to phase 1, or RESULT 4 is given (R474). -/
  | updChecksDone
  /-- Umbra entry completes step 6, so UMBRA_PHASE becomes 2 and PWR_UMBRA_TIME, PWR_UMBRA_CNT and PWR_UMBRA are written (R433). -/
  | umbraEntryDone (us : Nat)
  /-- A control pair restarted without a ready standby runs again and dispatches, and commands in flight complete with WATCHDOG (R514). -/
  | controlRestartDone
  /-- A display frame's active area ends after a sync edge has already come, so the next frame starts late and DISP_SLIP_CNT advances (R417). -/
  | activeAreaEnd (ns : Nat)
  deriving DecidableEq, Repr

end Sys2Proof
end

