-- ==== Sys2Proof/Decode.lean ====
section
/-!
DEFINITION. The opcode table gives no bits to any of its rows: no word spells a command.
-/

namespace Sys2Proof

/-- The command that a word spells: no row of the opcode table gives bits, so none does. -/
def decodeTableWord (_nbits _w : Nat) : Option Instr := none

end Sys2Proof
end

