-- ==== Sys2Proof/Config.lean ====
section
/-!
DEFINITION. What an implementation fixes and the spec does not state, and the free values: constants
with no body, so that nothing can be proved of their values.
-/

namespace Sys2Proof.Config

/-- The free values: applied to the counter that the step reads and advances. -/
opaque freeValue : Nat → Nat

/-- The Waikai update key held in ROM (R463): the point (x, y) on P-384. -/
opaque updateKey : Nat × Nat

/-- The digests of the ROM and of the fuse configuration (R464 step 2). -/
opaque romDigest : Digest
opaque fuseDigest : Digest

/-- The device certificate of the recovery area (R470): at most 1,280 bytes of it are returned. -/
opaque certificate : List Byte

/-- The signature (r, s) of the device key over a digest (R471). -/
opaque quoteSign : Digest → Nat × Nat

/-- The integer arc point within ±1 LSB of the exact one (R170): the offsets −1, 0 or 1 that the
device takes, as a function of the exact point's inputs. -/
opaque arcPick : Int → Int → Int → Int → Int → Nat → Int × Int

/-- DIR of a velocity whose exact value is not an integer (R190): floor or ceiling. -/
opaque dirPick : Int → Int → Bool

/-- The factory values held in fuses (R455): delay-line taps, excitation ratios, and the offset and
scale of the voltage-to-frequency inputs. -/
opaque factoryTaps : Nat → Nat × Nat × Nat
opaque factoryRatio : Nat → Int
opaque factoryVf : Nat → Int × Int

end Sys2Proof.Config
end

