-- ==== Sys2Proof/Machine/Bits.lean ====
section
/-!
DEFINITION. The helpers below everything else: bit fields, little-endian byte lists, signed
reading, and the sparse tables that hold memories in one canonical form.
-/

namespace Sys2Proof.Machine

/-- Bits [hi:lo] of a register word, as a number. -/
def fieldOf (w : W32) (hi lo : Nat) : Nat := w.toNat / 2 ^ lo % 2 ^ (hi + 1 - lo)

/-- Bit `i` of a register word. -/
def bitOf (w : W32) (i : Nat) : Bool := w.getLsbD i

/-- A one-bit field. -/
def b1 (b : Bool) : Nat := if b then 1 else 0

/-- A register word from (value, shift) pairs; each value is below its field's width. -/
def packWord : List (Nat × Nat) → W32
  | [] => 0
  | (v, sh) :: r => (BitVec.ofNat 32 (v * 2 ^ sh)) ||| packWord r

/-- The bits that are set, as a mask of `n` bits. -/
def maskOf (n : Nat) (f : Nat → Bool) : W32 :=
  packWord ((List.range n).map fun i => (b1 (f i), i))

/-- The indices below `n` whose bit is set. -/
def bitsSet (m : W32) (n : Nat) : List Nat := (List.range n).filter fun i => m.getLsbD i

/-- The little-endian bytes of a number. -/
def leBytes : Nat → Nat → List Byte
  | 0, _ => []
  | k + 1, v => BitVec.ofNat 8 v :: leBytes k (v / 256)

/-- The number that little-endian bytes spell. -/
def leNat : List Byte → Nat
  | [] => 0
  | b :: r => b.toNat + 256 * leNat r

/-- The number that big-endian bytes spell. -/
def beNat (l : List Byte) : Nat := l.foldl (fun n b => n * 256 + b.toNat) 0

/-- The big-endian bytes of a number. -/
def beBytes (k v : Nat) : List Byte := (leBytes k v).reverse

/-- `k` bytes of a list from offset `o`, zero beyond its end. -/
def slice (l : List Byte) (o k : Nat) : List Byte :=
  let t := (l.drop o).take k
  t ++ List.replicate (k - t.length) 0

/-- The unsigned number in `k` bytes at offset `o`. -/
def uAt (l : List Byte) (o k : Nat) : Nat := leNat (slice l o k)

/-- A number of `w` bits read in two's complement. -/
def signedOf (w v : Nat) : Int :=
  if v % 2 ^ w < 2 ^ (w - 1) then (v % 2 ^ w : Nat) else ((v % 2 ^ w : Nat) : Int) - (2 ^ w : Nat)

/-- The signed number in `k` bytes at offset `o`. -/
def sAt (l : List Byte) (o k : Nat) : Int := signedOf (8 * k) (uAt l o k)

/-- An integer in `w` bits of two's complement, as a number. -/
def unsignedOf (w : Nat) (z : Int) : Nat := (z % (2 ^ w : Nat)).toNat

/-- Are all bytes zero? -/
def allZero (l : List Byte) : Bool := l.all (· == 0)

/-- The offset of the first byte that is not zero. -/
def firstNonzero (l : List Byte) : Nat := l.findIdx (· != 0)

/-- The signed difference of two sequence numbers of `w` bits (R28, R489, R501). -/
def seqDiff (w a b : Nat) : Int := signedOf w (a + 2 ^ w - b % 2 ^ w)

/-- `z` held between `lo` and `hi`. -/
def clampInt (lo hi z : Int) : Int := if z < lo then lo else if hi < z then hi else z

/-- The entry `i` of a fixed table, or a default beyond its end. -/
def nth {α : Type} {n : Nat} (d : α) (t : Vector α n) (i : Nat) : α := t[i]?.getD d

/-- The fixed table with entry `i` changed; a table has no entry beyond its end. -/
def upd {α : Type} {n : Nat} (t : Vector α n) (i : Nat) (f : α → α) : Vector α n :=
  match t[i]? with
  | some a => t.setIfInBounds i (f a)
  | none => t

/-- Every entry of a fixed table changed, with its index. -/
def updAll {α : Type} {n : Nat} (t : Vector α n) (f : Nat → α → α) : Vector α n :=
  t.mapIdx f

/-- What a sparse table with default `d` reads at `k`. -/
def sget {α : Type} (d : α) : List (Nat × α) → Nat → α
  | [], _ => d
  | (k, a) :: r, i => if i = k then a else sget d r i

/-- A sparse table with `v` written at `i`: the entry is removed when `v` is the default. -/
def sset {α : Type} [DecidableEq α] (d : α) : List (Nat × α) → Nat → α → List (Nat × α)
  | [], i, v => if v = d then [] else [(i, v)]
  | (k, a) :: r, i, v =>
    if i < k then (if v = d then (k, a) :: r else (i, v) :: (k, a) :: r)
    else if i = k then (if v = d then r else (i, v) :: r)
    else (k, a) :: sset d r i v

/-- The canonical form: addresses strictly rising from `lo` on, and no entry equal to the default. -/
def swfFrom {α : Type} [DecidableEq α] (d : α) : Nat → List (Nat × α) → Bool
  | _, [] => true
  | lo, (k, a) :: r => decide (lo ≤ k) && (decide (a ≠ d) && swfFrom d (k + 1) r)

/-- The canonical form of a sparse table. -/
def swf {α : Type} [DecidableEq α] (d : α) (m : List (Nat × α)) : Bool := swfFrom d 0 m

/-- Consecutive entries written from `i` on. -/
def swrite {α : Type} [DecidableEq α] (d : α) (m : List (Nat × α)) : Nat → List α → List (Nat × α)
  | _, [] => m
  | i, v :: r => swrite d (sset d m i v) (i + 1) r

/-- `n` entries from `i` on, read in one walk of a canonical table. -/
def swalk {α : Type} (d : α) : List (Nat × α) → Nat → Nat → List α
  | _, _, 0 => []
  | [], i, n + 1 => d :: swalk d [] (i + 1) n
  | (k, a) :: r, i, n + 1 =>
    if k = i then a :: swalk d r (i + 1) n else d :: swalk d ((k, a) :: r) (i + 1) n

/-- `n` entries from `i` on. -/
def sread {α : Type} (d : α) (m : List (Nat × α)) (i n : Nat) : List α :=
  swalk d (m.filter fun c => decide (i ≤ c.1) && decide (c.1 < i + n)) i n

/-- A table with the entries from `i` to `i + n − 1` back at the default. -/
def serase {α : Type} (m : List (Nat × α)) (i n : Nat) : List (Nat × α) :=
  m.filter fun c => decide (c.1 < i) || decide (i + n ≤ c.1)

/-- A bulk write: the cells outside the range, with the new cells between them. -/
def sbulk {α : Type} [DecidableEq α] (d : α) (m : List (Nat × α)) (i : Nat) (vs : List α) :
    List (Nat × α) :=
  m.filter (fun c => decide (c.1 < i)) ++
    ((vs.zipIdx i).filterMap fun p => if p.1 = d then none else some (p.2, p.1)) ++
    m.filter (fun c => decide (i + vs.length ≤ c.1))

/-- `x` inserted before the first entry it does not follow. -/
def insertBy {α : Type} (le : α → α → Bool) (x : α) : List α → List α
  | [] => [x]
  | y :: r => if le x y then x :: y :: r else y :: insertBy le x r

/-- A list in ascending order, equal entries in their old order. -/
def sortBy {α : Type} (le : α → α → Bool) : List α → List α
  | [] => []
  | x :: r => insertBy le x (sortBy le r)

end Sys2Proof.Machine
end

