-- ==== Sys2Proof/Machine/Crypto.lean ====
section
/-!
DEFINITION. The published check values and signatures the manual names: CRC-32C (R36), CRC-32,
CRC-64, SHA-384 and ECDSA over P-384 (R71, R463). The manual names the standards; their constants
are taken from the standards (PRESUMED, log entry 3).
-/

namespace Sys2Proof.Machine

/-- One step of a reflected CRC of `w` bits. -/
def crcBit (poly : Nat) (c : Nat) : Nat := if c % 2 = 1 then (c / 2) ^^^ poly else c / 2

/-- One byte into a reflected CRC. -/
def crcByte (poly : Nat) (c : Nat) (b : Byte) : Nat :=
  let c := c ^^^ b.toNat
  crcBit poly (crcBit poly (crcBit poly (crcBit poly
    (crcBit poly (crcBit poly (crcBit poly (crcBit poly c)))))))

/-- A reflected CRC over bytes, from a register value, without the final inversion. -/
def crcFold (poly : Nat) (c : Nat) (l : List Byte) : Nat := l.foldl (crcByte poly) c

/-- CRC-32C with the parameters of RFC 3720 (R36). -/
def crc32c (l : List Byte) : W32 := BitVec.ofNat 32 (crcFold 0x82F63B78 0xFFFFFFFF l) ^^^ 0xFFFFFFFF#32

/-- CRC-32 of IEEE 802.3. -/
def crc32 (l : List Byte) : W32 := BitVec.ofNat 32 (crcFold 0xEDB88320 0xFFFFFFFF l) ^^^ 0xFFFFFFFF#32

/-- The initial hash words of SHA-384. -/
def sha384Init : List W64 :=
  [0xcbbb9d5dc1059ed8, 0x629a292a367cd507, 0x9159015a3070dd17, 0x152fecd8f70e5939,
   0x67332667ffc00b31, 0x8eb44a8768581511, 0xdb0c2e0d64f98fa7, 0x47b5481dbefa4fa4]

/-- Round constants of SHA-384, rows 0–19. -/
def sha384K0 : List W64 :=
  [0x428a2f98d728ae22, 0x7137449123ef65cd, 0xb5c0fbcfec4d3b2f, 0xe9b5dba58189dbbc,
   0x3956c25bf348b538, 0x59f111f1b605d019, 0x923f82a4af194f9b, 0xab1c5ed5da6d8118,
   0xd807aa98a3030242, 0x12835b0145706fbe, 0x243185be4ee4b28c, 0x550c7dc3d5ffb4e2,
   0x72be5d74f27b896f, 0x80deb1fe3b1696b1, 0x9bdc06a725c71235, 0xc19bf174cf692694,
   0xe49b69c19ef14ad2, 0xefbe4786384f25e3, 0x0fc19dc68b8cd5b5, 0x240ca1cc77ac9c65]

/-- Round constants of SHA-384, rows 20–39. -/
def sha384K1 : List W64 :=
  [0x2de92c6f592b0275, 0x4a7484aa6ea6e483, 0x5cb0a9dcbd41fbd4, 0x76f988da831153b5,
   0x983e5152ee66dfab, 0xa831c66d2db43210, 0xb00327c898fb213f, 0xbf597fc7beef0ee4,
   0xc6e00bf33da88fc2, 0xd5a79147930aa725, 0x06ca6351e003826f, 0x142929670a0e6e70,
   0x27b70a8546d22ffc, 0x2e1b21385c26c926, 0x4d2c6dfc5ac42aed, 0x53380d139d95b3df,
   0x650a73548baf63de, 0x766a0abb3c77b2a8, 0x81c2c92e47edaee6, 0x92722c851482353b]

/-- Round constants of SHA-384, rows 40–59. -/
def sha384K2 : List W64 :=
  [0xa2bfe8a14cf10364, 0xa81a664bbc423001, 0xc24b8b70d0f89791, 0xc76c51a30654be30,
   0xd192e819d6ef5218, 0xd69906245565a910, 0xf40e35855771202a, 0x106aa07032bbd1b8,
   0x19a4c116b8d2d0c8, 0x1e376c085141ab53, 0x2748774cdf8eeb99, 0x34b0bcb5e19b48a8,
   0x391c0cb3c5c95a63, 0x4ed8aa4ae3418acb, 0x5b9cca4f7763e373, 0x682e6ff3d6b2b8a3,
   0x748f82ee5defb2fc, 0x78a5636f43172f60, 0x84c87814a1f0ab72, 0x8cc702081a6439ec]

/-- Round constants of SHA-384, rows 60–79. -/
def sha384K3 : List W64 :=
  [0x90befffa23631e28, 0xa4506cebde82bde9, 0xbef9a3f7b2c67915, 0xc67178f2e372532b,
   0xca273eceea26619c, 0xd186b8c721c0c207, 0xeada7dd6cde0eb1e, 0xf57d4f7fee6ed178,
   0x06f067aa72176fba, 0x0a637dc5a2c898a6, 0x113f9804bef90dae, 0x1b710b35131c471b,
   0x28db77f523047d84, 0x32caab7b40c72493, 0x3c9ebe0a15c9bebc, 0x431d67c49c100d4c,
   0x4cc5d4becb3e42b6, 0x597f299cfc657e2a, 0x5fcb6fab3ad6faec, 0x6c44198c4a475817]

/-- The 80 round constants of SHA-384. -/
def sha384K : List W64 := sha384K0 ++ sha384K1 ++ sha384K2 ++ sha384K3

/-- One message-schedule word from the 16 before it, newest first. -/
def shaNextW (w : List W64) : W64 :=
  let g i := w.getD i 0
  let x := g 14
  let y := g 1
  let s0 := x.rotateRight 1 ^^^ x.rotateRight 8 ^^^ (x >>> 7)
  let s1 := y.rotateRight 19 ^^^ y.rotateRight 61 ^^^ (y >>> 6)
  g 15 + s0 + g 6 + s1

/-- The message schedule, newest word first, grown by `n` words. -/
def shaSched : Nat → List W64 → List W64
  | 0, w => w
  | n + 1, w => shaSched n (shaNextW w :: w)

/-- The eight working words of one block. -/
structure ShaRegs where
  a : W64
  b : W64
  c : W64
  d : W64
  e : W64
  f : W64
  g : W64
  h : W64
  deriving DecidableEq, Repr

/-- One round. -/
def shaRound (r : ShaRegs) (kw : W64 × W64) : ShaRegs :=
  let s1 := r.e.rotateRight 14 ^^^ r.e.rotateRight 18 ^^^ r.e.rotateRight 41
  let ch := (r.e &&& r.f) ^^^ (~~~r.e &&& r.g)
  let t1 := r.h + s1 + ch + kw.1 + kw.2
  let s0 := r.a.rotateRight 28 ^^^ r.a.rotateRight 34 ^^^ r.a.rotateRight 39
  let mj := (r.a &&& r.b) ^^^ (r.a &&& r.c) ^^^ (r.b &&& r.c)
  { a := t1 + (s0 + mj), b := r.a, c := r.b, d := r.c, e := r.d + t1, f := r.e, g := r.f, h := r.g }

/-- The working words from a list of eight. -/
def shaLoad (l : List W64) : ShaRegs :=
  ⟨l.getD 0 0, l.getD 1 0, l.getD 2 0, l.getD 3 0, l.getD 4 0, l.getD 5 0, l.getD 6 0, l.getD 7 0⟩

/-- One block of 128 bytes into the hash words. -/
def shaBlock (hs : List W64) (blk : List Byte) : List W64 :=
  let w0 := (List.range 16).map fun i => BitVec.ofNat 64 (beNat (slice blk (8 * i) 8))
  let w := (shaSched 64 w0.reverse).reverse
  let r := (sha384K.zip w).foldl shaRound (shaLoad hs)
  List.zipWith (· + ·) hs [r.a, r.b, r.c, r.d, r.e, r.f, r.g, r.h]

/-- `n` blocks. -/
def shaBlocks : Nat → List W64 → List Byte → List W64
  | 0, hs, _ => hs
  | n + 1, hs, l => shaBlocks n (shaBlock hs (l.take 128)) (l.drop 128)

/-- The padded message. -/
def shaPad (l : List Byte) : List Byte :=
  let z := (128 - (l.length + 17) % 128) % 128
  l ++ 0x80#8 :: (List.replicate z 0#8 ++ beBytes 16 (8 * l.length))

/-- SHA-384. -/
def sha384 (l : List Byte) : Digest :=
  let m := shaPad l
  let hs := shaBlocks (m.length / 128) sha384Init m
  BitVec.ofNat 384 ((hs.take 6).foldl (fun n w => n * 2 ^ 64 + w.toNat) 0)

/-- The 48 bytes of a digest, in the order SHA-384 prints them. -/
def digestBytes (d : Digest) : List Byte := beBytes 48 d.toNat

/-- A measurement register extended with a digest (R467). -/
def extendMr (mr d : Digest) : Digest := sha384 (digestBytes mr ++ digestBytes d)

/-- The field prime of P-384. -/
def p384P : Nat := 2 ^ 384 - 2 ^ 128 - 2 ^ 96 + 2 ^ 32 - 1
/-- The group order of P-384. -/
def p384N : Nat :=
  0xFFFFFFFFFFFFFFFFFFFFFFFFFFFFFFFFFFFFFFFFFFFFFFFFC7634D81F4372DDF581A0DB248B0A77AECEC196ACCC52973
/-- The curve constant b of P-384. -/
def p384B : Nat :=
  0xB3312FA7E23EE7E4988E056BE3F82D19181D9C6EFE8141120314088F5013875AC656398D8A2ED19D2A85C8EDD3EC2AEF
/-- The base point of P-384. -/
def p384G : Nat × Nat :=
  (0xAA87CA22BE8B05378EB1C71EF320AD746E1D3B628BA79B9859F741E082542A385502F25DBF55296C3A545E3872760AB7,
   0x3617DE4A96262C6F5D9E98BF9292DC29F8F41DBD289A147CE9DA3113B5F0B8C00A60B1CE1D7E819D7A431D7C90EA0E5F)

/-- Modular power by squaring over `k` bits of the exponent. -/
def powMod (m : Nat) : Nat → Nat → Nat → Nat → Nat
  | 0, _, _, acc => acc
  | k + 1, b, e, acc => powMod m k (b * b % m) (e / 2) (if e % 2 = 1 then acc * b % m else acc)

/-- The inverse modulo a prime of at most 384 bits. -/
def invMod (m a : Nat) : Nat := powMod m 384 (a % m) (m - 2) 1

/-- Point addition on P-384 in affine coordinates; `none` is the point at infinity. -/
def ecAdd : Option (Nat × Nat) → Option (Nat × Nat) → Option (Nat × Nat)
  | none, q => q
  | p, none => p
  | some (x1, y1), some (x2, y2) =>
    let m := p384P
    if x1 = x2 ∧ (y1 + y2) % m = 0 then none
    else
      let l := if x1 = x2 then (3 * x1 * x1 + (m - 3)) * invMod m (2 * y1) % m
        else (y2 + m - y1) * invMod m (x2 + m - x1) % m
      let x3 := (l * l + 2 * m - x1 - x2) % m
      some (x3, (l * (x1 + m - x3) + m - y1) % m)

/-- Scalar multiplication over `k` bits of the scalar. -/
def ecMul : Nat → Nat → Option (Nat × Nat) → Option (Nat × Nat) → Option (Nat × Nat)
  | 0, _, _, acc => acc
  | k + 1, e, p, acc => ecMul k (e / 2) (ecAdd p p) (if e % 2 = 1 then ecAdd acc p else acc)

/-- ECDSA verification over P-384 with SHA-384. -/
def ecdsaVerify (qx qy r s : Nat) (h : Digest) : Bool :=
  let m := p384P
  let n := p384N
  let onCurve := decide (qx < m) && decide (qy < m) &&
    decide (qy * qy % m = (qx * qx * qx + (m - 3) * qx + p384B) % m)
  let w := invMod n s
  let u1 := h.toNat * w % n
  let u2 := r * w % n
  onCurve && (decide (1 ≤ r) && (decide (r < n) && (decide (1 ≤ s) && (decide (s < n) &&
    (match ecAdd (ecMul 384 u1 (some p384G) none) (ecMul 384 u2 (some (qx, qy)) none) with
     | none => false
     | some (x, _) => decide (x % n = r))))))

end Sys2Proof.Machine
end

