-- ==== Sys2Proof/Machine/Parts/Axis.lean ====
section
/-!
DEFINITION. Motion axes and the recoat sequence (ch. 11). Positions are exact rationals in µsteps,
times are samples.
-/

namespace Sys2Proof.Machine

/-- MODE of AX_STATE (R306). -/
inductive AxisMode
  | disabled | idle | move | jog | follow | homing | stopping | recoat
  deriving DecidableEq, Repr

/-- The number of MODE (R306). -/
def AxisMode.num : AxisMode → Nat
  | .disabled => 0 | .idle => 1 | .move => 2 | .jog => 3
  | .follow => 4 | .homing => 5 | .stopping => 6 | .recoat => 7

/-- One phase of a profile: constant jerk from its start on, in units of one sample (R311). It lasts
until the next phase of its plan starts. -/
structure AxPhase where
  at_ : Nat
  p : Rat
  v : Rat
  a : Rat
  j : Rat
  deriving DecidableEq, Repr

/-- A debounced switch (R314): active as `true`. -/
structure Switch where
  raw : Bool := false
  qualified : Bool := false
  window : Bool := false
  deriving DecidableEq, Repr

/-- The stage of a homing run (R316). -/
inductive HomeStage
  | none | away | awayRest | approach | rest | ssi
  deriving DecidableEq, Repr

/-- An action that takes effect at the next tick (R307). -/
inductive AxAction
  | enable (on : Bool)
  | home
  | move (target : Int)
  | recoat (target : Int)
  | jog (vel : Int)
  | follow
  | stop (fast : Bool)
  /-- `keep`: the present motion keeps its old V and A (R313). -/
  | dyn (v a : Nat) (keep : Bool)
  deriving DecidableEq, Repr

/-- An axis (R306–R325). -/
structure Axis where
  mode : AxisMode := .disabled
  /-- Actions accepted since the last tick, in order (R307). -/
  todo : List AxAction := []
  /-- v_feed, v_loop and OFFSET move the axis: not from a limit or deviation stop on until its next motion or
  enabling (R315, R321; log entry 62). -/
  fed : Bool := true
  /-- The plan: phases in order. Before the first one p_plan rests at `rest`. -/
  plan : List AxPhase := []
  rest : Rat := 0
  /-- Parts of the commanded position (R310). -/
  pAdd : Rat := 0
  offset : Int := 0
  /-- p at `pAt`, and p at the next tick boundary (R309). -/
  p : Rat := 0
  pAt : Nat := 0
  pNext : Rat := 0
  /-- AX_POS: the steps emitted. -/
  pos : Int := 0
  target : Int := 0
  vel : Int := 0
  /-- The instant of the last STEP rising edge in ns and the level of DIR (R309). -/
  lastRise : Nat := 0
  dirUp : Bool := false
  /-- Steps of this tick still to come, and delayed ones: rising edge in ns and level of DIR. -/
  due : List (Nat × Bool) := []
  v : Nat := 0
  a : Nat := 0
  /-- V and A that apply from the next motion (R313). -/
  nextDyn : Option (Nat × Nat) := none
  jogVel : Int := 0
  homed : Bool := false
  endCause : Nat := 0
  /-- The END_CAUSE that the axis takes when it comes to rest. -/
  causeAtRest : Nat := 0
  profileKept : Bool := false
  homeStage : HomeStage := .none
  latched : Option (Int × Int) := none
  homeLatch : Int := 0
  limPos : Switch := {}
  limNeg : Switch := {}
  home : Switch := {}
  /-- Encoder count, its zero, and the QUAD levels (R319). -/
  count : Int := 0
  zero : Rat := 0
  prevEnc : Int := 0
  encVel : Int := 0
  ab : Nat := 0
  encZ : Int := 0
  dev : Int := 0
  encValid : Bool := false
  /-- The last SSI value; consecutive invalid ticks; a frame runs (R320, R321). -/
  ssiLast : Option Nat := none
  ssiRun : Bool := false
  ssiNew : Option (Option Nat) := none
  invalidTicks : Nat := 0
  /-- A condition of R321 held in the last tick. -/
  devOver : Bool := false
  /-- FOLLOW: P0, N, the instant of the last edge in ns, and the rate in µsteps per sample (R318). -/
  followP0 : Rat := 0
  followN : Int := 0
  edge0 : Option Nat := none
  followRate : Rat := 0
  /-- The tick at which an axis that entered FOLLOW while it moved has come to rest (R312). -/
  followFrom : Nat := 0
  /-- AX_CFG, AX_HOME_V, AX_HOME_OFS and AX_FOLLOW_CFG. -/
  cfg : W32 := 0x0A0F
  homeV : W32 := 0x2710
  homeOfs : W32 := 0
  followCfg : W32 := 0x0010000A
  chatter : Counter := {}
  limitStop : Counter := {}
  devStop : Counter := {}
  quadErr : Counter := {}
  ssiErr : Counter := {}
  kept : Counter := {}
  softClamp : Counter := {}
  steps : W64 := 0
  deriving DecidableEq, Repr

/-- A move of the recoat sequence: axis and target (R322). -/
structure RecoatMove where
  axis : Nat
  target : Int
  deriving DecidableEq, Repr

/-- STATE of AX_RECOAT_STATUS. -/
inductive RecoatState
  | idle | platform | traverse | return | dwell | failed
  deriving DecidableEq, Repr

/-- The number of STATE in AX_RECOAT_STATUS. -/
def RecoatState.num : RecoatState → Nat
  | .idle => 0 | .platform => 1 | .traverse => 2 | .return => 3 | .dwell => 4 | .failed => 5

/-- The recoat sequence (R322–R324). -/
structure Recoat where
  dwell : Nat := 0
  bidir : Bool := false
  endA : W32 := 0
  endB : W32 := 0
  dose : W32 := 0
  state : RecoatState := .idle
  failAxis : Nat := 0
  failCause : Nat := 0
  /-- DWELL and BIDIR as the running sequence took them (R325). -/
  dwellNow : Nat := 0
  /-- Moves that run, and moves that have ended at their targets. -/
  running : List RecoatMove := []
  /-- Moves of the present step that must be run again after a failure (R323). -/
  failed : List RecoatMove := []
  /-- The step in which the sequence failed. -/
  failState : RecoatState := .idle
  /-- The traverse and the return, still to come, by target. -/
  toGo : List Int := []
  recoater : Nat := 0
  /-- END_A as the running sequence took it. -/
  endANow : Int := 0
  /-- The first sample after the dwell. -/
  dwellEnd : Nat := 0
  /-- The build ended during the sequence (R324). -/
  cancelled : Bool := false
  deriving DecidableEq, Repr

end Sys2Proof.Machine
end

