-- ==== Sys2Proof/Machine/Parts/Cal.lean ====
section
/-!
DEFINITION. Calibration (ch. 18) and the process inputs (R93, types 3 and 4).
-/

namespace Sys2Proof.Machine

/-- A calibration subject (R446, R458). -/
structure CalSubject where
  lastResult : Nat := 0
  streak : Nat := 0
  factory : Bool := true
  /-- Reference readings, by temperature entry (R449, R450). -/
  refs : List (Nat × Int) := []
  /-- Due under R450, and requested under R453. -/
  due : Bool := false
  requested : Bool := false
  /-- The request waits for DATA_STATE 1 (R118). -/
  atEnd : Bool := false
  running : Bool := false
  deriving DecidableEq, Repr

/-- A CAL_RUN that waits for its subjects (R453). -/
structure CalFlight where
  flight : Nat
  waits : W32
  /-- Subjects that were running when the command came: theirs is the run after that one. -/
  late : W32
  accepted : W32
  rejected : W32
  armed : W32
  deriving DecidableEq, Repr

/-- A pending CAL_GRID_LOAD: the head and the grid's bytes (R454). -/
structure GridLoad where
  head : Nat
  bytes : List Byte
  /-- The load waits for DATA_STATE 1 (R118). -/
  atEnd : Bool := false
  deriving DecidableEq, Repr

/-- An analog input: scaled value and raw frequency; a pulse input: frequency, duty and count
(R93). Values are in 1/65,536. -/
structure ProcInput where
  v0 : Int := 0
  v1 : Int := 0
  v2 : Int := 0
  valid : Bool := false
  /-- Subject 4: offset in Hz and scale in Hz per V, in 1/65,536 (R446). -/
  ofs : Int := 0
  scale : Int := 0
  deriving DecidableEq, Repr

/-- The calibration unit. -/
structure Cal where
  cleis : Bool := false
  enabled : W32 := 0x1F
  subj : Vector CalSubject 5 := Vector.replicate 5 {}
  count : Counter := {}
  reject : Counter := {}
  /-- Machine time, in 2^−16 ns, and operating seconds of the last accepted calibration. -/
  lastTime : Nat := 0
  lastOpsec : Nat := 0
  /-- The delay lines' taps 1, 2 and 3 (CAL_DL). -/
  taps : Vector (Nat × Nat × Nat) 32 := Vector.replicate 32 (0, 0, 0)
  /-- Receive phases of the Moonlinks, in 1/64 UI from the phase found in TRAIN; lane taps of the camera ports and those that apply at the
  next frame start (R452), and excitation ratios of REM00–REM15. -/
  phases : Vector Int 32 := Vector.replicate 32 0
  laneTaps : Vector (List Nat) 2 := Vector.replicate 2 []
  laneNext : Vector (Option (List Nat)) 2 := Vector.replicate 2 none
  armed : Vector Bool 2 := Vector.replicate 2 false
  ratios : Vector Int 16 := Vector.replicate 16 0
  flights : List CalFlight := []
  gridLoads : List GridLoad := []
  analog : Vector ProcInput 8 := Vector.replicate 8 {}
  pulse : Vector ProcInput 8 := Vector.replicate 8 {}
  deriving DecidableEq, Repr

end Sys2Proof.Machine
end

