-- ==== Sys2Proof/Machine/Parts/Camera.lean ====
section
/-!
DEFINITION. Bed cameras and the image pipeline (ch. 12).
-/

namespace Sys2Proof.Machine

/-- Exposure and gain of one set: EXP_TIME in µs, and EXP_CCI and GAIN_CCI (R342). -/
structure ExpSet where
  time : Nat := 1000
  expCci : W32 := 0xFFFF0000
  gainCci : W32 := 0xFFFF0000
  deriving DecidableEq, Repr

/-- The register writes of a set: address in [31:16], value in [15:0]; an address of 0xFFFF means none (R342). -/
def ExpSet.writes (v : ExpSet) : List W32 := [v.expCci, v.gainCci].filter fun w => w.toNat / 65536 != 0xFFFF

/-- A generation: its number, its EXP_TIME, and its first frame once known (R342). -/
structure ExpGen where
  gen : W16
  time : Nat
  first : Option Nat
  deriving DecidableEq, Repr

/-- The values of a context (R336, R341). -/
structure CamCtx where
  black : Nat := 0
  dpc : Bool := false
  shading : Bool := false
  ccmOn : Bool := false
  gamma : Bool := false
  /-- CCM0–CCM4 as registers. -/
  ccm : List W32 := [0x1000, 0, 0x1000, 0, 0x1000]
  deriving DecidableEq, Repr

/-- A context: shadows, values in force, and loaded tables. -/
structure CamContext where
  shadow : CamCtx := {}
  live : CamCtx := {}
  /-- (row, column), strictly increasing (R345). -/
  defects : List (Nat × Nat) := []
  /-- 289 gains in UQ2.14. -/
  gains : List Nat := []
  deriving DecidableEq, Repr

/-- A frame from its trigger until its delivery (R328–R335). -/
structure CamFrame where
  number : Nat
  gen : W16
  expUs : Nat
  trig : Nat
  /-- The exposure window, in samples. -/
  winStart : Nat
  winEnd : Nat
  opened : Bool := false
  closed : Bool := false
  fs : Nat := 0
  fe : Nat := 0
  /-- STATUS bits (R335). -/
  short : Bool := false
  long : Bool := false
  crcErr : Bool := false
  overrun : Bool := false
  missing : Bool := false
  noSlot : Bool := false
  hdrErr : Bool := false
  wcErr : Bool := false
  extra : Nat := 0
  /-- Image lines received, as raw pixel values, and embedded lines as received. -/
  lines : List (List Nat) := []
  emb : List (List Byte) := []
  /-- Where its frame start and each of its lines stand in the order of arrival (R339), and the lines
  that the pipeline has used. -/
  order : Nat := 0
  stamps : List Nat := []
  done : Nat := 0
  ctx : Nat := 0
  vals : CamCtx := {}
  defects : List (Nat × Nat) := []
  gains : List Nat := []
  deriving DecidableEq, Repr

/-- A delivered frame: its record, statistics and pixels (R334, R337, R344). -/
structure CamStored where
  frame : CamFrame
  hist : List Nat
  /-- Zone means; `none` for a zone with no received pixel (R338). -/
  zones : List (Option Nat)
  pixels : Option (List (List Nat))
  deriving DecidableEq, Repr

/-- An exposure window that has not ended, with its frame (R328). It outlasts a frame that closes early. -/
structure CamWin where
  frame : Nat
  start : Nat
  fin : Nat
  deriving DecidableEq, Repr

/-- A CAM_TRIGGER with edges still to come: its flight, the sensors with their edges, the mask of the sensors
triggered and the edge of the first of them (R329, R345). -/
structure CamWait where
  flight : Nat
  edges : List (Nat × Nat)
  mask : Nat := 0
  at_ : Nat := 0
  deriving DecidableEq, Repr

/-- A sensor (R328–R348). -/
structure Sensor where
  trig : W32 := 0x00640000
  period : W32 := 4000000
  shadow : ExpSet := {}
  /-- The pending set, and the set being written over CCI (R342). -/
  pending : Option ExpSet := none
  writing : Option ExpSet := none
  /-- The set that the sensor was last given, for the write back of R343. -/
  inForce : ExpSet := {}
  /-- The register addresses whose write of the set has been retried (R343). -/
  retried : List Nat := []
  genLast : W16 := 0
  /-- Generations that are in force or will be, oldest first. -/
  gens : List ExpGen := [{ gen := 0, time := 1000, first := some 0 }]
  genFrame : Option Nat := some 0
  /-- The last frame number given, and the last delivered. -/
  lastFrame : Nat := 0
  delivered : Nat := 0
  deliveredGen : W16 := 0
  /-- The CAM_TRIG pin is high before this sample (R328). -/
  trigUntil : Nat := 0
  wins : List CamWin := []
  /-- Frames that a CAM_FRAME_READ is copying (R344). -/
  copying : List Nat := []
  /-- The outstanding frame, and closed frames not yet delivered. -/
  cur : Option CamFrame := none
  closing : List CamFrame := []
  stored : List CamStored := []
  /-- The sources of type 6 (R338): the last delivered frame's zones. -/
  zonesValid : Bool := false
  slots : Nat := 0
  cciErr : Bool := false
  shortCnt : Counter := {}
  longCnt : Counter := {}
  missingCnt : Counter := {}
  skipCnt : Counter := {}
  overrunCnt : Counter := {}
  deriving DecidableEq, Repr

/-- The counters of a camera port. -/
structure CamPort where
  crc : Counter := {}
  hdr : Counter := {}
  eccFix : Counter := {}
  unexp : Counter := {}
  deriving DecidableEq, Repr

/-- The unit that the pipeline runs (R339). -/
structure CamUnit where
  sensor : Nat
  frame : Nat
  lines : Nat
  deriving DecidableEq, Repr

/-- The cameras. -/
structure Camera where
  ports : Vector CamPort 2 := Vector.replicate 2 {}
  sensors : Vector Sensor 8 := Vector.replicate 8 {}
  contexts : Vector CamContext 8 := Vector.replicate 8 {}
  storeOff : Bool := false
  /-- Context of the unit that runs, or ran last (PIPE_CTX). -/
  pipeCtx : Nat := 0
  unit : Option CamUnit := none
  /-- CAM_TRIGGERs with edges to come. -/
  waiting : List CamWait := []
  /-- Frame starts and lines that have arrived, for the order of R339. -/
  order : Nat := 0
  bufPeak : Nat := 0
  deriving DecidableEq, Repr

end Sys2Proof.Machine
end

