-- ==== Sys2Proof/Machine/Parts/Display.lean ====
section
/-!
DEFINITION. The display output (ch. 16). The frame buffer is a sparse list of bytes over zero.
-/

namespace Sys2Proof.Machine

/-- The shadowed display registers (R415). -/
structure DispRegs where
  source : Bool := false
  staticDiv : Nat := 0
  base : Nat := 0
  cx : Nat := 0
  cy : Nat := 0
  tBase : Nat := 0
  tShift : Nat := 0
  zoom : Nat := 1
  palette : List (Nat × Nat) := []
  deriving DecidableEq, Repr

/-- LINK_STATE of DISP_STATUS (R412). -/
inductive DispLink
  | off | awaitHpd | training | active | failed
  deriving DecidableEq, Repr

/-- The number of LINK_STATE. -/
def DispLink.num : DispLink → Nat
  | .off => 0 | .awaitHpd => 1 | .training => 2 | .active => 3 | .failed => 4

/-- The display output. Times are machine time in ns. -/
structure Display where
  link : DispLink := .off
  asyncOk : Bool := false
  static_ : Bool := false
  syncOver : Bool := false
  syncLost : Bool := false
  shadow : DispRegs := {}
  live : DispRegs := {}
  commit : Bool := false
  /-- STATIC_DIV and BACKGROUND of an adoption that waits for a frame start (R421). -/
  bgNext : Option (Nat × Nat) := none
  /-- BACKGROUND in force. -/
  background : Nat := 0
  window : Nat := 0
  buffer : List (Nat × Byte) := []
  vdd : Bool := false
  backlight : Bool := false
  /-- Training has completed; video starts with the next frame (R412). -/
  video : Bool := false
  lastEdge : Option Nat := none
  frameAt : Nat := 0
  /-- When the wait for HPD began (R412). -/
  waitFrom : Nat := 0
  /-- A frame is on the output; an accepted edge waits for its active area to end (R417). -/
  running : Bool := false
  edgeWaits : Bool := false
  /-- Consecutive frames that have passed with no commit applied and no write into the picture, before the one on
  the output; accepted edges since that one; and whether a commit applied at its start, or a write came since
  (R419). -/
  quiet : Nat := 0
  edges : Nat := 0
  applied : Bool := false
  touched : Bool := false
  /-- Words of the frame buffer, by byte offset, that the frame on the output could not read (R389). -/
  lost : List Nat := []
  frame : W32 := 0
  period : W32 := 0
  underrun : Counter := {}
  slip : Counter := {}
  syncMiss : Counter := {}
  trainFail : Counter := {}
  deriving DecidableEq, Repr

end Sys2Proof.Machine
end

