-- ==== Sys2Proof/Machine/Parts/Jobs.lean ====
section
/-!
DEFINITION. Track words, the atlas, pools, track queues and layers (ch. 05).
-/

namespace Sys2Proof.Machine

/-- TYPE of a track word (R135). -/
inductive WType
  | mark | jump | poly | arc | dot | wait | seam | param | sync
  deriving DecidableEq, Repr

/-- A decoded track word (R135–R137). A word that is not extended carries START_SCALE and END_SCALE
0x8000 and Z_END and TAG 0. -/
structure TrackWord where
  ty : WType
  ext : Bool := false
  /-- FLAGS bits 16 and 17 of W0. -/
  f16 : Bool := false
  f17 : Bool := false
  atlas : Nat := 0
  w1 : W32 := 0
  w2 : W32 := 0
  w3 : W32 := 0
  startScale : Nat := 0x8000
  endScale : Nat := 0x8000
  zEnd : Int := 0
  tag : W32 := 0
  deriving DecidableEq, Repr

/-- An atlas entry (R155). Every entry reads zero after power-up. -/
structure AtlasEntry where
  valid : Bool := false
  loopOn : Bool := false
  ffOn : Bool := false
  skyOn : Bool := false
  power : Nat := 0
  markSpeed : Nat := 0
  jumpSpeed : Nat := 0
  onDelay : Int := 0
  offDelay : Int := 0
  polyDelay : Nat := 0
  settle : Nat := 0
  runIn : Nat := 0
  runOut : Nat := 0
  focus : Int := 0
  spot : Nat := 0
  cls : Nat := 0
  set : Nat := 0
  setpoint : Int := 0
  curve : Nat := 0
  deriving DecidableEq, Repr

/-- A word on its way through a pool: its byte offset in the block, the start point R548 gives it,
the PARAM state in force at it (R145) and, for the remainder of a seam cut, the taper it starts
with (R228, R229). -/
structure Item where
  word : TrackWord
  ofs : Nat
  start : Int × Int := (0, 0)
  speedScale : Nat := 0x8000
  powerScale : Nat := 0x8000
  /-- VSEQ, once the pool has given the word out (R146). -/
  vseq : Option W32 := none
  pool : Nat := 0
  /-- The descriptor that the word belongs to, by its command's number. -/
  desc : Nat := 0
  /-- An uncorrectable error lies in or before this word's staged line (R154). -/
  bad : Bool := false
  /-- First word of a seam remainder (R228); OVERLAP of the extension of a seam cut (R227); and the
  OVERLAP over which the word tapers, 0 without TAPER (R229). -/
  remainder : Bool := false
  ext : Option Nat := none
  taper : Nat := 0
  /-- The rest of a stroke ended for its tiles: it runs without skywriting (R196). -/
  noSky : Bool := false
  /-- The atlas entry the word runs with, once an atlas write has fixed it (R157). -/
  fixed : Option AtlasEntry := none
  deriving DecidableEq, Repr

/-- An accepted pool descriptor on its track queue (R147–R150). -/
structure Desc where
  flight : Nat
  layer : W32
  dseq : W32
  /-- Words not yet given out, in block order. -/
  items : List Item
  /-- Words given out and not yet done. -/
  out : Nat := 0
  /-- Vectors executed, the engines that executed them, and the last output sample. -/
  executed : Nat := 0
  engines : W32 := 0
  last : Nat := 0
  /-- The first failure: code and offset of the first word not executed. -/
  fail : Option (Code × Nat) := none
  staged : Bool := false
  /-- The vectors of the block, and the atlas entries that they name (R158). -/
  total : Nat := 0
  names : List Nat := []
  /-- The 16-byte units of the block. -/
  units : Nat := 0
  /-- The completion is posted; control words behind the last vector may still run (R149, R150). -/
  told : Bool := false
  deriving DecidableEq, Repr

/-- How far the blocks of one layer have come in a pool: whether the next stroke must follow a JUMP (R139 rule 4,
R511), and the last SYNC TAG (R139 rule 6). -/
structure LayerScan where
  layer : W32
  need : Bool := true
  tag : Option W32 := none
  deriving DecidableEq, Repr

/-- A pool and its track queue (R143–R149). -/
structure Pool where
  /-- R143's number: 0–31 exclusive, 0x100 + z overlap. -/
  num : Nat
  queue : List Desc := []
  expect : W32 := 0
  vseq : W32 := 0
  speedScale : Nat := 0x8000
  powerScale : Nat := 0x8000
  /-- The pool end point (R548); `none` before the first vector. -/
  endPt : Option (Int × Int) := none
  /-- The open layers that have sent blocks. -/
  scans : List LayerScan := []
  /-- The layer of the last vector accepted, and whether that vector is a JUMP (R139 rule 4). -/
  lastLayer : W32 := 0
  lastJump : Bool := false
  /-- Overlap pools: 16-byte units from the pool's head staged in each engine's window (R152). -/
  windows : List (Nat × Nat) := []
  /-- Overlap pools: samples the head take has stood without a grant (R225), and its escalation. -/
  headAge : Nat := 0
  escalated : Bool := false
  deriving DecidableEq, Repr

/-- A layer opened by JOB_LAYER_OPEN (R159, R160). -/
structure Layer where
  num : W32
  first : Bool
  final : Bool
  recoat : Bool
  image : Bool
  drop : Nat
  closed : Bool := false
  deriving DecidableEq, Repr

/-- The step of the Syzygy sequence (R162, R163). -/
inductive Syzygy
  | none | waitOpen | recoat | image | transition | commits | start
  deriving DecidableEq, Repr

/-- An atlas write that waits for its switch sample (R157). -/
structure AtlasSwitch where
  at_ : Nat
  flight : Nat
  entries : List (Nat × AtlasEntry)
  deriving DecidableEq, Repr

/-- Builds, layers, pools and the atlas. -/
structure JobState where
  building : Bool := false
  /-- The build ends once the heads are parked (R165). -/
  ending : Bool := false
  layers : List Layer := []
  /-- The layer whose exposure runs; its common start has passed. -/
  running : Option W32 := none
  lastOpened : Option W32 := none
  finalOpened : Bool := false
  syzygy : Syzygy := .none
  /-- The sample at which the running Syzygy step ends or the common start stands. -/
  stepEnd : Nat := 0
  t0 : Nat := 0
  /-- The image step (R330): the sensors still to trigger, and those whose windows are open. -/
  imageLeft : List Nat := []
  /-- Sensor and frame of each window of the image step that is still to close. -/
  imageOpen : List (Nat × Nat) := []
  /-- Exclusive pools that held a descriptor of the new layer when step 4 began (R162). -/
  startPools : List Nat := []
  /-- The first non-OK code among a layer's descriptors (R161), by layer. -/
  layerStatus : List (W32 × Code) := []
  pools : List Pool := []
  atlas : List (Nat × AtlasEntry) := []
  atlasSwitches : List AtlasSwitch := []
  /-- JOB_LAYER_OPEN with FIRST that waits for a memory test (R409), with its layer. -/
  waitingOpen : Option (Nat × Layer) := none
  deriving DecidableEq, Repr

end Sys2Proof.Machine
end

