-- ==== Sys2Proof/Machine/Parts/Engine.lean ====
section
/-!
DEFINITION. Scan engines, their plans and the Conjunction arbiter (ch. 06, 07). Positions are exact
rationals in coordinate LSB; edge times are integers of 250 ps from sample 0.
-/

namespace Sys2Proof.Machine

/-- A point of the command path. -/
abbrev Pt := Rat × Rat

/-- How the command moves along a segment: at rest, on a straight line at constant speed, on the
rising or falling ramp of R172, or on an arc about a centre by a sweep in radians. -/
inductive SegKind
  | rest | line | acc | dec
  | arc (cx cy : Int) (sweep : Rat)
  deriving DecidableEq, Repr

/-- One segment of a plan, from sample boundary `a` to `b`. -/
structure Seg where
  a : Nat
  b : Nat
  kind : SegKind
  p0 : Pt
  p1 : Pt
  /-- The word it belongs to, by position in the motion. -/
  word : Nat
  /-- A run-in or run-out (R175). -/
  sky : Bool := false
  /-- A polygon stop (R180). -/
  stop : Bool := false
  /-- A settle or other rest before the stroke. -/
  settle : Bool := false
  deriving DecidableEq, Repr

/-- A word inside a motion: the item, the atlas entry it runs with, the samples it spans. -/
structure MWord where
  item : Item
  entry : AtlasEntry
  /-- Sample at which the word starts, and samples it lasts (R169, R170). -/
  wa : Nat := 0
  wn : Nat := 0
  /-- First output sample, and the sample after the last output sample (R171). -/
  firstOut : Nat := 0
  doneAt : Nat := 0
  /-- The term added to FOCUS at its start and end (R137). -/
  zStart : Rat := 0
  zEnd : Rat := 0
  /-- The part of the word that runs: below 1 for the extension of a seam cut (R227). -/
  span : Rat := 1
  /-- Its speed was clamped (R168). -/
  clamped : Bool := false
  deriving DecidableEq, Repr

/-- A motion from one hold point to the next (R213). -/
structure Motion where
  t0 : Nat
  fin : Nat
  start : Pt
  finPt : Pt
  segs : List Seg := []
  words : List MWord := []
  /-- Gate rise and fall of the stroke, in 250 ps from sample 0, as they appear on the pin. -/
  rise : Option Int := none
  fall : Option Int := none
  /-- The first word of the stroke, by position; `none` for a jump alone. -/
  opener : Option Nat := none
  /-- The end of the command, before the wait for the gate fall (R179). -/
  cmdEnd : Nat := 0
  /-- The stroke would emit a pulse below 1 ns (R179). -/
  noPulse : Nat := 0
  skyShort : Nat := 0
  gridClamp : Nat := 0
  /-- What it was planned from: its words, the gate fall before it and the Z_END reached (R203). -/
  items : List Item := []
  prevFall : Option Int := none
  zPrev : Rat := 0
  /-- Words whose last output sample has passed. -/
  nDone : Nat := 0
  /-- Parking under R205. -/
  park : Bool := false
  deriving DecidableEq, Repr

/-- What an engine waits for at a stroke boundary. -/
inductive EngWait
  | none
  /-- WAIT until the sample (R141). -/
  | wait (until_ : Nat)
  /-- SYNC with MASK and TAG (R142). -/
  | sync (mask : W32) (tag : W32)
  /-- Starved under R32, or waiting for tiles. -/
  | starved
  /-- A SYNC word has just let the engine pass: the motion behind it may start in the next sample. -/
  | passed
  /-- Inner wait under R196: the rest of the stroke waits for its tiles. -/
  | inner
  deriving DecidableEq, Repr

/-- A hold (R215): its start, the engine that blocks it and the rule that failed last. -/
structure HoldSt where
  start : Nat
  blocker : Nat
  rule : Nat
  deriving DecidableEq, Repr

/-- A pending hold: the arrival of the stroke to be held, the engine that blocks it and the rule (R215). -/
structure PendHold where
  at_ : Nat
  blocker : Nat
  rule : Nat
  deriving DecidableEq, Repr

/-- The setpoint record of a sample (R201). -/
structure SetRec where
  x : Int := 0
  y : Int := 0
  z : Int := 0
  gate : Bool := false
  edgeOn : Option Nat := none
  edgeOff : Option Nat := none
  sky : Bool := false
  loop : Bool := false
  hold : Bool := false
  park : Bool := false
  eclipse : Bool := false
  power : Nat := 0
  spot : Nat := 0
  atlas : Nat := 0
  dir : Nat := 0
  vseq : W32 := 0
  /-- The rounded command position and the class of the spot, for R208, R209 and the lookups. -/
  px : Int := 0
  py : Int := 0
  cls : Nat := 0
  /-- A word of a plan stands behind the record. -/
  hasWord : Bool := false
  /-- Exposing in this sample (R207). -/
  exposing : Bool := false
  ff : Nat := 0x8000
  loopF : Nat := 0x8000
  pool : Nat := 0
  deriving DecidableEq, Repr

/-- A scan engine. -/
structure Engine where
  pos : Pt := (0, 0)
  cur : Option Motion := none
  /-- The sample at which the motion in progress was committed. -/
  commitAt : Nat := 0
  /-- Ended motions that exposed in the present slice, with their commit samples (R210). -/
  recent : List Motion := []
  /-- Words and takes in the plan after the motion in progress. -/
  queue : List Item := []
  /-- Z_END of the last vector (R137). -/
  zLast : Rat := 0
  /-- The focus offset h of the last command (R186). -/
  focus : Rat := 0
  wait : EngWait := .none
  /-- The engine of a running layer stands at rest without a staged word (R32). -/
  starving : Bool := false
  held : Option HoldSt := none
  /-- A pending hold (R215). -/
  pend : Option PendHold := none
  /-- The arbiter released the engine: its motion starts in the next sample (R218). -/
  release : Bool := false
  escalated : Bool := false
  candidate : Bool := false
  edges : List (Int × Bool) := []
  lastFall : Option Int := none
  gate : Bool := false
  /-- LASER_GATE: its level at the end of the sample, and its edges in it: level, ns and delay-line taps (R183, R184). -/
  pin : Bool := false
  pinEdges : List (Bool × Nat × Nat) := []
  dir : Nat := 0
  power : Nat := 0
  sr : SetRec := {}
  parked : Bool := false
  /-- The highest SYNC TAG reached in this layer (R142). -/
  syncTag : Option W32 := none
  /-- The last records' samples, DIR and gate, newest first, at most 512 (R244). -/
  hist : List (Nat × Nat × Bool) := []
  /-- The tiles in the cache, the most recently used first; those requested, oldest first; and the tokens of the
  tile fetcher (R191–R193, R403). -/
  tiles : List (Nat × Nat) := []
  requested : List (Nat × Nat) := []
  tokens : Nat := 16
  focusGain : W32 := 0
  starve : Counter := {}
  innerWait : Counter := {}
  skyShort : Counter := {}
  gridClamp : Counter := {}
  noPulse : Counter := {}
  speedClamp : Counter := {}
  vectors : W64 := 0
  gateOn : W64 := 0
  starveTime : W64 := 0
  syncWait : W64 := 0
  -- the arbiter's per-engine registers
  blocker : Nat := 0
  holdStart : W32 := 0
  holdMax : Counter := {}
  holds : Counter := {}
  holdTime : W64 := 0
  takes : W64 := 0
  /-- Of the running layer, for its summary (R500): longest hold, swaps and trips of the power loop. -/
  layerHold : Nat := 0
  loopSwaps : Nat := 0
  loopTrips : Nat := 0
  deriving DecidableEq, Repr

/-- A hold-log entry: W0 to W4 (R234). -/
structure HoldLog where
  w0 : W32
  w1 : W32
  w2 : W32
  w3 : W32
  w4 : W32
  deriving DecidableEq, Repr

/-- The Conjunction arbiter. -/
structure Arbiter where
  /-- L mod 32 of the running layer: the engine of rank 0 (R220). -/
  rank0 : Nat := 0
  tailMin : W32 := 0
  hold : Counter := {}
  escalate : Counter := {}
  unresolved : Counter := {}
  violation : Counter := {}
  seamCut : Counter := {}
  seamClamp : Counter := {}
  forced : Counter := {}
  takes : W64 := 0
  holdTime : W64 := 0
  log : List HoldLog := []
  dropped : W16 := 0
  /-- Pairs already recorded as unresolved in this layer (R216). -/
  unresolvedPairs : List (Nat × Nat) := []
  /-- Pairs of strokes in conflict, by engine and commit sample, counted once (R216). -/
  unresolvedNow : List ((Nat × Nat) × (Nat × Nat)) := []
  /-- Candidates left untried in the last sample (R223). -/
  untried : List Nat := []
  deriving DecidableEq, Repr

end Sys2Proof.Machine
end

