-- ==== Sys2Proof/Machine/Parts/Halo.lean ====
section
/-!
DEFINITION. Halo (ch. 13).
-/

namespace Sys2Proof.Machine

/-- A fade in progress (R352): from `d0` to `d1` in `k` steps, of which `step` have run. -/
structure HaloFade where
  d0 : Nat
  d1 : Nat
  k : Nat
  step : Nat
  exp : Bool
  /-- CURRENT that applies at step 1; `none` with KEEP_CURRENT. -/
  current : Option Nat
  deriving DecidableEq, Repr

/-- The fault that a channel latches (R355, R357, R358). -/
inductive HaloFault
  | none | opened | shortSupply | nshort
  deriving DecidableEq, Repr

/-- A Halo channel (R349–R361). -/
structure HaloCh where
  /-- CURRENT in force, and DUTY_NOW. -/
  current : Nat := 0
  dutyNow : Nat := 0
  /-- The DUTY of HALO_CH_LEVEL. -/
  duty : Nat := 0
  /-- DUTY and CURRENT that apply at the start of the next PWM period (R349, R352). -/
  nextDuty : Option Nat := none
  nextCurrent : Option Nat := none
  fade : Option HaloFade := none
  fault : HaloFault := .none
  /-- Held off until FAULT is cleared (R357, R358). -/
  off : Bool := false
  strobeCut : Bool := false
  budget : Bool := false
  /-- On-time of the interval in Halo clock counts of 25 ns, but for a running strobe (R354). -/
  onTime : Nat := 0
  /-- The sample at which the running strobe began, or the interval if later. -/
  strobeSince : Option Nat := none
  /-- The sample at which the strobe wire rose (R353). -/
  wireSince : Option Nat := none
  /-- Pulses of the PWM that have not ended or not been counted, from and to, in Halo clock counts of 25 ns since
  SAMPLE_IX 0 (R350). -/
  pulses : List (Nat × Nat) := []
  /-- The samples of the last strobe's end, of the last checked pulse, and of the last one that passed,
  the first and the last within 20 s (R355). -/
  lastStrobe : Option Nat := none
  lastCheck : Option Nat := none
  lastPass : Option Nat := none
  fails : Nat := 0
  stretchDue : Bool := false
  vsink : W16 := 0
  deriving DecidableEq, Repr

/-- The Halo unit. -/
structure Halo where
  ch : Vector HaloCh 24 := Vector.replicate 24 {}
  ntestPending : Bool := false
  ntestRun : Bool := false
  ntestValid : Bool := false
  shorted : W32 := 0
  vledMeasured : W16 := 0
  /-- The EXPOSING wire and the strobe wires of the sensors (R353), by sensor. -/
  exposing : W32 := 0
  strobing : W32 := 0
  openCnt : Counter := {}
  shortCnt : Counter := {}
  budgetCnt : Counter := {}
  stretchCnt : Counter := {}
  deriving DecidableEq, Repr

end Sys2Proof.Machine
end

