-- ==== Sys2Proof/Machine/Parts/Link.lean ====
section
/-!
DEFINITION. Moonlinks (ch. 10).
-/

namespace Sys2Proof.Machine

/-- STATE of ML_STATUS (R290). -/
inductive LinkState
  | off | detect | train | lock | caps | active | heldOut | test | backoff
  deriving DecidableEq, Repr

/-- The number of STATE in ML_STATUS (R290). -/
def LinkState.num : LinkState → Nat
  | .off => 0 | .detect => 1 | .train => 2 | .lock => 3 | .caps => 4
  | .active => 5 | .heldOut => 6 | .test => 7 | .backoff => 8

/-- The fields of a CAPS message that the device reads (R294). -/
structure CapsMsg where
  vendor : Nat := 0
  model : Nat := 0
  fw : Nat := 0
  caps : W32 := 0
  xyFs : W32 := 0
  zFs : W32 := 0
  focusGain : W32 := 0
  turnaround : Nat := 0
  roiMax : Nat := 0
  kfpsMax : Nat := 0
  farLoop : Bool := false
  pdBits : Nat := 0
  deriving DecidableEq, Repr

/-- A Moonlink (R290, R299–R305). -/
structure Link where
  state : LinkState := .off
  reason : Nat := 0
  powerZeroed : Bool := false
  headReady : Bool := false
  frameLock : Bool := false
  blockLock : Bool := false
  /-- TEST of ML_STATUS: the loopback running (R302). -/
  test : Nat := 0
  /-- A LOOP_REQ that waits for LOOP_ACK (R303). -/
  loopWait : Bool := false
  /-- INJECT inverts one bit of the next pattern word (R302). -/
  inject : Bool := false
  /-- Failed attempts since the count started (R290). -/
  attempts : Nat := 0
  /-- This BACKOFF ends the third failed attempt (R290). -/
  lastTry : Bool := false
  /-- The one-way delay d in UI (R292). -/
  d : Int := 0
  /-- The last valid CAPS message (R305). -/
  caps : CapsMsg := {}
  /-- SEQ of the last good frame, and the runs of R300. -/
  lastSeq : Option W16 := none
  badRun : Nat := 0
  dnErrRun : Nat := 0
  /-- Fields 4–7 of source type 1: ACT_X, ACT_Y, ACT_Z, TEMP (R93, R288). -/
  pd1a : Nat := 0
  pd1b : Nat := 0
  pd2a : Nat := 0
  pd2b : Nat := 0
  actX : Int := 0
  actY : Int := 0
  actZ : Int := 0
  temp : Int := 0
  upCrc : Counter := {}
  upMiss : Counter := {}
  dnErr : Counter := {}
  bulkErr : Counter := {}
  loss : Counter := {}
  retrain : Counter := {}
  testErr : Counter := {}
  testBits : W64 := 0
  /-- The blocks that the transmitter sends in the present sample, before scrambling; none while it is idle (R287,
  R290). -/
  down : List BulkBlock := []
  /-- TRAIN: the block counter, and the own phase found (R283, R290). -/
  trainCnt : Nat := 0
  phaseOk : Bool := false
  /-- Start blocks in a row whose SEQ rises by 1, and the SEQ of the last (R291). -/
  lockRun : Nat := 0
  lockSeq : W16 := 0
  /-- The side channel (R289): messages that wait for a slot, the one of the present slot, the bytes received in the
  present slot, and the last message received whole. -/
  sideOut : List (List Byte) := []
  sideTx : List Byte := []
  sideRx : List Byte := []
  sideIn : Option (List Byte) := none
  /-- A far-end loopback has ended and its LOOP_REQ 0 is still to be sent (R303). -/
  leaving : Bool := false
  /-- The PRBS-31 generator, and the checker with the bits it holds (R302). -/
  prbs : Nat := 0x7FFFFFFF
  chk : Nat := 0
  chkLen : Nat := 0
  deriving DecidableEq, Repr

end Sys2Proof.Machine
end

