-- ==== Sys2Proof/Machine/Parts/Melt.lean ====
section
/-!
DEFINITION. Melt-pool units and Perihelion (ch. 08).
-/

namespace Sys2Proof.Machine

/-- MP_CFG and MP_CFG2 (R256). -/
structure RoiCfg where
  black : Nat := 0
  thresh : Nat := 256
  spatterTh : Nat := 512
  coreR : Nat := 16
  deriving DecidableEq, Repr

/-- Fields 0–7 of source type 2 (R243); the centroid fields are signed Q8.8. -/
structure RoiMetrics where
  area : Nat := 0
  length : Nat := 0
  width : Nat := 0
  cx : Int := 0
  cy : Int := 0
  peak : Nat := 0
  mean : Nat := 0
  spatter : Nat := 0
  deriving DecidableEq, Repr

/-- One sample's photodiode codes, with the gate level in 125 ns half samples (R235, R237). -/
structure PdSample where
  ix : Nat
  l1a : Nat
  l1b : Nat
  l2a : Nat
  l2b : Nat
  deriving DecidableEq, Repr

/-- A record as the period unit needs it: gate at the end of the sample and its edges (R237). -/
structure GateRec where
  ix : Nat
  gate : Bool
  on : Option Nat
  off : Option Nat
  deriving DecidableEq, Repr

/-- An ROI frame on its way (R298): bytes 1–7 of its ROI_START, the configuration at its first block (R243), the
payloads of its pixel blocks, whether it is damaged, and the bytes of its ROI_END. -/
structure RoiIn where
  start : List Byte := []
  cfg : RoiCfg := {}
  blocks : List W64 := []
  bad : Bool := false
  endBytes : List Byte := []
  deriving DecidableEq, Repr

/-- A channel's melt-pool unit. -/
structure MeltCh where
  cfg : RoiCfg := {}
  ratioMin : Nat := 256
  gateLag : Nat := 2
  /-- RATIO_MIN and GATE_LAG in force in the running period, and in the one before it (R256). -/
  ratioMinNow : Nat := 256
  gateLagNow : Nat := 2
  ratioMinPast : Nat := 256
  gateLagPast : Nat := 2
  ratioHeld : Bool := false
  noDir : Bool := false
  dark : Bool := false
  roiValid : Bool := false
  metrics : RoiMetrics := {}
  s1 : Nat := 0
  s2 : Nat := 0
  ratio : Nat := 0
  frameSample : W32 := 0
  frames : Counter := {}
  crc : Counter := {}
  late : Counter := {}
  ratioHeldCnt : Counter := {}
  /-- Photodiode samples and records of the last samples, newest first. -/
  pd : List PdSample := []
  gates : List GateRec := []
  /-- The frame being received, and those whose ROI_END has come, oldest first (R298). -/
  frame : Option RoiIn := none
  ended : List RoiIn := []
  deriving DecidableEq, Repr

/-- A diffusion pass (R249): its tick, the constants of that tick, the rows read and written, and
the last two rows as read. -/
structure DiffPass where
  tick : Nat
  started : Nat
  alpha : Nat
  bias : Int
  rowsRead : Nat := 0
  newBase : Nat := 0
  /-- The written rows, as cells that differ from `newBase`. -/
  done : List (Nat × Nat) := []
  /-- The two rows read last, as (column, value) where they differ from the old base. -/
  prev2 : List (Nat × Nat) := []
  prev1 : List (Nat × Nat) := []
  suspended : Bool := false
  deriving DecidableEq, Repr

/-- A rectangle of the grid commands (R254). -/
structure PeriRect where
  cx : Nat
  cy : Nat
  w : Nat
  h : Nat
  deriving DecidableEq, Repr

/-- A pending PARAM_PERI_LOAD: its flight, rectangle and cells, and whether it waits for a
transition. -/
structure PeriLoad where
  flight : Nat
  rect : PeriRect
  cells : List Nat
  deferred : Bool
  /-- The load waits for DATA_STATE 1 (R118). -/
  atEnd : Bool := false
  deriving DecidableEq, Repr

/-- Perihelion: the grid as cells that differ from `base`, by index 2048 × iy + ix. -/
structure Peri where
  base : Nat := 0
  cells : List (Nat × Nat) := []
  /-- Residual of each channel (R247), by channel. -/
  acc : List (Nat × Nat) := []
  pass : Option DiffPass := none
  /-- A tick that fell during a transition (R252). -/
  tickWaits : Option Nat := none
  transition : Bool := false
  load : Option PeriLoad := none
  reads : List (Nat × PeriRect) := []
  probe : W32 := 0
  passMax : Counter := {}
  satCnt : Counter := {}
  steps : W64 := 0
  deposit : W64 := 0
  /-- Field 0 and field 1 of each channel's present lookup (R253). -/
  look : List (Nat × (Nat × Nat)) := []
  /-- The grid saved in DRAM over Umbra (R255). -/
  saved : Option (Nat × List (Nat × Nat)) := none
  deriving DecidableEq, Repr

end Sys2Proof.Machine
end

