-- ==== Sys2Proof/Machine/Parts/Memory.lean ====
section
/-!
DEFINITION. Memory integrity: SRAM, DRAM and check-value units (ch. 15).
-/

namespace Sys2Proof.Machine

/-- FSP of DRAM_STATUS (R400). -/
inductive FspState
  | atRate | switching | low
  deriving DecidableEq, Repr

/-- The number of FSP. -/
def FspState.num : FspState → Nat
  | .atRate => 0 | .switching => 1 | .low => 2

/-- Where a head's grid stands: loaded; not yet checked after Umbra (R392); or unloaded by a memory error, of which
the frames in the cache still serve the words that run (R398). -/
inductive GridStand
  | loaded | unchecked | unloaded
  deriving DecidableEq, Repr

/-- A correction grid as loaded: its bytes and their CRC-32C (R45, R185). -/
structure GridImage where
  bytes : Array Byte
  crc : W32
  stand : GridStand := .loaded
  deriving DecidableEq, Repr

/-- A DIAG_MEM_TEST that runs (R409). -/
structure MemTest where
  flight : Nat
  targets : W32
  pattern : Nat
  deriving DecidableEq, Repr

/-- The memories and their registers. -/
structure Memory where
  scrubCfg : W32 := 0x3C
  sramUe : W32 := 0
  sramCe : Counter := {}
  sramUeCnt : Counter := {}
  sramPass : Counter := {}
  /-- Seconds of the running SRAM scrub pass, and the period that it started with (R390). -/
  sramAge : Nat := 0
  sramPeriod : Nat := 60
  failed : W32 := 0
  selfRefresh : W32 := 0
  fsp : FspState := .atRate
  /-- The rate towards which a switch runs, and a switch up that waits for a switch down to end. -/
  fspTo : FspState := .atRate
  fspUp : Bool := false
  /-- Samples for which DATA_STATE has been 1 (R400). -/
  idleFor : Nat := 0
  derate : Bool := false
  trained : Bool := false
  rate : Nat := 0
  vendor : Nat := 0
  capacity : Nat := 0
  /-- A scrub pass runs; seconds since the last pass began and since the last one ended (R399). -/
  scrubRun : Bool := false
  scrubAge : Nat := 0
  passAge : Option Nat := none
  pasr : W64 := 0
  /-- NR_K and the FSP flag in force: like RATE, those of the ephemeris adopted at the last power-up that
  trained all channels (R67). -/
  nrK : Nat := 0
  fspOn : Bool := false
  ueValid : Bool := false
  ueChannel : Nat := 0
  ueAddr : W32 := 0
  dramCe : Counter := {}
  dramUe : Counter := {}
  fspCnt : Counter := {}
  derateCnt : Counter := {}
  dramPass : Counter := {}
  nr : W64 := 0
  /-- The neighbour-refresh LFSR of each channel (R396). -/
  lfsr : Vector W32 8 := Vector.replicate 8 0
  /-- Poisoned lines: (channel, byte address) (R398). -/
  poison : List (Nat × Nat) := []
  /-- Refreshes issued on all channels (R394). -/
  refreshes : W64 := 0
  /-- The correction grids in DRAM, by head (R391). -/
  grids : List (Nat × GridImage) := []
  /-- OWNER of each check-value unit (R407). -/
  crcOwner : Vector Nat 8 := Vector.replicate 8 0
  crcBytes : W64 := 0
  /-- Memory tests that run, oldest first (R409). -/
  tests : List MemTest := []
  deriving DecidableEq, Repr

end Sys2Proof.Machine
end

