-- ==== Sys2Proof/Machine/Parts/Plane.lean ====
section
/-!
DEFINITION. The planes (ch. 01) and Eclipse (ch. 21).
-/

namespace Sys2Proof.Machine

/-- DATA_STATE (R23). -/
inductive DataState
  | off | idle | build | syzygy
  deriving DecidableEq, Repr

/-- The number of DATA_STATE. -/
def DataState.num : DataState → Nat
  | .off => 0 | .idle => 1 | .build => 2 | .syzygy => 3

/-- CTL_STATE (R23). -/
inductive CtlState
  | off | booting | running | pause
  deriving DecidableEq, Repr

/-- The number of CTL_STATE. -/
def CtlState.num : CtlState → Nat
  | .off => 0 | .booting => 1 | .running => 2 | .pause => 3

/-- MGMT_STATE (R23). -/
inductive MgmtState
  | rom | running | restarting | nadir
  deriving DecidableEq, Repr

/-- The number of MGMT_STATE. -/
def MgmtState.num : MgmtState → Nat
  | .rom => 0 | .running => 1 | .restarting => 2 | .nadir => 3

/-- STANDBY_STATE (R23). -/
inductive StandbyState
  | off | synchronising | ready | failed
  deriving DecidableEq, Repr

/-- The number of STANDBY_STATE. -/
def StandbyState.num : StandbyState → Nat
  | .off => 0 | .synchronising => 1 | .ready => 2 | .failed => 3

/-- The planes. -/
structure Planes where
  /-- The active pair: false A, true B; `none` when no pair is active. -/
  pair : Option Bool := none
  standby : StandbyState := .off
  data : DataState := .off
  ctl : CtlState := .off
  mgmt : MgmtState := .rom
  /-- The code of the TRANSIT event that ends the running pause (R124, R479). -/
  transitCode : Code := 0
  /-- A control restart runs, with the record or without it (R514). -/
  restart : Option Bool := none
  deriving DecidableEq, Repr

/-- A channel's Eclipse state (R504, R507). -/
structure EclipseCh where
  inEclipse : Bool := false
  causes : W16 := 0
  firstCode : Code := 0
  /-- The sample of the entry, and the cause bit that gave FIRST_CODE. -/
  since : Nat := 0
  bit : Nat := 0
  deriving DecidableEq, Repr

/-- Eclipse. -/
structure Eclipse where
  ch : Vector EclipseCh 32 := Vector.replicate 32 {}
  entries : Counter := {}
  inReq : Bool := false
  /-- Channels whose accepted leave takes effect at the next sample (R511). -/
  leaving : W32 := 0
  deriving DecidableEq, Repr

end Sys2Proof.Machine
end

