-- ==== Sys2Proof/Machine/Parts/Power.lean ====
section
/-!
DEFINITION. Power, clocks, Umbra and temperature (ch. 17).
-/

namespace Sys2Proof.Machine

/-- A rail's NOW and MIN in mV (PWR_RAIL_V). -/
structure RailV where
  now : W16 := 0
  low : W16 := 0
  deriving DecidableEq, Repr

/-- A running limit of R441: it is live, and consecutive readings towards its other state. -/
structure Limit where
  live : Bool := false
  run : Nat := 0
  deriving DecidableEq, Repr

/-- A temperature entry (R439–R445). -/
structure ThmEntry where
  reading : Int := 0
  valid : Bool := false
  rise : Int := 0
  high : Limit := {}
  low : Limit := {}
  riseLive : Bool := false
  fault : Bool := false
  /-- LATCHED: HIGH, LOW, RISE, FAULT. -/
  latched : W32 := 0
  breach : Counter := {}
  maxmin : Option (Int × Int) := none
  /-- One reading a second, newest first; `none` where it was invalid (R441). -/
  history : List (Option Int) := []
  deriving DecidableEq, Repr

/-- The phases of Umbra (UMBRA_PHASE). -/
inductive Umbra
  | awake | entering | asleep | leaving
  deriving DecidableEq, Repr

/-- The number of UMBRA_PHASE (R23). -/
def Umbra.num : Umbra → Nat
  | .awake => 0 | .entering => 1 | .asleep => 2 | .leaving => 3

/-- The power unit. -/
structure Power where
  /-- VIN_12V stands and the always-on supply runs (R424). -/
  vin : Bool := false
  /-- The core die is powered and out of reset (R424, R427, R433). -/
  core : Bool := false
  /-- PWR_RESET_L is low (R536). -/
  pinReset : Bool := false
  /-- A companion over-temperature holds the device in reset (R443). -/
  hotReset : Bool := false
  faultCause : Nat := 0
  faultRail : Nat := 0
  faultOff : Bool := false
  xtal32Lost : Bool := false
  wakeSrc : Nat := 0
  pg : W32 := 0
  domains : W32 := 3
  /-- Samples since the last work of MGMT and of IMG (R430). -/
  mgmtIdle : Nat := 0
  imgIdle : Nat := 0
  umbra : Umbra := .awake
  /-- The wake during entry abandons it (R437). -/
  abandon : Bool := false
  entryUs : W16 := 0
  exitUs : W16 := 0
  /-- WAKE_MS of the running Umbra, 0 for none, and its start on the AON keeper. -/
  wakeMs : W32 := 0
  wakeFrom : Nat := 0
  rails : Vector RailV 7 := Vector.replicate 7 {}
  umbraCnt : Counter := {}
  railFault : Counter := {}
  clkFault : Counter := {}
  thm : Vector ThmEntry 22 := Vector.replicate 22 {}
  nvOpen : Bool := false
  /-- PERST# asserted and WAKE# driven, by PCIe port (R435). -/
  perst : Vector Bool 2 := Vector.replicate 2 false
  wakeL : Vector Bool 2 := Vector.replicate 2 false
  deriving DecidableEq, Repr

end Sys2Proof.Machine
end

