-- ==== Sys2Proof/Machine/Parts/Tail.lean ====
section
/-!
DEFINITION. The Tail recorder (ch. 20).
-/

namespace Sys2Proof.Machine

/-- The plane that makes a record (R549). -/
inductive Plane
  | data | control | management
  deriving DecidableEq, Repr

/-- The number of a plane in FLAGS (R487). -/
def Plane.num : Plane → Nat
  | .data => 0 | .control => 1 | .management => 2

/-- A Tail record (R487). TIME is machine time in 2^−16 ns. -/
structure TailRec where
  type : Nat
  plane : Plane
  opsec : Nat
  cycles : W32
  seq : W32
  sample : W32
  time : Option Nat
  payload : List Byte
  deriving DecidableEq, Repr

/-- An erase that runs (R499): its commands, the slot, FIRST and LAST. -/
structure TailErase where
  flights : List Nat
  slot : Nat
  first : W32
  last : W32
  deriving DecidableEq, Repr

/-- What an engine's counters of the layer summary showed at the common start (R500). -/
abbrev SummaryBase := List (List Nat)

/-- The Tail recorder. -/
structure Tail where
  /-- The stage and the companion-die buffer, oldest first (R22, R492). -/
  stage : List TailRec := []
  buffer : List TailRec := []
  /-- The record being programmed, its position, and the sample at which BUSY rose. -/
  busy : Option (TailRec × Nat × Nat) := none
  /-- The writer starts no record before this sample (R496). -/
  holdUntil : Nat := 0
  wpos : Nat := 0
  seqNext : W32 := 0
  firstSeq : W32 := 0
  lastValid : Option W32 := none
  full : Bool := false
  freeze : Bool := false
  summary : Bool := false
  erase : Option TailErase := none
  /-- The TAIL_FREEZE commands that wait for BUSY 0 (R496), oldest first. -/
  freezeWaits : List (Nat × Bool) := []
  base : SummaryBase := []
  drop : Counter := {}
  torn : Counter := {}
  clear : Counter := {}
  deriving DecidableEq, Repr

end Sys2Proof.Machine
end

