-- ==== Sys2Proof/Machine/Parts/Tide.lean ====
section
/-!
DEFINITION. The Tide engine: loops, coefficient sets and captures (ch. 09). Q16.16 values are
integers of 1/65,536.
-/

namespace Sys2Proof.Machine

/-- One declared loop (R262–R274). -/
structure TideLoop where
  entry : EphLoop
  /-- MODE in force, and the MODE written since the last update (R269–R271). -/
  auto : Bool := false
  modeReq : Option Bool := none
  /-- The transfer to automatic has not met its first closed update (R271). -/
  transfer : Bool := false
  i : Int := 0
  y : Int := 0
  pvp : Int := 0
  pv : Int := 0
  sp : Int := 0
  /-- TIDE_SP and TIDE_MAN. -/
  spReg : Int := 0
  man : Int := 0
  /-- The SET of TIDE_LOOP_CTL for a loop of KIND 2–4; the set in force; the set chosen last. -/
  setSel : Nat := 0
  set : Nat := 0
  chosen : Nat := 0
  /-- The values of the set in force; they run on while a LOOP_SET_WRITE has emptied it (R265). -/
  vals : CoefSet := {}
  /-- The set in force or its values have changed since the last closed automatic update (R85, R267). -/
  setChanged : Bool := false
  feCount : Nat := 0
  feTrip : Bool := false
  setEmpty : Bool := false
  satAtSwap : Bool := false
  slewing : Bool := false
  sat : Bool := false
  measInvalid : Bool := false
  opened : Bool := false
  /-- A closed update since PVp was last set to PV without one: D is 0 in the first (R264). -/
  dZero : Bool := true
  /-- The first update has run (R272). -/
  started : Bool := false
  /-- The delivered output, injection included (R279). -/
  out : Int := 0
  deriving DecidableEq, Repr

/-- LOOP_CAPTURE_START's PARAMS (R277). -/
structure CapCfg where
  slot : Nat
  trigger : Nat
  wave : Nat
  point : Nat
  signals : List Nat
  rows : Nat
  pre : Nat
  decim : Nat
  trigArg : W32
  amp : Int
  half : Nat
  deriving DecidableEq, Repr

/-- A capture unit in use (R277–R280). -/
structure CapUnit where
  cfg : CapCfg
  /-- 1 armed, 2 triggered, 3 done. -/
  state : Nat
  /-- The rows, oldest first. -/
  rows : List (List W32) := []
  trigIx : W32 := 0
  /-- Updates since the last row, and updates injected since the trigger. -/
  skip : Nat := 0
  injN : Nat := 0
  lfsr : Nat := 0x7FFF
  injecting : Bool := false
  /-- Rows that hold an uncorrectable word, with its byte offset in SRAM (R389 region 10). -/
  bad : List (Nat × Nat) := []
  deriving DecidableEq, Repr

/-- A LOOP_SET_WRITE that waits for its switch sample (R276). -/
structure SetSwitch where
  at_ : Nat
  first : Nat
  sets : List CoefSet
  deriving DecidableEq, Repr

/-- The Tide engine. -/
structure Tide where
  loops : List TideLoop := []
  sets : List (Nat × CoefSet) := []
  setSwitches : List SetSwitch := []
  caps : Vector (Option CapUnit) 2 := Vector.replicate 2 none
  swap : Counter := {}
  satSwap : Counter := {}
  feTripCnt : Counter := {}
  setEmptyCnt : Counter := {}
  /-- Outputs of power loops on their way to the engine: (slot, first record, y) (R241). -/
  outs : List (Nat × (Nat × Int)) := []
  deriving DecidableEq, Repr

end Sys2Proof.Machine
end

