-- ==== Sys2Proof/Machine/State.lean ====
section
/-!
DEFINITION. The state of the block as plain data, the reasons a step can stop, and the state after a
power-on reset (R12).
-/

namespace Sys2Proof.Machine

/-- Why the machine stops with a fault. -/
inductive Fault
  /-- Raised by a register access over PCIe whose offset lies outside the 1 MiB of BAR0 (R96): the
  address does not exist, and no such access reaches the device. Safe: the model stops where no access
  can be made. -/
  | outsideBar0
  /-- Raised by an access over PCIe whose offset lies outside the 16 KiB of BAR2 (R96). Safe, as above. -/
  | outsideBar2
  deriving DecidableEq, Repr

/-- Why a command has no meaning. -/
inductive Refusal
  /-- Raised by an arm of exec that has no meaning yet. Safe: the model stops. -/
  | notModelled (mnemonic : String)
  deriving DecidableEq, Repr

/-- The FV32 as its outside sees it. -/
structure State where
  /-- Commands that wait, first in, first out: the model's own field. -/
  pending : List Instr
  /-- What the device has sent, newest first: the model's own field. -/
  outbox : List Out
  /-- The counter that free values are drawn with: the model's own field. -/
  freeCtr : Nat
  host : HostState
  eph : EphState
  job : JobState
  engines : Vector Engine 32
  arb : Arbiter
  melt : Vector MeltCh 32
  peri : Peri
  tide : Tide
  links : Vector Link 32
  axes : Vector Axis 8
  recoat : Recoat
  camera : Camera
  halo : Halo
  time : TimeState
  mem : Memory
  disp : Display
  power : Power
  cal : Cal
  boot : Boot
  tail : Tail
  planes : Planes
  eclipse : Eclipse
  /-- The 64 MiB of flash (R459): bytes that differ from the erased value 0xFF. -/
  flash : List (Nat × Byte)
  deriving DecidableEq, Repr

/-- The value of an erased byte of flash (R486). -/
def flashErased : Byte := 0xFF

/-- The default slot map before the first commit (R101): slot 0 with PILOT and KEEPER on PCIe A, slot
7 with KEEPER on the management port. -/
def defaultSlot (i : Nat) : SlotCfg :=
  if i = 0 then { port := 0, roles := 0b1001, qFirst := 0, qCount := 16, msixFirst := 0, msixCount := 64 }
  else if i = 7 then { port := 2, roles := 0b1000 }
  else {}

/-- A camera context at reset. The spec gives no reset value for the shading grid: 1.0 at every
node (DESIGN CHOICE). -/
def CamContext.atReset : CamContext := { gains := List.replicate 289 16384 }

/-- The block after a power-on reset: every register at its Reset value (R12). -/
def State.reset : State where
  pending := []
  outbox := []
  freeCtr := 0
  host := { slots := (List.range 8).map fun i => { cfg := defaultSlot i } }
  eph := {}
  job := {}
  engines := Vector.replicate 32 {}
  arb := {}
  melt := Vector.replicate 32 {}
  peri := {}
  tide := {}
  links := Vector.replicate 32 {}
  axes := Vector.replicate 8 {}
  recoat := {}
  camera := { contexts := Vector.replicate 8 CamContext.atReset }
  halo := {}
  time := {}
  mem := {}
  disp := {}
  power := {}
  cal := {}
  boot := {}
  tail := {}
  planes := {}
  eclipse := {}
  flash := []

end Sys2Proof.Machine
end

