-- ==== Sys2Proof/Machine/Ops.lean ====
section
/-!
DEFINITION. The named operations over the state that every family uses: free values, counters,
indexed parts, flash, Tail records, completions, events, roles and Eclipse.
-/

namespace Sys2Proof.Machine

/-! ## Free values and counters -/

/-- A free value below `n`, and the state that has drawn it. -/
def State.draw (n : Nat) (s : State) : Nat × State :=
  (if n = 0 then 0 else Config.freeValue s.freeCtr % n, { s with freeCtr := s.freeCtr + 1 })

/-- A free value between `lo` and `hi`, both included. -/
def State.drawIn (lo hi : Nat) (s : State) : Nat × State :=
  let r := s.draw (hi + 1 - lo)
  (lo + r.1, r.2)

/-- A 32-bit word that stays at all ones (R501). -/
def satAdd (w : W32) (n : Nat) : W32 :=
  if w.toNat + n < 2 ^ 32 then BitVec.ofNat 32 (w.toNat + n) else 0xFFFFFFFF

/-- A counter after `n` more events: it stays at all ones and sets SAT there (R206, R501). -/
def Counter.add (n : Nat) (c : Counter) : Counter :=
  let w := satAdd c.count n
  { count := w, sat := c.sat || (n != 0 && w == 0xFFFFFFFF) }

/-- A counter after one more event. -/
def Counter.inc (c : Counter) : Counter := c.add 1

/-- A counter that keeps the largest value seen. -/
def Counter.max (n : Nat) (c : Counter) : Counter :=
  if c.count.toNat < n then Counter.add n {} else c

/-- A 64-bit statistic after `n` more (R501). -/
def stat (w : W64) (n : Nat) : W64 := w + BitVec.ofNat 64 n

/-! ## Parts -/

/-- SAMPLE_IX as a number. -/
def State.ix (s : State) : Nat := s.time.ix.toNat

/-- A periodic unit of `n` samples has a tick at this sample. None runs before the epoch (R373), and none at a sample
that a step has landed in (R379). -/
def State.tickAt (s : State) (n : Nat) : Bool := s.ix % n == 0 && !s.time.preEpoch && !s.time.landed

/-- SAMPLE_IX[31:0]. -/
def State.sample (s : State) : W32 := BitVec.ofNat 32 s.ix

/-- Engine `n` changed. -/
def State.modEngine (n : Nat) (f : Engine → Engine) (s : State) : State :=
  { s with engines := upd s.engines n f }

/-- Engine `n`. -/
def State.engine (s : State) (n : Nat) : Engine := nth {} s.engines n

/-- Moonlink `n` changed. -/
def State.modLink (n : Nat) (f : Link → Link) (s : State) : State :=
  { s with links := upd s.links n f }

/-- Moonlink `n`. -/
def State.link (s : State) (n : Nat) : Link := nth {} s.links n

/-- Melt-pool channel `n` changed. -/
def State.modMelt (n : Nat) (f : MeltCh → MeltCh) (s : State) : State :=
  { s with melt := upd s.melt n f }

/-- Axis `a` changed. -/
def State.modAxis (a : Nat) (f : Axis → Axis) (s : State) : State :=
  { s with axes := upd s.axes a f }

/-- Axis `a`. -/
def State.axis (s : State) (a : Nat) : Axis := nth {} s.axes a

/-- Slot `i` changed. -/
def State.modSlot (i : Nat) (f : Slot → Slot) (s : State) : State :=
  { s with host := { s.host with slots := s.host.slots.modify i f } }

/-- A slot of the default map that holds nothing. -/
def Slot.empty : Slot := { cfg := {} }

/-- Slot `i`. -/
def State.slot (s : State) (i : Nat) : Slot := s.host.slots[i]?.getD Slot.empty

/-- Port `p` changed. -/
def State.modPort (p : Nat) (f : Port → Port) (s : State) : State :=
  { s with host := { s.host with ports := upd s.host.ports p f } }

/-- Port `p`. -/
def State.port (s : State) (p : Nat) : Port := nth {} s.host.ports p

/-- Queue `q`. -/
def State.queue (s : State) (q : Nat) : Queue := sget {} s.host.queues q

/-- Queue `q` changed. -/
def State.modQueue (q : Nat) (f : Queue → Queue) (s : State) : State :=
  { s with host := { s.host with queues := sset {} s.host.queues q (f (s.queue q)) } }

/-- What the device sends. -/
def State.send (o : Out) (s : State) : State := { s with outbox := o :: s.outbox }

/-- The committed ephemeris is in force and declares head `n`. -/
def State.head? (s : State) (n : Nat) : Option EphHead :=
  s.eph.eph.bind fun e => e.heads.find? fun h => h.head == n

/-- The Moonlink that the head of channel `n` declares (R16, R46). -/
def State.linkOf (s : State) (n : Nat) : Nat := (s.head? n).elim 32 (·.moonlink)

/-- The Moonlink of channel `n`, OFF where the channel is not declared. -/
def State.headLink (s : State) (n : Nat) : Link := s.link (s.linkOf n)

/-- The head that declares Moonlink `m`. -/
def State.linkHead? (s : State) (m : Nat) : Option EphHead :=
  s.eph.eph.bind fun e => e.heads.find? fun h => h.moonlink == m

/-- Channel `n` is declared. -/
def State.declared (s : State) (n : Nat) : Bool := (s.head? n).isSome

/-- The mask of declared channels. -/
def State.declaredMask (s : State) : W32 := maskOf 32 s.declared

/-- Some channel is in a build: DATA_STATE is 2 or 3 (R159). -/
def State.inBuild (s : State) : Bool := s.planes.data == .build || s.planes.data == .syzygy

/-- The entry of an axis in the committed ephemeris. -/
def State.axisEntry? (s : State) (a : Nat) : Option EphAxis :=
  s.eph.eph.bind fun e => e.axes.find? fun x => x.axis == a

/-- The entry of a sensor in the committed ephemeris. -/
def State.sensorEntry? (s : State) (i : Nat) : Option EphSensor :=
  s.eph.eph.bind fun e => e.sensors.find? fun x => x.sensor == i

/-! ## Flash -/

/-- `n` bytes of flash from offset `o`. -/
def State.flashRead (s : State) (o n : Nat) : List Byte := sread flashErased s.flash o n

/-- Bytes programmed into flash at offset `o`. -/
def State.flashWrite (o : Nat) (d : List Byte) (s : State) : State :=
  { s with flash := sbulk flashErased s.flash o d }

/-- `n` bytes of flash from offset `o` erased to 0xFF. -/
def State.flashErase (o n : Nat) (s : State) : State := { s with flash := serase s.flash o n }

/-! ## The Tail recorder (R487–R493) -/

/-- Machine time in the layout of TIME (R487): nanoseconds, seconds in 6 bytes, fraction. -/
def timeBytes (t : Nat) : List Byte :=
  let ns := t / 2 ^ 16
  leBytes 4 (ns % 1000000000) ++ leBytes 6 (ns / 1000000000) ++ leBytes 2 (t % 2 ^ 16)

/-- The padding of a payload: to 16 bytes and to a multiple of 4 (R490). -/
def padPayload (p : List Byte) : List Byte :=
  let n := max 16 ((p.length + 3) / 4 * 4)
  p ++ List.replicate (n - p.length) 0

/-- The bytes of a record with MARK as given (R487). -/
def TailRec.bytes (r : TailRec) (mark : Nat) : List Byte :=
  let time := match r.time with
    | some t => timeBytes t
    | none => []
  let len := 28 + time.length + r.payload.length
  let body := leBytes 2 len ++ leBytes 2 r.type ++
    leBytes 1 (b1 r.time.isSome + 2 * r.plane.num) ++ leBytes 1 (r.opsec / 2 ^ 32) ++
    leBytes 4 r.opsec ++ leBytes 4 r.cycles.toNat ++ leBytes 4 r.seq.toNat ++
    leBytes 4 r.sample.toNat ++ time ++ r.payload
  leBytes 2 mark ++ body ++ leBytes 4 (crc32c body).toNat

/-- LENGTH of a record (R487). -/
def TailRec.length (r : TailRec) : Nat :=
  28 + (if r.time.isSome then 12 else 0) + r.payload.length

/-- The bytes that a list of records takes. -/
def recBytes (l : List TailRec) : Nat := (l.map TailRec.length).sum

/-- The capacity of the stage and of the companion-die buffer (R22). -/
def stageBytes : Nat := 262144
def bufferBytes : Nat := 4096

/-- A check-value unit has processed `n` bytes for the control plane (R407, R410). -/
def State.checkUsed (n : Nat) (s : State) : State :=
  { s with mem := { s.mem with crcBytes := stat s.mem.crcBytes n } }

/-- A record made now with a given TIME for the stage, or for the companion-die buffer (R489, R492, R493). It is
dropped when FULL is set or when it finds no room. The check value of a record in the stage that is not the management
plane's comes from a check-value unit (R407). -/
def State.recordAt (time : Option Nat) (stage : Bool) (type : Nat) (plane : Plane) (payload : List Byte)
    (s : State) : State :=
  let t := s.tail
  let used (n : Nat) (s : State) : State := if plane = .management then s else s.checkUsed (n - 6)
  let r : TailRec :=
    { type := type, plane := plane, opsec := s.boot.opsec, cycles := s.boot.pwrCycles,
      seq := t.seqNext, sample := s.sample,
      time := time, payload := padPayload payload }
  let t := { t with seqNext := t.seqNext + 1 }
  if t.full then { s with tail := { t with drop := t.drop.inc } }
  else if stage then
    if recBytes t.stage + r.length ≤ stageBytes then used r.length { s with tail := { t with stage := t.stage ++ [r] } }
    else { s with tail := { t with drop := t.drop.inc } }
  else if recBytes t.buffer + r.length ≤ bufferBytes then
    { s with tail := { t with buffer := t.buffer ++ [r] } }
  else { s with tail := { t with drop := t.drop.inc } }

/-- A record made now: TIME is present unless the servo is in STATE 0 (R489). -/
def State.recordIn (stage : Bool) (type : Nat) (plane : Plane) (payload : List Byte) (s : State) : State :=
  s.recordAt (if s.time.state = .unset then none else some s.time.t) stage type plane payload

/-- A record made now: through the stage while the core die is powered (R22, R492). -/
def State.record (type : Nat) (plane : Plane) (payload : List Byte) (s : State) : State :=
  s.recordIn s.power.core type plane payload

/-- A payload of u32 values (R490). -/
def u32s (l : List Nat) : List Byte := l.flatMap (leBytes 4)

/-! ## Completions and events (R116–R124) -/

/-- The number of entries that a completion ring holds beyond the host's HEAD. -/
def Queue.cqFull (q : Queue) : Bool := (q.cqWrite + 1) % (q.cqM1 + 1) == q.cqHead

/-- What raising an MSI-X vector sends: nothing while its table entry masks it. -/
def State.msixOut (port vector : Nat) (s : State) : List Out :=
  let e := sget {} (s.port port).msix vector
  if e.masked then [] else [.msix port vector e.addr e.data]

/-- An MSI-X vector is raised (R119): its message leaves, or its pending bit is set while it is masked. -/
def State.raiseVector (port vector : Nat) (s : State) : State :=
  match s.msixOut port vector with
  | o :: _ => s.send o
  | [] => s.modPort port fun p => { p with pba := p.pba ||| (1#64 <<< vector) }

/-- One entry posted to a completion ring that is not full (R116, R119). -/
def State.postCq (qn port : Nat) (c : Cpl) (irq : Bool) (s : State) : State :=
  let q := s.queue qn
  let w := (q.cqWrite + 1) % (q.cqM1 + 1)
  let c := { c with phase := q.phase, sqHead := BitVec.ofNat 16 q.sqHead, sqId := qn }
  let s := s.modQueue qn fun q =>
    { q with cqWrite := w, phase := if w = 0 then !q.phase else q.phase }
  let s := s.send (.completion qn c)
  if irq then s.raiseVector port q.vector else s

/-- The reply to SEQ `q` kept, when `q` is among the last 32 SEQ values of the session (R129). -/
def Session.keep (q : W32) (b : ReplyBody) (ss : Session) : Session :=
  { ss with replies := ss.replies.map fun r => if r.1 = q ∧ r.2.isNone then (q, some b) else r }

/-- The reply to a session's frame (R129). -/
def State.reply (h : FrameHdr) (b : ReplyBody) (s : State) : State :=
  (s.modSlot h.slot fun sl => { sl with session := sl.session.map (Session.keep h.seq b) }).send (.reply h b)

/-- A completion is LATE when its rule says so or when it carries a FAULT code (R134). -/
def lateOf (status : Code) (late : Bool) : Bool := late || status.toNat / 256 == 0x0B

/-- The port of a slot. -/
def State.portOf (s : State) (i : Nat) : Nat := (s.slot i).cfg.port

/-- A finished command's completion is posted, or counted as lost (R106, R116, R118). -/
def State.post (f : Flight) (status : Code) (r0 r1 : W64) (sample : W32) (late : Bool)
    (data : List Byte) (s : State) : State :=
  let port := f.port
  let s := { s with host := { s.host with flights := s.host.flights.filter fun g => g.id != f.id } }
  if f.lost then s.modPort port fun p => { p with lostCpl := satAdd p.lostCpl 1 }
  else
    let c : Cpl :=
      { r0 := r0, r1 := r1, sqHead := 0, sqId := 0, cmdId := f.cmdId, status := status,
        sample := sample, late := late }
    match f.origin with
    | .queue qn =>
      let s := if data.isEmpty then s else s.send (.buffer port f.bufAddr data)
      let q := s.queue qn
      if q.cqFull || !q.waiting.isEmpty then
        s.modQueue qn fun q => { q with waiting := q.waiting ++ [(c, f.irq)] }
      else s.postCq qn port c f.irq
    | .frame h => s.reply h (.completion { c with phase := true } data)

/-- A command completes: at once, or after a Transit pause (R477). -/
def State.finish (f : Flight) (status : Code) (r0 r1 : W64) (late : Bool) (data : List Byte)
    (s : State) : State :=
  let late := lateOf status late
  -- the port may have gone down since the command was dispatched
  let f := (s.host.flights.find? fun g => g.id == f.id).getD f
  if s.planes.ctl = .pause then
    { s with host := { s.host with held := s.host.held ++
        [.post { flight := f, status := status, r0 := r0, r1 := r1, sample := s.sample, late := late, data := data }] } }
  else s.post f status r0 r1 s.sample late data

/-- The flight with a given number completes, if it is still under way. -/
def State.finishId (id : Nat) (status : Code) (r0 r1 : W64) (late : Bool) (data : List Byte)
    (s : State) : State :=
  match s.host.flights.find? fun g => g.id == id with
  | some f => s.finish f status r0 r1 late data
  | none => s

/-- An event to one slot (R123). -/
def State.eventTo (i type : Nat) (status : Code) (r1 : W64) (s : State) : State :=
  let sl := s.slot i
  if !sl.eventsOn then s
  else
    let c : Cpl :=
      { r0 := BitVec.ofNat 64 type ||| (sl.dropped.setWidth 64 <<< 32), r1 := r1, sqHead := 0,
        sqId := 0, cmdId := 0xFFFF, status := status, sample := s.sample, late := false }
    let drop := s.modSlot i fun sl => { sl with dropped := satAdd sl.dropped 1 }
    let sent (s : State) : State := s.modSlot i fun sl => { sl with dropped := 0 }
    if sl.cfg.port < 2 then
      let q := s.queue sl.cfg.qFirst
      if sl.cfg.qCount != 0 && (s.port sl.cfg.port).linkUp && q.enable && !q.error && !q.cqFull &&
          q.waiting.isEmpty then
        sent (s.postCq sl.cfg.qFirst sl.cfg.port c true)
      else drop
    else match sl.session with
      | some ss => sent (s.send (.eventFrame i ss.sender { c with phase := true }))
      | none => drop

/-- An event to every slot but those that `skip` names; it waits out a Transit pause (R477). -/
def State.eventBut (skip : Nat → Bool) (type : Nat) (status : Code) (r1 : W64) (s : State) : State :=
  ((List.range 8).filter fun i => !skip i).foldl (fun s i =>
    if s.planes.ctl = .pause then
      { s with host := { s.host with held := s.host.held ++
          [.event { slot := i, type := type, status := status, r1 := r1 }] } }
    else s.eventTo i type status r1) s

/-- An event to every slot with events on. -/
def State.event (type : Nat) (status : Code) (r1 : W64) (s : State) : State :=
  s.eventBut (fun _ => false) type status r1

/-- The posts that waited out a Transit pause, in order (R477). -/
def State.releaseHeld (s : State) : State :=
  let give (s : State) (h : Held) : State :=
    match h with
    | .post p => s.post p.flight p.status p.r0 p.r1 p.sample p.late p.data
    | .event e => s.eventTo e.slot e.type e.status e.r1
  s.host.held.foldl give { s with host := { s.host with held := [] } }

/-! ## Rejections (R112, R115, R134) -/

/-- A rejection recorded in ERR_LAST of the port and charged to the slot. -/
def State.refuse (port : Nat) (slot : Option Nat) (code : Code) (addr : Nat) (s : State) : State :=
  let s := s.modPort port fun p =>
    { p with errSlot := slot.getD 0xF, errCode := code, errAddr := addr % 2 ^ 20 }
  match slot with
  | some i => s.modSlot i fun sl => { sl with reject := sl.reject.inc }
  | none => s

/-! ## Roles (R101–R108) -/

/-- The bits of ROLES. -/
def rolePilot : BitVec 4 := 1
def roleObserver : BitVec 4 := 2
def roleService : BitVec 4 := 4
def roleKeeper : BitVec 4 := 8

/-- The slot that holds PILOT, if any. -/
def State.pilot? (s : State) : Option Nat :=
  (List.range 8).find? fun i => (s.slot i).held &&& rolePilot != 0

/-- A pending commit is withdrawn with STATUS `status` (R84, R123 type 4). -/
def State.cancelCommit (status : Code) (s : State) : State :=
  match s.eph.pendingSlot with
  | none => s
  | some _ =>
    let seq := match s.eph.validated with
      | some e => e.sequence
      | none => s.eph.seq
    let s := { s with eph := { s.eph with pendingSlot := none, commit := .cancelled } }
    s.event 4 status (seq.setWidth 64)

/-- A pending commit ends when the committing slot loses PILOT (R84). -/
def State.pilotLost (i : Nat) (s : State) : State :=
  if s.eph.pendingSlot == some i then
    (s.record 0x0011 .management []).cancelCommit 0x0302
  else s

/-- A slot gives up the roles in `m` that it holds (R105). -/
def State.dropRoles (i : Nat) (m : BitVec 4) (s : State) : State :=
  let held := (s.slot i).held
  let s := s.modSlot i fun sl => { sl with held := sl.held &&& ~~~m }
  if held &&& m &&& rolePilot != 0 then s.pilotLost i else s

/-- The queues of a slot. -/
def SlotCfg.owns (c : SlotCfg) (q : Nat) : Bool :=
  decide (c.port < 2) && decide (c.qFirst ≤ q) && decide (q < c.qFirst + c.qCount)

/-- The slot that owns queue `q`. -/
def State.queueSlot? (s : State) (q : Nat) : Option Nat :=
  (List.range 8).find? fun i => (s.slot i).cfg.owns q

/-- A queue started at head and tail 0 with phase 1, or stopped (R122). -/
def Queue.restart (on : Bool) (q : Queue) : Queue :=
  { q with enable := on, sqHead := 0, sqTail := 0, cqWrite := 0, cqHead := 0, phase := true,
           error := false, waiting := [] }

/-- A slot's port goes down (R106): roles released, queues stopped, completions to come lost. -/
def State.slotDown (i : Nat) (s : State) : State :=
  let cfg := (s.slot i).cfg
  let lost := (s.slot i).held
  let s := s.dropRoles i 0xF
  let waiting := (s.host.queues.filter fun p => cfg.owns p.1).map fun p => p.2.waiting.length
  let qs := ((List.range cfg.qCount).map (cfg.qFirst + ·)).filter fun q =>
    cfg.owns q && ((s.queue q).enable || !(s.queue q).waiting.isEmpty)
  let s := qs.foldl (fun s q => s.modQueue q (Queue.restart false)) s
  let s := s.modPort cfg.port fun p => { p with lostCpl := satAdd p.lostCpl waiting.sum }
  let lose (f : Flight) : Flight := if f.slot = i then { f with lost := true } else f
  let relabel (h : Held) : Held :=
    match h with
    | .post p => .post { p with flight := lose p.flight }
    | .event e => .event e
  let host : HostState :=
    { s.host with flights := s.host.flights.map lose, held := s.host.held.map relabel }
  let s := { s with host := host }
  let s := s.modSlot i fun sl => { sl with session := none }
  let s := s.record 0x0020 .control []
  s.eventBut (· == i) 1 0 (BitVec.ofNat 64 (i + 256 * lost.toNat))

/-- A PCIe port goes down for every slot bound to it (R106); its MSI-X table is reset with its endpoint. -/
def State.portDown (p : Nat) (s : State) : State :=
  let was := (s.port p).linkUp
  let s := s.modPort p fun q => { q with linkUp := false, msix := [], pba := 0 }
  if was then
    ((List.range 8).filter fun i => s.portOf i == p).foldl (fun s i => s.slotDown i) s
  else s

end Sys2Proof.Machine
end

