-- ==== Sys2Proof/Machine/TideCore.lean ====
section
/-!
DEFINITION. The arithmetic of one Tide update (R262–R274): from a loop, the inputs it latched and
its coefficient set to the loop after the update. What the update does to the rest of the device
stands in Tide.lean.
-/

namespace Sys2Proof.Machine

/-- Q16.16 product, rounded half up (R262). -/
def qmul (a b : Int) : Int := (a * b + 0x8000) / 65536

/-- Saturation to 32 bits. -/
def sat32 (z : Int) : Int := clampInt (-2147483648) 2147483647 z

/-- Saturation to 48 bits. -/
def sat48 (z : Int) : Int := clampInt (-140737488355328) 140737488355327 z

/-- The magnitude of an integer. -/
def absI (z : Int) : Int := if z < 0 then -z else z

/-- The sign of an integer. -/
def sgn (z : Int) : Int := if z < 0 then -1 else if 0 < z then 1 else 0

/-- A set whose OUT_MIN is not below its OUT_MAX is empty (R265). -/
def CoefSet.isEmpty (c : CoefSet) : Bool := decide (c.outMax ≤ c.outMin)

/-- What an update latches (R260, R261). -/
structure TideIn where
  sp : Int
  pv : Int
  f : Int
  /-- The measurement is valid (R94). -/
  valid : Bool
  /-- A power loop whose engine reports it open (R200). -/
  opened : Bool
  deriving DecidableEq, Repr

/-- The values an update hands to a capture (R278). -/
structure TideVals where
  e : Int := 0
  p : Int := 0
  d : Int := 0
  frozen : Bool := false
  swap : Bool := false
  /-- The swap met SAT of the previous update (R267). -/
  satSwap : Bool := false
  trip : Bool := false
  deriving DecidableEq, Repr

/-- The output moved from `y` to `u` within OUT_SLEW: the value, and whether the limit acted. -/
def slewTo (slew y u : Int) : Int × Bool :=
  if slew ≠ 0 ∧ slew < absI (u - y) then (y + sgn (u - y) * slew, true) else (u, false)

/-- Step 3 of R263: a mode change written since the last update (R270, R271). -/
def applyMode (l : TideLoop) : TideLoop :=
  match l.modeReq with
  | none => l
  | some m =>
    if m = l.auto then { l with modeReq := none }
    else if m then { l with auto := true, transfer := true, modeReq := none }
    else { l with auto := false, transfer := false, man := l.y, modeReq := none }

/-- R269: an update in manual. -/
def manualUpdate (c : CoefSet) (x : TideIn) (l : TideLoop) : TideLoop :=
  let r := slewTo c.outSlew l.y (clampInt c.outMin c.outMax l.man)
  { l with y := r.1, slewing := r.2, sat := false, pvp := x.pv, dZero := true }

/-- R262: a closed automatic update, with the swap judged by R267. -/
def closedUpdate (c : CoefSet) (swap : Bool) (x : TideIn) (l : TideLoop) : TideLoop × TideVals :=
  let e := sat32 (x.sp - x.pv)
  let p := qmul c.kp e + qmul c.kff x.f
  let d := if l.dZero ∨ l.transfer then 0 else -(qmul c.kd (x.pv - l.pvp))
  let ic := if l.transfer then l.y - p else if swap then l.y - (p + d) else sat48 (l.i + qmul c.ki e)
  let i := clampInt (c.outMin - (p + d)) (c.outMax - (p + d)) ic
  let r := slewTo c.outSlew l.y (p + d + i)
  ({ l with
     y := r.1
     i := if r.2 then r.1 - (p + d) else i
     slewing := r.2
     sat := decide (i ≠ ic)
     satAtSwap := l.satAtSwap || (swap && (!l.transfer && l.sat))
     pvp := x.pv
     dZero := false
     transfer := false
     setChanged := false },
   { e := e, p := p, d := d, swap := swap, satSwap := swap && (!l.transfer && l.sat) })

/-- R264: a frozen update. -/
def frozenUpdate (x : TideIn) (l : TideLoop) : TideLoop :=
  { l with pvp := x.pv, dZero := true, sat := false, slewing := false }

/-- Step 5 of R263: the following error (R273, R274 step 1). -/
def judgeFe (x : TideIn) (e : Int) (l : TideLoop) : TideLoop × Bool :=
  if l.auto = false ∨ x.opened = true then (l, false)
  else
    let n := if x.valid = false ∨ l.entry.feLimit < absI e then l.feCount + 1 else 0
    if l.entry.feTimer ≤ n then
      ({ l with feCount := n, feTrip := true, auto := false, transfer := false, modeReq := none,
                man := l.y }, true)
    else ({ l with feCount := n }, false)

/-- Steps 3 to 5 of R263 for a loop whose set in force has the values `c`. -/
def tideUpdate (c : CoefSet) (x : TideIn) (l0 : TideLoop) : TideLoop × TideVals :=
  let l := applyMode { l0 with pv := x.pv, sp := x.sp, measInvalid := !x.valid, opened := x.opened,
                               started := true }
  let e := sat32 (x.sp - x.pv)
  let r : TideLoop × TideVals :=
    if l.auto = false then (manualUpdate c x l, { e := e })
    else if x.valid = false ∨ x.opened = true then (frozenUpdate x l, { e := e, frozen := true })
    else closedUpdate c l.setChanged x l
  let j := judgeFe x e r.1
  (j.1, { r.2 with trip := j.2 })

end Sys2Proof.Machine
end

