-- ==== Sys2Proof/Machine/Orrery.lean ====
section
/-!
DEFINITION. The Orrery (R90–R94): what a source update delivers, and what a sink input reads.
-/

namespace Sys2Proof.Machine

/-- The routes of the committed ephemeris. -/
def State.routes (s : State) : List EphRoute := match s.eph.eph with
  | some e => e.routes
  | none => []

/-- The native width of a source field (R93). -/
def sourceWidth (ty field : Nat) : Nat :=
  match ty with
  | 1 => if field ≤ 2 then 24 else 16
  | 2 => if field = 8 ∨ field = 9 then 32 else 16
  | 6 => 16
  | 7 => 16
  | _ => 32

/-- A source field as the route takes it (R90). -/
def EphRoute.take (r : EphRoute) (x : Int) : Int :=
  let w := sourceWidth r.srcType r.srcField
  let u := unsignedOf w x
  if r.signed then signedOf w u else u

/-- y of a route for a source value (R90). -/
def EphRoute.eval (r : EphRoute) (x : Int) : Int := sat32 (r.take x * r.scale + r.offset)

/-- A source is invalid while its head's Moonlink is not active (R94). -/
def State.sourceLive (s : State) (r : EphRoute) : Bool :=
  match r.srcType with
  | 1 => (s.link r.srcIndex).state == .active
  | 2 => (s.headLink r.srcIndex).state == .active
  | 7 => (s.headLink r.srcIndex).state == .active
  | _ => true

/-- The routes from field values of one source evaluate (R90); a source
that is not live keeps its last y (R94). -/
def State.source (ty index : Nat) (fields : List (Nat × Int)) (s : State) : State :=
  let vals := (s.routes.zipIdx).map fun p =>
    let old := s.eph.routeVals.getD p.2 {}
    if p.1.srcType = ty ∧ p.1.srcIndex = index then
      if !s.sourceLive p.1 then { old with valid := false }
      else match fields.find? fun f => f.1 == p.1.srcField with
      | some f => { y := p.1.eval f.2, valid := true, ever := true }
      | none => old
    else old
  { s with eph := { s.eph with routeVals := vals } }

/-- The fields of a source become invalid until their next value (R94). -/
def State.sourceLost (ty index : Nat) (field : Nat → Bool) (s : State) : State :=
  let vals := (s.routes.zipIdx).map fun p =>
    let old := s.eph.routeVals.getD p.2 {}
    if p.1.srcType = ty ∧ p.1.srcIndex = index ∧ field p.1.srcField then { old with valid := false }
    else old
  { s with eph := { s.eph with routeVals := vals } }

/-- What a sink input holds: its route's y and whether that is valid; HOLD_LAST keeps the last valid
y (R94). `none` for an input without a route. -/
def State.sink? (s : State) (ty index input : Nat) : Option (Int × Bool) :=
  match s.routes.zipIdx.find? fun p =>
      p.1.sinkType == ty && p.1.sinkIndex == index && p.1.sinkInput == input with
  | none => none
  | some (r, i) =>
    let v := s.eph.routeVals.getD i {}
    some (v.y, (r.holdLast && v.ever) || (v.valid && s.sourceLive r))

/-- A power factor in Q16.16 as the engine takes it: UQ1.15, 0 to 0xFFFF (R94, R198). -/
def factorOf (y : Int) : Nat := (clampInt 0 0x1FFFE y).toNat / 2

/-- A power-multiplier input of an engine (R94): 1.0 without a route and with an invalid source. -/
def State.mulInput (s : State) (n input : Nat) : Nat :=
  match s.sink? 4 n input with
  | some (y, true) => factorOf y
  | _ => 0x8000

/-- The new values of a route, and of no other, take effect (R92). -/
def State.applySwitch (w : RouteSwitch) (s : State) : State :=
  let set (e : Eph) : Eph := { e with routes := e.routes.modify w.route fun r =>
    { r with scale := w.scale, offset := w.offset, holdLast := w.holdLast } }
  { s with eph := { s.eph with eph := s.eph.eph.map set } }

/-- ROUTE_SWITCH (R92): the oldest switch of a route, presented before the tick that begins its
sample S. -/
def execRouteSwitch (route : Nat) (s : State) : Host.Outcome State Fault Refusal :=
  match s.eph.switches.find? fun w => w.route == route && decide (w.at_ ≤ s.ix + 1) with
  | none => .next s
  | some w =>
    .next (({ s with eph := { s.eph with switches := s.eph.switches.erase w } }).applySwitch w)

end Sys2Proof.Machine
end

