-- ==== Sys2Proof/Machine/Operands.lean ====
section
/-!
DEFINITION. The operand forms: submission entries read at the offsets of R117, and the checks that
commands share. Offsets are those of the 64-byte entry, as RESULT1 reports them (R118).
-/

namespace Sys2Proof.Machine

/-- `k` bytes of PARAMS at entry offset `o` (0x18 or more), unsigned (R117). -/
def Entry.u (e : Entry) (o k : Nat) : Nat := uAt e.params (o - 0x18) k

/-- `k` bytes of PARAMS at entry offset `o`, in two's complement (R117). -/
def Entry.s (e : Entry) (o k : Nat) : Int := sAt e.params (o - 0x18) k

/-- The bytes of PARAMS at entry offset `o`. -/
def Entry.bytes (e : Entry) (o k : Nat) : List Byte := slice e.params (o - 0x18) k

/-- The data bytes that come with an entry: the host buffer's, or the inline data of a frame. -/
def Entry.dataLen (e : Entry) : Nat :=
  match e.origin with
  | .queue _ => e.bufLen.toNat
  | .frame _ => e.data.length

/-- The data of an entry, `k` bytes from offset `o`. -/
def Entry.d (e : Entry) (o k : Nat) : Nat := uAt e.data o k

/-- The same in two's complement. -/
def Entry.ds (e : Entry) (o k : Nat) : Int := sAt e.data o k

/-- The entry came in a management-port frame. -/
def Entry.inline (e : Entry) : Bool :=
  match e.origin with
  | .queue _ => false
  | .frame _ => true

/-- How much returned data the command may write: BUF_LEN, or 1,344 bytes of a reply frame (R126). -/
def Entry.room (e : Entry) : Nat :=
  match e.origin with
  | .queue _ => e.bufLen.toNat
  | .frame _ => 1344

/-- A failing check: STATUS, and the offset that RESULT1[31:0] reports (R118). -/
structure Bad where
  code : Code
  ofs : Nat := 0
  obj : Nat := 0
  deriving DecidableEq, Repr

/-- RESULT1 of a rejection or fault (R118). -/
def Bad.r1 (b : Bad) : W64 := BitVec.ofNat 64 (b.ofs % 2 ^ 32 + (b.obj % 2 ^ 16) * 2 ^ 32)

/-- The first check of a list that fails. -/
def firstBad : List (Bool × Bad) → Option Bad
  | [] => none
  | (true, b) :: _ => some b
  | (false, _) :: r => firstBad r

/-- PARAMS bytes that a command leaves reserved: entry offset and length, all zero (R117). -/
def Entry.zeroFrom (e : Entry) (o k : Nat) : Bool × Bad :=
  let b := e.bytes o k
  (!allZero b, { code := 0x0205, ofs := o + firstNonzero b })

end Sys2Proof.Machine
end

