-- ==== Sys2Proof/Machine/Commands.lean ====
section
/-!
DEFINITION. The command dispatcher: what every submission entry passes before its command's own
checks (R104, R116–R122, R125, R127–R134).
-/

namespace Sys2Proof.Machine

/-! ## Opcodes and roles (R130–R132) -/

/-- The commands defined in each group, by opcode. -/
def knownOpcodes : List Nat :=
  [0x0100, 0x0140, 0x0141, 0x0142, 0x0143, 0x0144, 0x0145, 0x0146,
   0x0200, 0x0240, 0x0241, 0x0242, 0x0243,
   0x0300, 0x0340, 0x0301, 0x0341, 0x0441, 0x0442,
   0x0500, 0x0501, 0x0502, 0x0540, 0x0543, 0x0544] ++
  [0x0600, 0x0640, 0x0641, 0x0642, 0x0643, 0x0644, 0x0645, 0x0646, 0x0647,
   0x0700, 0x0701, 0x0702, 0x0703, 0x0740, 0x0741, 0x0742,
   0x0800, 0x0840, 0x0841, 0x0A00, 0x0A40,
   0x0B00, 0x0B40, 0x0B41, 0x0B42, 0x0C00, 0x0C01, 0x0C40] ++
  [0x0D00, 0x0D40, 0x0D41, 0x0D42, 0x0D43, 0x0D44,
   0x0E00, 0x0E40, 0x0E41, 0x0F01, 0x0F40]

/-- The roles that R104's management plane dispatches commands for. -/
def companionOpcodes : List Nat := [0x0E00, 0x0E41, 0x0C01, 0x0B00, 0x0B40]

/-- The roles that permit an action (R75, R130). -/
def actionRoles (op : Nat) : BitVec 4 :=
  let p := rolePilot
  let sv := roleService
  let k := roleKeeper
  match op / 256 with
  | 0x01 =>
    if op = 0x0140 ∨ op = 0x0141 then k
    else if op = 0x0142 ∨ op = 0x0143 then p ||| k
    else if op = 0x0146 then p ||| sv
    else p
  | 0x02 => p
  | 0x03 => p
  | 0x04 => p ||| sv
  | 0x05 => p ||| sv
  | 0x06 => p ||| sv
  | 0x07 => p ||| sv
  | 0x08 => p ||| sv
  | 0x09 => p ||| sv
  | 0x0A => p ||| k
  | 0x0B => if op = 0x0B42 then k else p ||| sv ||| k
  | 0x0C => 0xF
  | 0x0D => k
  | 0x0E => p ||| k
  | 0x0F => sv
  | _ => 0

/-- The companion die dispatches management frames itself (R104, R125). -/
def State.companionMode (s : State) : Bool := s.power.umbra != .awake || s.power.faultOff

/-- The role that a slot lacks for an opcode, as a rejection (R131, R132). -/
def State.roleBad (s : State) (slot op : Nat) : Option Code :=
  let held := (s.slot slot).held
  if held = 0 then some 0x0306
  else if op % 256 < 0x40 then none
  else if held &&& actionRoles op = 0 then some 0x0302
  else if (op / 256 = 0x05 ∨ op / 256 = 0x06) ∧ held &&& rolePilot = 0 ∧ s.inBuild then some 0x0403
  else none

/-- The entry checks of R117, in the order of the fields. -/
def Entry.bad (e : Entry) : Option Bad :=
  let op := e.opcode.toNat
  firstBad [
    (op / 256 = 0 || decide (0x0F < op / 256), { code := 0x0101 }),
    (!knownOpcodes.contains op, { code := 0x0102 }),
    (decide (4 ≤ e.flags.toNat), { code := 0x0205, ofs := 0x02 }),
    (e.cmdId == 0xFFFF, { code := 0x0204, ofs := 0x04 }),
    (e.res06 != 0, { code := 0x0205, ofs := 0x06 }),
    (e.bufAddr.toNat % 64 != 0, { code := 0x0207, ofs := 0x08 }),
    (decide (16777216 < e.bufLen.toNat), { code := 0x0206, ofs := 0x10 }),
    (e.res14 != 0, { code := 0x0205, ofs := 0x14 })]

/-! ## Answers -/

/-- The queue number that ERR_LAST_ADDR and SQ_ID give for a command. -/
def EntryOrigin.sqId : EntryOrigin → Nat
  | .queue q => q
  | .frame _ => 0

/-- The device refuses a command before accepting it (R134). -/
def State.reject (f : Flight) (b : Bad) (s : State) : State :=
  (s.refuse f.port (some f.slot) b.code f.origin.sqId).finish f b.code 0 b.r1 false []

/-- A command completes with OK. -/
def State.ok (f : Flight) (r0 r1 : Nat) (data : List Byte) (s : State) : State :=
  s.finish f 0 (BitVec.ofNat 64 r0) (BitVec.ofNat 64 r1) false data

/-- A command is under way: it completes later. -/
def State.launch (f : Flight) (s : State) : State :=
  if s.host.flights.any fun g => g.id == f.id then s
  else { s with host := { s.host with flights := s.host.flights ++ [f] } }

/-- A command runs when none of its checks fails. -/
def State.checked (f : Flight) (checks : List (Bool × Bad)) (k : State → State) (s : State) : State :=
  match firstBad checks with
  | some b => s.reject f b
  | none => k s

/-! ## DEFERRED (R118) -/

/-- The place of a Syzygy step in the sequence (R162). -/
def Syzygy.step : Syzygy → Nat
  | .none => 0 | .waitOpen => 0 | .recoat => 1 | .image => 2 | .transition => 3 | .commits => 4 | .start => 5

/-- A FINAL layer runs or is being prepared: no further layer can open, and a deferred change waits for DATA_STATE 1
(R118). -/
def State.finalNow (s : State) : Bool :=
  let final (l : W32) : Bool := s.job.layers.any fun x => x.num == l && x.final
  match s.job.running with
  | some l => final l
  | none => s.job.layers.head?.any fun x => final x.num

/-- A change that was deferred to the end of the build waits for DATA_STATE 1. -/
def State.mayApply (s : State) (atEnd : Bool) : Bool := !atEnd || s.planes.data == .idle

/-- RESULT0 of DEFERRED for a change that step `n` carries out: the first layer whose sequence has not
begun that step, or all ones when a FINAL layer runs or is being prepared. -/
def State.firstLayer (s : State) (n : Nat) : W64 :=
  let after (l : W32) : W64 := (l + 1).setWidth 64
  if s.finalNow then -1
  else match s.job.running with
  | some l => after l
  | none =>
    let l := s.job.layers.head?.elim (s.job.lastOpened.elim 0 (· + 1)) (·.num)
    if s.job.syzygy.step < n then l.setWidth 64 else after l

/-! ## Management frames (R127–R129) -/

/-- A frame that is refused: the reply goes to its sender and no slot is charged (R128). `addr` is the offset of a
register frame, and 0 for any other (R115). -/
def State.refuseFrame (addr : Nat) (h : FrameHdr) (c : Code) (s : State) : State :=
  (s.refuse 2 none c addr).send (.reply h (.code c))

/-- Is the slot bound to the management port? -/
def State.mgmtSlot (s : State) (i : Nat) : Bool := decide (i < 8) && s.portOf i == 2

/-- The MGMT domain is clocked for a management frame or a wake event (R24). -/
def State.clockMgmt (s : State) : State :=
  { s with power := { s.power with domains := s.power.domains ||| 2, mgmtIdle := 0 } }

/-- A SEQ taken into a session: it becomes the highest seen, and one of the last 32 (R129). -/
def Session.take (q : W32) (ss : Session) : Session :=
  { ss with highest := some q, replies := ((q, none) :: ss.replies).take 32 }

/-- A frame of an open session is taken once: `true` with its SEQ noted, or `false` with the answer
given or the frame dropped (R128, R129). -/
def State.takeFrameAt (addr : Nat) (h : FrameHdr) (s0 : State) : Bool × State :=
  let s := s0.clockMgmt
  if !s.mgmtSlot h.slot then (false, s.refuseFrame addr h 0x0304)
  else match (s.slot h.slot).session with
    | none => (false, s.refuseFrame addr h 0x0307)
    | some ss =>
      if ss.sender ≠ h.sender then (false, s.refuseFrame addr h 0x0307)
      else
        let fresh := match ss.highest with
          | none => true
          | some hi => decide (0 < seqDiff 32 h.seq.toNat hi.toNat)
        if fresh then
          (true, s.modSlot h.slot fun sl => { sl with session := some (ss.take h.seq) })
        else match (ss.replies.find? fun r => r.1 == h.seq).bind (·.2) with
          | some b => (false, s.send (.reply h b))
          | none => (false, s)

/-- A frame that is no register frame is taken. -/
def State.takeFrame (h : FrameHdr) (s : State) : Bool × State := s.takeFrameAt 0 h

/-- The management plane answers frames: it runs its firmware (R475, R515). -/
def State.answersFrames (s : State) : Bool := s.planes.mgmt == .running

/-- A frame that no firmware answers: held while the management core restarts, up to 32, and else dropped
(R475, R515). -/
def State.holdFrame (x : HeldFrame) (s : State) : State :=
  if s.planes.mgmt = .restarting ∧ s.host.heldFrames.length < 32 then
    { s with host := { s.host with heldFrames := s.host.heldFrames ++ [x] } }
  else s

/-- The CRC of a frame covers all of its bytes before it (R126, R484). -/
def frameCrcOk (b : List Byte) : Bool :=
  decide (20 ≤ b.length) && crc32c (b.take (b.length - 4)) == BitVec.ofNat 32 (uAt b (b.length - 4) 4)

/-! ## Dispatch -/

/-- A number for a command that has been dispatched. -/
def State.newFlight (slot : Nat) (e : Entry) (s : State) : Flight × State :=
  ({ id := s.host.nextFlight, slot := slot, port := s.portOf slot, origin := e.origin, cmdId := e.cmdId,
     irq := e.flags.getLsbD 1, opcode := e.opcode, bufAddr := e.bufAddr },
   { s with host := { s.host with nextFlight := s.host.nextFlight + 1 } })

/-- An UPD_ACTIVATE refused by R474, whose first check is the role: RESULT of TRUST_UPD_STATUS reads 4. -/
def State.noteRefused (op : Nat) (s : State) : State :=
  if op = 0x0D42 then { s with boot := { s.boot with updResult := 4 } } else s

/-- The checks that every command passes after its entry is taken (R117, R125, R131, R132). -/
def State.judge (f : Flight) (e : Entry) (body : Flight → State → State) (s : State) : State :=
  match e.bad with
  | some b => s.reject f b
  | none =>
    let op := e.opcode.toNat
    if s.companionMode && (!e.inline || !companionOpcodes.contains op) then s.reject f { code := 0x0508 }
    else match s.roleBad f.slot op with
      | some c => (s.noteRefused op).reject f { code := c }
      | none => body f s

/-- A queue of slot `i` holds an entry that may be fetched (R116, R121, R122). -/
def State.queueReady (s : State) (i : Nat) (qu : Queue) : Bool :=
  let p := s.port (s.portOf i)
  p.linkUp && !p.d3hot && qu.enable && !qu.error && qu.sqHead != qu.sqTail && !qu.cqFull && qu.waiting.isEmpty

/-- A command of queue `q` is under way. -/
def State.busyQueue (s : State) (q : Nat) : Bool := s.host.flights.any fun f => f.origin == .queue q

/-- Queue `q` can give an entry whatever its flags: one that may be fenced waits (R121). -/
def State.canGive (s : State) (q : Nat) (qu : Queue) : Bool :=
  (s.queueSlot? q).any (s.queueReady · qu) && !s.busyQueue q

/-- How far the turn of queue `q` is off: 0 while it is that queue's turn and its WEIGHT is not used up. The turn
goes round in ascending queue numbers (log entry 51). -/
def State.turnOff (s : State) (q : Nat) : Nat :=
  if q = s.host.rrQueue ∧ s.host.rrGiven < (s.queue q).weight then 0 else (q + 255 - s.host.rrQueue) % 256 + 1

/-- Queue `q` has the turn of the weighted round robin: no queue that can give comes before it (R120). -/
def State.hasTurn (s : State) (q : Nat) : Bool :=
  !s.host.queues.any fun x => s.canGive x.1 x.2 && decide (s.turnOff x.1 < s.turnOff q)

/-- A session gives one entry per turn: a second one waits while a queue can give (R120). -/
def State.sessionTurn (s : State) (slot : Nat) : Bool :=
  !(s.host.rrSessions.contains slot && s.host.queues.any fun x => s.canGive x.1 x.2)

/-- The dispatcher runs, or it refuses what companion-die commands do not cover (R104, R124, R433 step 1). -/
def State.dispatches (s : State) : Bool := s.planes.ctl == .running || s.companionMode

/-- The dispatcher may take the next entry of a queue (R116, R120, R121). -/
def State.mayTake (s : State) (i q : Nat) (e : Entry) : Bool :=
  s.queueReady i (s.queue q) && s.dispatches && s.hasTurn q && !(e.flags.getLsbD 0 && s.busyQueue q)

/-- An entry is taken from queue `q`: SQ_HEAD moves on, and the turn with it (R120). -/
def State.takeEntry (q : Nat) (s : State) : State :=
  let given := if s.turnOff q = 0 then s.host.rrGiven + 1 else 1
  let s := s.modQueue q fun qu => { qu with sqHead := (qu.sqHead + 1) % (qu.sqM1 + 1) }
  { s with host := { s.host with rrQueue := q, rrGiven := given, rrSessions := [] } }

/-- A command frame is taken from the session of a slot (R120, R128). -/
def State.takeCommand (h : FrameHdr) (s : State) : Bool × State :=
  let a := s.takeFrame h
  (a.1, if a.1 then { a.2 with host := { a.2.host with rrSessions := h.slot :: a.2.host.rrSessions } } else a.2)

/-- Reading a host buffer has failed (R122): the queue stops. -/
def State.dmaFailed (f : Flight) (s : State) : State :=
  let s := s.reject f { code := 0x070A }
  match f.origin with
  | .queue q => s.modQueue q fun qu => { qu with error := true }
  | .frame _ => s

/-- The dispatcher takes a submission entry and runs its command. An entry that it may not take yet
stays where it is: nothing changes. -/
def State.submit (op : W16) (e : Entry) (body : Flight → State → State) (s : State) : State :=
  match e.origin with
  | .queue q =>
    match s.queueSlot? q with
    | none => s
    | some i =>
      if !s.mayTake i q e then s
      else
        let r := (s.takeEntry q).newFlight i e
        -- a JOB_SUBMIT reads its buffer at step 12 of its own checks (R148)
        if e.dmaOk || op == 0x0242 then r.2.judge r.1 e body else r.2.dmaFailed r.1
  | .frame h =>
    if !s.answersFrames then s.holdFrame (.entry e)
    else if !s.dispatches || !s.sessionTurn h.slot then s
    else
      let a := s.takeCommand h
      if !a.1 then a.2
      else
        let r := a.2.newFlight h.slot e
        if e.bufAddr != 0 then r.2.reject r.1 { code := 0x0104 }
        else r.2.judge r.1 e body

/-- A command row: the entry's effect when it carries the row's opcode. -/
def State.command (op : W16) (e : Entry) (body : Flight → State → State) (s : State) :
    Host.Outcome State Fault Refusal :=
  .next (if e.opcode = op then s.submit op e body else s)

end Sys2Proof.Machine
end

