-- ==== Sys2Proof/Machine/EphParse.lean ====
section
/-!
DEFINITION. From container bytes to the parsed ephemeris (R37–R70). Nothing here judges a value;
EphCheck.lean does.
-/

namespace Sys2Proof.Machine

/-- One section: type, offset of its header, offset and length of its body (R39). -/
structure Sect where
  ty : Nat
  hdr : Nat
  ofs : Nat
  len : Nat
  deriving DecidableEq, Repr

/-- The section of a type, if the container has it. -/
def sectOf (l : List Sect) (ty : Nat) : Option Sect := l.find? fun x => x.ty == ty

/-- `n` entries of `k` bytes from offset `o`, with their offsets. -/
def entriesAt (d : List Byte) (o k n : Nat) : List (Nat × List Byte) :=
  (List.range n).map fun i => (o + k * i, slice d (o + k * i) k)

/-- The polygon of an entry: `n` vertices from offset `o` (R44, R48). -/
def polyAt (e : List Byte) (o n : Nat) : List (Int × Int) :=
  (List.range n).map fun i => (sAt e (o + 8 * i) 4, sAt e (o + 8 * i + 4) 4)

def bitAt (e : List Byte) (o i : Nat) : Bool := (uAt e o 1).testBit i

def parseMachine (b : List Byte) : EphMachine where
  machineId := BitVec.ofNat 64 (uAt b 0 8)
  bedXMin := sAt b 8 4
  bedXMax := sAt b 0x0C 4
  bedYMin := sAt b 0x10 4
  bedYMax := sAt b 0x14 4
  gasX := sAt b 0x18 2
  gasY := sAt b 0x1A 2
  headCount := uAt b 0x1C 1
  laserCount := uAt b 0x1D 1

def parseHead (b : List Byte) : EphHead where
  head := uAt b 0 1
  moonlink := uAt b 1 1
  forceDetect := bitAt b 2 0
  farLoop := bitAt b 2 1
  vendor := uAt b 4 2
  model := uAt b 6 2
  minFw := uAt b 8 2
  roiSize := uAt b 0x0A 1
  roiKfps := uAt b 0x0B 1
  caps := uAt b 0x0C 4
  mountX := sAt b 0x10 4
  mountY := sAt b 0x14 4
  mountZ := sAt b 0x18 4
  yaw := sAt b 0x1C 4
  pitch := sAt b 0x20 4
  roll := sAt b 0x24 4
  gridX0 := sAt b 0x28 4
  gridY0 := sAt b 0x2C 4
  gridPitch := sAt b 0x30 4
  gridCrc := BitVec.ofNat 32 (uAt b 0x34 4)
  parkX := sAt b 0x38 4
  parkY := sAt b 0x3C 4
  polygon := polyAt b 0x48 (uAt b 0x40 1)

def parseLaser (b : List Byte) : EphLaser where
  laser := uAt b 0 1
  head := uAt b 1 1
  gateInvert := bitAt b 2 0
  ratedMw := uAt b 4 4
  powerCeil := uAt b 8 2
  powerFloor := uAt b 0x0A 2
  wavelength := uAt b 0x0C 2
  gateSkew := sAt b 0x0E 2
  slew := uAt b 0x10 2

def parseZone (b : List Byte) : EphZone where
  headMask := uAt b 0 4
  seamsAllowed := bitAt b 5 0
  polygon := polyAt b 8 (uAt b 4 1)

def parseClass (b : List Byte) : EphClass where
  minSep := uAt b 0 4
  coneHalf := uAt b 4 2
  sepOn := bitAt b 6 0
  coneOn := bitAt b 6 1
  coneLen := uAt b 8 4

def parseRoute (b : List Byte) : EphRoute where
  srcType := uAt b 0 1
  srcIndex := uAt b 1 1
  srcField := uAt b 2 1
  signed := bitAt b 3 0
  holdLast := bitAt b 3 1
  sinkType := uAt b 4 1
  sinkIndex := uAt b 5 1
  sinkInput := uAt b 6 1
  scale := sAt b 8 4
  offset := sAt b 0x0C 4

def parseLoop (b : List Byte) : EphLoop where
  slot := uAt b 0 1
  kind := uAt b 1 1
  target := uAt b 2 1
  startAuto := bitAt b 3 0
  period := uAt b 4 4
  defaultSet := uAt b 8 1
  feTimer := uAt b 0x0A 2
  feLimit := sAt b 0x0C 4

/-- The values of a set from the bytes after its SET field (R54, and R276 for a write). -/
def parseCoef (b : List Byte) : CoefSet where
  kp := sAt b 4 4
  ki := sAt b 8 4
  kd := sAt b 0x0C 4
  kff := sAt b 0x10 4
  outMin := sAt b 0x14 4
  outMax := sAt b 0x18 4
  outSlew := sAt b 0x1C 4

def parseAxis (b : List Byte) : EphAxis where
  axis := uAt b 0 1
  role := uAt b 1 1
  stepIn := bitAt b 2 0
  quad := bitAt b 2 1
  ssi := bitAt b 2 2
  homePositive := bitAt b 2 3
  limPosLow := bitAt b 2 4
  limNegLow := bitAt b 2 5
  homeLow := bitAt b 2 6
  ustepPerMm := uAt b 4 4
  vMax := uAt b 8 4
  aMax := uAt b 0x0C 4
  jMax := uAt b 0x10 4
  softMin := sAt b 0x14 4
  softMax := sAt b 0x18 4
  debounce := uAt b 0x1C 2
  ssiBits := uAt b 0x1E 1
  ssiClk := uAt b 0x1F 1
  encPerUstep := uAt b 0x20 4
  devWindow := uAt b 0x24 4
  aStop := uAt b 0x28 4

def parseSensor (b : List Byte) : EphSensor where
  sensor := uAt b 0 1
  port := uAt b 1 1
  vc := uAt b 2 1
  dataType := uAt b 3 1
  width := uAt b 4 2
  height := uAt b 6 2
  lanes := uAt b 8 1
  laneRate := uAt b 9 1
  context := uAt b 0x0A 1
  mode := uAt b 0x0B 1
  stripe := uAt b 0x0C 2
  latencyK := uAt b 0x0E 1
  cfa := uAt b 0x0F 1
  cciAddr := uAt b 0x10 1
  cciBus := uAt b 0x11 1
  fpsMax := uAt b 0x12 2
  strobeMask := uAt b 0x14 4
  embLines := uAt b 0x18 1

def parseHaloCh (b : List Byte) : EphHaloCh where
  enable := uAt b 0 1 == 1
  current := uAt b 1 1
  vf := uAt b 2 2
  dutyMax := uAt b 4 2

def parseHalo (b : List Byte) : EphHalo where
  globalRef := uAt b 0 1
  pwmBits := uAt b 1 1
  stretchInt := uAt b 2 1
  stretchOn := bitAt b 3 0
  neighbourTest := bitAt b 3 1
  vled := uAt b 4 2
  channels := (entriesAt b 8 8 24).map fun e => parseHaloCh e.2

def parseTherm (b : List Byte) : EphTherm where
  kind := uAt b 0 1
  ideality := sAt b 1 1
  eclipseAll := bitAt b 2 0
  riseWin := uAt b 3 1
  high := sAt b 4 2
  low := sAt b 6 2
  riseMax := uAt b 8 2
  eclipseMask := BitVec.ofNat 32 (uAt b 0x0C 4)
  beta := uAt b 0x10 2

def parseHeater (b : List Byte) : EphHeater where
  enable := uAt b 0 1 == 1
  period := uAt b 2 2
  dutyMax := uAt b 4 2
  safeDuty := uAt b 6 2

def parseThermal (b : List Byte) : EphThermal where
  nvSensor := uAt b 0 1
  nvLow := sAt b 2 2
  nvHigh := sAt b 4 2
  sensors := (entriesAt b 8 24 22).map fun e => parseTherm e.2
  heaters := (entriesAt b 536 8 8).map fun e => parseHeater e.2

def parseRing (b : List Byte) : EphRing where
  mode := uAt b 0 1
  portA := bitAt b 1 0
  portB := bitAt b 1 1
  bypass := bitAt b 1 2
  mac := beNat (slice b 4 6)
  vlan := uAt b 0x0A 2
  domainA := uAt b 0x0C 1
  domainB := uAt b 0x0D 1
  preferred := uAt b 0x0E 1
  logSync := sAt b 0x0F 1
  epochS := uAt b 0x10 8
  epochNs := uAt b 0x18 4
  holdover := uAt b 0x1C 4
  switchNs := uAt b 0x20 4

/-- A HOSTS entry in the coding of HOST_SLOT_STATUS; an unused entry's other fields are ignored
(R547). -/
def parseHost (b : List Byte) : SlotCfg :=
  if uAt b 0 1 = 0xFF then {}
  else
    { port := uAt b 0 1, roles := BitVec.ofNat 4 (uAt b 1 1), qFirst := uAt b 2 1,
      qCount := uAt b 3 1, msixFirst := uAt b 4 1, msixCount := uAt b 5 1 }

def parseDram (b : List Byte) : EphDram where
  capacity := uAt b 0 1
  rate := uAt b 1 1
  nrK := uAt b 2 1
  fsp := bitAt b 3 0
  scrubH := uAt b 4 2
  vendor := uAt b 6 1
  pasr := BitVec.ofNat 64 (uAt b 8 8)

def parseDisplay (b : List Byte) : EphDisplay where
  enable := uAt b 0 1 == 1
  lanes := uAt b 1 1
  link := uAt b 2 1
  format := uAt b 3 1
  width := uAt b 4 2
  height := uAt b 6 2
  hblank := uAt b 8 2
  vblank := uAt b 0x0A 2
  syncHz := uAt b 0x0C 1
  staticDiv := uAt b 0x0D 1
  background := beNat (slice b 0x0E 3)

def parseCal (b : List Byte) : EphCal where
  cleis := uAt b 0 1 == 1
  deltaT := uAt b 1 1
  subjects := uAt b 2 1

def parseCurve (b : List Byte) : List (Nat × Nat) :=
  (List.range 32).map fun i => (uAt b (4 * i) 2, uAt b (4 * i + 2) 2)

def parsePeri (b : List Byte) : EphPeri where
  enable := uAt b 0 1 == 1
  pitch := uAt b 2 2
  x0 := sAt b 4 4
  y0 := sAt b 8 4
  alpha := uAt b 0x0C 2
  decay := uAt b 0x0E 2
  under := uAt b 0x10 2
  biasComp := sAt b 0x12 2
  gain := uAt b 0x14 4
  curves := (entriesAt b 64 128 (uAt b 1 1)).map fun e => parseCurve e.2

/-- The body of the section of a type; empty when it is absent. -/
def bodyOf (d : List Byte) (l : List Sect) (ty : Nat) : List Byte :=
  match sectOf l ty with
  | some x => slice d x.ofs x.len
  | none => []

/-- The entries of a counted section: preamble of 8 bytes, entries of `k` bytes (R42). -/
def countedEntries (b : List Byte) (k n : Nat) : List (List Byte) :=
  (entriesAt b 8 k n).map Prod.snd

/-- The whole container, parsed (R37–R70). -/
def parseEph (d : List Byte) (l : List Sect) : Eph :=
  let b ty := bodyOf d l ty
  let has ty := (sectOf l ty).isSome
  let lp := b 7
  let signed := bitAt d 6 0
  let bl := uAt d 8 4
  { sequence := BitVec.ofNat 32 (uAt d 0x0C 4)
    signed := signed
    digest := sha384 d
    signerDigest := if signed then sha384 (slice d (64 + bl + 4) 97) else 0
    machine := parseMachine (b 1)
    heads := (entriesAt (b 2) 0 200 ((b 2).length / 200)).map fun e => parseHead e.2
    lasers := (entriesAt (b 3) 0 32 ((b 3).length / 32)).map fun e => parseLaser e.2
    zones := (countedEntries (b 4) 264 (uAt (b 4) 0 2)).map parseZone
    classes := (entriesAt (b 5) 0 16 16).map fun e => parseClass e.2
    routes := (countedEntries (b 6) 16 (uAt (b 6) 0 2)).map parseRoute
    loops := (countedEntries lp 16 (uAt lp 0 1)).map parseLoop
    sets := (entriesAt lp (8 + 16 * uAt lp 0 1) 32 (uAt lp 2 2)).map
      fun e => (uAt e.2 0 1, parseCoef e.2)
    axes := (countedEntries (b 8) 48 (uAt (b 8) 0 1)).map parseAxis
    sensors := (countedEntries (b 9) 32 (uAt (b 9) 0 1)).map parseSensor
    halo := if has 0x0A then some (parseHalo (b 0x0A)) else none
    thermal := parseThermal (b 0x0B)
    ring := parseRing (b 0x0C)
    hosts := (entriesAt (b 0x0D) 0 8 8).map fun e => parseHost e.2
    dram := parseDram (b 0x0E)
    display := if has 0x0F then some (parseDisplay (b 0x0F)) else none
    cal := if has 0x10 then some (parseCal (b 0x10)) else none
    peri := if has 0x11 then some (parsePeri (b 0x11)) else none }

end Sys2Proof.Machine
end

