-- ==== Sys2Proof/Machine/Geometry.lean ====
section
/-!
DEFINITION. Exact polygon tests over integer points: convexity, simplicity, containment and shared
interior (R44, R48, R49), used again by the track-word checks and the arbiter.
-/

namespace Sys2Proof.Machine

/-- Twice the signed area of the triangle o a b. -/
def cross2 (o a b : Int × Int) : Int := (a.1 - o.1) * (b.2 - o.2) - (a.2 - o.2) * (b.1 - o.1)

/-- The edges of a polygon. -/
def edgesOf (p : List (Int × Int)) : List ((Int × Int) × (Int × Int)) :=
  p.zip (p.drop 1 ++ p.take 1)

/-- Twice the signed area of a polygon. -/
def area2 (p : List (Int × Int)) : Int :=
  ((edgesOf p).map fun e => e.1.1 * e.2.2 - e.2.1 * e.1.2).sum

/-- Convex and counter-clockwise (R44). -/
def convexCcw (p : List (Int × Int)) : Bool :=
  decide (0 < area2 p) && (edgesOf p).all fun e => p.all fun q => decide (0 ≤ cross2 e.1 e.2 q)

/-- A point inside or on the edge of a convex counter-clockwise polygon. -/
def inConvex (p : List (Int × Int)) (q : Int × Int) : Bool :=
  (edgesOf p).all fun e => decide (0 ≤ cross2 e.1 e.2 q)

/-- Does `q` lie on the segment? -/
def onSeg (e : (Int × Int) × (Int × Int)) (q : Int × Int) : Bool :=
  decide (cross2 e.1 e.2 q = 0) &&
    (decide (min e.1.1 e.2.1 ≤ q.1) && (decide (q.1 ≤ max e.1.1 e.2.1) &&
      (decide (min e.1.2 e.2.2 ≤ q.2) && decide (q.2 ≤ max e.1.2 e.2.2))))

/-- Do two segments cross at an inner point of both? -/
def crossSeg (e f : (Int × Int) × (Int × Int)) : Bool :=
  decide (cross2 f.1 f.2 e.1 * cross2 f.1 f.2 e.2 < 0) &&
    decide (cross2 e.1 e.2 f.1 * cross2 e.1 e.2 f.2 < 0)

/-- Do two segments share a point? -/
def meetSeg (e f : (Int × Int) × (Int × Int)) : Bool :=
  crossSeg e f || (onSeg f e.1 || (onSeg f e.2 || (onSeg e f.1 || onSeg e f.2)))

/-- Counter-clockwise with no self-intersection (R48): no two edges that are not neighbours share
a point. -/
def simpleCcw (p : List (Int × Int)) : Bool :=
  let es := edgesOf p
  let n := es.length
  decide (0 < area2 p) &&
    es.zipIdx.all fun a => es.zipIdx.all fun b =>
      !(decide (a.2 + 2 ≤ b.2) && (!(a.2 == 0 && b.2 + 1 == n) && meetSeg a.1 b.1))

/-- Where edge `e` is cut by edge `f`, as fractions of `e`. -/
def cutsOf (e f : (Int × Int) × (Int × Int)) : List Rat :=
  let d1 := cross2 f.1 f.2 e.1
  let d2 := cross2 f.1 f.2 e.2
  let ends := [f.1, f.2].filterMap fun q =>
    if onSeg e q then
      let dx := e.2.1 - e.1.1
      let dy := e.2.2 - e.1.2
      let l2 := dx * dx + dy * dy
      if l2 = 0 then none
      else some (mkRat ((q.1 - e.1.1) * dx + (q.2 - e.1.2) * dy) l2.toNat)
    else none
  if d1 * d2 < 0 ∧ meetSeg e f then (d1 : Rat) / ((d1 - d2 : Int) : Rat) :: ends else ends

/-- Where a point with rational coordinates lies against a simple polygon: 1 inside, 0 outside,
2 on an edge, with that edge. -/
def locate (p : List (Int × Int)) (x y : Rat) : Nat × Option ((Int × Int) × (Int × Int)) :=
  let onE (e : (Int × Int) × (Int × Int)) : Bool :=
    let c := ((e.2.1 - e.1.1 : Int) : Rat) * (y - e.1.2) - ((e.2.2 - e.1.2 : Int) : Rat) * (x - e.1.1)
    decide (c = 0) && (decide (((min e.1.1 e.2.1 : Int) : Rat) ≤ x) &&
      (decide (x ≤ ((max e.1.1 e.2.1 : Int) : Rat)) &&
        (decide (((min e.1.2 e.2.2 : Int) : Rat) ≤ y) && decide (y ≤ ((max e.1.2 e.2.2 : Int) : Rat)))))
  match (edgesOf p).find? onE with
  | some e => (2, some e)
  | none =>
    let hit (e : (Int × Int) × (Int × Int)) : Bool :=
      let up := decide ((e.1.2 : Rat) ≤ y) && decide (y < (e.2.2 : Rat))
      let dn := decide ((e.2.2 : Rat) ≤ y) && decide (y < (e.1.2 : Rat))
      let c := ((e.2.1 - e.1.1 : Int) : Rat) * (y - e.1.2) - ((e.2.2 - e.1.2 : Int) : Rat) * (x - e.1.1)
      (up && decide (0 < c)) || (dn && decide (c < 0))
    (((edgesOf p).filter hit).length % 2, none)

/-- Does part of the edge `e` bound interior that polygon `q` shares? Each piece of `e` between its
cuts is judged at its middle: inside `q`, or on an edge of `q` that runs the same way. -/
def edgeShares (q : List (Int × Int)) (e : (Int × Int) × (Int × Int)) : Bool :=
  let cuts := sortBy (fun a b : Rat => decide (a ≤ b)) ((0 : Rat) :: 1 :: (edgesOf q).flatMap (cutsOf e))
  (cuts.zip (cuts.drop 1)).any fun ab =>
    decide (ab.1 < ab.2) &&
      (let t := (ab.1 + ab.2) / 2
       let x := (e.1.1 : Rat) + t * ((e.2.1 - e.1.1 : Int) : Rat)
       let y := (e.1.2 : Rat) + t * ((e.2.2 - e.1.2 : Int) : Rat)
       match locate q x y with
       | (1, _) => true
       | (2, some f) =>
         decide (0 < (e.2.1 - e.1.1) * (f.2.1 - f.1.1) + (e.2.2 - e.1.2) * (f.2.2 - f.1.2))
       | _ => false)

/-- Do two simple counter-clockwise polygons share interior area (R49)? -/
def shareInterior (p q : List (Int × Int)) : Bool :=
  (edgesOf p).any (edgeShares q) || (edgesOf q).any (edgeShares p)

end Sys2Proof.Machine
end

