-- ==== Sys2Proof/Machine/EphCheck.lean ====
section
/-!
DEFINITION. Validation of a staged container: stages 1 to 9 of R78 in their order, with the codes
of R79 and the sections and offsets of R80. Stage 10 depends on the state and stands with the
commit (Ephemeris.lean).
-/

namespace Sys2Proof.Machine

/-- One check of an entry: the offset of the field that places it in the order of R78, the offset it
reports (R80), does it hold, and the code it fails with. -/
structure Chk where
  key : Nat
  ofs : Nat
  ok : Bool
  code : Code

/-- A check of one field, which reports that field. -/
def fld (o : Nat) (ok : Bool) (c : Code) : Chk := ⟨o, o, ok, c⟩

/-- A check of field `key` against other entries or sections, which reports the entry's first byte
(R80). -/
def pair (key : Nat) (ok : Bool) (c : Code) : Chk := ⟨key, 0, ok, c⟩

/-- 500 mm in coordinate units of 0.25 µm. -/
def mm500 : Int := 2000000

/-- `lo ≤ z ≤ hi`. -/
def inRange (lo hi z : Int) : Bool := decide (lo ≤ z) && decide (z ≤ hi)

/-- A range check of R34. -/
def rng (o : Nat) (ok : Bool) : Chk := fld o ok 0x0214#16

/-- A reserved field or padding inside a body (R34). -/
def rsv (e : List Byte) (o k : Nat) : Chk := fld o (allZero (slice e o k)) 0x0215#16

/-- The first check that fails, by ascending field offset (R78) and then by order, with the offset it
reports shifted to the container. -/
def firstFail (sect base : Nat) (l : List Chk) : Option EphFail :=
  match (sortBy (fun a b : Chk => decide (a.key ≤ b.key)) l).find? fun c => !c.ok with
  | some c => some ⟨c.code, sect, base + c.ofs⟩
  | none => none

/-- The first failure of entries taken in ascending index. -/
def firstEntryFail (sect : Nat) : List (Nat × List Chk) → Option EphFail
  | [] => none
  | (base, l) :: r =>
    match firstFail sect base l with
    | some f => some f
    | none => firstEntryFail sect r

/-- The first failure of several groups of checks. -/
def firstOf : List (Option EphFail) → Option EphFail
  | [] => none
  | some f :: _ => some f
  | none :: r => firstOf r

/-- Each entry with the entries before it. -/
def withBefore {α : Type} (l : List α) : List (List α × α) :=
  l.zipIdx.map fun p => (l.take p.2, p.1)

/-- Stage 1 (R37, R78). -/
def stage1 (d : List Byte) : Option EphFail :=
  let total := 64 + uAt d 8 4 + uAt d 0x18 4
  if slice d 0 4 ≠ [0x45#8, 0x50#8, 0x48#8, 0x4D#8] then some ⟨0x0701, 0, 0⟩
  else if crc32c (slice d 0 0x3C) ≠ BitVec.ofNat 32 (uAt d 0x3C 4) then some ⟨0x0702, 0, 0x3C⟩
  else if 4194304 < total then some ⟨0x0601, 0, 8⟩
  else if d.length ≠ total then some ⟨0x0705, 0, 8⟩
  else none

/-- Stage 2 (R37). -/
def stage2 (d : List Byte) : Option EphFail :=
  let fl := uAt d 6 2
  let bl := uAt d 8 4
  let hf (o : Nat) (ok : Bool) : Chk := fld o ok 0x0210#16
  firstFail 0 0
    [hf 4 (uAt d 4 2 == 1), hf 6 (fl / 2 == 0), hf 8 (bl % 8 == 0 && decide (8 ≤ bl)),
     hf 0x10 (uAt d 0x10 2 == 0x0F32), hf 0x12 (uAt d 0x12 2 % 2 == 1),
     hf 0x18 (uAt d 0x18 4 == if fl % 2 = 1 then 200 else 0),
     hf 0x1C (allZero (slice d 0x1C 4)), hf 0x30 (allZero (slice d 0x30 12))]

/-- Stage 3: the signature section (R71). Its fixed fields and its reserved bytes are part of the
signature check (DEDUCED, log entry 12). -/
def stage3 (d : List Byte) : Option EphFail :=
  if uAt d 6 2 % 2 = 0 then none
  else
    let o := 64 + uAt d 8 4
    let g := slice d o 200
    let ok := uAt g 0 2 == 1 && (allZero (slice g 2 2) && (uAt g 4 1 == 4 &&
      (allZero (slice g 0x65 3) &&
        ecdsaVerify (beNat (slice g 5 48)) (beNat (slice g 53 48)) (beNat (slice g 0x68 48))
          (beNat (slice g 0x98 48)) (sha384 (slice d 0 o)))))
    if ok then none else some ⟨0x0703, 0, o⟩

/-- Stage 4: BODY_CRC. -/
def stage4 (d : List Byte) : Option EphFail :=
  if crc32c (slice d 64 (uAt d 8 4)) = BitVec.ofNat 32 (uAt d 0x14 4) then none
  else some ⟨0x0704, 0, 0x14⟩

/-- Stage 5: SEQUENCE later than the last committed (R38). -/
def stage5 (last : Option W32) (d : List Byte) : Option EphFail :=
  match last with
  | none => none
  | some l =>
    let df := seqDiff 32 (uAt d 0x0C 4) l.toNat
    if 1 ≤ df then none else some ⟨0x0501, 0, 0x0C⟩

/-- Is the type one of R41? -/
def knownType (ty : Nat) : Bool := (decide (1 ≤ ty) && decide (ty ≤ 0x11)) || ty == 0xFF

/-- The body length that a section's preamble and counts give (R42); `none` where any length is
legal. -/
def wantLen (d : List Byte) (ty ofs len : Nat) : Option Nat :=
  let u o k := uAt d (ofs + o) k
  match ty with
  | 0x01 => some 64
  | 0x02 => some (if len % 200 = 0 then len else 0)
  | 0x03 => some (if len % 32 = 0 then len else 0)
  | 0x04 => some (8 + 264 * u 0 2)
  | 0x05 => some 256
  | 0x06 => some (8 + 16 * u 0 2)
  | 0x07 => some (8 + 16 * u 0 1 + 32 * u 2 2)
  | 0x08 => some (8 + 48 * u 0 1)
  | 0x09 => some (8 + 32 * u 0 1)
  | 0x0A => some 200
  | 0x0B => some 600
  | 0x0C => some 64
  | 0x0D => some 64
  | 0x0E => some 32
  | 0x0F => some 32
  | 0x10 => some 16
  | 0x11 => some (64 + 128 * u 1 1)
  | 0xFF => some 0
  | _ => none

/-- A counted section whose body is too short for its preamble has no matching length. -/
def shortPre (ty len : Nat) : Bool :=
  ([4, 6, 7, 8, 9].contains ty && decide (len < 8)) || (ty == 0x11 && decide (len < 64))

/-- The next multiple of 8. -/
def up8 (n : Nat) : Nat := (n + 7) / 8 * 8

/-- The first non-zero byte of a range. -/
def padFail (d : List Byte) (ty lo hi : Nat) : Option EphFail :=
  let p := slice d lo (hi - lo)
  if allZero p then none else some ⟨0x0211, ty, lo + firstNonzero p⟩

/-- Stage 6, the framing walk: `fuel` sections from `pos` on, with the last listed type seen
(R39–R42). -/
def walkSects (d : List Byte) (bodyEnd : Nat) :
    Nat → Nat → Int → List Sect → Except EphFail (List Sect)
  | 0, _, _, acc => .ok acc
  | fuel + 1, pos, prev, acc =>
    if bodyEnd ≤ pos then .ok acc
    else if bodyEnd < pos + 6 then .error ⟨0x0211, 0, pos⟩
    else
      let ty := uAt d pos 2
      let len := uAt d (pos + 2) 4
      let body := pos + 6
      if (ty < 0x8000 ∧ knownType ty = false) ∨ (ty ≠ 0xFF ∧ (ty : Int) ≤ prev) then
        .error ⟨0x0211, ty, pos⟩
      else if bodyEnd < body + len then .error ⟨0x0211, ty, pos + 2⟩
      else if shortPre ty len then .error ⟨0x0213, ty, pos + 2⟩
      else
        match wantLen d ty body len with
        | some w =>
          if w ≠ len then .error ⟨0x0213, ty, pos + 2⟩
          else
            match padFail d ty (body + len) (up8 (body + len)) with
            | some f => .error f
            | none =>
              if ty = 0xFF then
                if up8 (body + len) ≠ bodyEnd then .error ⟨0x0211, ty, up8 (body + len)⟩
                else .ok (acc ++ [⟨ty, pos, body, len⟩])
              else walkSects d bodyEnd fuel (up8 (body + len)) ty (acc ++ [⟨ty, pos, body, len⟩])
        | none =>
          match padFail d ty (body + len) (up8 (body + len)) with
          | some f => .error f
          | none => walkSects d bodyEnd fuel (up8 (body + len)) ty (acc ++ [⟨ty, pos, body, len⟩])

/-- The required sections (R41). -/
def requiredTypes : List Nat := [1, 2, 3, 5, 6, 0x0B, 0x0C, 0x0D, 0x0E, 0xFF]

/-- Stage 6 (R39–R42, R79). -/
def stage6 (d : List Byte) : Except EphFail (List Sect) :=
  let e := 64 + uAt d 8 4
  match walkSects d e (uAt d 8 4 / 8 + 1) 64 (-1) [] with
  | .error f => .error f
  | .ok l =>
    match requiredTypes.find? fun t => (sectOf l t).isNone with
    | none => .ok l
    | some t =>
      .error ⟨0x0212, t, match sectOf l 0xFF with | some x => x.hdr | none => e⟩

/-! ## Stage 7: fields of every section -/

def chkMachine (b : List Byte) (nHeads nLasers : Nat) : List Chk :=
  let x0 := sAt b 8 4
  let x1 := sAt b 0x0C 4
  let y0 := sAt b 0x10 4
  let y1 := sAt b 0x14 4
  let g := sAt b 0x18 2 * sAt b 0x18 2 + sAt b 0x1A 2 * sAt b 0x1A 2
  let hc := uAt b 0x1C 1
  let lc := uAt b 0x1D 1
  [rng 8 (inRange (-mm500) mm500 x0),
   rng 0x0C (inRange (-mm500) mm500 x1 && inRange 40000 4000000 (x1 - x0)),
   rng 0x10 (inRange (-mm500) mm500 y0),
   rng 0x14 (inRange (-mm500) mm500 y1 && inRange 40000 4000000 (y1 - y0)),
   rng 0x1A (inRange (9801 * 2 ^ 30) (10201 * 2 ^ 30) (g * 10000)),
   rng 0x1C (inRange 1 32 hc), fld 0x1C (hc == nHeads) 0x0216#16,
   rng 0x1D (inRange 1 32 lc), fld 0x1D (lc == hc && lc == nLasers) 0x0216#16,
   rsv b 0x1E 2, rsv b 0x30 16]

/-- The unused vertex pairs of a polygon hold zero (R34). -/
def polyUnused (e : List Byte) (o n top : Nat) : Bool :=
  allZero (slice e (o + 8 * n) (8 * top - 8 * n))

def chkHead (before : List (List Byte)) (e : List Byte) : List Chk :=
  let c o := inRange (-mm500) mm500 (sAt e o 4)
  let sz := uAt e 0x0A 1
  let kf := uAt e 0x0B 1
  let vn := uAt e 0x40 1
  [rng 0 (decide (uAt e 0 1 ≤ 31)),
   pair 0 (before.all fun p => decide (uAt p 0 1 < uAt e 0 1)) 0x0217#16,
   rng 1 (decide (uAt e 1 1 ≤ 31)), pair 1 (before.all fun p => uAt p 1 1 != uAt e 1 1) 0x0217#16,
   rng 2 (decide (uAt e 2 2 < 4)),
   rng 0x0A ([0, 16, 32, 48, 64].contains sz),
   rng 0x0B ((inRange 1 40 kf || (kf == 0 && sz == 0)) && decide (sz * sz * 10 * kf * 1000 ≤ 1640000000)),
   rng 0x10 (c 0x10), rng 0x14 (c 0x14), rng 0x18 (inRange 4000 2144000 (sAt e 0x18 4)),
   rng 0x1C (inRange (-3141593) 3141593 (sAt e 0x1C 4)),
   rng 0x20 (inRange (-100000) 100000 (sAt e 0x20 4)),
   rng 0x24 (inRange (-100000) 100000 (sAt e 0x24 4)),
   rng 0x28 (c 0x28), rng 0x2C (c 0x2C), rng 0x30 (inRange 400 40000 (sAt e 0x30 4)),
   rng 0x40 (inRange 3 16 vn), rsv e 0x41 7, rng 0x48 (polyUnused e 0x48 vn 16)]

def chkLaser (before : List (List Byte)) (e : List Byte) : List Chk :=
  [rng 0 (decide (uAt e 0 1 ≤ 31)),
   pair 0 (before.all fun p => decide (uAt p 0 1 < uAt e 0 1)) 0x0217#16,
   pair 1 (before.all fun p => uAt p 1 1 != uAt e 1 1) 0x0217#16,
   rng 2 (decide (uAt e 2 2 < 2)), rng 4 (inRange 1000 20000000 (uAt e 4 4)),
   rng 8 (decide (1 ≤ uAt e 8 2)), rng 0x0A (decide (uAt e 0x0A 2 ≤ uAt e 8 2)),
   rng 0x0C (inRange 400 11000 (uAt e 0x0C 2)), rng 0x0E (inRange (-4000) 4000 (sAt e 0x0E 2)),
   rsv e 0x12 14]

/-- The bits set in a mask. -/
def popCount (n w : Nat) : Nat := ((List.range w).filter n.testBit).length

def chkZone (e : List Byte) : List Chk :=
  let vn := uAt e 4 1
  [rng 0 (decide (2 ≤ popCount (uAt e 0 4) 32)), rng 4 (inRange 3 32 vn),
   rng 5 (decide (uAt e 5 1 < 2)), rsv e 6 2,
   rng 8 (polyUnused e 8 vn 32)]

def chkClass (e : List Byte) : List Chk :=
  [rng 0 (decide (uAt e 0 4 ≤ 800000)), rng 4 (decide (uAt e 4 2 ≤ 8999)),
   rng 6 (decide (uAt e 6 2 < 4)),
   rng 8 (decide (uAt e 8 4 ≤ 4000000) && (uAt e 8 4 != 0 || !bitAt e 6 1)), rsv e 0x0C 4]

/-- The greatest legal SRC_INDEX and SRC_FIELD of each SRC_TYPE (R52, R93). -/
def srcMax : Nat → Nat × Nat
  | 1 => (31, 7)
  | 2 => (31, 10)
  | 3 => (7, 1)
  | 4 => (7, 2)
  | 5 => (7, 2)
  | 6 => (7, 255)
  | _ => (31, 1)

/-- The greatest legal SINK_INDEX and SINK_INPUT of each SINK_TYPE (R52, R94). -/
def sinkMax : Nat → Nat × Nat
  | 1 => (63, 0)
  | 2 => (63, 0)
  | 3 => (63, 0)
  | 4 => (31, 1)
  | 5 => (7, 0)
  | _ => (7, 1)

def chkRoute (e : List Byte) : List Chk :=
  let st := uAt e 0 1
  let kt := uAt e 4 1
  [rng 0 (inRange 1 7 st), rng 1 (decide (uAt e 1 1 ≤ (srcMax st).1)),
   rng 2 (decide (uAt e 2 1 ≤ (srcMax st).2)), rng 3 (decide (uAt e 3 1 < 4)),
   rng 4 (inRange 1 6 kt), rng 5 (decide (uAt e 5 1 ≤ (sinkMax kt).1)),
   rng 6 (decide (uAt e 6 1 ≤ (sinkMax kt).2)), rsv e 7 1]

def chkLoop (before : List (List Byte)) (e : List Byte) : List Chk :=
  let k := uAt e 1 1
  let per := uAt e 4 4
  let perOk := match k with
    | 1 => per == 4
    | 2 => per == 80
    | 3 => per == 400000
    | _ => per % 4 == 0 && inRange 4 4000000 per
  [rng 0 (decide (uAt e 0 1 ≤ 63)),
   pair 0 (before.all fun p => uAt p 0 1 != uAt e 0 1) 0x0217#16,
   pair 2 (k != 1 || before.all (fun p => !(uAt p 1 1 == 1 && uAt p 2 1 == uAt e 2 1))) 0x0217#16,
   rng 1 (inRange 1 4 k), rng 2 (k != 4 || uAt e 2 1 == 0), rng 3 (decide (uAt e 3 1 < 2)),
   rng 4 perOk, rsv e 9 1, rng 0x0A (decide (1 ≤ uAt e 0x0A 2)), rng 0x0C (decide (0 < sAt e 0x0C 4))]

def chkSet (before : List (List Byte)) (e : List Byte) : List Chk :=
  [pair 0 (before.all fun p => uAt p 0 1 != uAt e 0 1) 0x0217#16, rsv e 1 3,
   rng 0x18 (decide (sAt e 0x14 4 < sAt e 0x18 4)), rng 0x1C (decide (0 ≤ sAt e 0x1C 4))]

def chkAxis (before : List (List Byte)) (e : List Byte) : List Chk :=
  let role := uAt e 1 1
  let quad := bitAt e 2 1
  let ssi := bitAt e 2 2
  let enc := uAt e 0x20 4
  [rng 0 (decide (uAt e 0 1 ≤ 7)),
   pair 0 (before.all fun p => uAt p 0 1 != uAt e 0 1) 0x0217#16,
   rng 1 (inRange 1 4 role),
   pair 1 (!(role == 1 || role == 2) || before.all (fun p => uAt p 1 1 != role)) 0x0217#16, rng 2 (decide (uAt e 2 2 < 128) && !(quad && ssi)),
   rng 4 (inRange 1 1000000 (uAt e 4 4)), rng 8 (inRange 1 8000000 (uAt e 8 4)),
   rng 0x0C (decide (1 ≤ uAt e 0x0C 4)), rng 0x18 (decide (sAt e 0x14 4 < sAt e 0x18 4)),
   rng 0x1C (decide (uAt e 0x1C 2 ≤ 10000)),
   rng 0x1E (if ssi then inRange 8 32 (uAt e 0x1E 1) else uAt e 0x1E 1 == 0),
   rng 0x1F (if ssi then inRange 1 100 (uAt e 0x1F 1) else uAt e 0x1F 1 == 0),
   rng 0x20 ((decide (0 < enc) || !(quad || ssi)) &&
     (!quad || decide (uAt e 8 4 * enc ≤ 50000000 * 65536))),
   rng 0x28 (decide (uAt e 0x0C 4 ≤ uAt e 0x28 4)), rsv e 0x2C 4]

def chkSensor (before : List (List Byte)) (e : List Byte) : List Chk :=
  let same (p : List Byte) (o : Nat) : Bool := uAt p o 1 == uAt e o 1
  [rng 0 (decide (uAt e 0 1 ≤ 7)),
   pair 0 (before.all (fun p => !same p 0)) 0x0217#16,
   rng 1 (decide (uAt e 1 1 ≤ 1)), rng 2 (decide (uAt e 2 1 ≤ 3)),
   pair 2 (before.all (fun p => !(same p 1 && same p 2))) 0x0217#16,
   rng 3 ([0x2B, 0x2C, 0x2D].contains (uAt e 3 1)),
   rng 4 (inRange 64 8192 (uAt e 4 2)), rng 6 (inRange 64 8192 (uAt e 6 2)),
   rng 8 ([1, 2, 4].contains (uAt e 8 1)), pair 8 (before.all (fun p => !same p 1 || same p 8)) 0x0214#16,
   rng 9 (inRange 1 45 (uAt e 9 1)), pair 9 (before.all (fun p => !same p 1 || same p 9)) 0x0214#16,
   rng 0x0A (decide (uAt e 0x0A 1 ≤ 7)), rng 0x0B (decide (uAt e 0x0B 1 ≤ 1)),
   rng 0x0C (if uAt e 0x0B 1 = 1 then inRange 64 512 (uAt e 0x0C 2) else uAt e 0x0C 2 == 0),
   rng 0x0E (decide (uAt e 0x0E 1 ≤ 7)), rng 0x0F (decide (uAt e 0x0F 1 ≤ 4)),
   rng 0x10 (inRange 8 0x77 (uAt e 0x10 1)), rng 0x11 (decide (uAt e 0x11 1 ≤ 1)),
   pair 0x11 (before.all (fun p => !(same p 0x10 && same p 0x11))) 0x0217#16,
   rng 0x12 (inRange 1 1000 (uAt e 0x12 2)), rng 0x14 (decide (uAt e 0x14 4 < 2 ^ 24)),
   rng 0x18 (decide (uAt e 0x18 1 ≤ 4)), rsv e 0x19 7]

def chkHaloHead (b : List Byte) : List Chk :=
  [rng 1 (inRange 8 16 (uAt b 1 1)), rng 2 (inRange 1 100 (uAt b 2 1)),
   rng 3 (decide (uAt b 3 1 < 4)), rng 4 (inRange 1 240 (uAt b 4 2)), rsv b 6 2]

def chkHaloCh (vled : Nat) (e : List Byte) : List Chk :=
  [rng 0 (decide (uAt e 0 1 ≤ 1)),
   rng 2 (uAt e 0 1 == 0 || decide (uAt e 2 2 ≤ vled * 100)), rsv e 6 2]

def chkThermHead (b : List Byte) : List Chk :=
  let nv := uAt b 0 1
  [rng 0 (decide (nv ≤ 21)), rsv b 1 1,
   rng 4 (decide (sAt b 2 2 < sAt b 4 2)), rsv b 6 2]

def chkTherm (i : Nat) (e : List Byte) : List Chk :=
  let k := uAt e 0 1
  let used := k != 0
  [rng 0 (if i < 16 then decide (k ≤ 3) else k == 4),
   rng 1 (!used || (inRange (-50) 50 (sAt e 1 1) && (k == 1 || sAt e 1 1 == 0))),
   rng 2 (!used || decide (uAt e 2 1 < 2)), rng 3 (!used || inRange 1 60 (uAt e 3 1)),
   rng 4 (!used || inRange (-2560) 9600 (sAt e 4 2)),
   rng 6 (!used || (inRange (-2560) 9600 (sAt e 6 2) && decide (sAt e 6 2 < sAt e 4 2))),
   rng 8 (!used || decide (1 ≤ uAt e 8 2)), rsv e 0x0A 2,
   rng 0x10 (!used || (if k = 2 ∨ k = 3 then inRange 2000 5000 (uAt e 0x10 2) else uAt e 0x10 2 == 0)),
   rsv e 0x12 6]

def chkHeater (e : List Byte) : List Chk :=
  let used := uAt e 0 1 == 1
  [rng 0 (decide (uAt e 0 1 ≤ 1)), rsv e 1 1, rng 2 (!used || inRange 100 10000 (uAt e 2 2)),
   rng 6 (!used || decide (uAt e 6 2 ≤ uAt e 4 2))]

def chkRing (b : List Byte) : List Chk :=
  let m := uAt b 0 1
  let f := uAt b 1 1
  let db := uAt b 0x0D 1
  [rng 0 (decide (m ≤ 2)),
   rng 1 (decide (f < 8) && ((m != 1 || f % 4 == 3) && (m != 2 || (f % 4 == 1 || f % 4 == 2)))),
   rsv b 2 2, rng 4 (uAt b 4 1 % 2 == 0), rng 0x0A (decide (uAt b 0x0A 2 ≤ 4094)),
   rng 0x0C (decide (uAt b 0x0C 1 ≤ 127)),
   rng 0x0D ((decide (db ≤ 127) || db == 255) && db != uAt b 0x0C 1),
   rng 0x0E (uAt b 0x0E 1 == 0 || (uAt b 0x0E 1 == 1 && db != 255)),
   rng 0x0F (inRange (-7) 0 (sAt b 0x0F 1)), rng 0x10 (decide (uAt b 0x10 8 < 2 ^ 48)),
   rng 0x18 (decide (uAt b 0x18 4 ≤ 999999999)), rng 0x1C (inRange 1 3600000 (uAt b 0x1C 4)),
   rng 0x20 (inRange 1 1000000 (uAt b 0x20 4)), rsv b 0x24 28]

/-- Do two ranges (first, count) share a number? -/
def rangesMeet (a na b nb : Nat) : Bool :=
  decide (0 < na) && (decide (0 < nb) && (decide (a < b + nb) && decide (b < a + na)))

def chkHost (before : List (List Byte)) (e : List Byte) : List Chk :=
  let p := uAt e 0 1
  let used := p != 0xFF
  let pcie := decide (p < 2)
  let qf := uAt e 2 1
  let qc := uAt e 3 1
  let xf := uAt e 4 1
  let xc := uAt e 5 1
  [rng 0 ([0, 1, 2, 0xFF].contains p),
   rng 1 (!used || inRange 1 15 (uAt e 1 1)),
   rng 3 (!used || (if pcie then inRange 1 255 qc && decide (qf + qc ≤ 256) else qc == 0)),
   pair 3 (!used || before.all fun o => uAt o 0 1 == 0xFF ||
     !rangesMeet (uAt o 2 1) (uAt o 3 1) qf qc) 0x0217#16,
   rng 4 (!used || decide (xf ≤ 63)),
   rng 5 (!used || (if pcie then inRange 1 64 xc && decide (xf + xc ≤ 64) else xc == 0)),
   pair 5 (!used || before.all fun o => uAt o 0 1 == 0xFF ||
     !(uAt o 0 1 == p && rangesMeet (uAt o 4 1) (uAt o 5 1) xf xc)) 0x0217#16,
   rsv e 6 2]

def chkDram (b : List Byte) : List Chk :=
  [rng 0 ([4, 8, 16, 32].contains (uAt b 0 1)), rng 1 (decide (uAt b 1 1 ≤ 3)),
   rng 2 (inRange 8 16 (uAt b 2 1)), rng 3 (decide (uAt b 3 1 < 2)),
   rng 4 (inRange 1 168 (uAt b 4 2)), rsv b 7 1, rng 8 (decide (uAt b 8 8 < 2 ^ 48)), rsv b 0x10 16]

def chkDisplay (b : List Byte) : List Chk :=
  [rng 0 (decide (uAt b 0 1 ≤ 1)), rng 1 ([1, 2, 4].contains (uAt b 1 1)),
   rng 2 (decide (uAt b 2 1 ≤ 2)), rng 3 (decide (uAt b 3 1 ≤ 1)), rng 4 (inRange 64 1920 (uAt b 4 2)),
   rng 6 (inRange 64 1200 (uAt b 6 2)), rng 8 (inRange 32 4096 (uAt b 8 2)),
   rng 0x0A (inRange 3 4096 (uAt b 0x0A 2)), rng 0x0C (inRange 20 75 (uAt b 0x0C 1)),
   rng 0x0D (inRange 1 4 (uAt b 0x0D 1)), rsv b 0x11 15]

def chkCal (b : List Byte) : List Chk :=
  [rng 0 (decide (uAt b 0 1 ≤ 1)), rng 1 (inRange 1 20 (uAt b 1 1)), rng 2 (decide (uAt b 2 1 < 32)),
   rsv b 3 13]

def chkPeri (b : List Byte) : List Chk :=
  [rng 0 (decide (uAt b 0 1 ≤ 1)), rng 1 (decide (uAt b 1 1 ≤ 64)), rng 2 (inRange 100 1000 (uAt b 2 2)),
   rng 4 (inRange (-mm500) mm500 (sAt b 4 4)), rng 8 (inRange (-mm500) mm500 (sAt b 8 4)),
   rng 0x0C (inRange 1 16383 (uAt b 0x0C 2)), rng 0x12 (inRange (-256) 256 (sAt b 0x12 2)),
   rng 0x14 (decide (1 ≤ uAt b 0x14 4)), rsv b 0x18 40]

def chkCurve (e : List Byte) : List Chk :=
  (List.range 31).map fun i => rng (4 * (i + 1)) (decide (uAt e (4 * i) 2 < uAt e (4 * i + 4) 2))

/-- The checks of a list of entries, each with the entries before it. -/
def entryChecks (f : List (List Byte) → List Byte → List Chk) (l : List (Nat × List Byte)) :
    List (Nat × List Chk) :=
  (withBefore l).map fun p => (p.2.1, f (p.1.map Prod.snd) p.2.2)

/-- Stage 7 of one section (R34, R43–R70, R547). -/
def stage7Sect (d : List Byte) (l : List Sect) (x : Sect) : Option EphFail :=
  let b := slice d x.ofs x.len
  let whole (c : List Chk) := firstFail x.ty x.ofs c
  let ents k n (f : List (List Byte) → List Byte → List Chk) :=
    firstEntryFail x.ty (entryChecks f (entriesAt d (x.ofs + 8) k n))
  match x.ty with
  | 0x01 =>
    whole (chkMachine b ((bodyOf d l 2).length / 200) ((bodyOf d l 3).length / 32))
  | 0x02 => firstEntryFail 2 (entryChecks chkHead (entriesAt d x.ofs 200 (x.len / 200)))
  | 0x03 => firstEntryFail 3 (entryChecks chkLaser (entriesAt d x.ofs 32 (x.len / 32)))
  | 0x04 =>
    firstOf [whole [rng 0 (decide (uAt b 0 2 ≤ 256)), rsv b 2 6], ents 264 (uAt b 0 2) (fun _ => chkZone)]
  | 0x05 => firstEntryFail 5 (entryChecks (fun _ => chkClass) (entriesAt d x.ofs 16 16))
  | 0x06 =>
    firstOf [whole [rng 0 (decide (uAt b 0 2 ≤ 512)), rsv b 2 6], ents 16 (uAt b 0 2) (fun _ => chkRoute)]
  | 0x07 =>
    firstOf [whole [rng 0 (decide (uAt b 0 1 ≤ 64)), rsv b 1 1, rng 2 (decide (uAt b 2 2 ≤ 256)),
        rsv b 4 4],
      ents 16 (uAt b 0 1) chkLoop,
      firstEntryFail 7 (entryChecks chkSet
        (entriesAt d (x.ofs + 8 + 16 * uAt b 0 1) 32 (uAt b 2 2)))]
  | 0x08 =>
    firstOf [whole [rng 0 (decide (uAt b 0 1 ≤ 8)), rsv b 1 7], ents 48 (uAt b 0 1) chkAxis]
  | 0x09 =>
    firstOf [whole [rng 0 (decide (uAt b 0 1 ≤ 8)), rsv b 1 7], ents 32 (uAt b 0 1) chkSensor]
  | 0x0A => firstOf [whole (chkHaloHead b), ents 8 24 (fun _ => chkHaloCh (uAt b 4 2))]
  | 0x0B =>
    firstOf [whole (chkThermHead b),
      firstEntryFail 0x0B ((entriesAt d (x.ofs + 8) 24 22).zipIdx.map
        fun p => (p.1.1, chkTherm p.2 p.1.2)),
      firstEntryFail 0x0B (entryChecks (fun _ => chkHeater) (entriesAt d (x.ofs + 536) 8 8))]
  | 0x0C => whole (chkRing b)
  | 0x0D =>
    let es := entriesAt d x.ofs 8 8
    firstOf [firstEntryFail 0x0D (entryChecks chkHost es),
      whole [rng 0 (es.any fun e => uAt e.2 0 1 != 0xFF && bitAt e.2 1 3)]]
  | 0x0E => whole (chkDram b)
  | 0x0F => whole (chkDisplay b)
  | 0x10 => whole (chkCal b)
  | 0x11 =>
    firstOf [whole (chkPeri b),
      firstEntryFail 0x11 (entryChecks (fun _ => chkCurve) (entriesAt d (x.ofs + 64) 128 (uAt b 1 1)))]
  | _ => none

/-- Stage 7: sections in ascending type. -/
def stage7 (d : List Byte) (l : List Sect) : Option EphFail := firstOf (l.map (stage7Sect d l))

/-! ## Stage 8: cross-checks -/

/-- The declared head of an index. -/
def Eph.head? (e : Eph) (n : Nat) : Option EphHead := e.heads.find? fun h => h.head == n
/-- The laser bound to a head (R47). -/
def Eph.laserOf? (e : Eph) (n : Nat) : Option EphLaser := e.lasers.find? fun h => h.head == n
def Eph.loop? (e : Eph) (n : Nat) : Option EphLoop := e.loops.find? fun h => h.slot == n
def Eph.axis? (e : Eph) (n : Nat) : Option EphAxis := e.axes.find? fun h => h.axis == n
def Eph.sensor? (e : Eph) (n : Nat) : Option EphSensor := e.sensors.find? fun h => h.sensor == n
/-- The head that declares a Moonlink (R46). -/
def Eph.headOfLink? (e : Eph) (n : Nat) : Option EphHead := e.heads.find? fun h => h.moonlink == n
/-- Is channel `n` declared (R16)? -/
def Eph.declared (e : Eph) (n : Nat) : Bool := (e.head? n).isSome
/-- The mask of the declared channels. -/
def Eph.declMask (e : Eph) : W32 := maskOf 32 e.declared
def Eph.heaterOn (e : Eph) (n : Nat) : Bool :=
  match e.thermal.heaters[n]? with
  | some h => h.enable
  | none => false
/-- Perihelion is declared and enabled (R41, R70). -/
def Eph.periOn (e : Eph) : Option EphPeri :=
  match e.peri with
  | some p => if p.enable then some p else none
  | none => none

def headGeom (m : EphMachine) (h : EphHead) : List Chk :=
  let geo (o : Nat) (ok : Bool) : Chk := fld o ok 0x0218#16
  let xs := h.polygon.map Prod.fst
  let ys := h.polygon.map Prod.snd
  let span := 256 * h.gridPitch
  let cv := convexCcw h.polygon
  [geo 0x28 (xs.all fun x => decide (h.gridX0 ≤ x)), geo 0x2C (ys.all fun y => decide (h.gridY0 ≤ y)),
   geo 0x30 (xs.all (fun x => decide (x ≤ h.gridX0 + span)) &&
     ys.all (fun y => decide (y ≤ h.gridY0 + span))),
   geo 0x38 (!cv || inConvex h.polygon (h.parkX, h.parkY)),
   geo 0x48 (cv && h.polygon.all fun q =>
     inRange m.bedXMin m.bedXMax q.1 && inRange m.bedYMin m.bedYMax q.2)]

def zoneCross (e : Eph) (before : List EphZone) (z : EphZone) : List Chk :=
  let hs := (List.range 32).filter z.headMask.testBit
  [fld 0 (hs.all e.declared) 0x021A#16,
   fld 8 (simpleCcw z.polygon) 0x0218#16,
   pair 8 (!simpleCcw z.polygon || (hs.all (fun n => match e.head? n with
      | some h => z.polygon.all (inConvex h.polygon)
      | none => true) && before.all (fun o => !shareInterior o.polygon z.polygon))) 0x0219#16]

/-- A route's source is declared (R93). -/
def srcDeclared (e : Eph) (r : EphRoute) : Bool :=
  match r.srcType with
  | 1 => (e.headOfLink? r.srcIndex).isSome
  | 2 => match e.head? r.srcIndex with
    | some h => decide (8 ≤ r.srcField) || h.roiSize != 0
    | none => false
  | 5 => match e.axis? r.srcIndex with
    | some a => a.quad || a.ssi
    | none => false
  | 6 => (e.sensor? r.srcIndex).isSome
  | 7 => e.declared r.srcIndex && e.periOn.isSome
  | _ => true

/-- A route's sink is declared (R52, R94). -/
def sinkDeclared (e : Eph) (r : EphRoute) : Bool :=
  match r.sinkType with
  | 4 => e.declared r.sinkIndex
  | 5 => e.heaterOn r.sinkIndex
  | 6 => (e.axis? r.sinkIndex).isSome
  | _ => (e.loop? r.sinkIndex).isSome

def routeCross (e : Eph) (before : List EphRoute) (r : EphRoute) : List Chk :=
  [fld 1 (srcDeclared e r) 0x021A#16, fld 5 (sinkDeclared e r) 0x021A#16,
   pair 6 (before.all fun o => !(o.sinkType == r.sinkType && (o.sinkIndex == r.sinkIndex &&
      o.sinkInput == r.sinkInput))) 0x021B#16]

/-- A loop's checks: its measurement route (R55), no route into the heater it drives (R259), its
target and its default set. -/
def loopCross (e : Eph) (l : EphLoop) : List Chk :=
  [pair 0 (!(l.kind == 3 && e.routes.any fun r => r.sinkType == 5 && r.sinkIndex == l.target)) 0x021B#16,
   pair 0 (e.routes.any fun r => r.sinkType == 1 && r.sinkIndex == l.slot) 0x021C#16,
   fld 2 (match l.kind with
      | 1 => e.lasers.any fun x => x.laser == l.target
      | 2 => (e.axis? l.target).isSome
      | 3 => e.heaterOn l.target
      | _ => true) 0x021A#16,
   fld 8 (e.sets.any fun p => p.1 == l.defaultSet) 0x021A#16]

/-- The Halo channels that are enabled. -/
def Eph.haloOn (e : Eph) (n : Nat) : Bool :=
  match e.halo with
  | some h => match h.channels[n]? with
    | some c => c.enable
    | none => false
  | none => false

/-- Stage 8 of one section (R49, R52–R57, R61, R66, R70, R78). `hw` is what DRAM training found:
capacity and vendor. -/
def stage8Sect (e : Eph) (hw : Nat × Nat) (x : Sect) : Option EphFail :=
  let ents {α : Type} (k pre : Nat) (l : List α) (f : List α → α → List Chk) :=
    firstEntryFail x.ty ((withBefore l).zipIdx.map fun p => (x.ofs + pre + k * p.2, f p.1.1 p.1.2))
  match x.ty with
  | 0x02 => ents 200 0 e.heads (fun _ => headGeom e.machine)
  | 0x03 => ents 32 0 e.lasers (fun _ a => [fld 1 (e.declared a.head) 0x021A#16])
  | 0x04 => ents 264 8 e.zones (zoneCross e)
  | 0x06 => ents 16 8 e.routes (routeCross e)
  | 0x07 => ents 16 8 e.loops (fun _ => loopCross e)
  | 0x09 => ents 32 8 e.sensors fun _ a =>
      [fld 0x14 (((List.range 24).filter a.strobeMask.testBit).all e.haloOn) 0x021A#16]
  | 0x0B =>
    firstOf [firstFail x.ty x.ofs [fld 0 (match e.thermal.sensors[e.thermal.nvSensor]? with
        | some a => a.kind != 0
        | none => false) 0x021A#16],
      ents 24 8 e.thermal.sensors fun _ a =>
        [fld 0x0C (a.kind == 0 || (bitsSet a.eclipseMask 32).all e.declared) 0x021A#16]]
  | 0x0E => firstFail x.ty x.ofs
      [fld 0 (e.dram.capacity == hw.1) 0x021D#16, fld 6 (e.dram.vendor == hw.2) 0x021D#16]
  | 0x11 => match e.peri with
    | none => none
    | some p =>
      let span : Int := 8192 * p.pitch
      firstFail x.ty x.ofs
        [fld 4 (decide (p.x0 ≤ e.machine.bedXMin) && decide (e.machine.bedXMax ≤ p.x0 + span)) 0x0218#16,
         fld 8 (decide (p.y0 ≤ e.machine.bedYMin) && decide (e.machine.bedYMax ≤ p.y0 + span)) 0x0218#16]
  | _ => none

/-! ## Stage 9: resources -/

/-- Bits per pixel of a CSI-2 data type (R57). -/
def bitsPerPixel : Nat → Nat
  | 0x2B => 10
  | 0x2C => 12
  | _ => 14

/-- The bit rate a sensor adds to its port (R58). -/
def camLoad (x : EphSensor) : Nat := x.width * (x.height + x.embLines) * bitsPerPixel x.dataType * x.fpsMax

/-- The dissipation an enabled Halo channel adds, in units of 1 µW / (255² · 65,536) (R60). -/
def haloLoad (h : EphHalo) (c : EphHaloCh) : Nat :=
  if c.enable then (h.vled * 100 - c.vf) * 150 * h.globalRef * c.current * c.dutyMax else 0

/-- The line rate of one eDP lane in Mbit/s, by LINK (R68). -/
def linkMbit : Nat → Nat
  | 0 => 1620
  | 1 => 2700
  | _ => 5400

/-- The display's pixel bit rate and what its lanes carry, both in bit/s (R68). -/
def displayLoad (p : EphDisplay) : Nat × Nat :=
  ((p.width + p.hblank) * (p.height + p.vblank) * p.syncHz * 24,
   p.lanes * linkMbit p.link * 800000)

def stage9Sect (e : Eph) (x : Sect) : Option EphFail :=
  let ents {α : Type} (k pre : Nat) (l : List α) (f : List α → α → List Chk) :=
    firstEntryFail x.ty ((withBefore l).zipIdx.map fun p => (x.ofs + pre + k * p.2, f p.1.1 p.1.2))
  match x.ty with
  | 0x04 => ents 264 8 e.zones fun before z =>
      [pair 0 (((List.range 32).filter z.headMask.testBit).all fun n =>
        decide ((before.filter fun o => o.headMask.testBit n).length < 8)) 0x060A#16]
  | 0x06 => ents 16 8 e.routes fun before r =>
      [pair 0 (decide ((before.filter fun o => o.srcType == r.srcType && (o.srcIndex == r.srcIndex &&
        o.srcField == r.srcField)).length < 8)) 0x0606#16]
  | 0x09 => ents 32 8 e.sensors fun before a =>
      let all := before ++ [a]
      [pair 0 (decide (((all.filter fun o => o.port == a.port).map camLoad).sum ≤
          a.lanes * a.laneRate * 100000000)) 0x0602#16,
       pair 0 (decide ((all.map fun o => o.width * o.height * o.fpsMax).sum ≤ 2000000000)) 0x0603#16]
  | 0x0A => match e.halo with
    | none => none
    | some h => ents 8 8 h.channels fun before c =>
        [pair 0 (!c.enable || decide (((before ++ [c]).map (haloLoad h)).sum ≤ 3000000 * 255 * 255 * 65536))
          0x0604#16]
  | 0x0F => match e.display with
    | none => none
    | some p => firstFail x.ty x.ofs [pair 0 (decide ((displayLoad p).1 ≤ (displayLoad p).2)) 0x0605#16]
  | _ => none

/-- Stages 1 to 9 (R78): the parsed ephemeris, or the first failure. `last` is the last committed
SEQUENCE, or `none` where R38 does not apply. -/
def validateEph (last : Option W32) (hw : Nat × Nat) (d : List Byte) : Except EphFail Eph :=
  match firstOf [stage1 d] with
  | some f => .error f
  | none =>
    match firstOf [stage2 d, stage3 d, stage4 d, stage5 last d] with
    | some f => .error f
    | none =>
      match stage6 d with
      | .error f => .error f
      | .ok l =>
        match stage7 d l with
        | some f => .error f
        | none =>
          let e := parseEph d l
          match firstOf (l.map (stage8Sect e hw) ++ l.map (stage9Sect e)) with
          | some f => .error f
          | none => .ok e

/-- The first byte of EPOCH_S in RING_TIME, and of ROLES of HOSTS entry `s` (R80, stage 10). -/
def stage10Ofs (d : List Byte) (ty s : Nat) : Nat :=
  match stage6 d with
  | .ok l => match sectOf l ty with
    | some x => if ty = 0x0C then x.ofs + 0x10 else x.ofs + 8 * s + 1
    | none => 0
  | .error _ => 0

end Sys2Proof.Machine
end

