-- ==== Sys2Proof/Machine/Trig.lean ====
section
/-!
DEFINITION. Exact rounding, integer square roots, and the circular functions as rationals to 2^−90:
what arcs, directions and cones are computed with (R138, R170, R190, R209).
-/

namespace Sys2Proof.Machine

/-- The nearest integer, ties away from zero (round_half_away of ch. 06). -/
def roundHalfAway (q : Rat) : Int := if 0 ≤ q then (q + 1 / 2).floor else -((-q + 1 / 2).floor)

/-- Integer square root, bit by bit, of a number below 2^256. -/
def isqrtFrom : Nat → Nat → Nat → Nat
  | 0, _, r => r
  | b + 1, n, r => if (r + 2 ^ b) * (r + 2 ^ b) ≤ n then isqrtFrom b n (r + 2 ^ b) else isqrtFrom b n r

/-- Integer square root. -/
def isqrt (n : Nat) : Nat := isqrtFrom 128 n 0

/-- The smallest number whose square is at least `n`. -/
def ceilSqrt (n : Nat) : Nat := if n = 0 then 0 else isqrt (n - 1) + 1

/-- The smallest integer not below a rational, as a number. -/
def ceilNat (q : Rat) : Nat := (-((-q).floor)).toNat

/-- The scale of the fixed-point evaluations. -/
def trigOne : Int := 2 ^ 96

/-- Terms of the exponential series at the angle `x` (scaled), summed into sine and cosine: `q` is
the number of the term modulo 4. -/
def trigSeries : Nat → Int → Nat → Int → Int × Int → Int × Int
  | 0, _, _, _, acc => acc
  | fuel + 1, x, k, term, acc =>
    let acc := match k % 4 with
      | 0 => (acc.1, acc.2 + term)
      | 1 => (acc.1 + term, acc.2)
      | 2 => (acc.1, acc.2 - term)
      | _ => (acc.1 - term, acc.2)
    trigSeries fuel x (k + 1) (term * x / trigOne / ((k : Int) + 1)) acc

/-- Sine and cosine of an angle in radians between −7 and 7. -/
def sinCos (a : Rat) : Rat × Rat :=
  let r := trigSeries 72 (a * trigOne).floor 0 trigOne (0, 0)
  ((r.1 : Rat) / (trigOne : Rat), (r.2 : Rat) / (trigOne : Rat))

/-- π to 50 digits. -/
def piRat : Rat := 314159265358979323846264338327950288419716939937510 / 10 ^ 50

/-- Euler's series of the arctangent of z, 0 ≤ z ≤ 1, scaled: `w` is z²/(1 + z²). -/
def atanSeries : Nat → Int → Nat → Int → Int → Int
  | 0, _, _, _, acc => acc
  | fuel + 1, w, k, term, acc =>
    atanSeries fuel w (k + 1) (term * w / trigOne * (2 * (k : Int) + 2) / (2 * (k : Int) + 3)) (acc + term)

/-- The arctangent of a rational between 0 and 1, in radians. -/
def atan01 (z : Rat) : Rat :=
  let w := (z * z / (1 + z * z) * trigOne).floor
  let t := (z / (1 + z * z) * trigOne).floor
  (atanSeries 110 w 0 t 0 : Rat) / (trigOne : Rat)

/-- The direction of a vector that is not zero, as a fraction of a turn, 0 to 1. -/
def turnOf (x y : Rat) : Rat :=
  let ax := if x < 0 then -x else x
  let ay := if y < 0 then -y else y
  -- the angle in the first quadrant, in turns
  let q := if ax = ay then 1 / 8
    else if ay < ax then atan01 (ay / ax) / (2 * piRat)
    else 1 / 4 - atan01 (ax / ay) / (2 * piRat)
  if 0 ≤ x then (if 0 ≤ y then q else 1 - q) else (if 0 ≤ y then 1 / 2 - q else 1 / 2 + q)

/-- Is the turn from direction `a` to direction `b` above `urad` µrad (R180)? -/
def turnsMore (urad : Nat) (a b : Rat × Rat) : Bool :=
  let dot := a.1 * b.1 + a.2 * b.2
  let crs := a.1 * b.2 - a.2 * b.1
  let crs := if crs < 0 then -crs else crs
  let sc := sinCos ((urad : Rat) / 1000000)
  decide (dot ≤ 0) || decide (sc.1 * dot < crs * sc.2)

/-- T of R209 for a half-angle in 0.01°. -/
def coneT (half : Nat) : Int :=
  let sc := sinCos ((half : Rat) * piRat / 18000)
  roundHalfAway (sc.1 / sc.2 * 65536)

end Sys2Proof.Machine
end

