-- ==== Sys2Proof/Machine/Planner.lean ====
section
/-!
DEFINITION. Planning one motion: jumps, skywriting, strokes, polygon stops, seams and gate edges as
exact segments (R167–R182, R227–R228), and what a plan says at a sample boundary.
-/

namespace Sys2Proof.Machine

/-- What a plan of one engine depends on: the atlas, the grid rectangle (R182) and GATE_SKEW. -/
structure PlanEnv where
  atlas : List (Nat × AtlasEntry)
  /-- Atlas writes that wait for their switch samples (R157). -/
  switches : List AtlasSwitch := []
  x0 : Int := 0
  y0 : Int := 0
  x1 : Int := 0
  y1 : Int := 0
  skew : Int := 0
  deriving DecidableEq, Repr

/-- The atlas entry that a word runs with. -/
def PlanEnv.entry (env : PlanEnv) (it : Item) : AtlasEntry :=
  it.fixed.getD (sget {} env.atlas it.word.atlas)

/-- The entry of a word whose first output sample is `f` (R157). -/
def PlanEnv.entryAt (env : PlanEnv) (f : Nat) (it : Item) : AtlasEntry :=
  match it.fixed with
  | some e => e
  | none =>
    env.switches.foldl (fun e w =>
      if w.at_ ≤ f then (w.entries.find? fun p => p.1 == it.word.atlas).elim e (·.2) else e)
      (sget {} env.atlas it.word.atlas)

/-! ## Points -/

def Pt.add (p q : Pt) : Pt := (p.1 + q.1, p.2 + q.2)
def Pt.sub (p q : Pt) : Pt := (p.1 - q.1, p.2 - q.2)
def Pt.mul (c : Rat) (p : Pt) : Pt := (c * p.1, c * p.2)
def Pt.ofInt (p : Int × Int) : Pt := ((p.1 : Rat), (p.2 : Rat))
/-- The nearest LSB. -/
def Pt.round (p : Pt) : Int × Int := (roundHalfAway p.1, roundHalfAway p.2)
/-- The square of a length. -/
def Pt.sq (p : Pt) : Rat := p.1 * p.1 + p.2 * p.2

/-- `p` rotated about the centre by an angle in radians. -/
def rotate (cx cy : Int) (a : Rat) (p : Pt) : Pt :=
  let sc := sinCos a
  let d := p.sub (Pt.ofInt (cx, cy))
  ((cx : Rat) + d.1 * sc.2 - d.2 * sc.1, (cy : Rat) + d.1 * sc.1 + d.2 * sc.2)

/-! ## Word speeds and lengths (R167–R170) -/

/-- A speed as a step per sample in UQ16.16, and whether the clamp of R168 acted. -/
def stepOf (limit speed scale : Nat) : Nat × Bool :=
  if limit * 32768 < speed * scale then ((2 * limit * 32768 + 500000) / 1000000, true)
  else ((2 * speed * scale + 500000) / 1000000, false)

/-- The samples that a path of squared length `l2` takes at step `v` (R169). -/
def samplesFor (l2 : Rat) (v : Nat) : Nat :=
  if v = 0 then 0 else ceilSqrt (ceilNat (l2 * 2 ^ 32 / ((v * v : Nat) : Rat)))

/-- The end point of a word that starts at `s` (R138). -/
def TrackWord.endFrom (w : TrackWord) (s : Int × Int) : Int × Int :=
  match w.ty with
  | .arc =>
    (rotate (signedOf 32 w.w1.toNat) (signedOf 32 w.w2.toNat)
      ((signedOf 32 w.w3.toNat : Rat) / 1000000) (Pt.ofInt s)).round
  | .dot => s
  | _ => (signedOf 32 w.w1.toNat, signedOf 32 w.w2.toNat)

/-- A stroke word's geometry: its path, its length in samples, and its velocity at start and end in
LSB per sample. -/
structure WGeo where
  item : Item
  entry : AtlasEntry
  clamped : Bool
  n : Nat
  p0 : Pt
  p1 : Pt
  v0 : Pt
  v1 : Pt
  kind : SegKind
  span : Rat
  deriving DecidableEq, Repr

/-- A rational near the square root of a rational, to 2^−32 of an LSB. -/
def sqrtNear (q : Rat) : Rat := (isqrt ((q * 2 ^ 64).floor.toNat) : Rat) / (2 ^ 32 : Nat)

/-- The geometry of a stroke word. The extension of a seam cut covers OVERLAP of its word's path
(R227). -/
def geoOf (env : PlanEnv) (it : Item) : WGeo :=
  let w := it.word
  let e := env.entry it
  let s := Pt.ofInt it.start
  let sp := stepOf 20000000 e.markSpeed it.speedScale
  match w.ty with
  | .arc =>
    let cx := signedOf 32 w.w1.toNat
    let cy := signedOf 32 w.w2.toNat
    let full : Rat := (signedOf 32 w.w3.toNat : Rat) / 1000000
    let r := s.sub (Pt.ofInt (cx, cy))
    let len := sqrtNear (r.sq * full * full)
    let span : Rat := match it.ext with
      | some o => if len = 0 then 0 else (o : Rat) / len
      | none => 1
    let sw := full * span
    let n := samplesFor (r.sq * sw * sw) sp.1
    let p1 := if it.ext.isSome then rotate cx cy sw s else Pt.ofInt (w.endFrom it.start)
    let c : Rat := if n = 0 then 0 else sw / n
    let r1 := (rotate cx cy sw s).sub (Pt.ofInt (cx, cy))
    { item := it, entry := e, clamped := sp.2, n := n, p0 := s, p1 := p1,
      v0 := (-(c * r.2), c * r.1), v1 := (-(c * r1.2), c * r1.1), kind := .arc cx cy sw, span := span }
  | .dot =>
    { item := it, entry := e, clamped := false, n := w.w1.toNat, p0 := s, p1 := s, v0 := (0, 0),
      v1 := (0, 0), kind := .rest, span := 1 }
  | _ =>
    let q := Pt.ofInt (w.endFrom it.start)
    let d := q.sub s
    let span : Rat := match it.ext with
      | some o => let len := sqrtNear d.sq; if len = 0 then 0 else (o : Rat) / len
      | none => 1
    let d := d.mul span
    let n := samplesFor (match it.ext with
      | some o => ((o * o : Nat) : Rat)
      | none => d.sq) sp.1
    let v := if n = 0 then (0, 0) else d.mul (1 / (n : Rat))
    { item := it, entry := e, clamped := sp.2, n := n, p0 := s, p1 := s.add d, v0 := v, v1 := v,
      kind := .line, span := span }

/-! ## Paths -/

/-- A path under construction: the boundary reached, the command there, segments newest first. -/
structure Course where
  t : Nat
  p : Pt
  segs : List Seg := []
  deriving DecidableEq, Repr

/-- A path longer by one segment of `n` samples; no segment for no samples. -/
def Course.go (n : Nat) (kind : SegKind) (dst : Pt) (word : Nat) (sky stop settle : Bool) (p : Course) :
    Course :=
  if n = 0 then { p with p := dst }
  else
    { t := p.t + n, p := dst
      segs := { a := p.t, b := p.t + n, kind := kind, p0 := p.p, p1 := dst, word := word,
                sky := sky, stop := stop, settle := settle } :: p.segs }

/-- The cruise of a jump: the smallest Nc of R173. -/
def jumpCruise (d2 : Rat) (v ti tr : Nat) : Nat :=
  if v = 0 then 0
  else
    let m := ceilSqrt (ceilNat (4 * d2 * 2 ^ 32 / ((v * v : Nat) : Rat)))
    if ti + tr < m then (m - (ti + tr) + 1) / 2 else 0

/-- A jump to `dest` with its ramps, then SETTLE samples of rest (R173). -/
def Course.jump (dest : Pt) (v ti tr settle word : Nat) (p : Course) : Course :=
  let d := dest.sub p.p
  let p := if d.sq = 0 then p else
    let nc := jumpCruise d.sq v ti tr
    let whole : Rat := ((ti + tr : Nat) : Rat) / 2 + nc
    let u : Rat := if whole = 0 then 0 else 1 / whole
    let a := p.p.add (d.mul ((ti : Rat) / 2 * u))
    let b := a.add (d.mul ((nc : Rat) * u))
    ((p.go ti .acc a word false false false).go nc .line b word false false false).go tr .dec dest
      word false false false
  p.go settle .rest p.p word false false true

/-- The nearest point of the grid rectangle (R182). -/
def PlanEnv.clamp (env : PlanEnv) (p : Int × Int) : Int × Int :=
  (clampInt env.x0 env.x1 p.1, clampInt env.y0 env.y1 p.2)

/-- The largest T ≤ `t` for which `p + s × v × T / 2` stays in the rectangle (R182). -/
def PlanEnv.fit (env : PlanEnv) (p v : Pt) (s : Rat) (t : Nat) : Nat :=
  let lim (lo hi : Int) (x u : Rat) : Option Nat :=
    if u = 0 then none
    else if 0 < u then some (2 * ((hi : Rat) - x) / u).floor.toNat
    else some (2 * ((lo : Rat) - x) / u).floor.toNat
  let a := lim env.x0 env.x1 p.1 (s * v.1)
  let b := lim env.y0 env.y1 p.2 (s * v.2)
  min t (min (a.getD t) (b.getD t))

/-! ## Strokes -/

/-- A word that may open a stroke (R136). -/
def TrackWord.opens (w : TrackWord) : Bool :=
  match w.ty with
  | .mark => true
  | .dot => true
  | .arc => !w.f16
  | _ => false

/-- A word that continues a stroke. -/
def TrackWord.continues (w : TrackWord) : Bool :=
  match w.ty with
  | .poly => true
  | .seam => true
  | .arc => w.f16
  | _ => false

/-- SKY_OFF of a stroke's first word (R136). -/
def TrackWord.skyOff (w : TrackWord) : Bool :=
  match w.ty with
  | .mark => w.f16
  | .arc => w.f17
  | .dot => true
  | _ => false

/-- A stroke and what follows it. Its first word opens it, or starts a remainder (R196, R228). -/
def takeStroke : List Item → List Item × List Item
  | [] => ([], [])
  | x :: r =>
    if x.word.opens || ((x.remainder || x.noSky) && x.word.continues) then
      let c := r.takeWhile fun y => y.word.continues && !y.remainder && !y.noSky
      (x :: c, r.drop c.length)
    else ([], x :: r)

/-- A stroke's words laid after `p`, with the polygon stops of R180, whose records are computed from
the later word (R171): `i` is the position of the next
word, `last` the velocity at which the last word of non-zero length ended, `z` the Z_END reached. -/
def layWords : List WGeo → Nat → Option Pt → Rat → Course → List MWord → Course × List MWord
  | [], _, _, _, p, ws => (p, ws)
  | g :: r, i, last, z, p, ws =>
    let turn : Bool := match last with
      | some v => g.n != 0 && g.item.word.ty != .seam && turnsMore 8727 v g.v0
      | none => false
    let f := p.t
    let p := if turn then p.go g.entry.polyDelay .rest p.p i false true false else p
    let seam := g.item.word.ty == .seam
    let n := if seam then 0 else g.n
    let zn := if seam then z else z + ((g.item.word.zEnd : Rat) - z) * g.span
    let w : MWord :=
      { item := g.item, entry := g.entry, wa := p.t, wn := n, firstOut := f,
        doneAt := max (p.t + n) (f + 1), zStart := z, zEnd := zn, span := g.span, clamped := g.clamped && !seam }
    let p := if seam then p else p.go n g.kind g.p1 i false false false
    layWords r (i + 1) (if n = 0 then last else some g.v1) zn p (ws ++ [w])

/-- The smallest boundary not before a time in 250 ps units. -/
def ceilSample (u : Int) : Nat := (-((-u) / 1000)).toNat

/-- The gate edges of a stroke whose command passes A at `ta` and B at `tb` (R177). -/
def edgesFor (env : PlanEnv) (first last : AtlasEntry) (ta tb : Nat) : Int × Int :=
  (1000 * (ta : Int) + first.onDelay + env.skew, 1000 * (tb : Int) + last.offDelay + env.skew)

/-- A motion with the last word's output extended to the end of the motion (R171). -/
def extendLast (until_ : Nat) : List MWord → List MWord
  | [] => []
  | [w] => [{ w with doneAt := max w.doneAt until_ }]
  | w :: r => w :: extendLast until_ r

/-- A stroke planned after `p` (R174–R182): its first word stands at position `i`. `isRem` forces the
connecting jump of a seam remainder (R228); `jumped` says that a JUMP word has brought the command to
the stroke's start. -/
def planStroke (env : PlanEnv) (lastFall : Option Int) (stroke : List Item) (i : Nat)
    (m : Motion) (p : Course) (jump : Option Item) (zPrev : Rat) : Motion :=
  let gs := stroke.map (geoOf env)
  match gs with
  | [] => m
  | g0 :: _ =>
    let live := gs.filter fun g => g.n != 0 && g.item.word.ty != .seam
    let gl := gs.getLastD g0
    let dot := g0.item.word.ty == .dot
    let skyBy (e : AtlasEntry) : Bool := e.skyOn && !g0.item.word.skyOff && !g0.item.noSky && !dot && !live.isEmpty
    let sky := skyBy g0.entry
    -- a seam cut ends by the entry of the word that it extends along (R227)
    let skyEnd := if gl.item.ext.isSome then skyBy gl.entry else sky
    let first := live.headD g0
    let last := live.getLastD g0
    let ti := if sky then env.fit g0.p0 first.v0 (-1) g0.entry.runIn else 0
    let tr := if skyEnd then env.fit gl.p1 last.v1 1 gl.entry.runOut else 0
    let short := b1 (sky && decide (ti < g0.entry.runIn)) + b1 (skyEnd && decide (tr < gl.entry.runOut))
    let runStart := if ti = 0 then g0.p0
      else Pt.ofInt ((g0.p0.sub (first.v0.mul ((ti : Rat) / 2))).round)
    let runEnd := if tr = 0 then gl.p1
      else Pt.ofInt ((gl.p1.add (last.v1.mul ((tr : Rat) / 2))).round)
    -- the JUMP word, or a connecting jump (R174, R228)
    let jw : List MWord := match jump with
      | some j => [{ item := j, entry := env.entry j, zStart := zPrev, zEnd := 0 }]
      | none => []
    let p1 := match jump with
      | some j =>
        let e := env.entry j
        p.jump runStart (stepOf 40000000 e.jumpSpeed j.speedScale).1 e.runIn e.runOut e.settle 0
      | none =>
        if p.p ≠ runStart ∨ g0.item.remainder then
          p.jump runStart (stepOf 40000000 g0.entry.jumpSpeed g0.item.speedScale).1 g0.entry.runIn
            g0.entry.runIn g0.entry.settle i
        else p
    let jw := jw.map fun w => { w with wa := p.t, wn := p1.t - p.t, firstOut := p.t, doneAt := p1.t }
    -- R178: the first output sample
    let on := g0.entry.onDelay
    let fa := max p1.t (ceilSample (1000 * (p1.t : Int) - on) - ti)
    let fb := match lastFall with
      | some f => max fa (ceilSample (f + 16 - on - env.skew) - ti)
      | none => fa
    let p2 := p1.go (fb - p1.t) .rest p1.p (if jump.isSome then 0 else i) false false true
    let p3 := p2.go ti .acc g0.p0 i true false false
    let ta := p3.t
    let r := layWords gs i none 0 p3 []
    let tb := r.1.t
    let li := i + (gs.length - 1)
    let p4 := r.1.go tr .dec runEnd li true false false
    let ed := edgesFor env g0.entry gl.entry ta tb
    let pulse := decide (ed.1 + 4 ≤ ed.2)
    let fin := if pulse then max p4.t (ceilSample ed.2) else p4.t
    let lastOut := if pulse then max p4.t ((ed.2 / 1000).toNat + 1) else p4.t
    let ws := match extendLast lastOut r.2 with
      | [] => []
      | w :: ws => { w with firstOut := fb } :: ws
    { m with
      fin := fin, finPt := p4.p, segs := p4.segs.reverse, words := jw ++ ws
      rise := if pulse then some ed.1 else none
      fall := if pulse then some ed.2 else none
      opener := some i, cmdEnd := p4.t, noPulse := b1 (!pulse), skyShort := short }

/-- The next motion of a plan: it starts at boundary `t0` with the command at rest at `start`, and
takes its words from the front of `items` (R175–R182, R213). `zPrev` is the Z_END that the engine's
previous vector reached (R137). -/
def planMotion (env : PlanEnv) (t0 : Nat) (start : Pt) (lastFall : Option Int) (zPrev : Rat)
    (items : List Item) : Motion × List Item :=
  let m : Motion := { t0 := t0, fin := t0, start := start, finPt := start, cmdEnd := t0 }
  let p : Course := { t := t0, p := start }
  match items with
  | [] => (m, [])
  | j :: r =>
    if j.word.ty = .jump then
      let sr := takeStroke r
      match sr.1 with
      | [] =>
        let e := env.entry j
        let target := j.word.endFrom j.start
        let dest := env.clamp target
        let sp := stepOf 40000000 e.jumpSpeed j.speedScale
        let p1 := p.jump (Pt.ofInt dest) sp.1 e.runIn e.runOut e.settle 0
        let w : MWord :=
          { item := j, entry := e, wa := t0, wn := p1.t - t0, firstOut := t0, doneAt := p1.t,
            zStart := zPrev, zEnd := 0, clamped := sp.2 }
        ({ m with fin := p1.t, finPt := p1.p, segs := p1.segs.reverse, words := [w],
                  cmdEnd := p1.t, gridClamp := b1 (dest ≠ target) }, r)
      | _ =>
        let e := env.entry j
        let sp := stepOf 40000000 e.jumpSpeed j.speedScale
        let m := planStroke env lastFall sr.1 1 m p (some j) zPrev
        let ws := match m.words with
          | w :: ws => { w with clamped := sp.2 } :: ws
          | [] => []
        ({ m with words := ws }, sr.2)
    else
      let sr := takeStroke items
      match sr.1 with
      | [] => (m, r)
      | _ => (planStroke env lastFall sr.1 0 m p none zPrev, sr.2)

/-- Words with the entries that their first output samples give them. -/
def fixItems (env : PlanEnv) (ws : List MWord) (items : List Item) : List Item :=
  (items.zip ws).map fun p => { p.1 with fixed := some (env.entryAt p.2.firstOut p.1) }

/-- The next motion of a plan, with the atlas values of R157: a word whose first output sample lies at
or after a switch sample runs with the values written. -/
def planNext (env : PlanEnv) (t0 : Nat) (start : Pt) (lastFall : Option Int) (zPrev : Rat)
    (items : List Item) : Motion × List Item :=
  let r := planMotion env t0 start lastFall zPrev items
  let used := items.take (items.length - r.2.length)
  let fixed := fixItems env r.1.words used
  let r := if env.switches.isEmpty then r
    else planMotion env t0 start lastFall zPrev (fixed ++ r.2)
  ({ r.1 with items := used, prevFall := lastFall, zPrev := zPrev }, r.2)

/-- The motions that follow from boundary `t` with the command at rest at `p` (R203): up to the first that starts
after the horizon, a SYNC word, or the end of the words. WAIT words take their samples (R141). -/
def planFrom (env : PlanEnv) : Nat → Nat → Nat → Pt → Option Int → Rat → List Item → List Motion
  | 0, _, _, _, _, _, _ => []
  | _ + 1, _, _, _, _, _, [] => []
  | fuel + 1, horizon, t, p, fall, z, it :: r =>
    match it.word.ty with
    | .sync => []
    | .wait =>
      let d := if it.word.f16 then (seqDiff 32 it.word.w1.toNat t).toNat else it.word.w1.toNat
      planFrom env fuel horizon (t + d) p fall z r
    | _ =>
      let m := planNext env t p fall z (it :: r)
      m.1 :: if horizon < t then [] else
        planFrom env fuel horizon m.1.fin m.1.finPt (m.1.fall <|> fall) (m.1.words.getLast?.elim z (·.zEnd)) m.2

/-! ## A plan at a sample boundary -/

/-- The part of a ramp of T samples that is covered after t, from rest (R172). -/
def rampPart (t n : Nat) : Rat :=
  let t' : Rat := t
  let n' : Rat := n
  if n = 0 then 1
  else if 2 * t ≤ n then 4 * t' ^ 3 / (3 * n' ^ 3)
  else (t' - n' / 2 + 2 * (n' - t') ^ 3 / (3 * n' ^ 2)) * 2 / n'

/-- The speed of a ramp after t, as a part of its final speed. -/
def rampRate (t n : Nat) : Rat :=
  let t' : Rat := t
  let n' : Rat := n
  if n = 0 then 1
  else if 2 * t ≤ n then 2 * t' ^ 2 / n' ^ 2
  else 1 - 2 * (n' - t') ^ 2 / n' ^ 2

/-- An integer within ±1 of `x`: the nearest one moved by `o` where that stays within. -/
def nearPick (x : Rat) (o : Int) : Int :=
  let r := roundHalfAway x
  let c := r + clampInt (-1) 1 o
  if ((c : Rat) - x ≤ 1) ∧ (x - (c : Rat) ≤ 1) then c else r

/-- The integer arc point that the engine computes, within ±1 LSB of the exact one (R170). -/
def arcPoint (s : Seg) (cx cy : Int) (sweep : Rat) (k : Nat) : Pt :=
  let q := rotate cx cy (sweep * ((k - s.a : Nat) : Rat) / ((s.b - s.a : Nat) : Rat)) s.p0
  let o := Config.arcPick (roundHalfAway s.p0.1) (roundHalfAway s.p0.2) cx cy
    (roundHalfAway (sweep * 1000000)) ((k - s.a) * 2 ^ 32 + (s.b - s.a))
  Pt.ofInt (nearPick q.1 o.1, nearPick q.2 o.2)

/-- The command at boundary `k` of a segment. -/
def Seg.pos (s : Seg) (k : Nat) : Pt :=
  if s.b ≤ k then s.p1
  else if k ≤ s.a then s.p0
  else
    let n := s.b - s.a
    let m := k - s.a
    let d := s.p1.sub s.p0
    match s.kind with
    | .rest => s.p0
    | .line => s.p0.add (d.mul ((m : Rat) / (n : Rat)))
    | .acc => s.p0.add (d.mul (rampPart m n))
    | .dec => s.p0.add (d.mul (1 - rampPart (n - m) n))
    | .arc cx cy sw => arcPoint s cx cy sw k

/-- The velocity at boundary `k` of a segment, in LSB per sample. -/
def Seg.vel (s : Seg) (k : Nat) : Pt :=
  let n := s.b - s.a
  let m := k - s.a
  let d := s.p1.sub s.p0
  match s.kind with
  | .rest => (0, 0)
  | .line => d.mul (1 / (n : Rat))
  | .acc => d.mul (rampRate m n * 2 / (n : Rat))
  | .dec => d.mul (rampRate (n - m) n * 2 / (n : Rat))
  | .arc cx cy sw =>
    let q := (rotate cx cy (sw * (m : Rat) / (n : Rat)) s.p0).sub (Pt.ofInt (cx, cy))
    let c := sw / (n : Rat)
    (-(c * q.2), c * q.1)

/-- The direction of motion at boundary `k` of a segment, of any length; zero at rest (R190). -/
def Seg.dir (s : Seg) (k : Nat) : Pt :=
  match s.kind with
  | .rest => (0, 0)
  | .arc _ _ _ => s.vel k
  | _ => s.p1.sub s.p0

/-- The segment that holds boundary `k`. -/
def Motion.seg? (m : Motion) (k : Nat) : Option Seg := m.segs.find? fun s => s.a ≤ k && k < s.b

/-- The command at boundary `k`. -/
def Motion.pos (m : Motion) (k : Nat) : Pt :=
  match m.seg? k with
  | some s => s.pos k
  | none => if k < m.fin ∧ k < m.cmdEnd then m.start else m.finPt

/-- The velocity at boundary `k`. -/
def Motion.vel (m : Motion) (k : Nat) : Pt :=
  match m.seg? k with
  | some s => s.vel k
  | none => (0, 0)

/-- The direction of motion at boundary `k`. -/
def Motion.dir (m : Motion) (k : Nat) : Pt :=
  match m.seg? k with
  | some s => s.dir k
  | none => (0, 0)

/-- The next motion of a plan that goes on from boundary `t`, when it starts by the horizon: WAIT words take their
samples (R141), and a SYNC word ends what is known. -/
def nextMotion? (env : PlanEnv) (horizon : Nat) : Nat → Nat → Pt → Option Int → Rat → List Item → Option Motion
  | 0, _, _, _, _, _ => none
  | _ + 1, _, _, _, _, [] => none
  | fuel + 1, t, p, fall, z, it :: r =>
    if horizon < t then none
    else match it.word.ty with
      | .sync => none
      | .wait =>
        let d := if it.word.f16 then (seqDiff 32 it.word.w1.toNat t).toNat else it.word.w1.toNat
        nextMotion? env horizon fuel (t + d) p fall z r
      | _ => some (planNext env t p fall z (it :: r)).1

/-- The samples in which the gate of a motion is high for any part (R207): first and last. -/
def Motion.exposure (m : Motion) : Option (Nat × Nat) :=
  match m.rise, m.fall with
  | some r, some f =>
    if r < f then some ((r / 1000).toNat, ((f - 1) / 1000).toNat) else none
  | _, _ => none

/-- The word that an exposing sample belongs to, by position: before the stroke its first word, after
it its last (R207, R210). -/
def Motion.strokeWord (m : Motion) (k : Nat) : Nat :=
  let o := m.opener.getD 0
  match m.seg? k with
  | some s => max o s.word
  | none => if k < m.cmdEnd then o else m.words.length - 1

end Sys2Proof.Machine
end

