-- ==== Sys2Proof/Machine/Pools.lean ====
section
/-!
DEFINITION. Pools, track queues and descriptors (R143–R154): what a pool gives out, and how a
descriptor completes.
-/

namespace Sys2Proof.Machine

/-- The pool with a given number, if the committed ephemeris declares it (R143). -/
def State.pool? (s : State) (num : Nat) : Option Pool := s.job.pools.find? fun p => p.num == num

/-- A pool changed. -/
def State.modPool (num : Nat) (f : Pool → Pool) (s : State) : State :=
  { s with job := { s.job with pools := s.job.pools.map fun p => if p.num = num then f p else p } }

/-- The descriptors of a pool changed. -/
def Pool.modDescs (f : Desc → Desc) (p : Pool) : Pool := { p with queue := p.queue.map f }

/-- One descriptor of a pool changed, by the number of its command. -/
def State.modDesc (num id : Nat) (f : Desc → Desc) (s : State) : State :=
  s.modPool num (Pool.modDescs fun d => if d.flight = id then f d else d)

/-- The exclusive pool of a head, or the overlap pool of a zone (R143). -/
def overlapPool (zone : Nat) : Nat := 0x100 + zone

/-- The zones of the committed ephemeris. -/
def State.zones (s : State) : List EphZone := match s.eph.eph with
  | some e => e.zones
  | none => []

/-- The heads eligible in a zone. -/
def State.zoneMask (s : State) (z : Nat) : Nat := (s.zones[z]?).elim 0 (·.headMask)

/-- The grid of head `n`, wherever it stands. -/
def State.grid? (s : State) (n : Nat) : Option GridImage := (s.mem.grids.find? fun g => g.1 == n).map (·.2)

/-- The head's grid is loaded and matches GRID_CRC (R45); one that Umbra's check has not passed does not count
(R392). -/
def State.gridOk (s : State) (n : Nat) : Bool :=
  match s.head? n, s.grid? n with
  | some h, some g => g.stand == .loaded && g.crc == h.gridCrc
  | _, _ => false

/-- The head's grid was unloaded by a memory error: the words before the one that met it still run (R398). -/
def State.gridGone (s : State) (n : Nat) : Bool := (s.grid? n).any (·.stand == .unloaded)

/-- A vector is a JUMP, MARK, POLY, ARC or DOT word (ch. 05). -/
def WType.vector : WType → Bool
  | .mark => true
  | .jump => true
  | .poly => true
  | .arc => true
  | .dot => true
  | _ => false

/-- The 16-byte units of a word (R147). -/
def TrackWord.units (w : TrackWord) : Nat := if w.ext then 2 else 1

/-! ## Completion of descriptors (R150) -/

/-- A word at offset `o` is not executed: the first cause stands, with the earliest such word (R150). -/
def Desc.failAt (code : Code) (o : Nat) (d : Desc) : Desc :=
  { d with fail := some (match d.fail with
      | some (c, x) => (c, min x o)
      | none => (code, o)) }

/-- A descriptor cut short: its remaining words are discarded (R150). -/
def Desc.discard (code : Code) (d : Desc) : Desc :=
  match d.items with
  | [] => { d with fail := d.fail.getD (code, 0) }
  | it :: _ => { d.failAt code it.ofs with items := [] }

/-- A descriptor has nothing left to run. -/
def Desc.over (d : Desc) : Bool := d.items.isEmpty && d.out == 0

/-- The completion of a descriptor (R134, R150). -/
def State.completeDesc (d : Desc) (s : State) : State :=
  match d.fail with
  | none =>
    s.finishId d.flight 0 (BitVec.ofNat 64 (d.last % 2 ^ 48))
      (BitVec.ofNat 64 (d.executed % 2 ^ 32 + d.engines.toNat * 2 ^ 32)) false []
  | some (c, o) =>
    let known := s.job.layerStatus.any fun p => p.1 == d.layer
    let st := if known then s.job.layerStatus else s.job.layerStatus ++ [(d.layer, c)]
    ({ s with job := { s.job with layerStatus := st } }).finishId d.flight c 0 (BitVec.ofNat 64 o)
      true []

/-- A completion falls due: the last vector has run, or nothing is left to run (R150). -/
def Desc.due (d : Desc) : Bool :=
  !d.told && (d.over || (d.fail.isNone && decide (0 < d.total) && d.executed == d.total))

/-- Every descriptor whose last vector has run completes, and one that is over leaves its track queue, in pool
and queue order (R149, R150). -/
def State.settleDescs (s : State) : State :=
  let done := s.job.pools.flatMap fun p => p.queue.filter Desc.due
  let s := { s with job := { s.job with pools := s.job.pools.map fun p =>
    { p with queue := (p.queue.filter fun d => !d.over).map fun d => { d with told := d.told || d.due } } } }
  done.foldl (fun s d => s.completeDesc d) s

/-- A word given out by a pool is done: `last` is its last output sample, on engine `n`. The
extension of a seam cut is no word of its own (R227). -/
def State.wordDone (n : Nat) (it : Item) (last : Nat) (s : State) : State :=
  if it.ext.isSome then s
  else
    let v := b1 it.word.ty.vector
    let s := s.modDesc it.pool it.desc fun d =>
      { d with out := d.out - 1, executed := d.executed + v,
               engines := if v = 0 then d.engines else d.engines ||| (BitVec.ofNat 32 (2 ^ n)),
               last := if v = 0 then d.last else max d.last last }
    s.modEngine n fun e => { e with vectors := stat e.vectors v }

/-! ## What a pool gives out (R144–R146) -/

/-- A PARAM word sets both scales (R145). -/
def Pool.param (w : TrackWord) (p : Pool) : Pool :=
  { p with speedScale := w.w1.toNat / 65536, powerScale := w.w1.toNat % 65536 }

/-- Words given out in pool order: each vector takes its VSEQ and the scales in force. A word that
came back from an uncommitted take keeps what it had (R231). -/
def giveItems : List Item → Pool → List Item × Pool
  | [], p => ([], p)
  | it :: r, p =>
    match it.vseq with
    | some _ => let g := giveItems r p; (it :: g.1, g.2)
    | none =>
      if it.word.ty = .param then giveItems r (p.param it.word)
      else
        let g := if it.word.ty.vector then
            ({ it with vseq := some p.vseq, speedScale := p.speedScale, powerScale := p.powerScale },
             { p with vseq := p.vseq + 1 })
          else ({ it with speedScale := p.speedScale, powerScale := p.powerScale }, p)
        let t := giveItems r g.2
        (g.1 :: t.1, t.2)

/-- The words at the front of a descriptor that go into a plan together (R194): a PARAM, WAIT or SYNC
word, a JUMP with the stroke behind it, or a stroke. The rest follows. -/
def splitUnit : List Item → List Item × List Item
  | [] => ([], [])
  | it :: r =>
    match it.word.ty with
    | .param => ([it], r)
    | .wait => ([it], r)
    | .sync => ([it], r)
    | .jump => let t := takeStroke r; (it :: t.1, t.2)
    | _ => match takeStroke (it :: r) with
      | ([], _) => ([it], r)
      | t => t

/-- The words of a unit up to a memory error: a JUMP whose stroke is bad runs alone (R154). -/
def goodPart (u : List Item) : List Item :=
  if u.all fun i => !i.bad then u
  else match u with
    | j :: _ => if j.word.ty = .jump ∧ j.bad = false then [j] else []
    | [] => []

/-- The first descriptor of a pool that still has words to give out. -/
def Pool.front? (p : Pool) : Option Desc := p.queue.find? fun d => !d.items.isEmpty

/-- The front descriptor of an exclusive pool has a unit for the running layer that is staged. Once the head's grid is
unloaded by a memory error, only descriptors up to the one that met it give words out (R398). -/
def State.readyUnit? (s : State) (n : Nat) : Option (Desc × List Item × List Item) :=
  match s.pool? n with
  | none => none
  | some p =>
    match p.front? with
    | none => none
    | some d =>
      let last := p.queue.any fun d => d.items.any (·.bad)
      if s.job.running = some d.layer ∧ d.staged = true ∧ (s.gridGone n = false ∨ last = true) then
        let u := splitUnit d.items
        some (d, u.1, u.2)
      else none

/-- The next unit of an exclusive pool goes to its engine's plan. A unit that a memory error has hit
ends its descriptor (R154). -/
def State.feedOne (n : Nat) (s : State) : Option State :=
  match s.readyUnit? n with
  | none => none
  | some (d, u, rest) =>
    match goodPart u with
    | [] => some ((s.modDesc n d.flight (Desc.discard 0x070B)).settleDescs)
    | g =>
      let rest := u.drop g.length ++ rest
      match s.pool? n with
      | none => none
      | some p =>
        let r := giveItems g p
        let s := s.modPool n fun _ => r.2
        let s := s.modDesc n d.flight fun d => { d with items := rest, out := d.out + r.1.length }
        some (s.modEngine n fun e => { e with queue := e.queue ++ r.1 }).settleDescs

end Sys2Proof.Machine
end

