-- ==== Sys2Proof/Machine/Engines.lean ====
section
/-!
DEFINITION. Scan engines (ch. 06): plans at work, field correction, tiles, power and the setpoint
record of a sample.
-/

namespace Sys2Proof.Machine

/-! ## What an engine works from -/

/-- The laser of a head (R47). -/
def State.laser? (s : State) (n : Nat) : Option EphLaser :=
  s.eph.eph.bind fun e => e.lasers.find? fun l => l.head == n

/-- What engine `n` plans from. -/
def State.planEnv (s : State) (n : Nat) : PlanEnv :=
  let skew := (s.laser? n).elim 0 (·.gateSkew)
  match s.head? n with
  | none => { atlas := s.job.atlas, switches := s.job.atlasSwitches, skew := skew }
  | some h =>
    { atlas := s.job.atlas, switches := s.job.atlasSwitches, skew := skew
      x0 := h.gridX0, y0 := h.gridY0
      x1 := h.gridX0 + 256 * h.gridPitch, y1 := h.gridY0 + 256 * h.gridPitch }

/-- Channel `n` is in Eclipse. -/
def State.eclipsed (s : State) (n : Nat) : Bool := (nth {} s.eclipse.ch n).inEclipse

/-- Engine `n` may start words (R45, R294, R296, R205): a layer runs, its link is active with a ready head, its grid
matches GRID_CRC or serves the last words before a memory error, and its channel is not in Eclipse. -/
def State.mayRun (s : State) (n : Nat) : Bool :=
  s.job.running.isSome && s.declared n && (s.headLink n).state == .active && (s.headLink n).headReady &&
    (s.gridOk n || s.gridGone n) && !s.eclipsed n

/-- Where an engine's plan goes on after the motion in progress: boundary, point, gate fall, Z_END
and the words to come. `t` is the first boundary at which an engine at rest may start. -/
structure PlanBase where
  t : Nat
  p : Pt
  fall : Option Int
  z : Rat
  items : List Item
  deriving DecidableEq, Repr

/-- The Z_END that a motion leaves. -/
def Motion.zOut (m : Motion) : Rat := m.words.getLast?.elim m.zPrev (·.zEnd)

/-- Where the plan of an engine goes on, for an engine at rest from boundary `k`. -/
def Engine.base (k : Nat) (e : Engine) : PlanBase :=
  match e.cur with
  | some m => { t := m.fin, p := m.finPt, fall := m.fall <|> e.lastFall, z := m.zOut, items := e.queue }
  | none =>
    match e.wait with
    | .wait u => { t := max k u, p := e.pos, fall := e.lastFall, z := e.zLast, items := e.queue.drop 1 }
    | .sync _ _ => { t := k, p := e.pos, fall := e.lastFall, z := e.zLast, items := [] }
    | _ => { t := k, p := e.pos, fall := e.lastFall, z := e.zLast, items := e.queue }

/-- More motions than a plan of 8,192 samples holds words for. -/
def planFuel : Nat := 65536

/-- The motions of engine `n` after the one in progress, as it would run them from boundary `k` on
without a hold (R203). -/
def State.planAfter (s : State) (n k : Nat) : List Motion :=
  let b := (s.engine n).base k
  planFrom (s.planEnv n) planFuel (k + 8192) b.t b.p b.fall b.z b.items

/-- The end of the plan (R222). -/
def State.planEnd (s : State) (n k : Nat) : Nat :=
  match (s.planAfter n k).getLast? with
  | some m => m.fin
  | none => ((s.engine n).base k).t

/-- The point at which the plan ends (R223). -/
def State.planEndPt (s : State) (n k : Nat) : Pt :=
  match (s.planAfter n k).getLast? with
  | some m => m.finPt
  | none => ((s.engine n).base k).p

/-- The plan of engine `n` asks for more words: no planned motion starts 8,192 samples ahead or later, and no SYNC
word stands in it (R203; DEDUCED, log entry 56). -/
def State.planShort (s : State) (n k : Nat) : Bool :=
  (((s.planAfter n k).getLast?).all fun m => decide (m.t0 < k + 8192)) &&
    (s.engine n).queue.all fun i => i.word.ty != .sync

/-- An exclusive pool gives out words until its engine's plan reaches past 8,192 samples ahead. -/
def State.feed (n k : Nat) : Nat → State → State
  | 0, s => s
  | fuel + 1, s =>
    if s.mayRun n ∧ s.planShort n k then
      match s.feedOne n with
      | some t => t.feed n k fuel
      | none => s
    else s

/-- Every pool feeds its engine, at boundary `k`. -/
def State.feedAll (k : Nat) (s : State) : State :=
  (List.range 32).foldl (fun s n => if s.declared n then s.feed n k planFuel else s) s

/-! ## Field correction (R185–R190) -/

/-- A signed 32-bit word of a grid. -/
def gridWord (g : Array Byte) (o : Nat) : Int :=
  let b i := (g.getD (o + i) 0).toNat
  signedOf 32 (b 0 + 256 * b 1 + 65536 * b 2 + 16777216 * b 3)

/-- Output `q` of node (i, j) (R185). -/
def gridNode (g : Array Byte) (i j q : Nat) : Int := gridWord g (12 * (257 * j + i) + 4 * q)

/-- A rational held between bounds. -/
def clampRat (lo hi x : Rat) : Rat := if x < lo then lo else if hi < x then hi else x

/-- The lookup point of a command at (x, y) with focus offset `f` (R186). -/
def lookupPoint (h : EphHead) (x y : Int) (f : Rat) : Int × Int :=
  let mz : Rat := h.mountZ
  let hp := clampRat (-(mz / 2)) (mz / 2) f
  let move (v m : Int) : Int := v + roundHalfAway (((v - m : Int) : Rat) * hp / (mz - hp))
  (move x h.mountX, move y h.mountY)

/-- Grid position of a lookup coordinate, in 1/65,536 of a cell (R187). -/
def gridPos (origin pitch x : Int) : Nat :=
  let rp := roundHalfAway ((2 ^ 48 : Rat) / (pitch : Rat))
  let dx := clampInt 0 (256 * pitch) (x - origin)
  min (dx * rp / 2 ^ 32).toNat (256 * 65536 - 1)

/-- The Catmull-Rom weights at `t`, scaled by 2^30 (R188). -/
def crWeights (u : Nat) : List Int :=
  let t : Rat := (u : Rat) / 65536
  let t2 := t * t
  let t3 := t2 * t
  [(-t3 + 2 * t2 - t) / 2, (3 * t3 - 5 * t2 + 2) / 2, (-3 * t3 + 4 * t2 + t) / 2, (t3 - t2) / 2].map
    fun w => roundHalfAway (2 ^ 30 * w)

/-- Node indices i0 − 1 to i0 + 2, clamped (R188). -/
def nodeRange (g : Nat) : List Nat := (List.range 4).map fun a => min (g / 65536 + a - 1) 256

/-- Saturation to ±8,388,607. -/
def sat24 (z : Int) : Int := clampInt (-8388607) 8388607 z

/-- One head output at grid position (gx, gy) (R188). -/
def gridOut (g : Array Byte) (gx gy q : Nat) : Int :=
  let wx := crWeights (gx % 65536)
  let wy := crWeights (gy % 65536)
  let sum := ((nodeRange gy).zip wy).map fun b =>
    b.2 * (((nodeRange gx).zip wx).map fun a => a.2 * gridNode g a.1 b.1 q).sum
  sat24 (roundHalfAway ((sum.sum : Rat) / (2 ^ 60 : Nat)))

/-- The grid position of a command. -/
def gridAt (h : EphHead) (p : Int × Int) (f : Rat) : Nat × Nat :=
  let q := lookupPoint h p.1 p.2 f
  (gridPos h.gridX0 h.gridPitch q.1, gridPos h.gridY0 h.gridPitch q.2)

/-- The head outputs for a command (R186–R189). -/
def headOut (h : EphHead) (g : Array Byte) (focusGain : W32) (p : Int × Int) (f : Rat) : Int × Int × Int :=
  let q := gridAt h p f
  let z := gridOut g q.1 q.2 2 + roundHalfAway (f * (signedOf 32 focusGain.toNat : Rat) / (4000 * 65536))
  (gridOut g q.1 q.2 0, gridOut g q.1 q.2 1, sat24 z)

/-- The tiles that a lookup reads (R191). -/
def tilesAt (q : Nat × Nat) : List (Nat × Nat) :=
  let t (g : Nat) := ((nodeRange g).map (· / 2)).eraseDups
  (t q.1).flatMap fun a => (t q.2).map fun b => (a, b)

/-- DIR of a velocity that is not zero (R190): the integer below or above the exact value. -/
def dirOf (h : EphHead) (v : Pt) : Nat :=
  let x := (turnOf v.1 v.2 - (h.yaw : Rat) / (2000000 * piRat)) * 65536
  let r := roundHalfAway x
  let gap := x - (r : Rat)
  let tiny : Rat := 1 / 2 ^ 30
  if -tiny < gap ∧ gap < tiny then unsignedOf 16 r
  else unsignedOf 16 (x.floor + (if Config.dirPick x.num x.den then 1 else 0))

/-! ## Words of a motion at a boundary -/

/-- The word that the record of boundary `k` is computed from, by position. -/
def Motion.wordAt (m : Motion) (k : Nat) : Nat :=
  match m.seg? k with
  | some s => s.word
  | none => if m.cmdEnd ≤ k then m.words.length - 1 else m.opener.getD 0

/-- The part of a word that is covered at boundary `k`. -/
def MWord.part (w : MWord) (k : Nat) : Rat :=
  if w.wn = 0 then (if k < w.wa then 0 else 1)
  else ((min (k - w.wa) w.wn : Nat) : Rat) / (w.wn : Rat)

/-- The focus offset h (R137, R186). -/
def MWord.focus (w : MWord) (k : Nat) : Rat :=
  (w.entry.focus : Rat) + w.zStart + (w.zEnd - w.zStart) * w.part k

/-- The length of a word's whole path. -/
def Item.pathLen (it : Item) : Rat :=
  let s := Pt.ofInt it.start
  let w := it.word
  match w.ty with
  | .arc =>
    let sw : Rat := (signedOf 32 w.w3.toNat : Rat) / 1000000
    sqrtNear ((s.sub (Pt.ofInt (signedOf 32 w.w1.toNat, signedOf 32 w.w2.toNat))).sq * sw * sw)
  | _ => sqrtNear ((Pt.ofInt (w.endFrom it.start)).sub s).sq

/-- A product of a UQ0.16 or UQ1.15 value with a UQ1.15 factor, rounded half up (R198). -/
def mulQ15 (p f : Nat) : Nat := (p * f + 0x4000) / 32768

/-- The RAMP factor with its taper (R198, R229). -/
def MWord.ramp (w : MWord) (k : Nat) : Nat :=
  let f := w.part k
  let r := if w.item.word.ext then
      let d : Int := (w.item.word.endScale : Int) - w.item.word.startScale
      ((w.item.word.startScale : Int) + roundHalfAway ((d : Rat) * f * w.span)).toNat
    else 0x8000
  let taper : Option Rat :=
    if w.item.taper = 0 then none
    else match w.item.ext with
      | some o => some (1 - (o : Rat) * f / (w.item.taper : Rat))
      | none => if w.item.remainder then
          some (clampRat 0 1 (w.item.pathLen * f / (w.item.taper : Rat))) else none
  match taper with
  | none => r
  | some t => mulQ15 r (roundHalfAway (32768 * t)).toNat

/-- The Tide power loop of a channel's laser (R200): its slot and state. -/
def State.powerLoop? (s : State) (n : Nat) : Option TideLoop :=
  (s.laser? n).bind fun l =>
    s.tide.loops.find? fun t => t.entry.kind == 1 && t.entry.target == l.laser

/-- The loop output that the record of sample `k` uses (R241). -/
def State.loopOut (s : State) (slot k : Nat) : Int :=
  ((s.tide.outs.filter fun o => o.1 == slot && decide (o.2.1 ≤ k)).getLast?).elim 0x10000 (·.2.2)

/-- The target power of a word in sample `k`, with the FF and LOOP factors in use (R198, R200). -/
def State.target (s : State) (n k : Nat) (w : MWord) (gateHigh : Bool) : Nat × Nat × Nat × Bool :=
  let ff := if w.entry.ffOn then s.mulInput n 0 else 0x8000
  let lp : Option TideLoop := if w.entry.loopOn && gateHigh then (s.powerLoop? n).filter (·.auto) else none
  let lf := lp.elim 0x8000 fun l => factorOf (s.loopOut l.entry.slot k)
  let p := [w.item.powerScale, w.ramp k, ff, s.mulInput n 1, lf].foldl mulQ15 w.entry.power
  let l := (s.laser? n).elim (0, 0xFFFF) fun l => (l.powerFloor, l.powerCeil)
  (min (max p l.1) l.2, ff, lf, lp.isSome)

/-! ## Tiles (R191–R196) -/

/-- The grid cells that a motion's word reads, in order. -/
def Motion.cells (h : EphHead) (m : Motion) (i : Nat) : List (Nat × Nat) :=
  match m.words[i]? with
  | none => []
  | some w =>
    let ks := (m.segs.filter fun g => g.word == i).flatMap fun g => (List.range (g.b - g.a)).map (g.a + ·)
    -- the command rests at its end until the last output sample
    let ks := if i + 1 = m.words.length ∧ m.cmdEnd < w.doneAt then ks ++ [m.cmdEnd] else ks
    (ks.map fun k =>
      let q := gridAt h (m.pos k).round (w.focus k)
      (q.1 / 65536, q.2 / 65536)).eraseReps

/-- A word's tiles (R192). -/
def Motion.tiles (h : EphHead) (m : Motion) (i : Nat) : List (Nat × Nat) :=
  ((m.cells h i).eraseDups.flatMap fun c => tilesAt (c.1 * 65536, c.2 * 65536)).eraseDups

/-- The tiles of a motion's word are resident (R194). -/
def State.resident (s : State) (n : Nat) (m : Motion) (i : Nat) : Bool :=
  match s.head? n with
  | none => true
  | some h => (m.tiles h i).all fun t => (s.engine n).tiles.contains t

/-- The tiles of the words in the plan, which are pinned (R192). -/
def State.pinned (s : State) (n k : Nat) : List (Nat × Nat) :=
  match s.head? n with
  | none => []
  | some h =>
    let ms := (s.engine n).cur.toList ++ s.planAfter n k
    ms.flatMap fun m => (List.range m.words.length).flatMap fun i =>
      if (m.words[i]?).any fun w => decide (k < w.doneAt) then m.tiles h i else []

/-- The frames of a tile cache (R191). -/
def tileFrames : Nat := 1792

/-- A requested tile arrives in its frame (R192). -/
def Engine.addTile (t : Nat × Nat) (e : Engine) : Engine :=
  if e.requested.contains t then { e with requested := e.requested.erase t, tiles := t :: e.tiles } else e

/-- The first word of the plan, from boundary `k` on, that reads tile `t` (R398). -/
def State.needing? (s : State) (n k : Nat) (t : Nat × Nat) : Option Item :=
  (s.head? n).bind fun h => ((s.engine n).cur.toList ++ s.planAfter n k).findSome? fun m =>
    (List.range m.words.length).findSome? fun i =>
      (m.words[i]?).bind fun w => if k ≤ w.firstOut ∧ (m.tiles h i).contains t then some w.item else none

/-- The first tile of the plan, in its order, that is neither in the cache nor requested (R193). -/
def State.missingTile? (s : State) (n k : Nat) : Option (Nat × Nat) :=
  let e := s.engine n
  (s.head? n).bind fun h => (e.cur.toList ++ s.planAfter n k).findSome? fun m =>
    (List.range m.words.length).findSome? fun i =>
      if (m.words[i]?).any fun w => decide (k < w.doneAt) then
        (m.tiles h i).find? fun t => !e.tiles.contains t && !e.requested.contains t
      else none

/-- A tile request: it takes a free frame or that of the least recently used tile that is not pinned, and waits while
there is neither (R192, R193). -/
def State.requestTile (n k : Nat) (t : Nat × Nat) (s : State) : State :=
  let e := s.engine n
  let ask (tiles : List (Nat × Nat)) : State := s.modEngine n fun e =>
    { e with tiles := tiles, requested := e.requested ++ [t], tokens := e.tokens - 1 }
  if e.tiles.length + e.requested.length < tileFrames then ask e.tiles
  else
    let pins := s.pinned n k
    match e.tiles.reverse.find? fun x => !pins.contains x with
    | some d => ask (e.tiles.erase d)
    | none => s

/-- The tile fetcher of engine `n` in sample `k`: a token every fourth sample, and at most one request, when a token
admits it (R193, R403). -/
def State.fetchTile (n k : Nat) (s : State) : State :=
  let s := if k % 4 = 0 then s.modEngine n fun e => { e with tokens := min 16 (e.tokens + 1) } else s
  if (s.engine n).tokens = 0 || !s.gridOk n then s
  else match s.missingTile? n (k + 1) with
    | some t => s.requestTile n (k + 1) t
    | none => s

/-- The tiles that a lookup reads become the most recently used. -/
def Engine.touch (ts : List (Nat × Nat)) (e : Engine) : Engine :=
  let hit := ts.filter e.tiles.contains
  { e with tiles := hit ++ e.tiles.filter fun t => !hit.contains t }

/-! ## Starting motions -/

/-- Words whose last output sample has passed before boundary `k` are done (R150, R171). -/
def State.finishWords (n k : Nat) (s : State) : State :=
  match (s.engine n).cur with
  | none => s
  | some m =>
    let done := (m.words.drop m.nDone).takeWhile fun w => decide (w.doneAt ≤ k)
    let s := done.foldl (fun s w => s.wordDone n w.item (max w.firstOut (w.doneAt - 1))) s
    s.modEngine n fun e => { e with cur := some { m with nDone := m.nDone + done.length } }

/-- The last sample that a motion exposes in lies in or after the slice of sample `k`. -/
def Motion.recentAt (k : Nat) (m : Motion) : Bool :=
  m.exposure.any fun x => decide (k / 256 ≤ x.2 / 256)

/-- A motion that ends at boundary `k` leaves the engine at rest. -/
def Engine.arrive (k : Nat) (e : Engine) : Engine :=
  match e.cur with
  | some m =>
    if m.fin ≤ k then
      { e with cur := none, focus := if m.park then 0 else m.words.getLast?.elim e.focus (·.focus m.fin), recent := (m :: e.recent).filter (Motion.recentAt k), pos := m.finPt, lastFall := m.fall <|> e.lastFall,
               zLast := if m.park then e.zLast else m.zOut }
    else e
  | none => e

/-- The engine starts the next motion of its plan at boundary `k`: the motion is committed (R213). -/
def State.startMotion (n k : Nat) (s : State) : State :=
  let e := s.engine n
  let r := planNext (s.planEnv n) k e.pos e.lastFall e.zLast e.queue
  let m := r.1
  let soon : List (Int × Bool) := match m.rise, m.fall with
    | some a, some b => if a < 1000 * (k : Int) then
        (if e.gate then [(b, false)] else [(1000 * (k : Int), true), (b, false)])
      else [(a, true), (b, false)]
    | _, _ => []
  s.modEngine n fun e =>
    { e with
      cur := some m, commitAt := k, queue := r.2, held := none, release := false
      escalated := false, wait := .none, parked := false, edges := e.edges ++ soon
      gridClamp := e.gridClamp.add m.gridClamp }

/-- Words that begin at boundary `k` are counted: a clamped speed (R168), and with a stroke's first word what its plan
shortens or leaves out (R179, R182). -/
def Engine.noteStarts (k : Nat) (e : Engine) : Engine :=
  match e.cur with
  | none => e
  | some m =>
    let opens := (m.opener.bind (m.words[·]?)).any fun w => w.firstOut == k
    { e with
      speedClamp := e.speedClamp.add (m.words.filter fun w => w.clamped && w.firstOut == k).length
      skyShort := if opens then e.skyShort.add m.skyShort else e.skyShort
      noPulse := if opens then e.noPulse.add m.noPulse else e.noPulse }

/-- The first word of a motion, from `lo` on, whose first output sample is `k` and whose tiles are missing (R194). -/
def State.unready? (s : State) (n k lo : Nat) (m : Motion) : Option Nat :=
  (List.range m.words.length).find? fun i => decide (lo ≤ i) &&
    ((m.words[i]?).any fun w => w.firstOut == k && w.item.word.ty != .seam) && !s.resident n m i

/-- The first motion that the engine would start at boundary `k` has the tiles of its first word, and of every word
that begins with it. -/
def State.tilesReady (s : State) (n k : Nat) : Bool :=
  let e := s.engine n
  let m := (planNext (s.planEnv n) k e.pos e.lastFall e.zLast e.queue).1
  s.resident n m 0 && (s.unready? n k 0 m).isNone

/-- Engine `e` lets a SYNC word with tag `t` pass (R142). -/
def State.syncMet (s : State) (layer : W32) (t : W32) (e : Nat) : Bool :=
  let g := s.engine e
  let past := g.syncTag.any fun x => decide (t.toNat ≤ x.toNat)
  let at_ : Bool := match g.wait with
    | .sync _ x => decide (t.toNat ≤ x.toNat)
    | _ => false
  let closed := s.job.layers.any fun l => l.num == layer && l.closed
  let empty := (s.pool? e).all fun p => p.queue.all fun d => d.layer != layer || d.items.isEmpty
  past || at_ || (closed && empty && g.queue.all fun i => i.pool != e)

/-- Every engine in MASK lets the SYNC word pass. -/
def State.syncFree (s : State) (mask t : W32) : Bool :=
  match s.job.running with
  | none => false
  | some l => (bitsSet mask 32).all (s.syncMet l t)

/-- The control word at the front of an engine's plan is done. -/
def State.dropControl (n k : Nat) (s : State) : State :=
  match (s.engine n).queue with
  | [] => s
  | it :: r =>
    let tag := match it.word.ty with
      | .sync => some it.word.w2
      | _ => (s.engine n).syncTag
    (s.modEngine n fun e => { e with queue := r, wait := .none, syncTag := tag }).wordDone n it k

/-- A pending hold is in force from the hold point on (R215). -/
def State.beginHold (n k blocker rule : Nat) (s : State) : State :=
  let s := s.modEngine n fun e =>
    { e with held := some { start := k, blocker := blocker, rule := rule }, pend := none,
             blocker := blocker, holdStart := BitVec.ofNat 32 k, holds := e.holds.inc
             -- an edge that came before its motion's first sample is taken back
             edges := if e.gate then [(1000 * (k : Int), false)] else e.edges }
  { s with arb := { s.arb with hold := s.arb.hold.inc } }

/-- An engine at rest at boundary `k` passes control words, waits, is held, or starts its next motion
(R141, R142, R194, R204). -/
def State.advance (n k : Nat) : Nat → State → State
  | 0, s => s
  | fuel + 1, s =>
    let e := s.engine n
    if e.cur.isSome ∨ s.mayRun n = false ∨ e.wait ≠ .none ∨ e.held.isSome then s
    else match e.queue with
      | [] => s
      | it :: _ =>
        match it.word.ty with
        | .wait =>
          let left := if it.word.f16 then (seqDiff 32 it.word.w1.toNat k).toNat else it.word.w1.toNat
          if left = 0 then (s.dropControl n k).advance n k fuel
          else s.modEngine n fun e => { e with wait := .wait (k + left) }
        | .sync =>
          let t := s.modEngine n fun e => { e with wait := .sync it.word.w1 it.word.w2 }
          if t.syncFree it.word.w1 it.word.w2 then
            (t.dropControl n k).modEngine n fun e => { e with wait := .passed }
          else t
        | _ =>
          match e.pend.filter fun b => decide (b.at_ ≤ k) with
          | some b => s.beginHold n k b.blocker b.rule
          | none =>
            if s.tilesReady n k then
              let s := ((s.startMotion n k).modEngine n (Engine.noteStarts k)).finishWords n k
              (s.modEngine n (Engine.arrive k)).advance n k fuel
            else s.modEngine n fun e =>
              { e with wait := .starved, release := false, starving := false
                       starve := if e.starving then e.starve else e.starve.inc }

/-- A motion ended at boundary `k` before its word `i` (R196): the words before it stay, with the gate
falling after the OFF_DELAY of the last of them when `lit`. -/
def Motion.cut (env : PlanEnv) (k i : Nat) (lit : Bool) (m : Motion) : Motion :=
  let off := (m.words[i - 1]?).elim 0 (·.entry.offDelay)
  let now : Int := 1000 * (k : Int)
  let fall : Option Int := if !lit then none else m.rise.bind fun r =>
    let f := max now (now + off + env.skew)
    -- a rise still to come needs its 1 ns (R179)
    if r < now ∨ r + 4 ≤ f then some f else none
  let fin := match fall with
    | some f => max k (ceilSample f)
    | none => k
  let ws := (m.words.take i).map fun w => { w with doneAt := min w.doneAt (max k (w.firstOut + 1)) }
  { m with
    fin := fin, finPt := m.pos k, cmdEnd := k, fall := fall
    rise := if fall.isSome then m.rise else none
    segs := m.segs.filter fun g => decide (g.b ≤ k)
    words := match fall with
      | some f => extendLast ((f / 1000).toNat + 1) ws
      | none => ws }

/-- At the first output sample of a later word, its tiles must be resident: else the stroke ends at
the join and its rest waits (R196); before a stroke that follows its JUMP, the engine starves. -/
def State.innerCheck (n k : Nat) (s : State) : State :=
  match (s.engine n).cur with
  | none => s
  | some m =>
    if m.park then s
    else match s.unready? n k 1 m with
      | none => s
      | some i =>
          let env := s.planEnv n
          let first := m.opener == some i
          let rest := (m.words.drop i).map (·.item)
          let rest := if first then rest else match rest with
            | x :: r => { x with noSky := true } :: r
            | [] => []
          let m' := m.cut env k i (!first)
          s.modEngine n fun e =>
            { e with
              cur := some m', queue := rest ++ e.queue
              wait := if first then .starved else .inner
              starve := if first then e.starve.inc else e.starve
              innerWait := if first then e.innerWait else e.innerWait.inc
              noPulse := e.noPulse.add (b1 (m.rise.isSome && !first && m'.rise.isNone))
              edges := (e.edges.filter fun x => x.2 && m'.rise.isSome) ++ (m'.fall.map fun f => (f, false)).toList }

/-- The link is ACTIVE and its head not yet ready: the engine emits park records (R296). -/
def State.waitsReady (s : State) (n : Nat) : Bool :=
  (s.headLink n).state == .active && !(s.headLink n).headReady

/-! ## Parking (R205) -/

/-- The motion that parks a command from boundary `t0`; `skyShort` counts a stop ramp cut short. -/
def parkMotion (env : PlanEnv) (h : EphHead) (t0 : Nat) (e : Engine) : Motion :=
  let p := match e.cur with
    | some m => m.pos t0
    | none => e.pos
  let v : Pt := match e.cur with
    | some m => (match m.seg? (t0 - 1) with
      | some g => if t0 = 0 then (0, 0) else g.vel t0
      | none => (0, 0))
    | none => (0, 0)
  let n := if v.sq = 0 then 0 else env.fit p v 1 400
  let c : Course := { t := t0, p := p }
  let c := c.go n .dec (p.add (v.mul ((n : Rat) / 2))) 0 false false false
  let c := c.jump (Pt.ofInt (h.parkX, h.parkY)) (stepOf 40000000 4000000 0x8000).1 400 400 0 0
  { t0 := t0, fin := c.t, start := p, finPt := c.p, segs := c.segs.reverse, cmdEnd := c.t, park := true
    skyShort := b1 (v.sq != 0 && decide (n < 400)) }

/-- Engine `n` drops what it runs and parks from boundary `t0`. -/
def State.park (n t0 : Nat) (s : State) : State :=
  match s.head? n with
  | none => s
  | some h =>
    let env := s.planEnv n
    s.modEngine n fun e =>
      let m := parkMotion env h t0 e
      { e with
        cur := some m, skyShort := e.skyShort.add m.skyShort, recent := [], queue := [], wait := .none, held := none, pend := none
        release := false, escalated := false, candidate := false, edges := [], parked := false
        lastFall := e.lastFall.map fun f => min f (1000 * (t0 : Int)) }

/-- An engine at rest whose head is not ready goes to its park point (R205 step 3, R296). -/
def State.parkReady (n k : Nat) (s : State) : State :=
  match s.head? n with
  | none => s
  | some h =>
    let e := s.engine n
    if s.waitsReady n ∧ s.eclipsed n = false ∧ e.cur = none ∧ e.pos ≠ Pt.ofInt (h.parkX, h.parkY) then
      s.modEngine n fun e => { e with cur := some (parkMotion (s.planEnv n) h k e) }
    else s

/-- An engine at boundary `k`: words done, motions ended, the next one started. An inner wait ends when the rest of
the stroke has its tiles (R196). -/
def State.boundary (k n : Nat) (s : State) : State :=
  if !s.declared n then s
  else
    let s := (s.innerCheck n k).finishWords n k
    let s := s.modEngine n fun e => let e := (e.arrive k).noteStarts k
      { e with wait := if e.wait = .passed then .none else e.wait }
    let s := if (s.engine n).wait = .inner ∧ (s.engine n).cur = none ∧ s.tilesReady n k then
        s.modEngine n fun e => { e with wait := .none }
      else s
    (s.parkReady n k).advance n k ((s.engine n).queue.length + 2)

/-! ## The setpoint record (R197–R202) -/

/-- The next motion of an engine when it starts within the next 5 samples and nothing holds it: its gate edge and its
pre-arm may lie before its first sample. -/
def State.soon? (s : State) (n k : Nat) : Option Motion :=
  let e := s.engine n
  let free : Bool := match e.wait with
    | .none => true
    | .wait _ => true
    | _ => false
  if e.cur.any (·.park) ∨ e.held.isSome ∨ free = false ∨ s.mayRun n = false then none
  else
    let b := e.base (k + 1)
    (nextMotion? (s.planEnv n) (k + 5) (b.items.length + 1) b.t b.p b.fall b.z b.items).filter fun m =>
      m.rise.any (fun r => decide (r < 1000 * ((k : Int) + 5))) && s.resident n m 0 &&
        e.pend.all fun p => decide (m.t0 < p.at_)

/-- The gate of one sample: the edges in it and the level at its end. -/
structure GateOut where
  on : Option Nat := none
  off : Option Nat := none
  gate : Bool
  rest : List (Int × Bool) := []
  deriving DecidableEq, Repr

/-- The edges of sample `k` (R183). -/
def gateAt (k : Nat) (gate : Bool) (edges : List (Int × Bool)) : GateOut :=
  let now := edges.filter fun x => decide (x.1 < 1000 * ((k : Int) + 1))
  let rest := edges.filter fun x => !decide (x.1 < 1000 * ((k : Int) + 1))
  let ofs (x : Int × Bool) : Nat := (x.1 - 1000 * (k : Int)).toNat
  { on := (now.find? (·.2)).map ofs, off := (now.find? fun x => !x.2).map ofs,
    gate := (now.getLast?).elim gate (·.2), rest := rest }

/-- The head outputs of a command, or the last ones while no grid is loaded. -/
def State.outputs (s : State) (n : Nat) (p : Int × Int) (f : Rat) : Int × Int × Int :=
  let e := s.engine n
  match s.head? n, s.grid? n with
  | some h, some g => headOut h g.bytes e.focusGain p f
  | _, _ => (e.sr.x, e.sr.y, e.sr.z)

/-- The slewed power of a gate-high sample (R199). -/
def slewPower (slew prev target : Nat) : Nat :=
  if slew = 0 then target
  else if prev + slew < target then prev + slew
  else if target + slew < prev then prev - slew
  else target

/-- What the record of sample `k` is computed from. -/
structure RecSrc where
  gate : GateOut
  /-- The gate is high for some part of the sample. -/
  high : Bool
  /-- The next motion, whose rising edge lies in this sample already. -/
  early : Bool
  ahead : Option Motion
  /-- The word of the command, and the word of the record. -/
  own : Option MWord
  word : Option MWord
  deriving DecidableEq, Repr

/-- Gate edges and words of sample `k` (R183, R207). -/
def State.recSrc (s : State) (k n : Nat) : RecSrc :=
  let e := s.engine n
  let ecl := s.eclipsed n
  let ahead := s.soon? n k
  -- an edge of the next motion that lies in this sample
  let early : List (Int × Bool) := match ahead.bind (·.rise) with
    | some r => if e.gate = false ∧ r < 1000 * ((k : Int) + 1) then [(max r (1000 * (k : Int)), true)] else []
    | none => []
  let g : GateOut := if ecl then { gate := false } else gateAt k e.gate (e.edges ++ early)
  let high := !ecl && (e.gate || g.on.isSome)
  let own := e.cur.bind fun m => m.words[if high then m.strokeWord k else m.wordAt k]?
  let next := ahead.bind fun a => a.words[a.opener.getD 0]?
  -- a gate that is high over a command at rest belongs to the next stroke
  { gate := g, high := high, early := !early.isEmpty, ahead := ahead, own := own
    word := if !early.isEmpty || (high && e.cur.isNone) then next else own }

/-- The stroke that a rising edge in the next four samples starts, and the sample of the edge (R199). -/
def RecSrc.arm (k : Nat) (cur : Option Motion) (r : RecSrc) : Option (Motion × Nat) :=
  let near (m : Motion) (t : Int) : Option (Motion × Nat) :=
    if 1000 * ((k : Int) + 1) ≤ t ∧ t < 1000 * ((k : Int) + 5) then some (m, (t / 1000).toNat) else none
  match (r.gate.rest.find? (·.2)).map (·.1), cur with
  | some t, some m => near m t
  | _, _ => r.ahead.bind fun a => a.rise.bind (near a)

/-- The level of LASER_GATE for a gate state (R184). -/
def State.pinLevel (s : State) (n : Nat) (on : Bool) : Bool := on != (s.laser? n).any (·.gateInvert)

/-- An edge at `E` on the pin: E >> 2 ns, and the taps calibrated for E & 3 (R183). -/
def State.pinEdge (s : State) (n : Nat) (on : Bool) (e : Nat) : Bool × Nat × Nat :=
  let t := nth (0, 0, 0) s.cal.taps n
  (s.pinLevel n on, e / 4, match e % 4 with
    | 0 => 0
    | 1 => t.1
    | 2 => t.2.1
    | _ => t.2.2)

/-- The edges of LASER_GATE in a sample, in order. Eclipse drives the gate low ahead of any edge and without the
delay line (R184). -/
def State.pinEdges (s : State) (n : Nat) (was ecl : Bool) (g : GateOut) : List (Bool × Nat × Nat) :=
  if ecl then (if was then [(s.pinLevel n false, 0, 0)] else [])
  else
    let on := (g.on.map (s.pinEdge n true)).toList
    let off := (g.off.map (s.pinEdge n false)).toList
    if was then off ++ on else on ++ off

/-- The engine after it has made the record of sample `k` (R199, R201, R202). -/
def State.makeRec (k n : Nat) (s : State) : State :=
  let e := s.engine n
  let ecl := s.eclipsed n
  let src := s.recSrc k n
  let g := src.gate
  let m? := e.cur
  let parking := m?.any (·.park)
  let p : Pt := m?.elim e.pos (·.pos k)
  let v : Pt := m?.elim (0, 0) (·.dir k)
  let dir := match s.head? n with
    | some h => if v.sq = 0 then e.dir else dirOf h v
    | none => e.dir
  let sky := m?.any fun m => (m.seg? k).any (·.sky)
  let t := if m?.isSome || src.high then src.word.map fun w => s.target n k w src.high else none
  let slew := (s.laser? n).elim 0 (·.slew)
  let power : Nat :=
    if ecl then 0
    else if g.off.isSome then e.power
    else if src.high then t.elim 0 fun t => slewPower slew e.power t.1
    else match src.arm k m? with
      | some (a, j) => (a.words[a.strokeWord j]?).elim 0 fun w => (s.target n j w true).1
      | none => 0
  let f : Rat := if parking then 0 else src.own.elim e.focus fun w => w.focus k
  let out := s.outputs n p.round f
  let r : SetRec :=
    { e.sr with
      x := out.1, y := out.2.1, z := out.2.2
      gate := g.gate, edgeOn := g.on, edgeOff := g.off, sky := sky && !parking
      loop := t.any (·.2.2.2), hold := m?.isNone && e.held.isSome, park := ecl || s.waitsReady n, eclipse := ecl
      power := power, dir := dir, px := p.round.1, py := p.round.2, exposing := src.high
      ff := t.elim 0x8000 (·.2.1), loopF := t.elim 0x8000 (·.2.2.1) }
  let r := match src.word with
    | some w => { r with
        spot := w.entry.spot, atlas := w.item.word.atlas, cls := w.entry.cls, hasWord := true,
        vseq := w.item.vseq.getD r.vseq, pool := w.item.pool }
    | none => r
  let ts := match s.head? n with
    | some h => tilesAt (gridAt h p.round f)
    | none => []
  let e' : Engine := { e with
    gate := g.gate, edges := g.rest, power := power, dir := dir, sr := r
    pin := s.pinLevel n g.gate, pinEdges := s.pinEdges n e.gate ecl g
    hist := ((k, dir, g.gate) :: e.hist).take 512, gateOn := stat e.gateOn (b1 src.high) }
  s.modEngine n fun _ => e'.touch ts

/-- Engine `n` of a running layer has nothing staged to run: a block of its exclusive pool is not staged, or the
layer is open and its next block has not been sent (R32, R153; DEDUCED, log entry 49). -/
def State.lacksWords (s : State) (n : Nat) : Bool :=
  let e := s.engine n
  match s.job.running with
  | none => false
  | some l =>
    s.mayRun n && e.cur.isNone && e.queue.isEmpty && e.held.isNone && e.wait == .none &&
      !((s.job.layers.any fun x => x.num == l && x.closed) &&
        (s.pool? n).all fun p => p.queue.all fun d => d.layer != l || d.items.isEmpty)

/-- Starvation for want of words begins, goes on or ends with a sample; its beginning is counted (R32). -/
def State.noteStarving (s : State) : State :=
  { s with engines := updAll s.engines fun n e =>
    let now := s.lacksWords n
    { e with starving := now
             starve := if now && !e.starving then e.starve.inc else e.starve
             starveTime := stat e.starveTime (b1 now) } }

/-- Time that engines spend waiting in a sample (R206). -/
def Engine.count (e : Engine) : Engine :=
  match e.wait with
  | .starved => { e with starveTime := stat e.starveTime 1 }
  | .inner => { e with starveTime := stat e.starveTime (b1 e.cur.isNone) }
  | .sync _ _ => { e with syncWait := stat e.syncWait 1 }
  | _ => e

/-! ## Rows -/

/-- VECTOR_START (R32, R194): a starved engine has its words and tiles and starts with the next sample. -/
def execVectorStart (n : Nat) (s : State) : Host.Outcome State Fault Refusal :=
  .next (if s.mayRun n ∧ (s.engine n).wait = .starved ∧ (s.engine n).cur = none ∧ s.tilesReady n (s.ix + 1) then
    s.modEngine n fun e => { e with wait := .none }
  else s)

/-- WAIT_END (R141): the sample that a WAIT word waits for is the next one. -/
def execWaitEnd (n : Nat) (s : State) : Host.Outcome State Fault Refusal :=
  .next (match (s.engine n).wait with
    | .wait u => if u ≤ s.ix + 1 then (s.dropControl n s.ix).settleDescs else s
    | _ => s)

end Sys2Proof.Machine
end

