-- ==== Sys2Proof/Machine/Eclipse.lean ====
section
/-!
DEFINITION. Eclipse (R504–R512): triggers, what entering does to engines, holds, takes and
descriptors (R165, R205, R231), and leaving.
-/

namespace Sys2Proof.Machine

/-! ## Holds that end (R218, R233, R234) -/

/-- The word that a hold-log entry names: the first word of the held stroke, or a lone JUMP. -/
def Engine.heldWord? (e : Engine) : Option Item :=
  match e.queue with
  | [] => none
  | j :: r => if j.word.ty = .jump then ((takeStroke r).1.head?).getD j else j

/-- The hold of engine `n` ends: sample `t` is the first that it is not held in. RULE is 0 unless the
arbiter released it (R234). -/
def State.endHold (n t : Nat) (released : Bool) (s : State) : State :=
  let e := s.engine n
  match e.held with
  | none => s
  | some h =>
    let dur := t - h.start
    let w := e.heldWord?
    let rule := if released then h.rule else 0
    let log : HoldLog :=
      { w0 := packWord [(b1 e.escalated, 31), (rule, 29), (h.blocker, 16), (n, 0)]
        w1 := BitVec.ofNat 32 h.start
        w2 := satAdd 0 dur
        w3 := w.elim 0 fun i => if i.word.ext then i.word.tag else 0
        w4 := w.elim 0 fun i => i.vseq.getD 0 }
    let a := s.arb
    let a := if a.log.length < 64 then { a with log := a.log ++ [log] }
      else { a with dropped := if a.dropped = 0xFFFF then a.dropped else a.dropped + 1 }
    let s := { s with arb := a }
    let s := s.modEngine n fun e =>
      { e with holdMax := Counter.max dur e.holdMax, layerHold := max dur e.layerHold, blocker := h.blocker }
    if a.tailMin.toNat ≠ 0 ∧ a.tailMin.toNat ≤ dur then
      s.record 0x0042 .data (u32s [log.w0.toNat, log.w1.toNat, log.w2.toNat, log.w3.toNat, log.w4.toNat])
    else s

/-! ## What an engine gives back (R231) -/

/-- Words that return to the head of their descriptor. The remainder of a seam cut that is still there
joins its stroke again (R226). -/
def Desc.giveBack (back : List Item) (d : Desc) : Desc :=
  let real := back.filter fun i => i.ext.isNone
  match back.getLast?, d.items with
  | some x, w :: r =>
    if x.ext.isSome ∧ w.remainder ∧ x.ofs = w.ofs then
      { d with items := real ++ { w with remainder := false, taper := 0 } :: r, out := d.out - real.length }
    else { d with items := back ++ d.items, out := d.out - real.length }
  | _, _ => { d with items := back ++ d.items, out := d.out - real.length }

/-- Takes that are granted and not committed return to the heads of their pools; the rest of a take
that has started does not. -/
def State.returnTakes (n : Nat) (s : State) : State :=
  let started (i : Item) : Bool := !decide (0x100 ≤ i.pool) || !(i.word.ty == .jump || i.remainder)
  let back := ((s.engine n).queue.dropWhile started).filter fun i => decide (0x100 ≤ i.pool)
  let keys := (back.map fun i => (i.pool, i.desc)).eraseDups
  let s := keys.foldl (fun s k =>
    (s.modDesc k.1 k.2 (Desc.giveBack (back.filter fun i => i.pool == k.1 && i.desc == k.2))).modPool k.1
      fun p => { p with windows := [], headAge := 0, escalated := false }) s
  s.modEngine n fun e => { e with queue := e.queue.takeWhile started ++
    (e.queue.dropWhile started).filter fun i => !decide (0x100 ≤ i.pool) }

/-- The words of its own pool that engine `n` has not begun return to their descriptors. -/
def State.returnOwn (n : Nat) (s : State) : State :=
  let back := (s.engine n).queue.filter fun i => i.pool == n
  let ids := (back.map (·.desc)).eraseDups
  let s := ids.foldl (fun s d => s.modDesc n d (Desc.giveBack (back.filter fun i => i.desc == d))) s
  s.modEngine n fun e => { e with queue := e.queue.filter fun i => i.pool != n }

/-! ## Words that a memory error stops (R154, R389 region 3, R398) -/

/-- The units of a plan before the first that holds a word which `bad` names, and what follows. -/
def cleanUnits (bad : Item → Bool) : Nat → List Item → List Item × List Item
  | 0, l => ([], l)
  | fuel + 1, l =>
    let u := splitUnit l
    if u.1.isEmpty || u.1.any bad then ([], l)
    else
      let t := cleanUnits bad fuel u.2
      (u.1 ++ t.1, t.2)

/-- The words of an engine's plan from the first bad unit on go back to their descriptors. -/
def State.returnBad (bad : Item → Bool) (n : Nat) (s : State) : State :=
  let q := (s.engine n).queue
  if !q.any bad then s
  else
    let c := cleanUnits bad q.length q
    let keys := (c.2.map fun i => (i.pool, i.desc)).eraseDups
    let s := keys.foldl (fun s k =>
      s.modDesc k.1 k.2 (Desc.giveBack (c.2.filter fun i => i.pool == k.1 && i.desc == k.2))) s
    s.modEngine n fun e => { e with queue := c.1 }

/-- The words that `bad` names will not start: their descriptors end at them. -/
def State.spoilWords (bad : Item → Bool) (s : State) : State :=
  let s := (List.range 32).foldl (fun s n => s.returnBad bad n) s
  let mark (i : Item) : Item := if bad i then { i with bad := true } else i
  let pool (p : Pool) : Pool := p.modDescs fun d => { d with items := d.items.map mark }
  { s with job := { s.job with pools := s.job.pools.map pool } }

/-- Why a head takes no vectors: it is held out (R297), or no matching grid is loaded (R45). -/
def State.poolRefusal? (s : State) (n : Nat) : Option Code :=
  if (s.headLink n).state = .heldOut then some 0x0904
  else if s.gridOk n then none else some 0x0902

/-- The descriptors that reach the head of a track queue complete without executing, up to one that still runs. -/
def refuseFront (c : Code) : List Desc → List Desc
  | [] => []
  | d :: r => if d.out = 0 then (if d.over then d else d.discard c) :: refuseFront c r else d :: r

/-- The exclusive pool of a head that takes no vectors (R45, R297). -/
def State.refusePool (n : Nat) (s : State) : State :=
  match s.poolRefusal? n with
  | none => s
  | some c =>
    if s.gridGone n then
      -- the words before the error still run; the descriptor that met it ends first (R398)
      let s := if (s.engine n).queue.any (·.bad) then
          (s.returnBad (·.bad) n).modEngine n fun e => { e with wait := if e.wait = .inner then .none else e.wait }
        else s
      s.modPool n fun p =>
        if p.queue.any fun d => d.items.any (·.bad) then p else { p with queue := refuseFront c p.queue }
    else
      let s := (s.returnTakes n).returnOwn n
      s.modPool n fun p => { p with queue := refuseFront c p.queue }

/-- Every exclusive pool whose head takes no vectors. -/
def State.refusePools (s : State) : State :=
  (List.range 32).foldl (fun s n => if s.declared n then s.refusePool n else s) s

/-! ## Descriptors (R165) -/

/-- The words that engine `n` was given and has not finished count as not executed. -/
def State.cutWords (n : Nat) (s : State) : State :=
  let e := s.engine n
  let undone := (e.cur.elim [] fun m => (m.words.drop m.nDone).map (·.item)) ++ e.queue
  (undone.filter fun i => i.ext.isNone).foldl (fun s i =>
    s.modDesc i.pool i.desc fun d => { d.failAt 0x0B02 i.ofs with out := d.out - 1 }) s

/-- The descriptors of a pool that `p` names are discarded. -/
def State.discardDescs (num : Nat) (code : Code) (p : Desc → Bool) (s : State) : State :=
  s.modPool num (Pool.modDescs fun d => if p d then d.discard code else d)

/-- The running layer's descriptors of an exclusive pool are discarded. -/
def State.dropExclusive (n : Nat) (s : State) : State :=
  match s.job.running with
  | some l => s.discardDescs n 0x0B02 fun d => d.layer == l
  | none => s

/-- The zones whose eligible heads are all in Eclipse lose their descriptors of the running layer. -/
def State.dropZones (s : State) : State :=
  match s.job.running with
  | none => s
  | some l =>
    s.zones.zipIdx.foldl (fun s z =>
      if (bitsSet (BitVec.ofNat 32 z.1.headMask) 32).all s.eclipsed then
        s.discardDescs (overlapPool z.2) 0x0B02 fun d => d.layer == l
      else s) s

/-- Every declared channel is in Eclipse. -/
def State.allEclipsed (s : State) : Bool :=
  s.declaredMask != 0 && (List.range 32).all fun n => !s.declared n || s.eclipsed n

/-- Eclipse of all channels ends the build once the heads are parked (R165, R324). -/
def State.abortBuild (s : State) : State :=
  if s.allEclipsed ∧ s.inBuild ∧ s.job.ending = false then
    let s := s.job.pools.foldl (fun s p => s.discardDescs p.num 0x0B02 fun _ => true) s
    { s with job := { s.job with ending := true, syzygy := .none },
             recoat := { s.recoat with cancelled := s.job.syzygy == .recoat } }
  else s

/-! ## Entering (R504, R507) -/

/-- Engine `n` stops for Eclipse in sample `k`: hold, takes, words and exclusive descriptors, and the
way to the park point from record `t0` on. -/
def State.stopEngine (n k t0 : Nat) (s : State) : State :=
  let s := s.endHold n (k + 1) false
  let s := (s.returnTakes n).cutWords n
  (s.dropExclusive n).park n t0

/-- A channel that enters Eclipse in sample `k`. -/
def EclipseCh.enter (k bit : Nat) (code : Code) : EclipseCh :=
  { inEclipse := true, causes := BitVec.ofNat 16 (2 ^ bit), firstCode := code, since := k, bit := bit }

/-- A cause added to a channel in Eclipse: of the triggers of the sample in which it entered, the one with the lowest
cause bit gives FIRST_CODE. -/
def EclipseCh.add (k bit : Nat) (code : Code) (c : EclipseCh) : EclipseCh :=
  let c := { c with causes := c.causes ||| BitVec.ofNat 16 (2 ^ bit) }
  if c.since = k ∧ bit < c.bit then { c with firstCode := code, bit := bit } else c

/-- A trigger acts in sample `k`, with its first Eclipse record at `t0` (R507). -/
def State.triggerAt (k t0 : Nat) (scope : Nat → Bool) (bit : Nat) (code : Code) (s : State) : State :=
  let inScope := (List.range 32).filter fun n => s.declared n && scope n
  let leaving n := bitOf s.eclipse.leaving n
  let entering := inScope.filter fun n => !s.eclipsed n || leaving n
  let added := inScope.filter fun n => s.eclipsed n && !leaving n
  let entered := maskOf 32 entering.contains
  let s := (entering.filter fun n => !s.eclipsed n).foldl (fun s n => s.stopEngine n k t0) s
  let ch := updAll s.eclipse.ch fun n c =>
    if entering.contains n then .enter k bit code
    else if added.contains n then c.add k bit code
    else c
  let s := { s with eclipse := { s.eclipse with
    ch := ch, entries := s.eclipse.entries.add entering.length,
    leaving := s.eclipse.leaving &&& ~~~entered } }
  let s := (s.dropZones).abortBuild.settleDescs
  let s := s.record 0x0031 .data
    (u32s [entered.toNat, (maskOf 32 added.contains).toNat, code.toNat, bit] ++ leBytes 8 s.ix)
  if entered = 0 then s else s.event 2 code (entered.setWidth 64)

/-- A trigger of the present sample: its channels' records carry Eclipse from the next one on (R205). -/
def State.trigger (scope : Nat → Bool) (bit : Nat) (code : Code) (s : State) : State :=
  s.triggerAt s.ix (s.ix + 1) scope bit code

/-- Every channel. -/
def allCh : Nat → Bool := fun _ => true

/-- ECLIPSE_IN_REQUEST (R505). -/
def execEclipseInRequest (s : State) : Host.Outcome State Fault Refusal :=
  .next (if s.power.core ∧ s.eclipse.inReq = false then
    ({ s with eclipse := { s.eclipse with inReq := true } }).trigger allCh 0 0x0B02
  else { s with eclipse := { s.eclipse with inReq := true } })

/-- ECLIPSE_IN_RELEASE (R505): no channel leaves Eclipse. -/
def execEclipseInRelease (s : State) : Host.Outcome State Fault Refusal :=
  .next { s with eclipse := { s.eclipse with inReq := false } }

/-! ## Leaving (R510, R511) -/

/-- A live thermal breach that names channel `n` (R442): its code. -/
def State.thermalLive (s : State) (n : Nat) : Option Code :=
  match s.eph.eph with
  | none => none
  | some e =>
    (e.thermal.sensors.zipIdx.findSome? fun t =>
      let r := nth {} s.power.thm t.2
      if t.1.kind = 0 ∨ !(t.1.eclipseAll || bitOf t.1.eclipseMask n) then none
      else if r.high.live || r.fault then some 0x0802
      else if r.low.live then some 0x0803
      else if r.riseLive then some 0x0804
      else none)

/-- Checks 2 to 6 of R510 for one channel, in order; step `i` of a write takes all channels at once. -/
def State.leaveCheck (s : State) (i n : Nat) : Option Code :=
  match i with
  | 1 => if s.declared n && s.eclipsed n then none else some 0x0204
  | 2 => if s.eclipse.inReq then some 0x0509 else none
  | 3 => s.thermalLive n
  | 4 => if (s.headLink n).state == .active && (s.headLink n).headReady then none else some 0x0509
  | 5 => if (s.powerLoop? n).any (·.feTrip) then some 0x0509 else none
  | _ => if (s.engine n).parked then none else some 0x0509

/-- BLOCKED of ECLIPSE_CAUSE (R510). -/
def State.leaveBlocked (s : State) (n : Nat) : Bool :=
  s.eclipsed n && [2, 3, 4, 5, 6].any fun i => (s.leaveCheck i n).isSome

/-- The first check that a write to ECLIPSE_LEAVE fails. -/
def State.leaveBad (s : State) (m : W32) : Option Code :=
  [1, 2, 3, 4, 5, 6].findSome? fun i => (bitsSet m 32).findSome? (s.leaveCheck i)

/-- ECLIPSE_LEAVE_EFFECT (R511): the accepted channels leave with the sample that follows. -/
def execEclipseLeaveEffect (s : State) : Host.Outcome State Fault Refusal :=
  let m := s.eclipse.leaving
  if m = 0 then .next s
  else
    let ch := updAll s.eclipse.ch fun n c => if bitOf m n then {} else c
    let s := { s with eclipse := { s.eclipse with ch := ch, leaving := 0 } }
    let jump (p : Pool) : Pool :=
      match s.job.running with
      | some l => if p.num < 32 ∧ bitOf m p.num then
          { p with scans := p.scans.map fun x => if x.layer = l then { x with need := true } else x
                   lastJump := p.lastJump && p.lastLayer != l }
        else p
      | none => p
    let s := { s with job := { s.job with pools := s.job.pools.map jump } }
    .next (s.event 2 0 (m.setWidth 64 <<< 32))

end Sys2Proof.Machine
end

