-- ==== Sys2Proof/Machine/Arbiter.lean ====
section
/-!
DEFINITION. The Conjunction arbiter (ch. 07): published slices, precedence, holds and releases,
takes, seam cuts and breaches.
-/

namespace Sys2Proof.Machine

/-! ## The rules (R208, R209, R212) -/

/-- The rank of an engine (R220). -/
def Arbiter.rank (a : Arbiter) (n : Nat) : Nat := (n + 32 - a.rank0) % 32

/-- The exclusion classes with the given numbers. -/
def State.classesOf (s : State) (cs : List Nat) : List EphClass :=
  match s.eph.eph with
  | some e => cs.filterMap fun c => e.classes[c]?
  | none => []

/-- The gas vector (R43). -/
def State.gas (s : State) : Int × Int := s.eph.eph.elim (0, 0) fun e => (e.machine.gasX, e.machine.gasY)

/-- SEP over two lists of classes; 0 when none has SEP_ON (R208, R212). -/
def sepOf (a b : List EphClass) : Int :=
  (((a ++ b).filter (·.sepOn)).foldl (fun m c => max m c.minSep) 0 : Nat)

/-- The rule that two exposing spots break: bit 0 separation, bit 1 cone (R208, R209). -/
def State.spotRule (s : State) (a b : SetRec) : Nat :=
  let ca := s.classesOf [a.cls]
  let cb := s.classesOf [b.cls]
  let sep := sepOf ca cb
  let qx := b.px - a.px
  let qy := b.py - a.py
  let near := decide (qx * qx + qy * qy < sep * sep)
  let g := s.gas
  let cone (c : List EphClass) (x y : Int) : Bool := c.any fun c =>
    let du := x * g.1 + y * g.2
    let dw := absI (-x * g.2 + y * g.1)
    c.coneOn && decide (0 < du) && decide (du ≤ c.coneLen * 32768) &&
      decide (dw * 65536 ≤ du * coneT c.coneHalf)
  b1 near + 2 * b1 (cone ca qx qy || cone cb (-qx) (-qy))

/-- A published slice: box and classes (R210). -/
structure Box where
  x0 : Int
  y0 : Int
  x1 : Int
  y1 : Int
  cls : List Nat
  deriving DecidableEq, Repr

/-- The least and greatest of four values. -/
def spread (a b c d : Int) : Int × Int := (min (min a b) (min c d), max (max a b) (max c d))

/-- The bounds of a box along the gas frame: u0, u1, w0 and w1 (R212). -/
def Box.gas (g : Int × Int) (b : Box) : (Int × Int) × (Int × Int) :=
  let u (x y : Int) : Int := x * g.1 + y * g.2
  let w (x y : Int) : Int := -x * g.2 + y * g.1
  (spread (u b.x0 b.y0) (u b.x1 b.y0) (u b.x0 b.y1) (u b.x1 b.y1),
   spread (w b.x0 b.y0) (w b.x1 b.y0) (w b.x0 b.y1) (w b.x1 b.y1))

/-- The gap between two intervals. -/
def gapOf (a0 a1 b0 b1 : Int) : Int := max 0 (max (b0 - a1) (a0 - b1))

/-- The rule by which two published slices conflict: bit 0 separation, bit 1 cone (R212). -/
def State.boxRule (s : State) (a b : Box) : Nat :=
  let ca := s.classesOf a.cls
  let cb := s.classesOf b.cls
  let sep := sepOf ca cb
  let gx := gapOf a.x0 a.x1 b.x0 b.x1
  let gy := gapOf a.y0 a.y1 b.y0 b.y1
  let g := s.gas
  let fa := a.gas g
  let fb := b.gas g
  let dw := gapOf fa.2.1 fa.2.2 fb.2.1 fb.2.2
  let cone (c : List EphClass) (lo hi : Int) : Bool :=
    let on := c.filter (·.coneOn)
    let len : Int := ((on.foldl (fun m c => max m c.coneLen) 0 : Nat) : Int) * 32768
    !on.isEmpty && decide (0 < hi) && decide (lo ≤ len) &&
      decide (dw * 65536 ≤ min hi len * on.foldl (fun m c => max m (coneT c.coneHalf)) 0)
  b1 (decide (gx * gx + gy * gy < sep * sep)) +
    2 * b1 (cone ca (fb.1.1 - fa.1.2) (fb.1.2 - fa.1.1) || cone cb (fa.1.1 - fb.1.2) (fa.1.2 - fb.1.1))

/-! ## What engines publish (R210, R211, R217) -/

/-- The box of a motion's command over samples `a` to `b`, and the classes of their words. On a
segment that is no arc the command runs straight, so its ends bound it. -/
def Motion.box (m : Motion) (a b : Nat) : Box :=
  let ks := a :: b :: m.segs.flatMap fun g =>
    if b < g.a ∨ g.b ≤ a then []
    else match g.kind with
      | .arc _ _ _ => (List.range (min b (g.b - 1) + 1 - max a g.a)).map (max a g.a + ·)
      | _ => [max a g.a, min b (g.b - 1)]
  let ps := ks.map fun k => (m.pos k).round
  let p := (m.pos a).round
  let lo := m.strokeWord a
  let ws := ((m.words.drop lo).take (m.strokeWord b + 1 - lo)).filter fun w => w.item.word.ty != .seam
  { x0 := ps.foldl (fun v q => min v q.1) p.1, x1 := ps.foldl (fun v q => max v q.1) p.1
    y0 := ps.foldl (fun v q => min v q.2) p.2, y1 := ps.foldl (fun v q => max v q.2) p.2
    cls := (ws.map (·.entry.cls)).eraseDups }

/-- A stroke that an engine publishes: its arrival, whether it is committed, its hold start when it
stands in the release plan of an escalated engine, and whether it blocks others (R213, R214, R217). -/
structure Stroke where
  eng : Nat
  arr : Nat
  committed : Bool
  esc : Option Nat := none
  blocks : Bool := true
  rel : Bool := false
  m : Motion
  deriving DecidableEq, Repr

/-- What engine `n` publishes in sample `k`. -/
def State.publish (s : State) (k n : Nat) : List Stroke :=
  let e := s.engine n
  if !s.declared n || s.eclipsed n then []
  else
    let done := e.recent.filter (Motion.recentAt k)
    let cur := e.cur.toList.map fun m => ({ eng := n, arr := e.commitAt, committed := true, m := m } : Stroke)
    let old := done.map fun m => ({ eng := n, arr := m.t0, committed := true, m := m } : Stroke)
    let plan := (s.planAfter n (k + 1)).map fun m =>
      let rel := e.held.isSome || e.pend.any fun p => decide (p.at_ ≤ m.t0)
      ({ eng := n, arr := m.t0, committed := false, rel := rel
         esc := if e.escalated then e.held.map (·.start) else none, blocks := !rel || e.escalated, m := m } : Stroke)
    (old ++ cur ++ plan).filter fun t => t.m.exposure.isSome

/-- The box of the exposing samples of a stroke from `lo` to `hi`. -/
def Stroke.boxIn (lo hi : Nat) (t : Stroke) : Option Box :=
  t.m.exposure.bind fun x =>
    if x.1 ≤ hi ∧ lo ≤ x.2 then some (t.m.box (max x.1 lo) (min x.2 hi)) else none

/-- The box and the classes of two boxes. -/
def Box.join (a b : Box) : Box :=
  { x0 := min a.x0 b.x0, y0 := min a.y0 b.y0, x1 := max a.x1 b.x1, y1 := max a.y1 b.y1
    cls := (a.cls ++ b.cls).eraseDups }

/-- What an engine publishes for the samples `lo` to `hi`: one box and one mask over all its exposing samples in
them; none when there is no such sample (R210). -/
def sliceBox (lo hi : Nat) (ts : List Stroke) : Option Box :=
  match ts.filterMap (Stroke.boxIn lo hi) with
  | [] => none
  | b :: r => some (r.foldl Box.join b)

/-- The last sample of the last slice of a window: a stroke that is exposing at its end makes it last until the
stroke ends (R211). -/
def lastSample (end_ : Nat) (ts : List Stroke) : Nat :=
  ts.foldl (fun e t => match t.m.exposure with
    | some x => if x.1 ≤ end_ ∧ end_ < x.2 then max e x.2 else e
    | none => e) end_

/-- The samples of slice `j` of the window from the present slice `j0` on, for two engines. -/
def sliceSpan (j0 i : Nat) (a b : List Stroke) : Nat × Nat :=
  let lo := 256 * (j0 + i)
  let end_ := lo + 255
  (lo, if i = 32 then max (lastSample end_ a) (lastSample end_ b) else end_)

/-- The earliest slice in which the publications of two engines conflict: its samples and the rule (R212, R214). -/
def State.clash (s : State) (j0 : Nat) (a b : List Stroke) : Option ((Nat × Nat) × Nat) :=
  (List.range 33).findSome? fun i =>
    let w := sliceSpan j0 i a b
    match sliceBox w.1 w.2 a, sliceBox w.1 w.2 b with
    | some x, some y =>
      let r := s.boxRule x y
      if r = 0 then none else some (w, r)
    | _, _ => none

/-- Does stroke `a` have precedence over stroke `b` (R214)? -/
def Arbiter.wins (arb : Arbiter) (a b : Stroke) : Bool :=
  if a.committed != b.committed then a.committed
  else match a.esc, b.esc with
    | some _, none => true
    | none, some _ => false
    | x, y =>
      let d : Int := match x, y with
        | some i, some j => seqDiff 32 i j
        | _, _ => 0
      if d ≠ 0 then decide (d < 0)
      else if a.arr ≠ b.arr then decide (a.arr < b.arr)
      else decide (arb.rank a.eng < arb.rank b.eng)

/-- A conflict that the stroke `x` loses: the blocker and the rule. `own` holds what its engine publishes up to it,
`pub` what all engines publish. Of the other engine count the strokes that block and have precedence over `x`, and
of the two engines' slices only the earliest that conflicts: `x` loses it when it exposes there (R214; DESIGN CHOICE
where several strokes of an engine expose in one slice, log entry 57). -/
def State.losesTo (s : State) (j0 : Nat) (own : List Stroke) (pub : List Stroke) (x : Stroke) : Option (Nat × Nat) :=
  (List.range 32).findSome? fun n =>
    if n = x.eng then none
    else
      let rivals := pub.filter fun t => t.eng == n && t.blocks && !s.arb.wins x t
      (s.clash j0 own rivals).bind fun c => if (x.boxIn c.1.1 c.1.2).isSome then some (n, c.2) else none

/-- The first conflict that one of the strokes `mine` loses, taken in turn behind the strokes `own` of their
engine. -/
def State.loses (s : State) (j0 : Nat) (pub : List Stroke) : List Stroke → List Stroke → Option (Nat × Nat)
  | _, [] => none
  | own, x :: r =>
    match s.losesTo j0 (own ++ [x]) pub x with
    | some l => some l
    | none => s.loses j0 pub (own ++ [x]) r

/-- Every declared engine's published strokes. -/
def State.published (s : State) (k : Nat) : List Stroke := (List.range 32).flatMap (s.publish k)

/-! ## Releases and holds (R215, R218) -/

/-- The order in which held engines are tested: the escalated ones by hold start, then by rank. -/
def State.relOrder (s : State) : List Nat :=
  let held := (List.range 32).filter fun n => (s.engine n).held.isSome
  sortBy (fun a b =>
    let ea := s.engine a
    let eb := s.engine b
    if ea.escalated != eb.escalated then ea.escalated
    else if ea.escalated && ea.held.map (·.start) != eb.held.map (·.start) then
      decide ((ea.held.elim 0 (·.start)) ≤ (eb.held.elim 0 (·.start)))
    else decide (s.arb.rank a ≤ s.arb.rank b)) held

/-- The release test of a held engine in sample `k` (R218). -/
def State.testRelease (k n : Nat) (acc : State × List Stroke) : State × List Stroke :=
  let s := acc.1
  let mine := s.publish k n |>.filter (·.rel)
  let past := acc.2.filter fun t => t.eng == n && t.committed
  match s.loses (k / 256) acc.2 past mine with
  | some (b, r) =>
    (s.modEngine n fun e =>
      { e with held := e.held.map fun h => { h with blocker := b, rule := r }, blocker := b }, acc.2)
  | none =>
    let s := s.endHold n (k + 1) true
    let s := s.modEngine n fun e => { e with held := none, release := true, escalated := false }
    (s, acc.2.filter (fun t => !(t.eng == n && t.rel)) ++ mine.map fun t => { t with blocks := true })

/-- The holdable strokes of sample `k` in order of precedence: arrival, then rank. A motion just released commits
at k + 1 and is not held again. -/
def State.markOrder (s : State) (k : Nat) (pub : List Stroke) : List Stroke :=
  sortBy (fun a b => if a.arr ≠ b.arr then decide (a.arr < b.arr) else decide (s.arb.rank a.eng ≤ s.arb.rank b.eng))
    (pub.filter fun t => !t.committed && (s.engine t.eng).held.isNone &&
      !((s.engine t.eng).release && decide (t.arr ≤ k + 1)))

/-- A pending hold is marked for the first stroke of an engine that loses a conflict: from its hold point on the
engine publishes a release plan, which blocks nobody (R215, R217). -/
def State.markOne (k : Nat) (acc : State × List Stroke) (x : Stroke) : State × List Stroke :=
  let s := acc.1
  let n := x.eng
  if (s.engine n).pend.isSome then acc
  else
    let own := acc.2.filter fun t => t.eng == n && decide (t.arr ≤ x.arr)
    match s.losesTo (k / 256) own acc.2 x with
    | none => acc
    | some l =>
      (s.modEngine n fun e => { e with pend := some { at_ := x.arr, blocker := l.1, rule := l.2 } },
       acc.2.map fun t =>
         if t.eng = n ∧ t.committed = false ∧ x.arr ≤ t.arr then { t with blocks := false, rel := true } else t)

/-- Pending holds of sample `k` are decided anew for the engines that `which` names: one whose stroke loses no
conflict any more is cancelled (R215). -/
def holdMarks (which : Nat → Bool) (k : Nat) (acc : State × List Stroke) : State × List Stroke :=
  let s : State := { acc.1 with engines := updAll acc.1.engines fun n e => if which n then { e with pend := none } else e }
  let pub := acc.2.map fun t =>
    if which t.eng ∧ t.committed = false ∧ (s.engine t.eng).held.isNone then { t with blocks := true, rel := false } else t
  ((s.markOrder k pub).filter fun x => which x.eng).foldl (State.markOne k) (s, pub)

/-- Conflicts of two committed strokes (R216). -/
def State.unresolved (k : Nat) (pub : List Stroke) (s : State) : State :=
  let com := pub.filter fun t => t.committed && ((s.engine t.eng).cur == some t.m)
  let pairs := com.flatMap fun a => (com.filter fun b => decide (a.eng < b.eng)).map fun b => (a, b)
  pairs.foldl (fun s p =>
    let key := ((p.1.eng, p.1.arr), (p.2.eng, p.2.arr))
    if s.arb.unresolvedNow.contains key || (s.clash (k / 256) [p.1] [p.2]).isNone then s
    else
      let new := !s.arb.unresolvedPairs.contains (p.1.eng, p.2.eng)
      let s := { s with arb := { s.arb with
        unresolved := s.arb.unresolved.inc, unresolvedNow := key :: s.arb.unresolvedNow
        unresolvedPairs := if new then (p.1.eng, p.2.eng) :: s.arb.unresolvedPairs
          else s.arb.unresolvedPairs } }
      if new then s.record 0x0041 .data [] else s) s

/-! ## Takes (R222–R226) -/

/-- Engine `n` is a candidate for overlap work in sample `k` (R222). -/
def State.isCandidate (s : State) (k n : Nat) : Bool :=
  let e := s.engine n
  s.mayRun n && s.gridOk n && e.held.isNone && e.pend.isNone && (s.readyUnit? n).isNone &&
    (e.queue.all fun i => i.word.ty != .sync) && decide (s.planEnd n (k + 1) < k + 8192)

/-- The next take of an overlap pool in the running layer: the PARAM words before it, the take, and
what follows, with their descriptor. -/
def State.nextTake? (s : State) (z : Nat) : Option (Desc × List Item × List Item × List Item) :=
  match s.pool? (overlapPool z) with
  | none => none
  | some p =>
    match p.front? with
    | none => none
    | some d =>
      if s.job.running ≠ some d.layer then none
      else
        let ps := d.items.takeWhile fun i => i.word.ty == .param
        let u := splitUnit (d.items.drop ps.length)
        if u.1.isEmpty then none else some (d, ps, u.1, u.2)

/-- The 16-byte units of words. -/
def unitsOf (l : List Item) : Nat := (l.map fun i => i.word.units).sum

/-- A take is staged in an engine's window (R152). -/
def Pool.stagedIn (n units : Nat) (p : Pool) : Bool := p.windows.any fun w => w.1 == n && decide (units ≤ w.2)

/-- Words leave an overlap pool for engine `n`: `rest` stays, and `tail` runs behind them without
counting as given (R152, R227). -/
def State.giveTake (z n : Nat) (d : Desc) (give tail rest : List Item) (s : State) : State :=
  match s.pool? (overlapPool z) with
  | none => s
  | some p =>
    let g := giveItems give p
    let u := unitsOf give
    let p := { g.2 with headAge := 0, escalated := false,
                        windows := (g.2.windows.map fun w => (w.1, w.2 - u)).filter fun w => w.2 != 0 }
    let tail := tail.map fun i =>
      { i with vseq := some p.vseq, speedScale := p.speedScale, powerScale := p.powerScale }
    let s := s.modPool (overlapPool z) fun _ => p
    let s := s.modDesc (overlapPool z) d.flight fun d => { d with items := rest, out := d.out + g.1.length }
    s.modEngine n fun e => { e with queue := e.queue ++ g.1 ++ tail }

/-- A grant counted (R234). -/
def State.countTake (n : Nat) (s : State) : State :=
  let s := s.modEngine n fun e => { e with takes := stat e.takes 1 }
  { s with arb := { s.arb with takes := stat s.arb.takes 1 } }

/-- The whole next take of a zone granted to engine `n`. -/
def State.grantWhole (z n : Nat) (s : State) : State :=
  match s.nextTake? z with
  | none => s
  | some (d, ps, t, rest) => (s.giveTake z n d (ps ++ t) [] rest).countTake n

/-- The prefix of a take up to its SEAM word at position `i` granted to engine `n`, with the extension
along the word that follows (R226–R229). -/
def State.grantPrefix (z n i : Nat) (s : State) : State :=
  match s.nextTake? z with
  | none => s
  | some (d, ps, t, rest) =>
    match t[i]?, t.drop (i + 1) with
    | some seam, w :: more =>
      let want := seam.word.w1.toNat
      let len := w.pathLen
      let limited := decide (len < (want : Rat))
      let o := if limited then len.floor.toNat else want
      let taper := if seam.word.f16 then o else 0
      let ext : Item := { w with ext := some o, taper := taper }
      let s := s.giveTake z n d (ps ++ t.take (i + 1)) [ext]
        ({ w with remainder := true, taper := taper } :: more ++ rest)
      let s := s.countTake n
      { s with arb := { s.arb with seamCut := s.arb.seamCut.inc,
                                   seamClamp := s.arb.seamClamp.add (b1 limited) } }
    | _, _ => s

/-- Where a take begins: its JUMP target, or the seam point of a remainder. -/
def takeTarget (t : List Item) : Pt :=
  match t with
  | j :: _ => if j.word.ty = .jump then Pt.ofInt (j.word.endFrom j.start) else Pt.ofInt j.start
  | [] => (0, 0)

/-- The zones that candidate `n` considers, nearest take first (R223). -/
def State.zonesFor (s : State) (k n : Nat) (granted : List Nat) : List Nat :=
  let here := s.planEndPt n (k + 1)
  let zs := (List.range s.zones.length).filterMap fun z =>
    match s.nextTake? z, s.pool? (overlapPool z) with
    | some (_, ps, t, _), some p =>
      if !granted.contains z && (s.zoneMask z).testBit n && p.stagedIn n (unitsOf (ps ++ t)) then
        some (((takeTarget t).sub here).sq, z) else none
    | _, _ => none
  (sortBy (fun a b : Rat × Nat => decide (a.1 ≤ b.1)) zs).map (·.2)

/-- A trial: does the state after a grant have engine `n` keep every stroke that the grant adds
(R223)? -/
def State.trialOk (s : State) (k n : Nat) (pub : List Stroke) (t : State) : Bool :=
  let old := (s.planAfter n (k + 1)).length
  let new := ((t.planAfter n (k + 1)).drop old).filter fun m => m.exposure.isSome
  let mine := new.map fun m => ({ eng := n, arr := m.t0, committed := false, m := m } : Stroke)
  (t.loses (k / 256) pub (pub.filter (·.eng == n)) mine).isNone

/-- The offers of one sample: the state, published strokes, zones granted, engines served and trials
made. -/
structure Offers where
  s : State
  pub : List Stroke
  zones : List Nat := []
  served : List Nat := []
  trials : Nat := 0
  untried : List Nat := []

/-- A granted take enters the books. -/
def Offers.granted (k z n : Nat) (t : State) (o : Offers) : Offers :=
  { o with s := t, pub := o.pub.filter (fun x => x.eng != n) ++ t.publish k n,
           zones := z :: o.zones, served := n :: o.served }

/-- The prefixes of a take, from its last SEAM word to its first (R226). -/
def State.prefixes (s : State) (z : Nat) : List Nat :=
  match s.nextTake? z, s.zones[z]? with
  | some (_, _, t, _), some e =>
    if e.seamsAllowed then
      ((List.range t.length).filter fun i => (t[i]?).any fun x => x.word.ty == .seam).reverse
    else []
  | _, _ => []

/-- The trials of one candidate over its zones: the whole take, then its prefixes. -/
def Offers.try_ (k n : Nat) : List (Nat × Option Nat) → Offers → Offers
  | [], o => o
  | (z, c) :: r, o =>
    if 48 ≤ o.trials then { o with untried := o.untried ++ [n] }
    else
      let t := match c with
        | none => o.s.grantWhole z n
        | some i => o.s.grantPrefix z n i
      let o := { o with trials := o.trials + 1 }
      if o.s.trialOk k n o.pub t then o.granted k z n t else Offers.try_ k n r o

/-- One candidate's turn (R223). -/
def Offers.turn (k : Nat) (o : Offers) (n : Nat) : Offers :=
  if o.served.contains n then o
  else if 8 ≤ o.served.length ∨ 48 ≤ o.trials then { o with untried := o.untried ++ [n] }
  else o.try_ k n ((o.s.zonesFor k n o.zones).flatMap fun z =>
    (z, none) :: (o.s.prefixes z).map fun i => (z, some i))

/-- An escalated take goes to the first eligible candidate without a trial (R225). -/
def Offers.force (k : Nat) (order : List Nat) (o : Offers) (z : Nat) : Offers :=
  match o.s.pool? (overlapPool z), o.s.nextTake? z with
  | some p, some (_, ps, t, _) =>
    if !p.escalated || decide (8 ≤ o.served.length) then o
    else match order.find? fun n => !o.served.contains n && (o.s.zoneMask z).testBit n &&
        p.stagedIn n (unitsOf (ps ++ t)) with
      | none => o
      | some n =>
        let g := o.s.grantWhole z n
        let g := { g with arb := { g.arb with forced := g.arb.forced.inc } }
        o.granted k z n g
  | _, _ => o

/-- Offers of sample `k` to the candidates (R223, R225). -/
def State.offer (k : Nat) (pub : List Stroke) (s : State) : State :=
  let cands := (List.range 32).filter (s.isCandidate k)
  let s := { s with engines := updAll s.engines fun n e => { e with candidate := cands.contains n } }
  let first := s.arb.untried.filter cands.contains
  let rest := sortBy (fun a b =>
      let x := s.planEnd a (k + 1)
      let y := s.planEnd b (k + 1)
      if x ≠ y then decide (x < y) else decide (s.arb.rank a ≤ s.arb.rank b))
    (cands.filter fun n => !first.contains n)
  let order := first ++ rest
  let o : Offers := { s := s, pub := pub }
  let o := (List.range s.zones.length).foldl (Offers.force k order) o
  let forced := o.served
  let m := holdMarks (fun n => forced.contains n) k (o.s, o.pub)
  let o := order.foldl (Offers.turn k) { o with s := m.1, pub := m.2 }
  { o.s with arb := { o.s.arb with untried := o.untried } }

/-- A sample that the take at a zone's head has stood without a grant (R225). -/
def State.ageTakes (s : State) : State :=
  (List.range s.zones.length).foldl (fun s z =>
    if (s.nextTake? z).isSome then
      s.modPool (overlapPool z) fun p => { p with headAge := p.headAge + 1 }
    else s.modPool (overlapPool z) fun p => { p with headAge := 0, escalated := false }) s

/-- The front of a zone's pool made ready: PARAM words at a descriptor's end set their state (R145), and a
descriptor whose next take a memory error has hit ends (R154). -/
def State.tidyPool (z : Nat) : Nat → State → State
  | 0, s => s
  | fuel + 1, s =>
    match (s.pool? (overlapPool z)).bind Pool.front? with
    | none => s
    | some d =>
      if s.job.running ≠ some d.layer then s
      else
        let ps := d.items.takeWhile fun i => i.word.ty == .param
        let u := (splitUnit (d.items.drop ps.length)).1
        if u.isEmpty then
          let s := s.modPool (overlapPool z) fun p => (giveItems ps p).2
          ((s.modDesc (overlapPool z) d.flight fun d => { d with items := [] }).settleDescs).tidyPool z fuel
        else if (ps ++ u).any (·.bad) then
          let s := s.modPool (overlapPool z) fun p => { p with windows := [], headAge := 0, escalated := false }
          ((s.modDesc (overlapPool z) d.flight (Desc.discard 0x070B)).settleDescs).tidyPool z fuel
        else s

/-- The arbiter's decisions of sample `k`, for boundary k + 1 (R232). -/
def State.arbitrate (k : Nat) (s : State) : State :=
  if s.job.running.isNone then s
  else
    let s := (List.range s.zones.length).foldl (fun s z => s.tidyPool z 65) s
    let r := s.relOrder.foldl (fun a n => State.testRelease k n a) (s, s.published k)
    let m := holdMarks allCh k r
    let s := m.1.unresolved k m.2
    (s.offer k m.2).ageTakes

/-! ## Breaches (R230) -/

/-- The pair that breaks a rule loses one channel: the one whose stroke committed later, or the one of
higher rank. `before` is the state before the records of sample `k` were made. -/
def State.breachPair (k : Nat) (before : State) (s : State) (p : Nat × Nat) : State :=
  let a := s.engine p.1
  let b := s.engine p.2
  if s.eclipsed p.1 || s.eclipsed p.2 || !a.sr.exposing || !b.sr.exposing then s
  else if s.spotRule a.sr b.sr = 0 then s
  else
    let later := if a.commitAt ≠ b.commitAt then decide (a.commitAt < b.commitAt)
      else decide (s.arb.rank p.1 < s.arb.rank p.2)
    let n := if later then p.2 else p.1
    let s := { s with arb := { s.arb with violation := s.arb.violation.inc } }
    let s := s.record 0x0040 .data (u32s [0x0B05])
    let s := s.modEngine n fun _ => before.engine n
    (s.triggerAt k k (· == n) 5 0x0B05).makeRec k n

/-- Every pair of exposing channels is checked in its sample. -/
def State.breaches (k : Nat) (before : State) (s : State) : State :=
  let ex := (List.range 32).filter fun n => (s.engine n).sr.exposing && !s.eclipsed n
  let pairs := ex.flatMap fun a => (ex.filter fun b => decide (a < b)).map fun b => (a, b)
  pairs.foldl (State.breachPair k before) s

/-! ## Rows -/

/-- SYNC_RELEASE (R142): the plan behind the SYNC word is judged at once, and may start with the next
sample. -/
def execSyncRelease (n : Nat) (s : State) : Host.Outcome State Fault Refusal :=
  .next (match (s.engine n).wait with
    | .sync m t =>
      if s.syncFree m t then
        let s := (s.dropControl n s.ix).settleDescs
        let s := s.feed n (s.ix + 1) planFuel
        (holdMarks (· == n) s.ix (s, s.published s.ix)).1
      else s
    | _ => s)

/-- HOLD_ESCALATION (R219). -/
def execHoldEscalation (n : Nat) (s : State) : Host.Outcome State Fault Refusal :=
  .next (match (s.engine n).held with
    | some h =>
      if h.start + 40000 ≤ s.ix + 1 ∧ (s.engine n).escalated = false then
        let s := s.modEngine n fun e => { e with escalated := true }
        { s with arb := { s.arb with escalate := s.arb.escalate.inc } }
      else s
    | none => s)

/-- TAKE_ESCALATION (R225). -/
def execTakeEscalation (zone : Nat) (s : State) : Host.Outcome State Fault Refusal :=
  .next (match s.pool? (overlapPool zone) with
    | some p =>
      if 40000 ≤ p.headAge + 1 then
        s.modPool (overlapPool zone) fun p => { p with escalated := true }
      else s
    | none => s)

end Sys2Proof.Machine
end

