-- ==== Sys2Proof/Machine/AxisPlan.lean ====
section
/-!
DEFINITION. Axis profiles (R309–R312): phases of constant jerk, the planner, and the steps that a
commanded position gives.
-/

namespace Sys2Proof.Machine

/-- A tick of the axis units: 80 samples (R29). -/
def tickLen : Nat := 80

/-- The first tick after sample `k` (R307). -/
def nextTick (k : Nat) : Nat := (k / tickLen + 1) * tickLen

/-! ## Evaluation -/

/-- Position, speed and acceleration of a profile, in units of one sample. -/
structure AxPoint where
  p : Rat
  v : Rat
  a : Rat
  deriving DecidableEq, Repr

/-- A phase evaluated at boundary `t`. -/
def AxPhase.eval (f : AxPhase) (t : Nat) : AxPoint :=
  let d : Rat := ((t - f.at_ : Nat) : Rat)
  { p := f.p + f.v * d + f.a * d * d / 2 + f.j * d * d * d / 6
    v := f.v + f.a * d + f.j * d * d / 2
    a := f.a + f.j * d }

/-- The phase that stands at boundary `t`: the last one that has started. -/
def phaseAt (plan : List AxPhase) (t : Nat) : Option AxPhase :=
  (plan.filter fun f => decide (f.at_ ≤ t)).getLast?

/-- p_plan at boundary `t`. -/
def Axis.planAt (x : Axis) (t : Nat) : AxPoint :=
  match phaseAt x.plan t with
  | some f => f.eval t
  | none => { p := x.rest, v := 0, a := 0 }

/-- A phase of rest. -/
def AxPhase.still (f : AxPhase) : Bool := f.v == 0 && f.a == 0 && f.j == 0

/-- The plan rests at boundary `t` for good. -/
def Axis.doneAt (x : Axis) (t : Nat) : Bool :=
  match x.plan.getLast? with
  | some f => f.still && decide (f.at_ ≤ t)
  | none => true

/-- The plan from boundary `t` on, without what has passed. -/
def Axis.prune (t : Nat) (x : Axis) : Axis :=
  { x with plan := x.plan.filter fun f =>
      decide (t < f.at_) || (phaseAt x.plan t).any (· == f) }

/-- A plan replaced from boundary `t` on. -/
def Axis.replan (t : Nat) (new : List AxPhase) (x : Axis) : Axis :=
  { x with plan := (x.plan.filter fun f => decide (f.at_ < t)) ++ new }

/-! ## The planner (R311, R312) -/

/-- A plan under construction: the boundary it has reached, and its point. -/
structure AxRun where
  t : Nat
  p : Rat
  v : Rat
  a : Rat
  out : List AxPhase := []
  deriving DecidableEq, Repr

/-- `n` ticks at jerk `j`. -/
def AxRun.go (n : Nat) (j : Rat) (r : AxRun) : AxRun :=
  if n = 0 then r
  else
    let f : AxPhase := { at_ := r.t, p := r.p, v := r.v, a := r.a, j := j }
    let e := f.eval (r.t + n * tickLen)
    { t := r.t + n * tickLen, p := e.p, v := e.v, a := e.a, out := r.out ++ [f] }

/-- Rest, or a constant speed, for good. -/
def AxRun.stay (r : AxRun) : AxRun :=
  { r with out := r.out ++ [{ at_ := r.t, p := r.p, v := r.v, a := 0, j := 0 }] }

/-- V, A and J as the planner takes them: µsteps per tick and its powers. -/
structure AxDyn where
  v : Rat
  a : Rat
  j : Rat
  deriving DecidableEq, Repr

/-- V, A and J_MAX in units of one tick of 20 µs. -/
def axDyn (v a j : Nat) : AxDyn :=
  { v := (v : Rat) / 50000, a := (a : Rat) / 2500000000, j := (j : Rat) / 125000000000000 }

/-- Jerk ticks at each end of a ramp (R311). -/
def AxDyn.nj (d : AxDyn) : Nat := if d.j = 0 then 0 else ceilNat (d.a / d.j)

/-- |q|. -/
def absQ (q : Rat) : Rat := if q < 0 then -q else q

/-- The acceleration goes to zero at J_MAX, or at once when J_MAX is 0 (R312). -/
def AxRun.calm (d : AxDyn) (r : AxRun) : AxRun :=
  if r.a = 0 then r
  else if d.j = 0 then { r with a := 0 }
  else
    let n := ceilNat (absQ (r.a * (tickLen * tickLen : Nat)) / d.j)
    { r.go n (-r.a / ((n * tickLen : Nat) : Rat)) with a := 0 }

/-- A ramp to speed `w` (per sample) of `m` ticks and the jerk ticks `nj` (R311). -/
def AxRun.ramp (nj m : Nat) (w : Rat) (r : AxRun) : AxRun :=
  if m = 0 then r
  else
    let a := (w - r.v) / ((m * tickLen : Nat) : Rat)
    if nj = 0 then { ({ r with a := a }).go m 0 with v := w, a := 0 }
    else
      let j := a / ((nj * tickLen : Nat) : Rat)
      let r := { r.go nj j with a := a }
      { (r.go (m - nj) 0).go nj (-j) with v := w, a := 0 }

/-- Ticks of a ramp over a speed change, beyond its jerk ticks (R311). -/
def AxDyn.rampTicks (d : AxDyn) (dv : Rat) : Nat :=
  if dv = 0 then 0 else max (ceilNat (absQ dv / d.a)) d.nj

/-- From a point without acceleration to speed `w` per sample. -/
def AxRun.toSpeed (d : AxDyn) (w : Rat) (r : AxRun) : AxRun :=
  r.ramp d.nj (d.rampTicks ((w - r.v) * (tickLen : Nat))) w

/-- The least number from `lo` on for which a rising condition holds, within 2^40. -/
def leastFrom (pred : Nat → Bool) (lo : Nat) : Nat :=
  lo + (List.range 40).foldr (fun b r => if pred (lo + r + 2 ^ b - 1) then r else r + 2 ^ b) 0

/-- The way that a stop from speed `v1` per tick takes, in µsteps (R312). -/
def AxDyn.stopWay (d : AxDyn) (v1 : Rat) : Rat :=
  if v1 = 0 then 0 else v1 / 2 * ((d.nj + d.rampTicks v1 : Nat) : Rat)

/-- From speed `v1` ≥ 0 towards a target `dist` away that can be reached without passing it: the
phases of R311, with speed `v1` at the start in place of rest (R312), and neither ramp above A. `dir` is 1
or −1. -/
def AxRun.reach (d : AxDyn) (dir dist v1 : Rat) (r : AxRun) : AxRun :=
  let nj := d.nj
  let m := max (ceilNat ((if d.v < v1 then v1 else d.v) / d.a)) nj
  let na := nj + m
  if (v1 / 2 + d.v) * (na : Rat) ≤ dist then
    let nc := ceilNat (dist / d.v - (na : Rat) - v1 * (na : Rat) / (2 * d.v))
    let w := (dist - v1 * (na : Rat) / 2) / ((na + nc : Nat) : Rat)
    let ws := dir * w / (tickLen : Nat)
    (((r.ramp nj m ws).go nc 0).ramp nj m 0)
  else
    let speed (m : Nat) : Rat := dist / ((nj + m : Nat) : Rat) - v1 / 2
    let ok (m : Nat) : Bool := decide (speed m ≤ d.v) && decide (speed m ≤ d.a * (m : Rat))
    let m := leastFrom ok (max nj 1)
    -- the first ramp keeps to A as well; a stop from v1 takes this many ticks, and then both ramps do
    let m := if v1 = 0 ∨ v1 - speed m ≤ d.a * (m : Rat) then m else max m (d.rampTicks v1)
    let m := if v1 = 0 then m else min m ((2 * dist / v1).floor.toNat - nj)
    let w := speed m
    let ws := dir * w / (tickLen : Nat)
    ((r.ramp nj m ws).ramp nj m 0)

/-- To rest at `target` (R311, R312): directly, or over a stop beyond it and back. -/
def AxRun.toTarget (d : AxDyn) (target : Rat) (r : AxRun) : AxRun :=
  let r := r.calm d
  let way (r : AxRun) : Rat × Rat × Rat :=
    let dist := target - r.p
    let dir : Rat := if dist < 0 then -1 else 1
    (dir, absQ dist, dir * r.v * (tickLen : Nat))
  let w := way r
  let r := if w.2.2 < 0 ∨ w.2.1 < d.stopWay w.2.2 then r.toSpeed d 0 else r
  let w := way r
  let r := if w.2.1 = 0 then r else r.reach d w.1 w.2.1 w.2.2
  { r with p := target, v := 0, a := 0 }.stay

/-- To rest, wherever that is (R312). -/
def AxRun.toRest (d : AxDyn) (r : AxRun) : AxRun := ((r.calm d).toSpeed d 0).stay

/-- To a constant speed per sample. -/
def AxRun.cruise (d : AxDyn) (w : Rat) (r : AxRun) : AxRun := ((r.calm d).toSpeed d w).stay

/-- The plan of an axis from boundary `t` on. -/
def Axis.runAt (x : Axis) (t : Nat) : AxRun :=
  let e := x.planAt t
  { t := t, p := e.p, v := e.v, a := e.a }

/-- The axis comes to rest at its target without passing it (R313). -/
def Axis.canReach (x : Axis) (d : AxDyn) (target : Rat) (t : Nat) : Bool :=
  let r := (x.runAt t).calm d
  let dist := target - r.p
  let dir : Rat := if dist < 0 then -1 else 1
  let v1 := dir * r.v * (tickLen : Nat)
  !decide (v1 < 0) && decide (d.stopWay v1 ≤ absQ dist)

/-! ## Steps (R309) -/

/-- The instants, in ns, at which p crosses k + 0.5 between two boundaries in ns, with DIR. -/
def stepsBetween (t0 t1 : Nat) (p0 p1 : Rat) : List (Nat × Bool) :=
  let at_ (c : Int) : Nat :=
    t0 + (roundHalfAway (((c : Rat) + 1 / 2 - p0) / (p1 - p0) * ((t1 - t0 : Nat) : Rat))).toNat
  if p0 < p1 then
    let lo := (p0 - 1 / 2).floor + 1
    let hi := (p1 - 1 / 2).floor
    (List.range (hi + 1 - lo).toNat).map fun i => (at_ (lo + i), true)
  else if p1 < p0 then
    let hi := (p0 - 1 / 2).floor
    let lo := (p1 - 1 / 2).floor + 1
    (List.range (hi + 1 - lo).toNat).map fun i => (at_ (hi - i), false)
  else []

/-- A step waits for STEP_HIGH and DIR_SETUP after the one before it; it moves no later step. -/
def delaySteps (high setup : Nat) : Nat → Bool → List (Nat × Bool) → List (Nat × Bool)
  | _, _, [] => []
  | last, dir, (t, up) :: r =>
    let t := max t (last + 2 * high)
    let t := if up == dir then t else max t (last + setup)
    (t, up) :: delaySteps high setup t up r

/-- Steps enter the generator. -/
def Axis.addSteps (l : List (Nat × Bool)) (x : Axis) : Axis :=
  let last := x.due.getLast?
  let t := last.elim x.lastRise (·.1)
  let dir := last.elim x.dirUp (·.2)
  let high := fieldOf x.cfg 7 0 * 4
  let setup := fieldOf x.cfg 15 8 * 20
  { x with due := x.due ++ delaySteps high setup t dir l }

/-- The steps whose edges have come by `ns` are emitted. -/
def Axis.emit (ns : Nat) (x : Axis) : Axis :=
  let out := x.due.filter fun d => decide (d.1 ≤ ns)
  match out.getLast? with
  | none => x
  | some l =>
    { x with
      due := x.due.filter fun d => !decide (d.1 ≤ ns)
      pos := x.pos + (out.map fun d => if d.2 then (1 : Int) else -1).sum
      steps := x.steps + BitVec.ofNat 64 out.length
      lastRise := l.1, dirUp := l.2 }

/-- p rounded to 2^−32 µstep (R309, R311). -/
def round32 (q : Rat) : Rat := (roundHalfAway (q * 2 ^ 32) : Rat) / 2 ^ 32

/-- p at boundary `t` of the present tick, between its ends (R309). -/
def Axis.pNow (x : Axis) (t : Rat) : Rat :=
  x.p + (x.pNext - x.p) * (t - (x.pAt : Rat)) / ((nextTick x.pAt - x.pAt : Nat) : Rat)

end Sys2Proof.Machine
end

