-- ==== Sys2Proof/Machine/Axis.lean ====
section
/-!
DEFINITION. Motion axes (ch. 11): commands, switches, homing, encoders, following, and the recoat
sequence.
-/

namespace Sys2Proof.Machine

/-! ## Motions -/

/-- V, A and J in force, for a planner run (R308, R311). -/
def Axis.dyn (x : Axis) (e : EphAxis) : AxDyn := axDyn x.v x.a e.jMax

/-- A new motion takes the V and A that were kept for it (R313). -/
def Axis.freshDyn (x : Axis) : Axis :=
  match x.nextDyn with
  | some d => { x with v := d.1, a := d.2, nextDyn := none }
  | none => x

/-- The axis has an encoder. -/
def EphAxis.encoder (e : EphAxis) : Bool := e.quad || e.ssi

/-- A stop at A_STOP clears HOMED on an axis without encoder (R315). -/
def Axis.looseHome (e : EphAxis) (x : Axis) : Axis :=
  if e.encoder then x else { x with homed := false }

/-- An axis whose mode moves. -/
def AxisMode.moves : AxisMode → Bool
  | .disabled | .idle => false
  | _ => true

/-- A motion towards a target from tick `t` on, in mode `m` (R311). -/
def Axis.moveTo (m : AxisMode) (e : EphAxis) (target : Int) (t : Nat) (x : Axis) : Axis :=
  let x := x.freshDyn
  let r := (x.runAt t).toTarget (x.dyn e) (target : Rat)
  { x.replan t r.out with mode := m, target := target, causeAtRest := 1, homeStage := .none, fed := true }

/-- A constant speed of `vel` µsteps per second from tick `t` on, no faster than the V in force. -/
def Axis.runAtSpeed (e : EphAxis) (vel : Int) (t : Nat) (x : Axis) : Axis :=
  let r := (x.runAt t).cruise (x.dyn e) ((vel : Rat) / 4000000)
  x.replan t r.out

/-- A stop at the A in force, or at A_STOP, from tick `t` on, with the END_CAUSE of its rest. -/
def Axis.stopFrom (e : EphAxis) (fast : Bool) (cause t : Nat) (x : Axis) : Axis :=
  let d := if fast then axDyn x.v e.aStop e.jMax else x.dyn e
  let r := (x.runAt t).toRest d
  { x.replan t r.out with mode := .stopping, causeAtRest := cause, homeStage := .none }

/-- A stop at A_STOP without jerk limiting from boundary `t` on, in whole ticks (R315, R321): the whole speed of
p, that of v_feed, v_loop and OFFSET with it, goes to rest. -/
def Axis.hardStop (e : EphAxis) (t : Nat) (x : Axis) : Axis :=
  let fin := nextTick x.pAt
  let pNow := if fin ≤ t then x.pNext else round32 (x.pNow t)
  let rest := x.pAdd + (x.offset : Rat)
  let r : AxRun := { t := t, p := pNow - rest, v := (x.pNext - x.p) / ((fin - x.pAt : Nat) : Rat), a := 0 }
  let x := x.replan t ((r.toSpeed (axDyn x.v e.aStop 0) 0).stay).out
  let x := { x with mode := .stopping, homeStage := .none, fed := false }
  if fin ≤ t then x
  else
    -- the rest of the present tick is generated anew
    let pNext := round32 ((x.planAt fin).p) + rest
    let x := { x with p := pNow, pAt := t, pNext := pNext, due := x.due.filter fun s => decide (s.1 ≤ 250 * t) }
    x.addSteps (stepsBetween (250 * t) (250 * fin) pNow pNext)

/-- A motion with AXIS_JOG's speed: the V in force caps it (R313). -/
def jogSpeed (vel : Int) (v : Nat) : Int := if vel < 0 then max vel (-(v : Int)) else min vel v

/-- The direction of a homing run: 1 or −1. -/
def EphAxis.homeDir (e : EphAxis) : Int := if e.homePositive then 1 else -1

/-- The homing target: HOME, or with HOME_SRC the limit in the homing direction (R316). -/
def Axis.homeTarget (e : EphAxis) (x : Axis) : SwitchName :=
  if bitOf x.cfg 17 then (if e.homePositive then .limPos else .limNeg) else .home

/-- A switch of an axis. -/
def Axis.switch (x : Axis) : SwitchName → Switch
  | .limPos => x.limPos
  | .limNeg => x.limNeg
  | .home => x.home

/-- A switch of an axis changed. -/
def Axis.setSwitch (n : SwitchName) (w : Switch) (x : Axis) : Axis :=
  match n with
  | .limPos => { x with limPos := w }
  | .limNeg => { x with limNeg := w }
  | .home => { x with home := w }

/-! ## Actions at their tick (R306, R307, R310, R313, R316, R318) -/

/-- AXIS_ENABLE. -/
def Axis.actEnable (on : Bool) (x : Axis) : Axis :=
  if !on then { x with mode := .disabled }
  else if x.mode = .disabled then
    { x with mode := .idle, plan := [], rest := x.pNext - x.offset, pAdd := 0, fed := true }
  else x

/-- AXIS_HOME: p_add goes into the profile. With SSI an axis that moves comes to rest first (R312). -/
def Axis.actHome (e : EphAxis) (t : Nat) (x : Axis) : Axis :=
  let plan := x.plan.map fun q => { q with p := q.p + x.pAdd }
  let x := { x.freshDyn with
    mode := .homing, causeAtRest := 0, latched := none, rest := x.rest + x.pAdd, plan := plan, pAdd := 0, fed := true }
  if e.ssi then { x.replan t (((x.runAt t).toRest (x.dyn e)).out) with homeStage := .ssi }
  else
    let v : Int := e.homeDir * x.homeV.toNat
    if (x.switch (x.homeTarget e)).qualified then { x.runAtSpeed e (-v) t with homeStage := .away }
    else { x.runAtSpeed e v t with homeStage := .approach }

/-- AXIS_FOLLOW: P0 is p on entry; an axis that moves comes to rest under R312 first. -/
def Axis.actFollow (e : EphAxis) (t : Nat) (x : Axis) : Axis :=
  let x := x.freshDyn
  let r := (x.runAt t).toRest (x.dyn e)
  { x.replan t r.out with
    mode := .follow, followP0 := (x.planAt t).p, followN := 0, edge0 := none, followRate := 0
    followFrom := r.t, homeStage := .none, fed := true }

/-- AXIS_STOP. A stop at A_STOP clears HOMED (R315). -/
def Axis.actStop (e : EphAxis) (fast : Bool) (t : Nat) (x : Axis) : Axis :=
  if !x.mode.moves then x
  else
    let cause := if x.mode = .stopping then x.causeAtRest else 2
    let x := x.stopFrom e fast cause t
    if fast then x.looseHome e else x

/-- AXIS_SET_DYN: at rest, or with `keep`, from the next motion on; in a motion at once (R313). -/
def Axis.actDyn (e : EphAxis) (v a : Nat) (keep : Bool) (t : Nat) (x : Axis) : Axis :=
  let later : Axis := { x with nextDyn := some (v, a) }
  let now : Axis := { x with v := v, a := a, nextDyn := none }
  let toGo := now.replan t ((now.runAt t).toTarget (now.dyn e) (x.target : Rat)).out
  if keep then later
  else match x.mode with
    | .jog => if x.jogVel = 0 then toGo else now.runAtSpeed e (jogSpeed x.jogVel v) t
    | .move | .recoat => toGo
    | _ => later

/-- An action takes effect at tick `t`. -/
def Axis.act (e : EphAxis) (t : Nat) (c : AxAction) (x : Axis) : Axis :=
  match c with
  | .enable on => x.actEnable on
  | .home => x.actHome e t
  | .move target => x.moveTo .move e target t
  | .recoat target => x.moveTo .recoat e target t
  | .jog vel =>
    { x.freshDyn.runAtSpeed e vel t with
      mode := .jog, jogVel := vel, causeAtRest := 6, homeStage := .none, fed := true }
  | .follow => x.actFollow e t
  | .stop fast => x.actStop e fast t
  | .dyn v a keep => x.actDyn e v a keep t

/-- The actions accepted since the last tick take effect at tick `t`. -/
def Axis.acts (e : EphAxis) (t : Nat) (x : Axis) : Axis :=
  x.todo.foldl (fun x c => x.act e t c) { x with todo := [] }

/-- An accepted action waits for the next tick. -/
def Axis.await (c : AxAction) (x : Axis) : Axis := { x with todo := x.todo ++ [c] }

/-- New V and A bring the axis to rest at its target without passing it (R313); a jog of a homed axis has the soft
limit ahead of it for its target. -/
def Axis.dynFits (e : EphAxis) (d : AxDyn) (t : Nat) (x : Axis) : Bool :=
  match x.mode with
  | .jog =>
    if x.jogVel = 0 then x.canReach d (x.target : Rat) t
    else !x.homed || x.canReach d ((if 0 < x.jogVel then e.softMax else e.softMin : Int) : Rat) t
  | .move | .recoat => x.canReach d (x.target : Rat) t
  | _ => true

/-! ## Commands (R307, R308) -/

/-- The recoat sequence drives the axis. -/
def State.recoatDrives (s : State) (a : Nat) : Bool := s.recoat.running.any fun m => m.axis == a

/-- The checks that every AXIS command shares, and its effect at the next tick. -/
def State.axisCommand (op : W16) (e : Entry) (checks : Nat → EphAxis → Axis → List (Bool × Bad))
    (k : Flight → EphAxis → Nat → State → State) (s : State) : Host.Outcome State Fault Refusal :=
  s.command op e fun f s =>
    let a := e.u 0x18 1
    match s.axisEntry? a with
    | none => s.reject f { code := 0x0208, ofs := 0x18 }
    | some x => s.checked f (checks (nextTick s.ix) x (s.axis a)) (k f x (nextTick s.ix))

/-- A field or state of an axis that does not allow the action. -/
def axBad (b : Bool) (o : Nat) : Bool × Bad := (b, { code := 0x0204, ofs := o })

/-- An action on an axis under the recoat sequence, or on a disabled one (R308). -/
def State.axisBusy (s : State) (e : Entry) (x : Axis) : List (Bool × Bad) :=
  [axBad (s.recoatDrives (e.u 0x18 1)) 0x18, axBad (x.mode == .disabled) 0x18]

/-- The AXIS bit of a motion towards a limit whose input is qualified active (R308). -/
def Axis.blocked (x : Axis) (up : Bool) : Bool := if up then x.limPos.qualified else x.limNeg.qualified

/-- AXIS_STATUS. AX_STATE and the words beside it come from `axWord`. -/
def Axis.stateWord (x : Axis) : W32 :=
  packWord [(b1 x.profileKept, 23), (b1 x.encValid, 22), (b1 x.home.qualified, 21),
    (b1 x.limNeg.qualified, 20), (b1 x.limPos.qualified, 19), (b1 x.homed, 18),
    (b1 (x.mode != .disabled), 17), (x.endCause, 8), (x.mode.num, 0)]

/-- AXIS_STATUS (R307). -/
def execAxisStatus (e : Entry) (s : State) : Host.Outcome State Fault Refusal :=
  s.axisCommand 0x0600 e (fun _ _ _ => [e.zeroFrom 0x19 39]) (fun f _ _ s =>
    let x := s.axis (e.u 0x18 1)
    s.ok f (x.stateWord.toNat + unsignedOf 32 x.pos * 2 ^ 32)
      (unsignedOf 32 x.count + unsignedOf 32 x.dev * 2 ^ 32) [])

/-- AXIS_ENABLE (R306, R310). -/
def execAxisEnable (e : Entry) (s : State) : Host.Outcome State Fault Refusal :=
  let on := e.u 0x19 1
  s.axisCommand 0x0640 e (fun _ _ x =>
    [(decide (1 < on), { code := 0x0205, ofs := 0x19 }), e.zeroFrom 0x1A 38,
     axBad (s.recoatDrives (e.u 0x18 1)) 0x18, axBad (on == 0 && x.mode.moves) 0x19]) (fun f _ t s =>
    (s.modAxis (e.u 0x18 1) (Axis.await (.enable (on == 1)))).ok f t 0 [])

/-- AXIS_HOME (R310, R316). -/
def execAxisHome (e : Entry) (s : State) : Host.Outcome State Fault Refusal :=
  s.axisCommand 0x0641 e (fun _ _ x => e.zeroFrom 0x19 39 :: s.axisBusy e x) (fun f _ t s =>
    (s.modAxis (e.u 0x18 1) (Axis.await .home)).ok f t 0 [])

/-- The boundary at which a plan comes to rest. -/
def Axis.planEnd (x : Axis) (t : Nat) : Nat := x.plan.getLast?.elim t (·.at_)

/-- The position of the profile at boundary `t`, in whole µsteps: AX_POS of an axis at rest that no route, loop
or OFFSET moves (R310; log entry 29). -/
def Axis.planPos (x : Axis) (t : Nat) : Int := roundHalfAway (x.planAt t).p

/-- AXIS_MOVE (R307, R308, R311). -/
def execAxisMove (e : Entry) (s : State) : Host.Outcome State Fault Refusal :=
  let rel := e.u 0x19 1
  let target (x : Axis) (t : Nat) : Int := if rel = 1 then x.planPos t + e.s 0x1C 4 else e.s 0x1C 4
  s.axisCommand 0x0642 e (fun t h x =>
    [(decide (1 < rel), { code := 0x0205, ofs := 0x19 }), e.zeroFrom 0x1A 2, e.zeroFrom 0x20 32] ++
    s.axisBusy e x ++
    [axBad (decide (target x t < h.softMin) || decide (h.softMax < target x t)) 0x1C,
     axBad (decide (x.planPos t < target x t) && x.blocked true ||
       decide (target x t < x.planPos t) && x.blocked false) 0x1C,
     (!x.homed, { code := 0x050A })]) (fun f h t s =>
    let a := e.u 0x18 1
    let s := s.modAxis a fun x => x.await (.move (target x t))
    -- the planned end: the profile as it will stand from tick t on
    s.ok f t (((s.axis a).acts h t).planEnd t) [])

/-- AXIS_JOG (R307, R308). -/
def execAxisJog (e : Entry) (s : State) : Host.Outcome State Fault Refusal :=
  let vel := e.s 0x1C 4
  s.axisCommand 0x0643 e (fun _ _ x =>
    [e.zeroFrom 0x19 3, axBad (vel == 0) 0x1C, e.zeroFrom 0x20 32] ++ s.axisBusy e x ++
    [axBad (x.blocked (decide (0 < vel))) 0x1C,
     axBad (decide ((x.freshDyn.v : Int) < absI vel) ||
       !x.homed && decide ((x.homeV.toNat : Int) < absI vel)) 0x1C]) (fun f _ t s =>
    (s.modAxis (e.u 0x18 1) (Axis.await (.jog vel))).ok f t 0 [])

/-- AXIS_FOLLOW (R318): P0 is p on entry. -/
def execAxisFollow (e : Entry) (s : State) : Host.Outcome State Fault Refusal :=
  s.axisCommand 0x0644 e (fun _ h x => [e.zeroFrom 0x19 39] ++ s.axisBusy e x ++ [axBad (!h.stepIn) 0x18])
    (fun f _ t s => (s.modAxis (e.u 0x18 1) (Axis.await .follow)).ok f t 0 [])

/-- AXIS_STOP (R307, R324). -/
def execAxisStop (e : Entry) (s : State) : Host.Outcome State Fault Refusal :=
  let fast := e.u 0x19 1
  s.axisCommand 0x0645 e (fun _ _ _ => [(decide (1 < fast), { code := 0x0205, ofs := 0x19 }), e.zeroFrom 0x1A 38])
    (fun f _ t s => (s.modAxis (e.u 0x18 1) (Axis.await (.stop (fast == 1)))).ok f t 0 [])

/-- AXIS_SET_DYN (R313). The recoat sequence's axes take it too, as R313 says. -/
def execAxisSetDyn (e : Entry) (s : State) : Host.Outcome State Fault Refusal :=
  let v := e.u 0x1C 4
  let acc := e.u 0x20 4
  s.axisCommand 0x0646 e (fun _ h _ =>
    [e.zeroFrom 0x19 3, axBad (v == 0 || decide (h.vMax < v)) 0x1C, axBad (acc == 0 || decide (h.aMax < acc)) 0x20,
     e.zeroFrom 0x24 28]) (fun f h t s =>
    let a := e.u 0x18 1
    if ((s.axis a).acts h t).dynFits h (axDyn v acc h.jMax) t then
      (s.modAxis a (Axis.await (.dyn v acc false))).ok f t 0 []
    else
      (s.modAxis a fun x => { x.await (.dyn v acc true) with profileKept := true, kept := x.kept.inc }).finish
        f 0x0A01 (BitVec.ofNat 64 t) 0 false [])

/-! ## Switches (R314–R317) -/

/-- The pin level of a switch as active or not (R56). -/
def EphAxis.active (e : EphAxis) (n : SwitchName) (level : Bool) : Bool :=
  match n with
  | .limPos => level != e.limPosLow
  | .limNeg => level != e.limNegLow
  | .home => level != e.homeLow

/-- The present speed of p is towards a limit (R315). -/
def Axis.towards (x : Axis) (positive : Bool) : Bool :=
  if positive then decide (x.p < x.pNext) else decide (x.pNext < x.p)

/-- The end of a homing run at rest (R316 step 5): the position, the encoder zero, HOMED. -/
def Axis.homedAt (e : EphAxis) (shift : Int) (t : Nat) (x : Axis) : Axis :=
  let pos := x.pos + shift
  let d : Rat := shift
  let ratio : Rat := (e.encPerUstep : Rat) / 65536
  { x with
    pos := pos, p := x.p + d, pNext := x.pNext + d, plan := [], rest := (x.planAt t).p + d
    zero := (x.count : Rat) - (pos : Rat) * ratio
    homed := true, endCause := 8, mode := .idle, homeStage := .none, latched := none }

/-- A switch qualifies at its new level (R314, R316). -/
def Axis.qualify (e : EphAxis) (n : SwitchName) (t : Nat) (x : Axis) : Axis :=
  let w := x.switch n
  let w' : Switch := { w with window := false, qualified := w.raw }
  let changed := w.raw != w.qualified
  let x := x.setSwitch n w'
  if x.mode ≠ .homing ∨ n ≠ x.homeTarget e then x
  else if !changed then
    -- the edge does not qualify: the latch is discarded
    if x.homeStage = .approach then { x with latched := none } else x
  else if x.homeStage = .away ∧ w.raw = false then
    let r := (x.runAt t).toRest (x.dyn e)
    { x.replan t r.out with homeStage := .awayRest }
  else if x.homeStage = .approach ∧ w.raw then
    let r := (x.runAt t).toRest (x.dyn e)
    { x.replan t r.out with homeStage := .rest }
  else x

/-- What a raw edge that opens a window does: the model's result of `Axis.edge`. -/
inductive EdgeDone
  | nothing | limit | homing
  deriving DecidableEq, Repr

/-- A raw edge of a switch at `ns` (R314–R317). The level is that of the pin. -/
def Axis.edge (e : EphAxis) (n : SwitchName) (level : Bool) (k ns : Nat) (x : Axis) : Axis × EdgeDone :=
  let act := e.active n level
  let w := x.switch n
  if act = w.raw then (x, .nothing)
  else if w.window then ({ x.setSwitch n { w with raw := act } with chatter := x.chatter.inc }, .nothing)
  else
    let x := x.setSwitch n { w with raw := act, window := true }
    let target := x.mode == .homing && n == x.homeTarget e
    let r : Axis × EdgeDone :=
      if !act then (x, .nothing)
      else if target then
        if x.homeStage = .approach then
          let p := (x.emit ns).pos
          ({ x with latched := some (p, x.count), homeLatch := p }, .nothing)
        else (x, .nothing)
      else if n = .home then (x, .nothing)
      else if x.mode = .homing then
        ({ (x.hardStop e (k + 1)) with endCause := 4, causeAtRest := 4, homed := false }, .homing)
      else if x.towards (n == .limPos) then
        ({ ((x.hardStop e (k + 1)).looseHome e) with
           endCause := 3, causeAtRest := 3, limitStop := x.limitStop.inc }, .limit)
      else (x, .nothing)
    if e.debounce = 0 then (r.1.qualify e n (nextTick k), r.2) else r

/-- A raw edge of a switch of axis `a`. -/
def State.axisEdge (a : Nat) (n : SwitchName) (level : Bool) (ns : Nat) (s : State) : State :=
  match s.axisEntry? a with
  | none => s
  | some h =>
    let r := (s.axis a).edge h n level s.ix ns
    let s := s.modAxis a fun _ => r.1
    match r.2 with
    | .nothing => s
    | .limit => s.record 0x0070 .data []
    | .homing => s.record 0x0071 .data (u32s [0x0B09])

/-- The limit input on one side. -/
def limitOf (positive : Bool) : SwitchName := if positive then .limPos else .limNeg

/-- LIMIT_EDGE (R314, R315): the edge is placed at the start of the present sample. -/
def execLimitEdge (a : Nat) (positive level : Bool) (s : State) : Host.Outcome State Fault Refusal :=
  .next (s.axisEdge a (limitOf positive) level (250 * s.ix))

/-- HOMING_LIMIT (R317). -/
def execHomingLimit (a : Nat) (positive level : Bool) (ns : Nat) (s : State) : Host.Outcome State Fault Refusal :=
  .next (s.axisEdge a (limitOf positive) level ns)

/-- HOME_EDGE (R314, R316): an edge of HOME, or of the limit that HOME_SRC makes the homing target. -/
def execHomeEdge (a : Nat) (edge : SwitchEdge) (ns : Nat) (s : State) : Host.Outcome State Fault Refusal :=
  .next (s.axisEdge a edge.sw edge.level ns)

/-- SWITCH_QUALIFY (R314): the window closes. -/
def execSwitchQualify (a : Nat) (sw : SwitchName) (s : State) : Host.Outcome State Fault Refusal :=
  match s.axisEntry? a with
  | none => .next s
  | some h =>
    .next (s.modAxis a fun x => if (x.switch sw).window then x.qualify h sw (nextTick s.ix) else x)

/-! ## Following (R318) -/

/-- T of an axis in FOLLOW. -/
def Axis.followT (x : Axis) : Rat := x.followP0 + ((fieldOf x.followCfg 24 16 : Nat) : Rat) * (x.followN : Rat)

/-- STEP_IN_EDGE (R318): `dirIn` is the level of DIR_IN at the edge. -/
def execStepInEdge (a : Nat) (dirIn : Bool) (ns : Nat) (s : State) : Host.Outcome State Fault Refusal :=
  .next (if (s.axisEntry? a).isNone then s
  else s.modAxis a fun x =>
    if x.mode ≠ .follow then x
    else
      let x := { x with followN := x.followN + if dirIn then 1 else -1 }
      let cap : Rat := (x.v : Rat) / 4000000
      let p := x.pNow ((ns : Rat) / 250) - x.pAdd - (x.offset : Rat)
      let way := absQ (x.followT - p)
      let rate : Rat := match x.edge0 with
        | none => cap
        | some e => if ns ≤ e then cap else min cap (way * 250 / ((ns - e : Nat) : Rat))
      { x with followRate := rate, edge0 := some ns })

/-- INTERP_TIMEOUT (R318): p moves to T at the last rate and then rests, which is how an axis in FOLLOW
moves between edges. -/
def execInterpTimeout (_a : Nat) (s : State) : Host.Outcome State Fault Refusal := .next s

/-- The profile of one tick in FOLLOW, once the axis rests from an earlier motion: towards T at the rate, no
further than T. -/
def Axis.followTick (k : Nat) (x : Axis) : Axis :=
  if x.mode ≠ .follow ∨ k < x.followFrom then x
  else
  let p := (x.planAt k).p
  let d := x.followT - p
  let way := x.followRate * (tickLen : Nat)
  let step := if absQ d ≤ way then d else if d < 0 then -way else way
  { x with plan := [{ at_ := k, p := p, v := step / (tickLen : Nat), a := 0, j := 0 }] }

/-! ## Encoders (R319–R321) -/

/-- QUAD_TRANSITION (R319): A is bit 1 and B bit 0 of `ab`; A leading B counts up. -/
def execQuadTransition (a ab : Nat) (s : State) : Host.Outcome State Fault Refusal :=
  match s.axisEntry? a with
  | none => .next s
  | some h =>
    .next (if !h.quad then s
    else s.modAxis a fun x =>
      let pos (v : Nat) : Nat := if v = 0 then 0 else if v = 2 then 1 else if v = 3 then 2 else 3
      let d := (pos (ab % 4) + 4 - pos x.ab) % 4
      let x := { x with ab := ab % 4 }
      if d = 0 then x
      else if d = 2 then { x with quadErr := x.quadErr.inc }
      else { x with count := signedOf 32 (unsignedOf 32 (x.count + if d = 1 then 1 else -1)) })

/-- ENCODER_Z_EDGE (R319). -/
def execEncoderZEdge (a : Nat) (s : State) : Host.Outcome State Fault Refusal :=
  .next (if (s.axisEntry? a).any (·.quad) then s.modAxis a fun x => { x with encZ := x.count } else s)

/-- The number that Gray-coded bits spell, most significant bit first. -/
def grayOf (w v : Nat) : Nat :=
  (List.range w).foldl (fun n i =>
    let b := (v.testBit (w - 1 - i)) != n.testBit 0
    n * 2 + b1 b) 0

/-- SSI_FRAME_END (R320): the frame that runs ends; its value is used from the next tick on. -/
def execSsiFrameEnd (a bits : Nat) (highBefore highAfter : Bool) (s : State) : Host.Outcome State Fault Refusal :=
  match s.axisEntry? a with
  | none => .next s
  | some h =>
    .next (if !h.ssi then s
    else s.modAxis a fun x =>
      if !x.ssiRun then x
      else
        let raw := bits % 2 ^ h.ssiBits
        let v := if bitOf x.cfg 16 then grayOf h.ssiBits raw else raw
        if highBefore && highAfter then { x with ssiRun := false, ssiNew := some (some v) }
        else { x with ssiRun := false, ssiNew := some none, ssiErr := x.ssiErr.inc })

/-- The SSI value of a frame that has ended enters the count; a frame starts (R320). -/
def Axis.ssiTick (e : EphAxis) (x : Axis) : Axis :=
  if !e.ssi then x
  else
    let x := match x.ssiNew with
      | none => x
      | some none => { x with encValid := false, ssiNew := none }
      | some (some v) =>
        let c : Int := match x.ssiLast with
          | none => v
          | some l => x.count + seqDiff e.ssiBits v l
        { x with count := signedOf 32 (unsignedOf 32 c), ssiLast := some v, encValid := true, ssiNew := none }
    { x with ssiRun := true }

/-- The encoder position in µsteps from its zero (R321). -/
def Axis.encPos (e : EphAxis) (x : Axis) : Int :=
  roundHalfAway (((x.count : Rat) - x.zero) * 65536 / (e.encPerUstep : Rat))

/-! ## The servo tick (R306, R309, R310, R321) -/

/-- The end of a motion at tick `k` (R306, R311, R316). -/
def Axis.endAt (e : EphAxis) (k : Nat) (x : Axis) : Axis :=
  if !x.doneAt k then x
  else
    let restAt : Axis := { x with plan := [], rest := (x.planAt k).p }
    match x.mode with
    | .move | .recoat | .stopping => { restAt with mode := .idle, endCause := x.causeAtRest }
    | .jog => if x.jogVel = 0 then { restAt with mode := .idle, endCause := x.causeAtRest } else x
    | .homing =>
      match x.homeStage with
      | .awayRest => { restAt.runAtSpeed e (e.homeDir * x.homeV.toNat) k with homeStage := .approach }
      | .rest => x.homedAt e ((signedOf 32 x.homeOfs.toNat) - (x.latched.elim x.pos (·.1))) k
      | _ => x
    | _ => x

/-- A homing run with SSI ends at the first valid frame at which the axis is at rest (R316). -/
def Axis.ssiHome (e : EphAxis) (fresh : Bool) (k : Nat) (x : Axis) : Axis :=
  if x.homeStage = .ssi ∧ fresh ∧ x.encValid ∧ x.doneAt k then
    let pos := roundHalfAway ((x.count : Rat) * 65536 / (e.encPerUstep : Rat)) + signedOf 32 x.homeOfs.toNat
    x.homedAt e (pos - x.pos) k
  else x

/-- A jog of a homed axis comes to rest at the soft limit in its way. -/
def Axis.jogTick (e : EphAxis) (k : Nat) (x : Axis) : Axis :=
  if x.mode ≠ .jog ∨ !x.homed ∨ x.jogVel = 0 then x
  else
    let lim : Int := if 0 < x.jogVel then e.softMax else e.softMin
    let d := x.dyn e
    let r := (x.runAt k).calm d
    let dir : Rat := if 0 < x.jogVel then 1 else -1
    let v1 := dir * r.v * (tickLen : Nat)
    if dir * ((lim : Rat) - r.p) < d.stopWay v1 + 2 * v1 then
      { x.replan k ((x.runAt k).toTarget d (lim : Rat)).out with jogVel := 0, target := lim }
    else x

/-- The deviation conditions of R321 in a tick. -/
def Axis.devBad (e : EphAxis) (x : Axis) : Bool :=
  e.encoder && e.devWindow != 0 && (decide ((e.devWindow : Int) < absI x.dev) || decide (3 ≤ x.invalidTicks))

/-- The velocity feed and the loop's correction of an axis, in µsteps per second (R258, R310). -/
def State.axisFeed (s : State) (a : Nat) (vMax : Nat) : Int :=
  let feed : Int := match s.sink? 6 a 0 with
    | some (y, true) => y
    | _ => 0
  let loops := s.tide.loops.filter fun l => l.entry.kind == 2 && l.entry.target == a
  let corr : Int := (loops.map fun l => roundHalfAway ((l.out : Rat) / 65536)).sum
  clampInt (-(vMax : Int)) vMax (feed + corr)

/-- OFFSET of an axis: held when its source is invalid (R94, R310). -/
def State.axisOffset (s : State) (a : Nat) (e : EphAxis) : Int :=
  match s.sink? 6 a 1 with
  | some (y, true) => clampInt e.softMin e.softMax y
  | _ => (s.axis a).offset

/-- The commanded position of the tick from `k`, its clamp and its steps (R309, R310). -/
def Axis.drive (e : EphAxis) (feed offset : Int) (k : Nat) (x : Axis) : Axis :=
  if x.mode = .disabled then { x with p := x.pNext, pAt := k, vel := 0 }
  else
    let add := x.pAdd + round32 ((feed : Rat) / 50000)
    let q := round32 ((x.planAt (k + tickLen)).p) + add + (offset : Rat)
    let lim : Rat := if q < e.softMin then e.softMin else if (e.softMax : Rat) < q then e.softMax else q
    let act := x.homed && lim != q
    let q' := if act then lim else q
    let p := x.pNext
    let x := { x with
      pAdd := if act then add - (q - lim) else add
      offset := offset, p := p, pAt := k, pNext := q'
      vel := roundHalfAway ((q' - p) * 50000)
      softClamp := if act then x.softClamp.inc else x.softClamp }
    (x.addSteps (stepsBetween (250 * k) (250 * (k + tickLen)) p q')).prune k

/-- What the tick at sample `k` finds: steps out, an SSI value, the end of a motion, and then the actions that take
effect at it. A motion of no length ends at once (R311). -/
def Axis.begin (e : EphAxis) (k : Nat) (x : Axis) : Axis :=
  let x := x.emit (250 * k)
  let fresh := x.ssiNew.isSome
  let x := ((x.ssiTick e).endAt e k).ssiHome e fresh k
  ((x.acts e k).endAt e k).jogTick e k

/-- The first half of an axis's tick at sample `k`: its motions, its encoder and its deviation. A condition of R321
stops a motion at once, and acts once while it lasts on an axis that is at rest, stopping or disabled. -/
def State.axisTick (k a : Nat) (e : EphAxis) (s : State) : State :=
  let x := (s.axis a).begin e k
  let enc := x.encPos e
  let valid := e.quad || x.encValid
  let x : Axis := if e.encoder then
      { x with
        encValid := valid
        dev := enc - x.pos, encVel := (enc - x.prevEnc) * 50000, prevEnc := enc
        invalidTicks := if valid then 0 else x.invalidTicks + 1 }
    else x
  let bad := x.devBad e
  let stop := bad && (x.mode.moves && x.mode != .stopping || !x.devOver)
  let x := { x with devOver := bad }
  let x : Axis := if stop then
      let x := if x.mode = .disabled then x else { x.hardStop e k with causeAtRest := 5 }
      { x with endCause := 5, homed := false, devStop := x.devStop.inc }
    else x
  let s := s.modAxis a fun _ => x
  let s := if stop then s.record 0x0072 .data [] else s
  if !e.encoder then s
  else if valid then s.source 5 a [(0, enc), (1, x.encVel), (2, x.dev)]
  else s.sourceLost 5 a fun _ => true

/-- The second half of an axis's tick: the moves that the recoat sequence starts at it, and the commanded position
of the tick (R309, R310, R322). -/
def State.axisDrive (k a : Nat) (e : EphAxis) (s : State) : State :=
  let fed := (s.axis a).fed
  let feed := if fed then s.axisFeed a e.vMax else 0
  let offset := if fed then s.axisOffset a e else (s.axis a).offset
  s.modAxis a fun x => ((x.acts e k).followTick k).drive e feed offset k

/-- A part of the servo tick on all declared axes, in order. -/
def State.eachAxis (f : Nat → EphAxis → State → State) (s : State) : State :=
  (List.range 8).foldl (fun s a => match s.axisEntry? a with
    | some e => f a e s
    | none => s) s

/-- The first halves of the ticks of all declared axes. -/
def State.axesTick (k : Nat) (s : State) : State := s.eachAxis (State.axisTick k)

/-- The second halves. -/
def State.axesDrive (k : Nat) (s : State) : State := s.eachAxis (State.axisDrive k)

/-- The steps whose edges have come are emitted, on every axis. -/
def State.axesEmit (k : Nat) (s : State) : State :=
  { s with axes := updAll s.axes fun _ x => x.emit (250 * k) }

/-! ## The recoat sequence (R322–R324) -/

/-- The declared axis with a role. -/
def State.roleAxis? (s : State) (role : Nat) : Option EphAxis :=
  s.eph.eph.bind fun e => e.axes.find? fun x => x.role == role

/-- The sequence fails (R323). -/
def State.recoatFail (axis cause : Nat) (s : State) : State :=
  let r := s.recoat
  let st := if r.state = .failed then r.failState else r.state
  ({ s with recoat := { r with state := .failed, failState := st, failAxis := axis, failCause := cause } }).record
    0x0073 .control []

/-- Moves start at tick `t`, in the order given; an axis that cannot move fails the sequence before any
of them. A move of no length ends at once (R311). -/
def State.recoatMoves (st : RecoatState) (ms : List RecoatMove) (t : Nat) (s : State) : State :=
  let s := { s with recoat := { s.recoat with state := st } }
  match ms.find? fun m => (s.axis m.axis).mode == .disabled || !(s.axis m.axis).homed with
  | some m =>
    let s := { s with recoat := { s.recoat with failed := ms } }
    s.recoatFail m.axis 9
  | none =>
    let ms := ms.filter fun m => (s.axis m.axis).planPos t != m.target
    let s := { s with recoat := { s.recoat with running := s.recoat.running ++ ms, failed := [] } }
    ms.foldl (fun s m => s.modAxis m.axis (Axis.await (.recoat m.target))) s

/-- The moves of step 1 from tick `t` on: the platform by −DROP, and the dosing axis by +DOSE. -/
def State.recoatFirst (drop t : Nat) (s : State) : List RecoatMove :=
  let by_ (role : Nat) (d : Int) : List RecoatMove :=
    if d = 0 then [] else match s.roleAxis? role with
      | some h => [{ axis := h.axis, target := (s.axis h.axis).planPos t + d }]
      | none => []
  by_ 1 (-(drop : Int)) ++ by_ 3 s.recoat.dose.toNat

/-- An axis that the sequence needs and that is not enabled or not homed at its start (R323). -/
def State.recoatUnready (s : State) (drop t : Nat) : Option Nat :=
  let need := (s.recoatFirst drop t).map (·.axis) ++ (s.roleAxis? 2).elim [] fun h => [h.axis]
  need.find? fun a => (s.axis a).mode == .disabled || !(s.axis a).homed

/-- The sequence starts at the first tick from sample `t0` on (R322). -/
def State.recoatStart (drop t0 : Nat) (s : State) : State :=
  let t := (t0 + tickLen - 1) / tickLen * tickLen
  let a : Int := signedOf 32 s.recoat.endA.toNat
  let b : Int := signedOf 32 s.recoat.endB.toNat
  let go := match s.roleAxis? 2 with
    | some _ =>
      if s.recoat.bidir then [b] else [b, a]
    | none => []
  let s := { s with recoat := { s.recoat with
    state := .platform, dwellNow := s.recoat.dwell, running := [], failed := [], toGo := go, failAxis := 0
    failCause := 0, recoater := (s.roleAxis? 2).elim 0 (·.axis), endANow := a, cancelled := false
    dwellEnd := 0 } }
  let moves := s.recoatFirst drop t
  match s.recoatUnready drop t with
  | some x =>
    let s := { s with recoat := { s.recoat with failed := moves } }
    s.recoatFail x 9
  | none => s.recoatMoves .platform moves t

/-- The sequence goes on at tick `k` when no move of its step runs: the traverse, the return, the dwell. -/
def State.recoatNext (k : Nat) (s : State) : State :=
  let r := s.recoat
  match r.toGo with
  | g :: rest =>
    let first := r.state == .platform
    -- the traverse goes to END_B from END_A, and to END_A from anywhere else (R322)
    let g := if first && (s.axis r.recoater).planPos k != r.endANow then r.endANow else g
    let s := { s with recoat := { s.recoat with toGo := rest } }
    s.recoatMoves (if first then .traverse else .return) [{ axis := r.recoater, target := g }] k
  | [] =>
    let fin := k + 4000 * r.dwellNow
    if r.dwellNow = 0 then { s with recoat := { r with state := .idle, dwellEnd := fin } }
    else { s with recoat := { r with state := .dwell, dwellEnd := fin } }

/-- The exposure start E, known from the last move of the sequence on: the end of that move plus the dwell
(R330). -/
def State.exposureStart? (s : State) : Option Nat :=
  let r := s.recoat
  match r.state with
  | .traverse | .return =>
    let x := s.axis r.recoater
    if r.toGo.isEmpty && x.todo.isEmpty then some (x.planEnd s.ix + 4000 * r.dwellNow) else none
  | .dwell => some r.dwellEnd
  | _ => none

/-- The sequence goes on while no move of its step runs. -/
def State.recoatOn (k : Nat) (s : State) : State :=
  let st := s.recoat.state
  if s.recoat.running.isEmpty ∧ (st = .platform ∨ st = .traverse ∨ st = .return) then s.recoatNext k else s

/-- The moves of the sequence that have come to rest at tick `k` (R322–R324). -/
def State.recoatTick (k : Nat) (s : State) : State :=
  let ended := s.recoat.running.filter fun m => !(s.axis m.axis).mode.moves
  let s := { s with recoat := { s.recoat with running := s.recoat.running.filter fun m => !ended.contains m } }
  if s.recoat.cancelled then
    let s := ended.foldl (fun s m => s.modAxis m.axis fun x => { x with endCause := 7 }) s
    if s.recoat.running.isEmpty then { s with recoat := { s.recoat with state := .idle, toGo := [], failed := [] } }
    else s
  else
    let s := ended.foldl (fun s m =>
      let c := (s.axis m.axis).endCause
      if c = 1 then s
      else
        let s := { s with recoat := { s.recoat with failed := s.recoat.failed ++ [m] } }
        s.recoatFail m.axis c) s
    -- at most the traverse and the return can have no length
    ((s.recoatOn k).recoatOn k).recoatOn k

/-- AXIS_RECOAT_RESUME (R323): from PILOT. -/
def execAxisRecoatResume (e : Entry) (s : State) : Host.Outcome State Fault Refusal :=
  s.command 0x0647 e fun f s =>
    s.checked f [e.zeroFrom 0x18 40, ((s.slot f.slot).held &&& rolePilot == 0, { code := 0x0302 }),
        (s.recoat.state != .failed, { code := 0x0507 })] fun s =>
      let t := nextTick s.ix
      let s := s.recoatMoves s.recoat.failState s.recoat.failed t
      s.ok f t 0 []

/-- The axes at an adoption (R85, R306, R308): a declared axis is disabled, at V_MAX and A_MAX; an
undeclared one reads zero. -/
def State.adoptAxes (s : State) : State :=
  { s with axes := updAll s.axes fun a x => match s.axisEntry? a with
    | none => {}
    | some e =>
      { x with mode := .disabled, v := e.vMax, a := e.aMax, nextDyn := none, plan := [], p := x.pNext
               rest := x.pNext - x.offset, vel := 0, homeStage := .none, latched := none, todo := [], fed := true } }

/-- The counters of AX_CNT_CTL cleared (R325). -/
def Axis.clearCounters (x : Axis) : Axis :=
  { x with chatter := {}, limitStop := {}, devStop := {}, quadErr := {}, ssiErr := {}, kept := {},
           softClamp := {}, steps := 0 }

end Sys2Proof.Machine
end

