-- ==== Sys2Proof/Machine/Memory.lean ====
section
/-!
DEFINITION. DRAM, its scrubber and frequency switches, and the check-value units (R391–R410).
-/

namespace Sys2Proof.Machine

/-! ## Errors (R398) -/

/-- An uncorrectable DRAM line: counted, recorded and poisoned. -/
def State.dramError (l : LineUe) (s : State) : State :=
  let m := s.mem
  let known := m.poison.any fun p => p.1 == l.channel && p.2 == l.addr
  let s := { s with mem := { m with
    dramUe := m.dramUe.inc, ueValid := true, ueChannel := l.channel, ueAddr := BitVec.ofNat 32 l.addr
    poison := if known then m.poison else (l.channel, l.addr) :: m.poison } }
  s.record 0x00B1 .control []

/-- The poisoned line that a read of an area in the channels of `which` meets. The spec gives no addresses within
the channels, so where such lines are poisoned it is free whether the read meets one, and which (log entry 35). -/
def State.meetsPoison (which : Nat → Bool) (s : State) : Option LineUe × State :=
  let bad := s.mem.poison.filter fun p => which p.1
  if bad = [] then (none, s)
  else
    let r := s.draw (bad.length + 1)
    ((bad[r.1]?).map fun p => { channel := p.1, addr := p.2 }, r.2)

/-- An uncorrectable word counted and recorded. -/
def State.noteSramUe (r : SramErr) (s : State) : State :=
  ({ s with mem := { s.mem with
      sramUeCnt := s.mem.sramUeCnt.inc, sramUe := packWord [(r.region, 28), (1, 27), (r.offset % 2 ^ 26, 0)] } }).record
    0x00B0 .data []

/-! ## Training (R393) -/

/-- Training at a core-die power-up. -/
def State.trainDram (vendor capacity : Nat) (failed : W32) (s : State) : State :=
  let bad := failed &&& 0xFF
  let s := { s with mem := { s.mem with
    failed := bad, selfRefresh := 0, fsp := .atRate, fspTo := .atRate, fspUp := false, derate := false
    trained := true, vendor := vendor % 256, capacity := if bad = 0 then capacity % 256 else 0
    scrubRun := true, scrubAge := 0, poison := [] } }
  if bad = 0 then s else s.record 0x00B2 .management []

/-! ## Refresh (R394–R396) -/

/-- REFRESH. Activates between two refreshes are traffic that no command shows, so how many neighbour
pairs they issue, and where the LFSRs stand, is free. -/
def execRefresh (s : State) : Host.Outcome State Fault Refusal :=
  .next (if !s.power.core || !s.mem.trained then s
  else
    let r := s.draw 65536
    let l := r.2.draw (2 ^ 32)
    let s := l.2
    let pairs := if s.mem.nrK = 0 then 0 else r.1
    { s with mem := { s.mem with
      refreshes := stat s.mem.refreshes 1, nr := stat s.mem.nr pairs
      lfsr := updAll s.mem.lfsr fun c _ => BitVec.ofNat 32 (l.1 + c) } })

/-- MR4_POLL (R395): whether any channel asks for a faster refresh. -/
def execMr4Poll (fast : Bool) (s : State) : Host.Outcome State Fault Refusal :=
  .next (if !s.power.core || !s.mem.trained then s
  else
    let m := s.mem
    { s with mem := { m with
      derate := fast, derateCnt := if fast && !m.derate then m.derateCnt.inc else m.derateCnt } })

/-! ## Scrub (R399) -/

/-- One second of the clock of the SRAM scrubber's pass (R390). -/
def State.sramSecond (s : State) : State :=
  if !s.power.core then s else { s with mem := { s.mem with sramAge := s.mem.sramAge + 1 } }

/-- An SRAM scrub pass ends and the next begins, with the period then in force (R390). -/
def State.sramPassOver (s : State) : State :=
  let m := s.mem
  { s with mem := { m with sramPass := m.sramPass.inc, sramAge := 0, sramPeriod := m.scrubCfg.toNat } }

/-- SCRUB_H in force, in seconds. -/
def State.scrubPeriod (s : State) : Nat := 3600 * s.eph.eph.elim 24 (·.dram.scrubH)

/-- A scrub pass begins, unless one runs. -/
def State.startScrub (s : State) : State :=
  if s.mem.scrubRun || !s.power.core then s
  else { s with mem := { s.mem with scrubRun := true, scrubAge := 0 } }

/-- One second of the pass clock: the next pass begins a period after the last one began. -/
def State.scrubSecond (s : State) : State :=
  if !s.power.core || !s.mem.trained then s
  else
    let m := s.mem
    let s := { s with mem := { m with scrubAge := m.scrubAge + 1, passAge := m.passAge.map (· + 1) } }
    if s.scrubPeriod ≤ s.mem.scrubAge then s.startScrub else s

/-- MiB scrubbed in the running pass, at its even pace. -/
def State.scrubPos (s : State) : Nat :=
  if s.mem.scrubRun then
    min (1024 * s.mem.capacity) (1024 * s.mem.capacity * s.mem.scrubAge / s.scrubPeriod)
  else 0

/-- DRAM_SCRUB_PASS. -/
def execDramScrubPass (corrected : Nat) (ues : List LineUe) (s : State) : Host.Outcome State Fault Refusal :=
  .next (if !s.power.core || !s.mem.scrubRun then s
  else
    let s := ues.foldl (fun s l => s.dramError l) s
    { s with mem := { s.mem with
      dramCe := s.mem.dramCe.add corrected, dramPass := s.mem.dramPass.inc
      scrubRun := false, passAge := some 0 } })

/-! ## Frequency switching (R400, R401) -/

/-- A switch of channels 0–1 starts: they go through self-refresh. -/
def State.startFsp (dst : FspState) (s : State) : State :=
  { s with mem := { s.mem with
    fsp := .switching, fspTo := dst, selfRefresh := s.mem.selfRefresh ||| 3, fspCnt := s.mem.fspCnt.inc } }

/-- Channels 0–1 are wanted at RATE (R400). -/
def State.fspUp (s : State) : State :=
  if s.mem.fsp = .low then s.startFsp .atRate
  else if s.mem.fsp = .switching ∧ s.mem.fspTo = .low then { s with mem := { s.mem with fspUp := true } }
  else s

/-- FSP_SWITCH_DOWN: DATA_STATE has been 1 for 1 s. -/
def execFspSwitchDown (s : State) : Host.Outcome State Fault Refusal :=
  .next (if s.mem.fsp = .atRate ∧ s.planes.data = .idle ∧ s.power.core ∧ s.mem.fspOn ∧ 4000000 ≤ s.mem.idleFor + 1 then
    s.startFsp .low
  else s)

/-- A switch of channels 0–1 is over: one that is wanted back up starts while DATA_STATE is 1. -/
def State.fspDone (s : State) : State :=
  if s.mem.fsp ≠ .switching then s
  else
    let up := s.mem.fspUp
    let s := { s with mem := { s.mem with
      fsp := s.mem.fspTo, fspUp := false, selfRefresh := s.mem.selfRefresh &&& ~~~(3 : W32) } }
    if up ∧ s.planes.data = .idle then s.fspUp else s

/-! ## Retention (R392) -/

/-- Retain masks in force: a channel with any segment retained also keeps its check bytes. -/
def retainMasks (pasr : W64) : W64 :=
  BitVec.ofNat 64 (leNat ((leBytes 6 pasr.toNat).map fun b => if b = 0 then b else b ||| 0x80))

/-- Head `n`'s grid is in a segment that Umbra retains. -/
def State.gridRetained (s : State) (n : Nat) : Bool := s.mem.pasr.getLsbD (8 * (n % 6))

/-- The check of the grids after Umbra: one that fails, or of which a line is lost, is unloaded (R392, R398). -/
def State.checkGrids (s : State) : State :=
  s.mem.grids.foldl (fun s g =>
    if g.2.stand ≠ .unchecked then s
    else
      let r := s.meetsPoison fun c => c == 2 + g.1 % 6
      let s := r.1.elim r.2 fun l => r.2.dramError l
      let good := r.1.isNone && (s.head? g.1).any fun h => h.gridCrc == g.2.crc
      let rest := s.mem.grids.filter fun x => x.1 != g.1
      { s with mem := { s.mem with grids := if good then rest ++ [(g.1, { g.2 with stand := .loaded })] else rest } }) s

/-- One sample of the time for which DATA_STATE has been 1 (R400). -/
def State.memTick (s : State) : State :=
  { s with mem := { s.mem with idleFor := if s.planes.data = .idle then s.mem.idleFor + 1 else 0 } }

/-- DRAM at an adoption: the retain masks of the DRAM section, and at the boot adoption of a power-up
that trained all channels RATE, NR_K and the FSP flag (R67). -/
def State.adoptDram (boot : Bool) (s : State) : State :=
  match s.eph.eph with
  | none => s
  | some e =>
    let m := { s.mem with pasr := retainMasks e.dram.pasr }
    { s with mem := if boot then { m with rate := e.dram.rate, nrK := e.dram.nrK, fspOn := e.dram.fsp } else m }

/-! ## Check values (R405–R408) -/

/-- One byte of CRC-64/ECMA-182, not reflected. -/
def crc64Byte (c : W64) (b : Byte) : W64 :=
  let step (c : W64) : W64 := if c.getLsbD 63 then (c <<< 1) ^^^ 0x42F0E1EBA9EA3693 else c <<< 1
  step (step (step (step (step (step (step (step (c ^^^ (b.setWidth 64 <<< 56)))))))))

/-- The register of a check-value unit after some bytes, before the final XOR (R405). -/
def checkReg (alg : Nat) (seed : W64) (l : List Byte) : W64 :=
  if alg = 2 then l.foldl crc64Byte seed
  else BitVec.ofNat 64 (crcFold (if alg = 0 then 0x82F63B78 else 0xEDB88320) seed.toNat l)

/-- The seed of R406. -/
def checkSeed (alg : Nat) (base addr : W64) (sequence : W32) : W64 :=
  let q := sequence.setWidth 64
  if alg = 2 then base ^^^ addr ^^^ (q <<< 32) ^^^ q
  else (base ^^^ addr ^^^ (addr >>> 32) ^^^ q) &&& 0xFFFFFFFF

/-- DIAG_CRC: the unit is claimed and released within the command (R408). -/
def execDiagCrc (e : Entry) (s : State) : Host.Outcome State Fault Refusal :=
  s.command 0x0F01 e fun f s =>
    let alg := e.u 0x18 1
    let flags := e.u 0x19 1
    let base := BitVec.ofNat 64 (e.u 0x30 8)
    let len := e.dataLen
    s.checked f [(decide (3 < flags), { code := 0x0205, ofs := 0x19 }), e.zeroFrom 0x1A 6, e.zeroFrom 0x2C 4,
        e.zeroFrom 0x38 8, (decide (2 < alg), { code := 0x0204, ofs := 0x18 }),
        (decide (alg < 2) && decide (2 ^ 32 ≤ base.toNat), { code := 0x0204, ofs := 0x30 }),
        (decide (len = 0) || (e.inline && decide (1344 < len)), { code := 0x0206, ofs := 0x10 }),
        (((List.range 4).all fun i => nth 0 s.mem.crcOwner (4 + i) != 0), { code := 0x0404 })]
      fun s =>
        let raw := flags.testBit 1
        let seed := if raw then base else checkSeed alg base (BitVec.ofNat 64 (e.u 0x20 8)) (BitVec.ofNat 32 (e.u 0x28 4))
        let reg := checkReg alg seed (e.data.take len)
        let out := if alg = 2 ∨ flags.testBit 0 then reg else reg ^^^ 0xFFFFFFFF
        let s := { s with mem := { s.mem with crcBytes := stat s.mem.crcBytes len } }
        s.ok f out.toNat seed.toNat []

/-! ## Memory tests (R409) -/

/-- What a test of the areas in `t` destroys. -/
def State.wipeAreas (t : W32) (s : State) : State :=
  let cam := bitOf t 1
  let tiles := bitOf t 3
  let stripes := bitOf t 4
  let sensor (x : Sensor) : Sensor :=
    -- records and statistics stay in SRAM (R344)
    let x := if cam then { x with stored := x.stored.map fun c => { c with pixels := none } } else x
    if stripes then
      { x with cur := x.cur.map fun f => { f with lines := f.lines.take f.done, stamps := f.stamps.take f.done } }
    else x
  let s := { s with camera := { s.camera with sensors := s.camera.sensors.map sensor } }
  if tiles then { s with engines := s.engines.map fun e => { e with tiles := [] } } else s

/-- DIAG_MEM_TEST. -/
def execDiagMemTest (e : Entry) (s : State) : Host.Outcome State Fault Refusal :=
  s.command 0x0F40 e fun f s =>
    let t := e.u 0x18 1
    let p := e.u 0x19 1
    let rest := e.bytes 0x1A 38
    s.checked f [(decide (t = 0) || decide (31 < t), { code := 0x0204, ofs := 0x18 }),
        (decide (1 < p), { code := 0x0204, ofs := 0x19 }),
        (!allZero rest, { code := 0x0204, ofs := 0x1A + firstNonzero rest }), (s.inBuild, { code := 0x0403 })]
      fun s =>
        let s := (s.launch f).wipeAreas (BitVec.ofNat 32 t)
        { s with mem := { s.mem with tests := s.mem.tests ++ [{ flight := f.id, targets := BitVec.ofNat 32 t, pattern := p }] } }

/-- DRAM counters cleared (R410). -/
def Memory.clearDram (m : Memory) : Memory :=
  { m with dramCe := {}, dramUe := {}, fspCnt := {}, derateCnt := {}, dramPass := {}, nr := 0 }

/-- SRAM counters cleared (R410). -/
def Memory.clearSram (m : Memory) : Memory := { m with sramCe := {}, sramUeCnt := {}, sramPass := {} }

end Sys2Proof.Machine
end

