-- ==== Sys2Proof/Machine/Camera.lean ====
section
/-!
DEFINITION. Bed cameras and the image pipeline (ch. 12).
-/

namespace Sys2Proof.Machine

/-! ## Parts -/

/-- Sensor `i`. -/
def State.sensor (s : State) (i : Nat) : Sensor := nth {} s.camera.sensors i

/-- Sensor `i` changed. -/
def State.modSensor (i : Nat) (f : Sensor → Sensor) (s : State) : State :=
  { s with camera := { s.camera with sensors := upd s.camera.sensors i f } }

/-- Camera port `p` changed. -/
def State.modCamPort (p : Nat) (f : CamPort → CamPort) (s : State) : State :=
  { s with camera := { s.camera with ports := upd s.camera.ports p f } }

/-- Context `c`. -/
def State.camCtx (s : State) (c : Nat) : CamContext := nth {} s.camera.contexts c

/-- Context `c` changed. -/
def State.modCamCtx (c : Nat) (f : CamContext → CamContext) (s : State) : State :=
  { s with camera := { s.camera with contexts := upd s.camera.contexts c f } }

/-- The declared sensors. -/
def State.sensorList (s : State) : List EphSensor := s.eph.eph.elim [] (·.sensors)

/-- A context is declared when a sensor names it. -/
def State.ctxDeclared (s : State) (c : Nat) : Bool := s.sensorList.any fun e => e.context == c

/-- The sensor of a port's virtual channel. -/
def State.vcSensor? (s : State) (port vc : Nat) : Option EphSensor :=
  s.sensorList.find? fun e => e.port == port && e.vc == vc

/-! ## The pipeline (R336) -/

/-- Half-up rounding of a quotient. -/
def divHalfUp (a b : Nat) : Nat := (2 * a + b) / (2 * b)

/-- Half-up rounding of a rational, clamped to 16 bits. -/
def clamp16 (q : Rat) : Nat := (clampInt 0 65535 (q + 1 / 2).floor).toNat

/-- The raw pixels of a RAW10, RAW12 or RAW14 line (R326). -/
def unpackRaw (dt width : Nat) (b : List Byte) : List Nat :=
  let u (i : Nat) : Nat := (b.getD i 0).toNat
  (List.range width).map fun x =>
    if dt = 0x2B then
      let g := x / 4 * 5
      u (g + x % 4) * 4 + u (g + 4) / 4 ^ (x % 4) % 4
    else if dt = 0x2C then
      let g := x / 2 * 3
      u (g + x % 2) * 16 + u (g + 2) / 16 ^ (x % 2) % 16
    else
      let g := x / 4 * 7
      u (g + x % 4) * 64 + leNat ((b.drop (g + 4)).take 3) / 64 ^ (x % 4) % 64

/-- Stages 1 and 2. -/
def stageIn (dt black raw : Nat) : Nat :=
  let n := if dt = 0x2B then 10 else if dt = 0x2C then 12 else 14
  raw * 2 ^ (16 - n) - black

/-- Stage 3 for one row: `d` is the distance of a pixel's own colour. -/
def stageDpc (d : Nat) (bad : List Nat) (row : Array Nat) : Array Nat :=
  row.mapIdx fun x q =>
    if !bad.contains x then q
    else
      let l := if d ≤ x then row[x - d]? else none
      match l, row[x + d]? with
      | some a, some b => divHalfUp (a + b) 2
      | some a, none => a
      | none, some b => b
      | none, none => q

/-- The gain of stage 4 at a pixel, in 1/16,384: bilinear in a 17 × 17 grid. -/
def shadeGain (gains : Array Nat) (w h x y : Nat) : Rat :=
  let pos (v n : Nat) : Nat × Rat :=
    let q : Rat := ((v * 16 : Nat) : Rat) / ((n - 1 : Nat) : Rat)
    let i := min 15 q.floor.toNat
    (i, q - (i : Rat))
  let g (i j : Nat) : Rat := (gains.getD (17 * j + i) 0 : Nat)
  let u := pos x w
  let v := pos y h
  (g u.1 v.1 * (1 - u.2) + g (u.1 + 1) v.1 * u.2) * (1 - v.2) +
    (g u.1 (v.1 + 1) * (1 - u.2) + g (u.1 + 1) (v.1 + 1) * u.2) * v.2

/-- The colour of a mosaic pixel: 0 red, 1 green, 2 blue (R57: RGGB, GRBG, GBRG, BGGR). -/
def cfaColour (cfa x y : Nat) : Nat :=
  let i := 2 * (y % 2) + x % 2
  let tab : List Nat :=
    if cfa = 1 then [0, 1, 1, 2] else if cfa = 2 then [1, 0, 2, 1]
    else if cfa = 3 then [1, 2, 0, 1] else [2, 1, 1, 0]
  tab.getD i 1

/-- A mirrored index: −1 is 1, and n is n − 2. -/
def mirrorAt (n : Nat) (i : Int) : Nat :=
  let k : Int := if i < 0 then -i else if (n : Int) ≤ i then 2 * ((n : Int) - 1) - i else i
  min k.toNat (n - 1)

/-- Stage 5 at a pixel of the mosaic (R336). -/
def demosaicAt (cfa : Nat) (img : Array (Array Nat)) (x y : Nat) : List Nat :=
  let h := img.size
  let w := (img.getD 0 #[]).size
  let p (dx dy : Int) : Nat := (img.getD (mirrorAt h (y + dy)) #[]).getD (mirrorAt w (x + dx)) 0
  let here := p 0 0
  let c := cfaColour cfa x y
  let horiz := divHalfUp (p (-1) 0 + p 1 0) 2
  let vert := divHalfUp (p 0 (-1) + p 0 1) 2
  if c = 1 then
    -- the row neighbours hold the colour of this row
    let rowColour := cfaColour cfa (x + 1) y
    if rowColour = 0 then [horiz, here, vert] else [vert, here, horiz]
  else
    let dh := absI ((p (-1) 0 : Int) - p 1 0)
    let dv := absI ((p 0 (-1) : Int) - p 0 1)
    let g := if dh < dv then horiz else if dv < dh then vert
      else divHalfUp (p (-1) 0 + p 1 0 + p 0 (-1) + p 0 1) 4
    let o := divHalfUp (p (-1) (-1) + p 1 (-1) + p (-1) 1 + p 1 1) 4
    if c = 0 then [here, g, o] else [o, g, here]

/-- A coefficient of the colour matrix, by its place among CCM0–CCM4 (R348). -/
def ccmAt (ccm : List W32) (i : Nat) : Int :=
  let w := ccm.getD (i / 2) 0
  signedOf 16 (if i % 2 = 0 then fieldOf w 15 0 else fieldOf w 31 16)

/-- Stage 6. M is held as M00, M01, M02, M10, … in the order of the registers. -/
def stageCcm (ccm : List W32) (c : List Nat) : List Nat :=
  (List.range 3).map fun i =>
    clamp16 ((((List.range 3).map fun j => ccmAt ccm (3 * i + j) * (c.getD j 0 : Int)).sum : Int) / (4096 : Rat))

/-- 65,535 × (x / 65,535)^(1/2.2), rounded half up: the largest n with (2n − 1)^11 at most the 11th power of twice
the exact value, x⁵ · 65,535⁶ · 2^11 (R336 stage 7). -/
def gammaCurve (x : Rat) : Nat :=
  let p := x * x * x * x * x * 65535 ^ 6 * 2 ^ 11
  (List.range 17).foldr (fun b n => if (((2 * (n + 2 ^ b) - 1) ^ 11 : Nat) : Rat) ≤ p then n + 2 ^ b else n) 0

/-- Stage 7: between the points of a 1,024-point table that spans 0 to 65,535 evenly (R336; log entry 63). -/
def gammaOut (v : Nat) : Nat :=
  let q : Rat := (v * 1023 : Nat) / (65535 : Rat)
  let i := min 1022 q.floor.toNat
  let at_ (j : Nat) : Rat := (gammaCurve ((j * 65535 : Nat) / (1023 : Rat)) : Nat)
  clamp16 (at_ i + (at_ (i + 1) - at_ i) * (q - (i : Rat)))

/-- Stage 4 output of a frame: rows of mosaic or monochrome values. -/
def CamFrame.stage4 (e : EphSensor) (f : CamFrame) : List (Array Nat) :=
  let gains := f.gains.toArray
  f.lines.zipIdx.map fun r =>
    let row := (r.1.map (stageIn e.dataType f.vals.black)).toArray
    let bad := (f.defects.filter fun d => d.1 == r.2).map (·.2)
    let row := if f.vals.dpc then stageDpc (if e.cfa = 0 then 1 else 2) bad row else row
    if f.vals.shading then
      row.mapIdx fun x (q : Nat) => clamp16 ((q : Rat) * shadeGain gains e.width e.height x r.2 / 16384)
    else row

/-- The output of the pipeline: one value, or R, G and B, per pixel (R336). -/
def CamFrame.output (e : EphSensor) (v : CamCtx) (img : List (Array Nat)) : List (List Nat) :=
  let gamma (q : Nat) : Nat := if v.gamma then gammaOut q else q
  if e.cfa = 0 then img.map fun r => r.toList.map gamma
  else
    let a := img.toArray
    (List.range a.size).map fun y => (List.range e.width).flatMap fun x =>
      let c := demosaicAt e.cfa a x y
      ((if v.ccmOn then stageCcm v.ccm c else c).map gamma)

/-! ## Statistics (R337, R346) -/

/-- The histogram of 256 bins. -/
def histOf (img : List (Array Nat)) : List Nat :=
  (img.foldl (fun (h : Array Nat) r => r.foldl (fun h q => h.modify (q / 256) (· + 1)) h)
    (Array.replicate 256 0)).toList

/-- The zone of column or row `v` of `n`. -/
def zoneOf (v n : Nat) : Nat := ((List.range 16).filter fun z => decide (z * n / 16 ≤ v)).length - 1

/-- Zone sums and counts with one more row. -/
def zoneRow (w h y : Nat) (t : Array (Nat × Nat)) (row : Array Nat) : Array (Nat × Nat) :=
  let zr := zoneOf y h
  (row.toList.zipIdx).foldl (fun t p =>
    t.modify (16 * zr + zoneOf p.2 w) fun c => (c.1 + p.1, c.2 + 1)) t

/-- The zone means of a frame. On this stepping the first line of the last stripe counts twice when
STRIPE is not a multiple of 16 (D-07). -/
def zonesOf (e : EphSensor) (img : List (Array Nat)) : List (Option Nat) :=
  let rows := img.zipIdx
  let t := rows.foldl (fun t r => zoneRow e.width e.height r.2 t r.1) (Array.replicate 256 (0, 0))
  let t := if e.mode = 1 ∧ e.stripe % 16 ≠ 0 ∧ img ≠ [] then
      let y := (img.length - 1) / e.stripe * e.stripe
      zoneRow e.width e.height y t (img.getD y #[])
    else t
  t.toList.map fun c => if c.2 = 0 then none else some (divHalfUp c.1 c.2)

/-! ## Delivery (R334, R338, R344) -/

/-- The slot that a delivered frame takes (R344): `none` where every slot is being copied; else the frame that held
it, where one did. A slot that holds nothing is the oldest. -/
def Sensor.slotFor (x : Sensor) : Option (Option Nat) :=
  let held := (x.stored.filter (·.pixels.isSome)).map (·.frame.number)
  if held.length < x.slots then some none
  else (held.reverse.find? fun n => !x.copying.contains n).map some

/-- A frame is delivered. -/
def State.deliver (e : EphSensor) (f : CamFrame) (s : State) : State :=
  let i := e.sensor
  let img := f.stage4 e
  let x := s.sensor i
  let slot := if x.slots = 0 then none else x.slotFor
  let f := { f with noSlot := x.slots != 0 && slot.isNone }
  let d : CamStored :=
    { frame := f
      hist := histOf img, zones := zonesOf e img
      pixels := slot.map fun _ => CamFrame.output e f.vals img }
  let keep (c : CamStored) : CamStored :=
    if slot = some (some c.frame.number) then { c with pixels := none } else c
  let s := s.modSensor i fun x =>
    { x with stored := d :: (x.stored.take 7).map keep, delivered := f.number, deliveredGen := f.gen
             closing := x.closing.filter fun g => g.number != f.number
             zonesValid := !f.missing }
  if f.missing then s.sourceLost 6 i fun _ => true
  else
    let got := d.zones.zipIdx.filterMap fun z => z.1.map fun v => (z.2, (v : Int))
    (s.source 6 i got).sourceLost 6 i fun z => (d.zones.getD z none).isNone

/-! ## Units (R339, R340) -/

/-- The frames of a sensor in the pipeline's reach: the open one and those that wait. -/
def Sensor.frames (x : Sensor) : List CamFrame := x.closing ++ (x.cur.filter (·.opened)).toList

/-- The blocks of one line (R340). -/
def EphSensor.lineBlocks (e : EphSensor) : Nat := (e.width * 2 + 2047) / 2048

/-- A frame holds the pipeline. -/
def State.inPipe (s : State) (i n : Nat) : Bool := s.camera.unit.any fun u => u.sensor == i && u.frame == n

/-- Lines of a frame that stand in the stripe buffer. -/
def State.heldLines (s : State) (e : EphSensor) (f : CamFrame) : Nat :=
  let used := if e.mode = 0 ∧ s.inPipe e.sensor f.number then f.lines.length else f.done
  (f.lines.length - used) + (if f.closed then 0 else min 2 used)

/-- Blocks in use. -/
def State.blocksUsed (s : State) : Nat :=
  (s.sensorList.map fun e =>
    (((s.sensor e.sensor).frames.map (s.heldLines e)).sum) * e.lineBlocks).sum

/-- The next unit of a frame, if it is ready: its lines and its place in the order of arrival. -/
def readyUnit (e : EphSensor) (f : CamFrame) : Option (Nat × Nat) :=
  let rest := f.lines.length - f.done
  if e.mode = 0 then (if f.opened && !f.closed || rest != 0 then some (rest, f.stamps.headD f.order) else none)
  else if e.stripe ≤ rest then some (e.stripe, f.stamps.getD f.done f.order)
  else if f.closed ∧ rest ≠ 0 then some (rest, f.stamps.getD f.done f.order)
  else none

/-- The pipeline takes the ready unit whose first line arrived first. -/
def State.takeUnit (s : State) : State :=
  if s.camera.unit.isSome then s
  else
    let ready := s.sensorList.flatMap fun e => (s.sensor e.sensor).frames.filterMap fun f =>
      (readyUnit e f).map fun u => (u.2, ({ sensor := e.sensor, frame := f.number, lines := u.1 } : CamUnit), f.ctx)
    match sortBy (fun a b => decide (a.1 ≤ b.1)) ready with
    | [] => s
    | u :: _ => { s with camera := { s.camera with unit := some u.2.1, pipeCtx := u.2.2 } }

/-- A frame of sensor `i` changed, wherever it stands. -/
def Sensor.modFrame (n : Nat) (g : CamFrame → CamFrame) (x : Sensor) : Sensor :=
  let f (c : CamFrame) : CamFrame := if c.number = n then g c else c
  { x with cur := x.cur.map f, closing := x.closing.map f }

/-- A closed frame whose lines have all passed is delivered. -/
def State.deliverDone (e : EphSensor) (s : State) : State :=
  match (s.sensor e.sensor).closing.find? fun f => f.done == f.lines.length && !s.inPipe e.sensor f.number with
  | some f => s.deliver e f
  | none => s

/-- PIPELINE_UNIT_DONE (R339): the unit ends, and the next ready one is taken. -/
def execPipelineUnitDone (s : State) : Host.Outcome State Fault Refusal :=
  match s.camera.unit with
  | none => .next s
  | some u =>
    match s.sensorEntry? u.sensor, (s.sensor u.sensor).frames.find? fun f => f.number == u.frame with
    | some e, some f =>
      if e.mode = 0 ∧ !f.closed then .next s
      else
        let n := if e.mode = 0 then f.lines.length else f.done + u.lines
        let s := s.modSensor u.sensor (Sensor.modFrame u.frame fun f => { f with done := n })
        let s := { s with camera := { s.camera with unit := none } }
        .next (s.deliverDone e).takeUnit
    | _, _ => .next ({ s with camera := { s.camera with unit := none } }).takeUnit

/-! ## Exposure sets (R342, R343) -/

/-- CCI writes to sensor `i`. -/
def State.cciWrites (i : Nat) (ws : List W32) (s : State) : State :=
  ws.foldl (fun s w => s.send (.cci i (fieldOf w 31 16) (fieldOf w 15 0))) s

/-- The writes of a set complete at the present sample: a new generation (R342 steps 3 and 4). -/
def State.newGen (i : Nat) (v : ExpSet) (s : State) : State :=
  s.modSensor i fun x =>
    let g := x.genLast + 1
    { x with writing := none, retried := [], inForce := v, genLast := g, genFrame := none
             gens := x.gens ++ [{ gen := g, time := v.time, first := none }] }

/-- The CCI writes of a pending set begin once no frame is outstanding (R342). -/
def State.startWrites (i : Nat) (s : State) : State :=
  let x := s.sensor i
  match x.pending, x.writing, x.cur with
  | some v, none, none =>
    let s := s.modSensor i fun x => { x with pending := none, writing := some v, retried := [] }
    let s := s.cciWrites i v.writes
    if v.writes = [] then s.newGen i v else s
  | _, _, _ => s

/-- CCI_WRITES_DONE (R342). -/
def execCciWritesDone (sensor : Nat) (s : State) : Host.Outcome State Fault Refusal :=
  .next (match (s.sensor sensor).writing with
    | some v => (s.newGen sensor v).startWrites sensor
    | none => s)

/-- CCI_NAK (R343): the write to `reg` is retried once; then the commit is abandoned. -/
def execCciNak (sensor reg : Nat) (s : State) : Host.Outcome State Fault Refusal :=
  let x := s.sensor sensor
  match x.writing with
  | none => .next s
  | some v =>
    let ws := v.writes.filter fun w => fieldOf w 31 16 == reg
    if ws = [] then .next s
    else if !x.retried.contains reg then
      .next ((s.modSensor sensor fun x => { x with retried := x.retried ++ [reg] }).cciWrites sensor ws)
    else
      let s := s.modSensor sensor fun x => { x with writing := none, retried := [], cciErr := true }
      let s := (s.cciWrites sensor x.inForce.writes).record 0x0080 .management (u32s [sensor, reg])
      .next (s.startWrites sensor)

/-- A write of COMMIT in CAM_S_COMMIT (R342). -/
def State.camCommit (i : Nat) (s : State) : State :=
  (s.modSensor i fun x => { x with pending := some x.shadow }).startWrites i

/-- TRIG_DLY + EXP_TIME does not fit the period (R348). -/
def Sensor.commitBad (x : Sensor) : Bool :=
  bitOf x.trig 30 && decide (x.period.toNat ≤ 4 * (fieldOf x.trig 15 0 + x.shadow.time))

/-! ## Triggers (R328–R330) -/

/-- IMG is clocked (R25, R328). -/
def State.clockImg (s : State) : State :=
  { s with power := { s.power with domains := s.power.domains ||| 0x800, imgIdle := 0 } }

/-- The trigger delay of a sensor, in samples. -/
def Sensor.delay (x : Sensor) : Nat := 4 * fieldOf x.trig 15 0

/-- A trigger edge at sample `t`: a frame with its number, generation and window, and 10 µs of the trigger pin. IMG
is clocked from here at the latest (R328). -/
def State.trigSensor (i t : Nat) (s : State) : State :=
  s.clockImg.modSensor i fun x =>
    let n := x.lastFrame + 1
    let k := (s.sensorEntry? i).elim 0 (·.latencyK)
    let fixed := x.gens.any fun g => g.first.isNone
    let gens := x.gens.map fun g => if g.first.isNone then { g with first := some (n + k) } else g
    let live := gens.filter fun g => decide (g.first.getD 0 ≤ n)
    let g := live.getLast?.getD { gen := 0, time := 1000, first := some 0 }
    let e := t + x.delay
    { x with
      trigUntil := t + 40, wins := x.wins ++ [{ frame := n, start := e, fin := e + 4 * g.time }]
      lastFrame := n, genFrame := if fixed then some (n + k) else x.genFrame
      gens := gens.filter fun h => decide (n < h.first.getD 0) || h.gen == g.gen
      cur := some { number := n, gen := g.gen, expUs := g.time, trig := t, winStart := e, winEnd := e + 4 * g.time } }

/-- The level of CAM_TRIG of sensor `i` (R328). -/
def State.trigPin (s : State) (i : Nat) : Bool := decide (s.ix < (s.sensor i).trigUntil)

/-- A trigger from a source: skipped while a frame is outstanding (R329). -/
def State.trigOrSkip (i t : Nat) (s : State) : Bool × State :=
  if (s.sensor i).cur.isSome then (false, s.modSensor i fun x => { x with skipCnt := x.skipCnt.inc })
  else (true, s.trigSensor i t)

/-- PERIODIC_TRIGGER (R329): at a multiple of PERIOD. -/
def execPeriodicTrigger (sensor : Nat) (s : State) : Host.Outcome State Fault Refusal :=
  let x := s.sensor sensor
  .next (if (s.sensorEntry? sensor).isSome ∧ bitOf x.trig 30 ∧ s.tickAt x.period.toNat then
    (s.trigOrSkip sensor s.ix).2 else s)

/-- One edge of a CAM_TRIGGER at sample `k`, if it has come, as R28 judges it; a sensor no longer declared takes none. -/
def CamWait.edge (k : Nat) (r : CamWait × State) (x : Nat × Nat) : CamWait × State :=
  if 0 < seqDiff 32 (x.2 % 2 ^ 32) (k % 2 ^ 32) then ({ r.1 with edges := r.1.edges ++ [x] }, r.2)
  else if (r.2.sensorEntry? x.1).isNone then r
  else
    let t := r.2.trigOrSkip x.1 x.2
    (if t.1 then { r.1 with mask := r.1.mask + 2 ^ x.1, at_ := if r.1.mask = 0 then x.2 else r.1.at_ } else r.1, t.2)

/-- The edges of a CAM_TRIGGER that have come by sample `k`. -/
def State.camEdges (k : Nat) (w : CamWait) (s : State) : CamWait × State :=
  w.edges.foldl (CamWait.edge k) ({ w with edges := [] }, s)

/-- The edges of all CAM_TRIGGERs that have come by sample `k`; one without edges to come completes. -/
def State.camWaits (k : Nat) (s : State) : State :=
  s.camera.waiting.foldl (fun s w =>
    let r := s.camEdges k w
    if r.1.edges = [] then r.2.finishId w.flight 0 (BitVec.ofNat 64 r.1.mask) (BitVec.ofNat 64 r.1.at_) false []
    else { r.2 with camera := { r.2.camera with waiting := r.2.camera.waiting ++ [r.1] } })
    { s with camera := { s.camera with waiting := [] } }

/-- CAM_TRIGGER (R329, R345). It completes with its last edge, when the sensors triggered are known; RESULT1 holds
the edge of the first of them. -/
def execCamTrigger (e : Entry) (s : State) : Host.Outcome State Fault Refusal :=
  s.command 0x0740 e fun f s =>
    let mask := BitVec.ofNat 32 (e.u 0x18 1)
    let ms := bitsSet mask 8
    s.checked f [(ms.any fun i => (s.sensorEntry? i).isNone, { code := 0x0208, ofs := 0x18 }), e.zeroFrom 0x19 39]
      fun s =>
        let w : CamWait := { flight := f.id, edges := ms.map fun i => (i, s.ix + (240 - (s.sensor i).delay)) }
        -- no camera trigger before the epoch (R373)
        let r := if s.time.preEpoch then (w, s) else s.camEdges s.ix w
        if r.1.edges = [] then r.2.ok f r.1.mask r.1.at_ []
        else
          let s := r.2.launch f
          { s with camera := { s.camera with waiting := s.camera.waiting ++ [r.1] } }

/-! ## Packets (R326, R327, R331–R334) -/

/-- A discarded packet or frame start (R327, R331). -/
def State.unexpected (port : Nat) (s : State) : State :=
  s.modCamPort port fun p => { p with unexp := p.unexp.inc }

/-- A corrected header (R327). -/
def State.eccFix (port : Nat) (ecc : Bool) (s : State) : State :=
  if ecc then s.modCamPort port fun p => { p with eccFix := p.eccFix.inc } else s

/-- The open frame of a sensor closes at the present sample (R331–R333). -/
def State.closeFrame (e : EphSensor) (short missing : Bool) (s : State) : State :=
  match (s.sensor e.sensor).cur with
  | none => s
  | some f =>
    let short := !missing && (short || decide (f.lines.length < e.height))
    let f := { f with closed := true, fe := s.ix, short := short, missing := missing }
    let s := s.modSensor e.sensor fun x =>
      { x with
        cur := none, closing := x.closing ++ [f]
        shortCnt := if short then x.shortCnt.inc else x.shortCnt
        longCnt := if f.long then x.longCnt.inc else x.longCnt
        missingCnt := if missing then x.missingCnt.inc else x.missingCnt }
    ((s.deliverDone e).takeUnit).startWrites e.sensor

/-- The lane taps of an accepted deskew apply at the next frame start (R452). -/
def State.applyTaps (port : Nat) (s : State) : State :=
  match nth none s.cal.laneNext port with
  | none => s
  | some l =>
    let next := upd s.cal.laneNext port fun _ => none
    { s with cal := { s.cal with laneTaps := upd s.cal.laneTaps port fun _ => l, laneNext := next } }

/-- CSI_FRAME_START (R331, R341). -/
def execCsiFrameStart (port vc : Nat) (ecc : Bool) (s : State) : Host.Outcome State Fault Refusal :=
  let s := (s.eccFix port ecc).applyTaps port
  match s.vcSensor? port vc with
  | none => .next (s.unexpected port)
  | some e =>
    match (s.sensor e.sensor).cur with
    | none => .next (s.unexpected port)
    | some f =>
      if f.opened then .next (s.closeFrame e true false)
      else
        let c := s.camCtx e.context
        let n := s.camera.order
        let f := { f with opened := true, fs := s.ix, order := n, ctx := e.context, vals := c.live,
                          defects := c.defects, gains := c.gains }
        let s := s.modSensor e.sensor fun x => { x with cur := some f }
        .next ({ s with camera := { s.camera with order := n + 1 } }).takeUnit

/-- CSI_FRAME_END (R331–R333). -/
def execCsiFrameEnd (port vc : Nat) (ecc : Bool) (s : State) : Host.Outcome State Fault Refusal :=
  let s := s.eccFix port ecc
  match s.vcSensor? port vc with
  | none => .next (s.unexpected port)
  | some e =>
    .next (if (s.sensor e.sensor).cur.any (·.opened) then s.closeFrame e false false else s.unexpected port)

/-- FRAME_TIMEOUT (R331): FRAME_TMO after the window, or after the frame start. -/
def execFrameTimeout (sensor : Nat) (s : State) : Host.Outcome State Fault Refusal :=
  let x := s.sensor sensor
  let tmo := 4000 * fieldOf x.trig 27 16
  match s.sensorEntry? sensor, x.cur with
  | some e, some f =>
    .next (if f.opened then (if f.fs + tmo ≤ s.ix + 1 then s.closeFrame e true false else s)
      else if f.winEnd + tmo ≤ s.ix + 1 then s.closeFrame e false true else s)
  | _, _ => .next s

/-- CSI_HEADER_ERROR (R327). -/
def execCsiHeaderError (port vc : Nat) (s : State) : Host.Outcome State Fault Refusal :=
  let s := s.modCamPort port fun p => { p with hdr := p.hdr.inc }
  .next (match s.vcSensor? port vc with
    | some e => s.modSensor e.sensor fun x =>
        { x with cur := x.cur.map fun f => if f.opened then { f with hdrErr := true } else f }
    | none => s)

/-- A line of the open frame (R333, R334, R340). -/
def State.camLine (e : EphSensor) (p : CsiPacket) (f : CamFrame) (s : State) : State :=
  let put (f : CamFrame) (s : State) : State := s.modSensor e.sensor fun x => { x with cur := some f }
  let s := if p.crcOk then s else s.modCamPort e.port fun q => { q with crc := q.crc.inc }
  let f := { f with crcErr := f.crcErr || !p.crcOk }
  if p.payload.length ≠ e.width * bitsPerPixelOf e.dataType / 8 then put { f with wcErr := true } s
  else if p.dt = 0x12 then
    put (if f.emb.length < e.embLines then { f with emb := f.emb ++ [p.payload] } else f) s
  else if e.height ≤ f.lines.length then
    put { f with long := true, extra := min 0xFFFF (f.extra + 1) } s
  else if 2048 < s.blocksUsed + e.lineBlocks then
    let s := if f.overrun then s else s.modSensor e.sensor fun x => { x with overrunCnt := x.overrunCnt.inc }
    put { f with overrun := true } s
  else
    let n := s.camera.order
    let f := { f with lines := f.lines ++ [unpackRaw e.dataType e.width p.payload], stamps := f.stamps ++ [n] }
    let s := put f s
    let s := { s with camera := { s.camera with order := n + 1, bufPeak := max s.camera.bufPeak s.blocksUsed } }
    s.takeUnit
where
  /-- Bits per pixel of a data type (R326). -/
  bitsPerPixelOf (dt : Nat) : Nat := if dt = 0x2B then 10 else if dt = 0x2C then 12 else 14

/-- CSI_LONG_PACKET (R326, R327, R333, R334). -/
def execCsiLongPacket (port : Nat) (p : CsiPacket) (s : State) : Host.Outcome State Fault Refusal :=
  let s := s.eccFix port p.ecc
  match s.vcSensor? port p.vc with
  | none => .next (s.unexpected port)
  | some e =>
    match (s.sensor e.sensor).cur with
    | some f =>
      .next (if !f.opened || (p.dt != e.dataType && p.dt != 0x12) then s.unexpected port else s.camLine e p f)
    | none => .next (s.unexpected port)

/-! ## Commands (R335, R345) -/

/-- STATUS of a frame record (R335). -/
def CamFrame.status (f : CamFrame) : Nat :=
  b1 f.short + 2 * b1 f.long + 4 * b1 f.crcErr + 8 * b1 f.overrun + 16 * b1 f.missing + 32 * b1 f.noSlot +
    64 * b1 f.hdrErr + 128 * b1 f.wcErr

/-- The 32-byte record of a frame (R335). -/
def CamFrame.record (sensor : Nat) (f : CamFrame) : List Byte :=
  leBytes 4 f.number ++ leBytes 1 sensor ++ leBytes 1 f.ctx ++ leBytes 2 f.gen.toNat ++ leBytes 2 f.status ++
    leBytes 2 f.lines.length ++ leBytes 2 f.extra ++ leBytes 1 f.emb.length ++ [0] ++ leBytes 4 f.trig ++
    leBytes 4 (if f.missing then 0 else f.fs) ++ leBytes 4 f.fe ++ leBytes 4 f.expUs

/-- The delivered frame that a command names: 0 is the last one. -/
def State.camStored? (s : State) (e : Entry) : Option CamStored :=
  let x := s.sensor (e.u 0x18 1)
  let n := e.u 0x1C 4
  x.stored.find? fun c => c.frame.number == if n = 0 then x.delivered else n

/-- The shared checks of the frame reads: `len` bytes are returned. -/
def State.camReadChecks (s : State) (e : Entry) (len : Nat) : List (Bool × Bad) :=
  [((s.sensorEntry? (e.u 0x18 1)).isNone, { code := 0x0208, ofs := 0x18 }),
   ((s.camStored? e).isNone, { code := 0x0208, ofs := 0x1C }),
   (decide (e.room < len), { code := 0x0206, ofs := 0x10 })]

/-- CAM_FRAME_INFO. -/
def execCamFrameInfo (e : Entry) (s : State) : Host.Outcome State Fault Refusal :=
  s.command 0x0700 e fun f s =>
    s.checked f ([e.zeroFrom 0x19 3, e.zeroFrom 0x20 32] ++ s.camReadChecks e 32) fun s =>
      s.ok f 0 0 ((s.camStored? e).elim [] fun c => c.frame.record (e.u 0x18 1))

/-- CAM_HIST_READ. -/
def execCamHistRead (e : Entry) (s : State) : Host.Outcome State Fault Refusal :=
  s.command 0x0701 e fun f s =>
    s.checked f ([e.zeroFrom 0x19 3, e.zeroFrom 0x20 32] ++ s.camReadChecks e 1024) fun s =>
      s.ok f 0 0 ((s.camStored? e).elim [] fun c => c.hist.flatMap (leBytes 4))

/-- CAM_ZONE_READ: a zone without a pixel reads zero. -/
def execCamZoneRead (e : Entry) (s : State) : Host.Outcome State Fault Refusal :=
  s.command 0x0703 e fun f s =>
    s.checked f ([e.zeroFrom 0x19 3, e.zeroFrom 0x20 32] ++ s.camReadChecks e 512) fun s =>
      s.ok f 0 0 ((s.camStored? e).elim [] fun c => c.zones.flatMap fun z => leBytes 2 (z.getD 0))

/-- CAM_FRAME_READ (R332, R344); a poisoned line of the camera area ends it with INTEGRITY (R398). -/
def execCamFrameRead (e : Entry) (s : State) : Host.Outcome State Fault Refusal :=
  s.command 0x0702 e fun f s =>
    let emb := e.u 0x19 1
    let row := e.u 0x20 2
    let n := e.u 0x22 2
    let c := s.camStored? e
    let lines : List (List Byte) := c.elim [] fun c =>
      if emb = 1 then (if c.pixels.isSome then c.frame.emb else [])
      else c.pixels.elim [] fun p => p.map fun r => r.flatMap (leBytes 2)
    let data := ((lines.drop row).take n).flatten
    s.checked f ([(decide (1 < emb), { code := 0x0205, ofs := 0x19 }), e.zeroFrom 0x1A 2, e.zeroFrom 0x24 28,
        (n = 0, { code := 0x0206, ofs := 0x22 })] ++ s.camReadChecks e 0 ++
        [(c.any (·.pixels.isNone), { code := 0x0208, ofs := 0x1C }),
         (decide (lines.length < row + n), { code := 0x0208, ofs := 0x20 }),
         (decide (e.room < data.length), { code := 0x0206, ofs := 0x10 })]) fun s =>
      let r := s.meetsPoison fun ch => decide (2 ≤ ch)
      match r.1 with
      | some l => (r.2.dramError l).reject f { code := 0x070B }
      | none =>
        -- the slot counts as being copied until the sample ends (log entry 64)
        let copy := if emb = 1 then [] else (c.map (·.frame.number)).toList
        (r.2.modSensor (e.u 0x18 1) fun x => { x with copying := x.copying ++ copy }).ok f 0 0 data

/-- CAM_DEFECT_LOAD (R341, R345). -/
def execCamDefectLoad (e : Entry) (s : State) : Host.Outcome State Fault Refusal :=
  s.command 0x0741 e fun f s =>
    let n := e.u 0x1A 2
    let v (i : Nat) : Nat := e.d (4 * i) 4
    let order := (List.range (n - 1)).map fun i => axOrder (v i) (v (i + 1)) (4 * (i + 1))
    s.checked f ([e.zeroFrom 0x19 1, (decide (4096 < n), { code := 0x0206, ofs := 0x1A }), e.zeroFrom 0x1C 36,
        (!s.ctxDeclared (e.u 0x18 1), { code := 0x0208, ofs := 0x18 }),
        (e.dataLen != 4 * n || (e.inline && decide (1344 < 4 * n)), { code := 0x0206, ofs := 0x10 })] ++ order) fun s =>
      (s.modCamCtx (e.u 0x18 1) fun c =>
        { c with defects := (List.range n).map fun i => (v i / 65536, v i % 65536) }).ok f 0 0 []
where
  /-- Entries must be strictly increasing. -/
  axOrder (a b o : Nat) : Bool × Bad := (decide (b ≤ a), { code := 0x0204, ofs := o })

/-- CAM_SHADING_LOAD (R341, R345). -/
def execCamShadingLoad (e : Entry) (s : State) : Host.Outcome State Fault Refusal :=
  s.command 0x0742 e fun f s =>
    s.checked f [e.zeroFrom 0x19 39, (!s.ctxDeclared (e.u 0x18 1), { code := 0x0208, ofs := 0x18 }),
        (e.dataLen != 578, { code := 0x0206, ofs := 0x10 })] fun s =>
      (s.modCamCtx (e.u 0x18 1) fun c => { c with gains := (List.range 289).map fun i => e.d (2 * i) 2 }).ok f 0 0 []

/-! ## Adoption and Umbra (R344, R347) -/

/-- B_s (R344). -/
def EphSensor.slotBytes (e : EphSensor) : Nat :=
  let c := if e.cfa = 0 then 1 else 3
  (e.width * e.height * 2 * c + e.embLines * e.width * 2 + 65535) / 65536 * 65536

/-- The cameras at an adoption: slots laid out anew; a sensor whose entry changed starts from the start. -/
def State.adoptCameras (old : Option Eph) (s : State) : State :=
  let total := (s.sensorList.map (·.slotBytes)).sum
  let n := if total = 0 then 0 else min 8 (536870912 / total)
  let sensors := updAll s.camera.sensors fun i x =>
    match s.sensorEntry? i with
    | none => {}
    | some e =>
      let was := old.bind fun o => o.sensors.find? fun c => c.sensor == i
      if was = some e then
        { x with slots := n, stored := x.stored.map fun c => { c with pixels := none } }
      else
        { ({} : Sensor) with
          trig := x.trig, period := x.period, shadow := x.shadow, slots := n, shortCnt := x.shortCnt
          longCnt := x.longCnt, missingCnt := x.missingCnt, skipCnt := x.skipCnt, overrunCnt := x.overrunCnt }
  let unit := s.camera.unit.filter fun u => (nth {} sensors u.sensor).frames.any fun f => f.number == u.frame
  ({ s with camera := { s.camera with
    sensors := sensors, storeOff := total != 0 && n == 0, unit := unit } }).takeUnit

/-- Umbra entry (R347): open frames close as SHORT, and slots, records and statistics go. -/
def State.umbraCameras (s : State) : State :=
  { s with camera := { s.camera with
    unit := none, waiting := []
    sensors := updAll s.camera.sensors fun _ x =>
      { x with
        shortCnt := if x.cur.any (·.opened) then x.shortCnt.inc else x.shortCnt
        cur := none, closing := [], wins := [], trigUntil := 0, copying := [], stored := [], zonesValid := false, pending := none, writing := none } } }

/-- The registers, shadows, contexts and tables of the cameras at their reset values (R347). -/
def State.resetCameras (s : State) : State :=
  { s with camera := { s.camera with
    ports := Vector.replicate 2 {}, pipeCtx := 0, bufPeak := 0, unit := none, waiting := []
    contexts := Vector.replicate 8 CamContext.atReset
    sensors := updAll s.camera.sensors fun _ x =>
      { ({} : Sensor) with
        genLast := x.genLast, gens := x.gens, genFrame := x.genFrame, lastFrame := x.lastFrame
        delivered := x.delivered, deliveredGen := x.deliveredGen, slots := x.slots, inForce := x.inForce } } }

end Sys2Proof.Machine
end

