-- ==== Sys2Proof/Machine/Halo.lean ====
section
/-!
DEFINITION. Halo, the bed illumination drive (ch. 13).
-/

namespace Sys2Proof.Machine

/-- Channel `c`. -/
def State.haloCh (s : State) (c : Nat) : HaloCh := nth {} s.halo.ch c

/-- Channel `c` changed. -/
def State.modHalo (c : Nat) (f : HaloCh → HaloCh) (s : State) : State :=
  { s with halo := { s.halo with ch := upd s.halo.ch c f } }

/-- The HALO section in force. -/
def State.haloSect? (s : State) : Option EphHalo := s.eph.eph.bind (·.halo)

/-- The entry of an enabled channel. -/
def State.haloEntry? (s : State) (c : Nat) : Option EphHaloCh :=
  s.haloSect?.bind fun h => (h.channels[c]?).filter (·.enable)

/-- Channel `c` strobes with sensor `i` (R353). -/
def State.strobes (s : State) (i c : Nat) : Bool := (s.sensorEntry? i).any fun e => e.strobeMask.testBit c

/-- A strobe channel (R353). -/
def State.strobeCh (s : State) (c : Nat) : Bool := s.sensorList.any fun e => e.strobeMask.testBit c

/-- The strobe wire of channel `c` is high. -/
def State.wireHigh (s : State) (c : Nat) : Bool :=
  (List.range 8).any fun i => bitOf s.halo.strobing i && s.strobes i c

/-- A channel that may not draw: faulted off, out of budget, or dark for the neighbour test. -/
def State.heldDark (s : State) (c : Nat) : Bool :=
  let h := s.haloCh c
  h.off || h.budget || s.halo.ntestRun || (s.haloEntry? c).isNone

/-- A fault latched on a channel. -/
def HaloCh.faulted (h : HaloCh) : Bool := h.fault != .none

/-! ## What a sink draws (R349, R350, R353) -/

/-- The current of a sink that is on, in mA: R60's, with the CURRENT in force. -/
def State.sinkCurrent (s : State) (c : Nat) : Rat :=
  s.haloSect?.elim 0 fun h => (150 * h.globalRef * (s.haloCh c).current : Nat) / (65025 : Rat)

/-- PWM_BITS in force. -/
def State.pwmBits (s : State) : Nat := s.haloSect?.elim 8 (·.pwmBits)

/-- The on-counts of a duty (R350). -/
def State.onCounts (s : State) (d : Nat) : Nat := d * 2 ^ s.pwmBits / 65536

/-- The count of a period at which the on-pulse of channel `c` starts (R350). -/
def State.pulseStart (s : State) (c : Nat) : Nat := c * 2 ^ s.pwmBits / 24

/-- The sink of channel `c` is on at count `t` of the Halo clock: in a strobe, or in a pulse outside one. -/
def State.sinkOn (s : State) (c t : Nat) : Bool :=
  !s.heldDark c && (s.wireHigh c || (s.haloCh c).pulses.any fun p => decide (p.1 ≤ t ∧ t < p.2))

/-- What the sink of channel `c` draws at count `t`, in mA. -/
def State.sinkDraw (s : State) (c t : Nat) : Rat := if s.sinkOn c t then s.sinkCurrent c else 0

/-! ## Strobes and on-time (R353, R354) -/

/-- The pulses up to count `t` are over: they enter the interval's count where the PWM drove the sink. -/
def HaloCh.settle (drove : Bool) (t : Nat) (h : HaloCh) : HaloCh :=
  let part (p : Nat × Nat) : Nat := min p.2 t - min p.1 t
  { h with
    onTime := if drove then h.onTime + (h.pulses.map part).sum else h.onTime
    pulses := (h.pulses.map fun p => (max p.1 t, p.2)).filter fun p => decide (p.1 < p.2) }

/-- The pulses of channel `c` up to sample `k` are counted. -/
def State.settleHalo (k c : Nat) (s : State) : State :=
  let drove := !s.heldDark c && !s.wireHigh c
  s.modHalo c (HaloCh.settle drove (10 * k))

/-- The pulses of all channels up to sample `k` are counted. -/
def State.settleHalos (k : Nat) (s : State) : State := (List.range 24).foldl (fun s c => s.settleHalo k c) s

/-- The on-time of the running strobe up to sample `k` enters the interval's count. -/
def HaloCh.countStrobe (k : Nat) (h : HaloCh) : HaloCh :=
  match h.strobeSince with
  | some t => { h with onTime := h.onTime + 10 * (k - t), strobeSince := none }
  | none => h

/-- The strobe of a channel starts at sample `k`. -/
def State.strobeOn (k c : Nat) (s : State) : State :=
  if s.heldDark c then s
  else s.modHalo c fun h => if h.strobeSince.isNone then { h with strobeSince := some k } else h

/-- The strobes that run go on from sample `k` on the channels that may draw again. -/
def State.strobesOn (k : Nat) (s : State) : State :=
  ((List.range 24).filter s.wireHigh).foldl (fun s c => s.strobeOn k c) s

/-- The exposures of sensor `i` that are planned from sample `k` on, before their trigger edges: the next periodic
one, those of waiting CAM_TRIGGERs, and the one of the coming image step (R329, R330). -/
def State.nextExposures (s : State) (i k : Nat) : List Nat :=
  let x := s.sensor i
  let p := x.period.toNat
  let periodic := if bitOf x.trig 30 && !s.time.preEpoch then [(k + p - 1) / p * p + x.delay] else []
  let waiting := (s.camera.waiting.flatMap (·.edges)).filter fun w => w.1 == i
  let image := if s.job.syzygy = .recoat ∧ s.job.imageLeft.contains i then
      s.exposureStart?.toList.map fun e => max (e - x.delay) k + x.delay else []
  if (s.sensorEntry? i).isNone then [] else periodic ++ waiting.map (fun w => w.2 + x.delay) ++ image

/-- A window of sensor `i` starts by sample `k`, its lead of `lead` samples taken off: one that has been triggered,
or one that is planned where no frame keeps it from being triggered (R329). -/
def State.windowNear (s : State) (i k lead : Nat) : Bool :=
  let x := s.sensor i
  x.wins.any (fun w => decide (w.start ≤ k + lead)) ||
    x.cur.isNone && (s.nextExposures i k).any fun e => decide (e ≤ k + lead)

/-- STROBE_START (R353): EXPOSING rises 40 samples before the window and the strobe wires 4, before the trigger edge
where TRIG_DLY is shorter. -/
def execStrobeStart (sensor : Nat) (s : State) : Host.Outcome State Fault Refusal :=
  let k := s.ix + 1
  let bit : W32 := BitVec.ofNat 32 (2 ^ sensor)
  let near := s.windowNear sensor k
  let rise := near 4 && !bitOf s.halo.strobing sensor
  let s := if near 40 then { s with halo := { s.halo with exposing := s.halo.exposing ||| bit } } else s
  .next (if rise then
    let chs := (List.range 24).filter (s.strobes sensor)
    let s := chs.foldl (fun s c => s.settleHalo k c) s
    let s := { s with halo := { s.halo with strobing := s.halo.strobing ||| bit } }
    chs.foldl (fun s c => (s.modHalo c fun h => { h with wireSince := h.wireSince <|> some k }).strobeOn k c) s
  else s)

/-- The open check of a pulse of at least 2 µs (R355). -/
def State.checkPulse (c : Nat) (m : SinkReading) (s : State) : State :=
  let bad := m.low && decide (m.mv < 200)
  let h := s.haloCh c
  let h := { h with lastCheck := some s.ix, lastPass := if bad then h.lastPass else some s.ix, fails := if bad then h.fails + 1 else 0 }
  if bad ∧ 2 ≤ h.fails ∧ h.fault ≠ .opened then
    let s := s.modHalo c fun _ => { h with fault := if h.faulted then h.fault else .opened }
    ({ s with halo := { s.halo with openCnt := s.halo.openCnt.inc } }).record 0x0090 .management []
  else s.modHalo c fun _ => h

/-- What a measurement during on-time shows in the registers. -/
def State.noteSink (c : Nat) (m : SinkReading) (s : State) : State :=
  let s := s.modHalo c fun h => { h with vsink := BitVec.ofNat 16 m.mv }
  { s with halo := { s.halo with vledMeasured := BitVec.ofNat 16 m.vled } }

/-- The strobe of channel `c` ends before sample `k`: its on-time counts, and a pulse of at least 2 µs is checked
with the reading at its end (R354, R355). The PWM goes on where its period stands. -/
def State.strobeOff (k : Nat) (ms : List (Nat × SinkReading)) (c : Nat) (s : State) : State :=
  let h := s.haloCh c
  let lit := h.strobeSince.isSome
  let long := h.wireSince.any fun t => decide (t + 8 ≤ k)
  let s := s.modHalo c fun h =>
    { (h.countStrobe k).settle false (10 * k) with lastStrobe := some k, wireSince := none }
  match ms.find? fun m => m.1 == c with
  | some m => if lit && !s.heldDark c then
      let s := s.noteSink c m.2
      if long then s.checkPulse c m.2 else s
    else s
  | none => s

/-- The wires of a sensor fall (R353). -/
def State.strobeEnd (sensor : Nat) (ms : List (Nat × SinkReading)) (s : State) : State :=
  let k := s.ix + 1
  let bit : W32 := BitVec.ofNat 32 (2 ^ sensor)
  let was := bitOf s.halo.strobing sensor
  let s := { s with halo := { s.halo with
    exposing := s.halo.exposing &&& ~~~bit, strobing := s.halo.strobing &&& ~~~bit } }
  if !was then s
  else ((List.range 24).filter (s.strobes sensor)).foldl (fun s c =>
    if s.wireHigh c then s else s.strobeOff k ms c) s

/-- The windows of a sensor that end by the next sample close; the wires fall with the last of them (R328, R353). -/
def State.closeWindow (sensor : Nat) (ms : List (Nat × SinkReading)) (s : State) : State :=
  let k := s.ix + 1
  let ended := (s.sensor sensor).wins.filter fun w => decide (w.fin ≤ k)
  if ended = [] then s
  else
    let s := s.modSensor sensor fun x => { x with wins := x.wins.filter fun w => decide (k < w.fin) }
    let s := { s with job := { s.job with
      imageOpen := s.job.imageOpen.filter fun o => !(o.1 == sensor && ended.any fun w => w.frame == o.2) } }
    if s.windowNear sensor k 4 then s else s.strobeEnd sensor ms

/-- What the cameras do in sample `k`: the edges of waiting CAM_TRIGGERs, IMG clocked from 60 µs before a planned
exposure (R25, R328, R329), and the wires of an exposure that was planned and did not come. -/
def State.camTick (k : Nat) (s : State) : State :=
  let s := s.camWaits k
  let s := { s with camera := { s.camera with sensors := s.camera.sensors.map fun x => { x with copying := [] } } }
  let due := (List.range 8).any fun i => s.windowNear i k 240
  let s := if due then s.clockImg else s
  (List.range 8).foldl (fun s i =>
    if (bitOf s.halo.exposing i || bitOf s.halo.strobing i) && !s.windowNear i k 40 then s.strobeEnd i [] else s) s

/-- BUDGET_CUT (R354). -/
def execBudgetCut (ch : Nat) (s : State) : Host.Outcome State Fault Refusal :=
  match s.haloEntry? ch with
  | none => .next s
  | some e =>
    let s := s.settleHalo (s.ix + 1) ch
    let h := s.haloCh ch
    let all := (h.countStrobe (s.ix + 1)).onTime
    .next (if h.budget ∨ all * 65536 < e.dutyMax * 4000000 then s
    else
      let cut := s.wireHigh ch
      let s := s.modHalo ch fun h =>
        { h.countStrobe (s.ix + 1) with budget := true, strobeCut := h.strobeCut || cut }
      { s with halo := { s.halo with budgetCnt := s.halo.budgetCnt.inc } })

/-- ACCOUNTING_INTERVAL (R354). -/
def execAccountingInterval (s : State) : Host.Outcome State Fault Refusal :=
  .next (if s.tickAt 400000 = false then s
  else
    let s := s.settleHalos s.ix
    let s := { s with halo := { s.halo with ch := updAll s.halo.ch fun _ h =>
      { h with onTime := 0, budget := false, strobeSince := none } } }
    s.strobesOn s.ix)

/-! ## PWM, fades and the open check (R349–R352, R355, R356) -/

/-- PWM_PERIOD (R349, R350, R356): the new values apply at the start of the period, and its pulse is set and
checked. During a strobe the sink is on throughout, and the reading is that of the strobe, which is checked at its
end. -/
def execPwmPeriod (ch : Nat) (m : SinkReading) (s : State) : Host.Outcome State Fault Refusal :=
  if (s.haloEntry? ch).isNone then .next s
  else
    let s := (s.settleHalo s.ix ch).modHalo ch fun h =>
      { h with dutyNow := h.nextDuty.getD h.dutyNow, nextDuty := none,
               current := h.nextCurrent.getD h.current, nextCurrent := none }
    if s.heldDark ch then .next s
    else
      let lit := s.wireHigh ch
      let s := if lit then s.noteSink ch m else s
      let h := s.haloCh ch
      let n := s.onCounts h.dutyNow
      let stretch := h.stretchDue && s.halo.exposing == 0 && h.dutyNow != 0 && decide (n < 80)
      let s := if stretch then
          let s := s.modHalo ch fun h => { h with stretchDue := false }
          { s with halo := { s.halo with stretchCnt := s.halo.stretchCnt.inc } }
        else s
      let n := if stretch then 80 else n
      if n = 0 then .next s
      else
        let at_ := 10 * s.ix + s.pulseStart ch
        let s := s.modHalo ch fun h => { h with pulses := h.pulses ++ [(at_, at_ + n)] }
        .next (if lit then s
          else if 80 ≤ n then (s.noteSink ch m).checkPulse ch m else s.noteSink ch m)

/-- STRETCH_DUE (R356). -/
def execStretchDue (ch : Nat) (s : State) : Host.Outcome State Fault Refusal :=
  let h := s.haloCh ch
  let on := s.haloSect?.any (·.stretchOn)
  .next (if (s.haloEntry? ch).isSome ∧ on ∧ h.dutyNow ≠ 0 ∧ s.onCounts h.dutyNow < 80 then
    s.modHalo ch fun h => { h with stretchDue := true } else s)

/-- The duty of step k of a fade (R352). -/
def HaloFade.at (f : HaloFade) (k : Nat) : Nat :=
  if f.k ≤ k then f.d1
  else if f.exp then
    let a0 := max f.d0 1
    let a1 := max f.d1 1
    -- the rounded K-th root of (2 a0)^(K−k) · (2 a1)^k over 2: the largest n with 2n − 1 at most the root
    let p := 2 ^ f.k * a0 ^ (f.k - k) * a1 ^ k
    (List.range 17).foldr (fun b n => if (2 * (n + 2 ^ b) - 1) ^ f.k ≤ p then n + 2 ^ b else n) 0
  else ((f.d0 : Int) + roundHalfAway ((((f.d1 : Int) - f.d0) * k : Int) / (f.k : Rat))).toNat

/-- FADE_STEP (R352). -/
def execFadeStep (ch : Nat) (s : State) : Host.Outcome State Fault Refusal :=
  .next (s.modHalo ch fun h => match h.fade with
    | none => h
    | some f =>
      let k := f.step + 1
      { h with
        dutyNow := f.at k
        nextCurrent := if k = 1 then (match f.current with | some c => some c | none => h.nextCurrent)
          else h.nextCurrent
        fade := if f.k ≤ k then none else some { f with step := k } })

/-- VERIFY_EXPIRY (R355): 20 s without a checked pulse, or without a strobe. -/
def execVerifyExpiry (ch : Nat) (s : State) : Host.Outcome State Fault Refusal :=
  let old (t : Nat) : Bool := decide (t + 80000000 ≤ s.ix + 1)
  .next (s.modHalo ch fun h =>
    { h with lastPass := h.lastPass.filter fun t => !old t
             lastStrobe := h.lastStrobe.filter fun t => !old t })

/-- DIAG (R355). -/
def State.haloDiag (s : State) (c : Nat) : Nat :=
  let h := s.haloCh c
  if (s.haloEntry? c).isNone then 0
  else match h.fault with
    | .opened => 3
    | .shortSupply => 4
    | .nshort => 5
    | .none =>
      if h.dutyNow = 0 ∧ !s.wireHigh c ∧ h.lastStrobe.isNone then 0
      else if h.lastPass.isSome then 1 else 2

/-! ## Shorts (R357–R359) -/

/-- HALO_SHORT (R357). -/
def execHaloShort (ch : Nat) (m : SinkReading) (s : State) : Host.Outcome State Fault Refusal :=
  .next (if s.heldDark ch || decide (m.mv + 500 ≤ m.vled) then s
  else
    let s := ((s.settleHalo (s.ix + 1) ch).noteSink ch m).modHalo ch fun h =>
      { h.countStrobe (s.ix + 1) with off := true, fault := .shortSupply }
    ({ s with halo := { s.halo with shortCnt := s.halo.shortCnt.inc } }).record 0x0091 .management [])

/-- A due neighbour test starts when it may (R358). -/
def State.tryNtest (s : State) : State :=
  if s.halo.ntestPending ∧ s.planes.data = .idle ∧ s.halo.exposing = 0 ∧ !s.halo.ntestRun then
    let s := s.settleHalos (s.ix + 1)
    { s with halo := { s.halo with ntestPending := false, ntestRun := true } }
  else s

/-- A neighbour test falls due. -/
def State.dueNtest (s : State) : State :=
  ({ s with halo := { s.halo with ntestPending := true } }).tryNtest

/-- NTEST_START (R358). -/
def execNtestStart (s : State) : Host.Outcome State Fault Refusal := .next s.tryNtest

/-- NTEST_COMPLETE (R358): on this stepping pair 11 is never seen (D-02). -/
def execNtestComplete (pairs : W32) (s : State) : Host.Outcome State Fault Refusal :=
  .next (if !s.halo.ntestRun then s
  else
    let s := s.settleHalos (s.ix + 1)
    let bad := pairs &&& 0x7FF7FF
    let s := { s with halo := { s.halo with ntestRun := false, ntestValid := true, shorted := bad } }
    ((bitsSet bad 23).foldl (fun s n =>
      let hold (h : HaloCh) : HaloCh := { h with fault := .nshort, off := true }
      ((s.modHalo n hold).modHalo (n + 1) hold).record 0x0092 .management []) s).strobesOn (s.ix + 1))

/-! ## Commands and register writes (R351, R352, R355, R361) -/

/-- The R60 sum with the currents that stand or wait, some of them replaced. -/
def State.haloSum (s : State) (new : Nat → Option Nat) : Nat :=
  match s.haloSect? with
  | none => 0
  | some h => ((h.channels.zipIdx).map fun c =>
      let x := s.haloCh c.2
      let wait := (x.fade.bind (·.current)).filter fun _ => x.fade.any fun f => f.step == 0
      let cur := (new c.2).getD (wait.getD (x.nextCurrent.getD x.current))
      haloLoad h { c.1 with current := cur }).sum

/-- The sum is above 3.0 W (R60, R351). -/
def State.haloOver (s : State) (new : Nat → Option Nat) : Bool :=
  decide (3000000 * 255 * 255 * 65536 < s.haloSum new)

/-- HALO_STATUS (R351). -/
def State.haloStatusWord (s : State) (c : Nat) : W32 :=
  let h := s.haloCh c
  packWord [(s.haloDiag c, 24), (b1 (s.strobeCh c), 23), (b1 h.fade.isSome, 22), (b1 h.budget, 21),
    (b1 h.strobeCut, 20), (b1 h.faulted, 16), (h.dutyNow, 0)]

/-- HALO_CH_LEVEL: the CURRENT that stands or waits, and the target duty. -/
def HaloCh.levelWord (h : HaloCh) : W32 := packWord [(h.nextCurrent.getD h.current, 24), (h.duty, 0)]

/-- HALO_STATUS. -/
def execHaloStatus (e : Entry) (s : State) : Host.Outcome State Fault Refusal :=
  s.command 0x0800 e fun f s =>
    let c := e.u 0x18 1
    s.checked f [(decide (23 < c), { code := 0x0204, ofs := 0x18 }), e.zeroFrom 0x19 39] fun s =>
      s.ok f ((s.haloStatusWord c).toNat + (s.haloCh c).levelWord.toNat * 2 ^ 32) 0 []

/-- HALO_SET (R351, R352). -/
def execHaloSet (e : Entry) (s : State) : Host.Outcome State Fault Refusal :=
  s.command 0x0840 e fun f s =>
    let mask := BitVec.ofNat 32 (e.u 0x18 4)
    let duty := e.u 0x1C 2
    let cur := e.u 0x1E 1
    let flags := e.u 0x1F 1
    let fade := e.u 0x20 2
    let keep := flags.testBit 1
    let chs := bitsSet mask 24
    s.checked f [(decide (3 < flags), { code := 0x0205, ofs := 0x1F }), e.zeroFrom 0x22 30,
        (decide (2 ^ 24 ≤ mask.toNat), { code := 0x0204, ofs := 0x18 }),
        (chs.any fun c => (s.haloEntry? c).isNone, { code := 0x0208, ofs := 0x18 }),
        (chs.any fun c => (s.haloEntry? c).any fun h => decide (h.dutyMax < duty), { code := 0x0204, ofs := 0x1C }),
        (!keep && s.haloOver fun c => if chs.contains c then some cur else none, { code := 0x0604, ofs := 0x1E })]
      fun s =>
        let set (h : HaloCh) : HaloCh :=
          let h := { h with duty := duty, nextDuty := none, fade := none }
          if fade = 0 then
            { h with nextDuty := some duty, nextCurrent := if keep then h.nextCurrent else some cur }
          else
            { h with fade := some { d0 := h.dutyNow, d1 := duty, k := fade, step := 0, exp := flags.testBit 0,
                                    current := if keep then none else some cur } }
        (chs.foldl (fun s c => s.modHalo c set) s).ok f 0 0 []

/-- HALO_NTEST (R358). -/
def execHaloNtest (e : Entry) (s : State) : Host.Outcome State Fault Refusal :=
  s.command 0x0841 e fun f s =>
    s.checked f [e.zeroFrom 0x18 40, (s.inBuild, { code := 0x0403 })] fun s => s.dueNtest.ok f 0 0 []

/-- What a write of HALO_CH_LEVEL fails (R351, R361). -/
def State.haloLevelBad (s : State) (c : Nat) (w : W32) : Option Code :=
  match s.haloEntry? c with
  | none => some 0x0208
  | some e =>
    if s.haloOver fun d => if d = c then some (fieldOf w 31 24) else none then some 0x0604
    else if e.dutyMax < fieldOf w 15 0 then some 0x0204
    else none

/-- A write of HALO_CH_LEVEL (R352). -/
def State.haloLevel (c : Nat) (w : W32) (s : State) : State :=
  s.modHalo c fun h =>
    { h with fade := none, duty := fieldOf w 15 0, nextDuty := some (fieldOf w 15 0),
             nextCurrent := some (fieldOf w 31 24) }

/-- A write of HALO_CH_STATUS: FAULT and STROBE_CUT (R354, R355). -/
def State.haloStatusW1c (c : Nat) (w : W32) (s : State) : State :=
  let clear (h : HaloCh) : HaloCh :=
    let h := if bitOf w 20 then { h with strobeCut := false } else h
    if bitOf w 16 then { h with fault := .none, off := false, fails := 0, lastPass := none } else h
  ((s.settleHalo (s.ix + 1) c).modHalo c clear).strobesOn (s.ix + 1)

/-! ## Adoption and Umbra (R358, R360) -/

/-- Halo at an adoption: CURRENT from the section; a channel no longer enabled goes dark and keeps a latched fault
(R355, R360). -/
def State.adoptHalo (s : State) : State :=
  let s := { s with halo := { s.halo with ch := updAll s.halo.ch fun c h => match s.haloEntry? c with
    | none => { fault := h.fault, off := h.off, fails := h.fails }
    | some e => { h with nextCurrent := some e.current } } }
  if s.haloSect?.any (·.neighbourTest) then s.dueNtest else s

/-- Strobe wires and EXPOSING go low (R360). -/
def State.haloWiresLow (s : State) : State :=
  let k := s.ix + 1
  { s with halo := { s.halo with
    exposing := 0, strobing := 0, ntestRun := false
    ch := updAll s.halo.ch fun _ h =>
      if h.wireSince.isSome then
        { (h.countStrobe k).settle false (10 * k) with lastStrobe := some k, wireSince := none }
      else h } }

end Sys2Proof.Machine
end

