-- ==== Sys2Proof/Machine/Melt.lean ====
section
/-!
DEFINITION. Melt-pool units (R235–R245, R298): period sums, ROI frames and their metrics.
-/

namespace Sys2Proof.Machine

/-! ## Period sums (R237–R239) -/

/-- The gate level that a record gives at an offset in its sample, in 250 ps: GATE is the level at the end of the
sample, and an edge leads from the opposite one. An edge at the offset has acted. -/
def GateRec.level (g : GateRec) (ofs : Nat) : Bool :=
  match g.on, g.off with
  | none, none => g.gate
  | some a, none => decide (a ≤ ofs)
  | none, some b => decide (ofs < b)
  | some a, some b => if a ≤ b then decide (a ≤ ofs ∧ ofs < b) else decide (ofs < b ∨ a ≤ ofs)

/-- The gate level at an instant, in 125 ns from sample 0, from the channel's records (R237). -/
def MeltCh.gateAt (c : MeltCh) (t : Int) : Bool :=
  (c.gates.find? fun g => g.ix == (t / 2).toNat).any (·.level (if t % 2 = 0 then 0 else 500))

/-- The sums of λ1 and λ2 over period `m`. -/
def MeltCh.sums (m : Nat) (c : MeltCh) : Nat × Nat :=
  let ps := c.pd.filter fun p => p.ix / 4 == m
  let inc (p : PdSample) (h : Nat) : Bool := c.gateAt (2 * p.ix + h - c.gateLagPast)
  let add (f g : PdSample → Nat) : Nat :=
    (ps.map fun p => (if inc p 0 then f p else 0) + (if inc p 1 then g p else 0)).sum
  (add (·.l1a) (·.l1b), add (·.l2a) (·.l2b))

/-- POWER_PERIOD_END (R238): the period that ended with the last sample but one. The ratio over S2 = 0,
which RATIO_MIN 0 admits, is a free value. -/
def execPowerPeriodEnd (n : Nat) (s : State) : Host.Outcome State Fault Refusal :=
  if !s.declared n || decide (s.ix < 4) then .next s
  else
    let c := nth {} s.melt n
    let r := c.sums (s.ix / 4 - 1)
    let pass := decide (c.ratioMinPast ≤ r.2)
    let d := if pass && r.2 == 0 then s.draw 65536
      else (if pass then min 0xFFFF (roundHalfAway ((256 * r.1 : Nat) / (r.2 : Rat))).toNat else c.ratio, s)
    let c := { c with
      s1 := r.1, s2 := r.2, ratio := d.1, ratioHeld := !pass
      ratioHeldCnt := if pass then c.ratioHeldCnt else c.ratioHeldCnt.inc }
    .next ((d.2.modMelt n fun _ => c).source 2 n [(8, c.s1), (9, c.s2), (10, c.ratio)])

/-! ## ROI frames (R298, R243) -/

/-- The pixels of a frame: 10 bits each, least significant bit first (R298). -/
def roiPixels (count : Nat) (blocks : List W64) : List Nat :=
  let bits := blocks.flatMap fun b => (List.range 64).map fun i => b.getLsbD i
  let num (l : List Bool) : Nat := l.foldr (fun b n => b1 b + 2 * n) 0
  (List.range count).map fun i => num ((bits.drop (10 * i)).take 10)

/-- Sums over the core window that the metrics rest on: N, Σx, Σy, Σx², Σy², Σxy, Σq, with x and y
from the frame centre. -/
structure RoiSums where
  n : Nat := 0
  x : Rat := 0
  y : Rat := 0
  xx : Rat := 0
  yy : Rat := 0
  xy : Rat := 0
  q : Nat := 0

/-- A pixel of S enters the sums. -/
def RoiSums.add (c : Rat) (p : Nat × Nat × Nat) (r : RoiSums) : RoiSums :=
  let x : Rat := (p.1 : Rat) - c
  let y : Rat := (p.2.1 : Rat) - c
  { n := r.n + 1, x := r.x + x, y := r.y + y, xx := r.xx + x * x, yy := r.yy + y * y,
    xy := r.xy + x * y, q := r.q + p.2.2 }

/-- The integers within 1 of a value, as the least and greatest (R243's ±1 LSB). -/
def withinOne (x : Rat) : Int × Int := (-((-(x - 1)).floor), (x + 1).floor)

/-- A free integer within 1 of a value and within bounds. -/
def State.near (x : Rat) (lo hi : Int) (s : State) : Int × State :=
  let b := withinOne x
  let a := max lo b.1
  let z := max a (min hi b.2)
  let d := s.draw (z - a + 1).toNat
  (a + d.1, d.2)

/-- The metrics of a frame of `size` × `size` pixels (R243, R244): `dir` is DIR of the record named. -/
def roiMetrics (cfg : RoiCfg) (size : Nat) (px : List Nat) (dir : Option Nat) (s : State) :
    RoiMetrics × State :=
  let qs := (px.zipIdx).map fun p => (p.2 % size, p.2 / size, p.1 - cfg.black)
  let peak := qs.foldl (fun b p => if b.2.2 < p.2.2 then p else b) (qs.headD (0, 0, 0))
  let inCore (p : Nat × Nat × Nat) : Bool :=
    decide (absI ((p.1 : Int) - peak.1) ≤ cfg.coreR) && decide (absI ((p.2.1 : Int) - peak.2.1) ≤ cfg.coreR)
  let core := qs.filter fun p => inCore p && decide (cfg.thresh ≤ p.2.2)
  let c : Rat := ((size : Rat) - 1) / 2
  let r := core.foldl (fun r p => r.add c p) ({} : RoiSums)
  let spat := (qs.filter fun p => !inCore p && decide (cfg.spatterTh ≤ p.2.2)).map
    fun p => (p.1 / 2, p.2.1 / 2)
  let m : RoiMetrics := { area := r.n, peak := peak.2.2, spatter := spat.eraseDups.length }
  if r.n = 0 then (m, s)
  else
    let n : Rat := r.n
    let mx := r.x / n
    let my := r.y / n
    let xx := r.xx / n - mx * mx
    let yy := r.yy / n - my * my
    let xy := r.xy / n - mx * my
    let uv : Rat × Rat := match dir with
      | some d =>
        let sc := sinCos ((d : Rat) * 2 * piRat / 65536)
        (xx * sc.2 * sc.2 + 2 * xy * sc.1 * sc.2 + yy * sc.1 * sc.1,
         xx * sc.1 * sc.1 - 2 * xy * sc.1 * sc.2 + yy * sc.2 * sc.2)
      | none =>
        let h := (xx - yy) / 2
        let q := sqrtNear (h * h + xy * xy)
        ((xx + yy) / 2 + q, (xx + yy) / 2 - q)
    let size8 (v : Rat) : Rat := 256 * 4 * sqrtNear (if v < 0 then 0 else v)
    let a := s.near (size8 uv.1) 0 0xFFFF
    let b := a.2.near (size8 uv.2) 0 0xFFFF
    let x := b.2.near (256 * mx) (-32768) 32767
    let y := x.2.near (256 * my) (-32768) 32767
    ({ m with length := a.1.toNat, width := b.1.toNat, cx := x.1, cy := y.1
              mean := (roundHalfAway (64 * (r.q : Rat) / n)).toNat }, y.2)

/-- A damaged ROI frame is discarded and counted (R245, R298). -/
def State.roiDamaged (n : Nat) (s : State) : State :=
  let s := s.modLink (s.linkOf n) fun l => { l with bulkErr := l.bulkErr.inc }
  s.modMelt n fun c => { c with crc := c.crc.inc }

/-- ROI_SIZE and EXP_SAMPLE of a frame, as its ROI_START gives them. -/
def RoiIn.size (f : RoiIn) : Nat := uAt f.start 6 1 * 16
def RoiIn.expSample (f : RoiIn) : W32 := BitVec.ofNat 32 (uAt f.start 0 4)

/-- A whole, undamaged ROI frame (R243, R244). -/
def State.roiGood (n : Nat) (f : RoiIn) (s : State) : State :=
  let px := roiPixels (f.size * f.size) f.blocks
  let rec_ := (s.engine n).hist.find? fun h => BitVec.ofNat 32 h.1 == f.expSample
  let r := roiMetrics f.cfg f.size px (rec_.map (·.2.1)) s
  let m := r.1
  let s := r.2.modMelt n fun c =>
    { c with
      metrics := m, roiValid := true, noDir := rec_.isNone, dark := rec_.any fun x => !x.2.2
      frameSample := f.expSample, frames := c.frames.inc }
  s.source 2 n [(0, m.area), (1, m.length), (2, m.width), (3, m.cx), (4, m.cy), (5, m.peak),
    (6, m.mean), (7, m.spatter)]

/-- A frame that ROI_END has closed is whole: its blocks and its CRC-32C agree (R298). -/
def RoiIn.whole (f : RoiIn) : Bool :=
  !f.bad && uAt f.endBytes 1 4 == (crc32c (f.start ++ f.blocks.flatMap fun b => leBytes 8 b.toNat)).toNat &&
    f.blocks.length * 64 == f.size * f.size * 10

/-- ROI_FRAME_END (R298): the oldest frame that ROI_END has closed, with `block`, is judged. -/
def execRoiFrameEnd (n : Nat) (block : List Byte) (s : State) : Host.Outcome State Fault Refusal :=
  .next (match (nth {} s.melt n).ended with
  | [] => s
  | f :: r =>
    if f.endBytes ≠ block then s
    else
      let s := s.modMelt n fun c => { c with ended := r }
      if f.whole then s.roiGood n f else s.roiDamaged n)

/-- ROI_LATE (R245). -/
def execRoiLate (n : Nat) (s : State) : Host.Outcome State Fault Refusal :=
  .next (if ((s.head? n).elim 0 (·.roiSize)) = 0 then s
  else (s.modMelt n fun c => { c with late := c.late.inc, roiValid := false }).sourceLost 2 n (· < 8))

/-- The types of a control block (R283): DN_START, UP_START, TRAIN, IDLE, ROI_START and ROI_END. -/
def blockTypes : List Nat := [0x2D, 0x4B, 0x33, 0x1E, 0x78, 0x66]

/-- A pixel block joins its frame. -/
def RoiIn.pixels (b : List Byte) (f : RoiIn) : RoiIn :=
  if f.bad then f else { f with blocks := f.blocks ++ [BitVec.ofNat 64 (uAt b 0 8)] }

/-- A frame whose ROI_START has been lost with its uplink frame (R298). -/
def MeltCh.lostStart (c : MeltCh) : RoiIn := { cfg := c.cfg, bad := true }

/-- A bulk block of an uplink frame (R298): sync 2 marks a control block, 1 a data block. A control block of no known
type counts as an invalid block (R283). The flag marks a ROI_START before the ROI_END of the frame before it. -/
def MeltCh.bulk (b : BulkBlock) (c : MeltCh) : MeltCh × Bool :=
  let ty := uAt b.bytes 0 1
  if b.sync = 1 then ({ c with frame := some ((c.frame.getD c.lostStart).pixels b.bytes) }, false)
  else if b.sync = 2 ∧ ty = 0x78 then
    ({ c with frame := some { start := slice b.bytes 1 7, cfg := c.cfg } }, c.frame.isSome)
  else if b.sync = 2 ∧ ty = 0x66 then
    ({ c with frame := none, ended := c.ended ++ [{ c.frame.getD c.lostStart with endBytes := b.bytes }] }, false)
  else if b.sync = 2 ∧ ty ∈ blockTypes then (c, false)
  else ({ c with frame := c.frame.map fun f => { f with bad := true } }, false)

/-- The bulk blocks of a good uplink frame. -/
def State.bulkBlocks (n : Nat) (bs : List BulkBlock) (s : State) : State :=
  bs.foldl (fun s b =>
    let r := (nth {} s.melt n).bulk b
    let s := s.modMelt n fun _ => r.1
    if r.2 then s.roiDamaged n else s) s

/-- An uplink frame that carried part of an ROI frame was damaged or missing (R298). -/
def State.bulkLost (n : Nat) (s : State) : State :=
  s.modMelt n fun c => { c with frame := c.frame.map fun f => { f with bad := true } }

/-- RATIO_MIN and GATE_LAG as written take effect with a new period (R256). -/
def MeltCh.newPeriod (c : MeltCh) : MeltCh :=
  { c with ratioMinPast := c.ratioMinNow, gateLagPast := c.gateLagNow, ratioMinNow := c.ratioMin, gateLagNow := c.gateLag }

/-- A record enters the period unit's memory (R237), which a new period begins with every fourth sample (R238). -/
def State.noteGate (k n : Nat) (s : State) : State :=
  let r := (s.engine n).sr
  let g : GateRec := { ix := k, gate := r.gate, on := r.edgeOn, off := r.edgeOff }
  s.modMelt n fun c =>
    let c := if k % 4 = 0 then c.newPeriod else c
    { c with gates := (g :: c.gates).take 24 }

end Sys2Proof.Machine
end

