-- ==== Sys2Proof/Machine/Links.lean ====
section
/-!
DEFINITION. Moonlinks (ch. 10): bring-up, capability exchange, uplink frames, link loss and
loopbacks. Event rows name the Moonlink.
-/

namespace Sys2Proof.Machine

/-! ## Bring-up (R290–R292) -/

/-- The sources that a Moonlink carries are lost while it is not ACTIVE (R94, R300); an ROI frame on
its way is cut (R298). -/
def State.linkSourcesLost (m : Nat) (s : State) : State :=
  let s := s.sourceLost 1 m fun _ => true
  match s.linkHead? m with
  | none => s
  | some h => ((s.sourceLost 2 h.head fun _ => true).sourceLost 7 h.head fun _ => true).bulkLost h.head

/-- A Moonlink changes its state; leaving ACTIVE loses its sources. -/
def State.toState (m : Nat) (f : Link → Link) (s : State) : State :=
  let was := (s.link m).state
  let s := s.modLink m f
  if was = .active ∧ (s.link m).state ≠ .active then s.linkSourcesLost m else s

/-- A link without locks, test, expectations or side-channel messages. -/
def Link.unlock (l : Link) : Link :=
  { l with frameLock := false, blockLock := false, test := 0, loopWait := false, inject := false,
           lastSeq := none, badRun := 0, dnErrRun := 0, trainCnt := 0, phaseOk := false, lockRun := 0
           sideOut := [], sideTx := [], sideRx := [], sideIn := none, leaving := false, chkLen := 0 }

/-- Bring-up from DETECT with a new count of attempts (R290). -/
def Link.restart (l : Link) : Link :=
  { l.unlock with state := .detect, reason := 0, attempts := 0, lastTry := false }

/-- An attempt fails (R290). -/
def Link.failTry (l : Link) : Link :=
  { l.unlock with state := .backoff, attempts := l.attempts + 1, lastTry := decide (3 ≤ l.attempts + 1)
                  retrain := l.retrain.inc }

/-- Moonlink `m` in state `st` moves. -/
def State.linkFrom (m : Nat) (st : LinkState) (f : Link → Link) (s : State) :
    Host.Outcome State Fault Refusal :=
  .next (if (s.link m).state = st then s.modLink m f else s)

/-- RECEIVER_DETECT (R290). -/
def execReceiverDetect (n : Nat) (s : State) : Host.Outcome State Fault Refusal :=
  s.linkFrom n .detect fun l => { l with state := .train }

/-- DETECT_TIMEOUT (R290). With FORCE_DETECT the link skips receiver detect, so no time runs out in it (R44). -/
def execDetectTimeout (n : Nat) (s : State) : Host.Outcome State Fault Refusal :=
  if (s.linkHead? n).any (·.forceDetect) then .next s else s.linkFrom n .detect Link.failTry

/-- The sampler of link `n` stands at the phase found in TRAIN (R290, R446). -/
def State.phaseHome (n : Nat) (s : State) : State :=
  if (s.link n).state = .train then { s with cal := { s.cal with phases := upd s.cal.phases n fun _ => 0 } } else s

/-- PHASE_FOUND (R290). -/
def execPhaseFound (n : Nat) (s : State) : Host.Outcome State Fault Refusal :=
  (s.phaseHome n).linkFrom n .train fun l => { l with state := .lock, phaseOk := true }

/-- TRAIN_TIMEOUT (R290). -/
def execTrainTimeout (n : Nat) (s : State) : Host.Outcome State Fault Refusal :=
  s.linkFrom n .train Link.failTry

/-- LOCK_TIMEOUT (R290). -/
def execLockTimeout (n : Nat) (s : State) : Host.Outcome State Fault Refusal :=
  s.linkFrom n .lock Link.failTry

/-- BLOCK_LOCK_GAINED (R291): in the states in which the receiver takes blocks. -/
def execBlockLockGained (n : Nat) (s : State) : Host.Outcome State Fault Refusal :=
  let st := (s.link n).state
  .next (if st = .off ∨ st = .detect ∨ st = .backoff then s
  else s.modLink n fun l => { l with blockLock := true })

/-- FRAME_LOCK (R291, R292): `roundTrips` is the sum over 64 frames, the last of SEQ `seq`; TURNAROUND stands in the
head's CAPS message. -/
def execFrameLock (n roundTrips : Nat) (seq : W16) (s : State) : Host.Outcome State Fault Refusal :=
  let l := s.link n
  .next (if l.state = .lock ∧ l.blockLock then
    let d := roundHalfAway (((roundTrips : Rat) / 64 - (l.caps.turnaround : Rat)) / 2)
    s.modLink n fun l =>
      { l with state := .caps, frameLock := true, d := d, lastSeq := some seq, headReady := false
               powerZeroed := false }
  else s)

/-- BACKOFF_END (R290). -/
def execBackoffEnd (n : Nat) (s : State) : Host.Outcome State Fault Refusal :=
  s.linkFrom n .backoff fun l =>
    if l.lastTry then { l with state := .heldOut, reason := 8, lastTry := false }
    else { l with state := .detect }

/-! ## Capability exchange (R289, R293–R296) -/

/-- A side-channel message is valid: 64 bytes, its type and its CRC (R289). -/
def sideOk (ty : Nat) (msg : List Byte) : Bool :=
  msg.length == 64 && uAt msg 0 1 == ty && uAt msg 60 4 == (crc32c (msg.take 60)).toNat

/-- The fields of a CAPS message (R294). -/
def parseCaps (b : List Byte) : CapsMsg where
  vendor := uAt b 2 2
  model := uAt b 4 2
  fw := uAt b 6 2
  caps := BitVec.ofNat 32 (uAt b 8 4)
  xyFs := BitVec.ofNat 32 (uAt b 0x0C 4)
  zFs := BitVec.ofNat 32 (uAt b 0x10 4)
  focusGain := BitVec.ofNat 32 (uAt b 0x14 4)
  turnaround := uAt b 0x18 2
  roiMax := uAt b 0x1A 1
  kfpsMax := uAt b 0x1B 1
  farLoop := (uAt b 0x1C 1).testBit 0
  pdBits := uAt b 0x1D 1

/-- The REASON of the first check of R295 that fails, 0 when all pass. -/
def capsReason (h : EphHead) (d : Int) (c : CapsMsg) : Nat :=
  if c.vendor ≠ h.vendor then 1
  else if c.model ≠ h.model then 2
  else if c.fw < h.minFw then 3
  else if c.caps.toNat &&& h.caps ≠ h.caps then 4
  else if c.roiMax < h.roiSize ∨ c.kfpsMax < h.roiKfps then 5
  else if h.farLoop ∧ ¬ c.farLoop then 6
  else if 158 < d then 9
  else 0

/-- A side-channel message of the device with its CRC (R289). -/
def sideMsg (body : List Byte) : List Byte :=
  let b := slice body 0 60
  b ++ leBytes 4 (crc32c b).toNat

/-- A message of the device waits for its slot on the downlink side channel (R289). -/
def Link.say (body : List Byte) (l : Link) : Link := { l with sideOut := l.sideOut ++ [sideMsg body] }

/-- The bytes SIDE of the frame with sequence number `seq` join the message of its slot; a message received whole
stands until the next one (R289). -/
def Link.hear (seq : Nat) (bytes : List Byte) (l : Link) : Link :=
  let i := seq % 32
  let rx := if i = 0 then bytes else if l.sideRx.length = 2 * i then l.sideRx ++ bytes else []
  if rx.length = 64 then
    { l with sideRx := [], sideIn := if sideOk 1 rx || sideOk 4 rx then some rx else l.sideIn }
  else { l with sideRx := rx }

/-- CAPS (R293–R295): `msg` is the CAPS message received whole. The last one stands in the registers; in CAPS it is
judged. -/
def execCaps (n : Nat) (msg : List Byte) (s : State) : Host.Outcome State Fault Refusal :=
  let l := s.link n
  if l.sideIn ≠ some msg ∨ sideOk 1 msg = false then .next s
  else
    let c := parseCaps msg
    let s := s.modLink n fun l => { l with caps := c, sideIn := none }
    match s.linkHead? n with
    | none => .next s
    | some h =>
      if l.state ≠ .caps then .next s
      else
        let r := capsReason h l.d c
        if r = 0 then
          let ack := leBytes 1 2 ++ [0] ++ leBytes 1 h.roiSize ++ leBytes 1 h.roiKfps ++ leBytes 2 (unsignedOf 16 l.d)
          let s := s.modLink n fun l => Link.say ack
            { l with state := .active, reason := 0, attempts := 0, badRun := 0, dnErrRun := 0 }
          .next (s.modEngine h.head fun e => { e with focusGain := c.focusGain })
        else
          let s := s.modLink n fun l => Link.say (leBytes 1 2 ++ leBytes 1 r) { l with state := .heldOut, reason := r }
          let s := s.record 0x0050 .data (u32s [r, c.vendor, c.model, c.fw, c.caps.toNat])
          .next (s.event 2 0x0901 (BitVec.ofNat 64 (2 ^ h.head)))

/-- CAPS_TIMEOUT (R295). -/
def execCapsTimeout (n : Nat) (s : State) : Host.Outcome State Fault Refusal :=
  s.linkFrom n .caps fun l => { l with state := .heldOut, reason := 7 }

/-- HEAD_READY (R296). -/
def execHeadReady (n : Nat) (s : State) : Host.Outcome State Fault Refusal :=
  s.linkFrom n .active fun l => { l with headReady := true }

/-! ## Uplink frames (R288, R299, R300) -/

/-- The head of a Moonlink, as a channel. -/
def State.linkChannel (s : State) (m : Nat) : Nat := (s.linkHead? m).elim 32 (·.head)

/-- Link loss (R300). -/
def State.linkLoss (m : Nat) (s : State) : State :=
  let h := s.linkChannel m
  let seq := ((s.link m).lastSeq.getD 0).toNat
  let s := s.trigger (fun n => n == h) 4 0x0B04
  let s := s.modLink m fun l => { l with loss := l.loss.inc }
  let s := s.record 0x0051 .data (u32s [seq])
  s.toState m fun l => { l.unlock with state := .backoff, attempts := 0, lastTry := false }

/-- An ACTIVE link with a run of 8 is lost. -/
def State.judgeLink (m : Nat) (s : State) : State :=
  let l := s.link m
  if l.state = .active ∧ (8 ≤ l.badRun ∨ 8 ≤ l.dnErrRun) then s.linkLoss m else s

/-- A damaged frame, or `k` missing frames (R299). -/
def State.badFrame (m : Nat) (damaged : Bool) (k : Nat) (s : State) : State :=
  (s.modLink m fun l =>
    { l with
      upCrc := if damaged then l.upCrc.inc else l.upCrc
      upMiss := if damaged then l.upMiss else l.upMiss.add k
      badRun := l.badRun + k, dnErrRun := 0 }).bulkLost (s.linkChannel m)

/-- The fields of a good frame (R288). -/
def State.goodFrame (m : Nat) (f : UplinkFrame) (s : State) : State :=
  let b := f.bytes
  let stat := uAt b 7 1
  let dnErr := stat.testBit 1
  let seq := BitVec.ofNat 16 (uAt b 1 2)
  let l := s.link m
  let l := { l with
    lastSeq := some seq, badRun := 0
    headReady := stat.testBit 0, powerZeroed := stat.testBit 2
    dnErr := if dnErr then l.dnErr.inc else l.dnErr
    dnErrRun := if dnErr then l.dnErrRun + 1 else 0
    pd1a := uAt b 3 2, pd1b := uAt b 5 2, pd2a := uAt b 8 2, pd2b := uAt b 10 2
    temp := sAt b 12 2
    actX := sAt b 16 3, actY := sAt b 19 3, actZ := signedOf 24 (uAt b 22 2 + 65536 * uAt b 24 1) }
  let s := s.modLink m fun _ => l.hear seq.toNat (slice b 14 2)
  if l.state ≠ .active then s
  else
    let h := s.linkChannel m
    let back := (s.ix + 65536 - seq.toNat) % 65536
    let p : PdSample := { ix := s.ix - back, l1a := l.pd1a, l1b := l.pd1b, l2a := l.pd2a, l2b := l.pd2b }
    let s := s.source 1 m [(0, l.actX), (1, l.actY), (2, l.actZ), (3, l.pd1a), (4, l.pd1b),
      (5, l.pd2a), (6, l.pd2b), (7, l.temp)]
    let s := s.modMelt h fun c => { c with pd := (p :: c.pd).take 16 }
    s.bulkBlocks h f.bulk

/-- The CHECK and the sync headers of an uplink frame are good (R299). -/
def frameSound (f : UplinkFrame) : Bool :=
  f.syncOk && f.bytes.length == 32 && uAt f.bytes 0 1 == 0x4B &&
    uAt f.bytes 28 4 == (crc32c (f.bytes.take 28)).toNat

/-- The states in which the head's frames are taken. -/
def LinkState.framed : LinkState → Bool
  | .lock | .caps | .active | .heldOut => true
  | _ => false

/-- Frame lock is gained with the fourth start block in a row whose SEQ rises by 1 (R291). -/
def Link.seekFrames (f : UplinkFrame) (l : Link) : Link :=
  let seq := BitVec.ofNat 16 (uAt f.bytes 1 2)
  if l.state.framed = false ∨ l.blockLock = false then l
  else if !(f.syncOk && uAt f.bytes 0 1 == 0x4B) then { l with lockRun := 0 }
  else
    let run := if l.lockRun ≠ 0 ∧ seq = l.lockSeq + 1 then l.lockRun + 1 else 1
    if run < 4 then { l with lockRun := run, lockSeq := seq }
    else { l with lockRun := 0, lockSeq := seq, frameLock := true, lastSeq := some seq, badRun := 0 }

/-! ### PRBS-31 (R302) -/

/-- The next bit of PRBS-31, x^31 + x^28 + 1, after the last 31 bits `r`. -/
def prbsNext (r : Nat) : Bool := r.testBit 30 != r.testBit 27

/-- A bit enters a register of 31 bits. -/
def prbsIn (b : Bool) (r : Nat) : Nat := (2 * r + b1 b) % 2 ^ 31

/-- The next `n` bits of the pattern. -/
def prbsBits : Nat → Nat → List Bool × Nat
  | 0, r => ([], r)
  | n + 1, r =>
    let b := prbsNext r
    let t := prbsBits n (prbsIn b r)
    (b :: t.1, t.2)

/-- Bits as bytes, the least significant bit first (R282). -/
def packBits (n : Nat) (l : List Bool) : List Byte :=
  (List.range n).map fun i =>
    BitVec.ofNat 8 (((l.drop (8 * i)).take 8).foldr (fun b v => b1 b + 2 * v) 0)

/-- The bits of bytes, the least significant bit first. -/
def unpackBits (l : List Byte) : List Bool := l.flatMap fun b => (List.range 8).map b.getLsbD

/-- The checker takes a bit: the first 31 bits synchronise it, and it compares every later one with its own pattern
(R302; DESIGN CHOICE, log entry 61). -/
def Link.checkBit (l : Link) (b : Bool) : Link :=
  if l.chkLen < 31 then { l with chk := prbsIn b l.chk, chkLen := l.chkLen + 1 }
  else
    let e := prbsNext l.chk
    { l with chk := prbsIn e l.chk, testBits := stat l.testBits 1, testErr := if b = e then l.testErr else l.testErr.inc }

/-- The next `n` bits of the test pattern; INJECT inverts the first of them. -/
def Link.pattern (n : Nat) (l : Link) : List Bool × Link :=
  let r := prbsBits n l.prbs
  (match r.1 with
    | b :: t => (b != l.inject) :: t
    | [] => [],
   { l with prbs := r.2, inject := false })

/-- UPLINK_FRAME (R299, R300): judged while the link holds frame lock; in a far-end loopback its payload goes to the
checker. Frames that were found damaged or missing already are not marked missing again. -/
def execUplinkFrame (n : Nat) (f : UplinkFrame) (s : State) : Host.Outcome State Fault Refusal :=
  let l := s.link n
  if l.state = .test then
    .next (if l.test = 3 then
      s.modLink n fun l => (unpackBits (f.bytes.drop 8 ++ f.bulk.flatMap (·.bytes))).foldl Link.checkBit l
    else s)
  else if !l.frameLock then .next (s.modLink n (Link.seekFrames f))
  else if !frameSound f then .next ((s.badFrame n true 1).judgeLink n)
  else
    let skip : Int := match l.lastSeq with
      | none => 0
      | some q => seqDiff 16 (uAt f.bytes 1 2) (q.toNat + 1)
    if skip < 0 then .next ((s.badFrame n true 1).judgeLink n)
    else
      let gone := skip.toNat - l.badRun
      let s := if gone = 0 then s else (s.badFrame n false gone).judgeLink n
      .next (if (s.link n).frameLock then (s.goodFrame n f).judgeLink n else s)

/-- UPLINK_FRAME_MISSING (R299). -/
def execUplinkFrameMissing (n : Nat) (s : State) : Host.Outcome State Fault Refusal :=
  .next (if (s.link n).state = .test then s.modLink n fun l => { l with chkLen := 0 }
  else if (s.link n).frameLock then (s.badFrame n false 1).judgeLink n
  else s.modLink n fun l => { l with lockRun := 0 })

/-- BLOCK_LOCK_LOSS (R291, R300). -/
def execBlockLockLoss (n : Nat) (s : State) : Host.Outcome State Fault Refusal :=
  let s := s.modLink n fun l => { l with blockLock := false, frameLock := false, lockRun := 0 }
  .next (if (s.link n).state = .active then s.linkLoss n else s)

/-! ## Loopbacks (R302, R303) -/

/-- A link comes up anew from DETECT; an undeclared one goes to OFF. -/
def Link.anew (declared : Bool) (l : Link) : Link := if declared then l.restart else { l.unlock with state := .off }

/-- A loopback ends: bring-up from DETECT, in mode 3 once LOOP_REQ 0 has been sent; an undeclared link goes to OFF. -/
def State.endTest (m : Nat) (s : State) : State :=
  let declared := (s.linkHead? m).isSome
  s.modLink m fun l =>
    if l.test = 3 then Link.say (leBytes 1 3) { l with test := 0, inject := false, leaving := true, sideOut := [] }
    else l.anew declared

/-- LOOP_ACK (R303): `msg` is the message received whole. -/
def execLoopAck (n : Nat) (msg : List Byte) (s : State) : Host.Outcome State Fault Refusal :=
  .next (if (s.link n).sideIn ≠ some msg ∨ sideOk 4 msg = false then s
  else
    if (s.link n).loopWait ∧ uAt msg 1 1 = 1 then
      s.toState n fun l => { l with state := .test, test := 3, loopWait := false, sideIn := none, chkLen := 0 }
    else s.modLink n fun l => { l with sideIn := none })

/-- LOOP_ACK_TIMEOUT (R303). -/
def execLoopAckTimeout (n : Nat) (s : State) : Host.Outcome State Fault Refusal :=
  .next (s.modLink n fun l => { l with loopWait := false })

/-- TEST of ML_CTL. -/
def Link.testField (l : Link) : Nat := if l.loopWait then 3 else l.test

/-- What a write of ML_CTL fails, from its highest field down (R303, R305). -/
def State.linkCtlBad (s : State) (m : Nat) (w : W32) : Option Code :=
  let l := s.link m
  let head := s.linkHead? m
  let t := fieldOf w 2 1
  let can3 : Bool := head.any (·.farLoop) && l.caps.farLoop && (l.state == .active || l.state == .heldOut)
  if bitOf w 8 ∧ l.test = 0 then some 0x0204
  else if t ≠ l.testField ∧ head.isSome ∧ s.planes.data ≠ .idle then some 0x0403
  else if t ≠ 0 ∧ t ≠ l.testField ∧ l.testField ≠ 0 then some 0x0204
  else if t = 3 ∧ l.testField = 0 ∧ !can3 then some 0x0204
  else if bitOf w 0 ∧ l.state = .active ∧ s.inBuild then some 0x0403
  else none

/-- A write of ML_CTL: TEST, INJECT and RETRAIN (R290, R302, R303). -/
def State.linkCtl (m : Nat) (w : W32) (s : State) : State :=
  let l := s.link m
  let t := fieldOf w 2 1
  let s :=
    if t = l.testField then s
    else if t = 0 then
      if l.loopWait then s.modLink m fun l => Link.say (leBytes 1 3) { l with loopWait := false }
      else s.endTest m
    else if t = 3 then s.modLink m fun l => Link.say (leBytes 1 3 ++ leBytes 1 1) { l with loopWait := true }
    else s.toState m fun l => { l.unlock with state := .test, test := t }
  let s := if bitOf w 8 then s.modLink m fun l => { l with inject := true } else s
  if bitOf w 0 ∧ (s.linkHead? m).isSome then
    if (s.link m).test ≠ 0 then s.endTest m else s.toState m Link.restart
  else s

/-! ## What the transmitters send in a sample (R283, R287–R290, R302) -/

/-- The 28 bytes of a setpoint record (R201). -/
def SetRec.bytes (r : SetRec) : List Byte :=
  let flags := b1 r.gate + 2 * b1 r.edgeOn.isSome + 4 * b1 r.edgeOff.isSome + 8 * b1 r.sky + 16 * b1 r.loop +
    32 * b1 r.hold + 64 * b1 r.park + 128 * b1 r.eclipse
  leBytes 3 (unsignedOf 24 r.x) ++ leBytes 3 (unsignedOf 24 r.y) ++ leBytes 3 (unsignedOf 24 r.z) ++ leBytes 1 flags ++
    leBytes 2 r.power ++ leBytes 2 r.spot ++ leBytes 2 (r.atlas % 16384) ++
    leBytes 4 (r.edgeOn.getD 0 + 65536 * r.edgeOff.getD 0) ++ leBytes 2 r.dir ++ leBytes 2 0 ++ leBytes 4 r.vseq.toNat

/-- The record of a link whose head is not in service: zero with PARK set (R290). -/
def parkRecord : List Byte := ({ park := true } : SetRec).bytes

/-- An IDLE block (R283). -/
def idleBlock : BulkBlock := { sync := 2, bytes := slice [0x1E] 0 8 }

/-- A slot of the side channel begins with the next message that waits, or without one (R289). -/
def Link.slotStart (k : Nat) (l : Link) : Link :=
  if k % 32 = 0 then { l with sideTx := l.sideOut.headD [], sideOut := l.sideOut.tail } else l

/-- Block D0 of the frame that serves sample `k` (R287). -/
def Link.d0 (k : Nat) (l : Link) : BulkBlock :=
  { sync := 2, bytes := [0x2D] ++ leBytes 2 k ++ slice l.sideTx (2 * (k % 32)) 2 ++ leBytes 1 (b1 (l.test == 3)) ++ [0, 0] }

/-- Blocks of 8 payload bytes each. -/
def dataBlocks (n : Nat) (l : List Byte) : List BulkBlock :=
  (List.range n).map fun i => { sync := 1, bytes := slice l (8 * i) 8 }

/-- The downlink frame that serves sample `k` with a record (R287). -/
def Link.sendFrame (k : Nat) (record : List Byte) (l0 : Link) : Link :=
  let l := l0.slotStart k
  let d0 := l.d0 k
  let body := record ++ leBytes 4 (crc32c (d0.bytes ++ record)).toNat
  { l with down := d0 :: dataBlocks 4 body ++ List.replicate 15 idleBlock }

/-- The downlink frame of a far-end loopback: PRBS-31 in D1 to D19 (R302). -/
def Link.sendPattern (k : Nat) (l0 : Link) : Link :=
  let r := (l0.slotStart k).pattern 1216
  { r.2 with down := r.2.d0 k :: dataBlocks 19 (packBits 152 r.1) }

/-- A sample's 20 TRAIN blocks (R283, R290). -/
def Link.sendTrain (l : Link) : Link :=
  { l with
    trainCnt := (l.trainCnt + 20) % 65536
    down := (List.range 20).map fun i =>
      { sync := 2, bytes := [0x33] ++ leBytes 2 (l.trainCnt + i) ++ leBytes 1 (b1 l.phaseOk) ++ [0, 0, 0, 0] } }

/-- One sample of a near-end loopback: the checker takes the bits as the pads stay idle (R302). -/
def Link.testSample (l : Link) : Link :=
  let r := l.pattern (if l.test = 1 then 1320 else 1280)
  { r.1.foldl Link.checkBit r.2 with down := [] }

/-- What a link sends in sample `k`, by its state (R290, R302, R303). -/
def Link.transmit (k : Nat) (declared : Bool) (record : List Byte) (l : Link) : Link :=
  match l.state with
  | .train => l.sendTrain
  | .lock | .caps | .heldOut => l.sendFrame k parkRecord
  | .active => l.sendFrame k record
  | .test =>
    if l.test = 3 then l.sendPattern k
    else if l.leaving then
      let l := l.sendFrame k parkRecord
      if k % 32 = 31 ∧ l.sideTx ≠ [] then { l.anew declared with down := l.down } else l
    else l.testSample
  | _ => { l with down := [] }

/-- Every Moonlink sends its part of sample `k`. The sample in which a link in TRAIN finds its own phase is a free
one (R290). -/
def State.linksSend (k : Nat) (s : State) : State :=
  let s := (List.range 32).foldl (fun s m =>
    if (s.link m).state = .train ∧ (s.link m).phaseOk = false then
      let d := s.draw 2
      d.2.modLink m fun l => { l with phaseOk := d.1 == 1 }
    else s) s
  { s with links := updAll s.links fun m l =>
      l.transmit k (s.linkHead? m).isSome (s.engine (s.linkChannel m)).sr.bytes }

/-- The Moonlinks at an adoption (R85, R290, R303): a head whose entry changed or is new retrains, a
running test ends, an undeclared link stays in OFF. -/
def State.adoptLinks (old : Option Eph) (s : State) : State :=
  (List.range 32).foldl (fun s m =>
    let was := (old.bind fun e => e.heads.find? fun h => h.moonlink == m)
    match s.linkHead? m with
    | none =>
      if (s.link m).test ≠ 0 then s.endTest m
      else s.toState m fun l => { l.unlock with state := .off }
    | some h =>
      if (s.link m).test ≠ 0 then s.endTest m
      else if was != some h || (s.link m).state == .off then s.toState m Link.restart
      else if (s.link m).loopWait then s.modLink m fun l => { l with loopWait := false }
      else s) s

/-- The counters of ML_CNT_CTL cleared (R305). -/
def Link.clearCounters (l : Link) : Link :=
  { l with upCrc := {}, upMiss := {}, dnErr := {}, bulkErr := {}, loss := {}, retrain := {},
           testErr := {}, testBits := 0 }

end Sys2Proof.Machine
end

