-- ==== Sys2Proof/Machine/Cal.lean ====
section
/-!
DEFINITION. Calibration (ch. 18): when a subject is due, its runs and their judgement, the commands
CAL_RUN and CAL_GRID_LOAD, and the process inputs (R93, types 3 and 4).
-/

namespace Sys2Proof.Machine

/-- Subject `i`. -/
def State.calSubj (s : State) (i : Nat) : CalSubject := nth {} s.cal.subj i

/-- Subject `i` changed. -/
def State.modCal (i : Nat) (f : CalSubject → CalSubject) (s : State) : State :=
  { s with cal := { s.cal with subj := upd s.cal.subj i f } }

/-! ## When a subject is due (R450, R451) -/

/-- The temperature entries of a subject (R450). -/
def calEntries (i : Nat) : List Nat := if i < 3 then [16, 17, 18, 19] else [20, 21]

/-- The valid readings of a subject's sensors. -/
def State.calReadings (s : State) (i : Nat) : List (Nat × Int) :=
  (calEntries i).filterMap fun k =>
    let t := nth {} s.power.thm k
    if t.valid then some (k, t.reading) else none

/-- The largest movement of a subject's sensors from their references, in 1/64 K (CAL_SUBJ MOVED). -/
def State.calMoved (s : State) (i : Nat) : Nat :=
  (s.calReadings i).foldl (fun m r =>
    match (s.calSubj i).refs.find? fun q => q.1 == r.1 with
    | some q => max m (r.2 - q.2).natAbs
    | none => m) 0

/-- DELTA_T in force (R69). -/
def State.deltaT (s : State) : Nat := (s.eph.eph.bind (·.cal)).elim 5 (·.deltaT)

/-- Subject `i` is enabled, and the device is not in Cleis mode. -/
def State.calOn (s : State) (i : Nat) : Bool := !s.cal.cleis && s.cal.enabled.getLsbD i

/-- The check of R450: a due subject stays due until a run is accepted. -/
def State.calDue (s : State) : State :=
  (List.range 5).foldl (fun s i =>
    if s.calOn i && ((s.calSubj i).refs.isEmpty || decide (s.deltaT * 64 ≤ s.calMoved i)) then
      s.modCal i fun c => { c with due := true }
    else s) s

/-- The factory values (R455), by subject; the receive phases are those found in TRAIN, and the lanes stand as they were
aligned at link start. -/
def State.calFactory (s : State) : State :=
  { s with cal := { s.cal with
      taps := updAll s.cal.taps fun n _ => Config.factoryTaps n
      phases := Vector.replicate 32 0, laneTaps := Vector.replicate 2 [], laneNext := Vector.replicate 2 none
      ratios := updAll s.cal.ratios fun n _ => Config.factoryRatio n
      analog := updAll s.cal.analog fun n a =>
        { a with ofs := (Config.factoryVf n).1, scale := (Config.factoryVf n).2 }
      subj := updAll s.cal.subj fun _ c => { c with factory := true, refs := [] } } }

/-- A power-up of the core die or of the device (R456). -/
def State.calPowerUp (s : State) : State :=
  let s := { s with cal := { s.cal with
    subj := Vector.replicate 5 {}, cleis := false, enabled := 0x1F
    armed := Vector.replicate 2 false, flights := [], gridLoads := [] } }
  s.calFactory.calDue

/-! ## Runs (R449, R451, R452) -/

/-- A subject of a CAL_RUN has ended with a result, or has been armed: 0 accepted, 1 rejected, 2 armed,
3 abandoned. The command completes with its last subject (R453). -/
def State.calEnded (i : Nat) (how : Nat) (s : State) : State :=
  let bit : W32 := 1 <<< i
  let one (x : CalFlight) : CalFlight :=
    if !x.waits.getLsbD i then x
    else if x.late.getLsbD i then { x with late := x.late &&& ~~~bit }
    else
      let x := { x with waits := x.waits &&& ~~~bit }
      match how with
      | 0 => { x with accepted := x.accepted ||| bit }
      | 1 => { x with rejected := x.rejected ||| bit }
      | 2 => { x with armed := x.armed ||| bit }
      | _ => x
  let fs := s.cal.flights.map one
  let (done, left) := fs.partition fun x => x.waits == 0
  let s := { s with cal := { s.cal with flights := left } }
  done.foldl (fun s x => s.finishId x.flight 0
    (BitVec.ofNat 64 (x.accepted.toNat + x.rejected.toNat * 256 + x.armed.toNat * 65536)) 0 false []) s

/-- A camera port is declared above 1.5 Gbit/s per lane (R446); LANE_RATE counts 100 Mbit/s (R57). -/
def State.fastPort (s : State) (p : Nat) : Bool := s.sensorList.any fun e => e.port == p && decide (15 < e.laneRate)

/-- The calibration opportunity of R451: DATA_STATE 1, or the beginning of step 4 (`step`). -/
def State.calOpen (step : Bool) (s : State) : Bool :=
  s.power.umbra == .awake && s.power.core && (s.planes.data == .idle || step && s.job.syzygy == .commits)

/-- A due or requested subject starts; subject 2 arms its ports (R452). -/
def State.calStartOne (step : Bool) (i : Nat) (s : State) : State :=
  let c := s.calSubj i
  if !s.calOpen step || !s.calOn i || (c.running && !(i == 2 && c.requested)) || !(c.due || (c.requested && s.mayApply c.atEnd)) then s
  else
    let s := if s.mayApply c.atEnd then s.modCal i fun c => { c with requested := false, atEnd := false } else s
    if i = 2 then
      let on (p : Nat) : Bool := s.fastPort p
      let s := { s with cal := { s.cal with armed := updAll s.cal.armed fun p a => a || on p } }
      let s := s.modCal 2 fun c => { c with running := on 0 || on 1 }
      s.calEnded 2 2
    else s.modCal i fun c => { c with running := true }

/-- Every subject that may start does (R451). A subject rejected in step 4 runs again in the next gap. -/
def State.calStartAll (step : Bool) (s : State) : State := (List.range 5).foldl (fun s i => s.calStartOne step i) s

/-- Subjects that may start while DATA_STATE is 1 do. -/
def State.calStart (s : State) : State := s.calStartAll false

/-- A rejected result (R449): the subject stays due. -/
def State.calReject (i why channel : Nat) (a b : List Int) (s : State) : State :=
  let words (l : List Int) : List Nat := l.map (unsignedOf 32)
  let s := s.modCal i fun c =>
    { c with lastResult := why, streak := min 15 (c.streak + 1), due := true, running := false }
  let s := { s with cal := { s.cal with reject := s.cal.reject.inc } }
  s.record 0x00F0 (if i < 3 then .control else .management) (u32s ([i, channel] ++ words a ++ words b))

/-- An accepted result (R449), once its values are applied. -/
def State.calAccept (i : Nat) (s : State) : State :=
  let refs := s.calReadings i
  let s := s.modCal i fun c =>
    { c with lastResult := 1, streak := 0, factory := false, refs := refs, due := false, running := false }
  { s with cal := { s.cal with count := s.cal.count.inc, lastTime := s.time.t, lastOpsec := s.boot.opsec } }

/-- The nearest cell count to a target in ps, the lower one of two equally near. -/
def nearestCell (d : List Int) (target : Int) : Nat :=
  ((List.range 17).foldl (fun (best : Nat × Nat) c =>
    let e := ((d.getD c 0) - target).natAbs
    if e < best.2 then (c, e) else best) (0, (d.getD 0 0 - target).natAbs)).1

/-- The judgement of one channel: the result applied, or the way it fails with both results. -/
inductive CalVerdict
  | good (v : List Int)
  | bad (why : Nat) (a b : List Int)
  deriving DecidableEq, Repr

/-- The mean of two results, rounded to the nearest setting. -/
def meanOf (a b : Int) : Int := roundHalfAway (((a + b : Int) : Rat) / 2)

/-- A gate delay line from the delays of 0 to 16 cells, in ps (R446, R449). -/
def judgeDelay (a b : List Int) : CalVerdict :=
  let taps := [250, 500, 750].map fun t => (t, nearestCell a t, nearestCell b t)
  let ra := taps.map fun t => (t.2.1 : Int)
  let rb := taps.map fun t => (t.2.2 : Int)
  let da (t : Int × Nat × Nat) : Int := a.getD t.2.1 0
  let db (t : Int × Nat × Nat) : Int := b.getD t.2.2 0
  if taps.any fun t => decide (20 < (da t - db t).natAbs) then .bad 2 ra rb
  else if taps.any fun t => decide (40 < (da t + db t - 2 * t.1).natAbs) then .bad 3 ra rb
  else .good (taps.map fun t => meanOf t.2.1 t.2.2)

/-- A result of subjects 1, 3 and 4 against the tolerance of R446. -/
def judgeRuns (i : Nat) (a b : List Int) : CalVerdict :=
  let x (l : List Int) (k : Nat) : Int := l.getD k 0
  let apart (k : Nat) : Nat := (x a k - x b k).natAbs
  let agree := match i with
    | 1 => decide (apart 0 ≤ 2)
    | 3 => decide (apart 0 * 2000 ≤ (x a 0 + x b 0).natAbs)
    | _ => decide (apart 1 * 20000 ≤ (x a 1 + x b 1).natAbs) &&
      decide (apart 0 * 40000 ≤ 5 * (x a 1 + x b 1).natAbs)
  if agree then .good ((List.range (max a.length b.length)).map fun k => meanOf (x a k) (x b k)) else .bad 2 a b

/-- The channels that a subject measures. -/
def State.calChannels (s : State) (i : Nat) : List Nat :=
  match i with
  | 0 => List.range 32
  | 1 => (List.range 32).filter fun m => (s.link m).state == .active
  | 3 => List.range 16
  | _ => List.range 8

/-- A channel's result applied. -/
def State.calApply (i n : Nat) (v : List Int) (s : State) : State :=
  let x (k : Nat) : Int := v.getD k 0
  match i with
  | 0 => { s with cal := { s.cal with taps := upd s.cal.taps n fun _ => ((x 0).toNat, (x 1).toNat, (x 2).toNat) } }
  | 1 => { s with cal := { s.cal with phases := upd s.cal.phases n fun _ => x 0 } }
  | 3 => { s with cal := { s.cal with ratios := upd s.cal.ratios n fun _ => x 0 } }
  | _ => { s with cal := { s.cal with analog := upd s.cal.analog n fun a => { a with ofs := x 0, scale := x 1 } } }

/-- The two runs of subject `i`, by channel; 1/64 UI, 1/65,536, Hz and Hz per V in
1/65,536, have ended (R449). -/
def State.calRunDone (i : Nat) (run1 run2 : List (List Int)) (s : State) : State :=
  if i = 2 ∨ !(s.calSubj i).running then s
  else
    let verdict (n : Nat) : CalVerdict :=
      if i = 0 then judgeDelay (run1.getD n []) (run2.getD n []) else judgeRuns i (run1.getD n []) (run2.getD n [])
    let fails := (s.calChannels i).filterMap fun n => match verdict n with
      | .good _ => none
      | .bad why a b => some (why, n, a, b)
    match fails with
    | (why, n, a, b) :: _ => ((s.calReject i why n a b).calEnded i 1).calStart
    | [] =>
      let s := (s.calChannels i).foldl (fun s n => match verdict n with
        | .good v => s.calApply i n v
        | .bad _ _ _ => s) s
      ((s.calAccept i).calEnded i 0).calStart

/-- DESKEW_SEQUENCE (R452): the halves of a sensor's sequence on an armed port, by lane. -/
def execDeskewSequence (port ui : Nat) (run1 run2 : List Nat) (s : State) : Host.Outcome State Fault Refusal :=
  if !nth false s.cal.armed port || decide (ui < 8192) then .next s
  else
    let n := max run1.length run2.length
    let x (l : List Nat) (k : Nat) : Int := l.getD k 0
    let s := { s with cal := { s.cal with armed := upd s.cal.armed port fun _ => false } }
    let more := nth false s.cal.armed 0 || nth false s.cal.armed 1
    let s := match (List.range n).find? fun k => decide (1 < (x run1 k - x run2 k).natAbs) with
      | some k => s.calReject 2 2 (8 * port + k) [x run1 k] [x run2 k]
      | none =>
        let taps := (List.range n).map fun k => (meanOf (x run1 k) (x run2 k)).toNat
        let s := { s with cal := { s.cal with laneNext := upd s.cal.laneNext port fun _ => some taps } }
        s.calAccept 2
    .next (s.modCal 2 fun c => { c with running := more }).calStart

/-- A run ends without a result (R457): previous values stand. -/
def State.calAbandon (which : Nat → Bool) (s : State) : State :=
  (List.range 5).foldl (fun s i =>
    if which i && (s.calSubj i).running then
      let s := s.modCal i fun c => { c with lastResult := 5, due := true, running := false }
      let s := if i = 2 then { s with cal := { s.cal with armed := Vector.replicate 2 false } } else s
      s.calEnded i 3
    else s) s

/-! ## Adoption (R69, R450, R455) -/

/-- CAL in force. -/
def State.adoptCal (e : Eph) (s : State) : State :=
  let cleis := e.cal.any (·.cleis)
  let enabled : W32 := BitVec.ofNat 32 (e.cal.elim 0x1F fun c => c.subjects)
  let was := s.cal
  let s := { s with cal := { s.cal with cleis := cleis, enabled := enabled } }
  let s := s.calAbandon fun i => !s.calOn i
  let s := { s with cal := { s.cal with
    subj := updAll s.cal.subj fun i c =>
      if !s.calOn i then { c with due := false, requested := false }
      else if was.cleis || !was.enabled.getLsbD i then { c with refs := [] }
      else c } }
  (if cleis then s.calFactory else s).calDue

/-! ## Commands (R453, R454) -/

/-- CAL_RUN. -/
def execCalRun (e : Entry) (s : State) : Host.Outcome State Fault Refusal :=
  s.command 0x0441 e fun f s =>
    let m := e.u 0x18 1
    let w : W32 := BitVec.ofNat 32 m
    s.checked f
      [(m == 0 || decide (32 ≤ m) || w &&& s.cal.enabled != w, { code := 0x0204, ofs := 0x18 }),
       (s.cal.cleis, { code := 0x0204, ofs := 0x18 }),
       e.zeroFrom 0x19 0x27] fun s =>
      let s := (bitsSet w 5).foldl (fun s i => s.modCal i fun c =>
        { c with requested := true, atEnd := s.finalNow && (c.atEnd || !c.requested) }) s
      if s.planes.data == .idle then
        let x : CalFlight := 
          { flight := f.id, waits := w, accepted := 0, rejected := 0, armed := 0
            late := maskOf 5 fun i => w.getLsbD i && decide (i ≠ 2) && (s.calSubj i).running }
        let s := s.launch f
        ({ s with cal := { s.cal with flights := s.cal.flights ++ [x] } }).calStart
      else s.finish f 0x0A00 (s.firstLayer 4) 0 false []

/-- A node word that breaks R185: bits [31:24] differ from bit 23, or the value is −8,388,608. -/
def gridWordBad (b0 b1 b2 b3 : Byte) : Bool :=
  b3 != (if b2.msb then 0xFF else 0) || (b2 == 0x80 && b1 == 0 && b0 == 0)

/-- The byte offset of the first node word that breaks R185. -/
def gridBad : Nat → List Byte → Option Nat
  | o, b0 :: b1 :: b2 :: b3 :: r => if gridWordBad b0 b1 b2 b3 then some o else gridBad (o + 4) r
  | _, _ => none

/-- A grid in force for a head: its cache frames are dropped (R454). -/
def State.setGrid (h : Nat) (b : List Byte) (s : State) : State :=
  let g : GridImage := { bytes := b.toArray, crc := crc32c b }
  let kept : List (Nat × GridImage) := s.mem.grids.filter fun p => p.1 != h
  let s : State := { s with mem := { s.mem with grids := kept ++ [(h, g)] } }
  s.modEngine h fun e => { e with tiles := [], requested := [] }

/-- CAL_GRID_LOAD. -/
def execCalGridLoad (e : Entry) (s : State) : Host.Outcome State Fault Refusal :=
  s.command 0x0442 e fun f s =>
    let h := e.u 0x18 1
    let bad := gridBad 0 e.data
    s.checked f
      [(e.inline, { code := 0x0104 }),
       e.zeroFrom 0x19 0x27,
       (s.eph.eph.isNone, { code := 0x0505 }),
       (decide (31 < h), { code := 0x0208, ofs := 0x18 }),
       (!s.declared h, { code := 0x0903, ofs := 0x18, obj := h }),
       (e.bufLen.toNat != 792588, { code := 0x0206, ofs := 0x10 }),
       (s.cal.gridLoads.any fun g => g.head == h, { code := 0x040A }),
       (bad.isSome, { code := 0x0204, ofs := bad.getD 0 })] fun s =>
      let crc : W64 := (crc32c e.data).setWidth 64
      if s.planes.data == .idle then (s.setGrid h e.data).finish f 0 0 crc false []
      else
        let g : GridLoad := { head := h, bytes := e.data, atEnd := s.finalNow }
        let s : State := { s with cal := { s.cal with gridLoads := s.cal.gridLoads ++ [g] } }
        s.finish f 0x0A00 (s.firstLayer 4) crc false []

/-- Pending grids replace those in force, in step 4 (R454). -/
def State.takeGrids (s : State) : State :=
  let (l, left) := s.cal.gridLoads.partition fun g => s.mayApply g.atEnd
  let s := { s with cal := { s.cal with gridLoads := left } }
  l.foldl (fun s g => if s.declared g.head then s.setGrid g.head g.bytes else s) s

/-! ## Process inputs (R93) -/

/-- PULSE_INPUT_EDGE: frequency and duty as the source fields hold them; the edge is counted. -/
def execPulseInputEdge (input : Nat) (frequency duty : Int) (s : State) : Host.Outcome State Fault Refusal :=
  if 8 ≤ input then .next s
  else
    let p := nth {} s.cal.pulse input
    let n := p.v2 + 1
    let s := { s with cal := { s.cal with
      pulse := upd s.cal.pulse input fun p => { p with v0 := frequency, v1 := duty, v2 := n, valid := true } } }
    .next (s.source 4 input [(0, frequency), (1, duty), (2, n)])

/-- ANALOG_INPUT_SAMPLE: raw frequency in 1/65,536 Hz and its scaled value (R446). A converter that
subject 4 measures repeats its last value (R451). -/
def execAnalogInputSample (input : Nat) (hz : Int) (s : State) : Host.Outcome State Fault Refusal :=
  if 8 ≤ input then .next s
  else
    let p := nth {} s.cal.analog input
    if (s.calSubj 4).running then
      .next (if p.valid then s.source 3 input [(0, p.v0), (1, p.v1)] else s)
    else
      let r := s.draw (2 ^ 32)
      let v : Int := if p.scale = 0 then signedOf 32 r.1
        else roundHalfAway ((((hz - p.ofs : Int) : Rat) * 65536) / (p.scale : Rat))
      let s := if p.scale = 0 then r.2 else s
      let s := { s with cal := { s.cal with
        analog := upd s.cal.analog input fun p => { p with v0 := v, v1 := hz, valid := true } } }
      .next (s.source 3 input [(0, v), (1, hz)])

end Sys2Proof.Machine
end

