-- ==== Sys2Proof/Machine/Peri.lean ====
section
/-!
DEFINITION. Perihelion (R246–R255): the grid, deposits, diffusion and transition passes, lookups and
the grid commands. The grid is 2048 × 2048 cells; cell (ix, iy) has index 2048 × iy + ix.
-/

namespace Sys2Proof.Machine

/-- PERIHELION of the ephemeris in force, while ENABLE is 1. -/
def State.peri? (s : State) : Option EphPeri := (s.eph.eph.bind (·.peri)).filter (·.enable)

/-- A cell's value held to 16 bits, and whether the bound acted. -/
def clampCell (v : Int) : Nat × Nat := ((clampInt 0 0xFFFF v).toNat, b1 (decide (v < 0) || decide (0xFFFF < v)))

/-! ## The stored grid -/

/-- A row has been written by the running pass. -/
def DiffPass.wrote (q : DiffPass) (row : Nat) : Bool := decide (row + 1 < q.rowsRead)

/-- The stored value of a cell. -/
def Peri.cell (p : Peri) (i : Nat) : Nat :=
  match p.pass with
  | some q => if q.wrote (i / 2048) then sget q.newBase q.done i else sget p.base p.cells i
  | none => sget p.base p.cells i

/-- A cell set. -/
def Peri.set (i v : Nat) (p : Peri) : Peri :=
  match p.pass with
  | some q =>
    if q.wrote (i / 2048) then { p with pass := some { q with done := sset q.newBase q.done i v } }
    else { p with cells := sset p.base p.cells i v }
  | none => { p with cells := sset p.base p.cells i v }

/-- The cell of a position (R246). -/
def EphPeri.cellOf (e : EphPeri) (x y : Int) : Nat :=
  let c (v o : Int) : Nat := (clampInt 0 2047 ((v - o) / (4 * e.pitch))).toNat
  2048 * c y e.y0 + c x e.x0

/-- The pass that runs is abandoned: the grid stays as it is stored, and no further cell is written (R255). -/
def Peri.abandon (p : Peri) : Peri :=
  match p.pass with
  | none => { p with tickWaits := none, transition := false }
  | some q =>
    let n := 2048 * (q.rowsRead - 1)
    let old := p.cells.filter fun c => decide (n ≤ c.1)
    let new := if q.newBase = p.base then q.done
      else (List.range n).filterMap fun i => let v := sget q.newBase q.done i; if v = p.base then none else some (i, v)
    { p with cells := new ++ old, pass := none, tickWaits := none, transition := false }

/-- Every cell at a value, and nothing in progress (R255). -/
def Peri.reset (v : Nat) (p : Peri) : Peri :=
  { p with base := v, cells := [], acc := [], pass := none, tickWaits := none, transition := false }

/-! ## Deposition (R247) -/

/-- K_L of a laser (R247). -/
def EphPeri.kOf (e : EphPeri) (l : EphLaser) : Nat :=
  (roundHalfAway (((e.gain * l.ratedMw * 65536 : Nat) : Rat) / 62500000000)).toNat

/-- The time in 250 ps units that the gate is high in a record's sample: GATE is the level at its end (R201). -/
def SetRec.gateTime (r : SetRec) : Nat :=
  match r.edgeOn, r.edgeOff with
  | none, none => if r.gate then 1000 else 0
  | some a, none => 1000 - a
  | none, some b => b
  | some a, some b => if a ≤ b then b - a else b + (1000 - a)

/-- A record's energy goes into its cell. -/
def State.deposit (n : Nat) (s : State) : State :=
  match s.peri?, s.laser? n with
  | some e, some l =>
    let r := (s.engine n).sr
    let p := s.peri
    let acc := sget 0 p.acc n + r.power * r.gateTime * e.kOf l
    let whole := acc / 2 ^ 48
    let p := { p with acc := sset 0 p.acc n (acc % 2 ^ 48) }
    if whole = 0 then { s with peri := p }
    else
      let i := e.cellOf r.px r.py
      let old := p.cell i
      let new := clampCell ((old + whole : Nat) : Int)
      let p := p.set i new.1
      { s with peri := { p with satCnt := p.satCnt.add new.2, deposit := stat p.deposit (new.1 - old) } }
  | _, _ => s

/-! ## The diffusion step (R249, R250) -/

/-- T' of a cell from its value and its neighbours', and whether the clamp acted. -/
def diffuse (alpha : Nat) (bias : Int) (t n s e w : Nat) : Nat × Nat :=
  let l : Int := (n : Int) + s + e + w - 4 * t
  clampCell (t + ((alpha : Int) * l + bias * 256) / 65536)

/-- A row of the table as (column, value) pairs. -/
def rowOf (cells : List (Nat × Nat)) (row : Nat) : List (Nat × Nat) :=
  (cells.filter fun c => c.1 / 2048 == row).map fun c => (c.1 % 2048, c.2)

/-- The columns of a row whose value or neighbourhood differs from the base. -/
def rowCols (up mid down now : List (Nat × Nat)) : List Nat :=
  let side := mid.flatMap fun c => [c.1 - 1, c.1 + 1]
  let all := (up ++ mid ++ down ++ now).map (·.1) ++ side.filter (· < 2048)
  (List.range 2048).filter all.contains

/-- Row `r` is written: `up`, `mid` and `down` are the rows as the pass read them, `none` outside the
grid. A deposit made since the row was read is added to the new value (R250). -/
def Peri.writeRow (r : Nat) (up : Option (List (Nat × Nat))) (mid : List (Nat × Nat))
    (down : Option (List (Nat × Nat))) (q : DiffPass) (p : Peri) : Peri × DiffPass :=
  let b := p.base
  let now := rowOf p.cells r
  let cols := rowCols (up.getD []) mid (down.getD []) now
  let flat := diffuse q.alpha q.bias b b b b b
  let at_ (row : Option (List (Nat × Nat))) (t c : Nat) : Nat := row.elim t fun l => sget b l c
  let cell (c : Nat) : (Nat × Nat) × Nat :=
    let t := sget b mid c
    let d := diffuse q.alpha q.bias t (at_ up t c) (at_ down t c)
      (if c = 2047 then t else sget b mid (c + 1)) (if c = 0 then t else sget b mid (c - 1))
    let v := clampCell ((d.1 : Int) + (((sget b now c : Nat) : Int) - (t : Nat)))
    ((2048 * r + c, v.1), d.2 + v.2)
  let new := cols.map cell
  let sats := (new.map (·.2)).sum + (2048 - cols.length) * flat.2
  ({ p with satCnt := p.satCnt.add sats },
   { q with done := q.done ++ (new.map (·.1)).filter fun c => c.2 != q.newBase })

/-- The pass reads its next row, and writes the row before it. -/
def Peri.readRow (q : DiffPass) (p : Peri) : Peri × DiffPass :=
  let r := q.rowsRead
  if 2048 ≤ r then (p, q)
  else
    let row := rowOf p.cells r
    let x := if r = 0 then (p, q)
      else p.writeRow (r - 1) (if r = 1 then none else some q.prev2) q.prev1 (some row) q
    (x.1, { x.2 with rowsRead := r + 1, prev2 := q.prev1, prev1 := row })

/-- Up to `n` rows of the running pass. -/
def Peri.readRows : Nat → Peri → Peri
  | 0, p => p
  | n + 1, p =>
    match p.pass with
    | none => p
    | some q =>
      if q.suspended ∨ 2048 ≤ q.rowsRead then p
      else
        let r := p.readRow q
        Peri.readRows n { r.1 with pass := some r.2 }

/-- The rows that a pass reads in one sample: a free number, since the spec gives a pass only its
length (R252). -/
def State.diffuseSome (s : State) : State :=
  match s.peri.pass with
  | none => s
  | some _ =>
    let d := s.draw 3
    { d.2 with peri := d.2.peri.readRows d.1 }

/-- A diffusion pass begins, with the constants of its tick (R249). -/
def State.startPass (e : EphPeri) (tick : Nat) (s : State) : State :=
  let flat := diffuse e.alpha e.biasComp s.peri.base s.peri.base s.peri.base s.peri.base s.peri.base
  let q : DiffPass :=
    { tick := tick, started := s.ix, alpha := e.alpha, bias := e.biasComp, newBase := flat.1 }
  { s with peri := { s.peri with pass := some q } }

/-- DIFFUSION_TICK (R249, R252). -/
def execDiffusionTick (s : State) : Host.Outcome State Fault Refusal :=
  .next (match s.peri? with
    | none => s
    | some e =>
      if s.tickAt 4096 = false ∨ s.power.core = false ∨ s.peri.pass.isSome then s
      else if s.peri.transition then { s with peri := { s.peri with tickWaits := some s.ix } }
      else s.startPass e s.ix)

/-- The cells of a rectangle, rows in order. -/
def PeriRect.cells (r : PeriRect) : List Nat :=
  (List.range r.h).flatMap fun j => (List.range r.w).map fun i => 2048 * (r.cy + j) + r.cx + i

/-- A load's cells take their values. -/
def Peri.loadCells (l : PeriLoad) (p : Peri) : Peri :=
  (l.rect.cells.zip l.cells).foldl (fun p c => p.set c.1 c.2) p

/-- A pending load that is not deferred, and pending reads, are served between two passes (R254). -/
def State.servePass (tick : Nat) (s : State) : State :=
  let s := match s.peri.load with
    | some l =>
      if l.deferred then s
      else
        let s := { s with peri := { s.peri.loadCells l with load := none } }
        s.finishId l.flight 0 (BitVec.ofNat 64 tick) 0 false []
    | none => s
  let rs := s.peri.reads
  let s := { s with peri := { s.peri with reads := [] } }
  rs.foldl (fun s r =>
    s.finishId r.1 0 (BitVec.ofNat 64 tick) 0 false
      (r.2.cells.flatMap fun i => leBytes 2 (s.peri.cell i))) s

/-- DIFFUSION_PASS_END (R252): reads see the grid as the pass left it, before a load. -/
def execDiffusionPassEnd (s : State) : Host.Outcome State Fault Refusal :=
  match s.peri.pass with
  | none => .next s
  | some q =>
    if q.suspended then .next s
    else
      let p := s.peri.readRows 2048
      match p.pass with
      | none => .next s
      | some q =>
        let w := p.writeRow 2047 (some q.prev2) q.prev1 none q
        let p := { w.1 with
          base := q.newBase, cells := w.2.done, pass := none, steps := stat w.1.steps 1
          passMax := Counter.max (s.ix - q.started) w.1.passMax }
        .next (({ s with peri := p }).servePass q.tick)

/-! ## The layer transition (R251, R252) -/

/-- T' of a transition. -/
def EphPeri.fade (e : EphPeri) (t : Nat) : Nat :=
  if t ≤ e.under then e.under else e.under + ((t - e.under) * e.decay + 0x8000) / 65536

/-- A sparse table with every value mapped. -/
def fadeCells (f : Nat → Nat) (base : Nat) (cells : List (Nat × Nat)) : List (Nat × Nat) :=
  (cells.map fun c => (c.1, f c.2)).filter fun c => c.2 != f base

/-- The transition of a suspended diffusion pass: the rows that it has written fade as they are stored, and those to
come diffuse from their faded values (R252). -/
def DiffPass.fade (f : Nat → Nat) (base : Nat) (q : DiffPass) : DiffPass :=
  let b := f base
  let nb := (diffuse q.alpha q.bias b b b b b).1
  { q with
    suspended := true, newBase := nb
    done := if f q.newBase = nb then fadeCells f q.newBase q.done
      else (List.range (2048 * (q.rowsRead - 1))).filterMap fun i =>
        let v := f (sget q.newBase q.done i)
        if v = nb then none else some (i, v)
    prev1 := fadeCells f base q.prev1, prev2 := fadeCells f base q.prev2 }

/-- A load's cells take their values at once, also for a pass that has read a row and not yet written it. -/
def Peri.loadNow (l : PeriLoad) (p : Peri) : Peri :=
  let p := { p.loadCells l with load := none }
  { p with pass := p.pass.map fun q =>
      let row := q.rowsRead - 1
      let now := (l.rect.cells.zip l.cells).filter fun c => c.1 / 2048 == row
      { q with prev1 := now.foldl (fun t c => sset p.base t (c.1 % 2048) c.2) q.prev1 } }

/-- A deferred load whose build is over takes effect with DATA_STATE 1 (R118, R254). -/
def State.loadAtEnd (s : State) : State :=
  match s.peri.load with
  | some l => if l.deferred ∧ s.peri?.isSome then { s with peri := s.peri.loadNow l } else s
  | none => s

/-- The transition pass of step 3 starts: a running diffusion pass is suspended with the rows it has
read, and a deferred load takes its cells. -/
def State.startTransition (s : State) : State :=
  match s.peri? with
  | none => s
  | some e =>
    let f := e.fade
    let p := s.peri
    let p := { p with
      transition := true, base := f p.base, cells := fadeCells f p.base p.cells, pass := p.pass.map (DiffPass.fade f p.base) }
    let p := match p.load with
      | some l => if l.deferred && s.mayApply l.atEnd then p.loadNow l else p
      | none => p
    { s with peri := p }

/-- TRANSITION_PASS_END (R252): a suspended pass resumes, and a tick that fell during the transition
starts its pass. -/
def execTransitionPassEnd (s : State) : Host.Outcome State Fault Refusal :=
  if s.peri.transition = false then .next s
  else
    let p := s.peri
    let len := s.ix - (s.job.stepEnd - 2000)
    let p := { p with
      transition := false, tickWaits := none, passMax := Counter.max len p.passMax
      pass := p.pass.map fun q => { q with suspended := false } }
    let t := { s with peri := p }
    .next (match s.peri.tickWaits, s.peri? with
      | some k, some e => if p.pass.isNone then t.startPass e k else t
      | _, _ => t)

/-! ## Lookups (R253) -/

/-- The factor of a curve at temperature `t`. -/
def curveAt (c : List (Nat × Nat)) (t : Nat) : Nat :=
  match c.head?, c.getLast? with
  | some a, some z =>
    if t ≤ a.1 then a.2
    else if z.1 ≤ t then z.2
    else match (c.zip (c.drop 1)).find? fun p => decide (p.1.1 ≤ t) && decide (t < p.2.1) with
      | some (p, q) =>
        ((p.2 : Int) + roundHalfAway ((((q.2 : Int) - p.2) * ((t : Int) - p.1) : Int) / ((q.1 - p.1 : Nat) : Rat))).toNat
      | none => z.2
  | _, _ => 0x8000

/-- The command position of record `k`, and the curve of its word's atlas entry. -/
def State.spotAt (s : State) (k n : Nat) : (Int × Int) × Nat :=
  let e := s.engine n
  ((e.cur.elim e.pos (·.pos k)).round,
    (s.recSrc k n).word.elim (sget {} s.job.atlas e.sr.atlas).curve (·.entry.curve))

/-- A channel's lookup of sample `k`, published as source type 7. `under` marks a cell whose read
failed (R389 region 5). -/
def State.lookup (k n : Nat) (s : State) : State :=
  match s.peri? with
  | none => s
  | some e =>
    let sp := s.spotAt k n
    let t := s.peri.cell (e.cellOf sp.1.1 sp.1.2)
    let f := (e.curves[sp.2]?).elim 0x8000 fun c => curveAt c t
    ({ s with peri := { s.peri with look := sset (0, 0) s.peri.look n (t, f) } }).source 7 n [(0, t), (1, f)]

/-! ## Grid commands (R254) -/

/-- The checks that both grid commands share. -/
def Entry.periChecks (e : Entry) : List (Bool × Bad) :=
  let cx := e.u 0x18 2
  let cy := e.u 0x1A 2
  let w := e.u 0x1C 2
  let h := e.u 0x1E 2
  [(w = 0 || decide (2048 < w), { code := 0x0204, ofs := 0x1C }),
   (h = 0 || decide (2048 < h), { code := 0x0204, ofs := 0x1E }),
   e.zeroFrom 0x20 32,
   (decide (2048 < cx + w), { code := 0x0208, ofs := 0x18 }),
   (decide (2048 < cy + h), { code := 0x0208, ofs := 0x1A })]

/-- The rectangle of a grid command. -/
def Entry.periRect (e : Entry) : PeriRect :=
  { cx := e.u 0x18 2, cy := e.u 0x1A 2, w := e.u 0x1C 2, h := e.u 0x1E 2 }

/-- PARAM_PERI_READ. -/
def execParamPeriRead (e : Entry) (s : State) : Host.Outcome State Fault Refusal :=
  s.command 0x0301 e fun f s =>
    let len := 2 * e.u 0x1C 2 * e.u 0x1E 2
    let bad := if e.inline then decide (1344 < len) else e.bufLen.toNat != len
    s.checked f (e.periChecks ++ [(bad, { code := 0x0206, ofs := 0x10 }), (s.peri?.isNone, { code := 0x0208 })]) fun s =>
      let s := s.fspUp.launch f
      { s with peri := { s.peri with reads := s.peri.reads ++ [(f.id, e.periRect)] } }

/-- PARAM_PERI_LOAD. -/
def execParamPeriLoad (e : Entry) (s : State) : Host.Outcome State Fault Refusal :=
  s.command 0x0341 e fun f s =>
    let len := 2 * e.u 0x1C 2 * e.u 0x1E 2
    let bad := e.dataLen != len || (e.inline && decide (1344 < len))
    s.checked f (e.periChecks ++ [(bad, { code := 0x0206, ofs := 0x10 }),
        (s.peri?.isNone, { code := 0x0208 }), (s.peri.load.isSome, { code := 0x040A })]) fun s =>
      let r := e.periRect
      let cells := (List.range (r.w * r.h)).map fun i => e.d (2 * i) 2
      let now := s.planes.data == .idle
      let l : PeriLoad := { flight := f.id, rect := r, cells := cells, deferred := !now, atEnd := s.finalNow }
      let s := { s with peri := { s.peri with load := some l } }
      if now then s.launch f else s.finish f 0x0A00 (s.firstLayer 3) 0 false []

end Sys2Proof.Machine
end

