-- ==== Sys2Proof/Machine/Display.lean ====
section
/-!
DEFINITION. The display output (R411–R422): bring-up, frames and what they show, the aperture, and what
adoption and Umbra do.
-/

namespace Sys2Proof.Machine

/-- The DISPLAY section, when it sets ENABLE. -/
def State.display? (s : State) : Option EphDisplay := (s.eph.eph.bind (·.display)).filter (·.enable)

/-- The display changed. -/
def State.modDisp (f : Display → Display) (s : State) : State := { s with disp := f s.disp }

/-! ## The link (R412) -/

/-- No video. -/
def Display.stopVideo (d : Display) : Display :=
  { d with video := false, running := false, edgeWaits := false, static_ := false, syncOver := false, quiet := 0 }

/-- Machine time in ns. -/
def State.ns (s : State) : Nat := s.time.t / 65536

/-- The wait for HPD begins. -/
def Display.awaits (ns : Nat) (d : Display) : Display := { d.stopVideo with link := .awaitHpd, waitFrom := ns }

/-- Bring-up from DISP_VDD_EN. -/
def Display.bringUp (ns : Nat) (d : Display) : Display :=
  { d.awaits ns with vdd := true, backlight := false, asyncOk := false }

/-- Bring-up fails. -/
def State.dispFail (s : State) : State :=
  (s.modDisp fun d => { d.stopVideo with link := .failed, trainFail := d.trainFail.inc }).record 0x00C0 .control []

/-- HPD_ASSERT: the panel's LANES, LINK and Adaptive-Sync as DPCD gives them. -/
def execHpdAssert (lanes link : Nat) (adaptive : Bool) (s : State) : Host.Outcome State Fault Refusal :=
  .next (match s.display? with
    | none => s
    | some e =>
      if s.disp.link ≠ .awaitHpd then s
      else if lanes < e.lanes ∨ link < e.link then s.dispFail
      else s.modDisp fun d => { d with link := .training, asyncOk := adaptive })

/-- LINK_TRAINING_DONE. -/
def execLinkTrainingDone (ok : Bool) (s : State) : Host.Outcome State Fault Refusal :=
  .next (if s.disp.link ≠ .training then s
  else if ok then s.modDisp fun d => { d with link := .active, frameAt := s.ns }
  else s.dispFail)

/-- HPD_IRQ. -/
def execHpdIrq (lockLost : Bool) (s : State) : Host.Outcome State Fault Refusal :=
  .next (if s.disp.link = .active ∧ lockLost then s.modDisp fun d => { d.stopVideo with link := .training } else s)

/-- HPD_LOSS. -/
def execHpdLoss (s : State) : Host.Outcome State Fault Refusal :=
  .next (if s.disp.link = .training ∨ s.disp.link = .active ∨ s.disp.link = .failed then
    s.modDisp (Display.awaits s.ns)
  else s)

/-- HPD_WAIT_TIMEOUT: 200 ms, seen at a sample boundary. -/
def execHpdWaitTimeout (s : State) : Host.Outcome State Fault Refusal :=
  .next (if s.disp.link = .awaitHpd ∧ s.disp.waitFrom + 200000000 ≤ s.ns + 250 then s.dispFail else s)

/-! ## What the panel shows (R413, R416, R420) -/

/-- The size of the picture in bytes (R413). -/
def EphDisplay.bytes (e : EphDisplay) : Nat := e.width * e.height * (if e.format = 0 then 3 else 1)

/-- The palette entry `i` in force. -/
def DispRegs.colour (r : DispRegs) (i : Nat) : Nat := sget 0 r.palette i

/-- The pixel (x, r) of the thermal view (R416). -/
def State.thermalPixel (s : State) (x r : Nat) : Nat :=
  let l := s.disp.live
  let cx : Int := l.cx + x / l.zoom
  let cy : Int := (l.cy : Int) - ((r / l.zoom : Nat) : Int)
  if s.peri?.isNone ∨ cx < 0 ∨ 2047 < cx ∨ cy < 0 ∨ 2047 < cy then s.disp.background
  else
    let t : Int := (s.peri.cell (2048 * cy.toNat + cx.toNat) : Nat)
    l.colour (clampInt 0 255 ((t - (l.tBase : Int)) / ((2 ^ l.tShift : Nat) : Int))).toNat

/-- The pixel (x, r) of the picture in the frame buffer (R413); one with a byte in a lost word shows BACKGROUND
(R389). -/
def State.picturePixel (s : State) (e : EphDisplay) (x r : Nat) : Nat :=
  let l := s.disp.live
  let n := if e.format = 0 then 3 else 1
  let o := l.base * 4096 + (r * e.width + x) * n
  if s.disp.lost.any fun w => decide (w < o + n) && decide (o < w + 8) then s.disp.background
  else if e.format = 0 then beNat (sread 0 s.disp.buffer o 3) else l.colour (sget 0 s.disp.buffer o).toNat

/-- LANES × LINK × 0.8 in bit/s. -/
def EphDisplay.capacity (e : EphDisplay) : Nat := e.lanes * linkMbit e.link * 800000

/-- The link cannot carry the frame at the measured interval (R420). -/
def State.underrun (s : State) (e : EphDisplay) : Bool :=
  s.disp.period != 0 &&
    decide (e.capacity * s.disp.period.toNat < (e.width + e.hblank) * (e.height + e.vblank) * 24 * 1000000000)

/-- The pixels that an underrunning line takes from the picture (R420). -/
def State.underrunPixels (s : State) (e : EphDisplay) : Nat :=
  e.capacity * s.disp.period.toNat / ((e.height + e.vblank) * 24 * 1000000000) - e.hblank

/-- The pixel (x, r) on the panel, as R, G, B from bit 23 down. -/
def State.panelPixel (s : State) (e : EphDisplay) (x r : Nat) : Nat :=
  if s.underrun e ∧ s.underrunPixels e ≤ x then s.disp.background
  else if s.disp.live.source then s.thermalPixel x r
  else s.picturePixel e x r

/-- What a frame shows: its rows of pixels. A frame is taken whole at the end of its active area (log entry 65). -/
def State.panelRows (s : State) (e : EphDisplay) : List (List Nat) :=
  (List.range e.height).map fun r => (List.range e.width).map fun x => s.panelPixel e x r

/-! ## Frames (R415, R417–R420) -/

/-- The clean frames that have passed, once the one on the output has (R419). -/
def Display.passed (d : Display) : Nat := if d.applied || d.touched then 0 else d.quiet + 1

/-- May the refresh be lowered (R419)? -/
def Display.maySlow (d : Display) : Bool := !d.live.source && decide (1 < d.live.staticDiv) && d.asyncOk

/-- A frame starts at `ns`: adopted values that wait are applied, then shadows. -/
def Display.startFrame (ns : Nat) (d : Display) : Display :=
  let applied := d.commit
  let d := match d.bgNext with
    | some (sd, bg) => { d with live := { d.live with staticDiv := sd }, background := bg, bgNext := none }
    | none => d
  let d := if applied then { d with live := d.shadow, commit := false } else d
  { d with
    frame := d.frame + 1, frameAt := ns, running := true, video := true, quiet := d.passed, applied := applied
    touched := false, edges := 0, lost := [], static_ := d.static_ && !applied && !d.touched && d.maySlow }

/-- An accepted edge: with the refresh lowered, only every d-th sends a frame, unless the picture has
changed. It is lowered once two clean frames have passed (R419). -/
def Display.edgeFrame (ns : Nat) (d : Display) : Display :=
  let n := d.edges + 1
  let low := d.static_ || (!d.running && decide (2 ≤ d.passed))
  if low && d.maySlow && !d.commit && !d.touched && decide (n < d.live.staticDiv) then
    { d with edges := n, static_ := true }
  else if d.running then { d with edgeWaits := true }
  else d.startFrame ns

/-- 75 Hz and 50 ms, in ns (R417, R418). -/
def syncMin : Nat := 13333000
def syncMax : Nat := 50000000

/-- DISP_SYNC_EDGE: a rising edge at machine time `ns`. -/
def execDispSyncEdge (ns : Nat) (s : State) : Host.Outcome State Fault Refusal :=
  .next (if s.display?.isNone ∨ !s.power.core then s
  else if s.disp.lastEdge.any fun l => decide (ns < l + syncMin) then
    s.modDisp fun d => { d with syncMiss := d.syncMiss.inc }
  else s.modDisp fun d =>
    let d := { d with
      period := d.lastEdge.elim d.period fun l => BitVec.ofNat 32 (ns - l)
      lastEdge := some ns, syncLost := false }
    if d.link = .active then d.edgeFrame ns else d)

/-- SYNC_TIMEOUT: 50 ms after a frame start without an accepted edge (edges that a lowered refresh passes
over count, R419), and then at SYNC_HZ. A frame whose active area has not ended ends first (log entry 66). -/
def execSyncTimeout (ns : Nat) (s : State) : Host.Outcome State Fault Refusal :=
  .next (match s.display? with
    | none => s
    | some e =>
      let d := s.disp
      let wait := if d.syncLost then 1000000000 / e.syncHz else syncMax
      if d.link ≠ .active ∨ d.running ∨ ns < d.frameAt + wait then s
      else if !d.syncLost && d.lastEdge.any fun l => decide (ns < l + syncMax) then s
      else
        let d := if d.syncLost then d else { d with syncLost := true, syncMiss := d.syncMiss.inc }
        { s with disp := d.startFrame ns })

/-- ACTIVE_AREA_END: lines that underran are counted (R420); a frame that an edge waits for starts late
(R417). The first frame turns the backlight on (R412). -/
def execActiveAreaEnd (ns : Nat) (s : State) : Host.Outcome State Fault Refusal :=
  .next (match s.display? with
    | none => s
    | some e =>
      if !s.disp.running then s
      else
        let under := s.underrun e
        (s.send (.panel s.disp.frame (s.panelRows e))).modDisp fun d =>
          let d := { d with
            running := false, backlight := true, syncOver := under
            underrun := if under then d.underrun.add e.height else d.underrun }
          if d.edgeWaits then { d.startFrame ns with edgeWaits := false, slip := d.slip.inc } else d)

/-! ## The aperture (R414) -/

/-- The offset in the frame buffer of an aperture access. -/
def State.apertureOfs (s : State) (addr : Nat) : Nat := s.disp.window * 4096 + (addr - 0x40000)

/-- A word read through the aperture. -/
def State.apertureRead (s : State) (addr : Nat) : W32 :=
  BitVec.ofNat 32 (leNat (sread 0 s.disp.buffer (s.apertureOfs addr) 4))

/-- A word written through the aperture; a write into the displayed picture ends static refresh. -/
def State.apertureStore (addr : Nat) (w : W32) (s : State) : State :=
  let o := s.apertureOfs addr
  let b := s.disp.live.base * 4096
  let hit := s.display?.any fun e => decide (b < o + 4) && decide (o < b + e.bytes)
  s.modDisp fun d => { d with buffer := sbulk 0 d.buffer o (leBytes 4 w.toNat), touched := d.touched || hit }

/-! ## Register writes (R413, R415, R422) -/

/-- A BASE that R413 rejects. -/
def State.baseBad (s : State) (base : Nat) : Bool :=
  decide (7340032 < base * 4096 + (s.eph.eph.bind (·.display)).elim 0 (·.bytes))

/-- A write of DISP_COMMIT. -/
def State.dispCommitWrite (w : W32) (s : State) : State :=
  let s := if bitOf w 0 then s.modDisp fun d => { d with commit := true } else s
  if bitOf w 1 then s.modDisp (Display.bringUp s.ns) else s

/-- Display counters cleared (R422). -/
def Display.clearCounters (d : Display) : Display := { d with underrun := {}, slip := {}, syncMiss := {}, trainFail := {} }

/-! ## Adoption and Umbra (R421) -/

/-- The display at an adoption; `old` is the section that was in force. -/
def State.adoptDisplay (old : Option EphDisplay) (s : State) : State :=
  match s.eph.eph.bind (·.display) with
  | none => if old.isSome then s.modDisp fun d => { d.stopVideo with link := .off, vdd := false, backlight := false, buffer := [] } else s
  | some e =>
    if old = some e then s else
    let same := old.any fun o => { o with staticDiv := e.staticDiv, background := e.background } == e
    if same then s.modDisp fun d => { d with
      bgNext := some (e.staticDiv, e.background), shadow := { d.shadow with staticDiv := e.staticDiv } }
    else s.modDisp fun d =>
      let d := { d.stopVideo with
        link := .off, vdd := false, backlight := false, buffer := [], background := e.background, bgNext := none
        live := { d.live with staticDiv := e.staticDiv }, shadow := { d.shadow with staticDiv := e.staticDiv } }
      if e.enable then d.bringUp s.ns else d

/-- The display at the start of Umbra entry. -/
def State.umbraDisplay (s : State) : State :=
  s.modDisp fun d => { d.stopVideo with link := .off, vdd := false, backlight := false }

/-- The display after Umbra or a core-die power-up: registers at their Reset values, the frame buffer
zero, and bring-up if the section in force sets ENABLE. -/
def State.restartDisplay (s : State) : State :=
  let d : Display := match s.eph.eph.bind (·.display) with
    | none => {}
    | some e => { background := e.background, live := { staticDiv := e.staticDiv }, shadow := { staticDiv := e.staticDiv } }
  { s with disp := if s.display?.isSome then d.bringUp s.ns else d }

end Sys2Proof.Machine
end

