-- ==== Sys2Proof/Machine/Tide.lean ====
section
/-!
DEFINITION. The Tide engine (ch. 09): updates, sets, captures and the LOOP commands.
-/

namespace Sys2Proof.Machine

/-- A declared loop. -/
def State.loop? (s : State) (slot : Nat) : Option TideLoop := s.tide.loops.find? fun l => l.entry.slot == slot

/-- One loop changed. -/
def State.modLoop (slot : Nat) (f : TideLoop → TideLoop) (s : State) : State :=
  { s with tide := { s.tide with loops := s.tide.loops.map fun l => if l.entry.slot = slot then f l else l } }

/-- The head of a power loop's laser. -/
def State.loopHead? (s : State) (l : TideLoop) : Option Nat :=
  s.eph.eph.bind fun e => (e.lasers.find? fun x => x.laser == l.entry.target).map (·.head)

/-- A coefficient set; one that nothing fills is empty (R265). -/
def State.coefSet (s : State) (n : Nat) : CoefSet := sget {} s.tide.sets n

/-- A loop that starts afresh (R272). -/
def freshLoop (sets : List (Nat × CoefSet)) (e : EphLoop) : TideLoop :=
  let y : Int := if e.kind = 1 then 65536 else 0
  { entry := e, modeReq := if e.startAuto then some true else none, y := y, man := y, out := y
    setSel := e.defaultSet, set := e.defaultSet, chosen := e.defaultSet
    vals := sget {} sets e.defaultSet }

/-- The atlas entry of the word that engine `n`'s record for sample `j` belongs to (R266): in a sample with the gate
high it is the stroke's. -/
def State.wordEntry? (s : State) (n j : Nat) : Option AtlasEntry :=
  let e := s.engine n
  let ms := e.cur.toList ++ if e.held.isSome then [] else s.planAfter n (s.ix + 1)
  let lit (m : Motion) : Bool := m.exposure.any fun x => decide (x.1 ≤ j ∧ j ≤ x.2)
  match ms.find? lit <|> (ms.filter fun m => decide (m.t0 ≤ j)).getLast? with
  | some m => (m.words[if lit m then m.strokeWord j else m.wordAt j]?).map (·.entry)
  | none => if e.sr.hasWord then some (sget {} s.job.atlas e.sr.atlas) else none

/-! ## Captures (R277–R279) -/

/-- The next state of the PRBS-15 register: x^15 + x^14 + 1. -/
def prbs15 (r : Nat) : Nat := (r * 2 + ((r / 16384 + r / 8192) % 2)) % 32768

/-- The injected value of an update (R279). -/
def CapUnit.value (c : CapUnit) : Int :=
  if c.injecting = false then 0
  else match c.cfg.wave with
    | 1 => c.cfg.amp
    | 2 => if c.injN / c.cfg.half % 2 = 0 then c.cfg.amp else -c.cfg.amp
    | 3 => if 16384 ≤ c.lfsr then c.cfg.amp else -c.cfg.amp
    | _ => 0

/-- The unit after the injection of one update. -/
def CapUnit.pass (c : CapUnit) : CapUnit :=
  if c.injecting = false then c
  else
    let n := c.injN + 1
    { c with injN := n, lfsr := if c.cfg.wave = 3 ∧ n % c.cfg.half = 0 then prbs15 c.lfsr else c.lfsr }

/-- What an update hands to a capture. -/
structure CapRow where
  loop : TideLoop
  vals : TideVals
  inj : Int
  f : Int

/-- The state word (R277). -/
def CapRow.stateWord (r : CapRow) : W32 :=
  packWord [(r.loop.set, 8), (b1 r.loop.satAtSwap, 4), (b1 (r.loop.auto || r.vals.trip), 3),
    (b1 r.vals.frozen, 2), (b1 r.loop.slewing, 1), (b1 r.loop.sat, 0)]

/-- One signal of a row. -/
def CapRow.signal (r : CapRow) (k : Nat) : W32 :=
  match k with
  | 0 => BitVec.ofInt 32 r.loop.sp
  | 1 => BitVec.ofInt 32 r.loop.pv
  | 2 => BitVec.ofInt 32 r.vals.e
  | 3 => BitVec.ofInt 32 r.loop.y
  | 4 => BitVec.ofInt 32 (sat32 r.loop.i)
  | 5 => BitVec.ofInt 32 r.vals.p
  | 6 => BitVec.ofInt 32 r.vals.d
  | 7 => BitVec.ofInt 32 r.inj
  | 8 => BitVec.ofInt 32 r.f
  | _ => r.stateWord

/-- The trigger of an armed capture is met by an update in sample `ix` (R277). -/
def CapUnit.met (ix : Nat) (r : CapRow) (c : CapUnit) : Bool :=
  match c.cfg.trigger with
  | 0 => true
  | 1 => decide (0 ≤ seqDiff 32 ix c.cfg.trigArg.toNat)
  | 2 => decide (signedOf 32 c.cfg.trigArg.toNat < absI r.vals.e)
  | _ => r.vals.swap

/-- A capture unit records an update (R278): the update that triggers is recorded, and injection starts
with the update after it. -/
def CapUnit.record (ix : Nat) (r : CapRow) (c0 : CapUnit) : CapUnit :=
  let c := c0.pass
  if c.state ≠ 1 ∧ c.state ≠ 2 then c
  else
    let hit := c.state == 1 && c.met ix r
    let c := if hit then { c with state := 2, trigIx := BitVec.ofNat 32 ix, skip := 0, injecting := c.cfg.wave != 0 }
      else c
    if c.skip ≠ 0 then { c with skip := c.skip - 1 }
    else
      let rows := c.rows ++ [c.cfg.signals.map r.signal]
      let gone := if c.state = 1 then rows.length - c.cfg.pre else 0
      let rows := rows.drop gone
      let full := c.state == 2 && decide (c.cfg.rows ≤ rows.length)
      { c with rows := rows, skip := c.cfg.decim - 1, state := if full then 3 else c.state
               bad := (c.bad.filter fun b => decide (gone ≤ b.1)).map fun b => (b.1 - gone, b.2)
               injecting := c.injecting && !full }

/-- A unit injects into a loop at a point (R279). -/
def Tide.injecting (slot point : Nat) (t : Tide) : Bool :=
  t.caps.toList.any fun u => u.any fun c => c.cfg.slot == slot && c.cfg.point == point && c.injecting

/-- The injection into a loop at a point: 0 setpoint, 1 output. -/
def Tide.injected (slot point : Nat) (t : Tide) : Int :=
  ((t.caps.toList.filterMap id).map fun c =>
    if c.cfg.slot = slot ∧ c.cfg.point = point then c.value else 0).sum

/-! ## The update (R260–R274) -/

/-- Step 2 of R263: the choice `c` of an update and the set that it puts in force, and whether the choice has
just become an empty set (R265–R267; log entry 43). -/
def chooseSet (sets : List (Nat × CoefSet)) (c : Nat) (l : TideLoop) : TideLoop × Bool :=
  let none? := (sget {} sets c).isEmpty
  let n := if none? then l.set else c
  let v := if (sget {} sets n).isEmpty then l.vals else sget {} sets n
  ({ l with chosen := c, setEmpty := l.setEmpty || none?, set := n, vals := v
            setChanged := l.setChanged || n != l.set || v != l.vals }, none? && c != l.chosen)

/-- TIDE_UPDATE: the update of the period that ended with the last sample but one. -/
def execTideUpdate (slot : Nat) (s : State) : Host.Outcome State Fault Refusal :=
  match s.loop? slot with
  | none => .next s
  | some l =>
    if s.tickAt l.entry.period = false ∨ s.ix = 0 then .next s
    else
      let power := l.entry.kind == 1
      let head := if power then s.loopHead? l else none
      let word := head.bind fun n => s.wordEntry? n (s.ix + 3)
      -- step 1: inputs; a measurement without a route is a free value
      let pv : (Int × Bool) × State := match s.sink? 1 slot 0 with
        | some v => (v, s)
        | none => let d := s.draw (2 ^ 32); ((signedOf 32 d.1, true), d.2)
      let s := pv.2
      let sp := match s.sink? 2 slot 0 with
        | some v => if v.2 then v.1 else l.sp
        | none => if power then word.elim l.sp (·.setpoint) else l.spReg
      let ff := match s.sink? 3 slot 0 with
        | some (y, true) => y
        | _ => 0
      let opened := head.any fun n => !(s.engine n).sr.loop
      let x : TideIn := { sp := sp + s.tide.injected slot 0, pv := pv.1.1, f := ff, valid := pv.1.2, opened := opened }
      -- step 2
      let ch := chooseSet s.tide.sets (if power then word.elim l.chosen (·.set) else l.setSel) l
      let c := ch.1.vals
      -- steps 3 to 5
      let r := tideUpdate c x ch.1
      let inj := s.tide.injected slot 1
      let out := if s.tide.injecting slot 1 then clampInt c.outMin c.outMax (r.1.y + inj) else r.1.y
      let l' := { r.1 with out := out, sp := sp }
      let row : CapRow := { loop := { l' with sp := x.sp }, vals := r.2, inj := s.tide.injected slot 0 + inj, f := ff }
      let caps := s.tide.caps.map fun u => u.map fun u => if u.cfg.slot = slot then u.record s.ix row else u
      let mine := s.tide.outs.filter fun o => o.1 == slot
      let outs := if power then
          (s.tide.outs.filter fun o => o.1 != slot) ++ (mine.drop (mine.length - 3)) ++ [(slot, (s.ix + 3, out))]
        else s.tide.outs
      let t := { s.tide with
        caps := caps, outs := outs, swap := s.tide.swap.add (b1 r.2.swap)
        satSwap := s.tide.satSwap.add (b1 r.2.satSwap), feTripCnt := s.tide.feTripCnt.add (b1 r.2.trip)
        setEmptyCnt := s.tide.setEmptyCnt.add (b1 ch.2) }
      let s := ({ s with tide := t }).modLoop slot fun _ => l'
      let s := match head with
        | some h => s.modEngine h fun e =>
          { e with loopSwaps := e.loopSwaps + b1 r.2.swap, loopTrips := e.loopTrips + b1 r.2.trip }
        | none => s
      .next (if r.2.trip then
        s.trigger (fun n => match head with
          | some h => n == h
          | none => true) 2 0x0B06
      else s)

/-- The duty of a heater output (R94, R258, R272, R274, R517): its loop's, a route's, or SAFE_DUTY; low with
the device held in reset or in Nadir mode, and SAFE_DUTY while the core die is off. -/
def State.heaterDuty (s : State) (h : Nat) : Nat :=
  match s.eph.eph.bind fun e => e.thermal.heaters[h]? with
  | none => 0
  | some x =>
    if x.enable = false ∨ !s.power.vin ∨ s.power.pinReset ∨ s.power.hotReset ∨ s.planes.mgmt = .nadir then 0
    else if !s.power.core then x.safeDuty
    else
      let held (y : Int) : Nat := (clampInt 0 x.dutyMax y).toNat
      match s.tide.loops.find? fun l => l.entry.kind == 3 && l.entry.target == h with
      | some l => if l.feTrip || !l.started then x.safeDuty else held l.out
      | none => match s.sink? 5 h 0 with
        | some (y, true) => held y
        | _ => x.safeDuty

/-! ## LOOP commands (R275–R280) -/

/-- TIDE_LOOP_STATUS of a loop (R281). -/
def TideLoop.status (l : TideLoop) : W32 :=
  packWord [(min l.feCount 0xFFFF, 16), (b1 l.setEmpty, 8), (b1 l.feTrip, 7), (b1 l.satAtSwap, 6),
    (b1 l.slewing, 5), (b1 l.sat, 4), (b1 l.measInvalid, 3), (b1 l.opened, 2), (1, 1), (b1 l.auto, 0)]

/-- LOOP_STATUS. -/
def execLoopStatus (e : Entry) (s : State) : Host.Outcome State Fault Refusal :=
  s.command 0x0500 e fun f s =>
    match s.loop? (e.u 0x18 1) with
    | none => s.reject f { code := 0x0208, ofs := 0x18 }
    | some l =>
      s.checked f [e.zeroFrom 0x19 39] fun s =>
        s.ok f (unsignedOf 32 l.y + l.status.toNat * 2 ^ 32) (unsignedOf 32 l.pv + unsignedOf 32 l.sp * 2 ^ 32) []

/-- The shared checks of the set commands. -/
def Entry.setChecks (e : Entry) (write : Bool) : List (Bool × Bad) :=
  let first := e.u 0x18 1
  let n := e.u 0x1A 2
  let most := if e.inline then 42 else 256
  [(n = 0 || decide (most < n), { code := 0x0206, ofs := 0x1A }), e.zeroFrom 0x19 1, e.zeroFrom 0x1C 36,
   (decide (256 < first + n), { code := 0x0208, ofs := 0x18 }),
   ((!e.inline || write) && e.dataLen != 32 * n, { code := 0x0206, ofs := 0x10 })]

/-- A coefficient set in the layout of R54. -/
def CoefSet.bytes (n : Nat) (c : CoefSet) : List Byte :=
  leBytes 4 n ++ [c.kp, c.ki, c.kd, c.kff, c.outMin, c.outMax, c.outSlew].flatMap fun v => leBytes 4 (unsignedOf 32 v)

/-- LOOP_SET_READ. -/
def execLoopSetRead (e : Entry) (s : State) : Host.Outcome State Fault Refusal :=
  s.command 0x0501 e fun f s =>
    s.checked f (e.setChecks false) fun s =>
      let first := e.u 0x18 1
      s.ok f 0 0 ((List.range (e.u 0x1A 2)).flatMap fun i => (s.coefSet (first + i)).bytes (first + i))

/-- The set at position `i` of the data. -/
def Entry.setAt (e : Entry) (i : Nat) : CoefSet :=
  let v (o : Nat) : Int := e.ds (32 * i + o) 4
  { kp := v 4, ki := v 8, kd := v 12, kff := v 16, outMin := v 20, outMax := v 24, outSlew := v 28 }

/-- LOOP_SET_WRITE (R276): the switch sample is not before that of an earlier one that waits (log entry 18). -/
def execLoopSetWrite (e : Entry) (s : State) : Host.Outcome State Fault Refusal :=
  s.command 0x0540 e fun f s =>
    let first := e.u 0x18 1
    let n := e.u 0x1A 2
    let checks := e.setChecks true ++ (List.range n).flatMap fun i =>
      [(e.d (32 * i) 1 != first + i, { code := 0x0204, ofs := 32 * i }),
       (e.d (32 * i + 1) 3 != 0, { code := 0x0204, ofs := 32 * i + 1 }),
       (decide (e.ds (32 * i + 28) 4 < 0), { code := 0x0204, ofs := 32 * i + 28 })]
    s.checked f checks fun s =>
      let d := s.drawIn 1 4
      let at_ := min (d.2.ix + 4) ((d.2.tide.setSwitches.map (·.at_)).foldl max (d.2.ix + d.1))
      let w : SetSwitch := { at_ := at_, first := first, sets := (List.range n).map e.setAt }
      let s := { d.2 with tide := { d.2.tide with setSwitches := d.2.tide.setSwitches ++ [w] } }
      s.ok f at_ 0 []

/-- The set that is chosen for a loop: its SET field, or on a power loop the choice of its last update (R266). -/
def TideLoop.choice (l : TideLoop) : Nat := if l.entry.kind = 1 then l.chosen else l.setSel

/-- SET_SWITCH (R276): the values of the oldest due write take effect. A choice that they empty counts (R265). -/
def execSetSwitch (s : State) : Host.Outcome State Fault Refusal :=
  match s.tide.setSwitches.find? fun w => decide (w.at_ ≤ s.ix + 1) with
  | none => .next s
  | some w =>
    let old := s.tide.sets
    let new := (w.sets.zipIdx w.first).foldl (fun t p => sset {} t p.2 p.1) old
    let emptied (l : TideLoop) : Bool := !(sget {} old l.choice).isEmpty && (sget {} new l.choice).isEmpty
    let loops := s.tide.loops.map fun l =>
      { l with setEmpty := l.setEmpty || emptied l, chosen := if emptied l then l.choice else l.chosen
               setChanged := l.setChanged || sget {} old l.set != sget {} new l.set }
    .next { s with tide := { s.tide with
      sets := new, setSwitches := s.tide.setSwitches.erase w, loops := loops
      setEmptyCnt := s.tide.setEmptyCnt.add (s.tide.loops.filter emptied).length } }

/-- The parameters of LOOP_CAPTURE_START. -/
def Entry.capCfg (e : Entry) : CapCfg :=
  { slot := e.u 0x18 1, trigger := e.u 0x19 1, wave := e.u 0x1A 1, point := e.u 0x1B 1
    signals := (List.range 4).map fun i => e.u (0x1C + i) 1
    rows := e.u 0x20 4, pre := e.u 0x24 4, decim := e.u 0x28 2, trigArg := BitVec.ofNat 32 (e.u 0x2C 4)
    amp := e.s 0x30 4, half := e.u 0x34 4 }

/-- LOOP_CAPTURE_START (R277). -/
def execLoopCaptureStart (e : Entry) (s : State) : Host.Outcome State Fault Refusal :=
  s.command 0x0543 e fun f s =>
    let c := e.capCfg
    let r (b : Bool) (o : Nat) : Bool × Bad := (b, { code := 0x0204, ofs := o })
    let halfBad := if c.wave < 2 then c.half != 0 else c.half = 0 || decide (65535 < c.half)
    let checks :=
      [((s.loop? c.slot).isNone, { code := 0x0208, ofs := 0x18 }),
       r (decide (3 < c.trigger)) 0x19, r (decide (3 < c.wave)) 0x1A, r (decide (1 < c.point)) 0x1B] ++
      (List.range 4).map (fun i => r (decide (9 < c.signals.getD i 0)) (0x1C + i)) ++
      [r (c.rows = 0 || decide (65536 < c.rows)) 0x20, r (decide (c.rows ≤ c.pre)) 0x24, r (c.decim = 0) 0x28,
       e.zeroFrom 0x2A 2, r ((c.trigger = 0 || c.trigger = 3) && c.trigArg != 0) 0x2C,
       r (c.wave = 0 && c.amp != 0) 0x30, r halfBad 0x34, e.zeroFrom 0x38 8]
    s.checked f checks fun s =>
      match (List.range 2).find? fun i => (nth none s.tide.caps i).isNone with
      | none => s.reject f { code := 0x0405 }
      | some i =>
        let s := { s with tide := { s.tide with caps := upd s.tide.caps i fun _ => some { cfg := c, state := 1 } } }
        s.ok f i 0 []

/-- LOOP_CAPTURE_STOP (R275). -/
def execLoopCaptureStop (e : Entry) (s : State) : Host.Outcome State Fault Refusal :=
  s.command 0x0544 e fun f s =>
    let i := e.u 0x18 1
    let flags := e.u 0x19 1
    s.checked f [((nth none s.tide.caps i).isNone, { code := 0x0208, ofs := 0x18 }),
        (decide (1 < flags), { code := 0x0205, ofs := 0x19 }), e.zeroFrom 0x1A 38] fun s =>
      let stop (u : Option CapUnit) : Option CapUnit :=
        if flags = 1 then none else u.map fun u => { u with state := 3, injecting := false }
      ({ s with tide := { s.tide with caps := upd s.tide.caps i stop } }).ok f 0 0 []

/-- LOOP_CAPTURE_READ (R280); a row with an uncorrectable word ends it with INTEGRITY (R388, R389 region 10). -/
def execLoopCaptureRead (e : Entry) (s : State) : Host.Outcome State Fault Refusal :=
  s.command 0x0502 e fun f s =>
    let cap := nth none s.tide.caps (e.u 0x18 1)
    let rows := cap.elim [] (·.rows)
    let first := e.u 0x1C 4
    let n := e.u 0x20 4
    let most := if e.inline then 84 else 65536
    s.checked f [(n = 0 || decide (most < n), { code := 0x0206, ofs := 0x20 }), e.zeroFrom 0x19 3, e.zeroFrom 0x24 28,
        (cap.isNone, { code := 0x0208, ofs := 0x18 }),
        (decide (rows.length < first + n), { code := 0x0208, ofs := 0x1C }),
        (!e.inline && e.bufLen.toNat != 16 * n, { code := 0x0206, ofs := 0x10 })] fun s =>
      match (cap.elim [] (·.bad)).find? fun b => decide (first ≤ b.1) && decide (b.1 < first + n) with
      | some b =>
        (s.noteSramUe { double := true, region := 10, offset := b.2, object := e.u 0x18 1 + 1 }).reject f { code := 0x070B }
      | none => s.ok f 0 0 (((rows.drop first).take n).flatMap fun r => r.flatMap fun w => leBytes 4 w.toNat)

end Sys2Proof.Machine
end

