-- ==== Sys2Proof/Machine/Rebase.lean ====
section
/-!
DEFINITION. SAMPLE_IX jumps (R375, R379): what the block holds by sample moves to the new count, so that nothing
catches up and nothing repeats. Compare fields stay as they were written (R375).
-/

namespace Sys2Proof.Machine

/-- A sample index moved. -/
def moved (d : Int) (k : Nat) : Nat := ((k : Int) + d).toNat

/-! ## Engines, cameras, Halo -/

/-- A motion moved by `d` samples; edges are in 250 ps. -/
def Motion.moved (d : Int) (m : Motion) : Motion :=
  let mv := Machine.moved d
  let edge (e : Int) : Int := e + 1000 * d
  { m with
    t0 := mv m.t0, fin := mv m.fin, cmdEnd := mv m.cmdEnd
    segs := m.segs.map fun g => { g with a := mv g.a, b := mv g.b }
    words := m.words.map fun w => { w with wa := mv w.wa, firstOut := mv w.firstOut, doneAt := mv w.doneAt }
    rise := m.rise.map edge, fall := m.fall.map edge, prevFall := m.prevFall.map edge }

/-- An engine moved by `d` samples. -/
def Engine.moved (d : Int) (e : Engine) : Engine :=
  let mv := Machine.moved d
  { e with
    cur := e.cur.map (Motion.moved d), recent := e.recent.map (Motion.moved d), commitAt := mv e.commitAt
    held := e.held.map fun h => { h with start := mv h.start }
    pend := e.pend.map fun h => { h with at_ := mv h.at_ }
    edges := e.edges.map fun x => (x.1 + 1000 * d, x.2), lastFall := e.lastFall.map (· + 1000 * d) }

/-- A camera frame moved by `d` samples. -/
def CamFrame.moved (d : Int) (f : CamFrame) : CamFrame :=
  let mv := Machine.moved d
  { f with
    trig := mv f.trig, winStart := mv f.winStart, winEnd := mv f.winEnd
    fs := if f.opened then mv f.fs else f.fs, fe := if f.closed then mv f.fe else f.fe }

/-- A sensor moved by `d` samples: its frames and windows. -/
def Sensor.moved (d : Int) (x : Sensor) : Sensor :=
  let mv := Machine.moved d
  { x with
    trigUntil := mv x.trigUntil, cur := x.cur.map (CamFrame.moved d), closing := x.closing.map (CamFrame.moved d)
    wins := x.wins.map fun w => { w with start := mv w.start, fin := mv w.fin } }

/-- A Halo channel moved by `d` samples; pulses are in counts of 25 ns. -/
def HaloCh.moved (d : Int) (h : HaloCh) : HaloCh :=
  let mv := Machine.moved d
  { h with
    strobeSince := h.strobeSince.map mv, wireSince := h.wireSince.map mv, lastStrobe := h.lastStrobe.map mv
    lastCheck := h.lastCheck.map mv, lastPass := h.lastPass.map mv
    pulses := h.pulses.map fun p => (Machine.moved (10 * d) p.1, Machine.moved (10 * d) p.2) }

/-! ## Axes -/

/-- The plan from boundary `t0` on, to stand from boundary `k` on. -/
def rebasePlan (t0 k : Nat) (plan : List AxPhase) : List AxPhase :=
  let now := (phaseAt plan t0).map fun f =>
    let e := f.eval t0
    ({ at_ := k, p := e.p, v := e.v, a := e.a, j := f.j } : AxPhase)
  now.toList ++ (plan.filter fun f => decide (t0 < f.at_)).map fun f => { f with at_ := f.at_ - t0 + k }

/-- An axis moved by `d` samples: its steps keep their instants in time, and its next tick stands at `k`. -/
def Axis.moved (d : Int) (k : Nat) (x : Axis) : Axis :=
  let t0 := nextTick x.pAt
  let ns := Machine.moved (250 * d)
  { x with
    plan := rebasePlan t0 k x.plan, pAt := k - tickLen, followFrom := x.followFrom - t0 + k
    due := x.due.map fun s => (ns s.1, s.2), lastRise := ns x.lastRise, edge0 := x.edge0.map ns }

/-- The display's instants, which are machine time in ns, after a step of `d` ns. -/
def Display.moved (d : Int) (x : Display) : Display :=
  let mv := Machine.moved d
  { x with lastEdge := x.lastEdge.map mv, frameAt := mv x.frameAt, waitFrom := mv x.waitFrom }

/-! ## The whole block -/

/-- SAMPLE_IX has gone from `o` to `n`, and the next tick of the axes is the first from sample `from_` on. -/
def State.rebase (o n from_ : Nat) (s : State) : State :=
  let d : Int := (n : Int) - (o : Int)
  let mv := moved d
  let k := (from_ + tickLen - 1) / tickLen * tickLen
  { s with
    engines := s.engines.map (Engine.moved d)
    axes := s.axes.map (Axis.moved d k)
    camera := { s.camera with sensors := s.camera.sensors.map (Sensor.moved d) }
    halo := { s.halo with ch := s.halo.ch.map (HaloCh.moved d) }
    eph := { s.eph with switches := s.eph.switches.map fun w => { w with at_ := mv w.at_ } }
    job := { s.job with atlasSwitches := s.job.atlasSwitches.map fun w => { w with at_ := mv w.at_ } }
    tide := { s.tide with
      setSwitches := s.tide.setSwitches.map fun w => { w with at_ := mv w.at_ }
      outs := s.tide.outs.map fun u => (u.1, (mv u.2.1, u.2.2)) }
    peri := { s.peri with pass := s.peri.pass.map fun p => { p with started := mv p.started } }
    tail := { s.tail with holdUntil := mv s.tail.holdUntil, busy := s.tail.busy.map fun b => (b.1, b.2.1, mv b.2.2) } }

end Sys2Proof.Machine
end

