-- ==== Sys2Proof/Machine/Time.lean ====
section
/-!
DEFINITION. Machine time, the servo and the Orbit ring (R362–R387): the time and servo operations that
the sample tick, adoptions and Umbra use, the ring's event rows and the TIME commands.
-/

namespace Sys2Proof.Machine

/-! ## The committed section -/

/-- RING_TIME in force. -/
def State.ringSect? (s : State) : Option EphRing := s.eph.eph.map (·.ring)

/-- MODE in force (R363). -/
def State.ringMode (s : State) : Nat := s.ringSect?.elim 0 (·.mode)

/-- Port `p` is one that the section uses (R363). -/
def State.ringPortUsed (s : State) (p : Nat) : Bool :=
  s.ringSect?.any fun r => decide (r.mode = 1) || (decide (r.mode = 2) && (if p = 0 then r.portA else r.portB && decide (p = 1)))

/-- Ring port `p`. -/
def State.ringPort (s : State) (p : Nat) : RingPort := nth {} s.time.ports p

/-- Ring port `p` changed. -/
def State.modRing (p : Nat) (f : RingPort → RingPort) (s : State) : State :=
  { s with time := { s.time with ports := upd s.time.ports p f } }

/-- Port `p` carries frames. -/
def State.ringUp (s : State) (p : Nat) : Bool :=
  s.power.core && s.ringPortUsed p && !(s.ringPort p).oos && (s.ringPort p).blockLock

/-- The device's own MAC (R62). -/
def State.ownMac (s : State) : Nat := s.ringSect?.elim 0 (·.mac)

/-- VLAN of the device's own frames (R368). -/
def State.ownVlan (s : State) : Nat := s.ringSect?.elim 0 (·.vlan)

/-- Time domain `d`: 0 A, 1 B. -/
def State.domain (s : State) (d : Nat) : PtpDomain := nth {} s.time.domains d

/-- A time domain changed. -/
def State.modDomain (d : Nat) (f : PtpDomain → PtpDomain) (s : State) : State :=
  { s with time := { s.time with domains := upd s.time.domains d f } }

/-- The domainNumber of domain `d`, if it is declared (R370). -/
def State.domainNo? (s : State) (d : Nat) : Option Nat :=
  s.ringSect?.bind fun r =>
    if r.mode = 0 then none
    else if d = 0 then some r.domainA
    else if d = 1 ∧ r.domainB ≠ 255 then some r.domainB
    else none

/-- The declared domain with a given domainNumber. -/
def State.domainOf? (s : State) (no : Nat) : Option Nat :=
  [0, 1].find? fun d => s.domainNo? d == some no

/-- The selected domain. -/
def State.selectedDomain (s : State) : Nat := b1 s.time.selected

/-- SWITCH_NS in 2^−16 ns. -/
def State.switchLimit (s : State) : Int := (s.ringSect?.elim 0 (·.switchNs) : Nat) * 65536

/-- Three Sync intervals in 2^−16 ns (R381). -/
def State.syncWindow (s : State) : Nat :=
  let l := (s.ringSect?.elim 0 (·.logSync) : Int)
  3 * 65536000000000 / 2 ^ (-l).toNat

/-! ## SAMPLE_IX (R26, R373–R375) -/

/-- 250 ns of machine time. -/
def sampleTime : Nat := 250 * 65536

/-- The epoch in 2^−16 ns; before any commit, machine time 0. -/
def State.epoch (s : State) : Nat :=
  s.ringSect?.elim 0 fun r => (r.epochS * 1000000000 + r.epochNs) * 65536

/-- SAMPLE_IX at machine time `t` (R373, R374). -/
def State.ixAt (s : State) (t : Nat) : Nat := (t - s.epoch) / sampleTime % 2 ^ 48

/-- SAMPLE_IX and PRE_EPOCH derived from machine time anew: after a step, an adoption, Umbra or a
core-die reset (R27, R373, R375, R379). -/
def State.deriveIx (s : State) : State :=
  { s with time := { s.time with ix := BitVec.ofNat 48 (s.ixAt s.time.t), preEpoch := decide (s.time.t < s.epoch) } }

/-- The next sample boundary after machine time `t`: samples start at the epoch plus multiples of 250 ns, before it
too, so that the first sample after a step may be short (R26, R373). -/
def State.nextStart (s : State) (t : Nat) : Nat :=
  t + (sampleTime - (((t : Int) - (s.epoch : Int)) % (sampleTime : Int)).toNat)

/-- EPOCH_AGE (R374). -/
def State.epochAge (s : State) : Bool := decide (2 ^ 48 - s.ix < 10368000000000)

/-! ## The servo (R376–R383) -/

/-- The total rate, clamped to ±110 ppm (R378), in 0.01 ppb. -/
def clampRate (r : Rat) : Rat := if r < -11000000 then -11000000 else if 11000000 < r then 11000000 else r

/-- The rate for the present state: F of the selected domain, and 10 ppm against a positive offset. In
FREE_RUN and HOLDOVER the last estimate runs on (R376). -/
def State.setRate (s : State) : State :=
  let t := s.time
  if t.state = .acquiring ∨ t.state = .locked then
    let slew : Rat := if t.phaseLeft = 0 then 0 else if 0 < t.phaseLeft then -1000000 else 1000000
    let f := (s.domain s.selectedDomain).freq
    { s with time := { t with rate := clampRate (f + slew), estimate := f } }
  else if t.state = .unset then { s with time := { t with rate := 0, phaseLeft := 0 } }
  else { s with time := { t with rate := clampRate t.estimate, phaseLeft := 0 } }

/-- The offset still to be slewed after one more sample: 2.5 ps closer to zero (R378). -/
def slewed (p : Rat) : Rat :=
  if 0 < p then (if p ≤ 1 / 400 then 0 else p - 1 / 400)
  else (if -1 / 400 ≤ p then 0 else p + 1 / 400)

/-- LOCKED from 8 Syncs within 100 ns on, ACQUIRING before (R376). -/
def PtpDomain.lockState (d : PtpDomain) : ServoState := if 8 ≤ d.near then .locked else .acquiring

/-- Machine time moved by `delta`: what was measured against the old course no longer counts. -/
def TimeState.shift (delta : Int) (t : TimeState) : TimeState :=
  let move (x : Nat) : Nat := ((x : Int) + delta).toNat
  { t with
    domains := t.domains.map fun d =>
      { d with prev := none, waiting := none, lastSync := d.lastSync.map move, announceAt := move d.announceAt }
    ports := t.ports.map fun p => { p with pdelay := { p.pdelay with t1 := none, resp := none } }
    dupTable := t.dupTable.map fun e => { e with at_ := move e.at_ }
    holdSince := move t.holdSince }

/-- SAMPLE_IX goes to the value that machine time gives, and all that is held by sample with it: `o` is the index
that would have stood here, and `step` says that a tick at the new one is passed over (R375, R379). -/
def State.moveIx (o : Nat) (step : Bool) (s : State) : State :=
  let s := s.deriveIx
  if s.ix = o then s else s.rebase o s.ix (s.ix + b1 step)

/-- A step or a TIME_SET takes effect (R379, R384). -/
def State.stepTime (new : Nat) (s : State) : State :=
  let old := s.nextStart s.time.t
  let o := if s.time.preEpoch then s.ix else s.ix + 1
  let d : Int := (new : Int) - (old : Int)
  let t := s.time.shift d
  let s := { s with disp := s.disp.moved (d / 65536), time := { t.setT new with
    setTo := none, phaseLeft := 0, landed := true, stepCnt := t.stepCnt.inc } }
  (s.moveIx o true).setRate.record 0x00A0 .data (timeBytes old ++ timeBytes new)

/-- A step to the domain's time at the next sample boundary (R379). -/
def State.planStep (o : Int) (s : State) : State :=
  { s with time := { s.time with setTo := some ((s.nextStart s.time.t : Nat) - o).toNat } }

/-- The offset of a domain in whole ns, as a record and a register give it. -/
def nsOf (o : Int) : Int := clampInt (-2147483648) 2147483647 (o / 65536)

/-- The servo enters HOLDOVER (R381). -/
def State.enterHoldover (s : State) : State :=
  let t := s.time
  let s := { s with time := { t with state := .holdover, phaseLeft := 0, holdSince := t.t, holdoverCnt := t.holdoverCnt.inc } }
  (s.record 0x00A3 .data []).setRate

/-- The servo selects domain `d` and slews its offset out (R381, R382). -/
def State.selectDomain (d : Nat) (s : State) : State :=
  let o := (s.domain d).offset
  let was := (s.domain s.selectedDomain).offset
  let t := s.time
  let s := { s with time := { t with
    selected := d == 1, state := (s.domain d).lockState, phaseLeft := (o : Rat) / 65536
    switchCnt := t.switchCnt.inc } }
  (s.record 0x00A2 .data (u32s [unsignedOf 32 (nsOf was), unsignedOf 32 (nsOf o)])).setRate

/-- A valid Sync of domain `d` has come within its last three intervals (R381). -/
def State.domainFresh (s : State) (d : Nat) : Bool :=
  (s.domainNo? d).isSome && (s.domain d).lastSync.any fun l => decide (s.time.t < l + s.syncWindow)

/-- The selected domain is lost (R381). -/
def State.loseSelected (s : State) : State :=
  if s.time.state ≠ .acquiring ∧ s.time.state ≠ .locked then s
  else
    let other := 1 - s.selectedDomain
    if s.domainFresh other ∧ ((s.domain other).offset.natAbs : Int) ≤ s.switchLimit then s.selectDomain other
    else s.enterHoldover

/-- The servo takes the new offset of the selected domain (R378–R380). -/
def State.steer (d : Nat) (s : State) : State :=
  let dom := s.domain d
  let size := (dom.offset.natAbs : Int)
  if s.planes.data = .idle then
    let s := { s with time := { s.time with state := dom.lockState, selected := d == 1 } }
    if 65536000 < size then s.planStep dom.offset |>.setRate
    else ({ s with time := { s.time with phaseLeft := (dom.offset : Rat) / 65536 } }).setRate
  else if s.switchLimit < size then
    (s.record 0x00A1 .data []).enterHoldover
  else ({ s with time := { s.time with
      state := dom.lockState, selected := d == 1, phaseLeft := (dom.offset : Rat) / 65536 } }).setRate

/-- What the servo does with a valid Sync of domain `d` (R376–R382). -/
def State.servoSync (d : Nat) (s : State) : State :=
  let dom := s.domain d
  let within := decide ((dom.offset.natAbs : Int) ≤ s.switchLimit)
  let preferred := s.ringSect?.elim 0 (·.preferred)
  match s.time.state with
  | .unset | .freeRun => if s.planes.data = .idle || within then s.steer d else s
  | .acquiring | .locked =>
    if d = s.selectedDomain then s.steer d
    else if d = preferred ∧ 16 ≤ dom.run ∧ within then s.selectDomain d
    else s
  | .holdover => if 16 ≤ dom.run ∧ within then s.selectDomain d else s

/-- A valid Sync measured (R377): `t1` the origin time with its corrections and the path delay, `t2`
the receipt. -/
def State.measure (d : Nat) (t1 t2 : Int) (s : State) : State :=
  let sum := s.time.rateSum
  let upd (x : PtpDomain) : PtpDomain :=
    let o := t2 - t1
    let f := match x.prev with
      | none => x.freq
      | some (p1, p2) =>
        if t2 ≤ p2 then x.freq
        else
          let span : Rat := ((t2 - p2 : Int) : Rat)
          let ran := (sum - x.prevSum) * (sampleTime : Rat) / span
          let meas := (((t1 - p1) - (t2 - p2) : Int) : Rat) / span * 100000000000 + ran
          x.freq + (meas - x.freq) / 16
    { x with
      offset := o, freq := f, prev := some (t1, t2), prevSum := sum, lastSync := some t2.toNat
      syncValid := true, waiting := none, run := min 0xFFFF (x.run + 1)
      near := if o.natAbs ≤ 6553600 then min 0xFFFF (x.near + 1) else 0 }
  (s.modDomain d upd).servoSync d

/-- The build has ended: a servo that steers to no domain takes the selected one, or else the other, if that is
valid, and steps to it where R379 has it step (R380, bench cell 4 of ch. 14). -/
def State.servoBuildEnd (s : State) : State :=
  if s.time.state = .acquiring ∨ s.time.state = .locked then s
  else match [s.selectedDomain, 1 - s.selectedDomain].find? s.domainFresh with
    | some d => s.steer d
    | none => s

/-- PTP_STATUS (R387). -/
def State.ptpStatusWord (s : State) : W32 :=
  packWord [(b1 s.epochAge, 9), (b1 s.time.preEpoch, 8), (b1 (s.time.phaseLeft != 0), 5),
    (b1 s.time.selected, 4), (s.time.state.num, 0)]

/-! ## The bypass (R369) -/

/-- Something releases ORB_BYP_HOLD. -/
def State.bypReleased (s : State) : Bool :=
  !s.power.vin || s.power.pinReset || s.power.hotReset || s.power.umbra != .awake || s.planes.mgmt == .nadir ||
    !(s.ringSect?.any fun r => decide (r.mode = 1) && r.bypass) || s.time.bypReq

/-- A release takes effect at once. -/
def State.bypCheck (s : State) : State :=
  if s.bypReleased then { s with time := { s.time with bypHold := false } } else s

/-- At a sample, the pin is driven high when nothing releases it and both ports have block lock. -/
def State.bypTick (s : State) : State :=
  if s.bypReleased then { s with time := { s.time with bypHold := false } }
  else if (s.ringPort 0).blockLock ∧ (s.ringPort 1).blockLock then
    { s with time := { s.time with bypHold := true } }
  else s

/-! ## One sample of machine time and of the ring -/

/-- Bits of a 10.3125 GBd lane in the sample `k`: 2,578.125 on the average (R385). -/
def prbsBitsIn (k : Nat) : Nat := (k + 1) * 20625 / 8 - k * 20625 / 8

/-- The ring ports over one sample: PRBS bits compared, queues drained by 2,500 bits of 10 Gbit/s. -/
def State.ringTick (s : State) : State :=
  let k := s.ix
  { s with time := { s.time with ports := s.time.ports.map fun p =>
      if p.oos then { p with prbsBits := stat p.prbsBits (prbsBitsIn k), queueBits := 0 }
      else { p with queueBits := p.queueBits - 2500 } } }

/-- Machine time at the next sample boundary (R26, R372, R373, R378): 250 ns after the last one, or where a step or
a TIME_SET puts it. SAMPLE_IX advances unless the epoch is still to come. -/
def State.timeTick (s : State) : State :=
  let t := s.time
  let next := s.nextStart t.t
  let s := { s with time := { t with
    phaseLeft := slewed t.phaseLeft
    rateSum := t.rateSum + t.rate * ((next - t.t : Nat) : Rat) / (sampleTime : Rat) } }
  let s : State := if t.phaseLeft ≠ 0 ∧ s.time.phaseLeft = 0 then s.setRate else s
  match t.setTo with
  | some v => s.stepTime v
  | none =>
    let ix := if s.time.preEpoch then s.time.ix else s.time.ix + 1
    { s with time := { s.time.setT next with ix := ix, landed := false } }

/-- EPOCH_REACHED (R373). -/
def execEpochReached (s : State) : Host.Outcome State Fault Refusal :=
  .next (if s.time.preEpoch && decide (s.epoch ≤ s.time.t) then s.deriveIx else s)

/-! ## Frames (R364–R368) -/

/-- The address of HSR supervision frames (R364). -/
def supervisionMac : Nat := 0x01154E000100

/-- Multicast or broadcast. -/
def groupMac (mac : Nat) : Bool := decide (mac / 2 ^ 40 % 2 = 1)

/-- 400 ms in 2^−16 ns. -/
def dupLife : Nat := 400000000 * 65536

/-- The live entries of the duplicate table (R366). -/
def State.dupLive (s : State) : List DupEntry :=
  s.time.dupTable.filter fun e => decide (s.time.t < e.at_ + dupLife)

/-- A frame noted in the duplicate table, the oldest entry replaced when it is full (R366). -/
def State.noteDup (e : DupEntry) (s : State) : State :=
  { s with time := { s.time with dupTable := (e :: s.dupLive).take 1024 } }

/-- The queue of a direction, in bits (R365). -/
def ringQueueBits : Nat := 16384 * 8

/-- A frame sent towards port `q`: at once, behind what waits, or dropped when the queue is full
(R365). The result says whether it was sent. -/
def State.ringSend (p : Nat) (bits : Nat) (o : Nat → Out) (s : State) : State :=
  let q := 1 - p
  if (s.ringPort q).oos then s
  else
    let b := (s.ringPort q).queueBits
    if b ≠ 0 ∧ ringQueueBits < b + bits then s.modRing p fun x => { x with drop := x.drop.inc }
    else (s.modRing q fun x => { x with queueBits := b + bits }).send (o q)

/-- A frame enters from the ring (R365, R366): whether it is forwarded, and whether it is delivered to the device
where the device consumes it. A frame seen before in its direction is neither, and is counted. -/
def State.ringEnter (port mac : Nat) (seq : W16) (s : State) : State × Bool × Bool :=
  if s.ringMode ≠ 1 then (s, false, true)
  else
    let hit := s.dupLive.filter fun e => e.mac == mac && e.seq == seq
    if hit.any fun e => e.dir == port then (s.modRing port fun p => { p with dup := p.dup.inc }, false, false)
    else (s.noteDup { mac := mac, seq := seq, dir := port, at_ := s.time.t }, mac != s.ownMac, hit.isEmpty)

/-- A frame discarded under R368. -/
def State.ringOther (s : State) : State :=
  { s with time := { s.time with rxOther := satAdd s.time.rxOther 1 } }

/-- RING_FRAME (R365–R368). -/
def execRingFrame (port : Nat) (f : RingFrame) (s : State) : Host.Outcome State Fault Refusal :=
  .next (if !s.ringUp port then s
  else
    let toMe := f.dst == s.ownMac
    let bad := !f.fcsOk || decide (f.length < 64) || decide (1528 < f.length)
    let sup := f.dst == supervisionMac
    let s := if bad then s.modRing port fun p => { p with fcs := p.fcs.inc } else s
    let consume (s : State) : State :=
      if bad then s
      else if sup then { s with time := { s.time with rxSup := s.time.rxSup + 1 } }
      else s
    let r := s.ringEnter port f.src f.seq
    let s := if r.2.2 then consume r.1 else r.1
    if r.2.1 && !toMe then s.ringSend port (8 * f.length) fun q => .ring q f.etherType f.src f.dst f.seq.toNat 0 bad
    else if s.ringMode = 1 ∧ f.src ≠ s.ownMac ∧ !toMe then s
    else if (r.2.1 || r.2.2 || f.src == s.ownMac) && !sup && !bad && (toMe || groupMac f.dst) then s.ringOther
    else s)

/-- The device's own frame on the ports `ps` with one sequence number (R364, R368). The LSDU size of its tag is not
stated: a free value. -/
def State.ringOwn (ps : List Nat) (etherType dst : Nat) (seq : Nat → Nat) (corr : Int) (s : State) : State :=
  let tagged := s.ringMode == 1
  let n := s.time.hsrSeq
  let s := ps.foldl (fun s p =>
    let r := s.draw 4096
    let tag := if tagged then some { path := p, seq := n, lsdu := r.1 } else none
    (if tagged then r.2 else s).send (.ringOwn p etherType dst (seq p) s.ownVlan corr tag)) s
  if tagged && ps != [] then { s with time := { s.time with hsrSeq := n + 1 } } else s

/-- SUPERVISION_TIMER (R364): one frame on each port, with one sequence number. -/
def execSupervisionTimer (s : State) : Host.Outcome State Fault Refusal :=
  .next (if s.ringMode ≠ 1 ∨ !s.power.core then s
  else
    let n := s.time.hsrSeq.toNat
    s.ringOwn ([0, 1].filter fun p => !(s.ringPort p).oos) 0x892F supervisionMac (fun _ => n) 0)

/-! ## PTP messages (R370, R371, R377) -/

/-- The EtherType and the addresses of PTP (R368, R370). -/
def ptpType : Nat := 0x88F7
def ptpMac : Nat := 0x011B19000000
def ptpPeerMac : Nat := 0x0180C200000E

/-- What the transparent clock adds for a forwarded Sync (R370): a residence time that the spec bounds by 600 ns and
the wait behind the outgoing queue, and the path delay of its ingress port. A message with two VLAN tags passes with
its correction unchanged (R371). -/
def State.transit (port : Nat) (m : PtpMsg) (s : State) : Int × State :=
  let wait := (s.ringPort (1 - port)).queueBits * 6554
  let r := s.drawIn 0 (600 * 65536 + wait)
  (if m.vlanTags < 2 then (r.1 : Int) + (s.ringPort port).meanDelay else 0, r.2)

/-- A PTP message goes on to the other port with `add` in its correctionField. -/
def State.ptpSend (port : Nat) (m : PtpMsg) (add : Int) (s : State) : State :=
  s.ringSend port (8 * 64) fun q => .ring q ptpType m.src ptpMac m.hsrSeq.toNat add false

/-- A PTP message of the ring that no declared domain takes, where it is not forwarded (R368). -/
def State.ptpOther (fwd : Bool) (s : State) : State := if fwd || s.ringMode == 1 then s else s.ringOther

/-- A Sync goes on (R370): a one-step one with what it is delayed by, which a two-step one leaves to its Follow_Up. -/
def State.forwardSync (port : Nat) (m : PtpMsg) (s : State) : State :=
  if (s.domainOf? m.domain).isNone then s.ptpSend port m 0
  else
    let r := s.transit port m
    if m.twoStep then
      let others := r.2.time.resid.filter fun x => x.source != m.source || x.port != port
      let s := { r.2 with time := { r.2.time with
        resid := { source := m.source, seq := m.seq, port := port, add := r.1 } :: others } }
      s.ptpSend port m 0
    else r.2.ptpSend port m r.1

/-- A Follow_Up goes on with what its Sync was delayed by (R370). -/
def State.forwardFollowUp (port : Nat) (m : PtpMsg) (s : State) : State :=
  let mine (x : Resid) : Bool := x.source == m.source && x.seq == m.seq && x.port == port
  let add := (s.time.resid.find? mine).elim 0 (·.add)
  let s := { s with time := { s.time with resid := s.time.resid.filter fun x => !mine x } }
  s.ptpSend port m add

/-- A message of the source that domain `d` takes its time from (R370). -/
def State.fromParent (s : State) (d : Nat) (m : PtpMsg) : Bool :=
  (s.domain d).announceValid && m.source == (s.domain d).parent

/-- SYNC (R370, R377): from the best source of a declared domain, and the first of its two copies. -/
def execSync (port : Nat) (m : PtpMsg) (s : State) : Host.Outcome State Fault Refusal :=
  .next (if !s.ringUp port then s
  else
    let r := s.ringEnter port m.src m.hsrSeq
    let s := if r.2.1 then r.1.forwardSync port m else r.1
    match s.domainOf? m.domain with
    | none => s.ptpOther r.2.1
    | some d =>
      let dom := s.domain d
      let diff := dom.lastSeq.elim 1 fun l => seqDiff 16 m.seq.toNat l.toNat
      if !r.2.2 || !s.fromParent d m then s
      else if diff ≤ 0 then { s with time := { s.time with seqErr := s.time.seqErr.inc } }
      else
        let s := s.modDomain d fun x => { x with lastSeq := some m.seq }
        let t2 : Int := ((s.time.t + m.sub : Nat) : Int)
        if m.twoStep then
          s.modDomain d fun x => { x with waiting := some { seq := m.seq, port := port, t2 := t2, corr := m.correction } }
        else s.measure d (m.origin + m.correction + (s.ringPort port).meanDelay) t2)

/-- FOLLOW_UP (R370). -/
def execFollowUp (port : Nat) (m : PtpMsg) (s : State) : Host.Outcome State Fault Refusal :=
  .next (if !s.ringUp port then s
  else
    let r := s.ringEnter port m.src m.hsrSeq
    let s := if r.2.1 then r.1.forwardFollowUp port m else r.1
    match s.domainOf? m.domain with
    | none => s.ptpOther r.2.1
    | some d => match (s.domain d).waiting with
      | some w =>
        if w.seq = m.seq ∧ r.2.2 ∧ s.fromParent d m then
          s.measure d (m.origin + w.corr + m.correction + (s.ringPort w.port).meanDelay) w.t2
        else s
      | none => s)

/-- The 1588 dataset comparison (R370): `a` is better than `b`. -/
def Announce.better (a b : Announce) : Bool :=
  let key (x : Announce) : List Nat :=
    [x.priority1, x.clockClass, x.accuracy, x.variance, x.priority2, x.gm.toNat, x.steps]
  decide (key a < key b)

/-- An Announce of a domain: the best one's source is the domain's source (R370). -/
def PtpDomain.announce (t source : Nat) (a : Announce) (d : PtpDomain) : PtpDomain :=
  if d.announceValid && source == d.parent then { d with best := a, announceAt := t }
  else if !d.announceValid || a.better d.best then
    { d with announceValid := true, best := a, parent := source, announceAt := t
             lastSeq := none, waiting := none, prev := none }
  else d

/-- ANNOUNCE (R365, R366, R370). -/
def execAnnounce (port : Nat) (x : AnnounceMsg) (s : State) : Host.Outcome State Fault Refusal :=
  let m := x.head
  .next (if !s.ringUp port then s
  else
    let r := s.ringEnter port m.src m.hsrSeq
    let s := if r.2.1 then r.1.ptpSend port m 0 else r.1
    match s.domainOf? m.domain with
    | none => s.ptpOther r.2.1
    | some d => if r.2.2 then s.modDomain d (PtpDomain.announce s.time.t m.source x.data) else s)

/-- Three Announce intervals of a domain, in 2^−16 ns (R370). -/
def PtpDomain.announceWindow (d : PtpDomain) : Nat :=
  let l := d.best.logInterval
  if 0 ≤ l then 3 * 65536000000000 * 2 ^ l.toNat else 3 * 65536000000000 / 2 ^ (-l).toNat

/-- ANNOUNCE_TIMEOUT (R370, R381): three intervals without an Announce of the best source. -/
def execAnnounceTimeout (domain : Nat) (s : State) : Host.Outcome State Fault Refusal :=
  let d := s.domain domain
  .next (if !d.announceValid || decide (s.time.t < d.announceAt + d.announceWindow) then s
  else
    let s := s.modDomain domain fun d => { d with announceValid := false, best := {} }
    if domain = s.selectedDomain then s.loseSelected else s)

/-- PDELAY_REQ (R370): the turnaround time is written into the answer as it leaves. -/
def execPdelayReq (port seq src : Nat) (s : State) : Host.Outcome State Fault Refusal :=
  .next (if !s.ringUp port || src == s.ownMac then s
  else
    let r := s.draw (2 ^ 32)
    r.2.ringOwn [port] ptpType ptpPeerMac (fun _ => seq) r.1)

/-- PDELAY_TIMER (R364, R370): a request on each port, with one sequence number of the ring. -/
def execPdelayTimer (s : State) : Host.Outcome State Fault Refusal :=
  let ps := [0, 1].filter s.ringUp
  let t1 : Int := ((s.time.t : Nat) : Int)
  let s := ps.foldl (fun s p =>
    s.modRing p fun x => { x with pdelay := { seq := x.pdelay.seq + 1, t1 := some t1, resp := none } }) s
  .next (s.ringOwn ps ptpType ptpPeerMac (fun p => (s.ringPort p).pdelay.seq.toNat) 0)

/-- PDELAY_RESP (R370): a one-step response carries the turnaround in its correction; a two-step one
gives the request's receipt, and its Follow_Up the response's departure. -/
def execPdelayResp (port : Nat) (m : PtpMsg) (s : State) : Host.Outcome State Fault Refusal :=
  .next (if !s.ringUp port then s
  else
    let x := (s.ringPort port).pdelay
    let t4 : Int := ((s.time.t + m.sub : Nat) : Int)
    match x.t1 with
    | none => s
    | some t1 =>
      if x.seq ≠ m.seq then s
      else if m.followUp then
        match x.resp with
        | none => s
        | some (r4, r2) =>
          let d := ((r4 - t1) - (m.origin + m.correction - r2)) / 2
          s.modRing port fun y => { y with meanDelay := max 0 d, pdelay := { y.pdelay with t1 := none, resp := none } }
      else if m.twoStep then
        s.modRing port fun y => { y with pdelay := { y.pdelay with resp := some (t4, m.origin - m.correction) } }
      else
        s.modRing port fun y =>
          { y with meanDelay := max 0 (((t4 - t1) - m.correction) / 2), pdelay := { y.pdelay with t1 := none, resp := none } })

/-- DOMAIN_LOST (R381). -/
def execDomainLost (domain : Nat) (s : State) : Host.Outcome State Fault Refusal :=
  .next (if !(s.domain domain).syncValid || s.domainFresh domain then s
  else
    let s := s.modDomain domain fun d => { d with syncValid := false, run := 0, near := 0 }
    if domain = s.selectedDomain then s.loseSelected else s)

/-- HOLDOVER_EXPIRY (R382). -/
def execHoldoverExpiry (s : State) : Host.Outcome State Fault Refusal :=
  .next (
    let ms := s.ringSect?.elim 0 (·.holdover)
    if s.time.state = .holdover ∧ s.time.holdSince + ms * 65536000000 ≤ s.time.t then
      (({ s with time := { s.time with state := .freeRun } }).record 0x00A4 .data []).setRate
    else s)

/-- RING_BLOCK_LOCK (R369). -/
def execRingBlockLock (port : Nat) (gained : Bool) (s : State) : Host.Outcome State Fault Refusal :=
  .next (if !s.power.core || !s.ringPortUsed port || (s.ringPort port).oos then s
  else s.modRing port fun p => { p with blockLock := gained })

/-! ## Register writes (R369, R385–R387) -/

/-- A write of ORB_CTL. -/
def State.orbCtl (w : W32) (s : State) : State :=
  ({ s with time := { s.time with bypReq := bitOf w 0 } }).bypCheck

/-- What a write of ORB_Pp_CTL fails (R386). -/
def State.orbPortBad (s : State) (p : Nat) (w : W32) : Option Code :=
  if (bitOf w 9 || bitOf w 8) && !(s.ringPort p).oos then some 0x0204
  else if fieldOf w 2 1 ≠ 0 ∧ !bitOf w 0 then some 0x0204
  else none

/-- A write of ORB_Pp_CTL (R385, R386): errors injected come back to the checker of a looped lane. -/
def State.orbPort (p : Nat) (w : W32) (s : State) : State :=
  s.modRing p fun x =>
    let on := bitOf w 0
    let x := if on == x.oos then x else { x with blockLock := false, queueBits := 0, pdelay := {} }
    { x with
      oos := on, prbs := if on then fieldOf w 2 1 else 0
      prbsErr := x.prbsErr.add (b1 (bitOf w 8) + 16 * b1 (bitOf w 9)) }

/-- A port's counters cleared (R387). -/
def RingPort.clearCounters (p : RingPort) : RingPort :=
  { p with fcs := {}, dup := {}, drop := {}, prbsErr := {}, prbsBits := 0 }

/-! ## Commands (R384) -/

/-- TIME_STATUS. -/
def execTimeStatus (e : Entry) (s : State) : Host.Outcome State Fault Refusal :=
  s.command 0x0A00 e fun f s =>
    s.checked f [e.zeroFrom 0x18 40] fun s =>
      let ns := s.time.t / 65536
      s.ok f (ns / 1000000000 % 2 ^ 48) (ns % 1000000000 + s.ptpStatusWord.toNat * 2 ^ 32) []

/-- TIME_SET. -/
def execTimeSet (e : Entry) (s : State) : Host.Outcome State Fault Refusal :=
  s.command 0x0A40 e fun f s =>
    let sec := e.u 0x18 8
    let ns := e.u 0x20 4
    let st := s.time.state.num
    s.checked f [e.zeroFrom 0x24 28, (decide (2 ^ 48 ≤ sec), { code := 0x0204, ofs := 0x18 }),
        (decide (1000000000 ≤ ns), { code := 0x0204, ofs := 0x20 }),
        (decide (2 ≤ st), { code := 0x0204 }), (s.planes.data != .idle, { code := 0x0403 })]
      fun s =>
        let t := (sec * 1000000000 + ns) * 65536
        let s := ({ s with time := { s.time with setTo := some t, state := .freeRun } }).setRate
        s.ok f (if t < s.epoch then 0 else s.ixAt t) 0 []

/-! ## Adoption, Umbra and resets (R375, R383) -/

/-- Machine time and the ring at an adoption; `old` is the section that was in force. -/
def State.adoptRing (old : Option EphRing) (s : State) : State :=
  match s.ringSect? with
  | none => s
  | some r =>
    let fresh (no : Option Nat) (d : Nat) : Bool := s.domainNo? d != no
    let oldNo (d : Nat) : Option Nat := old.bind fun o =>
      if o.mode = 0 then none else if d = 0 then some o.domainA else if o.domainB = 255 then none else some o.domainB
    let s : State := { s with time := { s.time with
      domains := updAll s.time.domains fun d x => if fresh (oldNo d) d then {} else x
      ports := updAll s.time.ports fun p x =>
        if s.ringPortUsed p then x else { x with blockLock := false, meanDelay := 0, pdelay := {} } } }
    let same := old.any fun o => o.epochS == r.epochS && o.epochNs == r.epochNs
    let s : State := if same then s else s.moveIx s.ix false
    let s : State := if r.mode = 0 then
        (if s.time.state = .unset then s
         else ({ s with time := { s.time with state := .freeRun } }).setRate)
      else if (s.domain s.selectedDomain).lastSync.isNone then s.loseSelected
      else s
    s.bypCheck

/-- Machine time goes to the AON time keeper, at 40 ns resolution (R383). -/
def State.timeToAon (s : State) : State :=
  { s with time := { s.time with aon := s.time.t / (40 * 65536) * (40 * 65536) } }

/-- The core die loads machine time from the AON keeper, and SAMPLE_IX resumes where it stands (R27,
R383). -/
def State.timeFromAon (s : State) : State :=
  let t := s.time
  let t := { (t.shift ((t.aon : Int) - (t.t : Int))).setT t.aon with
    setTo := none, phaseLeft := 0
    state := if s.ringMode = 0 then .freeRun else .acquiring }
  (({ s with time := t }).setRate).deriveIx

end Sys2Proof.Machine
end

