-- ==== Sys2Proof/Machine/Adopt.lean ====
section
/-!
DEFINITION. The boot header (R460, R461) and what an adoption does to every block (R84–R87, R105, R108,
R255).
-/

namespace Sys2Proof.Machine

/-! ## The boot header (R459–R461) -/

/-- The flash offset of a boot header copy. -/
def headerOfs (copy : Bool) : Nat := if copy then 0x8000 else 0

/-- A boot header copy, when it is valid. -/
def parseHeader (b : List Byte) : Option BootHeader :=
  if slice b 0 4 ≠ [0x46#8, 0x56#8, 0x42#8, 0x48#8] ∨ uAt b 4 2 ≠ 1 ∨
      crc32c (slice b 0 0xFFC) ≠ BitVec.ofNat 32 (uAt b 0xFFC 4) then none
  else some
    { generation := BitVec.ofNat 32 (uAt b 8 4)
      confirmed := uAt b 0x0C 1 == 1
      trial := if uAt b 0x0D 1 = 0xFF then none else some (uAt b 0x0D 1 == 1)
      ephBoot := if uAt b 0x0E 1 = 0xFF then none else some (BitVec.ofNat 2 (uAt b 0x0E 1))
      ipv4 := BitVec.ofNat 32 (beNat (slice b 0x10 4))
      prefixLen := uAt b 0x14 1
      lastSeq := BitVec.ofNat 32 (uAt b 0x18 4)
      lastDigest := BitVec.ofNat 384 (beNat (slice b 0x20 48)) }

/-- The bytes of a boot header copy. -/
def BootHeader.bytes (h : BootHeader) : List Byte :=
  let num (b : Bool) : Nat := b1 b
  let b := [0x46#8, 0x56#8, 0x42#8, 0x48#8] ++ leBytes 2 1 ++ leBytes 2 0 ++ leBytes 4 h.generation.toNat ++
    leBytes 1 (num h.confirmed) ++ leBytes 1 (h.trial.elim 0xFF num) ++ leBytes 1 (h.ephBoot.elim 0xFF (·.toNat)) ++
    leBytes 1 0 ++ beBytes 4 h.ipv4.toNat ++ leBytes 1 h.prefixLen ++ leBytes 3 0 ++ leBytes 4 h.lastSeq.toNat ++
    leBytes 4 0 ++ digestBytes h.lastDigest ++ List.replicate 4012 0
  b ++ leBytes 4 (crc32c b).toNat

/-- The boot header in use, and the copy that holds it. -/
def State.header? (s : State) : Option (BootHeader × Bool) :=
  let copy (c : Bool) : Option (BootHeader × Bool) := (parseHeader (s.flashRead (headerOfs c) 4096)).map (·, c)
  match copy false, copy true with
  | some a, some b => if 0 < seqDiff 32 b.1.generation.toNat a.1.generation.toNat then some b else some a
  | some a, none => some a
  | none, b => b

/-- The header that holds when neither copy is valid (R461). -/
def BootHeader.blank : BootHeader :=
  { generation := 0, confirmed := false, trial := none, ephBoot := none, ipv4 := 0xC0A81920, prefixLen := 24,
    lastSeq := 0, lastDigest := 0 }

/-- The boot header written with a change: over the copy that is not in use, one generation on. -/
def State.writeHeader (f : BootHeader → BootHeader) (s : State) : State :=
  let cur := s.header?.getD (BootHeader.blank, true)
  let h := { f cur.1 with generation := cur.1.generation + 1 }
  let o := headerOfs (!cur.2)
  (s.flashErase o 4096).flashWrite o h.bytes

/-- The last-committed SEQUENCE and digest go to flash while the NV write window is open (R89, R444). -/
def State.flushHeader (s : State) : State :=
  match s.eph.last with
  | some (q, d) =>
    if s.boot.headerWaits ∧ s.power.nvOpen then
      let s := s.writeHeader fun h => { h with lastSeq := q, lastDigest := d }
      { s with boot := { s.boot with headerWaits := false } }
    else s
  | none => s

/-! ## What each block does at an adoption (R85) -/

/-- Bindings and roles (R105, R108). -/
def State.adoptHosts (hosts : List SlotCfg) (s : State) : State :=
  (List.range 8).foldl (fun s i =>
    let o := (s.slot i).cfg
    let n := hosts.getD i {}
    let used := o.port != 3 || n.port != 3
    let s := if used && { o with roles := n.roles } != n then s.slotDown i
      else
        let gone := (s.slot i).held &&& ~~~n.roles
        let s := s.dropRoles i gone
        if gone = 0 then s else s.eventBut (· == i) 1 0 (BitVec.ofNat 64 (i + 256 * gone.toNat))
    s.modSlot i fun sl => { sl with cfg := n }) s

/-- Pools (R85, R146, R147): descriptors of a pool no longer declared are discarded, and every declared pool starts its
vector sequence and its expected DSEQ at 0. -/
def State.adoptPools (e : Eph) (s : State) : State :=
  let nums := e.heads.map (·.head) ++ (List.range e.zones.length).map overlapPool
  let gone := s.job.pools.filter fun p => !nums.contains p.num
  let s := gone.foldl (fun s p =>
    s.modPool p.num fun p => p.modDescs fun d => { d.discard 0x0903 with out := 0 }) s
  let s := s.settleDescs
  let kept := (s.job.pools.filter fun p => nums.contains p.num).map fun p => { p with expect := 0, vseq := 0 }
  let new := (nums.filter fun n => !kept.any fun p => p.num == n).map fun n => { num := n : Pool }
  { s with job := { s.job with pools := kept ++ new } }

/-- Engines: a head newly declared or changed stands at its park point; a new grid empties its cache. -/
def State.adoptEngines (old : Option Eph) (s : State) : State :=
  { s with engines := updAll s.engines fun n e => match s.head? n with
    | none => {}
    | some h =>
      let was := old.bind fun o => o.heads.find? fun x => x.head == n
      let e := if was = some h then e else { e with pos := ((h.parkX : Rat), (h.parkY : Rat)), sr := {} }
      let same := was.any fun w =>
        w.gridX0 == h.gridX0 && w.gridY0 == h.gridY0 && w.gridPitch == h.gridPitch && w.gridCrc == h.gridCrc
      if same then e else { e with tiles := [], requested := [] } }

/-- Eclipse: a channel no longer declared leaves it with its causes cleared, and while ECLIPSE_IN requests a
new one enters (R504, R505). -/
def State.adoptEclipse (s : State) : State :=
  let s : State := { s with eclipse := { s.eclipse with
    ch := updAll s.eclipse.ch fun n c => if s.declared n then c else {}
    leaving := s.eclipse.leaving &&& s.declaredMask } }
  let new := (List.range 32).filter fun n => s.declared n && !s.eclipsed n
  if s.eclipse.inReq ∧ new ≠ [] then s.trigger new.contains 0 0x0B02 else s

/-- Tide (R85): a loop whose SLOT, KIND, TARGET and PERIOD are unchanged is kept. -/
def State.adoptTide (e : Eph) (s : State) : State :=
  let loop (n : EphLoop) : TideLoop :=
    match s.loop? n.slot with
    | some l =>
      if l.entry.kind = n.kind ∧ l.entry.target = n.target ∧ l.entry.period = n.period then
        let l := { l with entry := n }
        if n.kind = 1 then l else { l with setSel := n.defaultSet }
      else freshLoop e.sets n
    | none => freshLoop e.sets n
  { s with tide := { s.tide with loops := e.loops.map loop, sets := e.sets, setSwitches := [] } }

/-- Routes: one whose source and sink are unchanged keeps what it last delivered. -/
def State.adoptRoutes (old : Option Eph) (e : Eph) (s : State) : State :=
  let was := (old.elim [] (·.routes)).zip s.eph.routeVals
  let key (r : EphRoute) : List Nat := [r.srcType, r.srcIndex, r.srcField, r.sinkType, r.sinkIndex, r.sinkInput]
  let val (r : EphRoute) : RouteVal := ((was.find? fun w => key w.1 == key r).map (·.2)).getD {}
  { s with eph := { s.eph with routeVals := e.routes.map val, switches := [] } }

/-- Perihelion (R255): a grid newly enabled, or of another geometry, starts at UNDER; a disabled one abandons
its pass, and reads and loads go on waiting for one. -/
def State.adoptPeri (old : Option Eph) (s : State) : State :=
  let was := (old.bind (·.peri)).filter (·.enable)
  let geo (p : EphPeri) : List Int := [(p.pitch : Int), p.x0, p.y0]
  match s.peri? with
  | some p =>
    if was.map geo = some (geo p) then s else { s with peri := s.peri.reset p.under }
  | none => { s with peri := s.peri.abandon }

/-- NV_OPEN (R444): before the first commit, NV_SENSOR is entry 20 with 0 to 70 °C. -/
def State.nvCheck (s : State) : State :=
  let (i, lo, hi) := match s.eph.eph with
    | some e => (e.thermal.nvSensor, e.thermal.nvLow, e.thermal.nvHigh)
    | none => (20, 0, 4480)
  let t : ThmEntry := nth {} s.power.thm i
  { s with power := { s.power with nvOpen := t.valid && decide (lo ≤ t.reading ∧ t.reading ≤ hi) } }

/-- Temperature entries that are no longer used hold no breach; the NV window follows the new section. -/
def State.adoptThermal (e : Eph) (s : State) : State :=
  State.nvCheck { s with power := { s.power with thm := updAll s.power.thm fun i t =>
    match e.thermal.sensors[i]? with
    | some x => if x.kind = 0 then { t with high := {}, low := {}, riseLive := false, fault := false, history := [] } else t
    | none => t } }

/-- A strobe wire of a sensor whose window an adoption has dropped goes low. -/
def State.dropStrobes (s : State) : State :=
  (List.range 8).foldl (fun s i =>
    if (bitOf s.halo.strobing i || bitOf s.halo.exposing i) && (s.sensor i).wins.isEmpty then s.strobeEnd i [] else s) s

/-! ## Adoption (R84–R89) -/

/-- How an ephemeris comes into force. -/
inductive AdoptKind
  | commit | boot | umbra
  deriving DecidableEq, Repr

/-- Step 4: every block works from the new ephemeris from the adoption sample on. -/
def State.swapEph (k : AdoptKind) (e : Eph) (container : List Byte) (s : State) : State :=
  let old := s.eph.eph
  let s := { s with eph := { s.eph with eph := some e, container := container } }
  let s := s.adoptHosts e.hosts
  let s := (s.adoptRing (old.map (·.ring))).adoptDram (k == .boot)
  let s := (((s.adoptLinks old).adoptTide e).adoptRoutes old e).adoptPeri old
  let s := (((s.adoptPools e).adoptEngines old).adoptEclipse).adoptAxes
  let s := ((s.adoptCameras old).dropStrobes).adoptHalo
  ((s.adoptThermal e).adoptCal e).adoptDisplay (old.bind (·.display))

/-- Step 3: MR3 is extended with the container digest and the signer digest (R87). -/
def State.measureEph (e : Eph) (s : State) : State :=
  let mr (d : Digest) (b : Boot) : Boot := { b with mr := upd b.mr 3 fun m => extendMr m d }
  { s with boot := mr e.signerDigest (mr e.digest s.boot) }

/-- Step 5: what is recorded, kept and posted. -/
def State.noteAdoption (e : Eph) (s : State) : State :=
  let s := { s with
    eph := { s.eph with
      commit := .adopted, pendingSlot := none, stage := .empty, staging := [], validated := none
      stagingBad := false, seq := e.sequence, adoptIx := s.time.ix, last := some (e.sequence, e.digest) }
    boot := { s.boot with headerWaits := true } }
  let s := s.record 0x0010 .management (leBytes 8 e.machine.machineId.toNat ++ leBytes 4 e.sequence.toNat ++
    leBytes 8 s.ix ++ (digestBytes e.digest).take 16)
  (s.event 3 0 (BitVec.ofNat 64 (e.sequence.toNat + s.sample.toNat * 2 ^ 32))).flushHeader

/-- Adoption, steps 3 to 5. On Umbra exit MR3 is not extended (R89). -/
def State.adopt (k : AdoptKind) (e : Eph) (container : List Byte) (s : State) : State :=
  let s := if k = .umbra then s else s.measureEph e
  (s.swapEph k e container).noteAdoption e

/-- Stage 10 (R63, R65, R78, R80). -/
def State.stage10 (s : State) (e : Eph) (d : List Byte) : Option EphFail :=
  let epoch := s.eph.eph.any fun o => o.ring.epochS != e.ring.epochS || o.ring.epochNs != e.ring.epochNs
  if epoch ∧ s.planes.data ≠ .idle then some ⟨0x0502, 0x0C, stage10Ofs d 0x0C 0⟩
  else match s.pilot? with
    | some i =>
      if ((e.hosts.getD i {}).roles &&& rolePilot) = 0 then some ⟨0x0320, 0x0D, stage10Ofs d 0x0D i⟩ else none
    | none => none

/-- A rejection or failed adoption recorded in BOOT_EPH_REJECT (R79). -/
def State.noteReject (f : EphFail) (s : State) : State :=
  { s with eph := { s.eph with rejCode := f.code, rejSect := BitVec.ofNat 16 f.sect, rejOfs := BitVec.ofNat 32 f.ofs } }

/-- ADOPT_FAULT (R80, R86). -/
def adoptFault : EphFail := ⟨0x0B01, 0, 0⟩

/-- An adoption fails: at step 2 with the code of stage 10 (R84), or after it (R86). The previous ephemeris stays in
force. -/
def State.adoptFails (e : Eph) (f : EphFail) (s : State) : State :=
  let s := (s.noteReject f).record 0x0012 .management (u32s [f.code.toNat])
  let s := { s with eph := { s.eph with pendingSlot := none, commit := .failed } }
  s.event 4 f.code (e.sequence.setWidth 64)

/-- What makes an adoption fail after stage 10 (R86): an uncorrectable word in the staged image, or a plane that
has faulted and does not run. -/
def State.adoptBroken (s : State) : Bool :=
  s.eph.stagingBad || s.planes.ctl == .booting || s.planes.mgmt != .running

/-- The staged ephemeris `e` is adopted, or fails (R84, R86). -/
def State.adoptStaged (e : Eph) (s : State) : State :=
  match s.stage10 e s.eph.staging with
  | some f => s.adoptFails e f
  | none => if s.adoptBroken then s.adoptFails e adoptFault else s.adopt .commit e s.eph.staging

/-- The pending commit is adopted, or fails (R82, R84). From here on the loss of PILOT cancels nothing. -/
def State.adoptPending (s : State) : State :=
  match s.eph.pendingSlot, s.eph.validated with
  | some _, some e =>
    if s.mayApply s.eph.atEnd then
      State.adoptStaged e { s with eph := { s.eph with pendingSlot := none, atEnd := false } }
    else s
  | _, _ => s

end Sys2Proof.Machine
end

