-- ==== Sys2Proof/Machine/Ephem.lean ====
section
/-!
DEFINITION. The EPHEMERIS commands (R72–R92).
-/

namespace Sys2Proof.Machine

/-! ## Storage -/

/-- The flash offset of ephemeris slot `i` (R459). -/
def ephOfs (i : Nat) : Nat := 0x1000000 + 0x400000 * i

/-- The size of an ephemeris slot and of the staging area. -/
def ephSlotBytes : Nat := 4194304

/-- A container's length by its header. -/
def containerLen (b : List Byte) : Nat := 64 + uAt b 8 4 + uAt b 0x18 4

/-- A header with a valid MAGIC and HEADER_CRC (R76). -/
def headerHolds (b : List Byte) : Bool :=
  slice b 0 4 == [0x45#8, 0x50#8, 0x48#8, 0x4D#8] && crc32c (slice b 0 0x3C) == BitVec.ofNat 32 (uAt b 0x3C 4)

/-- The container of a flash slot: its header, and as many bytes as that gives within the slot. -/
def State.slotContainer (s : State) (i : Nat) : List Byte :=
  let h := s.flashRead (ephOfs i) 64
  s.flashRead (ephOfs i) (if headerHolds h then min (containerLen h) ephSlotBytes else 64)

/-- What EPH_INFO says of a container: RESULT0, RESULT1 and the 64 bytes. -/
def ephInfoOf (b : List Byte) : Nat × Nat × List Byte :=
  if headerHolds b then
    let n := containerLen b
    (uAt b 0x0C 4 + n * 2 ^ 32, 1 + 2 * (uAt b 6 2 % 2), slice b 0x20 16 ++ digestBytes (sha384 (b.take n)))
  else (0, 0, List.replicate 64 0)

/-- EPH_INFO (R76). -/
def execEphInfo (e : Entry) (s : State) : Host.Outcome State Fault Refusal :=
  s.command 0x0100 e fun f s =>
    let w := e.u 0x18 1
    let known := decide (w < 4) || w == 0x10 || w == 0x11
    s.checked f [e.zeroFrom 0x19 39, (!known, { code := 0x0204, ofs := 0x18 }),
        (e.bufLen != 0 && e.bufLen != 64, { code := 0x0206, ofs := 0x10 }),
        (w == 0x10 && s.eph.stagingBad, { code := 0x070B })] fun s =>
      let b := if w < 4 then s.slotContainer w else if w = 0x10 then s.eph.staging else s.eph.container
      let i := ephInfoOf b
      s.ok f i.1 i.2.1 (if e.bufLen = 64 ∨ e.inline then i.2.2 else [])

/-- A flash write runs: its command completes with FLASH_WRITE_DONE. -/
def State.flashJob (f : Flight) (r0 : Nat) (s : State) : State :=
  let s := s.launch f
  { s with boot := { s.boot with flashJobs := s.boot.flashJobs ++ [{ flight := f.id, r0 := r0 }] } }

/-- EPH_STORE (R73, R74, R76). -/
def execEphStore (e : Entry) (s : State) : Host.Outcome State Fault Refusal :=
  s.command 0x0140 e fun f s =>
    let i := e.u 0x18 1
    let o := e.u 0x1C 4
    let n := e.u 0x20 4
    let top := if e.inline then 1344 else 65536
    s.checked f [e.zeroFrom 0x19 3, e.zeroFrom 0x24 28, (decide (3 < i), { code := 0x0204, ofs := 0x18 }),
        (decide (o % 8 ≠ 0), { code := 0x0204, ofs := 0x1C }),
        (decide (n % 8 ≠ 0 ∨ n < 8 ∨ top < n ∨ ephSlotBytes < o + n), { code := 0x0204, ofs := 0x20 }),
        (e.dataLen != n, { code := 0x0206, ofs := if e.inline then 0x20 else 0x10 }),
        (!s.power.nvOpen, { code := 0x0801 }),
        (s.eph.copying.any fun c => c.2 == some i, { code := 0x0402, ofs := 0x18 })] fun s =>
      let s := if o = 0 then s.flashErase (ephOfs i) ephSlotBytes else s
      (s.flashWrite (ephOfs i + o) (slice e.data 0 n)).flashJob f (o + n)

/-- EPH_SET_BOOT (R73, R76). -/
def execEphSetBoot (e : Entry) (s : State) : Host.Outcome State Fault Refusal :=
  s.command 0x0141 e fun f s =>
    let i := e.u 0x18 1
    s.checked f [e.zeroFrom 0x19 39, (decide (3 < i) && i != 0xFF, { code := 0x0204, ofs := 0x18 }),
        (!s.power.nvOpen, { code := 0x0801 })] fun s =>
      let boot : Option (BitVec 2) := if i = 0xFF then none else some (BitVec.ofNat 2 i)
      let s := s.writeHeader fun h => { h with ephBoot := boot }
      let s := { s with eph := { s.eph with bootSlot := boot.getD 0, bootNone := boot.isNone } }
      s.flashJob f 0

/-- FLASH_WRITE_DONE: the oldest flash write completes its command. -/
def execFlashWriteDone (s : State) : Host.Outcome State Fault Refusal :=
  .next (match s.boot.flashJobs with
  | [] => s
  | j :: r => ({ s with boot := { s.boot with flashJobs := r } }).finishId j.flight 0 (BitVec.ofNat 64 j.r0) 0 false [])

/-! ## Staging and validation (R76–R79) -/

/-- Staging discarded, for a container of `n` bytes. -/
def State.restage (n : Nat) (d : List Byte) (st : StageState) (s : State) : State :=
  { s with eph := { s.eph with staging := d, stageLen := n, stage := st, validated := none, stagingBad := false } }

/-- The chunk conditions of inline staging: the code's offset of the first one broken. -/
def State.chunkBad (s : State) (e : Entry) : List (Bool × Bad) :=
  let n := e.u 0x1C 4
  let o := e.u 0x20 4
  let later := decide (o ≠ 0)
  let busy := s.eph.stage == .loading
  [(later && busy && s.eph.stageLen != n, { code := 0x0204, ofs := 0x1C }),
   (later && (!busy || s.eph.staging.length != o), { code := 0x0204, ofs := 0x20 }),
   (decide (n < o + e.data.length), { code := 0x0204, ofs := 0x20 })]

/-- What EPH_STAGE does once no validation of an EPH_COMMIT holds it (R77). -/
def State.ephStage (f : Flight) (e : Entry) (s : State) : State :=
  let src := e.u 0x18 1
  let n := e.u 0x1C 4
  let o := e.u 0x20 4
  let chunk := src == 0x11
  let known := decide (src < 4) || src == 0x10 || src == 0x11
  s.checked f ([((src == 0x10 && e.inline) || (src == 0x11 && !e.inline), { code := 0x0104, ofs := 0x18 }),
      e.zeroFrom 0x19 3, if chunk then e.zeroFrom 0x24 28 else e.zeroFrom 0x20 32,
      (!known, { code := 0x0204, ofs := 0x18 }),
      (decide (n < 64 ∨ ephSlotBytes < n), { code := 0x0204, ofs := 0x1C }),
      (decide (src < 4) && e.bufLen != 0, { code := 0x0206, ofs := 0x10 }),
      (src == 0x10 && e.bufLen.toNat != n, { code := 0x0206, ofs := 0x10 }),
      (s.eph.pendingSlot.isSome, { code := 0x0401 })] ++ (if chunk then s.chunkBad e else [])) fun s =>
    if chunk then
      let d := if o = 0 then e.data else s.eph.staging ++ e.data
      let bad := s.eph.stagingBad && decide (o ≠ 0)
      let s := s.restage n d (if d.length = n then .loaded else .loading)
      ({ s with eph := { s.eph with stagingBad := bad } } : State).ok f d.length 0 []
    else
      let d := if src < 4 then s.flashRead (ephOfs src) n else slice e.data 0 n
      let s := (s.restage n d .loading).launch f
      let c : EphJob × Option Nat := ({ flight := f.id, slot := f.slot }, if src < 4 then some src else none)
      { s with eph := { s.eph with copying := s.eph.copying ++ [c] } }

/-- EPH_STAGE_LOADED: the oldest copy ends. -/
def execEphStageLoaded (s : State) : Host.Outcome State Fault Refusal :=
  .next (match s.eph.copying with
  | [] => s
  | c :: r =>
    let whole := r.isEmpty && s.eph.staging.length == s.eph.stageLen
    let stage := if s.eph.stage = .loading ∧ whole then .loaded else s.eph.stage
    ({ s with eph := { s.eph with copying := r, stage := stage } }).finishId c.1.flight 0 0 0 false [])

/-- The staged container is validated (R78): stages 1 to 9. -/
def State.validateStaged (s : State) : Except EphFail Eph :=
  validateEph (s.eph.last.map (·.1)) (s.mem.capacity, s.mem.vendor) s.eph.staging

/-- The result of a validation in STAGE (R78, R79). -/
def State.noteValidation (r : Except EphFail Eph) (s : State) : State :=
  match r with
  | .ok e => { s with eph := { s.eph with stage := .valid, validated := some e } }
  | .error x => ({ s with eph := { s.eph with stage := .rejected, validated := none } }).noteReject x

/-- A container rejection as a completion gives it. -/
def EphFail.bad (x : EphFail) : Bad := { code := x.code, ofs := x.ofs, obj := x.sect }

/-- Nothing is staged. -/
def State.nothingStaged (s : State) : Bool := s.eph.stage == .empty || s.eph.stage == .loading

/-- What EPH_VALIDATE does once nothing holds it. -/
def State.ephValidate (f : Flight) (e : Entry) (s : State) : State :=
  s.checked f [e.zeroFrom 0x18 40, (s.nothingStaged, { code := 0x0503 })] fun s =>
    let s := s.launch f
    { s with eph := { s.eph with
      stage := .validating, validated := if s.eph.pendingSlot.isSome then s.eph.validated else none
      validating := s.eph.validating ++ [{ flight := f.id, slot := f.slot }] } }

/-- The flight with a given number. -/
def State.flight? (s : State) (id : Nat) : Option Flight := s.host.flights.find? fun g => g.id == id

/-- A command that runs is rejected at its end: the checks its rule gives have failed (R134). -/
def State.rejectId (id : Nat) (b : Bad) (s : State) : State :=
  match s.flight? id with
  | some f => s.reject f b
  | none => s

/-- A validation that reads an uncorrectable word ends with INTEGRITY (R389 region 10). -/
def State.stagingLost (id : Nat) (s : State) : State :=
  ({ s with eph := { s.eph with stage := .rejected, validated := none } } : State).rejectId id { code := 0x070B }

/-- EPH_VALIDATE_DONE: the oldest EPH_VALIDATE ends. A container replaced meanwhile is not judged. -/
def execEphValidateDone (s : State) : Host.Outcome State Fault Refusal :=
  .next (match s.eph.validating with
  | [] => s
  | j :: r =>
    let s := { s with eph := { s.eph with validating := r } }
    if s.nothingStaged then s.rejectId j.flight { code := 0x0503 }
    else if s.eph.stagingBad then s.stagingLost j.flight
    else
      let v := s.validateStaged
      let s := s.noteValidation v
      match v with
      | .ok _ => s.finishId j.flight 0 0 0 false []
      | .error x => s.rejectId j.flight x.bad)

/-! ## Commit (R77, R81–R84) -/

/-- The decision on an EPH_COMMIT whose container is valid: PILOT judged again, stage 10, then adoption at
once or DEFERRED (R81). -/
def State.decideCommit (f : Flight) (e : Eph) (s : State) : State :=
  if (s.slot f.slot).held &&& rolePilot = 0 then s.reject f { code := 0x0302 }
  else match s.stage10 e s.eph.staging with
    | some x => (s.noteReject x).reject f x.bad
    | none =>
      if s.planes.data = .idle then
        if s.adoptBroken then
          (s.adoptFails e adoptFault).finish f adoptFault.code 0 0 true []
        else
          let s := s.adopt .commit e s.eph.staging
          s.ok f s.eph.adoptIx.toNat 0 []
      else
        let s := { s with eph := { s.eph with commit := .pending, pendingSlot := some f.slot, atEnd := s.finalNow } }
        s.finish f 0x0A00 (s.firstLayer 4) 0 false []

/-- What EPH_COMMIT does once nothing holds it (R81, R83). -/
def State.ephCommit (f : Flight) (e : Entry) (s : State) : State :=
  s.checked f [e.zeroFrom 0x18 40, (s.nothingStaged, { code := 0x0503 }),
      (s.eph.pendingSlot.isSome, { code := 0x0401 })] fun s =>
    match s.eph.stage, s.eph.validated with
    | .valid, some x => (s.launch f).decideCommit f x
    | _, _ =>
      let s := s.launch f
      { s with eph := { s.eph with stage := .validating, validated := none, committing := some { flight := f.id, slot := f.slot } } }

/-- What EPH_CANCEL does once nothing holds it (R83). -/
def State.ephCancel (f : Flight) (e : Entry) (s : State) : State :=
  s.checked f [e.zeroFrom 0x18 40, (s.eph.pendingSlot.isNone, { code := 0x0504 })] fun s =>
    (s.cancelCommit 0).ok f 0 0 []

/-- A command that the validation of an EPH_COMMIT may hold, by its opcode. -/
def State.ephRun (f : Flight) (e : Entry) (s : State) : State :=
  match e.opcode.toNat with
  | 0x0142 => s.ephStage f e
  | 0x0143 => s.ephValidate f e
  | 0x0144 => s.ephCommit f e
  | _ => s.ephCancel f e

/-- The command waits while an EPH_COMMIT validates, and runs otherwise (R77). -/
def State.ephGate (f : Flight) (e : Entry) (s : State) : State :=
  if s.eph.committing.isSome then
    let s := s.launch f
    { s with host := { s.host with ephWaits := s.host.ephWaits ++ [(f, e)] } }
  else s.ephRun f e

/-- The commands that waited run in order, until an EPH_COMMIT among them validates. -/
def State.ephResume : List (Flight × Entry) → State → State
  | [], s => { s with host := { s.host with ephWaits := [] } }
  | (f, e) :: r, s =>
    if s.eph.committing.isSome then { s with host := { s.host with ephWaits := (f, e) :: r } }
    else ephResume r (s.ephRun ((s.flight? f.id).getD f) e)

/-- EPH_STAGE. -/
def execEphStage (e : Entry) (s : State) : Host.Outcome State Fault Refusal :=
  s.command 0x0142 e fun f s => s.ephGate f e

/-- EPH_VALIDATE. -/
def execEphValidate (e : Entry) (s : State) : Host.Outcome State Fault Refusal :=
  s.command 0x0143 e fun f s => s.ephGate f e

/-- EPH_COMMIT. -/
def execEphCommit (e : Entry) (s : State) : Host.Outcome State Fault Refusal :=
  s.command 0x0144 e fun f s => s.ephGate f e

/-- EPH_CANCEL. -/
def execEphCancel (e : Entry) (s : State) : Host.Outcome State Fault Refusal :=
  s.command 0x0145 e fun f s => s.ephGate f e

/-- EPH_COMMIT_VALIDATED: the validation of an EPH_COMMIT ends. -/
def execEphCommitValidated (s : State) : Host.Outcome State Fault Refusal :=
  .next (match s.eph.committing with
  | none => s
  | some j =>
    let s := { s with eph := { s.eph with committing := none } }
    let s := if s.eph.stagingBad then s.stagingLost j.flight
      else
        let v := s.validateStaged
        let s := s.noteValidation v
        match v, s.flight? j.flight with
        | .ok e, some f => s.decideCommit f e
        | .error x, some f => s.reject f x.bad
        | _, none => s
    s.ephResume s.host.ephWaits)

/-! ## Routes (R92) -/

/-- The latest switch sample among those that wait, or a given one. -/
def lastSwitch (l : List RouteSwitch) (r lo : Nat) : Nat :=
  ((l.filter fun w => w.route == r).map (·.at_)).foldl max lo

/-- EPH_ROUTE_SET: the switch sample lies within 4 samples, and not before that of an earlier EPH_ROUTE_SET of
the route (log entry 18). -/
def execEphRouteSet (e : Entry) (s : State) : Host.Outcome State Fault Refusal :=
  s.command 0x0146 e fun f s =>
    let r := e.u 0x18 2
    let fl := e.u 0x1A 1
    s.checked f [(decide (1 < fl), { code := 0x0205, ofs := 0x1A }), e.zeroFrom 0x1B 1, e.zeroFrom 0x24 28,
        (decide (511 < r), { code := 0x0204, ofs := 0x18 }),
        (decide (s.routes.length ≤ r), { code := 0x0208, ofs := 0x18 })] fun s =>
      let d := s.drawIn 1 4
      let at_ := min (s.ix + 4) (lastSwitch s.eph.switches r (s.ix + d.1))
      let w : RouteSwitch :=
        { route := r, at_ := at_, scale := e.s 0x1C 4, offset := e.s 0x20 4, holdLast := fl.testBit 0 }
      let s := d.2
      ({ s with eph := { s.eph with switches := s.eph.switches ++ [w] } }).ok f at_ 0 []

end Sys2Proof.Machine
end

