-- ==== Sys2Proof/Machine/RegMap.lean ====
section
/-!
DEFINITION. The register map (R109 and the register headings of each chapter): names, places, die,
writable reserved bits (R8) and the group whose roles may write (R111, R132).
-/

namespace Sys2Proof.Machine

/-- The registers, under the names of the spec; an indexed register stands for all its instances. -/
inductive Reg
  | devId
  | stepping
  | caps
  | planeStatus
  | eclipseStatus
  | ptpLatchNs
  | ptpLatchSec
  | ptpLatchSecHi
  | ptpLatchSample
  | errLast
  | errLastAddr
  | hostLostCpl
  | eclipseEnter
  | eclipseLeave
  | eclipseCtl
  | eclipsePins
  | eclipseEntryCnt
  | eclipseCause
  | bootEphStatus
  | bootEphSeq
  | bootEphAdoptLo
  | bootEphAdoptHi
  | bootEphReject
  | bootEphRejOfs
  | bootStatus
  | hostSlotStatus
  | hostRoleClaim
  | hostRoleRelease
  | hostRejectCnt
  | hostSlotCtl
  | hostQpSelect
  | hostQpCtrl
  | hostQpSize
  | hostQpSqBaseLo
  | hostQpSqBaseHi
  | hostQpCqBaseLo
  | hostQpCqBaseHi
  | hostQpStatus
  | hostDbSqTail
  | hostDbCqHead
  | tailWindow
  | quoteBuffer
  | seStatus
  | sePosX
  | sePosY
  | seOutX
  | seOutY
  | seOutZ
  | sePower
  | seFactors
  | seWord
  | seVseq
  | seGridCrc
  | seFocusGain
  | seCntCtl
  | seStarveCnt
  | seInnerWaitCnt
  | seSkyShortCnt
  | seGridClampCnt
  | seNoPulseCnt
  | seSpeedClampCnt
  | seVectorsLo
  | seVectorsHi
  | seGateOnLo
  | seGateOnHi
  | seStarveTimeLo
  | seStarveTimeHi
  | seSyncWaitLo
  | seSyncWaitHi
  | arbStatus
  | arbHeldMask
  | arbEscMask
  | arbCandMask
  | arbTailMin
  | arbCntCtl
  | arbHoldCnt
  | arbEscalateCnt
  | arbUnresolvedCnt
  | arbViolationCnt
  | arbSeamCutCnt
  | arbSeamClampCnt
  | arbForcedCnt
  | arbTakesLo
  | arbTakesHi
  | arbHoldTimeLo
  | arbHoldTimeHi
  | arbLogStatus
  | arbLogW0
  | arbLogW1
  | arbLogW2
  | arbLogW3
  | arbLogW4
  | arbLogPop
  | arbEngState
  | arbEngHoldStart
  | arbEngHoldMax
  | arbEngHolds
  | arbEngHoldTimeLo
  | arbEngHoldTimeHi
  | arbEngTakesLo
  | arbEngTakesHi
  | tideStatus
  | tideTripLo
  | tideTripHi
  | tideCntCtl
  | tideSwapCnt
  | tideSatSwapCnt
  | tideFeTripCnt
  | tideSetEmptyCnt
  | tideCapStatus
  | tideCapTrig
  | tideLoopCtl
  | tideLoopStatus
  | tideSp
  | tideMan
  | tideOut
  | tidePv
  | tideIntLo
  | tideIntHi
  | periStatus
  | periProbe
  | periProbeT
  | periPassMax
  | periSatCnt
  | periCntCtl
  | periStepsLo
  | periStepsHi
  | periDepositLo
  | periDepositHi
  | periCh
  | mpCfg
  | mpCfg2
  | mpPdCfg
  | mpStatus
  | mpAreaPeak
  | mpLenWid
  | mpCentroid
  | mpMeanSpat
  | mpRatio
  | mpFrameSample
  | mpFramesCnt
  | mpCrcCnt
  | mpLateCnt
  | mpRatioHeldCnt
  | mpCntCtl
  | mlStatus
  | mlCtl
  | mlHeadId
  | mlHeadFw
  | mlHeadCaps
  | mlDelay
  | mlHeadXyFs
  | mlHeadZFs
  | mlCntCtl
  | mlUpCrcCnt
  | mlUpMissCnt
  | mlDnErrCnt
  | mlBulkErrCnt
  | mlLossCnt
  | mlRetrainCnt
  | mlTestErrCnt
  | mlTestBitsLo
  | mlTestBitsHi
  | axStatus
  | axRecoatCfg
  | axRecoatEndA
  | axRecoatEndB
  | axRecoatDose
  | axRecoatStatus
  | axState
  | axPos
  | axTarget
  | axVel
  | axEncPos
  | axDev
  | axHomeLatch
  | axEncZ
  | axCfg
  | axHomeV
  | axHomeOfs
  | axFollowCfg
  | axDynV
  | axDynA
  | axCntCtl
  | axChatterCnt
  | axLimitStopCnt
  | axDevStopCnt
  | axQuadErrCnt
  | axSsiErrCnt
  | axKeptCnt
  | axSoftClampCnt
  | axStepsLo
  | axStepsHi
  | camStatus
  | camBufPeak
  | camCntCtl
  | camPortCrcCnt
  | camPortHdrCnt
  | camPortEccFixCnt
  | camPortUnexpCnt
  | camSState
  | camSTrig
  | camSPeriod
  | camSExpTime
  | camSExpCci
  | camSGainCci
  | camSCommit
  | camSGen
  | camSGenFrame
  | camSFrame
  | camSShortCnt
  | camSLongCnt
  | camSMissingCnt
  | camSSkipCnt
  | camSOverrunCnt
  | camSCntCtl
  | camCBlack
  | camCCtl
  | camCCcm0
  | camCCcm1
  | camCCcm2
  | camCCcm3
  | camCCcm4
  | camCCommit
  | haloStatus
  | haloNtestResult
  | haloCfg
  | haloVled
  | haloCntCtl
  | haloOpenCnt
  | haloShortCnt
  | haloBudgetCnt
  | haloStretchCnt
  | haloChLevel
  | haloChStatus
  | haloChVsink
  | haloChVerify
  | orbStatus
  | orbCtl
  | orbRxOtherCnt
  | orbPpCtl
  | orbPpFcsCnt
  | orbPpDupCnt
  | orbPpDropCnt
  | orbPpPrbsErrCnt
  | orbPpPrbsBitsLo
  | orbPpPrbsBitsHi
  | orbPpCntCtl
  | ptpStatus
  | ptpRate
  | ptpPhaseLeft
  | ptpUtcOffset
  | ptpPathDelayA
  | ptpPathDelayB
  | ptpCntCtl
  | ptpStepCnt
  | ptpSwitchCnt
  | ptpHoldoverCnt
  | ptpSeqErrCnt
  | ptpDdStatus
  | ptpDdOffset
  | ptpDdFreq
  | ptpDdGmHi
  | ptpDdGmLo
  | dramStatus
  | dramInfo
  | dramScrub
  | dramScrubPos
  | dramPassAge
  | dramPasrLo
  | dramPasrHi
  | dramUeAddrLo
  | dramUeAddrHi
  | dramCntCtl
  | dramCeCnt
  | dramUeCnt
  | dramFspCnt
  | dramDerateCnt
  | dramPassCnt
  | dramNrLo
  | dramNrHi
  | sramScrubCfg
  | sramUeAddr
  | sramCntCtl
  | sramCeCnt
  | sramUeCnt
  | sramPassCnt
  | crcStatus
  | crcCntCtl
  | crcBytesLo
  | crcBytesHi
  | dispStatus
  | dispCtl
  | dispBase
  | dispAperture
  | dispThmOrigin
  | dispThmMap
  | dispCommit
  | dispCntCtl
  | dispUnderrunCnt
  | dispSlipCnt
  | dispSyncMissCnt
  | dispTrainFailCnt
  | dispFrame
  | dispSyncPeriod
  | dispPalette
  | pwrStatus
  | pwrDomains
  | pwrUmbraTime
  | pwrWakeLeft
  | pwrRailV
  | pwrCntCtl
  | pwrUmbraCnt
  | pwrRailFaultCnt
  | pwrClkFaultCnt
  | thmStatus
  | thmCntCtl
  | thmSRead
  | thmSStatus
  | thmSBreachCnt
  | thmSMaxmin
  | calStatus
  | calCount
  | calLastNs
  | calLastSec
  | calLastSecHi
  | calLastOpsecLo
  | calLastOpsecHi
  | calRejectCnt
  | calCntCtl
  | calSubj
  | calDl
  | trustStatus
  | trustPwrCycles
  | trustOpsecLo
  | trustOpsecHi
  | trustUpdStatus
  | trustMr
  | tailStatus
  | tailCtl
  | tailWpos
  | tailSeqNext
  | tailFirstSeq
  | tailCursor
  | tailCntCtl
  | tailDropCnt
  | tailTornCnt
  | tailClearCnt
  | aperture
  deriving DecidableEq, Repr

/-- Where a register stands: first offset, distance and number of its instances, whether it is a
companion-die register (R13), its reserved bits when it has writable fields (none: all fields are
RO), and its command group: 0 in slot pages and doorbells, 16 for TAIL_CURSOR, 17 for
TAIL_CNT_CTL (R503). -/
structure RegPlace where
  reg : Reg
  base : Nat
  stride : Nat
  count : Nat
  companion : Bool
  reserved : Option W32
  group : Nat
  deriving DecidableEq, Repr

/-- A part of the register map. -/
def regMap0 : List RegPlace := [
  ⟨.devId, 0x0, 0x0, 1, true, none, 0⟩,
  ⟨.stepping, 0x4, 0x0, 1, true, none, 0⟩,
  ⟨.caps, 0x8, 0x0, 1, true, none, 0⟩,
  ⟨.planeStatus, 0x10, 0x0, 1, true, none, 0⟩,
  ⟨.eclipseStatus, 0x14, 0x0, 1, false, none, 0⟩,
  ⟨.ptpLatchNs, 0x20, 0x0, 1, true, none, 0⟩,
  ⟨.ptpLatchSec, 0x24, 0x0, 1, true, none, 0⟩,
  ⟨.ptpLatchSecHi, 0x28, 0x0, 1, true, none, 0⟩,
  ⟨.ptpLatchSample, 0x2C, 0x0, 1, true, none, 0⟩,
  ⟨.errLast, 0x30, 0x0, 1, true, none, 0⟩,
  ⟨.errLastAddr, 0x34, 0x0, 1, true, none, 0⟩,
  ⟨.hostLostCpl, 0x38, 0x0, 1, true, none, 0⟩,
  ⟨.eclipseEnter, 0x40, 0x0, 1, false, some 0x0, 2⟩,
  ⟨.eclipseLeave, 0x44, 0x0, 1, false, some 0x0, 2⟩,
  ⟨.eclipseCtl, 0x48, 0x0, 1, false, some 0xFFFEFFFE, 2⟩,
  ⟨.eclipsePins, 0x4C, 0x0, 1, false, none, 0⟩,
  ⟨.eclipseEntryCnt, 0x50, 0x0, 1, false, none, 0⟩,
  ⟨.eclipseCause, 0x80, 0x4, 32, false, none, 0⟩,
  ⟨.bootEphStatus, 0x100, 0x0, 1, true, none, 0⟩,
  ⟨.bootEphSeq, 0x104, 0x0, 1, true, none, 0⟩,
  ⟨.bootEphAdoptLo, 0x108, 0x0, 1, true, none, 0⟩,
  ⟨.bootEphAdoptHi, 0x10C, 0x0, 1, true, none, 0⟩,
  ⟨.bootEphReject, 0x110, 0x0, 1, true, none, 0⟩,
  ⟨.bootEphRejOfs, 0x114, 0x0, 1, true, none, 0⟩,
  ⟨.bootStatus, 0x120, 0x0, 1, true, none, 0⟩,
  ⟨.hostSlotStatus, 0x1000, 0x1000, 8, false, none, 0⟩,
  ⟨.hostRoleClaim, 0x1004, 0x1000, 8, false, some 0xFFFFFFF0, 0⟩,
  ⟨.hostRoleRelease, 0x1008, 0x1000, 8, false, some 0xFFFFFFF0, 0⟩,
  ⟨.hostRejectCnt, 0x100C, 0x1000, 8, false, none, 0⟩,
  ⟨.hostSlotCtl, 0x1010, 0x1000, 8, false, some 0xFFFFFFFC, 0⟩,
  ⟨.hostQpSelect, 0x1014, 0x1000, 8, false, some 0xFFFFFF00, 0⟩,
  ⟨.hostQpCtrl, 0x1018, 0x1000, 8, false, some 0xFFC0F0FE, 0⟩,
  ⟨.hostQpSize, 0x101C, 0x1000, 8, false, some 0x0, 0⟩,
  ⟨.hostQpSqBaseLo, 0x1020, 0x1000, 8, false, some 0x0, 0⟩,
  ⟨.hostQpSqBaseHi, 0x1024, 0x1000, 8, false, some 0x0, 0⟩,
  ⟨.hostQpCqBaseLo, 0x1028, 0x1000, 8, false, some 0x0, 0⟩,
  ⟨.hostQpCqBaseHi, 0x102C, 0x1000, 8, false, some 0x0, 0⟩,
  ⟨.hostQpStatus, 0x1030, 0x1000, 8, false, none, 0⟩,
  ⟨.hostDbSqTail, 0x10000, 0x10, 256, false, some 0xFFFF0000, 0⟩,
  ⟨.hostDbCqHead, 0x10004, 0x10, 256, false, some 0xFFFF0000, 0⟩]

/-- A part of the register map. -/
def regMap1 : List RegPlace := [
  ⟨.tailWindow, 0x20000, 0x4, 1024, true, none, 0⟩,
  ⟨.quoteBuffer, 0x21000, 0x4, 1024, true, none, 0⟩,
  ⟨.seStatus, 0x24000, 0x400, 32, false, none, 0⟩,
  ⟨.sePosX, 0x24004, 0x400, 32, false, none, 0⟩,
  ⟨.sePosY, 0x24008, 0x400, 32, false, none, 0⟩,
  ⟨.seOutX, 0x2400C, 0x400, 32, false, none, 0⟩,
  ⟨.seOutY, 0x24010, 0x400, 32, false, none, 0⟩,
  ⟨.seOutZ, 0x24014, 0x400, 32, false, none, 0⟩,
  ⟨.sePower, 0x24018, 0x400, 32, false, none, 0⟩,
  ⟨.seFactors, 0x2401C, 0x400, 32, false, none, 0⟩,
  ⟨.seWord, 0x24020, 0x400, 32, false, none, 0⟩,
  ⟨.seVseq, 0x24024, 0x400, 32, false, none, 0⟩,
  ⟨.seGridCrc, 0x24028, 0x400, 32, false, none, 0⟩,
  ⟨.seFocusGain, 0x2402C, 0x400, 32, false, none, 0⟩,
  ⟨.seCntCtl, 0x24030, 0x400, 32, false, some 0xFFC0FFFE, 2⟩,
  ⟨.seStarveCnt, 0x24040, 0x400, 32, false, none, 0⟩,
  ⟨.seInnerWaitCnt, 0x24044, 0x400, 32, false, none, 0⟩,
  ⟨.seSkyShortCnt, 0x24048, 0x400, 32, false, none, 0⟩,
  ⟨.seGridClampCnt, 0x2404C, 0x400, 32, false, none, 0⟩,
  ⟨.seNoPulseCnt, 0x24050, 0x400, 32, false, none, 0⟩,
  ⟨.seSpeedClampCnt, 0x24054, 0x400, 32, false, none, 0⟩,
  ⟨.seVectorsLo, 0x24060, 0x400, 32, false, none, 0⟩,
  ⟨.seVectorsHi, 0x24064, 0x400, 32, false, none, 0⟩,
  ⟨.seGateOnLo, 0x24068, 0x400, 32, false, none, 0⟩,
  ⟨.seGateOnHi, 0x2406C, 0x400, 32, false, none, 0⟩,
  ⟨.seStarveTimeLo, 0x24070, 0x400, 32, false, none, 0⟩,
  ⟨.seStarveTimeHi, 0x24074, 0x400, 32, false, none, 0⟩,
  ⟨.seSyncWaitLo, 0x24078, 0x400, 32, false, none, 0⟩,
  ⟨.seSyncWaitHi, 0x2407C, 0x400, 32, false, none, 0⟩,
  ⟨.arbStatus, 0x2C000, 0x0, 1, false, none, 0⟩,
  ⟨.arbHeldMask, 0x2C004, 0x0, 1, false, none, 0⟩,
  ⟨.arbEscMask, 0x2C008, 0x0, 1, false, none, 0⟩,
  ⟨.arbCandMask, 0x2C00C, 0x0, 1, false, none, 0⟩,
  ⟨.arbTailMin, 0x2C014, 0x0, 1, false, some 0x0, 2⟩,
  ⟨.arbCntCtl, 0x2C018, 0x0, 1, false, some 0xFF80FFFE, 2⟩,
  ⟨.arbHoldCnt, 0x2C040, 0x0, 1, false, none, 0⟩,
  ⟨.arbEscalateCnt, 0x2C044, 0x0, 1, false, none, 0⟩,
  ⟨.arbUnresolvedCnt, 0x2C048, 0x0, 1, false, none, 0⟩,
  ⟨.arbViolationCnt, 0x2C04C, 0x0, 1, false, none, 0⟩,
  ⟨.arbSeamCutCnt, 0x2C050, 0x0, 1, false, none, 0⟩]

/-- A part of the register map. -/
def regMap2 : List RegPlace := [
  ⟨.arbSeamClampCnt, 0x2C054, 0x0, 1, false, none, 0⟩,
  ⟨.arbForcedCnt, 0x2C058, 0x0, 1, false, none, 0⟩,
  ⟨.arbTakesLo, 0x2C060, 0x0, 1, false, none, 0⟩,
  ⟨.arbTakesHi, 0x2C064, 0x0, 1, false, none, 0⟩,
  ⟨.arbHoldTimeLo, 0x2C068, 0x0, 1, false, none, 0⟩,
  ⟨.arbHoldTimeHi, 0x2C06C, 0x0, 1, false, none, 0⟩,
  ⟨.arbLogStatus, 0x2C0C0, 0x0, 1, false, none, 0⟩,
  ⟨.arbLogW0, 0x2C0C4, 0x0, 1, false, none, 0⟩,
  ⟨.arbLogW1, 0x2C0C8, 0x0, 1, false, none, 0⟩,
  ⟨.arbLogW2, 0x2C0CC, 0x0, 1, false, none, 0⟩,
  ⟨.arbLogW3, 0x2C0D0, 0x0, 1, false, none, 0⟩,
  ⟨.arbLogW4, 0x2C0D4, 0x0, 1, false, none, 0⟩,
  ⟨.arbLogPop, 0x2C0D8, 0x0, 1, false, some 0xFFFFFFFE, 2⟩,
  ⟨.arbEngState, 0x2C400, 0x20, 32, false, none, 0⟩,
  ⟨.arbEngHoldStart, 0x2C404, 0x20, 32, false, none, 0⟩,
  ⟨.arbEngHoldMax, 0x2C408, 0x20, 32, false, none, 0⟩,
  ⟨.arbEngHolds, 0x2C40C, 0x20, 32, false, none, 0⟩,
  ⟨.arbEngHoldTimeLo, 0x2C410, 0x20, 32, false, none, 0⟩,
  ⟨.arbEngHoldTimeHi, 0x2C414, 0x20, 32, false, none, 0⟩,
  ⟨.arbEngTakesLo, 0x2C418, 0x20, 32, false, none, 0⟩,
  ⟨.arbEngTakesHi, 0x2C41C, 0x20, 32, false, none, 0⟩,
  ⟨.tideStatus, 0x2D000, 0x0, 1, false, none, 0⟩,
  ⟨.tideTripLo, 0x2D004, 0x0, 1, false, none, 0⟩,
  ⟨.tideTripHi, 0x2D008, 0x0, 1, false, none, 0⟩,
  ⟨.tideCntCtl, 0x2D00C, 0x0, 1, false, some 0xFFF0FFFE, 5⟩,
  ⟨.tideSwapCnt, 0x2D040, 0x0, 1, false, none, 0⟩,
  ⟨.tideSatSwapCnt, 0x2D044, 0x0, 1, false, none, 0⟩,
  ⟨.tideFeTripCnt, 0x2D048, 0x0, 1, false, none, 0⟩,
  ⟨.tideSetEmptyCnt, 0x2D04C, 0x0, 1, false, none, 0⟩,
  ⟨.tideCapStatus, 0x2D080, 0x10, 2, false, none, 0⟩,
  ⟨.tideCapTrig, 0x2D084, 0x10, 2, false, none, 0⟩,
  ⟨.tideLoopCtl, 0x2D400, 0x20, 64, false, some 0xFFFFE, 5⟩,
  ⟨.tideLoopStatus, 0x2D404, 0x20, 64, false, some 0xFE00, 5⟩,
  ⟨.tideSp, 0x2D408, 0x20, 64, false, some 0x0, 5⟩,
  ⟨.tideMan, 0x2D40C, 0x20, 64, false, some 0x0, 5⟩,
  ⟨.tideOut, 0x2D410, 0x20, 64, false, none, 0⟩,
  ⟨.tidePv, 0x2D414, 0x20, 64, false, none, 0⟩,
  ⟨.tideIntLo, 0x2D418, 0x20, 64, false, none, 0⟩,
  ⟨.tideIntHi, 0x2D41C, 0x20, 64, false, none, 0⟩,
  ⟨.periStatus, 0x2E000, 0x0, 1, false, none, 0⟩]

/-- A part of the register map. -/
def regMap3 : List RegPlace := [
  ⟨.periProbe, 0x2E004, 0x0, 1, false, some 0xF800F800, 3⟩,
  ⟨.periProbeT, 0x2E008, 0x0, 1, false, none, 0⟩,
  ⟨.periPassMax, 0x2E00C, 0x0, 1, false, none, 0⟩,
  ⟨.periSatCnt, 0x2E010, 0x0, 1, false, none, 0⟩,
  ⟨.periCntCtl, 0x2E014, 0x0, 1, false, some 0xFFFCFFFE, 3⟩,
  ⟨.periStepsLo, 0x2E020, 0x0, 1, false, none, 0⟩,
  ⟨.periStepsHi, 0x2E024, 0x0, 1, false, none, 0⟩,
  ⟨.periDepositLo, 0x2E028, 0x0, 1, false, none, 0⟩,
  ⟨.periDepositHi, 0x2E02C, 0x0, 1, false, none, 0⟩,
  ⟨.periCh, 0x2E100, 0x4, 32, false, none, 0⟩,
  ⟨.mpCfg, 0x2F100, 0x40, 32, false, some 0xFC00FC00, 5⟩,
  ⟨.mpCfg2, 0x2F104, 0x40, 32, false, some 0xFC00FFC0, 5⟩,
  ⟨.mpPdCfg, 0x2F108, 0x40, 32, false, some 0xFFF0, 5⟩,
  ⟨.mpStatus, 0x2F10C, 0x40, 32, false, none, 0⟩,
  ⟨.mpAreaPeak, 0x2F110, 0x40, 32, false, none, 0⟩,
  ⟨.mpLenWid, 0x2F114, 0x40, 32, false, none, 0⟩,
  ⟨.mpCentroid, 0x2F118, 0x40, 32, false, none, 0⟩,
  ⟨.mpMeanSpat, 0x2F11C, 0x40, 32, false, none, 0⟩,
  ⟨.mpRatio, 0x2F120, 0x40, 32, false, none, 0⟩,
  ⟨.mpFrameSample, 0x2F124, 0x40, 32, false, none, 0⟩,
  ⟨.mpFramesCnt, 0x2F128, 0x40, 32, false, none, 0⟩,
  ⟨.mpCrcCnt, 0x2F12C, 0x40, 32, false, none, 0⟩,
  ⟨.mpLateCnt, 0x2F130, 0x40, 32, false, none, 0⟩,
  ⟨.mpRatioHeldCnt, 0x2F134, 0x40, 32, false, none, 0⟩,
  ⟨.mpCntCtl, 0x2F138, 0x40, 32, false, some 0xFFF0FFFE, 5⟩,
  ⟨.mlStatus, 0x30000, 0x100, 32, false, none, 0⟩,
  ⟨.mlCtl, 0x30004, 0x100, 32, false, some 0xFFFFFEF8, 15⟩,
  ⟨.mlHeadId, 0x30008, 0x100, 32, false, none, 0⟩,
  ⟨.mlHeadFw, 0x3000C, 0x100, 32, false, none, 0⟩,
  ⟨.mlHeadCaps, 0x30010, 0x100, 32, false, none, 0⟩,
  ⟨.mlDelay, 0x30014, 0x100, 32, false, none, 0⟩,
  ⟨.mlHeadXyFs, 0x30018, 0x100, 32, false, none, 0⟩,
  ⟨.mlHeadZFs, 0x3001C, 0x100, 32, false, none, 0⟩,
  ⟨.mlCntCtl, 0x30030, 0x100, 32, false, some 0xFF80FFFE, 15⟩,
  ⟨.mlUpCrcCnt, 0x30040, 0x100, 32, false, none, 0⟩,
  ⟨.mlUpMissCnt, 0x30044, 0x100, 32, false, none, 0⟩,
  ⟨.mlDnErrCnt, 0x30048, 0x100, 32, false, none, 0⟩,
  ⟨.mlBulkErrCnt, 0x3004C, 0x100, 32, false, none, 0⟩,
  ⟨.mlLossCnt, 0x30050, 0x100, 32, false, none, 0⟩,
  ⟨.mlRetrainCnt, 0x30054, 0x100, 32, false, none, 0⟩]

/-- A part of the register map. -/
def regMap4 : List RegPlace := [
  ⟨.mlTestErrCnt, 0x30058, 0x100, 32, false, none, 0⟩,
  ⟨.mlTestBitsLo, 0x30060, 0x100, 32, false, none, 0⟩,
  ⟨.mlTestBitsHi, 0x30064, 0x100, 32, false, none, 0⟩,
  ⟨.axStatus, 0x32000, 0x0, 1, false, none, 0⟩,
  ⟨.axRecoatCfg, 0x32004, 0x0, 1, false, some 0xFFFE, 6⟩,
  ⟨.axRecoatEndA, 0x32008, 0x0, 1, false, some 0x0, 6⟩,
  ⟨.axRecoatEndB, 0x3200C, 0x0, 1, false, some 0x0, 6⟩,
  ⟨.axRecoatDose, 0x32010, 0x0, 1, false, some 0x0, 6⟩,
  ⟨.axRecoatStatus, 0x32014, 0x0, 1, false, none, 0⟩,
  ⟨.axState, 0x32100, 0x80, 8, false, some 0xFF01F0F0, 6⟩,
  ⟨.axPos, 0x32104, 0x80, 8, false, none, 0⟩,
  ⟨.axTarget, 0x32108, 0x80, 8, false, none, 0⟩,
  ⟨.axVel, 0x3210C, 0x80, 8, false, none, 0⟩,
  ⟨.axEncPos, 0x32110, 0x80, 8, false, none, 0⟩,
  ⟨.axDev, 0x32114, 0x80, 8, false, none, 0⟩,
  ⟨.axHomeLatch, 0x32118, 0x80, 8, false, none, 0⟩,
  ⟨.axEncZ, 0x3211C, 0x80, 8, false, none, 0⟩,
  ⟨.axCfg, 0x32120, 0x80, 8, false, some 0xFFFC0000, 6⟩,
  ⟨.axHomeV, 0x32124, 0x80, 8, false, some 0x0, 6⟩,
  ⟨.axHomeOfs, 0x32128, 0x80, 8, false, some 0x0, 6⟩,
  ⟨.axFollowCfg, 0x3212C, 0x80, 8, false, some 0x0, 6⟩,
  ⟨.axDynV, 0x32130, 0x80, 8, false, none, 0⟩,
  ⟨.axDynA, 0x32134, 0x80, 8, false, none, 0⟩,
  ⟨.axCntCtl, 0x3213C, 0x80, 8, false, some 0xFF80FFFE, 6⟩,
  ⟨.axChatterCnt, 0x32140, 0x80, 8, false, none, 0⟩,
  ⟨.axLimitStopCnt, 0x32144, 0x80, 8, false, none, 0⟩,
  ⟨.axDevStopCnt, 0x32148, 0x80, 8, false, none, 0⟩,
  ⟨.axQuadErrCnt, 0x3214C, 0x80, 8, false, none, 0⟩,
  ⟨.axSsiErrCnt, 0x32150, 0x80, 8, false, none, 0⟩,
  ⟨.axKeptCnt, 0x32154, 0x80, 8, false, none, 0⟩,
  ⟨.axSoftClampCnt, 0x32158, 0x80, 8, false, none, 0⟩,
  ⟨.axStepsLo, 0x32160, 0x80, 8, false, none, 0⟩,
  ⟨.axStepsHi, 0x32164, 0x80, 8, false, none, 0⟩,
  ⟨.camStatus, 0x33000, 0x0, 1, false, none, 0⟩,
  ⟨.camBufPeak, 0x33004, 0x0, 1, false, none, 0⟩,
  ⟨.camCntCtl, 0x33008, 0x0, 1, false, some 0xFF00FFFE, 7⟩,
  ⟨.camPortCrcCnt, 0x33010, 0x10, 2, false, none, 0⟩,
  ⟨.camPortHdrCnt, 0x33014, 0x10, 2, false, none, 0⟩,
  ⟨.camPortEccFixCnt, 0x33018, 0x10, 2, false, none, 0⟩,
  ⟨.camPortUnexpCnt, 0x3301C, 0x10, 2, false, none, 0⟩]

/-- A part of the register map. -/
def regMap5 : List RegPlace := [
  ⟨.camSState, 0x33100, 0x40, 8, false, some 0xFF00FF90, 7⟩,
  ⟨.camSTrig, 0x33104, 0x40, 8, false, some 0x30000000, 7⟩,
  ⟨.camSPeriod, 0x33108, 0x40, 8, false, some 0x0, 7⟩,
  ⟨.camSExpTime, 0x3310C, 0x40, 8, false, some 0x0, 7⟩,
  ⟨.camSExpCci, 0x33110, 0x40, 8, false, some 0x0, 7⟩,
  ⟨.camSGainCci, 0x33114, 0x40, 8, false, some 0x0, 7⟩,
  ⟨.camSCommit, 0x33118, 0x40, 8, false, some 0xFFFFFFFE, 7⟩,
  ⟨.camSGen, 0x3311C, 0x40, 8, false, none, 0⟩,
  ⟨.camSGenFrame, 0x33120, 0x40, 8, false, none, 0⟩,
  ⟨.camSFrame, 0x33124, 0x40, 8, false, none, 0⟩,
  ⟨.camSShortCnt, 0x33128, 0x40, 8, false, none, 0⟩,
  ⟨.camSLongCnt, 0x3312C, 0x40, 8, false, none, 0⟩,
  ⟨.camSMissingCnt, 0x33130, 0x40, 8, false, none, 0⟩,
  ⟨.camSSkipCnt, 0x33134, 0x40, 8, false, none, 0⟩,
  ⟨.camSOverrunCnt, 0x33138, 0x40, 8, false, none, 0⟩,
  ⟨.camSCntCtl, 0x3313C, 0x40, 8, false, some 0xFFE0FFFE, 7⟩,
  ⟨.camCBlack, 0x33300, 0x40, 8, false, some 0xFFFF0000, 7⟩,
  ⟨.camCCtl, 0x33304, 0x40, 8, false, some 0xFFFF0000, 7⟩,
  ⟨.camCCcm0, 0x33308, 0x40, 8, false, some 0x0, 7⟩,
  ⟨.camCCcm1, 0x3330C, 0x40, 8, false, some 0x0, 7⟩,
  ⟨.camCCcm2, 0x33310, 0x40, 8, false, some 0x0, 7⟩,
  ⟨.camCCcm3, 0x33314, 0x40, 8, false, some 0x0, 7⟩,
  ⟨.camCCcm4, 0x33318, 0x40, 8, false, some 0x0, 7⟩,
  ⟨.camCCommit, 0x3331C, 0x40, 8, false, some 0xFFFFFFFE, 7⟩,
  ⟨.haloStatus, 0x34000, 0x0, 1, true, none, 0⟩,
  ⟨.haloNtestResult, 0x34004, 0x0, 1, true, none, 0⟩,
  ⟨.haloCfg, 0x34008, 0x0, 1, true, none, 0⟩,
  ⟨.haloVled, 0x3400C, 0x0, 1, true, none, 0⟩,
  ⟨.haloCntCtl, 0x34010, 0x0, 1, true, some 0xFFF0FFFE, 8⟩,
  ⟨.haloOpenCnt, 0x34040, 0x0, 1, true, none, 0⟩,
  ⟨.haloShortCnt, 0x34044, 0x0, 1, true, none, 0⟩,
  ⟨.haloBudgetCnt, 0x34048, 0x0, 1, true, none, 0⟩,
  ⟨.haloStretchCnt, 0x3404C, 0x0, 1, true, none, 0⟩,
  ⟨.haloChLevel, 0x34100, 0x10, 24, true, some 0xFF0000, 8⟩,
  ⟨.haloChStatus, 0x34104, 0x10, 24, true, some 0xF00E0000, 8⟩,
  ⟨.haloChVsink, 0x34108, 0x10, 24, true, none, 0⟩,
  ⟨.haloChVerify, 0x3410C, 0x10, 24, true, none, 0⟩,
  ⟨.orbStatus, 0x35000, 0x0, 1, false, none, 0⟩,
  ⟨.orbCtl, 0x35004, 0x0, 1, false, some 0xFFFFFFFE, 15⟩,
  ⟨.orbRxOtherCnt, 0x3500C, 0x0, 1, false, none, 0⟩]

/-- A part of the register map. -/
def regMap6 : List RegPlace := [
  ⟨.orbPpCtl, 0x35100, 0x40, 2, false, some 0xFFFFFCF8, 15⟩,
  ⟨.orbPpFcsCnt, 0x35110, 0x40, 2, false, none, 0⟩,
  ⟨.orbPpDupCnt, 0x35114, 0x40, 2, false, none, 0⟩,
  ⟨.orbPpDropCnt, 0x35118, 0x40, 2, false, none, 0⟩,
  ⟨.orbPpPrbsErrCnt, 0x3511C, 0x40, 2, false, none, 0⟩,
  ⟨.orbPpPrbsBitsLo, 0x35130, 0x40, 2, false, none, 0⟩,
  ⟨.orbPpPrbsBitsHi, 0x35134, 0x40, 2, false, none, 0⟩,
  ⟨.orbPpCntCtl, 0x3513C, 0x40, 2, false, some 0xFFF0FFFE, 15⟩,
  ⟨.ptpStatus, 0x36000, 0x0, 1, false, none, 0⟩,
  ⟨.ptpRate, 0x36004, 0x0, 1, false, none, 0⟩,
  ⟨.ptpPhaseLeft, 0x36008, 0x0, 1, false, none, 0⟩,
  ⟨.ptpUtcOffset, 0x3600C, 0x0, 1, false, none, 0⟩,
  ⟨.ptpPathDelayA, 0x36010, 0x0, 1, false, none, 0⟩,
  ⟨.ptpPathDelayB, 0x36014, 0x0, 1, false, none, 0⟩,
  ⟨.ptpCntCtl, 0x36018, 0x0, 1, false, some 0xFFF0FFFE, 10⟩,
  ⟨.ptpStepCnt, 0x36040, 0x0, 1, false, none, 0⟩,
  ⟨.ptpSwitchCnt, 0x36044, 0x0, 1, false, none, 0⟩,
  ⟨.ptpHoldoverCnt, 0x36048, 0x0, 1, false, none, 0⟩,
  ⟨.ptpSeqErrCnt, 0x3604C, 0x0, 1, false, none, 0⟩,
  ⟨.ptpDdStatus, 0x36100, 0x40, 2, false, none, 0⟩,
  ⟨.ptpDdOffset, 0x36104, 0x40, 2, false, none, 0⟩,
  ⟨.ptpDdFreq, 0x36108, 0x40, 2, false, none, 0⟩,
  ⟨.ptpDdGmHi, 0x3610C, 0x40, 2, false, none, 0⟩,
  ⟨.ptpDdGmLo, 0x36110, 0x40, 2, false, none, 0⟩,
  ⟨.dramStatus, 0x37000, 0x0, 1, false, none, 0⟩,
  ⟨.dramInfo, 0x37004, 0x0, 1, false, none, 0⟩,
  ⟨.dramScrub, 0x37008, 0x0, 1, false, some 0xFFFE, 15⟩,
  ⟨.dramScrubPos, 0x3700C, 0x0, 1, false, none, 0⟩,
  ⟨.dramPassAge, 0x37010, 0x0, 1, false, none, 0⟩,
  ⟨.dramPasrLo, 0x37014, 0x0, 1, false, none, 0⟩,
  ⟨.dramPasrHi, 0x37018, 0x0, 1, false, none, 0⟩,
  ⟨.dramUeAddrLo, 0x3701C, 0x0, 1, false, none, 0⟩,
  ⟨.dramUeAddrHi, 0x37020, 0x0, 1, false, none, 0⟩,
  ⟨.dramCntCtl, 0x37030, 0x0, 1, false, some 0xFFE0FFFE, 15⟩,
  ⟨.dramCeCnt, 0x37040, 0x0, 1, false, none, 0⟩,
  ⟨.dramUeCnt, 0x37044, 0x0, 1, false, none, 0⟩,
  ⟨.dramFspCnt, 0x37048, 0x0, 1, false, none, 0⟩,
  ⟨.dramDerateCnt, 0x3704C, 0x0, 1, false, none, 0⟩,
  ⟨.dramPassCnt, 0x37050, 0x0, 1, false, none, 0⟩,
  ⟨.dramNrLo, 0x37060, 0x0, 1, false, none, 0⟩]

/-- A part of the register map. -/
def regMap7 : List RegPlace := [
  ⟨.dramNrHi, 0x37064, 0x0, 1, false, none, 0⟩,
  ⟨.sramScrubCfg, 0x38000, 0x0, 1, false, some 0xFFFFF000, 15⟩,
  ⟨.sramUeAddr, 0x38004, 0x0, 1, false, none, 0⟩,
  ⟨.sramCntCtl, 0x38008, 0x0, 1, false, some 0xFFF8FFFE, 15⟩,
  ⟨.sramCeCnt, 0x38040, 0x0, 1, false, none, 0⟩,
  ⟨.sramUeCnt, 0x38044, 0x0, 1, false, none, 0⟩,
  ⟨.sramPassCnt, 0x38048, 0x0, 1, false, none, 0⟩,
  ⟨.crcStatus, 0x39000, 0x0, 1, false, none, 0⟩,
  ⟨.crcCntCtl, 0x39004, 0x0, 1, false, some 0xFFFFFFFE, 15⟩,
  ⟨.crcBytesLo, 0x39008, 0x0, 1, false, none, 0⟩,
  ⟨.crcBytesHi, 0x3900C, 0x0, 1, false, none, 0⟩,
  ⟨.dispStatus, 0x3A000, 0x0, 1, false, none, 0⟩,
  ⟨.dispCtl, 0x3A004, 0x0, 1, false, some 0xFFFEFFF8, 9⟩,
  ⟨.dispBase, 0x3A008, 0x0, 1, false, some 0xFFFFF800, 9⟩,
  ⟨.dispAperture, 0x3A00C, 0x0, 1, false, some 0xFFFFF800, 9⟩,
  ⟨.dispThmOrigin, 0x3A010, 0x0, 1, false, some 0x0, 9⟩,
  ⟨.dispThmMap, 0x3A014, 0x0, 1, false, some 0x0, 9⟩,
  ⟨.dispCommit, 0x3A018, 0x0, 1, false, some 0xFFFFFFFC, 9⟩,
  ⟨.dispCntCtl, 0x3A01C, 0x0, 1, false, some 0xFFF0FFFE, 9⟩,
  ⟨.dispUnderrunCnt, 0x3A040, 0x0, 1, false, none, 0⟩,
  ⟨.dispSlipCnt, 0x3A044, 0x0, 1, false, none, 0⟩,
  ⟨.dispSyncMissCnt, 0x3A048, 0x0, 1, false, none, 0⟩,
  ⟨.dispTrainFailCnt, 0x3A04C, 0x0, 1, false, none, 0⟩,
  ⟨.dispFrame, 0x3A050, 0x0, 1, false, none, 0⟩,
  ⟨.dispSyncPeriod, 0x3A054, 0x0, 1, false, none, 0⟩,
  ⟨.dispPalette, 0x3A400, 0x4, 256, false, some 0xFF000000, 9⟩,
  ⟨.pwrStatus, 0x3B000, 0x0, 1, true, none, 0⟩,
  ⟨.pwrDomains, 0x3B004, 0x0, 1, true, none, 0⟩,
  ⟨.pwrUmbraTime, 0x3B008, 0x0, 1, true, none, 0⟩,
  ⟨.pwrWakeLeft, 0x3B00C, 0x0, 1, true, none, 0⟩,
  ⟨.pwrRailV, 0x3B010, 0x4, 7, true, none, 0⟩,
  ⟨.pwrCntCtl, 0x3B030, 0x0, 1, true, some 0xFFF8FFFE, 14⟩,
  ⟨.pwrUmbraCnt, 0x3B040, 0x0, 1, true, none, 0⟩,
  ⟨.pwrRailFaultCnt, 0x3B044, 0x0, 1, true, none, 0⟩,
  ⟨.pwrClkFaultCnt, 0x3B048, 0x0, 1, true, none, 0⟩,
  ⟨.thmStatus, 0x3C000, 0x0, 1, true, none, 0⟩,
  ⟨.thmCntCtl, 0x3C004, 0x0, 1, true, some 0xFFFFFFFE, 14⟩,
  ⟨.thmSRead, 0x3C100, 0x10, 22, true, none, 0⟩,
  ⟨.thmSStatus, 0x3C104, 0x10, 22, true, some 0xFFFFC00, 14⟩,
  ⟨.thmSBreachCnt, 0x3C108, 0x10, 22, true, none, 0⟩]

/-- A part of the register map. -/
def regMap8 : List RegPlace := [
  ⟨.thmSMaxmin, 0x3C10C, 0x10, 22, true, none, 0⟩,
  ⟨.calStatus, 0x3D000, 0x0, 1, true, none, 0⟩,
  ⟨.calCount, 0x3D004, 0x0, 1, true, none, 0⟩,
  ⟨.calLastNs, 0x3D008, 0x0, 1, true, none, 0⟩,
  ⟨.calLastSec, 0x3D00C, 0x0, 1, true, none, 0⟩,
  ⟨.calLastSecHi, 0x3D010, 0x0, 1, true, none, 0⟩,
  ⟨.calLastOpsecLo, 0x3D014, 0x0, 1, true, none, 0⟩,
  ⟨.calLastOpsecHi, 0x3D018, 0x0, 1, true, none, 0⟩,
  ⟨.calRejectCnt, 0x3D01C, 0x0, 1, true, none, 0⟩,
  ⟨.calCntCtl, 0x3D020, 0x0, 1, true, some 0xFFFCFFFE, 4⟩,
  ⟨.calSubj, 0x3D040, 0x4, 5, true, none, 0⟩,
  ⟨.calDl, 0x3D100, 0x4, 32, true, none, 0⟩,
  ⟨.trustStatus, 0x3E000, 0x0, 1, true, none, 0⟩,
  ⟨.trustPwrCycles, 0x3E004, 0x0, 1, true, none, 0⟩,
  ⟨.trustOpsecLo, 0x3E008, 0x0, 1, true, none, 0⟩,
  ⟨.trustOpsecHi, 0x3E00C, 0x0, 1, true, none, 0⟩,
  ⟨.trustUpdStatus, 0x3E010, 0x0, 1, true, none, 0⟩,
  ⟨.trustMr, 0x3E100, 0x4, 128, true, none, 0⟩,
  ⟨.tailStatus, 0x3F000, 0x0, 1, true, none, 0⟩,
  ⟨.tailCtl, 0x3F004, 0x0, 1, true, some 0xFFFFFFFC, 11⟩,
  ⟨.tailWpos, 0x3F008, 0x0, 1, true, none, 0⟩,
  ⟨.tailSeqNext, 0x3F00C, 0x0, 1, true, none, 0⟩,
  ⟨.tailFirstSeq, 0x3F010, 0x0, 1, true, none, 0⟩,
  ⟨.tailCursor, 0x3F014, 0x0, 1, true, some 0x7FFFE000, 16⟩,
  ⟨.tailCntCtl, 0x3F018, 0x0, 1, true, some 0xFFF8FFFE, 17⟩,
  ⟨.tailDropCnt, 0x3F040, 0x0, 1, true, none, 0⟩,
  ⟨.tailTornCnt, 0x3F044, 0x0, 1, true, none, 0⟩,
  ⟨.tailClearCnt, 0x3F048, 0x0, 1, true, none, 0⟩,
  ⟨.aperture, 0x40000, 0x4, 65536, false, some 0x0, 9⟩]

/-- The register map. -/
def regMap : List RegPlace :=
  regMap0 ++ regMap1 ++ regMap2 ++ regMap3 ++ regMap4 ++ regMap5 ++ regMap6 ++ regMap7 ++ regMap8

/-- The index of the instance that stands at offset `a`, if the row has one there. -/
def RegPlace.at? (p : RegPlace) (a : Nat) : Option Nat :=
  if a < p.base then none
  else
    let d := a - p.base
    if p.stride = 0 then (if d = 0 then some 0 else none)
    else if d % p.stride = 0 ∧ d / p.stride < p.count then
      (if p.reg = .trustMr ∧ 12 ≤ d / 4 % 16 then none else some (d / p.stride))
    else none

/-- The register at a BAR0 offset, and its instance (R9: none where no chapter lists one). -/
def regAt (a : Nat) : Option (RegPlace × Nat) :=
  regMap.findSome? fun p => (p.at? a).map fun i => (p, i)

end Sys2Proof.Machine
end

