-- ==== Sys2Proof/Machine/Tail.lean ====
section
/-!
DEFINITION. The Tail recorder's region, writer, freezing and commands (R486–R499).
-/

namespace Sys2Proof.Machine

/-- The Tail region of flash, and its end (R459, R486). -/
def tailOfs : Nat := 0x2000000
def tailBytes : Nat := 33554432

/-- A record of the region at offset `o`: its LENGTH, whether MARK is set, and its SEQ when it is valid
(R487, R488). `none` where the rest of the block is unused or no record can stand. -/
def State.tailRec? (s : State) (o : Nat) : Option (Nat × Bool × Option W32) :=
  let len := leNat (s.flashRead (tailOfs + o + 2) 2)
  if len < 44 ∨ 1064 < len ∨ len % 4 ≠ 0 ∨ 4096 < o % 4096 + len then none
  else
    let b := s.flashRead (tailOfs + o) len
    let mark := uAt b 0 2 == 0xA55A
    let valid := mark && crc32c (slice b 2 (len - 6)) == BitVec.ofNat 32 (uAt b (len - 4) 4)
    some (len, mark, if valid then some (BitVec.ofNat 32 (uAt b 0x10 4)) else none)

/-- What a walk over the region has found: torn records, and the SEQs of the first and last valid one. -/
structure TailWalk where
  torn : Nat := 0
  first : Option W32 := none
  last : Option W32 := none

/-- The records of one block, from offset `o`; at most 93 fit. -/
def State.walkBlock (s : State) : Nat → Nat → TailWalk → TailWalk
  | 0, _, w => w
  | k + 1, o, w =>
    match s.tailRec? o with
    | none => w
    | some (len, mark, seq) =>
      let w := { w with torn := w.torn + b1 (!mark), first := w.first.or seq, last := seq.or w.last }
      if (o + len) % 4096 = 0 then w else s.walkBlock k (o + len) w

/-- Power-up finds the write position (R494). -/
def State.tailWalk (s : State) : State :=
  let free := (List.range 8192).find? fun b => leNat (s.flashRead (tailOfs + 4096 * b + 2) 2) == 0xFFFF
  let n := free.getD 8192
  let w := (List.range n).foldl (fun w b => s.walkBlock 94 (4096 * b) w) ({} : TailWalk)
  { s with tail := { s.tail with
    wpos := 4096 * n, full := free.isNone, torn := s.tail.torn.add w.torn
    firstSeq := w.first.getD 0, lastValid := w.last } }

/-- TAIL_FIRST_SEQ (R503). -/
def Tail.first (t : Tail) : W32 := if t.lastValid.isNone then t.seqNext else t.firstSeq

/-- Where the next record of `len` bytes goes: no record crosses a block (R486). -/
def Tail.place (t : Tail) (len : Nat) : Nat :=
  if t.wpos % 4096 + len ≤ 4096 then t.wpos else (t.wpos + 4095) / 4096 * 4096

/-- A record of `len` bytes fits in no block at or after the write position (R493). -/
def Tail.noRoom (t : Tail) (len : Nat) : Bool := decide (tailBytes < t.place len + len)

/-- The record that the writer takes next: the companion-die buffer's first, then the stage's. -/
def State.tailNext (s : State) : Option TailRec :=
  s.tail.buffer.head?.or (if s.power.core then s.tail.stage.head? else none)

/-- FULL is set when the next record fits nowhere: the one that waits, or the shortest that can be made (R493). -/
def State.noteFull (s : State) : State :=
  if s.tail.noRoom (s.tailNext.elim 44 (·.length)) then { s with tail := { s.tail with full := true } } else s

/-- FREEZE takes effect (R495). On this stepping a record whose programming began less than 1 µs before
stays without its MARK (R496). -/
def State.setFreeze (on : Bool) (s : State) : State :=
  let s := { s with tail := { s.tail with freeze := on } }
  match s.tail.busy with
  | some (r, o, at_) =>
    if on ∧ s.ix < at_ + 4 then
      ({ s with tail := { s.tail with busy := none, wpos := o + r.length, torn := s.tail.torn.inc } }).noteFull
    else s
  | none => s

/-- The TAIL_FREEZE commands that waited for BUSY 0 (R496). -/
def State.tailFrozen (s : State) : State :=
  let l := s.tail.freezeWaits
  let s := { s with tail := { s.tail with freezeWaits := [] } }
  l.foldl (fun s w => (s.setFreeze w.2).finishId w.1 0 0 0 false []) s

/-- The record in progress gets its MARK (R488). -/
def State.tailMark (s : State) : State :=
  match s.tail.busy with
  | none => s
  | some (r, o, _) =>
    let s := s.flashWrite (tailOfs + o) (leBytes 2 0xA55A)
    let t := s.tail
    ({ s with tail := { t with
      busy := none, wpos := o + r.length, firstSeq := if t.lastValid.isNone then r.seq else t.firstSeq
      lastValid := some r.seq } }).noteFull.tailFrozen

/-- The programming of a record begins: every byte but MARK (R488). -/
def State.tailBegin (r : TailRec) (s : State) : State :=
  let o := s.tail.place r.length
  let s := s.flashWrite (tailOfs + o) (r.bytes 0xFFFF)
  { s with tail := { s.tail with busy := some (r, o, s.ix) } }

/-- The writer may start a record (R492, R495, R496, R499). -/
def State.tailFree (s : State) : Bool :=
  s.power.nvOpen && !s.tail.freeze && s.tail.erase.isNone && !s.tail.full && decide (s.tail.holdUntil ≤ s.ix)

/-- TAIL_FLUSH: a record's programming begins, or the one in progress gets its MARK. Records of the
companion-die buffer go first. -/
def execTailFlush (s : State) : Host.Outcome State Fault Refusal :=
  .next (if s.tail.busy.isSome then s.tailMark
  else if !s.tailFree then s
  else
    let t := s.tail
    match s.tailNext with
    | none => s
    | some r =>
      if t.noRoom r.length then { s with tail := { t with full := true } }
      else
        let t := if t.buffer.isEmpty then { t with stage := t.stage.tail } else { t with buffer := t.buffer.tail }
        ({ s with tail := t }).tailBegin r)

/-- TAIL_STATUS (R503). -/
def State.tailStatusWord (s : State) : W32 :=
  let t := s.tail
  let waits := !(t.buffer.isEmpty && t.stage.isEmpty) && !s.power.nvOpen
  let kib := if s.power.core then (recBytes t.stage + 1023) / 1024 else 0
  packWord [(b1 t.full, 31), (b1 t.freeze, 30), (b1 t.busy.isSome, 29), (b1 t.erase.isSome, 28),
    (b1 waits, 27), (kib, 0)]

/-- TAIL_STATUS, the command (R498). -/
def execTailStatus (e : Entry) (s : State) : Host.Outcome State Fault Refusal :=
  s.command 0x0B00 e fun f s =>
    s.checked f [e.zeroFrom 0x18 40] fun s =>
      s.ok f (s.tailStatusWord.toNat + s.tail.wpos * 2 ^ 32)
        (s.tail.first.toNat + s.tail.seqNext.toNat * 2 ^ 32) []

/-- TAIL_FREEZE (R498): FREEZE is written only while BUSY is 0. -/
def execTailFreeze (e : Entry) (s : State) : Host.Outcome State Fault Refusal :=
  s.command 0x0B40 e fun f s =>
    let on := e.u 0x18 1
    s.checked f [(decide (1 < on), { code := 0x0204, ofs := 0x18 }), e.zeroFrom 0x19 39] fun s =>
      if s.tail.busy.isSome then
        let s := s.launch f
        { s with tail := { s.tail with freezeWaits := s.tail.freezeWaits ++ [(f.id, on == 1)] } }
      else (s.setFreeze (on == 1)).ok f 0 0 []

/-- TAIL_NOTE (R498). -/
def execTailNote (e : Entry) (s : State) : Host.Outcome State Fault Refusal :=
  s.command 0x0B41 e fun f s =>
    let n := e.dataLen
    s.checked f [e.zeroFrom 0x18 40, (decide (n < 12 ∨ 1020 < n ∨ n % 4 ≠ 0), { code := 0x0206, ofs := 0x10 }),
        (s.tail.full, { code := 0x0608 })] fun s =>
      let q := s.tail.seqNext.toNat
      (s.record 0x0002 .control (u32s [f.slot] ++ slice e.data 0 n)).ok f q 0 []

/-- TAIL_CLEAR (R499): one that arrives while an erase runs completes with it. -/
def execTailClear (e : Entry) (s : State) : Host.Outcome State Fault Refusal :=
  s.command 0x0B42 e fun f s =>
    s.checked f [e.zeroFrom 0x18 40, (!s.power.nvOpen, { code := 0x0801 })] fun s =>
      let s := s.launch f
      match s.tail.erase with
      | some x => { s with tail := { s.tail with erase := some { x with flights := x.flights ++ [f.id] } } }
      | none =>
        let s := s.tailMark
        let t := s.tail
        let x : TailErase :=
          { flights := [f.id], slot := f.slot, first := t.first, last := t.lastValid.getD (t.seqNext - 1) }
        { s with tail := { t with erase := some x } }

/-- TAIL_ERASE_DONE (R499). -/
def execTailEraseDone (s : State) : Host.Outcome State Fault Refusal :=
  .next (match s.tail.erase with
  | none => s
  | some x =>
    -- Nadir mode never erases the region (R484)
    if !s.power.nvOpen || s.planes.mgmt == .nadir then s
    else
      let s := s.flashErase tailOfs tailBytes
      let r : TailRec :=
        { type := 0x0001, plane := .management, opsec := s.boot.opsec, cycles := s.boot.pwrCycles
          seq := s.tail.seqNext, sample := s.sample
          time := if s.time.state = .unset then none else some s.time.t
          payload := padPayload (u32s [x.slot, x.first.toNat, x.last.toNat]) }
      let s := s.flashWrite tailOfs (r.bytes 0xA55A)
      let s := { s with tail := { s.tail with
        erase := none, full := false, wpos := r.length, seqNext := r.seq + 1, clear := s.tail.clear.inc
        firstSeq := r.seq, lastValid := some r.seq } }
      x.flights.foldl (fun s id => s.finishId id 0 0 0 false []) s)

/-- A write of BLOCK in TAIL_CURSOR through a port (R497). -/
def State.tailCursor (port block : Nat) (s : State) : State :=
  s.modPort port fun p => { p with cursor := block, loading := true, ready := false, window := [] }

/-- WINDOW_LOAD_DONE (R497): the snapshot is taken. -/
def execWindowLoadDone (port : Nat) (s : State) : Host.Outcome State Fault Refusal :=
  .next (if (s.port port).loading then
    let b := s.flashRead (tailOfs + 4096 * (s.port port).cursor) 4096
    s.modPort port fun p => { p with loading := false, ready := true, window := b }
  else s)

/-- A write of TAIL_CTL (R495). -/
def State.tailCtl (w : W32) (s : State) : State :=
  ({ s with tail := { s.tail with summary := bitOf w 1 } }).setFreeze (bitOf w 0)

end Sys2Proof.Machine
end

