-- ==== Sys2Proof/Machine/Planes.lean ====
section
/-!
DEFINITION. What the core die loses when it is powered down, and what its power-up brings back (R13,
R392, R429, R433, R438).
-/

namespace Sys2Proof.Machine

/-! ## The core die off -/

/-- The latches of a port that belong to companion-die registers (R13). -/
def Port.keepCompanion (p : Port) : Port :=
  { p with latches := p.latches.filter fun l => (regAt l.1).any fun r => r.1.companion }

/-- Host interface: queues and PCIe slot pages at their Reset values; the role store of R104 stays. -/
def State.resetHosts (s : State) : State :=
  let slot (x : Slot) : Slot :=
    if x.cfg.port = 2 then { x with qpSelect := 0 } else { x with reject := {}, eventsOn := false, qpSelect := 0, dropped := 0 }
  { s with host := { s.host with
    ports := s.host.ports.map Port.keepCompanion, slots := s.host.slots.map slot, queues := [] } }

/-- The commands in flight are gone; those of a port that is down count as lost (R106). -/
def State.dropFlights (s : State) : State :=
  let s := (s.host.flights.filter (·.lost)).foldl (fun s f =>
    s.modPort f.port fun p => { p with lostCpl := satAdd p.lostCpl 1 }) s
  { s with
    host := { s.host with flights := [], ephWaits := [], held := [] }
    eph := { s.eph with copying := [], validating := [], committing := none }
    boot := { s.boot with quotes := [], checks := [], flashJobs := [] }
    cal := { s.cal with flights := [] } }

/-- Staging, and what the Orrery last delivered, are gone. -/
def State.resetEph (s : State) : State :=
  { s with eph := { s.eph with
    staging := [], stageLen := 0, stage := .empty, validated := none, stagingBad := false, atEnd := false
    routeVals := [], switches := []
    commit := if s.eph.pendingSlot.isSome then .cancelled else s.eph.commit, pendingSlot := none } }

/-- The memory registers that R410 does not keep, at their Reset values. -/
def Memory.umbra (m : Memory) : Memory :=
  { ({} : Memory) with
    failed := m.failed, selfRefresh := 0xFF, derate := m.derate, trained := m.trained, rate := m.rate
    vendor := m.vendor, capacity := m.capacity, pasr := m.pasr, nrK := m.nrK, fspOn := m.fspOn
    poison := m.poison
    grids := (m.grids.filter fun g => g.2.stand == .loaded).map fun g => (g.1, { g.2 with stand := .unchecked })
    scrubRun := m.scrubRun, scrubAge := m.scrubAge }

/-- Machine time over Umbra: the AON keeper runs at the estimate in force (R383). -/
def TimeState.umbra (t : TimeState) : TimeState :=
  { ({} : TimeState) with
    clock := t.aon * 2 ^ 32, ix := t.ix, preEpoch := t.preEpoch, state := t.state, selected := t.selected
    rate := t.rate, estimate := t.estimate, rateSum := t.rateSum, aon := t.aon }

/-- The core-die units at their Reset values (R13). -/
def State.resetCore (s : State) : State :=
  let s := (s.resetHosts.resetEph).haloWiresLow
  { s with
    job := {}, engines := Vector.replicate 32 {}, arb := {}, melt := Vector.replicate 32 {}
    peri := { ({} : Peri) with saved := s.peri.saved }
    tide := {}, links := Vector.replicate 32 {}, axes := Vector.replicate 8 {}, recoat := {}
    disp := {}, eclipse := { ({} : Eclipse) with inReq := s.eclipse.inReq }
    power := { s.power with core := false, domains := s.power.domains &&& 3 }
    planes := { s.planes with pair := none, standby := .off, data := .off, ctl := .off, restart := none } }

/-- Both PCIe ports go down (R106). -/
def State.pcieDown (s : State) : State := (s.portDown 0).portDown 1

/-- The core rails go off after a fault (R427): nothing of the core die survives. -/
def State.coreLost (s : State) : State :=
  let s := (s.pcieDown.dropFlights).resetCore
  { s with
    camera := { contexts := Vector.replicate 8 CamContext.atReset }, time := {}, mem := {}, peri := {}
    tail := { s.tail with stage := [], busy := none } }

/-- The core rails go off at the end of Umbra entry (R433 steps 4 to 6): the Perihelion grid, the Tail stage
and the control state are in DRAM, machine time on the AON keeper. -/
def State.coreSaved (s : State) : State :=
  let s := s.pcieDown.timeToAon
  let p := s.peri.abandon
  let s := { s with peri := { s.peri with saved := some (p.base, p.cells) } }
  let s := s.resetCore.resetCameras
  { s with mem := s.mem.umbra, time := s.time.umbra }

/-! ## The core die on -/

/-- The temperature entries of the core die start anew (R441). -/
def State.coreSensors (s : State) : State :=
  { s with power := { s.power with thm := updAll s.power.thm fun i t =>
      if 16 ≤ i ∧ i < 20 then { t with valid := false, history := [] } else t } }

/-- The control firmware runs on pair A with pair B as standby, and the data plane is idle (R464 step 7). -/
def State.planesUp (standby : StandbyState) (s : State) : State :=
  { s with
    power := { s.power with core := true }
    planes := { s.planes with pair := some false, standby := standby, data := .idle, ctl := .running } }

/-- Declared engines stand at their park points. -/
def State.engineHome (s : State) : State :=
  { s with engines := updAll s.engines fun n e => match s.head? n with
    | some h => { e with pos := ((h.parkX : Rat), (h.parkY : Rat)) }
    | none => e }

/-- No ephemeris is in force: the default host map holds (R88). -/
def State.noEphemeris (s : State) : State :=
  let s := { s with eph := { s.eph with eph := none, container := [] } }
  s.adoptHosts ((List.range 8).map defaultSlot)

/-- The boot ephemeris cannot be adopted (R88): the device runs without one. -/
def State.bootReject (x : EphFail) (s : State) : State :=
  ((s.noteReject x).record 0x0013 .management (u32s [x.code.toNat])).noEphemeris

/-- The boot ephemeris (R88): staged, validated and adopted. R38 is waived when the container's digest is
that of the last committed one. -/
def State.bootEph (s : State) : State :=
  let s := { s with eph := { s.eph with eph := none, container := [] } }
  match s.header?.bind (·.1.ephBoot) with
  | none => (s.record 0x0013 .management (u32s [0x0505])).noEphemeris
  | some i =>
    let d := s.slotContainer i.toNat
    let same := match s.eph.last with
      | some (_, g) => g == sha384 d
      | none => false
    match validateEph (if same then none else s.eph.last.map (·.1)) (s.mem.capacity, s.mem.vendor) d with
    | .error x => s.bootReject x
    | .ok e =>
      match s.stage10 e d with
      | some x => s.bootReject x
      | none => s.adopt .boot e d

/-- The copy in DRAM channel 0 is adopted anew once its digest matches, and otherwise the device runs without an
ephemeris (R89). The spec names no code for the mismatch (DESIGN CHOICE, log entry 52). -/
def State.readopt (s : State) : State :=
  let d := s.eph.container
  -- a line of the copy that is lost is such a mismatch (R398)
  let r := s.meetsPoison (· == 0)
  let lost := s.eph.eph.isSome && r.1.isSome
  let s := if lost then r.1.elim s fun l => r.2.dramError l else s
  if lost then s.bootReject ⟨0x070B, 0, 0⟩
  else match s.eph.eph, stage6 d with
  | none, _ => s
  | some e, .ok l => if sha384 d = e.digest then s.adopt .umbra (parseEph d l) d else s.bootReject ⟨0x0704, 0, 0x14⟩
  | some _, .error x => s.bootReject x

/-- Grids that Umbra did not retain are unloaded, and the others checked, which is part of the exit (R392, R436). -/
def State.gridsBack (s : State) : State :=
  ({ s with mem := { s.mem with grids := s.mem.grids.filter fun g => s.gridRetained g.1 } } : State).checkGrids

/-- The Perihelion grid restored from DRAM channel 1: one whose lines are lost is set to UNDER (R255, R398). -/
def State.periBack (s : State) : State :=
  match s.peri.saved with
  | none => s
  | some (b, c) =>
    let r := s.meetsPoison (· == 1)
    let s := r.1.elim r.2 fun l => r.2.dramError l
    let lost := r.1.isSome
    { s with peri := { s.peri with
      base := if lost then s.peri?.elim b (·.under) else b, cells := if lost then [] else c, saved := none } }

/-- The core die after Umbra (R436, R438): the ephemeris copy is adopted anew, then the Perihelion grid, the
correction grids and machine time are restored. -/
def State.coreBack (s : State) : State :=
  let s := (s.planesUp .ready).coreSensors
  let s := { s with mem := { s.mem with selfRefresh := 0 } }
  let s := s.timeFromAon.engineHome
  let grid := s.peri.saved
  let s := s.readopt
  -- channels 0 and 1 are at RATE for the restore (R400)
  let s := ({ s with peri := { s.peri with saved := grid } } : State).fspUp.periBack
  (s.gridsBack.restartDisplay).dueNtest

end Sys2Proof.Machine
end

