-- ==== Sys2Proof/Machine/Boot.lean ====
section
/-!
DEFINITION. Boot and measurement (R459–R468), quotes (R469–R472) and Nadir mode (R482–R484).
-/

namespace Sys2Proof.Machine

/-! ## Manifests (R462, R463) -/

/-- The flash offset and the size of a firmware bank (R459). -/
def bankOfs (b : Bool) : Nat := if b then 0xA00000 else 0x400000
def bankBytes : Nat := 6291456

/-- OFFSET and LENGTH of image `i` (TYPE `i + 1`) of a manifest. -/
def imageSpan (m : List Byte) (i : Nat) : Nat × Nat := (uAt m (0x20 + 64 * i + 8) 4, uAt m (0x20 + 64 * i + 12) 4)

/-- DIGEST of image `i` of a manifest. -/
def imageDigest (m : List Byte) (i : Nat) : Digest := BitVec.ofNat 384 (beNat (slice m (0x20 + 64 * i + 16) 48))

/-- Two images overlap. -/
def spansMeet (a b : Nat × Nat) : Bool := decide (a.1 < b.1 + b.2) && decide (b.1 < a.1 + a.2)

/-- The structure checks of entry `i`: the offset of a broken field. -/
def entryBad (m : List Byte) (i : Nat) : List (Bool × Nat) :=
  let o := 0x20 + 64 * i
  let p := imageSpan m i
  [(uAt m o 2 != i + 1, o), (uAt m (o + 2) 2 != 0, o + 2),
   (decide (p.1 % 4096 ≠ 0 ∨ p.1 < 0x1000 ∨ bankBytes ≤ p.1) ||
      ((List.range i).any fun j => spansMeet (imageSpan m j) p), o + 8),
   (decide (p.2 = 0 ∨ bankBytes < p.1 + p.2), o + 12)]

/-- Stage 1 of R463: the offset of the first broken field. -/
def manifestBad (m : List Byte) : Option Nat :=
  let fin := (List.range 7).foldl (fun n i => max n ((imageSpan m i).1 + (imageSpan m i).2)) 0
  let total := uAt m 0x10 4
  let checks := [(slice m 0 4 != [0x46#8, 0x56#8, 0x4D#8, 0x46#8], 0), (uAt m 4 2 != 1, 4), (uAt m 6 2 != 7, 6),
    (uAt m 8 2 != 0x0F32, 8), (uAt m 0x0A 2 % 2 == 0, 0x0A), (decide (bankBytes < total) || total != fin, 0x10),
    (!allZero (slice m 0x14 12), 0x14)] ++ (List.range 7).flatMap (entryBad m)
  (checks.find? (·.1)).map (·.2)

/-- Stage 2 of R463: the signature with the update key. -/
def manifestSigned (m : List Byte) : Bool :=
  ecdsaVerify Config.updateKey.1 Config.updateKey.2 (beNat (slice m 0x1E0 48)) (beNat (slice m 0x210 48))
    (sha384 (slice m 0 0x1E0))

/-- The digests of a manifest and of its images, of the bytes as read (R467). -/
def readDigests (read : Nat → Nat → List Byte) : BankDigests :=
  let m := read 0 576
  { manifest := sha384 m
    images := (List.range 7).map fun i => sha384 (read (imageSpan m i).1 (imageSpan m i).2) }

/-- Image `i` matches its DIGEST. -/
def digestHolds (m : List Byte) (d : BankDigests) (i : Nat) : Bool := d.images.getD i 0 == imageDigest m i

/-- The three stages of R463: the digests, or the code and offset of the first failure. -/
def checkManifest (read : Nat → Nat → List Byte) : Except Bad BankDigests :=
  let m := read 0 576
  match manifestBad m with
  | some o => .error { code := 0x0204, ofs := o }
  | none =>
    if !manifestSigned m then .error { code := 0x0707 }
    else
      let d := readDigests read
      match (List.range 7).find? fun i => !digestHolds m d i with
      | some i => .error { code := 0x0708, ofs := 0x20 + 64 * i }
      | none => .ok d

/-- A reader of a firmware bank. -/
def State.bankRead (s : State) (b : Bool) (o n : Nat) : List Byte := s.flashRead (bankOfs b + o) n

/-! ## Measurement (R467) -/

/-- MRn extended. -/
def State.extend (n : Nat) (v : Digest) (s : State) : State :=
  { s with boot := { s.boot with mr := upd s.boot.mr n fun m => extendMr m v } }

/-- MR4 extended with the data-plane images. -/
def State.extendData (d : BankDigests) (s : State) : State :=
  (List.range 5).foldl (fun s i => s.extend 4 (d.images.getD (i + 2) 0)) s

/-- BOOT_STATUS (R485). -/
def State.bootStatusWord (s : State) : W32 :=
  let b := s.boot
  packWord [(b.digestOk.toNat % 128, 16), (b1 b.sigOk, 9), (b1 b.fallback, 8), (b1 b.trial, 3), (b1 b.confirmed, 2),
    (b1 b.running, 0)]

/-- TRUST_UPD_STATUS (R485). -/
def State.updStatusWord (s : State) : W32 :=
  let left := match s.boot.windowFor with
    | some t => 600 - t / 4000000
    | none => 0
  packWord [(left, 16), (s.boot.updResult, 4), (s.boot.updState, 0)]

/-! ## Nadir mode (R482, R483) -/

/-- The digest of 48 bytes of 0x4E is the value itself: MR6 is extended with those bytes (R467). -/
def nadirMark : Digest := BitVec.ofNat 384 (beNat (List.replicate 48 0x4E))

/-- Nadir mode begins. -/
def State.enterNadir (cause : Nat) (s : State) : State :=
  let s := (List.range 8).foldl (fun s i => if s.portOf i = 2 then s.dropRoles i 0xF else s) s
  let s := (s.coreLost).extend 6 nadirMark
  let slots := s.host.slots.map fun x => { x with session := none }
  let s : State := { s with
    eph := { s.eph with eph := none, container := [] }
    planes := { s.planes with mgmt := .nadir }
    boot := { s.boot with
      nadir := { cause := cause }, activation := none, updState := 0, windowFor := none, revertPending := none }
    host := { s.host with slots := slots, heldFrames := [] }
    power := { s.power with umbra := .awake } }
  s.bypCheck

/-! ## Boot (R464–R466, R481) -/

/-- The nominal voltage of a rail in mV, and the window in which it is good (R423, R425). -/
def railNominal (r : Nat) : Nat := [800, 850, 900, 1800, 1050, 500, 12000].getD r 0
def railGood (r mv : Nat) : Bool :=
  if r = 6 then decide (10800 ≤ mv ∧ mv ≤ 13200)
  else decide (97 * railNominal r ≤ 100 * mv ∧ 100 * mv ≤ 103 * railNominal r)

/-- A rail's 1 µs average: NOW, MIN and PG (R445). -/
def State.railNow (r mv : Nat) (s : State) : State :=
  let w : W16 := BitVec.ofNat 16 mv
  let low (x : RailV) : W16 := if x.low = 0 ∨ w.toNat < x.low.toNat then w else x.low
  let bit : W32 := 1 <<< r
  { s with power := { s.power with
    rails := upd s.power.rails r fun x => { now := w, low := low x }
    pg := if railGood r mv then s.power.pg ||| bit else s.power.pg &&& ~~~bit } }

/-- The core rails off (R424, R427). -/
def State.railsOff (s : State) : State :=
  let off (s : State) (r : Nat) : State :=
    let bit : W32 := 1 <<< r
    let rails := upd s.power.rails r fun x => { x with now := 0 }
    { s with power := { s.power with rails := rails, pg := s.power.pg &&& ~~~bit } }
  [2, 1, 0].foldl off s

/-- A fault that takes the core die down (R427): cause and rail. -/
def State.coreFault (cause rail : Nat) (s : State) : State :=
  let s := (s.coreLost).railsOff
  let s : State := { s with power := { s.power with
    umbra := .awake, abandon := false, faultOff := true, faultCause := cause, faultRail := rail
    railFault := if cause = 4 ∨ cause = 5 then s.power.railFault else s.power.railFault.inc
    clkFault := if cause = 4 ∨ cause = 5 then s.power.clkFault.inc else s.power.clkFault } }
  (s.bypCheck).record 0x00D0 .management []

/-- A rail's voltage at a power-up. -/
def railOf (env : BootEnv) (r : Nat) : Nat := env.rails.getD r (railNominal r)

/-- A core rail that holds more than 10 % of its nominal voltage has not discharged (R539). -/
def railCharged (r mv : Nat) : Bool := decide (r < 3 ∧ railNominal r < 10 * mv)

/-- Steps 4 to 8 of R464. A rail that does not reach power-good, or that had not discharged, is a rail fault. With
`verdict` MR5 is extended, as at a boot (R429, R466). -/
def State.coreBoot (env : BootEnv) (verdict : Bool) (s : State) : State :=
  let s := [6, 4, 5, 3, 0, 1, 2].foldl (fun s r => s.railNow r (railOf env r)) s
  match [4, 5, 3, 0, 1, 2].find? fun r => railCharged r (env.before.getD r 0) || !railGood r (railOf env r) with
  | some r => s.coreFault (if railOf env r < railNominal r then 1 else 2) r
  | none =>
    -- pair B starts synchronised at a boot, and after a restart it still has to (R429)
    let s := (s.planesUp (if verdict then .ready else .synchronising)).coreSensors
    let s := s.trainDram env.vendor env.capacity env.failed
    let b := s.boot.running
    let m := s.bankRead b 0 576
    let d := readDigests (s.bankRead b)
    let s := (s.extend 2 (d.images.getD 1 0)).extendData d
    let sig := manifestSigned m
    let ok := maskOf 7 (digestHolds m d)
    let s := if verdict then
        let v := beNat ([BitVec.ofNat 8 (b1 b), BitVec.ofNat 8 (b1 sig), BitVec.ofNat 8 ok.toNat] ++ List.replicate 45 0)
        s.extend 5 (BitVec.ofNat 384 v)
      else s
    let boot : Boot := if verdict then { s.boot with sigOk := sig, digestOk := ok } else s.boot
    let s := { s with boot := { boot with ctlBank := b, dataBank := b, inForce := some d } }
    (((s.calPowerUp.bootEph).calDue).calStart).bypCheck

/-- Step 3 of R464 on bank `b`: measured, and the management firmware started. -/
def State.bankBoot (env : BootEnv) (b fallback : Bool) (s : State) : State :=
  let copy := match s.header? with
    | some (_, c) => c
    | none => false
  let d := readDigests (s.bankRead b)
  let s := (s.extend 5 (sha384 (s.flashRead (headerOfs copy) 4096))).extend 5 d.manifest
  let s := s.extend 1 (d.images.getD 0 0)
  let s := { s with
    boot := { s.boot with running := b, fallback := fallback, bootFor := 0 }
    planes := { s.planes with mgmt := .running } }
  let s := if fallback then s.record 0x0100 .management [] else s
  s.coreBoot env true

/-- Steps 2 and 3 of R464: the ROM and the fuses are measured, and the boot header is taken. -/
def State.takeHeader (s : State) : State :=
  let s := (s.extend 0 Config.romDigest).extend 0 Config.fuseDigest
  let h := (s.header?.map (·.1)).getD BootHeader.blank
  { s with
    boot := { s.boot with
      keyReady := true, confirmed := h.confirmed, trial := h.trial.isSome, trialWaits := h.trial.isSome
      ipv4 := h.ipv4, prefixLen := h.prefixLen }
    eph := { s.eph with
      bootSlot := h.ephBoot.getD 0, bootNone := h.ephBoot.isNone
      last := if h.lastDigest = 0 then none else some (h.lastSeq, h.lastDigest) } }

/-- A header that carries TRIAL reports the activation that a power loss ended (R481). -/
def State.noteTrial (s : State) : State :=
  if s.boot.trial then ({ s with boot := { s.boot with updResult := 3 } }).record 0x0101 .management [] else s

/-- Steps 2 to 8 of R464. -/
def State.bootFrom2 (env : BootEnv) (s : State) : State :=
  let s := s.takeHeader
  if env.strap then s.enterNadir 1
  else
    let s := s.noteTrial
    let good (b : Bool) : Bool := (manifestBad (s.bankRead b 0 576)).isNone
    if good s.boot.confirmed then s.bankBoot env s.boot.confirmed false
    else if good (!s.boot.confirmed) then s.bankBoot env (!s.boot.confirmed) true
    else s.enterNadir 2

/-- The device at its Reset values (R12), with what is no register or outlasts a reset: flash, pin levels, the
counters in fuse-backed storage, and, unless VIN_12V was lost, CAL_COUNT and its times (R456). -/
def State.powerReset (vinLost : Bool) (s : State) : State :=
  let r := State.reset
  { r with
    pending := s.pending, outbox := s.outbox, freeCtr := s.freeCtr, flash := s.flash
    eclipse := { r.eclipse with inReq := s.eclipse.inReq }
    boot := { r.boot with opsec := s.boot.opsec, pwrCycles := s.boot.pwrCycles }
    cal := if vinLost then r.cal
      else { r.cal with count := s.cal.count, lastTime := s.cal.lastTime, lastOpsec := s.cal.lastOpsec }
    power := { r.power with
      vin := s.power.vin, pinReset := s.power.pinReset, hotReset := s.power.hotReset, perst := s.power.perst } }

/-- Step 1 of R464 and all that follows it. -/
def State.bootFrom1 (env : BootEnv) (s : State) : State :=
  let s := { s with boot := { s.boot with mr := Vector.replicate 8 0, pwrCycles := satAdd s.boot.pwrCycles 1 } }
  s.tailWalk.bootFrom2 env

/-- Power-up when nothing holds the device in reset. -/
def State.bootIfFree (env : BootEnv) (s : State) : State :=
  if s.power.vin ∧ s.power.pinReset = false ∧ s.power.hotReset = false then s.bootFrom1 env else s

/-- POWER_UP: VIN_12V crosses 10.8 V. -/
def execPowerUp (env : BootEnv) (s : State) : Host.Outcome State Fault Refusal :=
  .next (if s.power.vin then s
  else
    let s := s.powerReset true
    ({ s with power := { s.power with vin := true } }).bootIfFree env)

/-- VIN_LOW: VIN_12V falls below 10.8 V, and the device powers down (R424). -/
def execVinLow (s : State) : Host.Outcome State Fault Refusal :=
  .next (({ s with power := { s.power with vin := false, hotReset := false } }).powerReset true)

/-- PWR_RESET_ASSERT (R536). -/
def execPwrResetAssert (s : State) : Host.Outcome State Fault Refusal :=
  .next (({ s with power := { s.power with pinReset := true } }).powerReset (!s.power.vin))

/-- PWR_RESET_RELEASE (R536). -/
def execPwrResetRelease (env : BootEnv) (s : State) : Host.Outcome State Fault Refusal :=
  .next (if s.power.pinReset then
    ({ s with power := { s.power with pinReset := false } }).bootIfFree env
  else s)

/-- The samples of a boot within which a start timeout of R465 can fall: 172 ms, 2 s for the management firmware,
40 ms for the rails, and 1 s for a control pair. -/
def startSpan : Nat := 12848000

/-- BOOT_FALLBACK (R465): a start timeout of the bank that boots. A second one leaves no bank. -/
def execBootFallback (env : BootEnv) (s : State) : Host.Outcome State Fault Refusal :=
  .next (if !s.power.vin || s.planes.mgmt != .running || decide (startSpan < s.boot.bootFor) then s
  else
    let b := !s.boot.confirmed
    let mr := s.boot.mr
    let r := s.powerReset false
    let keep := s.boot
    let s : State := { r with
      tail := s.tail
      eph := { r.eph with bootSlot := s.eph.bootSlot, bootNone := s.eph.bootNone, last := s.eph.last }
      boot := { r.boot with
        mr := mr, keyReady := true, confirmed := keep.confirmed, trial := keep.trial, trialWaits := keep.trialWaits
        updResult := keep.updResult, ipv4 := keep.ipv4, prefixLen := keep.prefixLen } }
    if keep.fallback ∨ (manifestBad (s.bankRead b 0 576)).isSome then s.enterNadir 2
    else s.bankBoot env b true)

/-! ## Trust (R470–R472) -/

/-- TRUST_QUOTE: registers, counters and nonce taken at one instant. -/
def execTrustQuote (e : Entry) (s : State) : Host.Outcome State Fault Refusal :=
  s.command 0x0C00 e fun f s =>
    s.checked f [e.zeroFrom 0x38 8, (e.bufLen != 0 && e.bufLen != 536, { code := 0x0206, ofs := 0x10 })] fun s =>
      let b := s.boot
      let body := [0x51#8, 0x55#8, 0x4F#8, 0x54#8] ++ leBytes 2 1 ++ leBytes 1 f.slot ++ leBytes 1 0 ++ e.bytes 0x18 32 ++
        leBytes 4 b.pwrCycles.toNat ++ leBytes 8 b.opsec ++ leBytes 4 0 ++ b.mr.toList.flatMap digestBytes
      let q : Quote := { flight := f.id, slot := f.slot, port := f.port, body := body, addr := e.bufAddr
                         toBuffer := e.inline || e.bufLen == 536 }
      let s := s.launch f
      { s with boot := { s.boot with quotes := s.boot.quotes ++ [q] } }

/-- QUOTE_SIGNED: the oldest quote, while the management core runs. -/
def execQuoteSigned (s : State) : Host.Outcome State Fault Refusal :=
  .next (match s.boot.quotes with
  | [] => s
  | q :: r =>
    if s.planes.mgmt != .running then s
    else
      let g := Config.quoteSign (sha384 q.body)
      let d := q.body ++ beBytes 48 g.1 ++ beBytes 48 g.2
      let s := { s with boot := { s.boot with quotes := r } }
      let s := s.modPort q.port fun p => { p with quote := d }
      s.finishId q.flight 0 0 0 false (if q.toBuffer then d else []))

/-- TRUST_CERT. -/
def execTrustCert (e : Entry) (s : State) : Host.Outcome State Fault Refusal :=
  s.command 0x0C01 e fun f s =>
    let c := Config.certificate.take 1280
    s.checked f [e.zeroFrom 0x18 40, (decide (e.room < c.length), { code := 0x0206, ofs := 0x10 })] fun s =>
      s.ok f c.length 0 c

/-- TRUST_EXTEND. -/
def execTrustExtend (e : Entry) (s : State) : Host.Outcome State Fault Refusal :=
  s.command 0x0C40 e fun f s =>
    let n := e.dataLen
    s.checked f [e.zeroFrom 0x18 40, (decide (n = 0 ∨ 65536 < n), { code := 0x0206, ofs := 0x10 })] fun s =>
      let d := sha384 (slice e.data 0 n)
      ((s.extend 7 d).record 0x0103 .management (u32s [f.slot] ++ (digestBytes d).take 16)).ok f 0 0 []

/-! ## Nadir frames (R484) -/

/-- The fields of a frame: OP, SEQ, ARG, LENGTH and the data. -/
def NadirFrame.op (f : NadirFrame) : Nat := uAt f.bytes 4 1
def NadirFrame.seq (f : NadirFrame) : W32 := BitVec.ofNat 32 (uAt f.bytes 8 4)
def NadirFrame.arg (f : NadirFrame) : W32 := BitVec.ofNat 32 (uAt f.bytes 12 4)
def NadirFrame.length (f : NadirFrame) : Nat := uAt f.bytes 16 2
def NadirFrame.data (f : NadirFrame) : List Byte := (f.bytes.drop 20).take (f.bytes.length - 24)

/-- A frame that is a Nadir frame at all: long enough, MAGIC "NDRF", and its CRC right. -/
def NadirFrame.crcOk (f : NadirFrame) : Bool :=
  decide (24 ≤ f.bytes.length) && slice f.bytes 0 4 == [0x4E#8, 0x44#8, 0x52#8, 0x46#8] && frameCrcOk f.bytes

/-- A LENGTH above 1,024 or not that of the data, and the zero bytes of a frame (R484, R133). -/
def NadirFrame.formBad (f : NadirFrame) : List (Bool × Code) :=
  [(uAt f.bytes 5 1 != 0 || uAt f.bytes 18 2 != 0, 0x0205), (decide (1024 < f.length) || f.length != f.data.length, 0x0206)]

/-- The bytes of a reply: a frame with the CRC of R36 behind it. -/
def NadirReply.bytes (r : NadirReply) : List Byte :=
  let b := [0x4E#8, 0x44#8, 0x52#8, 0x46#8] ++ leBytes 1 r.op ++ leBytes 1 0 ++ leBytes 2 r.status.toNat ++
    leBytes 4 r.seq.toNat ++ leBytes 4 r.arg.toNat ++ leBytes 2 r.data.length ++ leBytes 2 0 ++ r.data
  b ++ leBytes 4 (crc32c b).toNat

/-- A reply, kept among the last 32 (R483). -/
def State.nadirReply (r : NadirReply) (s : State) : State :=
  let n := s.boot.nadir
  ({ s with boot := { s.boot with
    nadir := { n with lastSeq := some r.seq, replies := (r :: n.replies).take 32 } } }).send (.nadir r.bytes)

/-- A Nadir frame of operation `op`: dropped with a bad CRC or outside Nadir mode, answered from the store when its SEQ is not
later than the highest seen, and run otherwise. -/
def State.nadirFrame (op : Nat) (f : NadirFrame) (bad : List (Bool × Code))
    (k : State → State × Code × W32 × List Byte) (s : State) : Host.Outcome State Fault Refusal :=
  let n := s.boot.nadir
  let fresh := match n.lastSeq with
    | none => true
    | some q => decide (0 < seqDiff 32 f.seq.toNat q.toNat)
  .next (if s.planes.mgmt != .nadir || !f.crcOk || f.op != op then s
  else if !fresh then
    match n.replies.find? fun r => r.seq == f.seq with
    | some r => s.send (.nadir r.bytes)
    | none => s
  else
    let (s, c, arg, d) := match (f.formBad ++ bad).find? (·.1) with
      | some (_, c) => (s, c, f.arg, [])
      | none => k s
    s.nadirReply { op := op, status := c, seq := f.seq, arg := arg, data := d })

/-- A frame whose ARG must be zero and that carries no data. -/
def nadirPlain (f : NadirFrame) : List (Bool × Code) := [(f.arg != 0, 0x0204), (!f.data.isEmpty, 0x0206)]

/-- STATUS. -/
def execNadirStatus (f : NadirFrame) (s : State) : Host.Outcome State Fault Refusal :=
  s.nadirFrame 1 f (nadirPlain f) fun s =>
    (s, 0, f.arg, u32s [s.boot.nadir.cause, s.bootStatusWord.toNat, s.boot.nadir.lastTest.toNat])

/-- LOAD. -/
def execNadirLoad (f : NadirFrame) (s : State) : Host.Outcome State Fault Refusal :=
  s.nadirFrame 2 f [(decide (bankBytes < f.arg.toNat + f.data.length), 0x0204)]
    fun s =>
      let n := s.boot.nadir
      let g := sbulk 0 n.staging f.arg.toNat f.data
      ({ s with boot := { s.boot with nadir := { n with staging := g, verified := false } } }, 0, f.arg, [])

/-- A reader of the staging area. -/
def State.stagingRead (s : State) (o n : Nat) : List Byte := sread 0 s.boot.nadir.staging o n

/-- VERIFY. -/
def execNadirVerify (f : NadirFrame) (s : State) : Host.Outcome State Fault Refusal :=
  s.nadirFrame 3 f (nadirPlain f) fun s =>
    let r := checkManifest s.stagingRead
    let s := { s with boot := { s.boot with nadir := { s.boot.nadir with verified := r.toBool } } }
    match r with
    | .ok _ => (s, 0, f.arg, [])
    | .error b => (s, b.code, f.arg, [])

/-- PROGRAM. -/
def execNadirProgram (f : NadirFrame) (s : State) : Host.Outcome State Fault Refusal :=
  s.nadirFrame 4 f [(decide (1 < f.arg.toNat), 0x0204), (!f.data.isEmpty, 0x0206), (!s.boot.nadir.verified, 0x0507),
      (!s.power.nvOpen, 0x0801)] fun s =>
    let b := f.arg == 1
    let len := uAt (s.stagingRead 0 576) 0x10 4
    let d := s.stagingRead 0 len
    let s := (s.flashErase (bankOfs b) bankBytes).flashWrite (bankOfs b) d
    let s := s.writeHeader fun h => { h with confirmed := b }
    ({ s with boot := { s.boot with confirmed := b } }, 0, f.arg, [])

/-- MEMTEST: `defect` is the failing offset, if the test finds one. -/
def execNadirMemtest (f : NadirFrame) (defect : Option Nat) (s : State) : Host.Outcome State Fault Refusal :=
  s.nadirFrame 5 f [(decide (1 < f.arg.toNat), 0x0204), (!f.data.isEmpty, 0x0206)] fun s =>
    let c : Code := if defect.isSome then 0x0B0A else 0
    ({ s with boot := { s.boot with nadir := { s.boot.nadir with lastTest := c } } }, c,
      defect.elim f.arg (BitVec.ofNat 32), [])

/-- TAIL_READ. -/
def execNadirTailRead (f : NadirFrame) (s : State) : Host.Outcome State Fault Refusal :=
  s.nadirFrame 6 f [(decide (tailBytes < f.arg.toNat + 1024), 0x0204), (!f.data.isEmpty, 0x0206)] fun s =>
    (s, 0, f.arg, s.flashRead (tailOfs + f.arg.toNat) 1024)

/-- REBOOT (R483): boot from step 2; the measurement registers, the power-cycle count and the Tail recorder go
on from what they hold. -/
def execNadirReboot (f : NadirFrame) (env : BootEnv) (s : State) : Host.Outcome State Fault Refusal :=
  let go := s.planes.mgmt == .nadir && f.crcOk && f.op == 7 && (f.formBad ++ nadirPlain f).all (!·.1) && (match s.boot.nadir.lastSeq with
    | none => true
    | some q => decide (0 < seqDiff 32 f.seq.toNat q.toNat))
  match s.nadirFrame 7 f (nadirPlain f) fun s => (s, 0, f.arg, []) with
  | .next s =>
    .next (if !go then s
    else
      let r := s.powerReset false
      ({ r with tail := s.tail, boot := { r.boot with mr := s.boot.mr } }).bootFrom2 env)
  | o => o

end Sys2Proof.Machine
end

