-- ==== Sys2Proof/Machine/Update.lean ====
section
/-!
DEFINITION. Firmware update (R473–R481), Transit (R476, R477) and what follows from the NV write window
(R444, R461).
-/

namespace Sys2Proof.Machine

/-! ## Transit (R124, R476, R477) -/

/-- A Transit pause begins; its end posts a TRANSIT event with `code`. -/
def State.beginTransit (code : Code) (s : State) : State :=
  { s with planes := { s.planes with ctl := .pause, transitCode := code } }

/-! ## Reverting (R479) -/

/-- The activation in progress. -/
def State.activationOn (s : State) : Bool := s.boot.activation.isSome

/-- A revert is over when the management core, the control pair and the data-plane images are back. -/
def State.revertSettled (s : State) : State :=
  if s.boot.updState = 7 ∧ s.boot.revertPending.isNone ∧ s.planes.mgmt ≠ .restarting ∧ s.planes.ctl ≠ .pause then
    { s with boot := { s.boot with updState := 0 } }
  else s

/-- The data-plane images of the CONFIRMED bank are back (R479). -/
def State.revertData (d : BankDigests) (s : State) : State :=
  let s := s.extendData d
  ({ s with boot := { s.boot with dataBank := s.boot.confirmed, inForce := some d, revertPending := none } }).revertSettled

/-- TRIAL cleared in the boot header, now or when the window opens (R461). -/
def State.clearTrial (s : State) : State :=
  if s.power.nvOpen then
    let s := s.writeHeader fun h => { h with trial := none }
    { s with boot := { s.boot with trial := false, trialWaits := false } }
  else { s with boot := { s.boot with trialWaits := true } }

/-- A failing check reverts in the health window; before it, only what phases 1 and 2 can fail by: the new
management firmware that does not come up, and the standby pair that does not synchronise (R475, R478). An
activation that waits only to be confirmed does not revert any more (R480). -/
def healthFails (phase : ActPhase) (check : Nat) : Bool :=
  match phase with
  | .management => check == 3
  | .control => check == 5
  | .window => check != 5
  | _ => false

/-- Every part goes back to the CONFIRMED bank (R479). -/
def State.revert (check : Nat) (s : State) : State :=
  match s.boot.activation with
  | none => s
  | some a =>
    if !healthFails a.phase check then s
    else
      let d := a.old
      let s := ((s.extend 1 (d.images.getD 0 0)).extend 2 (d.images.getD 1 0)).extend 6 d.manifest
      let s : State := { s with
        boot := { s.boot with
          activation := none, updResult := 2, updState := 7, windowFor := none, ctlBank := s.boot.confirmed }
        planes := { s.planes with mgmt := .restarting } }
      let s := (s.clearTrial).record 0x0101 .management (u32s [check])
      -- the control plane switches back only where it has switched
      let s := if a.phase = .window ∧ s.planes.ctl = .running then s.beginTransit 0x0B08 else s.event 5 0x0B08 0
      let s : State := if a.phase = .control then { s with planes := { s.planes with standby := .failed } } else s
      let s := if a.phase = .window ∧ ¬(s.planes.data = .idle ∨ s.job.ending) then
          { s with boot := { s.boot with revertPending := some d } }
        else s.revertData d
      a.flight.elim s fun id => s.finishId id 0x0B08 0 0 true []

/-- A failure of R478, when an activation may still fail. -/
def State.healthFail (check : Nat) (s : State) : State := s.revert check

/-- HEALTH_FAILURE (R478, R479). -/
def execHealthFailure (check : Nat) (s : State) : Host.Outcome State Fault Refusal := .next (s.healthFail check)

/-! ## The phases (R475) -/

/-- Phase 3: the data-plane images swap, and the health window begins (R475, R478). -/
def State.swapImages (s : State) : State :=
  match s.boot.activation with
  | some a =>
    if a.phase = .data ∧ s.mayApply a.atEnd then
      let s := s.extendData a.digests
      { s with boot := { s.boot with
        dataBank := a.bank, inForce := some a.digests, updState := 5, windowFor := some 0
        activation := some { a with phase := .window } } }
    else s
  | none => s

/-- What microcode waits for DATA_STATE 1 or step 4 of a Syzygy sequence. -/
def State.swapPending (s : State) : State :=
  let s := s.swapImages
  match s.boot.revertPending with
  | some d => s.revertData d
  | none => s

/-- Phase 2 ends: the new pair is active, and UPD_ACTIVATE completes (R475). -/
def State.controlDone (a : Activation) (s : State) : State :=
  let s := { s with boot := { s.boot with
    ctlBank := a.bank, updState := 4, activation := some { a with phase := .data, flight := none, atEnd := s.finalNow } } }
  let id := a.flight.getD 0
  if s.planes.data = .idle then
    let s := s.swapImages
    if a.flight.isSome then s.finishId id 0 0 0 false [] else s
  else if a.flight.isSome then s.finishId id 0x0A00 (s.firstLayer 4) 0 false [] else s

/-- TRANSIT_PAUSE_END (R124, R477): what waited is posted, then the TRANSIT event. -/
def execTransitPauseEnd (s : State) : Host.Outcome State Fault Refusal :=
  .next (if s.planes.ctl ≠ .pause then s
  else
    let code := s.planes.transitCode
    let next := s.boot.activation.filter fun a => a.phase == .transit
    let standby : StandbyState := if next.isSome then .ready else .synchronising
    let s : State := { s with planes := { s.planes with
      ctl := .running, pair := s.planes.pair.map (!·), transitCode := 0, standby := standby } }
    let s := (s.releaseHeld).event 5 code 0
    match next with
    | some a => s.controlDone a
    | none => s.revertSettled)

/-- STANDBY_READY (R475): in an activation, a Transit follows. -/
def execStandbyReady (s : State) : Host.Outcome State Fault Refusal :=
  .next (if s.planes.standby ≠ .synchronising ∨ s.planes.ctl ≠ .running then s
  else
    let s : State := { s with planes := { s.planes with standby := .ready } }
    match s.boot.activation with
    | some a =>
      if a.phase = .control then
        let s := s.extend 2 (a.digests.images.getD 1 0)
        ({ s with boot := { s.boot with activation := some { a with phase := .transit } } }).beginTransit 0
      else s
    | none => s)

/-- The management core runs again: phase 2 of an activation begins (R475, R479, R515). -/
def State.mgmtBack (s : State) : State :=
    let s : State := { s with planes := { s.planes with mgmt := .running } }
    match s.boot.activation with
    | some a =>
      if a.phase = .management then
        { s with
          boot := { s.boot with running := a.bank, activation := some { a with phase := .control } }
          planes := { s.planes with standby := .synchronising } }
      else s
    | none =>
      if s.boot.updState = 7 then ({ s with boot := { s.boot with running := s.boot.confirmed } }).revertSettled
      else s

/-! ## Confirmation (R480) -/

/-- The new bank is confirmed. -/
def State.confirmUpdate (s : State) : State :=
  match s.boot.activation with
  | none => s
  | some a =>
    let s := s.writeHeader fun h => { h with confirmed := a.bank, trial := none }
    let s := { s with boot := { s.boot with
      confirmed := a.bank, trial := false, trialWaits := false, updResult := 1, updState := 0, activation := none, windowFor := none } }
    s.record 0x0102 .management []

/-- HEALTH_WINDOW_END: 600 s after phase 3. -/
def execHealthWindowEnd (s : State) : Host.Outcome State Fault Refusal :=
  .next (match s.boot.activation, s.boot.windowFor with
  | some a, some t =>
    if a.phase ≠ .window ∨ t + 1 < 2400000000 then s
    else
      let s := { s with boot := { s.boot with
        updState := 6, windowFor := none, activation := some { a with phase := .confirming } } }
      if s.power.nvOpen then s.confirmUpdate else s
  | _, _ => s)

/-- What waits for the NV write window: the last committed ephemeris, TRIAL and a confirmation (R444). -/
def State.nvWork (s : State) : State :=
  if !s.power.nvOpen then s
  else
    let s := s.flushHeader
    let s := if s.boot.trialWaits then s.clearTrial else s
    if s.boot.activation.any fun a => a.phase == .confirming then s.confirmUpdate else s

/-! ## Commands (R473, R474) -/

/-- The bank that UPD_WRITE, UPD_VERIFY and UPD_ACTIVATE work on: the one that is not CONFIRMED. -/
def State.newBank (s : State) : Bool := !s.boot.confirmed

/-- UPD_STATUS. -/
def execUpdStatus (e : Entry) (s : State) : Host.Outcome State Fault Refusal :=
  s.command 0x0D00 e fun f s =>
    s.checked f [e.zeroFrom 0x18 40] fun s => s.ok f (s.updStatusWord.toNat + s.bootStatusWord.toNat * 2 ^ 32) 0 []

/-- UPD_WRITE. -/
def execUpdWrite (e : Entry) (s : State) : Host.Outcome State Fault Refusal :=
  s.command 0x0D40 e fun f s =>
    let o := e.u 0x18 4
    let n := e.u 0x1C 4
    let top := if e.inline then 1344 else 65536
    s.checked f [e.zeroFrom 0x20 32, (decide (bankBytes < o + n), { code := 0x0204, ofs := 0x18 }),
        (decide (n < 8 ∨ top < n) || e.dataLen != n, { code := 0x0206, ofs := 0x1C }),
        (!s.power.nvOpen, { code := 0x0801 }), (s.activationOn, { code := 0x0409 })] fun s =>
      let b := s.newBank
      let s := if o = 0 then s.flashErase (bankOfs b) bankBytes else s
      let s := s.flashWrite (bankOfs b + o) (slice e.data 0 n)
      ({ s with boot := { s.boot with updState := 1 } }).flashJob f 0

/-- A manifest check begins. -/
def State.startCheck (f : Flight) (activate : Bool) (s : State) : State :=
  let s := s.launch f
  let c : UpdCheck := { flight := f.id, slot := f.slot, activate := activate }
  { s with boot := { s.boot with checks := s.boot.checks ++ [c] } }

/-- UPD_VERIFY. -/
def execUpdVerify (e : Entry) (s : State) : Host.Outcome State Fault Refusal :=
  s.command 0x0D41 e fun f s =>
    s.checked f [e.zeroFrom 0x18 40, (s.activationOn, { code := 0x0409 })] fun s => s.startCheck f false

/-- RESULT 4 of TRUST_UPD_STATUS (R474, R485). -/
def State.activateRefused (s : State) : State := { s with boot := { s.boot with updResult := 4 } }

/-- UPD_ACTIVATE: the checks of R474 before those on the bank. -/
def execUpdActivate (e : Entry) (s : State) : Host.Outcome State Fault Refusal :=
  s.command 0x0D42 e fun f s =>
    s.checked f [e.zeroFrom 0x18 40] fun s =>
      if s.activationOn then s.activateRefused.reject f { code := 0x0409 }
      else if !s.power.nvOpen then s.activateRefused.reject f { code := 0x0801 }
      else s.startCheck f true

/-- Phase 1 (R475): TRIAL in the boot header, MR1 and MR6 extended, the management core restarts. -/
def State.activate (c : UpdCheck) (b : Bool) (d : BankDigests) (s : State) : State :=
  let s := s.writeHeader fun h => { h with trial := some b }
  let s := (s.extend 1 (d.images.getD 0 0)).extend 6 d.manifest
  let old := s.boot.inForce.getD (readDigests (s.bankRead s.boot.confirmed))
  let a : Activation :=
    { flight := some c.flight, slot := c.slot, bank := b, digests := d, old := old, phase := .management }
  { s with
    boot := { s.boot with activation := some a, updState := 3, trial := true }
    planes := { s.planes with mgmt := .restarting } }

/-- UPD_CHECKS_DONE: the oldest manifest check ends (R463, R474). -/
def execUpdChecksDone (s : State) : Host.Outcome State Fault Refusal :=
  .next (match s.boot.checks with
  | [] => s
  | c :: r =>
    let s := { s with boot := { s.boot with checks := r } }
    let b := s.newBank
    match checkManifest (s.bankRead b) with
    | .error x =>
      if c.activate then s.activateRefused.rejectId c.flight x else s.rejectId c.flight x
    | .ok d =>
      if !c.activate then
        ({ s with boot := { s.boot with updState := if s.activationOn then s.boot.updState else 2 } }).finishId c.flight 0 0 0 false []
      else if s.activationOn then s.activateRefused.rejectId c.flight { code := 0x0409 }
      else s.activate c b d)

/-- An address that UPD_MGMT_ADDR refuses: zero, multicast, or broadcast, of the network or of the subnet. -/
def addrBad (ip len : Nat) : Bool :=
  let host := 2 ^ (32 - len)
  ip == 0 || decide (0xE0000000 ≤ ip ∧ ip < 0xF0000000) || ip == 0xFFFFFFFF || ip % host == host - 1

/-- UPD_MGMT_ADDR. -/
def execUpdMgmtAddr (e : Entry) (s : State) : Host.Outcome State Fault Refusal :=
  s.command 0x0D43 e fun f s =>
    let ip := beNat (e.bytes 0x18 4)
    let len := e.u 0x1C 1
    s.checked f [e.zeroFrom 0x1D 35, (addrBad ip (min len 30), { code := 0x0204, ofs := 0x18 }),
        (decide (len < 8 ∨ 30 < len), { code := 0x0204, ofs := 0x1C }), (!s.power.nvOpen, { code := 0x0801 })] fun s =>
      (s.writeHeader fun h => { h with ipv4 := BitVec.ofNat 32 ip, prefixLen := len }).flashJob f 0

/-- UPD_NADIR (R482). -/
def execUpdNadir (e : Entry) (s : State) : Host.Outcome State Fault Refusal :=
  s.command 0x0D44 e fun f s =>
    s.checked f [e.zeroFrom 0x18 40, (s.planes.data != .idle, { code := 0x0403 })] fun s => (s.ok f 0 0 []).enterNadir 3

end Sys2Proof.Machine
end

