-- ==== Sys2Proof/Machine/Faults.lean ====
section
/-!
DEFINITION. Watchdogs and faults of the planes (R17, R508, R514, R515).
-/

namespace Sys2Proof.Machine

/-! ## Checks of the health window (R478), by the number that UPD_REVERT gives -/

/-- 1: a lockstep mismatch; 2: a watchdog; 3: a missed heartbeat; 4: a self-check; 5: the standby; 6: another fault
of the control plane (R514). -/
def ctlCheck (cause : Nat) : Nat := if cause = 1 then 1 else 6

/-! ## Watchdogs (R508) -/

/-- WATCHDOG. -/
def execWatchdog (unit : WatchUnit) (s : State) : Host.Outcome State Fault Refusal :=
  .next (if s.power.core = false ∨ s.planes.data = .off then s
  else
    let scope : Nat → Bool := match unit with
      | .engine n => (· == n)
      | _ => allCh
    (s.trigger scope 6 0x0B07).healthFail 2)

/-- DIE_LINK_LOSS (R17). -/
def execDieLinkLoss (s : State) : Host.Outcome State Fault Refusal :=
  .next (if s.power.core = false then s else (s.record 0x0030 .data []).trigger allCh 7 0x0B03)

/-! ## The control plane (R514) -/

/-- The active pair faults with a cause: 1 lockstep, 2 heartbeat, 3 an uncorrectable word. -/
def State.ctlFault (cause : Nat) (recordOk : Bool) (s : State) : State :=
  if s.power.core = false ∨ (s.planes.ctl ≠ .running ∧ s.planes.ctl ≠ .pause) then s
  else
    let ready := s.planes.standby == .ready && s.planes.ctl == .running
    let case := if ready then 1 else if recordOk then 2 else 3
    let note (s : State) : State := s.record 0x0032 .control (u32s [cause, case, b1 (s.planes.pair.getD false)])
    if ready then
      -- the Transit of a revert serves as the takeover
      let s := (note s).healthFail (ctlCheck cause)
      if s.planes.ctl = .pause then s else s.beginTransit 0
    else
      -- the data plane's record is numbered before the control plane's (R489)
      let s := note (s.trigger allCh 6 0x0B07)
      let s : State := { s with planes := { s.planes with ctl := .booting, restart := some recordOk } }
      s.healthFail (ctlCheck cause)

/-- CTL_FAULT. -/
def execCtlFault (cause : Nat) (recordOk : Bool) (s : State) : Host.Outcome State Fault Refusal :=
  .next (s.ctlFault cause recordOk)

/-- CONTROL_RESTART_DONE (R514): the pair runs again; what was in flight completes with WATCHDOG. -/
def execControlRestartDone (s : State) : Host.Outcome State Fault Refusal :=
  .next (match s.planes.restart with
    | none => s
    | some ok =>
      let s : State := { s with planes := { s.planes with ctl := .running, restart := none, transitCode := 0 } }
      let s := s.releaseHeld
      let s := if ok then s else (List.range 8).foldl (fun s i => s.slotDown i) s
      s.host.flights.foldl (fun s f => s.finishId f.id 0x0B07 0 0 true []) s)

/-! ## The management plane (R515) -/

/-- MGMT_FAULT: cause 1 heartbeat, 2 lockstep. A missed heartbeat fails an activation (R478). -/
def execMgmtFault (cause : Nat) (s : State) : Host.Outcome State Fault Refusal :=
  .next (if s.planes.mgmt ≠ .running then s
  else
    let s := s.recordIn false 0x0033 .management (u32s [cause, b1 s.boot.running])
    let s : State := { s with planes := { s.planes with mgmt := .restarting } }
    if cause = 1 then s.healthFail 3 else s)

end Sys2Proof.Machine
end

