-- ==== Sys2Proof/Machine/Host.lean ====
section
/-!
DEFINITION. The host ports: unknown commands, management sessions and frames, ARP and ICMP, and the PCIe
link events (R96–R100, R106, R126–R133).
-/

namespace Sys2Proof.Machine

/-! ## Unknown commands (R133) -/

/-- UNKNOWN_COMMAND: an entry whose group or command is not defined. -/
def execUnknownCommand (e : Entry) (s : State) : Host.Outcome State Fault Refusal :=
  .next (if knownOpcodes.contains e.opcode.toNat then s
  else s.submit e.opcode e fun f s => s.reject f { code := 0x0102 })

/-! ## Sessions (R106, R128, R129) -/

/-- The reply to a session frame that is accepted. -/
def State.accepted (h : FrameHdr) (s : State) : State := s.reply h (.code 0)

/-- SESSION_OPEN. A second open from the sender that holds the session is a frame of that session. -/
def execSessionOpen (h : FrameHdr) (s : State) : Host.Outcome State Fault Refusal :=
  .next (if !s.answersFrames then s.holdFrame (.sessionOpen h)
  else
    let s := s.clockMgmt
    if !s.mgmtSlot h.slot then s.refuseFrame 0 h 0x0304
    else match (s.slot h.slot).session with
      | none =>
        let ss : Session := ({ sender := h.sender } : Session).take h.seq
        (s.modSlot h.slot fun sl => { sl with session := some ss }).accepted h
      | some ss =>
        if ss.sender ≠ h.sender then s.refuseFrame 0 h 0x0408
        else
          let a := s.takeFrame h
          if a.1 then a.2.accepted h else a.2)

/-- SESSION_CLOSE: the port goes down for the slot. -/
def execSessionClose (h : FrameHdr) (s : State) : Host.Outcome State Fault Refusal :=
  .next (if !s.answersFrames then s.holdFrame (.sessionClose h)
  else
    let a := s.takeFrame h
    if a.1 then (a.2.slotDown h.slot).accepted h else a.2)

/-- KEEPALIVE. -/
def execKeepalive (h : FrameHdr) (s : State) : Host.Outcome State Fault Refusal :=
  .next (if !s.answersFrames then s.holdFrame (.keepalive h)
  else
    let a := s.takeFrame h
    if a.1 then a.2.accepted h else a.2)

/-- SESSION_TIMEOUT: no frame has come for 3 s. -/
def execSessionTimeout (slot : Nat) (s : State) : Host.Outcome State Fault Refusal :=
  .next (if s.mgmtSlot slot ∧ (s.slot slot).session.isSome then s.slotDown slot else s)

/-- The header of a frame (R126). -/
def frameHdr (sender : Sender) (b : List Byte) : FrameHdr :=
  { sender := sender, slot := uAt b 6 1, seq := BitVec.ofNat 32 (uAt b 8 4) }

/-- What is wrong with a frame whose CRC is right (R126, R127, R133): MAGIC or VERSION, reserved bytes that are not
zero, or a LENGTH that is out of range, that the frame does not have, or that is too short for an entry. -/
def frameBad (b : List Byte) : Option Code :=
  let n := uAt b 0x0C 2
  if slice b 0 4 ≠ [0x4A#8, 0x43#8, 0x53#8, 0x46#8] ∨ uAt b 4 1 ≠ 1 then some 0x0103
  else if uAt b 7 1 ≠ 0 ∨ uAt b 0x0E 2 ≠ 0 then some 0x0205
  else if 1408 < n ∨ n + 20 ≠ b.length ∨ (uAt b 5 1 = 1 ∧ n < 64) then some 0x0206
  else none

/-- JCS_FRAME_BAD (R127): a bad CRC is counted; a header that is wrong is answered. A frame with neither is no
such row. -/
def execJcsFrameBad (sender : Sender) (frame : List Byte) (s : State) : Host.Outcome State Fault Refusal :=
  .next (if !s.answersFrames then s.holdFrame (.bad sender frame)
  else if !frameCrcOk frame then
    { s.clockMgmt with host := { s.clockMgmt.host with badFrames := s.host.badFrames + 1 } }
  else match frameBad frame with
    | some c => s.clockMgmt.refuseFrame 0 (frameHdr sender frame) c
    | none => s)

/-- JCS_FRAME_REPLAY (R129): a frame whose SEQ is not later than the highest seen. -/
def execJcsFrameReplay (h : FrameHdr) (s : State) : Host.Outcome State Fault Refusal :=
  .next (if !s.answersFrames then s.holdFrame (.replay h)
  else
    let a := s.takeFrame h
    if a.1 then s else a.2)

/-! ## ARP and ICMP (R100) -/

/-- A request to address `target` is for this device, and a management plane runs that can answer. -/
def State.addressed (s : State) (target : Nat) : Bool :=
  (s.planes.mgmt == .running || s.planes.mgmt == .nadir) && target == s.boot.ipv4.toNat

/-- ARP_REQUEST: answered to the sender's IPv4 and Ethernet address. -/
def execArpRequest (sender : Sender) (mac target : Nat) (s : State) : Host.Outcome State Fault Refusal :=
  .next (if s.addressed target then s.clockMgmt.send (.arp sender.ip.toNat mac) else s.holdFrame (.arp sender mac target))

/-- ICMP_ECHO_REQUEST: the data comes back. -/
def execIcmpEchoRequest (sender : Sender) (target : Nat) (data : List Byte) (s : State) :
    Host.Outcome State Fault Refusal :=
  .next (if s.addressed target then s.clockMgmt.send (.icmp sender.ip.toNat data)
  else s.holdFrame (.icmp sender target data))

/-! ## PCIe links (R97, R99, R106) -/

/-- A PCIe endpoint leaves D3hot. -/
def State.wakePort (p : Nat) (s : State) : State := s.modPort p fun q => { q with d3hot := false }

/-- PCIE_LINK_DOWN. -/
def execPcieLinkDown (b : Bool) (s : State) : Host.Outcome State Fault Refusal :=
  .next ((s.portDown (b1 b)).wakePort (b1 b))

/-- PCIE_LINK_UP: a link trains while the core die runs and PERST# is released. -/
def execPcieLinkUp (b : Bool) (s : State) : Host.Outcome State Fault Refusal :=
  .next (if !s.power.core || s.companionMode || nth false s.power.perst (b1 b) then s
  else s.modPort (b1 b) fun q => { q with linkUp := true, d3hot := false })

/-- PERST_ASSERT. -/
def execPerstAssert (b : Bool) (s : State) : Host.Outcome State Fault Refusal :=
  let s : State := { s with power := { s.power with perst := upd s.power.perst (b1 b) fun _ => true } }
  .next ((s.portDown (b1 b)).wakePort (b1 b))

/-- HOT_RESET: the link goes down with it. -/
def execHotReset (b : Bool) (s : State) : Host.Outcome State Fault Refusal :=
  .next ((s.portDown (b1 b)).wakePort (b1 b))

/-- FUNCTION_LEVEL_RESET: the port goes down for its slots, and the link stays up. -/
def execFunctionLevelReset (b : Bool) (s : State) : Host.Outcome State Fault Refusal :=
  .next (if (s.port (b1 b)).linkUp then
    let s := (s.portDown (b1 b)).wakePort (b1 b)
    s.modPort (b1 b) fun q => { q with linkUp := true }
  else s)

/-- D3HOT_ENTRY: the endpoint fetches no entry until it is back in D0. -/
def execD3hotEntry (b : Bool) (s : State) : Host.Outcome State Fault Refusal :=
  .next (if (s.port (b1 b)).linkUp then s.modPort (b1 b) fun q => { q with d3hot := true } else s)

end Sys2Proof.Machine
end

