-- ==== Sys2Proof/Machine/Jobs.lean ====
section
/-!
DEFINITION. Blocks of track words and their checks (R135–R140, R224, R511, R548), the JOB and atlas commands
(R147–R160, R165, R166), staging and tiles.
-/

namespace Sys2Proof.Machine

/-! ## Track words (R135–R137) -/

/-- TYPE of W0. -/
def wordType (n : Nat) : Option WType :=
  match n with
  | 1 => some .mark
  | 2 => some .jump
  | 3 => some .poly
  | 4 => some .arc
  | 5 => some .dot
  | 6 => some .wait
  | 7 => some .seam
  | 8 => some .param
  | 9 => some .sync
  | _ => none

/-- EXT is allowed on MARK, POLY and ARC. -/
def WType.mayExtend (t : WType) : Bool := t == .mark || t == .poly || t == .arc

/-- The FLAGS bits that a type names, from bit 16 up (R136). -/
def WType.flagMask (t : WType) : Nat :=
  match t with
  | .mark => 1
  | .arc => 3
  | .dot => 2
  | .wait => 1
  | .seam => 1
  | _ => 0

/-- The fields of W1–W3 that a type lets stand (R136), in order. -/
def wordFieldsOk (t : WType) (flags w1 w2 w3 : Nat) : List Bool :=
  let zero (w : Nat) : Bool := w == 0
  match t with
  | .mark => [true, true, zero w3]
  | .jump => [true, true, zero w3]
  | .poly => [true, true, zero w3]
  | .arc => [true, true, w3 != 0 && decide (absI (signedOf 32 w3) ≤ 6283185)]
  | .dot => [decide (1 ≤ w1 ∧ w1 ≤ 4000000), zero w2, zero w3]
  | .wait => [flags % 2 == 1 || w1 != 0, zero w2, zero w3]
  | .seam => [decide (w1 ≤ 8000), zero w2, zero w3]
  | .param => [decide (0x0800 ≤ w1 / 65536), zero w2, zero w3]
  | .sync => [true, true, zero w3]

/-- The word at the front of the bytes that are left of a block: `units` 16-byte units. The error is the offset
within the word of the 32-bit word that fails. -/
def decodeWord (valid : Nat → Bool) (units : Nat) (b : List Byte) : Except Nat TrackWord :=
  let u (i : Nat) : Nat := uAt b (4 * i) 4
  let w0 := u 0
  let ext := w0 / 2 ^ 27 % 2 = 1
  let flags := w0 / 65536 % 256
  let atlas := w0 % 16384
  match wordType (w0 / 2 ^ 28) with
  | none => .error 0
  | some t =>
    if (ext ∧ (t.mayExtend = false ∨ units < 2)) ∨ w0 / 2 ^ 24 % 8 ≠ 0 ∨ flags &&& t.flagMask ≠ flags ∨
        w0 / 2 ^ 14 % 4 ≠ 0 ∨ (if t.vector then valid atlas = false else atlas ≠ 0) then .error 0
    else match (wordFieldsOk t flags (u 1) (u 2) (u 3)).findIdx? (· == false) with
      | some i => .error (4 * (i + 1))
      | none =>
        let w : TrackWord :=
          { ty := t, f16 := flags % 2 == 1, f17 := flags / 2 % 2 == 1, atlas := atlas
            w1 := BitVec.ofNat 32 (u 1), w2 := BitVec.ofNat 32 (u 2), w3 := BitVec.ofNat 32 (u 3) }
        if ext then
          if 40000 < absI (signedOf 32 (u 5)) then .error 20
          else if u 7 ≠ 0 then .error 28
          else .ok { w with
            ext := true, startScale := u 4 % 65536, endScale := u 4 / 65536
            zEnd := signedOf 32 (u 5), tag := BitVec.ofNat 32 (u 6) }
        else .ok w

/-! ## The rules of a block (R138–R140, R224, R511) -/

/-- What a block is checked against. -/
structure BlockEnv where
  pool : Nat
  desc : Nat
  overlap : Bool
  seams : Bool
  /-- The field polygons that the laser-on path lies in. -/
  fields : List (List (Int × Int))
  bed : (Int × Int) × (Int × Int)
  heads : W32
  atlas : List (Nat × AtlasEntry)
  deriving DecidableEq, Repr

/-- How far the check of a block has come. -/
structure BlockScan where
  /-- The end of the last vector (R548). -/
  pos : Option (Int × Int)
  prev : Option (TrackWord × Nat) := none
  /-- A stroke is open to POLY, ARC and SEAM words. -/
  stroke : Bool := false
  /-- The next stroke must follow a JUMP, and the last vector is one. -/
  need : Bool
  jumped : Bool
  tag : Option W32
  /-- The offset of the running take and its units. -/
  take : Option (Nat × Nat) := none
  vectors : Nat := 0
  /-- The words so far, last first. -/
  items : List Item := []
  deriving DecidableEq, Repr

/-- The corners of the bounding box of an arc from `p` to `q`, rounded outward (R140). -/
def arcCorners (w : TrackWord) (p q : Int × Int) : List (Int × Int) :=
  let cx := signedOf 32 w.w1.toNat
  let cy := signedOf 32 w.w2.toNat
  let dx := p.1 - cx
  let dy := p.2 - cy
  let r : Int := (ceilSqrt ((dx * dx + dy * dy).toNat) : Nat)
  let a0 := turnOf (dx : Rat) (dy : Rat)
  let a1 := a0 + (signedOf 32 w.w3.toNat : Rat) / 2000000 / piRat
  let lo := min a0 a1
  let hi := max a0 a1
  -- the directions of the axes that the arc passes
  let ks : List Int := ((List.range 17).map fun (k : Nat) => (k : Int) - 8).filter fun k =>
    decide (lo ≤ (k : Rat) / 4) && decide ((k : Rat) / 4 ≤ hi)
  let pts := [p, q] ++ ks.map fun (k : Int) =>
    match (k % (4 : Int)).toNat with
    | 0 => (cx + r, cy)
    | 1 => (cx, cy + r)
    | 2 => (cx - r, cy)
    | _ => (cx, cy - r)
  let x0 := pts.foldl (fun m v => min m v.1) p.1
  let x1 := pts.foldl (fun m v => max m v.1) p.1
  let y0 := pts.foldl (fun m v => min m v.2) p.2
  let y1 := pts.foldl (fun m v => max m v.2) p.2
  [(x0, y0), (x1, y0), (x1, y1), (x0, y1)]

/-- The point lies in every field. -/
def BlockEnv.inside (env : BlockEnv) (p : Int × Int) : Bool := env.fields.all fun f => inConvex f p

/-- The centre of an ARC lies at least 4 LSB from its start (R138). -/
def centreOk (w : TrackWord) (pos : Option (Int × Int)) : Bool :=
  match w.ty, pos with
  | .arc, some p =>
    let dx := p.1 - signedOf 32 w.w1.toNat
    let dy := p.2 - signedOf 32 w.w2.toNat
    decide (16 ≤ dx * dx + dy * dy)
  | _, _ => true

/-- The geometry of R140 holds for a word that starts at `pos`. -/
def BlockEnv.geometryOk (env : BlockEnv) (w : TrackWord) (pos : Option (Int × Int)) : Bool :=
  let dst := w.endFrom (pos.getD (0, 0))
  match w.ty with
  | .jump => decide (env.bed.1.1 ≤ dst.1 ∧ dst.1 ≤ env.bed.2.1 ∧ env.bed.1.2 ≤ dst.2 ∧ dst.2 ≤ env.bed.2.2)
  | .mark => pos.all env.inside && env.inside dst
  | .poly => env.inside dst
  | .dot => pos.all env.inside
  | .arc => match pos with
    | none => true
    | some p => (arcCorners w p dst).all env.inside
  | _ => true

/-- The first rule that a word at block offset `o` breaks: the offset that is reported. R138's check reports W1, the
first word of the centre (log entry 53). -/
def BlockEnv.breaks (env : BlockEnv) (c : BlockScan) (w : TrackWord) (o : Nat) : Option Nat :=
  let cont := w.continues && w.ty != .seam
  let seam := w.ty == .seam
  let before := (c.prev.map (·.1.ty))
  let at_ := c.prev.elim 0 (·.2)
  let units := match c.take with
    | some t => t.2 + w.units
    | none => 0
  ((([(!centreOk w c.pos, o + 4),
     (before == some .seam && !cont, at_),
     (env.overlap && before == some .jump && !w.opens, at_),
     ((cont || seam) && !c.stroke, o),
     (seam && !(env.overlap && env.seams), o),
     (w.opens && env.overlap && before != some .jump, o),
     (w.opens && c.need && !c.jumped, o),
     (env.overlap && (w.ty == .wait || w.ty == .sync), o),
     (w.ty == .sync && (c.tag.any (fun t => decide (w.w2.toNat ≤ t.toNat)) ||
       (decide (env.pool < 32) && !bitOf w.w1 env.pool) || w.w1 &&& ~~~env.heads != 0), o),
     (!env.geometryOk w c.pos, o),
     (env.overlap && (w.opens || cont || seam) && decide (256 < units), c.take.elim o (·.1))] :
       List (Bool × Nat)).find? (·.1)).map (·.2))

/-- The scan after a word that keeps the rules. -/
def BlockEnv.accept (env : BlockEnv) (c : BlockScan) (w : TrackWord) (o : Nat) : BlockScan :=
  let stroke := w.opens || w.continues
  let item : Item := { word := w, ofs := o, start := c.pos.getD (0, 0), pool := env.pool, desc := env.desc }
  { pos := if w.ty.vector then some (w.endFrom (c.pos.getD (0, 0))) else c.pos
    prev := some (w, o)
    stroke := if w.opens then w.ty != .dot else if w.continues then c.stroke else false
    need := c.need && !w.opens
    jumped := if w.ty = .jump then true else if w.opens then false else c.jumped
    tag := if w.ty = .sync then some w.w2 else c.tag
    take := if !env.overlap then none
      else if w.ty = .jump then some (o, w.units)
      else if stroke then c.take.map fun t => (t.1, t.2 + w.units)
      else none
    vectors := c.vectors + b1 w.ty.vector
    items := item :: c.items }

/-- The words of a block in order: `units` are left, the next stands at offset `o`. -/
def BlockEnv.scan (env : BlockEnv) : Nat → Nat → Nat → List Byte → BlockScan → Except Nat BlockScan
  | 0, _, _, _, c => .ok c
  | fuel + 1, units, o, b, c =>
    if units = 0 then
      match c.prev with
      | some (w, at_) =>
        if w.ty = .seam ∨ (env.overlap ∧ w.ty = .jump) then .error at_ else .ok c
      | none => .ok c
    else
      let valid (i : Nat) : Bool := (env.atlas.find? fun a => a.1 == i).any (·.2.valid)
      match decodeWord valid units b with
      | .error d => .error (o + d)
      | .ok w =>
        match env.breaks c w o with
        | some x => .error x
        | none =>
          env.scan fuel (units - w.units) (o + 16 * w.units) (b.drop (16 * w.units)) (env.accept c w o)

/-! ## The atlas (R155–R158) -/

/-- The bytes of an entry. -/
def AtlasEntry.bytes (a : AtlasEntry) : List Byte :=
  let i4 (z : Int) : List Byte := leBytes 4 (unsignedOf 32 z)
  leBytes 2 (b1 a.valid + 2 * b1 a.loopOn + 4 * b1 a.ffOn + 8 * b1 a.skyOn) ++ leBytes 2 a.power ++
    leBytes 4 a.markSpeed ++ leBytes 4 a.jumpSpeed ++ i4 a.onDelay ++ i4 a.offDelay ++ leBytes 2 a.polyDelay ++
    leBytes 2 a.settle ++ leBytes 2 a.runIn ++ leBytes 2 a.runOut ++ i4 a.focus ++ leBytes 2 a.spot ++
    leBytes 1 a.cls ++ leBytes 1 a.set ++ i4 a.setpoint ++ leBytes 1 a.curve ++ List.replicate 23 0

/-- An entry read from its bytes. -/
def AtlasEntry.ofBytes (b : List Byte) : AtlasEntry :=
  let fl := uAt b 0 2
  { valid := fl.testBit 0, loopOn := fl.testBit 1, ffOn := fl.testBit 2, skyOn := fl.testBit 3
    power := uAt b 2 2, markSpeed := uAt b 4 4, jumpSpeed := uAt b 8 4, onDelay := sAt b 0x0C 4
    offDelay := sAt b 0x10 4, polyDelay := uAt b 0x14 2, settle := uAt b 0x16 2, runIn := uAt b 0x18 2
    runOut := uAt b 0x1A 2, focus := sAt b 0x1C 4, spot := uAt b 0x20 2, cls := uAt b 0x22 1
    set := uAt b 0x23 1, setpoint := sAt b 0x24 4, curve := uAt b 0x28 1 }

/-- The first field of an entry that R155 refuses, by offset within the entry. -/
def atlasBad (curves : Nat) (b : List Byte) : Option Nat :=
  let a := AtlasEntry.ofBytes b
  let out (lo hi v : Int) : Bool := decide (v < lo) || decide (hi < v)
  let res := slice b 0x29 23
  (([(decide (16 ≤ uAt b 0 2), 0),
     (a.valid && out 1000 20000000 a.markSpeed, 0x04),
     (a.valid && out 1000 40000000 a.jumpSpeed, 0x08),
     (a.valid && out (-1000000) 1000000 a.onDelay, 0x0C),
     (a.valid && out (-1000000) 1000000 a.offDelay, 0x10),
     (a.valid && decide (4000 < a.runIn), 0x18),
     (a.valid && decide (4000 < a.runOut), 0x1A),
     (a.valid && out (-200000) 200000 a.focus, 0x1C),
     (a.valid && a.spot != 0 && out 20 5000 a.spot, 0x20),
     (a.valid && decide (15 < a.cls), 0x22),
     (a.valid && a.ffOn && decide (curves ≤ a.curve), 0x28),
     (!allZero res, 0x29 + firstNonzero res)] : List (Bool × Nat)).find? (·.1)).map (·.2)

/-- The entry that the atlas holds in the present sample. -/
def State.atlasNow (s : State) (i : Nat) : AtlasEntry := ((s.job.atlas.find? fun a => a.1 == i).map (·.2)).getD {}

/-- The entry that the commands dispatched so far leave, switched or not (R120). -/
def State.atlasLast (s : State) (i : Nat) : AtlasEntry :=
  let later := s.job.atlasSwitches.flatMap (·.entries)
  ((later.reverse.find? fun a => a.1 == i).map (·.2)).getD (s.atlasNow i)

/-- The atlas that blocks are checked against: what the commands dispatched so far leave. -/
def State.atlasView (s : State) : List (Nat × AtlasEntry) :=
  (s.job.atlasSwitches.reverse.flatMap fun w => w.entries) ++ s.job.atlas

/-- A word names atlas entry `i`. -/
def Item.names (i : Nat) (x : Item) : Bool := x.word.ty.vector && x.word.atlas == i

/-- The reference count of an entry is not zero (R158): a word of a descriptor on a track queue, or a word that
an engine executes, names it. -/
def State.atlasUsed (s : State) (i : Nat) : Bool :=
  (s.job.pools.any fun p => p.queue.any fun d => d.names.contains i) ||
  s.engines.toList.any fun e => e.queue.any (Item.names i) ||
    e.cur.any fun m => (m.words.drop m.nDone).any fun w => w.item.names i

/-- Entries put into the atlas. -/
def atlasPut (es : List (Nat × AtlasEntry)) (t : List (Nat × AtlasEntry)) : List (Nat × AtlasEntry) :=
  es.foldl (fun t e => sset {} t e.1 e.2) t

/-- The checks that both atlas commands share (R156). -/
def State.atlasChecks (e : Entry) (write : Bool) : List (Bool × Bad) :=
  let first := e.u 0x18 2
  let count := e.u 0x1A 2
  let most := if e.inline then 21 else 1024
  [(decide (count = 0 ∨ most < count), { code := 0x0206, ofs := 0x1A }),
   (decide (16384 < first + count), { code := 0x0208, ofs := 0x18 }), e.zeroFrom 0x1C 36,
   (decide (e.dataLen ≠ (if e.inline ∧ write = false then 0 else 64 * count)), { code := 0x0206, ofs := 0x10 })]

/-- PARAM_ATLAS_READ (R156). -/
def execParamAtlasRead (e : Entry) (s : State) : Host.Outcome State Fault Refusal :=
  s.command 0x0300 e fun f s =>
    s.checked f (State.atlasChecks e false) fun s =>
      let n := e.u 0x1A 2
      s.ok f 0 0 ((List.range n).flatMap fun k => (s.atlasNow (e.u 0x18 2 + k)).bytes)

/-- The first entry of a write that fails R155 or R158: the offset in the data. -/
def State.atlasRefused (s : State) (first : Nat) (bs : List (List Byte)) : Option Nat :=
  let curves := s.eph.eph.elim 0 fun e => e.peri.elim 0 (·.curves.length)
  (bs.zipIdx).findSome? fun p =>
    match atlasBad curves p.1 with
    | some o => some (64 * p.2 + o)
    | none =>
      let i := first + p.2
      if (AtlasEntry.ofBytes p.1).valid = false ∧ (s.atlasLast i).valid ∧ s.atlasUsed i then some (64 * p.2) else none

/-- A stroke planned anew behind a JUMP that has begun: the JUMP keeps its path, and where the stroke now starts
elsewhere a connecting jump follows it (R157, R174; log entry 55). -/
def Motion.strokeAnew (env : PlanEnv) (k : Nat) (items : List Item) (m : Motion) : Motion :=
  match m.words with
  | [] => m
  | j :: _ =>
    let stop := j.wa + j.wn
    let kept := m.segs.filter fun g => g.word == 0 && decide (g.b ≤ stop)
    let plan (items : List Item) : Motion :=
      let base : Motion := { m with rise := none, fall := none }
      planStroke env m.prevFall items 1 base
        { t := max stop k, p := kept.getLast?.elim m.start (·.p1), segs := kept.reverse } none 0
    let r := plan (fixItems env (plan items).words items)
    { r with words := j :: r.words }

/-- The plan of a motion in progress from boundary `k` on, with the atlas values that hold from sample `at_` on for
the words whose first output sample lies there (R157). -/
def Motion.replan (env : PlanEnv) (k at_ : Nat) (m : Motion) : Motion :=
  let items := (m.items.zip m.words).map fun p =>
    if p.2.firstOut < at_ then { p.1 with fixed := some p.2.entry } else { p.1 with fixed := none }
  let travel (m : Motion) : List Seg := m.segs.filter fun g => g.word == 0 && g.kind != .rest
  match m.words.findIdx? fun w => decide (at_ ≤ w.firstOut) with
  | none => m
  | some 0 => { (planNext env (max m.t0 k) m.start m.prevFall m.zPrev items).1 with t0 := m.t0 }
  | some i =>
    let r := (planNext env m.t0 m.start m.prevFall m.zPrev items).1
    if m.opener = some i ∧ travel r ≠ travel m then
      { m.strokeAnew env k (items.drop 1) with items := m.items }
    else r

/-- The words of a motion in progress whose first output sample is at or after `at_` are planned again; what the
new plan shortens or leaves out of a stroke that has begun is counted (R157, R179, R182). -/
def Engine.replan (env : PlanEnv) (k at_ : Nat) (e : Engine) : Engine :=
  match e.cur with
  | none => e
  | some m =>
    if m.park ∨ m.items.length ≠ m.words.length then e
    else
      let m' := m.replan env k at_
      let now : Int := 1000 * (k : Int)
      let begun := (m.opener.bind (m.words[·]?)).any fun w => decide (w.firstOut < k)
      let edges : List (Int × Bool) := match m'.rise, m'.fall with
        | some a, some b => if e.gate then [(max now b, false)] else if a < now ∧ m.rise.all (· < now) then
            [(max now b, false)].filter fun _ => e.gate
          else [(max now a, true), (max now b, false)]
        | _, _ => if e.gate then [(now, false)] else []
      { e with
        cur := some { m' with nDone := m.nDone }, edges := edges
        skyShort := if begun then e.skyShort.add (m'.skyShort - m.skyShort) else e.skyShort
        noPulse := if begun then e.noPulse.add (m'.noPulse - m.noPulse) else e.noPulse }

/-- PARAM_ATLAS_WRITE (R157): the switch sample is a free one of the next 256. -/
def execParamAtlasWrite (e : Entry) (s : State) : Host.Outcome State Fault Refusal :=
  s.command 0x0340 e fun f s =>
    s.checked f (State.atlasChecks e true) fun s =>
      let first := e.u 0x18 2
      let bs := (List.range (e.u 0x1A 2)).map fun k => slice e.data (64 * k) 64
      match s.atlasRefused first bs with
      | some o => s.reject f { code := 0x0204, ofs := o }
      | none =>
        let last := s.job.atlasSwitches.foldl (fun m w => max m w.at_) 0
        let r := s.drawIn (max (s.ix + 1) last) (s.ix + 256)
        let es := bs.zipIdx.map fun p => (first + p.2, AtlasEntry.ofBytes p.1)
        let s := r.2
        let s : State := { s with job := { s.job with
          atlasSwitches := s.job.atlasSwitches ++ [{ at_ := r.1, flight := f.id, entries := es }] } }
        let s : State := { s with engines := updAll s.engines fun n g => g.replan (s.planEnv n) (s.ix + 1) r.1 }
        s.launch f

/-- ATLAS_SWITCH (R157): at its switch sample a write is in force and its command completes. Plans have used the new
values for later words since the write. -/
def execAtlasSwitch (s : State) : Host.Outcome State Fault Refusal :=
  let due := s.job.atlasSwitches.filter fun w => decide (w.at_ ≤ s.ix)
  let left := s.job.atlasSwitches.filter fun w => !decide (w.at_ ≤ s.ix)
  let s : State := { s with job := { s.job with
    atlas := due.foldl (fun t w => atlasPut w.entries t) s.job.atlas, atlasSwitches := left } }
  .next (due.foldl (fun s w => s.finishId w.flight 0 (BitVec.ofNat 64 w.at_) 0 false []) s)

/-! ## JOB_SUBMIT (R147–R149) -/

/-- POOL (R143). -/
def State.poolBad (s : State) (num o : Nat) : List (Bool × Bad) :=
  [(!(decide (num < 32) || (decide (0x100 ≤ num) && decide (num < 0x200))), { code := 0x0208, ofs := o }),
   ((s.pool? num).isNone, { code := 0x0903, ofs := o })]

/-- The polygon of a head. -/
def State.fieldPoly (s : State) (n : Nat) : List (Int × Int) := (s.head? n).elim [] (·.polygon)

/-- What a block of pool `num` is checked against. -/
def State.blockEnv (s : State) (num desc : Nat) : BlockEnv :=
  let z := num - 0x100
  let shared := decide (0x100 ≤ num)
  let heads := if shared then (List.range 32).filter fun n => (s.zoneMask z).testBit n else [num]
  let m? := s.eph.eph.map (·.machine)
  { pool := num, desc := desc, overlap := shared, seams := shared && (s.zones[z]?).any (·.seamsAllowed)
    fields := heads.map s.fieldPoly
    bed := m?.elim ((0, 0), (0, 0)) fun m => ((m.bedXMin, m.bedYMin), (m.bedXMax, m.bedYMax))
    heads := s.declaredMask, atlas := s.atlasView }

/-- Where the check of a block for layer `l` begins. -/
def Pool.blockScan (p : Pool) (l : W32) : BlockScan :=
  let x := (p.scans.find? fun x => x.layer == l).getD { layer := l }
  let shared := decide (0x100 ≤ p.num)
  { pos := if shared then none else p.endPt, need := !shared && x.need
    jumped := p.lastLayer == l && p.lastJump, tag := x.tag }

/-- An accepted block on its track queue (R149). -/
def State.queueBlock (f : Flight) (num : Nat) (l dseq : W32) (c : BlockScan) (s : State) : State :=
  let d : Desc :=
    { flight := f.id, layer := l, dseq := dseq, items := c.items.reverse, total := c.vectors
      units := unitsOf c.items, names := (c.items.filter (·.word.ty.vector)).map (·.word.atlas) }
  let open_ (x : LayerScan) : Bool := x.layer != l && s.job.layers.any fun y => y.num == x.layer
  let s := (s.launch f).modPool num fun p =>
    { p with
      queue := p.queue ++ [d], expect := p.expect + 1, endPt := c.pos
      scans := { layer := l, need := c.need, tag := c.tag } :: p.scans.filter open_
      lastLayer := if c.vectors = 0 then p.lastLayer else l
      lastJump := if c.vectors = 0 then p.lastJump else c.jumped }
  (s.dropZones).refusePools.settleDescs

/-- JOB_SUBMIT: the fifteen checks of R148 in order; the role is checked before (R132). -/
def execJobSubmit (e : Entry) (s : State) : Host.Outcome State Fault Refusal :=
  s.command 0x0242 e fun f s =>
    let l := BitVec.ofNat 32 (e.u 0x18 4)
    let num := e.u 0x1C 2
    let dseq := BitVec.ofNat 32 (e.u 0x20 4)
    let units := e.u 0x24 4
    let excl := decide (num < 32)
    let open_ := s.job.layers.any fun x => x.num == l && !x.closed
    let p := (s.pool? num).getD { num := num }
    let data := e.data.take (16 * units)
    let seed := checkSeed 0 0xFFFFFFFF (BitVec.ofNat 64 (l.toNat * 2 ^ 32 + num)) dseq
    let crc := (checkReg 0 seed data).setWidth 32 ^^^ 0xFFFFFFFF
    s.checked f ([(s.eph.eph.isNone, { code := 0x0505 }), (!s.inBuild || s.job.ending, { code := 0x0507 }), e.zeroFrom 0x1E 2,
        e.zeroFrom 0x30 16] ++ s.poolBad num 0x1C ++
        [(excl && !s.gridOk num, { code := 0x0902, ofs := 0x1C }), (!open_, { code := 0x0208, ofs := 0x18 }),
         (excl && s.job.running == some l && s.eclipsed num, { code := 0x0509 }),
         (decide (units = 0 ∨ 4096 < units ∨ e.dataLen ≠ 16 * units) || (e.inline && decide (84 < units)),
           { code := 0x0206, ofs := 0x24 }),
         (dseq != p.expect, { code := 0x0204, ofs := 0x20 }), (decide (64 ≤ p.queue.length), { code := 0x0607 })])
      fun s =>
        let s := if e.dmaOk then s.checkUsed e.dataLen else s
        if e.dmaOk = false then s.dmaFailed f
        else if crc.toNat ≠ e.u 0x28 4 then s.reject f { code := 0x0706, ofs := 0x28 }
        else match (s.blockEnv num f.id).scan (units + 1) units 0 data (p.blockScan l) with
          | .error o => s.reject f { code := 0x0204, ofs := o }
          | .ok c =>
            if c.vectors ≠ e.u 0x2C 4 then s.reject f { code := 0x0204, ofs := 0x2C }
            else s.queueBlock f num l dseq c

/-! ## Layers (R159–R161) -/

/-- RESULT1 of JOB_STATUS: the layer that runs, is being prepared or is waited for, whether it is closed, and the
layer after it (R166). -/
def State.layerWord (s : State) : Nat :=
  let cur : Option W32 := match s.job.running with
    | some l => some l
    | none => if s.job.syzygy = .waitOpen then s.job.lastOpened.map (· + 1)
      else (s.job.layers.head?).map (·.num)
  match cur with
  | none => 0
  | some c =>
    let this := s.job.layers.find? fun x => x.num == c
    let next := s.job.layers.find? fun x => x.num == c + 1
    c.toNat + 2 ^ 32 * b1 (this.any (·.closed)) + 2 ^ 33 * b1 next.isSome + 2 ^ 34 * b1 (next.any (·.closed)) +
      2 ^ 35 * b1 (next.any (·.final))

/-- JOB_STATUS (R166). -/
def execJobStatus (e : Entry) (s : State) : Host.Outcome State Fault Refusal :=
  s.command 0x0200 e fun f s =>
    let num := e.u 0x18 2
    let all := decide (num = 0xFFFF)
    s.checked f (e.zeroFrom 0x1A 38 :: (if all then [] else s.poolBad num 0x18)) fun s =>
      let r0 := match s.pool? num with
        | some p => if all then 0 else p.queue.length + p.vseq.toNat * 2 ^ 32
        | none => 0
      s.ok f r0 s.layerWord []

/-- JOB_LAYER_CLOSE (R160). -/
def execJobLayerClose (e : Entry) (s : State) : Host.Outcome State Fault Refusal :=
  s.command 0x0241 e fun f s =>
    let l := BitVec.ofNat 32 (e.u 0x18 4)
    s.checked f [(s.eph.eph.isNone, { code := 0x0505 }), e.zeroFrom 0x1C 36,
        (!(s.job.layers.any fun x => x.num == l && !x.closed), { code := 0x0208, ofs := 0x18 })] fun s =>
      let s : State := { s with job := { s.job with
        layers := s.job.layers.map fun x => if x.num = l then { x with closed := true } else x } }
      s.ok f 0 0 []

/-- JOB_ABORT (R165): host-command Eclipse of all channels. -/
def execJobAbort (e : Entry) (s : State) : Host.Outcome State Fault Refusal :=
  s.command 0x0243 e fun f s =>
    s.checked f [(s.eph.eph.isNone, { code := 0x0505 }), e.zeroFrom 0x18 40] fun s =>
      (s.ok f 0 0 []).trigger allCh 1 0x0B02

/-! ## Staging and tiles (R152–R154, R192, R193) -/

/-- A staged line has an uncorrectable error: the words at or after it do not start (R154). -/
def Desc.spoil (unit : Nat) (d : Desc) : Desc :=
  { d with items := d.items.map fun i => if unit < i.ofs / 16 + i.word.units then { i with bad := true } else i }

/-- The units of an overlap pool that stand before it is empty. -/
def Pool.unitsLeft (p : Pool) : Nat := (p.queue.map fun d => unitsOf d.items).sum

/-- The units of engine `n`'s staging buffer that its exclusive pool has: 256 KiB less 4 KiB for each zone in which
the engine is eligible (R152). -/
def State.stageRoom (s : State) (n : Nat) : Nat :=
  16384 - 256 * (s.zones.filter fun z => z.headMask.testBit n).length

/-- The units of an exclusive pool that stand in the buffer: a block holds what it has not yet given out
(log entry 54). -/
def Pool.stagedUnits (p : Pool) : Nat := ((p.queue.filter (·.staged)).map fun d => unitsOf d.items).sum

/-- The block that the mover fetches next: the first in DSEQ order that is not staged, once the buffer has room
(R152). -/
def State.stageNext? (s : State) (n : Nat) (p : Pool) : Option Desc :=
  (p.queue.find? fun d => !d.staged && !d.items.isEmpty).filter fun d => decide (p.stagedUnits + d.units ≤ s.stageRoom n)

/-- BLOCK_STAGED: a block of an exclusive pool, or engine `n`'s window of 4 KiB of an overlap pool. -/
def execBlockStaged (n pool : Nat) (dseq : W32) (ue : Option StageUe) (s : State) : Host.Outcome State Fault Refusal :=
  match s.pool? pool with
  | none => .next s
  | some p =>
    let d? := if pool < 32 then (s.stageNext? n p).filter fun d => d.dseq == dseq
      else p.queue.find? fun d => d.dseq == dseq
    match d? with
    | none => .next s
    | some d =>
      if !s.declared n || (decide (pool < 32) && pool != n) ||
          (decide (0x100 ≤ pool) && !(s.zoneMask (pool - 0x100)).testBit n) then .next s
      else
        let s := match ue with
          | some u => ((s.dramError u.line).record 0x0060 .control []).modDesc pool d.flight (Desc.spoil u.unit)
          | none => s
        let s := if pool < 32 then s.modDesc pool d.flight fun d => { d with staged := true }
          else s.modPool pool fun p =>
            { p with windows := (p.windows.filter fun w => w.1 != n) ++ [(n, min 256 p.unitsLeft)] }
        .next s

/-- The tile fetcher meets an uncorrectable line (R398): the head's grid is unloaded, and the word that needed the tile
and the later ones of its descriptor do not start. -/
def State.unloadGrid (n : Nat) (t : Nat × Nat) (s : State) : State :=
  let need := s.needing? n (s.ix + 1) t
  let bad (i : Item) : Bool := need.any fun j => j.pool == i.pool && j.desc == i.desc && decide (j.ofs ≤ i.ofs)
  let gone (g : Nat × GridImage) : Nat × GridImage := if g.1 = n then (n, { g.2 with stand := .unloaded }) else g
  let s : State := { s with mem := { s.mem with grids := s.mem.grids.map gone } }
  let word (w : MWord) : MWord :=
    if bad w.item ∧ s.ix < w.firstOut then { w with item := { w.item with bad := true } } else w
  (s.modEngine n fun e =>
    { e with requested := e.requested.erase t, cur := e.cur.map fun m => { m with words := m.words.map word } }).spoilWords bad

/-- TILE_RESIDENT (R193): a tile that was requested arrives; an error in its line unloads the grid. -/
def execTileResident (n i j : Nat) (ue : Option LineUe) (s : State) : Host.Outcome State Fault Refusal :=
  if !s.declared n || !(s.engine n).requested.contains (i, j) then .next s
  else match ue with
    | none =>
      let s := s.modEngine n (Engine.addTile (i, j))
      -- an inner wait ends when the rest of the stroke has its tiles
      .next (if (s.engine n).wait = .inner ∧ (s.engine n).cur = none ∧ s.tilesReady n (s.ix + 1) then
          s.modEngine n fun e => { e with wait := .none }
        else s)
    | some l =>
      .next (((s.dramError l).unloadGrid n (i, j)).refusePools.settleDescs)

/-! ## A layer's end (R161, R500) -/

/-- What engine `n`'s counters show, in the order of R500, without the three values kept for the layer. -/
def State.summaryNow (s : State) (n : Nat) : List Nat :=
  let e := s.engine n
  let l := s.headLink n
  let m := nth {} s.melt n
  [e.vectors.toNat, e.gateOn.toNat, e.starveTime.toNat, e.innerWait.count.toNat, e.syncWait.toNat, e.holdTime.toNat,
   e.holds.count.toNat, e.takes.toNat, l.upCrc.count.toNat, l.upMiss.count.toNat, m.crc.count.toNat,
   m.ratioHeldCnt.count.toNat].map (· % 2 ^ 32)

/-- The counts of a layer start here. -/
def State.startSummary (s : State) : State :=
  { s with
    tail := { s.tail with base := (List.range 32).map s.summaryNow }
    engines := s.engines.map fun e => { e with layerHold := 0, loopSwaps := 0, loopTrips := 0 } }

/-- A change that clears counters leaves the layer's counts as they are. -/
def State.keepSummary (f : State → State) (s : State) : State :=
  let t := f s
  let moved (n : Nat) (b : List Nat) : List Nat :=
    (b.zip ((s.summaryNow n).zip (t.summaryNow n))).map fun x => (x.1 + x.2.2 + (2 ^ 32 - x.2.1)) % 2 ^ 32
  { t with tail := { t.tail with base := t.tail.base.zipIdx.map fun b => moved b.2 b.1 } }

/-- The fifteen values of engine `n`. -/
def State.summaryOf (s : State) (n : Nat) : List Nat :=
  let e := s.engine n
  let base := s.tail.base.getD n []
  let v := (s.summaryNow n).zipIdx.map fun x => (x.1 + (2 ^ 32 - base.getD x.2 0)) % 2 ^ 32
  v.take 8 ++ [e.layerHold % 2 ^ 32] ++ v.drop 8 ++ [e.loopSwaps % 2 ^ 32, e.loopTrips % 2 ^ 32]

/-- The two summary records of a layer. -/
def State.summarize (l : W32) (s : State) : State :=
  if !s.tail.summary then s
  else
    let part (p : Nat) : List Byte := leBytes 4 l.toNat ++ leBytes 2 p ++ leBytes 2 0 ++
      ((List.range 16).flatMap fun i => u32s (s.summaryOf (16 * p + i))) ++ List.replicate 16 0
    let rec_ (p : Nat) (t : State) : State := t.recordAt (some t.time.t) t.power.core 0x0003 .control (part p)
    rec_ 1 (rec_ 0 s)

/-- Every engine has an empty plan, a low gate and its last laser-off delay behind it. -/
def State.enginesEmpty (s : State) : Bool :=
  (List.range 32).all fun n => !s.declared n ||
    let e := s.engine n
    e.cur.isNone && e.queue.isEmpty && !e.gate && e.edges.isEmpty

/-- Layer `l` has ended (R161). -/
def State.layerOver (s : State) (l : W32) : Bool :=
  (s.job.layers.any fun x => x.num == l && x.closed) && s.enginesEmpty &&
    s.job.pools.all fun p => p.queue.all fun d => d.layer != l

end Sys2Proof.Machine
end

