-- ==== Sys2Proof/Machine/Power.lean ====
section
/-!
DEFINITION. Power and clock faults (R425–R428), clock domains (R430) and Umbra (R431–R438).
-/

namespace Sys2Proof.Machine

/-! ## Faults -/

/-- Rail `r` should be up: the core rails while the core die is powered, the others with VIN_12V. -/
def State.railUp (s : State) (r : Nat) : Bool :=
  s.power.vin && !s.power.pinReset && !s.power.hotReset && !s.power.faultOff && (decide (3 ≤ r) || s.power.core)

/-- RAIL_FAULT (R425, R427): the 1 µs average in mV. One within its window is only recorded. At an Umbra exit a core
rail that has not discharged before it is ramped up is a rail fault (R539). -/
def execRailFault (rail mv : Nat) (s : State) : Host.Outcome State Fault Refusal :=
  .next (if s.power.umbra = .leaving ∧ railCharged rail mv then s.coreFault 2 rail
  else if 7 ≤ rail ∨ s.railUp rail = false then s
  else
    let s := s.railNow rail mv
    if railGood rail mv then s
    else s.coreFault (if railNominal rail < mv then 2 else if rail = 6 then 3 else 1) rail)

/-- CLOCK_FAULT (R426, R427): a core-die PLL, or XTAL_MAIN. -/
def execClockFault (pll : Bool) (s : State) : Host.Outcome State Fault Refusal :=
  .next (if (if pll then s.power.core else s.railUp 3) then s.coreFault (if pll then 5 else 4) 0 else s)

/-- XTAL32_LOST (R426). -/
def execXtal32Lost (s : State) : Host.Outcome State Fault Refusal :=
  .next (if s.power.vin then { s with power := { s.power with xtal32Lost := true } } else s)

/-! ## Clock domains (R24, R430) -/

/-- IMG has work: a frame or a unit under way, or an exposure planned within 60 µs (R328). -/
def State.imgBusy (s : State) : Bool :=
  s.camera.unit.isSome || (List.range 8).any (fun i => s.windowNear i s.ix 240) ||
    s.camera.sensors.any fun x => x.cur.isSome || !x.closing.isEmpty

/-- MGMT has work: flash writes, image checks or quotes. -/
def State.mgmtBusy (s : State) : Bool :=
  !s.boot.flashJobs.isEmpty || !s.boot.checks.isEmpty || !s.boot.quotes.isEmpty

/-- One sample of the times for which MGMT and IMG have been idle (R430), of the boot (R465) and of the health
window (R478). -/
def State.idleTick (s : State) : State :=
  { s with
    power := { s.power with
      mgmtIdle := if s.mgmtBusy then 0 else s.power.mgmtIdle + 1, imgIdle := if s.imgBusy then 0 else s.power.imgIdle + 1 }
    boot := { s.boot with bootFor := s.boot.bootFor + 1, windowFor := s.boot.windowFor.map (· + 1) } }

/-- DOMAIN_CLOCK_STOP: MGMT or IMG, idle for 1 ms. -/
def execDomainClockStop (d : Nat) (s : State) : Host.Outcome State Fault Refusal :=
  let p := s.power
  .next (if (d = 1 ∧ s.mgmtBusy = false ∧ 4000 ≤ p.mgmtIdle + 1) ∨ (d = 11 ∧ s.imgBusy = false ∧ 4000 ≤ p.imgIdle + 1) then
    let bit : W32 := 1 <<< d
    { s with power := { s.power with domains := s.power.domains &&& ~~~bit } }
  else s)

/-! ## Umbra -/

/-- PWR_WAKE_LEFT in ms. -/
def State.wakeLeft (s : State) : Nat :=
  if s.power.umbra = .awake then 0
  else s.power.wakeMs.toNat - (s.time.t - s.power.wakeFrom) / 65536000000

/-- PWR_STATUS (R445). -/
def State.pwrStatusWord (s : State) : W32 :=
  let p := s.power
  packWord [(p.faultCause, 28), (p.faultRail, 25), (b1 p.faultOff, 24), (b1 p.xtal32Lost, 23), (p.wakeSrc, 16), (p.pg.toNat % 128, 0)]

/-- PLANE_STATUS (R23). -/
def State.planeStatusWord (s : State) : W32 :=
  let p := s.planes
  let pair := if p.ctl = .pause then 2 else if p.ctl = .running then p.pair.elim 3 b1 else 3
  packWord [(s.power.umbra.num, 16), (pair, 10), (p.standby.num, 8), (p.data.num, 4), (p.ctl.num, 2), (p.mgmt.num, 0)]

/-- PWR_UMBRA_TIME (R445). -/
def State.umbraTimeWord (s : State) : W32 := packWord [(s.power.entryUs.toNat, 16), (s.power.exitUs.toNat, 0)]

/-- POWER_STATUS (R431). -/
def execPowerStatus (e : Entry) (s : State) : Host.Outcome State Fault Refusal :=
  s.command 0x0E00 e fun f s =>
    s.checked f [e.zeroFrom 0x18 40] fun s =>
      s.ok f (s.pwrStatusWord.toNat + s.planeStatusWord.toNat * 2 ^ 32) (s.umbraTimeWord.toNat + s.wakeLeft % 2 ^ 32 * 2 ^ 32) []

/-- Every Moonlink to OFF, and the ring ports stopped (R433 step 2). -/
def State.linksOff (s : State) : State :=
  let s := (List.range 32).foldl (fun s m => s.toState m fun l => { l.unlock with state := .off }) s
  { s with time := { s.time with ports := s.time.ports.map fun p => { p with blockLock := false, queueBits := 0, pdelay := {} } } }

/-- Umbra entry, steps 1 to 3 (R433). -/
def State.enterUmbra (ms : Nat) (s : State) : State :=
  let s : State := { s with power := { s.power with
    umbra := .entering, abandon := false, wakeMs := BitVec.ofNat 32 ms, wakeFrom := s.time.t } }
  let s := (s.bypCheck).event 8 0 0
  let s := ((s.umbraDisplay.umbraCameras).haloWiresLow.linksOff).calAbandon fun _ => true
  s.fspUp

/-- A command of R432 step 3 runs. -/
def State.umbraBusy (s : State) : Bool :=
  (s.axes.any fun x => x.mode != .disabled && x.mode != .idle) || !s.mem.tests.isEmpty || !s.peri.reads.isEmpty ||
    !s.eph.copying.isEmpty

/-- POWER_UMBRA (R432, R433). -/
def execPowerUmbra (e : Entry) (s : State) : Host.Outcome State Fault Refusal :=
  s.command 0x0E40 e fun f s =>
    s.checked f [e.zeroFrom 0x1C 36, (s.planes.data != .idle, { code := 0x0403 }), (s.umbraBusy, { code := 0x0403 }),
        (s.activationOn, { code := 0x0409 })] fun s => (s.ok f 0 0 []).enterUmbra (e.u 0x18 4)

/-- UMBRA_ENTRY_DONE (R433 steps 4 to 6): after a wake during step 6, exit follows at once (R437). -/
def execUmbraEntryDone (us : Nat) (s : State) : Host.Outcome State Fault Refusal :=
  .next (if s.power.umbra ≠ .entering then s
  else
    let next : Umbra := if s.power.abandon then .leaving else .asleep
    let s := s.coreSaved.railsOff
    let s : State := { s with power := { s.power with
      umbra := next, abandon := false, entryUs := BitVec.ofNat 16 us, umbraCnt := s.power.umbraCnt.inc } }
    s.record 0x00D1 .management [])

/-- A wake event (R435, R437); the first one counts. -/
def State.wake (src : Nat) (s0 : State) : State :=
  let s := s0.clockMgmt
  match s.power.umbra with
  | .entering =>
    if s.power.abandon then s else { s with power := { s.power with abandon := true, wakeSrc := src } }
  | .asleep => { s with power := { s.power with umbra := .leaving, wakeSrc := src } }
  | _ => s

/-- A restart of a core die held off after a fault (R428, R429). -/
def State.coreRestart (env : BootEnv) (s : State) : State :=
  let s : State := { s with power := { s.power with faultOff := false } }
  s.coreBoot env false

/-- POWER_WAKE (R428, R431, R435): a restart needs KEEPER. -/
def execPowerWake (e : Entry) (env : BootEnv) (s : State) : Host.Outcome State Fault Refusal :=
  if s.planes.mgmt = .restarting ∧ e.opcode = 0x0E41 ∧ e.inline = true then
    .next (s.holdFrame (.wake e env))
  else s.command 0x0E41 e fun f s =>
    let keeper := (s.slot f.slot).held &&& roleKeeper != 0
    s.checked f [e.zeroFrom 0x18 40, (s.power.faultOff && !keeper, { code := 0x0302 })] fun s =>
      let s := s.ok f 0 0 []
      if s.power.faultOff then s.coreRestart env else s.wake 1

/-- PWR_WAKE_L (R435). -/
def execPwrWakeL (s : State) : Host.Outcome State Fault Refusal := .next (s.wake 2)

/-- PERST_RELEASE (R435): a rising edge of PERST# wakes the device and releases WAKE#. -/
def execPerstRelease (b : Bool) (s : State) : Host.Outcome State Fault Refusal :=
  let i := b1 b
  let s : State := { s with power := { s.power with
    perst := upd s.power.perst i fun _ => false, wakeL := upd s.power.wakeL i fun _ => false } }
  .next (s.wake (3 + i))

/-- WAKE_TIMER (R435): WAKE_MS has passed since Umbra entry began. -/
def execWakeTimer (s : State) : Host.Outcome State Fault Refusal :=
  .next (if s.power.wakeMs ≠ 0 ∧ s.power.wakeFrom + s.power.wakeMs.toNat * 65536000000 ≤ s.time.t + sampleTime then s.wake 5
  else s)

/-- An entry abandoned before its last step (R437): what it had stopped starts again. -/
def State.undoUmbra (us : Nat) (s : State) : State :=
  let s : State := { s with power := { s.power with
    umbra := .awake, abandon := false, exitUs := BitVec.ofNat 16 us, umbraCnt := s.power.umbraCnt.inc } }
  let s := (List.range 32).foldl (fun s m => if (s.linkHead? m).isSome then s.toState m Link.restart else s) s
  let s := if s.display?.isSome then s.modDisp (Display.bringUp s.ns) else s
  (s.event 8 0 0).calStart

/-- The control state read back from DRAM channel 1: a lost line is a control-plane fault (R398, R514). -/
def State.controlBack (s : State) : State :=
  let r := s.meetsPoison (· == 1)
  r.1.elim r.2 fun l => (r.2.dramError l).ctlFault 3 false

/-- UMBRA_EXIT_DONE (R436, R437, R438). -/
def execUmbraExitDone (us : Nat) (s : State) : Host.Outcome State Fault Refusal :=
  .next (match s.power.umbra with
  | .leaving =>
    let s : State := { s with power := { s.power with
      umbra := .awake, exitUs := BitVec.ofNat 16 us, wakeL := s.power.perst } }
    let s := [0, 1, 2].foldl (fun s r => s.railNow r (railNominal r)) s
    ((s.coreBack.controlBack.calDue).event 8 0 0).calStart
  | .entering => if s.power.abandon then s.undoUmbra us else s
  | _ => s)

end Sys2Proof.Machine
end

