-- ==== Sys2Proof/Machine/Sram.lean ====
section
/-!
DEFINITION. On-chip SRAM: errors that a read finds, by region, and the scrubber (R388–R390).
-/

namespace Sys2Proof.Machine

/-! ## A tile that fails in a lookup (R196, R389 region 2) -/

/-- What is left of a word from a fraction of it on. -/
def Item.restFrom (f : Rat) (it : Item) : Item :=
  let w := it.word
  let left (v : Int) : Int := v - roundHalfAway ((v : Rat) * f)
  let d : Int := (w.endScale : Int) - w.startScale
  let w := match w.ty with
    | .arc => { w with w3 := BitVec.ofInt 32 (left (signedOf 32 w.w3.toNat)) }
    | .dot => { w with w1 := BitVec.ofInt 32 (max 1 (left w.w1.toNat)) }
    | _ => w
  { it with
    noSky := true
    word := if w.ext then { w with startScale := ((w.startScale : Int) + roundHalfAway ((d : Rat) * f)).toNat } else w }

/-- The stroke of engine `n` ends at boundary `k`, inside its word, as an inner wait. -/
def State.breakStroke (n k : Nat) (s : State) : State :=
  match (s.engine n).cur with
  | none => s
  | some m =>
    match m.opener with
    | none => s
    | some o =>
      let i := m.strokeWord k
      match m.words[i]? with
      | none => s
      | some w =>
        if m.park ∨ m.cmdEnd ≤ k ∨ i < o ∨ k < w.wa then s
        else
          let env := s.planEnv n
          let f := w.part k
          let done : MWord := { w with item := { w.item with ext := some (w.item.ext.getD 0) } }
          let rest := w.item.restFrom f :: ((m.words.drop (i + 1)).map (·.item))
          let m' := { m with words := m.words.take i ++ [done] }.cut env k (i + 1) true
          s.modEngine n fun e =>
            { e with
              cur := some m', queue := rest ++ e.queue, wait := .inner, innerWait := e.innerWait.inc
              noPulse := e.noPulse.add (b1 (m.rise.isSome && m'.rise.isNone))
              edges := (e.edges.filter fun x => x.2 && m'.rise.isSome) ++ (m'.fall.map fun f => (f, false)).toList }

/-! ## Errors (R388, R389) -/

/-- The effect of R389, but for the two regions that a lookup reads in its sample. -/
def State.sramEffect (r : SramErr) (s : State) : State :=
  match r.region with
  | 1 =>
    match (s.pool? r.object).bind Pool.front? with
    | some d => (s.modDesc r.object d.flight (Desc.spoil r.i)).record 0x0060 .control []
    | none => s
  | 2 => s.modEngine r.object fun e => { e with tiles := e.tiles.erase (r.i, r.j) }
  | 3 =>
    let a := { s.atlasNow r.object with valid := false }
    let s := { s with job := { s.job with atlas := sset {} s.job.atlas r.object a } }
    s.spoilWords (Item.names r.object)
  | 4 => if r.both then s.trigger allCh 8 0x070B else s
  | 5 => match s.peri? with
    | some e => { s with peri := s.peri.set r.object e.under }
    | none => s
  | 6 => s.modDisp fun d => { d with lost := r.object :: d.lost }
  | 7 =>
    let lose (f : CamFrame) : CamFrame := { f with lines := f.lines.dropLast, stamps := f.stamps.dropLast }
    let waits (f : CamFrame) : Bool := decide (f.done < f.lines.length)
    -- the newest line that waits; in a closed frame (never a MISSING one) its loss makes the frame SHORT (R332)
    let sensor (x : Sensor) : Sensor :=
      if x.cur.any waits then { x with cur := x.cur.map lose }
      else match x.closing.findIdx? waits with
        | some i =>
          { x with
            closing := x.closing.zipIdx.map fun y => if y.2 = i then { lose y.1 with short := true } else y.1
            shortCnt := if (x.closing[i]?).any (·.short) then x.shortCnt else x.shortCnt.inc }
        | none => x
    { s with camera := { s.camera with sensors := upd s.camera.sensors r.object sensor } }
  | 8 => s.ctlFault 3 true
  | 9 =>
    let i := r.object % s.tail.stage.length
    if s.tail.stage.isEmpty then s
    else { s with tail := { s.tail with stage := s.tail.stage.eraseIdx i, drop := s.tail.drop.inc } }
  | 10 =>
    if r.object ≠ 0 then
      let note (u : CapUnit) : CapUnit := { u with bad := (r.i, r.offset) :: u.bad }
      { s with tide := { s.tide with caps := upd s.tide.caps (r.object - 1) fun u => u.map note } }
    else if s.eph.staging.isEmpty then s
    else { s with eph := { s.eph with stagingBad := true } }
  | _ => s

/-- An error that a read finds. -/
def State.sramErr (r : SramErr) (s : State) : State :=
  if r.double then (s.noteSramUe r).sramEffect r
  else { s with mem := { s.mem with sramCe := s.mem.sramCe.inc } }

/-- SRAM_SCRUB_PASS (R390): the pass has taken its period; the errors that it found. -/
def execSramScrubPass (errs : List SramErr) (s : State) : Host.Outcome State Fault Refusal :=
  .next (if s.power.core = false ∨ s.mem.sramAge + 1 < s.mem.sramPeriod then s
  else (errs.foldl (fun s r => s.sramErr r) s).sramPassOver.settleDescs)

end Sys2Proof.Machine
end

