-- ==== Sys2Proof/Machine/Syzygy.lean ====
section
/-!
DEFINITION. Builds and the Syzygy sequence (R33, R160–R165, R324, R330, R409, R509).
-/

namespace Sys2Proof.Machine

/-! ## A build ends (R82, R164, R165, R451) -/

/-- What waits for DATA_STATE 1 or for the commits step: the ephemeris, microcode, grids, calibration. -/
def State.commitsStep (s : State) : State := (s.adoptPending.swapPending.takeGrids).calStartAll true

/-- DATA_STATE becomes 1. -/
def State.buildOver (s : State) : State :=
  let j := s.job
  let s : State := { s with
    planes := { s.planes with data := .idle }
    job := { j with
      building := false, ending := false, layers := [], running := none, lastOpened := none, finalOpened := false
      syzygy := .none, imageLeft := [], imageOpen := [], startPools := [], waitingOpen := none, layerStatus := [] }
    recoat := { s.recoat with cancelled := false } }
  s.commitsStep.loadAtEnd.servoBuildEnd

/-- The axis is at rest, and no accepted action waits to move it. -/
def Axis.atRest (x : Axis) : Bool := x.vel == 0 && x.doneAt (nextTick x.pAt) && x.todo.isEmpty

/-- A build that Eclipse has ended is over once the heads are parked; where it ended during the recoat sequence,
when every axis is at rest (R165, R324). -/
def State.endIfParked (s : State) : State :=
  let parked := (List.range 32).all fun n => !s.declared n || (s.engine n).parked
  let still := !s.recoat.cancelled || s.recoat.running.isEmpty && s.axes.toList.all Axis.atRest
  if s.job.ending ∧ parked ∧ still then s.buildOver else s

/-- ENGINE_PARKED (R205): an Eclipsed engine whose command has come to rest at its park point. -/
def execEngineParked (n : Nat) (s : State) : Host.Outcome State Fault Refusal :=
  .next (if s.declared n ∧ s.eclipsed n ∧ (s.engine n).cur = none ∧ (s.engine n).parked = false then
    (s.modEngine n fun e => { e with parked := true }).endIfParked
  else s)

/-! ## The steps (R162) -/

/-- The layer that the sequence serves. -/
def State.prepared? (s : State) : Option Layer := if s.job.running.isSome then none else s.job.layers.head?

/-- Step 5: the common start is set (R33). -/
def State.enterStart (k : Nat) (s : State) : State :=
  { s with job := { s.job with syzygy := .start, stepEnd := k, t0 := (k + 4000 + 79) / 80 * 80 } }

/-- Step 4 is over: subjects 0 and 1 have ended (R451). -/
def State.commitsDone (s : State) : Bool := !(s.calSubj 0).running && !(s.calSubj 1).running

/-- Step 4. -/
def State.enterCommits (k : Nat) (s : State) : State :=
  let l := s.prepared?
  let held := (s.job.pools.filter fun p =>
    decide (p.num < 32) && p.queue.any fun d => l.any fun x => d.layer == x.num).map (·.num)
  let s : State := { s with job := { s.job with syzygy := .commits, stepEnd := k, startPools := held } }
  let s := s.commitsStep
  -- an Eclipse of all channels at the adoption has ended the build
  if s.commitsDone ∧ s.job.ending = false then s.enterStart k else s

/-- Step 3: exactly 2,000 samples, if Perihelion is enabled (R252). -/
def State.enterTransition (k : Nat) (s : State) : State :=
  match s.peri? with
  | none => s.enterCommits k
  | some _ =>
    let s : State := { s with job := { s.job with syzygy := .transition, stepEnd := k + 2000 } }
    s.startTransition

/-- The sensors of the image step: those with SYZYGY set (R330). -/
def State.imageSensors (s : State) : List Nat :=
  (s.sensorList.map (·.sensor)).filter fun i => bitOf (s.sensor i).trig 31

/-- Step 2: over when every window of the step has closed. -/
def State.enterImage (k : Nat) (s : State) : State :=
  if s.job.imageLeft.isEmpty ∧ s.job.imageOpen.isEmpty then s.enterTransition k
  else { s with job := { s.job with syzygy := .image, stepEnd := k } }

/-- The layer has a recoat: RECOAT, with a platform and a recoater declared. -/
def State.recoats (s : State) (l : Layer) : Bool :=
  l.recoat && (s.roleAxis? 1).isSome && (s.roleAxis? 2).isSome

/-- Step 1: the sequence of layer `l` begins at sample `k`. -/
def State.enterRecoat (k : Nat) (l : Layer) (s : State) : State :=
  let left := if l.image then s.imageSensors else []
  let s : State := { s with
    planes := { s.planes with data := .syzygy }
    job := { s.job with imageLeft := left, imageOpen := [] } }
  if s.recoats l then
    let s : State := { s with job := { s.job with syzygy := .recoat, stepEnd := k } }
    s.recoatStart l.drop k
  else s.enterImage k

/-- The running step may have completed at sample `k`: the sequence goes on. -/
def State.syzygyGo (k : Nat) (s : State) : State :=
  match s.job.syzygy with
  | .recoat => if s.recoat.state = .idle ∧ s.recoat.running.isEmpty then s.enterImage k else s
  | .image => s.enterImage k
  | .commits => if s.commitsDone then s.enterStart k else s
  | _ => s

/-! ## Opening layers (R160, R163, R409) -/

/-- Layer `l` is opened by command `f`: with FIRST it starts a build. -/
def State.openLayer (f : Nat) (l : Layer) (s : State) : State :=
  let s := s.finishId f 0 0 0 false []
  let s : State := { s with job := { s.job with
    layers := s.job.layers ++ [l], lastOpened := some l.num, finalOpened := l.final } }
  if l.first then
    let s : State := { s with job := { s.job with building := true } }
    s.enterRecoat s.ix l
  else if s.job.syzygy = .waitOpen then s.enterRecoat s.ix l
  else s

/-- A waiting JOB_LAYER_OPEN with FIRST proceeds once no memory test runs (R409) and DRAM channels 0–1 are at RATE:
their switch starts while DATA_STATE is 1 (R400). -/
def State.tryOpen (s : State) : State :=
  match s.job.waitingOpen with
  | none => s
  | some (f, l) =>
    if !s.mem.tests.isEmpty then s
    else
      let s := s.fspUp
      if s.mem.fsp = .atRate then ({ s with job := { s.job with waitingOpen := none } } : State).openLayer f l else s

/-- FSP_SWITCH_DONE (R400). -/
def execFspSwitchDone (s : State) : Host.Outcome State Fault Refusal :=
  .next (if s.mem.fsp ≠ .switching then s else s.fspDone.tryOpen)

/-- JOB_LAYER_OPEN. With FIRST it waits for a memory test (R409) and for DRAM at RATE (R400). -/
def execJobLayerOpen (e : Entry) (s : State) : Host.Outcome State Fault Refusal :=
  s.command 0x0240 e fun f s =>
    let num := BitVec.ofNat 32 (e.u 0x18 4)
    let fl := e.u 0x1C 2
    let first := fl.testBit 0
    let idle := s.planes.data == .idle
    let l : Layer := { num := num, first := first, final := fl.testBit 1, recoat := fl.testBit 2, image := fl.testBit 3,
                       drop := e.u 0x20 4 }
    let out := s.job.ending || s.job.finalOpened || decide (2 ≤ s.job.layers.length) ||
      s.job.lastOpened.map (· + 1) != some num
    s.checked f [(s.eph.eph.isNone, { code := 0x0505 }), (decide (16 ≤ fl), { code := 0x0205, ofs := 0x1C }),
        e.zeroFrom 0x1E 2, e.zeroFrom 0x24 28, (decide (1000000 < e.u 0x20 4), { code := 0x0204, ofs := 0x20 }),
        (first && (!idle || s.job.waitingOpen.isSome), { code := 0x0204, ofs := 0x1C }),
        (!first && idle, { code := 0x0507 }), (!first && out, { code := 0x0208, ofs := 0x18 })] fun s =>
      let s := s.launch f
      if first then ({ s with job := { s.job with waitingOpen := some (f.id, l) } } : State).tryOpen
      else s.openLayer f.id l

/-- DIAG_MEM_TEST_DONE (R409): the oldest test ends, with the TARGETS bit and byte offset of a defect. -/
def execDiagMemTestDone (defect : Option (Nat × Nat)) (s : State) : Host.Outcome State Fault Refusal :=
  match s.mem.tests with
  | [] => .next s
  | t :: r =>
    let s : State := { s with mem := { s.mem with tests := r } }
    let s := match defect with
      | none => s.finishId t.flight 0 0 0 false []
      | some (b, o) => s.finishId t.flight 0x0B0A 0 (BitVec.ofNat 64 (o % 2 ^ 32 + b % 65536 * 2 ^ 32)) false []
    .next s.tryOpen

/-! ## Steps that end in time -/

/-- SERVO_TICK (R310): the axes move on, and the recoat sequence with them. -/
def execServoTick (s : State) : Host.Outcome State Fault Refusal :=
  .next (if s.power.core = false ∨ s.tickAt tickLen = false then s
    else ((((s.axesTick s.ix).recoatTick s.ix).axesDrive s.ix).syzygyGo s.ix).endIfParked)

/-- RECOAT_DWELL_END (R322): the first sample after the dwell is the present one. -/
def execRecoatDwellEnd (s : State) : Host.Outcome State Fault Refusal :=
  .next (if s.recoat.state = .dwell ∧ s.recoat.dwellEnd ≤ s.ix then
    ({ s with recoat := { s.recoat with state := .idle } } : State).syzygyGo s.ix
  else s)

/-- SYZYGY_TRIGGER (R330): at E − TRIG_DLY, or at the start of the step where that has passed. -/
def execSyzygyTrigger (sensor : Nat) (s : State) : Host.Outcome State Fault Refusal :=
  let dly := 4 * fieldOf (s.sensor sensor).trig 15 0
  let due : Bool := match s.job.syzygy with
    | .recoat => s.exposureStart?.any fun e => decide (e ≤ s.ix + dly)
    | .image => true
    | _ => false
  .next (if due && s.job.imageLeft.contains sensor && !s.time.preEpoch then
    let r := s.trigOrSkip sensor s.ix
    let s := r.2
    let s : State := { s with job := { s.job with
      imageLeft := s.job.imageLeft.filter (· != sensor)
      imageOpen := if r.1 then s.job.imageOpen ++ [(sensor, (s.sensor sensor).lastFrame)] else s.job.imageOpen } }
    s.syzygyGo s.ix
  else s)

/-- EXPOSURE_END (R328, R330), with the readings of the strobed sinks at the end of their pulses. -/
def execExposureEnd (x : ExposureEnd) (s : State) : Host.Outcome State Fault Refusal :=
  .next ((s.closeWindow x.sensor x.ms).syzygyGo (s.ix + 1))

/-- TRANSITION_STEP_END (R162): 2,000 samples after the step began. -/
def execTransitionStepEnd (s : State) : Host.Outcome State Fault Refusal :=
  .next (if s.job.syzygy = .transition ∧ s.job.stepEnd ≤ s.ix then s.enterCommits s.ix else s)

/-- CAL_RUN_DONE (R449, R451). -/
def execCalRunDone (i : Nat) (run1 run2 : List (List Int)) (s : State) : Host.Outcome State Fault Refusal :=
  .next ((s.calRunDone i run1 run2).syzygyGo s.ix)

/-! ## The common start (R33, R145, R220, R509) -/

/-- The first block of every exclusive pool that held one when step 4 began is staged. -/
def State.startStaged (s : State) : Bool :=
  s.job.startPools.all fun n => (s.pool? n).all fun p => p.front?.all (·.staged)

/-- The common start of layer `l`: the next sample is its first. -/
def State.startLayer (l : Layer) (s : State) : State :=
  let s : State := { s with
    planes := { s.planes with data := .build }
    job := { s.job with
      running := some l.num, syzygy := .none, startPools := [], imageLeft := [], imageOpen := []
      pools := s.job.pools.map fun p =>
        { p with speedScale := 0x8000, powerScale := 0x8000, headAge := 0, escalated := false } }
    arb := { s.arb with rank0 := l.num.toNat % 32, unresolvedPairs := [], unresolvedNow := [], untried := [] }
    engines := s.engines.map fun e => { e with syncTag := none, wait := .none } }
  let s := (List.range 32).foldl (fun s n => if s.eclipsed n then s.dropExclusive n else s) s
  let s := (s.dropZones).settleDescs
  let s := s.startSummary.feedAll (s.ix + 1)
  (holdMarks allCh s.ix (s, s.published s.ix)).1

/-- COMMON_START: on a multiple of 80, at least 4,000 samples after the last step, once the first blocks are
staged. -/
def execCommonStart (s : State) : Host.Outcome State Fault Refusal :=
  .next (match s.prepared? with
    | some l =>
      if s.job.syzygy = .start ∧ s.job.t0 ≤ s.ix + 1 ∧ (s.ix + 1) % 80 = 0 ∧ s.startStaged then
        ({ s with job := { s.job with t0 := s.ix + 1 } } : State).startLayer l
      else s
    | none => s)

/-! ## The end of a layer (R161, R163, R164) -/

/-- LAYER_END. -/
def execLayerEnd (s : State) : Host.Outcome State Fault Refusal :=
  .next (match s.job.running with
    | none => s
    | some l =>
      if s.layerOver l = false ∨ s.job.ending then s
      else
        let code := ((s.job.layerStatus.find? fun x => x.1 == l).map (·.2)).getD 0
        let final := s.job.layers.any fun x => x.num == l && x.final
        let s := (s.event 6 code (l.setWidth 64)).summarize l
        let s : State := { s with
          planes := { s.planes with data := .syzygy }
          job := { s.job with
            running := none, layers := s.job.layers.filter fun x => x.num != l
            layerStatus := s.job.layerStatus.filter fun x => x.1 != l } }
        if final then s.buildOver
        else match s.job.layers.head? with
          | some n => s.enterRecoat s.ix n
          | none => { s with job := { s.job with syzygy := .waitOpen } })

end Sys2Proof.Machine
end

