-- ==== Sys2Proof/Machine/SampleTick.lean ====
section
/-!
DEFINITION. SAMPLE_TICK: one 250 ns sample of the core die (R26, R201–R232, R246–R253, R297).
-/

namespace Sys2Proof.Machine

/-! ## Parts of a sample -/

/-- Every declared channel, in order. -/
def State.eachChannel (f : Nat → State → State) (s : State) : State :=
  (List.range 32).foldl (fun s n => if s.declared n then f n s else s) s

/-- The energy and the gate of channel `n`'s record of sample `k` are taken on. -/
def State.recordOut (k n : Nat) (s : State) : State := (s.deposit n).noteGate k n

/-- Times that engines spend waiting or held in a sample (R206, R234). -/
def State.countWaits (s : State) : State :=
  let held := ((List.range 32).filter fun n => (s.engine n).held.isSome).length
  { s with
    engines := s.engines.map fun e =>
      let e := e.count
      if e.held.isSome then { e with holdTime := stat e.holdTime 1 } else e
    arb := { s.arb with holdTime := stat s.arb.holdTime held } }

/-- A grid lookup that meets an uncorrectable word in its sample (R389 region 2): the engine repeats the X, Y and Z
of the record before and ends its stroke. -/
def State.repeatXyz (k : Nat) (before : State) (r : SramErr) (s : State) : State :=
  if r.double = false ∨ r.region ≠ 2 then s
  else
    let o := (before.engine r.object).sr
    (s.modEngine r.object fun e => { e with sr := { e.sr with x := o.x, y := o.y, z := o.z } }).breakStroke r.object k

/-- The sample-driven work of the data plane in sample `k`. -/
def State.dataSample (k : Nat) (errs : List SramErr) (s : State) : State :=
  let peri := errs.filter fun r => r.region == 5
  let rest := errs.filter fun r => r.region != 5
  let s := s.eachChannel (State.boundary k)
  let s := peri.foldl (fun s r => s.sramErr r) s.settleDescs
  let s := s.eachChannel (State.lookup k)
  let before := s
  let s := s.eachChannel (State.makeRec k)
  let s := rest.foldl (fun s r => State.repeatXyz k before r s) s
  let s := State.breaches k before s
  let s := s.eachChannel (State.recordOut k)
  let s := s.countWaits.noteStarving.diffuseSome
  let s := (s.refusePools.settleDescs.feedAll (k + 1)).arbitrate k
  let s := s.eachChannel fun n s => s.fetchTile n k
  rest.foldl (fun s r => s.sramErr r) s

/-! ## SAMPLE_TICK -/

/-- Machine time in Umbra, kept in the AON domain at 40 ns resolution (R383). -/
def State.aonTick (s : State) : State :=
  let t := s.time.t + sampleTime
  let s : State := { s with time := { s.time.setT t with aon := t / (40 * 65536) * (40 * 65536) } }
  s.deriveIx

/-- SAMPLE_TICK: the next sample begins. Before the epoch no sample-driven work is done (R373). -/
def execSampleTick (errs : List SramErr) (s : State) : Host.Outcome State Fault Refusal :=
  .next (
    let s := s.idleTick
    if s.power.core = false then (if s.power.umbra = .awake then s else s.aonTick)
    else
      let s := ((s.timeTick.ringTick).bypTick).memTick
      if s.time.preEpoch then s
      else
        let s := (s.axesEmit s.ix).camTick s.ix
        ((s.dataSample s.ix errs).settleDescs.linksSend s.ix).endIfParked)

end Sys2Proof.Machine
end

