-- ==== Sys2Proof/Machine/Thermal.lean ====
section
/-!
DEFINITION. Temperature (R439–R444): conversions, limits, breaches, trips and the second's clock.
-/

namespace Sys2Proof.Machine

/-- Entry `i`. -/
def State.thm (s : State) (i : Nat) : ThmEntry := nth {} s.power.thm i

/-- Entry `i` changed. -/
def State.modThm (i : Nat) (f : ThmEntry → ThmEntry) (s : State) : State :=
  { s with power := { s.power with thm := upd s.power.thm i f } }

/-- The declaration of entry `i`, if it is used. -/
def State.thmEntry? (s : State) (i : Nat) : Option EphTherm :=
  (s.eph.eph.bind fun e => e.thermal.sensors[i]?).filter fun x => x.kind != 0

/-- A breach begins (R442): `limit` is 0 HIGH, 1 LOW, 2 RISE, 3 a sensor fault. In Umbra it only records. -/
def State.breach (i limit : Nat) (x : EphTherm) (s : State) : State :=
  let bit : W32 := 1 <<< limit
  let s := s.modThm i fun t => { t with latched := t.latched ||| bit, breach := t.breach.inc }
  let s := s.record 0x00E0 .management (u32s [i, limit, unsignedOf 32 (s.thm i).reading])
  let code : Code := if limit = 1 then 0x0803 else if limit = 2 then 0x0804 else 0x0802
  if s.power.core then s.trigger (fun n => x.eclipseAll || bitOf x.eclipseMask n) 3 code else s

/-- A limit after one reading that lies beyond it or back within it (R441). -/
def Limit.step (beyond back : Bool) (l : Limit) : Limit :=
  let towards := if l.live then back else beyond
  let n := if towards then l.run + 1 else 0
  if 2 ≤ n then { live := !l.live, run := 0 } else { l with run := n }

/-- The HIGH and LOW limits of a used entry after a reading (R441). -/
def State.limits (i : Nat) (x : EphTherm) (r : Int) (s : State) : State :=
  let t := s.thm i
  let high := t.high.step (decide (x.high < r)) (decide (r ≤ x.high - 128))
  let low := t.low.step (decide (r < x.low)) (decide (x.low + 128 ≤ r))
  let s := s.modThm i fun t => { t with high := high, low := low }
  let s := if high.live && !t.high.live then s.breach i 0 x else s
  if low.live && !t.low.live then s.breach i 1 x else s

/-- The highest and lowest reading since the last clear (THM_S_MAXMIN). -/
def ThmEntry.note (r : Int) (t : ThmEntry) : ThmEntry :=
  let m := match t.maxmin with
    | some (h, l) => (max h r, min l r)
    | none => (r, r)
  { t with reading := r, valid := true, fault := false, maxmin := some m }

/-- A conversion of entry `i` (R439, R440): `none` is a fault of a remote sensor. -/
def State.convert (i : Nat) (reading : Option Int) (s : State) : State :=
  let decl := s.thmEntry? i
  let coreDie := decide (16 ≤ i) && decide (i < 20)
  if 22 ≤ i ∨ !s.power.vin ∨ (i < 16 ∧ decl.isNone) then s
  else if coreDie && !s.power.core then s.modThm i fun t => { t with valid := false }
  else
    let s := s.clockMgmt
    let s := match reading with
      | some r =>
        let s := s.modThm i (ThmEntry.note r)
        match decl with
        | some x => s.limits i x r
        | none => s
      | none =>
        let was := (s.thm i).fault
        let remote := decide (i < 16)
        let s := s.modThm i fun t => { t with valid := false, fault := remote }
        match decl with
        | some x => if remote && !was then s.breach i 3 x else s
        | none => s
    let s := s.nvCheck.nvWork
    if 16 ≤ i then s.calDue.calStart else s

/-- The whole device held in reset by a companion-die reading (R443). -/
def State.overtemp (s : State) : State :=
  ({ s with power := { s.power with hotReset := true } }).powerReset false

/-- The trips of R443, from 125 °C on a core-die entry and from 150 °C on a companion-die one. -/
def State.trips (i : Nat) (r : Int) (s : State) : State :=
  if 16 ≤ i ∧ i < 20 ∧ 8000 ≤ r ∧ s.power.core = true then s.coreFault 6 0
  else if (i = 20 ∨ i = 21) ∧ 9600 ≤ r ∧ s.power.vin = true then s.overtemp
  else s

/-- SENSOR_CONVERSION: a reading in 1/64 °C. -/
def execSensorConversion (entry : Nat) (reading : Option Int) (s : State) : Host.Outcome State Fault Refusal :=
  .next (match reading with
  | some r => (s.convert entry reading).trips entry r
  | none => s.convert entry reading)

/-- JUNCTION_TRIP: a conversion of a core-die entry at 125 °C or more. -/
def execJunctionTrip (entry : Nat) (reading : Int) (s : State) : Host.Outcome State Fault Refusal :=
  .next (if 16 ≤ entry ∧ entry < 20 ∧ 8000 ≤ reading then (s.convert entry (some reading)).trips entry reading else s)

/-- COMPANION_OVERTEMP: a conversion of a companion-die entry at 150 °C or more. -/
def execCompanionOvertemp (entry : Nat) (reading : Int) (s : State) : Host.Outcome State Fault Refusal :=
  .next (if (entry = 20 ∨ entry = 21) ∧ 9600 ≤ reading then (s.convert entry (some reading)).trips entry reading else s)

/-- COMPANION_COOLED (R443): both companion entries, as read in reset, are below 130 °C, and the device powers up. -/
def execCompanionCooled (x : CooledStart) (s : State) : Host.Outcome State Fault Refusal :=
  .next (if s.power.hotReset ∧ x.buck < 8320 ∧ x.halo < 8320 then
    ({ s with power := { s.power with hotReset := false } }).bootIfFree x.env
  else s)

/-- The rise of an entry over RISE_WIN, once its history covers that (R441). -/
def ThmEntry.riseOver (w : Nat) (t : ThmEntry) : Option Int :=
  match t.history[w - 1]? with
  | some (some old) => if t.valid then some ((t.reading - old).tdiv w) else none
  | _ => none

/-- The rise of entry `i` evaluated, and its reading kept (R441). -/
def State.riseOne (i : Nat) (s : State) : State :=
  let t := s.thm i
  let s := match s.thmEntry? i with
    | none => s
    | some x =>
      match t.riseOver x.riseWin with
      | none => s
      | some r =>
        let live := decide ((x.riseMax : Int) < r)
        let s := s.modThm i fun t => { t with rise := r, riseLive := live }
        if live && !t.riseLive then s.breach i 2 x else s
  s.modThm i fun t => { t with history := ((if t.valid then some t.reading else none) :: t.history).take 60 }

/-- RISE_EVALUATION: once per second. The second also counts for the operating seconds (R485) and the pass
clocks of the scrubbers (R390, R399). -/
def execRiseEvaluation (s : State) : Host.Outcome State Fault Refusal :=
  .next (if !s.power.vin then s
  else
    let s := { s with boot := { s.boot with opsec := (s.boot.opsec + 1) % 2 ^ 40 } }
    ((List.range 22).foldl (fun s i => s.riseOne i) s).scrubSecond.sramSecond)

end Sys2Proof.Machine
end

