-- ==== Sys2Proof/Machine/Flags.lean ====
section
/-!
DEFINITION. What every register reads (R6, R11, R12): the status words, the counters with their SAT flags
(R206, R501), and one line per register of the map.
-/

namespace Sys2Proof.Machine

/-! ## Words -/

/-- The low 32 bits of a number. -/
def low32 (n : Nat) : W32 := BitVec.ofNat 32 n

/-- A signed value in 32 bits. -/
def int32 (z : Int) : W32 := BitVec.ofInt 32 z

/-- The _LO and _HI words of a 64-bit statistic (R501). -/
def lo64 (w : W64) : W32 := w.setWidth 32
def hi64 (w : W64) : W32 := (w >>> 32).setWidth 32

/-- A counter control register: SAT of counter `k` in bit 16 + k; CLEAR reads zero. -/
def satWord (cs : List Counter) : W32 := packWord (cs.zipIdx.map fun c => (b1 c.1.sat, 16 + c.2))

/-! ## Global registers and slots -/

/-- Machine time as the latch reads it: in Umbra that of the AON keeper (R387). -/
def State.latchTime (s : State) : Nat := if s.power.core then s.time.t else s.time.aon

/-- STAGE of BOOT_EPH_STATUS. -/
def StageState.num : StageState → Nat
  | .empty => 0 | .loading => 1 | .loaded => 2 | .validating => 3 | .valid => 4 | .rejected => 5

/-- COMMIT of BOOT_EPH_STATUS. -/
def CommitState.num : CommitState → Nat
  | .none => 0 | .pending => 1 | .adopting => 2 | .adopted => 3 | .cancelled => 4 | .failed => 5

/-- BOOT_EPH_STATUS. -/
def State.ephStatusWord (s : State) : W32 :=
  packWord [(s.eph.bootSlot.toNat, 18), (b1 s.eph.bootNone, 17), (s.eph.stage.num, 8), (s.eph.commit.num, 4),
    (b1 s.eph.eph.isSome, 3), (b1 (s.eph.eph.any (·.signed)), 2)]

/-- ECLIPSE_OUT is released (R506). -/
def State.eclipseOut (s : State) : Bool :=
  !(s.power.core && s.planes.data != .off && (List.range 32).all fun n => !s.declared n || !s.eclipsed n)

/-- ECLIPSE_CAUSE of channel `n` (R510). -/
def State.eclipseCauseWord (s : State) (n : Nat) : W32 :=
  let c := nth {} s.eclipse.ch n
  packWord [(c.firstCode.toNat, 16), (b1 (s.leaveBlocked n), 12), (c.causes.toNat % 512, 0)]

/-- The link of a slot is up: its PCIe link, or its session. -/
def State.slotUp (s : State) (i : Nat) : Bool :=
  let x := s.slot i
  if x.cfg.port < 2 then (s.port x.cfg.port).linkUp else x.session.isSome

/-- HOST_SLOT_STATUS. -/
def State.slotStatusWord (s : State) (i : Nat) : W32 :=
  let x := s.slot i
  packWord [(x.cfg.qCount, 24), (x.cfg.qFirst, 16), (x.held.toNat, 12), (x.cfg.roles.toNat, 8), (b1 (s.slotUp i), 7),
    (b1 x.reject.sat, 6), (x.cfg.port, 4)]

/-- A register of the queue pair that QP names: zero while QP names no queue of the slot (R550). -/
def State.qpWord (s : State) (i : Nat) (f : Queue → W32) : W32 :=
  let x := s.slot i
  if x.cfg.owns x.qpSelect then f (s.queue x.qpSelect) else 0

/-- HOST_QP_CTRL. -/
def Queue.ctrlWord (q : Queue) : W32 := packWord [(q.vector, 16), (q.weight, 8), (b1 q.enable, 0)]

/-! ## Engines and the arbiter -/

/-- Where the command of a motion stands in sample `k`: 2 jump, 3 settle, 4 stroke, 5 polygon stop. -/
def Motion.stateNum (m : Motion) (k : Nat) : Nat :=
  match m.seg? k with
  | none => if m.opener.isNone then 2 else 4
  | some g =>
    if g.stop then 5
    else if g.settle then 3
    else match m.words[g.word]? with
      | some w => if w.item.word.ty = .jump ∨ g.b ≤ w.firstOut then 2 else 4
      | none => 2

/-- STATE of SE_STATUS. -/
def State.engineState (s : State) (n : Nat) : Nat :=
  let e := s.engine n
  if !s.declared n then 0
  else if s.eclipsed n then (if e.parked then 12 else 11)
  else if e.held.isSome then 6
  else match e.cur with
    | some m => m.stateNum s.ix
    | none => match e.wait with
      | .wait _ => 7
      | .sync _ _ => 8
      | .starved => 9
      | .inner => 10
      | .none => if e.starving then 9 else 1
      | .passed => 1

/-- SE_STATUS. -/
def State.seStatusWord (s : State) (n : Nat) : W32 :=
  let e := s.engine n
  packWord [(s.engineState n, 24), (b1 e.gate, 23), (b1 e.sr.loop, 22), (b1 e.sr.sky, 21), (b1 (s.gridOk n), 20),
    (b1 ((s.headLink n).state == .active), 19), (b1 (s.eclipsed n), 18)]

/-- SE_WORD. -/
def State.seWordWord (s : State) (n : Nat) : W32 :=
  packWord [((s.engine n).sr.pool, 16), ((s.engine n).sr.atlas, 0)]

/-- The masks of engines held, escalated and candidates (R204, R219, R222). -/
def State.heldMask (s : State) : W32 := maskOf 32 fun n => (s.engine n).held.isSome
def State.escMask (s : State) : W32 := maskOf 32 fun n => (s.engine n).escalated
def State.candMask (s : State) : W32 := maskOf 32 fun n => (s.engine n).candidate

/-- ARB_STATUS. RANK0 reads zero while no layer runs. -/
def State.arbStatusWord (s : State) : W32 :=
  let count (m : W32) : Nat := (bitsSet m 32).length
  packWord [(if s.job.running.isSome then s.arb.rank0 else 0, 24), (count s.heldMask, 16), (count s.escMask, 8),
    (count s.candMask, 0)]

/-- ARB_ENG_STATE. RANK reads zero while no layer runs. -/
def State.arbEngWord (s : State) (n : Nat) : W32 :=
  let e := s.engine n
  packWord [(b1 e.held.isSome, 31), (b1 e.pend.isSome, 30), (b1 e.escalated, 29), (b1 e.candidate, 28),
    (b1 (e.cur.any (!·.park)), 27), (b1 (e.holds.sat || e.holdMax.sat), 26), (e.pend.elim e.blocker (·.blocker), 16),
    (if s.job.running.isSome then s.arb.rank n else 0, 0)]

/-! ## Tide, melt pool, Moonlinks, axes -/

/-- TIDE_STATUS. -/
def State.tideStatusWord (s : State) : W32 :=
  let l := s.tide.loops
  packWord [(l.length, 16), ((l.filter (·.auto)).length, 8), (b1 (nth none s.tide.caps 1).isSome, 1),
    (b1 (nth none s.tide.caps 0).isSome, 0)]

/-- A register of a loop slot: zero for an undeclared one (R281). -/
def State.loopWord (s : State) (slot : Nat) (f : TideLoop → W32) : W32 := (s.loop? slot).elim 0 f

/-- TIDE_LOOP_CTL: SET reads the set in force, and MODE what was written last (R281; log entry 13). -/
def TideLoop.ctlWord (l : TideLoop) : W32 :=
  packWord [(l.set, 24), (l.entry.kind, 20), (b1 (l.modeReq.getD l.auto), 0)]

/-- The melt-pool unit of channel `n`. -/
def State.meltCh (s : State) (n : Nat) : MeltCh := nth {} s.melt n

/-- The cell that PERI_PROBE names. -/
def Peri.probeCell (p : Peri) : Nat := 2048 * fieldOf p.probe 26 16 + fieldOf p.probe 10 0

/-- ML_STATUS. -/
def Link.statusWord (l : Link) : W32 :=
  packWord [(l.reason, 24), (b1 l.powerZeroed, 19), (b1 l.headReady, 18), (b1 l.frameLock, 17), (b1 l.blockLock, 16),
    (l.test, 8), (l.state.num, 0)]

/-- AX_STATUS. -/
def State.axStatusWord (s : State) : W32 :=
  let bits (f : Axis → Bool) : Nat := (maskOf 8 fun a => f (s.axis a)).toNat
  packWord [(bits (·.homed), 16), (bits fun x => decide (2 ≤ x.mode.num), 8), (bits fun x => x.mode != .disabled, 0)]

/-- A register of an axis: zero for an undeclared one (R325). -/
def State.axisWord (s : State) (a : Nat) (f : Axis → W32) : W32 := if (s.axisEntry? a).isSome then f (s.axis a) else 0

/-! ## Cameras and Halo -/

/-- The counters of a camera port, in the order of their registers. -/
def State.camPort (s : State) (p : Nat) : CamPort := nth {} s.camera.ports p
def CamPort.counters (p : CamPort) : List Counter := [p.crc, p.hdr, p.eccFix, p.unexp]

/-- CAM_STATUS. -/
def State.camStatusWord (s : State) : W32 :=
  let active (p : Nat) : Bool := s.sensorList.any fun e => e.port == p && (s.sensor e.sensor).cur.any (·.opened)
  packWord [(b1 s.camera.storeOff, 15), (s.camera.pipeCtx, 8), (b1 s.camera.unit.isSome, 7), (b1 (active 1), 1),
    (b1 (active 0), 0)]

/-- A register of a sensor: zero for an undeclared one (R348). -/
def State.sensorWord (s : State) (i : Nat) (f : Sensor → W32) : W32 :=
  if (s.sensorEntry? i).isSome then f (s.sensor i) else 0

/-- STATE of CAM_S_STATE in sample `k`. -/
def Sensor.stateNum (k : Nat) (x : Sensor) : Nat :=
  match x.cur with
  | some f => if f.opened then 4 else if k < f.winEnd then 2 else 3
  | none => if x.writing.isSome then 5 else 1

/-- CAM_S_STATE. -/
def State.sensorStateWord (s : State) (i : Nat) : W32 :=
  s.sensorWord i fun x =>
    packWord [(x.slots, 16), (b1 x.cciErr, 6), (b1 x.pending.isSome, 5), (x.stateNum s.ix, 0)]

/-- A shadow register of a context: zero for an undeclared one (R348). -/
def State.ctxWord (s : State) (c : Nat) (f : CamCtx → W32) : W32 :=
  if s.ctxDeclared c then f (s.camCtx c).shadow else 0

/-- HALO_STATUS. -/
def State.haloWord (s : State) : W32 :=
  packWord [(b1 s.halo.ntestPending, 26), (b1 s.halo.ntestRun, 25), (b1 s.halo.ntestValid, 24),
    ((maskOf 24 fun c => (s.haloCh c).faulted).toNat, 0)]

/-- HALO_CFG (R59). -/
def EphHalo.cfgWord (h : EphHalo) : W32 :=
  packWord [(h.globalRef, 24), (h.stretchInt, 16), (b1 h.neighbourTest, 6), (b1 h.stretchOn, 5), (h.pwmBits, 0)]

/-! ## Ring, time, memory, display -/

/-- ORB_STATUS. -/
def State.orbStatusWord (s : State) : W32 :=
  packWord [(s.ringMode, 8), (b1 s.time.bypHold, 7), (b1 (s.ringPort 1).oos, 3), (b1 (s.ringPort 0).oos, 2),
    (b1 (s.ringPort 1).blockLock, 1), (b1 (s.ringPort 0).blockLock, 0)]

/-- PTP_Dd_STATUS. -/
def State.domainWord (s : State) (d : Nat) : W32 :=
  let x := s.domain d
  packWord [(min x.run 0xFFFF, 16), ((s.domainNo? d).getD 0, 8), (b1 x.announceValid, 1), (b1 x.syncValid, 0)]

/-- DRAM_STATUS. -/
def State.dramStatusWord (s : State) : W32 :=
  let m := s.mem
  packWord [(m.failed.toNat % 256, 24), (m.selfRefresh.toNat % 256, 16), (m.fsp.num, 6), (b1 m.derate, 5),
    (b1 m.trained, 4), (m.rate, 0)]

/-- DISP_STATUS. -/
def State.dispStatusWord (s : State) : W32 :=
  let d := s.disp
  packWord [(b1 d.asyncOk, 8), (b1 d.static_, 7), (b1 d.syncOver, 6), (b1 d.syncLost, 5), (d.link.num, 0)]

/-! ## Power, temperature, calibration -/

/-- PWR_DOMAINS: the domains that R24 clocks. -/
def State.domainsWord (s : State) : W32 :=
  let on := s.power.core
  let pair (b : Bool) : Bool :=
    on && (s.planes.pair == some b ||
      (s.planes.pair == some (!b) && (s.planes.standby == .synchronising || s.planes.standby == .ready)))
  let group (g : Nat) : Bool := on && (List.range 8).any fun k => s.declared (8 * g + k)
  let axes := on && s.axes.any fun x => x.mode != .disabled
  packWord [(1, 0), (b1 (s.power.domains.getLsbD 1), 1), (b1 (pair false), 2), (b1 (pair true), 3), (b1 on, 4),
    (b1 (group 0), 5), (b1 (group 1), 6), (b1 (group 2), 7), (b1 (group 3), 8), (b1 on, 9), (b1 on, 10),
    (b1 (on && s.power.domains.getLsbD 11), 11), (b1 (on && s.display?.isSome), 12), (b1 axes, 13),
    (b1 (s.port 0).linkUp, 14), (b1 (s.port 1).linkUp, 15)]

/-- A rail's averages. -/
def State.rail (s : State) (r : Nat) : RailV := nth {} s.power.rails r

/-- A breach is live on an entry (R442). -/
def ThmEntry.breached (t : ThmEntry) : Bool := t.high.live || t.low.live || t.riseLive || t.fault

/-- THM_S_STATUS. -/
def State.thmStatusWord (s : State) (i : Nat) : W32 :=
  let t := s.thm i
  packWord [((s.thmEntry? i).elim 0 (·.kind), 28), (b1 t.breach.sat, 9), (b1 t.valid, 8), (t.latched.toNat % 16, 4),
    (b1 t.fault, 3), (b1 t.riseLive, 2), (b1 t.low.live, 1), (b1 t.high.live, 0)]

/-- CAL_STATUS. -/
def State.calStatusWord (s : State) : W32 :=
  let bits (f : CalSubject → Bool) : Nat := (maskOf 5 fun i => f (s.calSubj i)).toNat
  packWord [(b1 s.cal.cleis, 24), (bits (·.running), 16), (bits fun x => x.due || x.requested, 8),
    (s.cal.enabled.toNat % 32, 0)]

/-- CAL_SUBJ. -/
def State.calSubjWord (s : State) (i : Nat) : W32 :=
  let x := s.calSubj i
  packWord [(min (s.calMoved i) 0xFFFF, 16), (x.lastResult, 12), (min x.streak 15, 8), (b1 x.factory, 0)]

/-! ## The register map -/

/-- What instance `i` of a register reads through port `p`, before latching (R501). -/
def State.regValue (s : State) (p i : Nat) : Reg → W32
  | .devId => 0xF03200A2
  | .stepping => 0xA2
  | .caps => 0x10820
  | .planeStatus => s.planeStatusWord
  | .eclipseStatus => maskOf 32 s.eclipsed
  | .ptpLatchNs => low32 (s.latchTime / 2 ^ 16 % 1000000000)
  | .ptpLatchSec => low32 (s.latchTime / 2 ^ 16 / 1000000000)
  | .ptpLatchSecHi => packWord [(s.ix / 2 ^ 32, 16), (s.latchTime / 2 ^ 16 / 1000000000 / 2 ^ 32 % 2 ^ 16, 0)]
  | .ptpLatchSample => s.sample
  | .errLast => packWord [((s.port p).errSlot, 16), ((s.port p).errCode.toNat, 0)]
  | .errLastAddr => low32 (s.port p).errAddr
  | .hostLostCpl => (s.port p).lostCpl
  | .eclipseEnter => 0
  | .eclipseLeave => 0
  | .eclipseCtl => satWord [s.eclipse.entries]
  | .eclipsePins => packWord [(b1 s.eclipseOut, 1), (b1 s.eclipse.inReq, 0)]
  | .eclipseEntryCnt => s.eclipse.entries.count
  | .eclipseCause => s.eclipseCauseWord i
  | .bootEphStatus => s.ephStatusWord
  | .bootEphSeq => s.eph.seq
  | .bootEphAdoptLo => low32 s.eph.adoptIx.toNat
  | .bootEphAdoptHi => low32 (s.eph.adoptIx.toNat / 2 ^ 32)
  | .bootEphReject => packWord [(s.eph.rejSect.toNat, 16), (s.eph.rejCode.toNat, 0)]
  | .bootEphRejOfs => s.eph.rejOfs
  | .bootStatus => s.bootStatusWord
  | .hostSlotStatus => s.slotStatusWord i
  | .hostRoleClaim => (s.slot i).held.setWidth 32
  | .hostRoleRelease => (s.slot i).held.setWidth 32
  | .hostRejectCnt => (s.slot i).reject.count
  | .hostSlotCtl => packWord [(b1 (s.slot i).eventsOn, 1)]
  | .hostQpSelect => low32 (s.slot i).qpSelect
  | .hostQpCtrl => s.qpWord i Queue.ctrlWord
  | .hostQpSize => s.qpWord i fun q => packWord [(q.sqM1, 16), (q.cqM1, 0)]
  | .hostQpSqBaseLo => s.qpWord i fun q => low32 q.sqBase.toNat
  | .hostQpSqBaseHi => s.qpWord i fun q => low32 (q.sqBase.toNat / 2 ^ 32)
  | .hostQpCqBaseLo => s.qpWord i fun q => low32 q.cqBase.toNat
  | .hostQpCqBaseHi => s.qpWord i fun q => low32 (q.cqBase.toNat / 2 ^ 32)
  | .hostQpStatus => s.qpWord i fun q => packWord [(q.sqHead, 16), (b1 q.error, 1), (b1 (q.enable && !q.error), 0)]
  | .hostDbSqTail => 0
  | .hostDbCqHead => 0
  | .tailWindow => if (s.port p).ready then low32 (uAt (s.port p).window (4 * i) 4) else 0
  | .quoteBuffer => low32 (uAt (s.port p).quote (4 * i) 4)
  | .seStatus => s.seStatusWord i
  | .sePosX => int32 (s.engine i).sr.px
  | .sePosY => int32 (s.engine i).sr.py
  | .seOutX => int32 (s.engine i).sr.x
  | .seOutY => int32 (s.engine i).sr.y
  | .seOutZ => int32 (s.engine i).sr.z
  | .sePower => low32 (s.engine i).sr.power
  | .seFactors => packWord [((s.engine i).sr.ff, 16), ((s.engine i).sr.loopF, 0)]
  | .seWord => s.seWordWord i
  | .seVseq => (s.engine i).sr.vseq
  | .seGridCrc => ((s.grid? i).filter (·.stand == .loaded)).elim 0 (·.crc)
  | .seFocusGain => (s.engine i).focusGain
  | .seCntCtl => satWord [(s.engine i).starve, (s.engine i).innerWait, (s.engine i).skyShort,
      (s.engine i).gridClamp, (s.engine i).noPulse, (s.engine i).speedClamp]
  | .seStarveCnt => (s.engine i).starve.count
  | .seInnerWaitCnt => (s.engine i).innerWait.count
  | .seSkyShortCnt => (s.engine i).skyShort.count
  | .seGridClampCnt => (s.engine i).gridClamp.count
  | .seNoPulseCnt => (s.engine i).noPulse.count
  | .seSpeedClampCnt => (s.engine i).speedClamp.count
  | .seVectorsLo => lo64 (s.engine i).vectors
  | .seVectorsHi => hi64 (s.engine i).vectors
  | .seGateOnLo => lo64 (s.engine i).gateOn
  | .seGateOnHi => hi64 (s.engine i).gateOn
  | .seStarveTimeLo => lo64 (s.engine i).starveTime
  | .seStarveTimeHi => hi64 (s.engine i).starveTime
  | .seSyncWaitLo => lo64 (s.engine i).syncWait
  | .seSyncWaitHi => hi64 (s.engine i).syncWait
  | .arbStatus => s.arbStatusWord
  | .arbHeldMask => s.heldMask
  | .arbEscMask => s.escMask
  | .arbCandMask => s.candMask
  | .arbTailMin => s.arb.tailMin
  | .arbCntCtl => satWord [s.arb.hold, s.arb.escalate, s.arb.unresolved, s.arb.violation, s.arb.seamCut,
      s.arb.seamClamp, s.arb.forced]
  | .arbHoldCnt => s.arb.hold.count
  | .arbEscalateCnt => s.arb.escalate.count
  | .arbUnresolvedCnt => s.arb.unresolved.count
  | .arbViolationCnt => s.arb.violation.count
  | .arbSeamCutCnt => s.arb.seamCut.count
  | .arbSeamClampCnt => s.arb.seamClamp.count
  | .arbForcedCnt => s.arb.forced.count
  | .arbTakesLo => lo64 s.arb.takes
  | .arbTakesHi => hi64 s.arb.takes
  | .arbHoldTimeLo => lo64 s.arb.holdTime
  | .arbHoldTimeHi => hi64 s.arb.holdTime
  | .arbLogStatus => packWord [(s.arb.dropped.toNat, 16), (s.arb.log.length, 0)]
  | .arbLogW0 => s.arb.log.head?.elim 0 (·.w0)
  | .arbLogW1 => s.arb.log.head?.elim 0 (·.w1)
  | .arbLogW2 => s.arb.log.head?.elim 0 (·.w2)
  | .arbLogW3 => s.arb.log.head?.elim 0 (·.w3)
  | .arbLogW4 => s.arb.log.head?.elim 0 (·.w4)
  | .arbLogPop => 0
  | .arbEngState => s.arbEngWord i
  | .arbEngHoldStart => (s.engine i).holdStart
  | .arbEngHoldMax => (s.engine i).holdMax.count
  | .arbEngHolds => (s.engine i).holds.count
  | .arbEngHoldTimeLo => lo64 (s.engine i).holdTime
  | .arbEngHoldTimeHi => hi64 (s.engine i).holdTime
  | .arbEngTakesLo => lo64 (s.engine i).takes
  | .arbEngTakesHi => hi64 (s.engine i).takes
  | .tideStatus => s.tideStatusWord
  | .tideTripLo => maskOf 32 fun k => (s.loop? k).any (·.feTrip)
  | .tideTripHi => maskOf 32 fun k => (s.loop? (k + 32)).any (·.feTrip)
  | .tideCntCtl => satWord [s.tide.swap, s.tide.satSwap, s.tide.feTripCnt, s.tide.setEmptyCnt]
  | .tideSwapCnt => s.tide.swap.count
  | .tideSatSwapCnt => s.tide.satSwap.count
  | .tideFeTripCnt => s.tide.feTripCnt.count
  | .tideSetEmptyCnt => s.tide.setEmptyCnt.count
  | .tideCapStatus => (nth none s.tide.caps i).elim 0 fun c => packWord [(c.state, 30), (c.cfg.slot, 24),
      (c.rows.length, 0)]
  | .tideCapTrig => (nth none s.tide.caps i).elim 0 (·.trigIx)
  | .tideLoopCtl => s.loopWord i TideLoop.ctlWord
  | .tideLoopStatus => s.loopWord i TideLoop.status
  | .tideSp => s.loopWord i fun l => int32 l.spReg
  | .tideMan => s.loopWord i fun l => int32 l.man
  | .tideOut => s.loopWord i fun l => int32 l.y
  | .tidePv => s.loopWord i fun l => int32 l.pv
  | .tideIntLo => s.loopWord i fun l => low32 (unsignedOf 64 l.i)
  | .tideIntHi => s.loopWord i fun l => low32 (unsignedOf 64 l.i / 2 ^ 32)
  | .periStatus => packWord [(b1 s.peri?.isSome, 3), (b1 s.peri.pass.isSome, 2), (b1 s.peri.transition, 1),
      (b1 s.peri.load.isSome, 0)]
  | .periProbe => s.peri.probe
  | .periProbeT => low32 (s.peri.cell s.peri.probeCell)
  | .periPassMax => s.peri.passMax.count
  | .periSatCnt => s.peri.satCnt.count
  | .periCntCtl => satWord [s.peri.passMax, s.peri.satCnt]
  | .periStepsLo => lo64 s.peri.steps
  | .periStepsHi => hi64 s.peri.steps
  | .periDepositLo => lo64 s.peri.deposit
  | .periDepositHi => hi64 s.peri.deposit
  | .periCh => packWord [((sget (0, 0) s.peri.look i).2, 16), ((sget (0, 0) s.peri.look i).1, 0)]
  | .mpCfg => packWord [((s.meltCh i).cfg.black, 16), ((s.meltCh i).cfg.thresh, 0)]
  | .mpCfg2 => packWord [((s.meltCh i).cfg.spatterTh, 16), ((s.meltCh i).cfg.coreR, 0)]
  | .mpPdCfg => packWord [((s.meltCh i).ratioMin, 16), ((s.meltCh i).gateLag, 0)]
  | .mpStatus => packWord [(b1 (s.meltCh i).ratioHeld, 3), (b1 (s.meltCh i).noDir, 2), (b1 (s.meltCh i).dark,
      1), (b1 (s.meltCh i).roiValid, 0)]
  | .mpAreaPeak => packWord [((s.meltCh i).metrics.area, 16), ((s.meltCh i).metrics.peak, 0)]
  | .mpLenWid => packWord [((s.meltCh i).metrics.length, 16), ((s.meltCh i).metrics.width, 0)]
  | .mpCentroid => packWord [(unsignedOf 16 (s.meltCh i).metrics.cx, 16), (unsignedOf 16 (s.meltCh i).metrics.cy, 0)]
  | .mpMeanSpat => packWord [((s.meltCh i).metrics.mean, 16), ((s.meltCh i).metrics.spatter, 0)]
  | .mpRatio => low32 (s.meltCh i).ratio
  | .mpFrameSample => (s.meltCh i).frameSample
  | .mpFramesCnt => (s.meltCh i).frames.count
  | .mpCrcCnt => (s.meltCh i).crc.count
  | .mpLateCnt => (s.meltCh i).late.count
  | .mpRatioHeldCnt => (s.meltCh i).ratioHeldCnt.count
  | .mpCntCtl => satWord [(s.meltCh i).frames, (s.meltCh i).crc, (s.meltCh i).late, (s.meltCh i).ratioHeldCnt]
  | .mlStatus => (s.link i).statusWord
  | .mlCtl => packWord [((s.link i).testField, 1)]
  | .mlHeadId => packWord [((s.link i).caps.vendor, 16), ((s.link i).caps.model, 0)]
  | .mlHeadFw => low32 (s.link i).caps.fw
  | .mlHeadCaps => (s.link i).caps.caps
  | .mlDelay => low32 (unsignedOf 16 (s.link i).d)
  | .mlHeadXyFs => (s.link i).caps.xyFs
  | .mlHeadZFs => (s.link i).caps.zFs
  | .mlCntCtl => satWord [(s.link i).upCrc, (s.link i).upMiss, (s.link i).dnErr, (s.link i).bulkErr,
      (s.link i).loss, (s.link i).retrain, (s.link i).testErr]
  | .mlUpCrcCnt => (s.link i).upCrc.count
  | .mlUpMissCnt => (s.link i).upMiss.count
  | .mlDnErrCnt => (s.link i).dnErr.count
  | .mlBulkErrCnt => (s.link i).bulkErr.count
  | .mlLossCnt => (s.link i).loss.count
  | .mlRetrainCnt => (s.link i).retrain.count
  | .mlTestErrCnt => (s.link i).testErr.count
  | .mlTestBitsLo => lo64 (s.link i).testBits
  | .mlTestBitsHi => hi64 (s.link i).testBits
  | .axStatus => s.axStatusWord
  | .axRecoatCfg => packWord [(s.recoat.dwell, 16), (b1 s.recoat.bidir, 0)]
  | .axRecoatEndA => s.recoat.endA
  | .axRecoatEndB => s.recoat.endB
  | .axRecoatDose => s.recoat.dose
  | .axRecoatStatus => packWord [(s.recoat.failCause, 16), (s.recoat.failAxis, 8), (s.recoat.state.num, 0)]
  | .axState => s.axisWord i Axis.stateWord
  | .axPos => s.axisWord i fun x => int32 x.pos
  | .axTarget => s.axisWord i fun x => int32 x.target
  | .axVel => s.axisWord i fun x => int32 x.vel
  | .axEncPos => s.axisWord i fun x => int32 x.count
  | .axDev => s.axisWord i fun x => int32 x.dev
  | .axHomeLatch => s.axisWord i fun x => int32 x.homeLatch
  | .axEncZ => s.axisWord i fun x => int32 x.encZ
  | .axCfg => s.axisWord i (·.cfg)
  | .axHomeV => s.axisWord i (·.homeV)
  | .axHomeOfs => s.axisWord i (·.homeOfs)
  | .axFollowCfg => s.axisWord i (·.followCfg)
  | .axDynV => s.axisWord i fun x => low32 x.v
  | .axDynA => s.axisWord i fun x => low32 x.a
  | .axCntCtl => s.axisWord i fun x => satWord [x.chatter, x.limitStop, x.devStop, x.quadErr, x.ssiErr, x.kept,
      x.softClamp]
  | .axChatterCnt => s.axisWord i (·.chatter.count)
  | .axLimitStopCnt => s.axisWord i (·.limitStop.count)
  | .axDevStopCnt => s.axisWord i (·.devStop.count)
  | .axQuadErrCnt => s.axisWord i (·.quadErr.count)
  | .axSsiErrCnt => s.axisWord i (·.ssiErr.count)
  | .axKeptCnt => s.axisWord i (·.kept.count)
  | .axSoftClampCnt => s.axisWord i (·.softClamp.count)
  | .axStepsLo => s.axisWord i fun x => lo64 x.steps
  | .axStepsHi => s.axisWord i fun x => hi64 x.steps
  | .camStatus => s.camStatusWord
  | .camBufPeak => low32 s.camera.bufPeak
  | .camCntCtl => satWord ([0, 1].flatMap fun k => (s.camPort k).counters)
  | .camPortCrcCnt => (s.camPort i).crc.count
  | .camPortHdrCnt => (s.camPort i).hdr.count
  | .camPortEccFixCnt => (s.camPort i).eccFix.count
  | .camPortUnexpCnt => (s.camPort i).unexp.count
  | .camSState => s.sensorStateWord i
  | .camSTrig => s.sensorWord i (·.trig)
  | .camSPeriod => s.sensorWord i (·.period)
  | .camSExpTime => s.sensorWord i fun x => low32 x.shadow.time
  | .camSExpCci => s.sensorWord i (·.shadow.expCci)
  | .camSGainCci => s.sensorWord i (·.shadow.gainCci)
  | .camSCommit => 0
  | .camSGen => s.sensorWord i fun x => packWord [(x.genLast.toNat, 16), (x.deliveredGen.toNat, 0)]
  | .camSGenFrame => s.sensorWord i fun x => x.genFrame.elim 0xFFFFFFFF low32
  | .camSFrame => s.sensorWord i fun x => low32 x.delivered
  | .camSShortCnt => s.sensorWord i (·.shortCnt.count)
  | .camSLongCnt => s.sensorWord i (·.longCnt.count)
  | .camSMissingCnt => s.sensorWord i (·.missingCnt.count)
  | .camSSkipCnt => s.sensorWord i (·.skipCnt.count)
  | .camSOverrunCnt => s.sensorWord i (·.overrunCnt.count)
  | .camSCntCtl => s.sensorWord i fun x => satWord [x.shortCnt, x.longCnt, x.missingCnt, x.skipCnt, x.overrunCnt]
  | .camCBlack => s.ctxWord i fun v => low32 v.black
  | .camCCtl => s.ctxWord i fun v => packWord [(b1 v.gamma, 3), (b1 v.ccmOn, 2), (b1 v.shading, 1), (b1 v.dpc, 0)]
  | .camCCcm0 => s.ctxWord i (·.ccm.getD 0 0)
  | .camCCcm1 => s.ctxWord i (·.ccm.getD 1 0)
  | .camCCcm2 => s.ctxWord i (·.ccm.getD 2 0)
  | .camCCcm3 => s.ctxWord i (·.ccm.getD 3 0)
  | .camCCcm4 => s.ctxWord i (·.ccm.getD 4 0)
  | .camCCommit => 0
  | .haloStatus => s.haloWord
  | .haloNtestResult => s.halo.shorted
  | .haloCfg => s.haloSect?.elim 0 EphHalo.cfgWord
  | .haloVled => packWord [(s.halo.vledMeasured.toNat, 16), (s.haloSect?.elim 0 (·.vled), 0)]
  | .haloCntCtl => satWord [s.halo.openCnt, s.halo.shortCnt, s.halo.budgetCnt, s.halo.stretchCnt]
  | .haloOpenCnt => s.halo.openCnt.count
  | .haloShortCnt => s.halo.shortCnt.count
  | .haloBudgetCnt => s.halo.budgetCnt.count
  | .haloStretchCnt => s.halo.stretchCnt.count
  | .haloChLevel => (s.haloCh i).levelWord
  | .haloChStatus => s.haloStatusWord i
  | .haloChVsink => low32 (s.haloCh i).vsink.toNat
  | .haloChVerify => (s.haloCh i).lastCheck.elim 0 fun t => satAdd 0 ((s.ix - t) / 4000)
  | .orbStatus => s.orbStatusWord
  | .orbCtl => packWord [(b1 s.time.bypReq, 0)]
  | .orbRxOtherCnt => s.time.rxOther
  | .orbPpCtl => packWord [((s.ringPort i).prbs, 1), (b1 (s.ringPort i).oos, 0)]
  | .orbPpFcsCnt => (s.ringPort i).fcs.count
  | .orbPpDupCnt => (s.ringPort i).dup.count
  | .orbPpDropCnt => (s.ringPort i).drop.count
  | .orbPpPrbsErrCnt => (s.ringPort i).prbsErr.count
  | .orbPpPrbsBitsLo => lo64 (s.ringPort i).prbsBits
  | .orbPpPrbsBitsHi => hi64 (s.ringPort i).prbsBits
  | .orbPpCntCtl => satWord [(s.ringPort i).fcs, (s.ringPort i).dup, (s.ringPort i).drop, (s.ringPort i).prbsErr]
  | .ptpStatus => s.ptpStatusWord
  | .ptpRate => int32 (roundHalfAway s.time.rate)
  | .ptpPhaseLeft => int32 (roundHalfAway s.time.phaseLeft)
  | .ptpUtcOffset => int32 (s.domain s.selectedDomain).best.utc
  | .ptpPathDelayA => int32 ((s.ringPort 0).meanDelay / 65536)
  | .ptpPathDelayB => int32 ((s.ringPort 1).meanDelay / 65536)
  | .ptpCntCtl => satWord [s.time.stepCnt, s.time.switchCnt, s.time.holdoverCnt, s.time.seqErr]
  | .ptpStepCnt => s.time.stepCnt.count
  | .ptpSwitchCnt => s.time.switchCnt.count
  | .ptpHoldoverCnt => s.time.holdoverCnt.count
  | .ptpSeqErrCnt => s.time.seqErr.count
  | .ptpDdStatus => s.domainWord i
  | .ptpDdOffset => int32 (nsOf (s.domain i).offset)
  | .ptpDdFreq => int32 (clampInt (-2147483648) 2147483647 (roundHalfAway (s.domain i).freq))
  | .ptpDdGmHi => low32 ((s.domain i).best.gm.toNat / 2 ^ 32)
  | .ptpDdGmLo => low32 (s.domain i).best.gm.toNat
  | .dramStatus => s.dramStatusWord
  | .dramInfo => packWord [(s.mem.vendor, 16), (s.mem.capacity, 0)]
  | .dramScrub => packWord [(s.eph.eph.elim 0 (·.dram.scrubH), 16), (b1 s.mem.scrubRun, 0)]
  | .dramScrubPos => low32 s.scrubPos
  | .dramPassAge => satAdd 0 (s.mem.passAge.getD 0)
  | .dramPasrLo => lo64 s.mem.pasr
  | .dramPasrHi => hi64 s.mem.pasr
  | .dramUeAddrLo => s.mem.ueAddr
  | .dramUeAddrHi => packWord [(b1 s.mem.ueValid, 31), (s.mem.ueChannel, 0)]
  | .dramCntCtl => satWord [s.mem.dramCe, s.mem.dramUe, s.mem.fspCnt, s.mem.derateCnt, s.mem.dramPass]
  | .dramCeCnt => s.mem.dramCe.count
  | .dramUeCnt => s.mem.dramUe.count
  | .dramFspCnt => s.mem.fspCnt.count
  | .dramDerateCnt => s.mem.derateCnt.count
  | .dramPassCnt => s.mem.dramPass.count
  | .dramNrLo => lo64 s.mem.nr
  | .dramNrHi => hi64 s.mem.nr
  | .sramScrubCfg => s.mem.scrubCfg
  | .sramUeAddr => s.mem.sramUe
  | .sramCntCtl => satWord [s.mem.sramCe, s.mem.sramUeCnt, s.mem.sramPass]
  | .sramCeCnt => s.mem.sramCe.count
  | .sramUeCnt => s.mem.sramUeCnt.count
  | .sramPassCnt => s.mem.sramPass.count
  | .crcStatus => packWord ((List.range 8).map fun u => (nth 0 s.mem.crcOwner u, 4 * u))
  | .crcCntCtl => 0
  | .crcBytesLo => lo64 s.mem.crcBytes
  | .crcBytesHi => hi64 s.mem.crcBytes
  | .dispStatus => s.dispStatusWord
  | .dispCtl => packWord [(b1 s.disp.shadow.source, 16), (s.disp.shadow.staticDiv, 0)]
  | .dispBase => low32 s.disp.shadow.base
  | .dispAperture => low32 s.disp.window
  | .dispThmOrigin => packWord [(s.disp.shadow.cy, 16), (s.disp.shadow.cx, 0)]
  | .dispThmMap => packWord [(s.disp.shadow.tBase, 16), (s.disp.shadow.tShift, 8), (s.disp.shadow.zoom, 0)]
  | .dispCommit => packWord [(b1 s.disp.commit, 0)]
  | .dispCntCtl => satWord [s.disp.underrun, s.disp.slip, s.disp.syncMiss, s.disp.trainFail]
  | .dispUnderrunCnt => s.disp.underrun.count
  | .dispSlipCnt => s.disp.slip.count
  | .dispSyncMissCnt => s.disp.syncMiss.count
  | .dispTrainFailCnt => s.disp.trainFail.count
  | .dispFrame => s.disp.frame
  | .dispSyncPeriod => s.disp.period
  | .dispPalette => low32 (s.disp.shadow.colour i)
  | .pwrStatus => s.pwrStatusWord
  | .pwrDomains => s.domainsWord
  | .pwrUmbraTime => s.umbraTimeWord
  | .pwrWakeLeft => low32 s.wakeLeft
  | .pwrRailV => packWord [((s.rail i).low.toNat, 16), ((s.rail i).now.toNat, 0)]
  | .pwrCntCtl => satWord [s.power.umbraCnt, s.power.railFault, s.power.clkFault]
  | .pwrUmbraCnt => s.power.umbraCnt.count
  | .pwrRailFaultCnt => s.power.railFault.count
  | .pwrClkFaultCnt => s.power.clkFault.count
  | .thmStatus => packWord [(b1 s.power.nvOpen, 31), ((maskOf 22 fun k => (s.thm k).breached).toNat, 0)]
  | .thmCntCtl => 0
  | .thmSRead => packWord [(unsignedOf 16 (s.thm i).rise, 16), (unsignedOf 16 (s.thm i).reading, 0)]
  | .thmSStatus => s.thmStatusWord i
  | .thmSBreachCnt => (s.thm i).breach.count
  | .thmSMaxmin => (s.thm i).maxmin.elim 0 fun m => packWord [(unsignedOf 16 m.1, 16), (unsignedOf 16 m.2, 0)]
  | .calStatus => s.calStatusWord
  | .calCount => s.cal.count.count
  | .calLastNs => low32 (s.cal.lastTime / 2 ^ 16 % 1000000000)
  | .calLastSec => low32 (s.cal.lastTime / 2 ^ 16 / 1000000000)
  | .calLastSecHi => low32 (s.cal.lastTime / 2 ^ 16 / 1000000000 / 2 ^ 32 % 2 ^ 16)
  | .calLastOpsecLo => low32 s.cal.lastOpsec
  | .calLastOpsecHi => low32 (s.cal.lastOpsec / 2 ^ 32 % 2 ^ 8)
  | .calRejectCnt => s.cal.reject.count
  | .calCntCtl => satWord [s.cal.count, s.cal.reject]
  | .calSubj => s.calSubjWord i
  | .calDl => packWord [((nth (0, 0, 0) s.cal.taps i).2.2, 16), ((nth (0, 0, 0) s.cal.taps i).2.1, 8),
      ((nth (0, 0, 0) s.cal.taps i).1, 0)]
  | .trustStatus => packWord [(min s.boot.quotes.length 255, 8), (b1 s.boot.extending, 1), (b1 s.boot.keyReady, 0)]
  | .trustPwrCycles => s.boot.pwrCycles
  | .trustOpsecLo => low32 s.boot.opsec
  | .trustOpsecHi => low32 (s.boot.opsec / 2 ^ 32 % 2 ^ 8)
  | .trustUpdStatus => s.updStatusWord
  | .trustMr => low32 (uAt (digestBytes (nth 0 s.boot.mr (i / 16))) (4 * (i % 16)) 4)
  | .tailStatus => s.tailStatusWord
  | .tailCtl => packWord [(b1 s.tail.summary, 1), (b1 s.tail.freeze, 0)]
  | .tailWpos => low32 s.tail.wpos
  | .tailSeqNext => s.tail.seqNext
  | .tailFirstSeq => s.tail.first
  | .tailCursor => packWord [(b1 (s.port p).ready, 31), ((s.port p).cursor, 0)]
  | .tailCntCtl => satWord [s.tail.drop, s.tail.torn, s.tail.clear]
  | .tailDropCnt => s.tail.drop.count
  | .tailTornCnt => s.tail.torn.count
  | .tailClearCnt => s.tail.clear.count
  | .aperture => s.apertureRead (0x40000 + 4 * i)

end Sys2Proof.Machine
end

