-- ==== Sys2Proof/Machine/RegWrite.lean ====
section
/-!
DEFINITION. Writing registers: what a register's own table refuses (R10, R546 steps 8 and 9) and what an
accepted write does (R11), register by register.
-/

namespace Sys2Proof.Machine

/-! ## Queue pairs (R122, R550) -/

/-- The queue that HOST_QP_SELECT of slot `i` names. -/
def State.qpNow (s : State) (i : Nat) : Queue := s.queue (s.slot i).qpSelect

/-- A register of the queue pair refuses a write while QP names no queue of the slot (R550). -/
def State.qpBad (s : State) (i : Nat) (k : Queue → Option Code) : Option Code :=
  let c := (s.slot i).cfg
  if c.owns (s.slot i).qpSelect then k (s.qpNow i)
  else if c.qCount = 0 then some 0x0506
  else some 0x0208

/-- HOST_QP_CTRL. -/
def State.qpCtrlBad (s : State) (i : Nat) (w : W32) : Option Code :=
  let c := (s.slot i).cfg
  let v := fieldOf w 21 16
  s.qpBad i fun q =>
    if v < c.msixFirst ∨ c.msixFirst + c.msixCount ≤ v then some 0x0204
    else if q.enable ∧ v ≠ q.vector then some 0x0506
    else if fieldOf w 11 8 = 0 then some 0x0204
    else if bitOf w 0 ∧ (q.sqBase.toNat % 64 ≠ 0 ∨ q.cqBase.toNat % 32 ≠ 0) then some 0x0207
    else none

/-- HOST_QP_SIZE. -/
def State.qpSizeBad (s : State) (i : Nat) (w : W32) : Option Code :=
  s.qpBad i fun q =>
    if fieldOf w 31 16 < 15 then some 0x0204
    else if q.enable then some 0x0506
    else if fieldOf w 15 0 < 15 then some 0x0204
    else none

/-- A ring's base. -/
def State.qpBaseBad (s : State) (i : Nat) : Option Code :=
  s.qpBad i fun q => if q.enable then some 0x0506 else none

/-- A doorbell: an index outside the ring, or a queue that is disabled. -/
def doorbellBad (q : Queue) (size w : Nat) : Option Code :=
  if size < w then some 0x0209 else if q.enable then none else some 0x0506

/-- The selected queue changed. -/
def State.modQp (i : Nat) (f : Queue → Queue) (s : State) : State := s.modQueue (s.slot i).qpSelect f

/-- HOST_QP_CTRL stored: a change of ENABLE starts or stops the pair (R122). -/
def Queue.writeCtrl (w : W32) (q : Queue) : Queue :=
  let q := { q with vector := fieldOf w 21 16, weight := fieldOf w 11 8 }
  if bitOf w 0 = q.enable then q else q.restart (bitOf w 0)

/-- One half of a 64-bit base replaced. -/
def setLo (b : W64) (w : W32) : W64 := (b >>> 32 <<< 32) ||| w.setWidth 64
def setHi (b : W64) (w : W32) : W64 := (w.setWidth 64 <<< 32) ||| (b.setWidth 32).setWidth 64

/-- Completions that waited are posted while the completion ring has room (R116). -/
def State.drainCq (qn port : Nat) : Nat → State → State
  | 0, s => s
  | n + 1, s =>
    match (s.queue qn).waiting with
    | [] => s
    | (c, irq) :: r =>
      if (s.queue qn).cqFull then s
      else ((s.modQueue qn fun q => { q with waiting := r }).postCq qn port c irq).drainCq qn port n

/-- HOST_DB_CQ_HEAD stored. -/
def State.writeCqHead (qn port : Nat) (w : W32) (s : State) : State :=
  let s := s.modQueue qn fun q => { q with cqHead := fieldOf w 15 0 }
  s.drainCq qn port (s.queue qn).waiting.length

/-! ## Roles (R102, R105) -/

/-- Some other slot holds role `r`. -/
def State.heldElsewhere (s : State) (i : Nat) (r : BitVec 4) : Bool :=
  (List.range 8).any fun j => j != i && (s.slot j).held &&& r != 0

/-- What a claim fails (R102). -/
def State.claimBad (s : State) (i : Nat) (w : W32) : Option Code :=
  let m : BitVec 4 := w.setWidth 4
  if m &&& ~~~(s.slot i).cfg.roles ≠ 0 then some 0x0303
  else if m &&& rolePilot ≠ 0 ∧ s.heldElsewhere i rolePilot then some 0x0406
  else if m &&& roleService ≠ 0 ∧ s.heldElsewhere i roleService then some 0x0407
  else none

/-- A claim that is granted: all of the bits written. -/
def State.claim (i : Nat) (w : W32) (s : State) : State :=
  s.modSlot i fun x => { x with held := x.held ||| w.setWidth 4 }

/-! ## Conditions of the registers (R546 steps 8 and 9) -/

/-- A condition of an illegal field. -/
def bad (c : Bool) (code : Code) : Option Code := if c then some code else none

/-- The first of two failures. -/
def badThen (a b : Option Code) : Option Code := a.orElse fun _ => b

/-- TIDE_LOOP_CTL (R266, R271, R281). -/
def State.loopCtlBad (s : State) (slot : Nat) (w : W32) : Option Code :=
  match s.loop? slot with
  | none => some 0x0208
  | some l =>
    if l.entry.kind ≠ 1 ∧ (s.coefSet (fieldOf w 31 24)).isEmpty then some 0x0204
    else if bitOf w 0 ∧ l.feTrip then some 0x0204
    else none

/-- TIDE_SP where a route or the atlas gives the setpoint (R261). -/
def State.spBad (s : State) (slot : Nat) : Option Code :=
  match s.loop? slot with
  | none => some 0x0208
  | some l => bad (l.entry.kind == 1 || (s.sink? 2 slot 0).isSome) 0x0204

/-- END_A and END_B of the recoater (R322). With no recoater declared nothing bounds them. -/
def State.endBad (s : State) (w : W32) : Option Code :=
  bad ((s.roleAxis? 2).any fun x => decide (w.toInt < x.softMin) || decide (x.softMax < w.toInt)) 0x0204

/-- AX_CFG. -/
def State.axCfgBad (s : State) (a : Nat) (e : EphAxis) (w : W32) : Option Code :=
  let high := fieldOf w 7 0
  if (s.axis a).mode = .homing then some 0x0204
  else if fieldOf w 15 8 = 0 then some 0x0204
  else if high < 5 ∨ 250 < high ∨ 1000000000 < 8 * high * e.vMax then some 0x0204
  else none

/-- AX_FOLLOW_CFG. -/
def followCfgBad (w : W32) : Option Code :=
  let ratio := fieldOf w 24 16
  let tmo := fieldOf w 15 0
  bad (decide (fieldOf w 31 25 ≠ 0) || decide (ratio = 0 ∨ 256 < ratio) || decide (tmo = 0 ∨ 10000 < tmo)) 0x0204

/-- A register of an axis (R325). -/
def State.axisBad (s : State) (a : Nat) (k : EphAxis → Option Code) : Option Code :=
  (s.axisEntry? a).elim (some 0x0208) k

/-- A register of a sensor (R348). -/
def State.sensorBad (s : State) (i : Nat) (k : EphSensor → Option Code) : Option Code :=
  (s.sensorEntry? i).elim (some 0x0208) k

/-- A register of a context (R348). -/
def State.ctxBad (s : State) (c : Nat) (k : Option Code) : Option Code :=
  if s.ctxDeclared c then k else some 0x0208

/-- DISP_THM_MAP. -/
def thmMapBad (w : W32) : Option Code :=
  let zoom := fieldOf w 3 0
  badThen (bad (decide (8 < fieldOf w 11 8) || decide (zoom = 0 ∨ 8 < zoom)) 0x0204)
    (bad (decide (fieldOf w 15 12 ≠ 0 ∨ fieldOf w 7 4 ≠ 0)) 0x0202)

/-- What the register's own table refuses in a write of `w` to instance `i` of a register. -/
def State.regBad (s : State) (i : Nat) (w : W32) : Reg → Option Code
  | .eclipseEnter => bad (w &&& ~~~s.declaredMask != 0) 0x0204
  | .eclipseLeave => s.leaveBad w
  | .hostRoleClaim => s.claimBad i w
  | .hostQpSelect => bad (!(s.slot i).cfg.owns (fieldOf w 7 0)) 0x0208
  | .hostQpCtrl => s.qpCtrlBad i w
  | .hostQpSize => s.qpSizeBad i w
  | .hostQpSqBaseLo => s.qpBaseBad i
  | .hostQpSqBaseHi => s.qpBaseBad i
  | .hostQpCqBaseLo => s.qpBaseBad i
  | .hostQpCqBaseHi => s.qpBaseBad i
  | .hostDbSqTail => doorbellBad (s.queue i) (s.queue i).sqM1 (fieldOf w 15 0)
  | .hostDbCqHead => doorbellBad (s.queue i) (s.queue i).cqM1 (fieldOf w 15 0)
  | .tideLoopCtl => s.loopCtlBad i w
  | .tideLoopStatus => bad (s.loop? i).isNone 0x0208
  | .tideSp => s.spBad i
  | .tideMan => bad (s.loop? i).isNone 0x0208
  | .mpCfg => bad (decide (fieldOf w 9 0 = 0)) 0x0204
  | .mpCfg2 => badThen (bad (decide (fieldOf w 25 16 = 0)) 0x0204)
      (bad (decide (fieldOf w 5 0 = 0 ∨ 32 < fieldOf w 5 0)) 0x0204)
  | .mlCtl => s.linkCtlBad i w
  | .axRecoatEndA => s.endBad w
  | .axRecoatEndB => s.endBad w
  | .axState => s.axisBad i fun _ => none
  | .axCfg => s.axisBad i fun e => s.axCfgBad i e w
  | .axHomeV => s.axisBad i fun e => bad (decide (w.toNat = 0 ∨ e.vMax < w.toNat)) 0x0204
  | .axHomeOfs => s.axisBad i fun _ => none
  | .axFollowCfg => s.axisBad i fun _ => followCfgBad w
  | .axCntCtl => s.axisBad i fun _ => none
  | .camSState => s.sensorBad i fun _ => none
  | .camSTrig => s.sensorBad i fun _ => bad (decide (fieldOf w 27 16 = 0)) 0x0204
  | .camSPeriod => s.sensorBad i fun e => bad (decide (w.toNat * e.fpsMax < 4000000) || decide (40000000 < w.toNat)) 0x0204
  | .camSExpTime => s.sensorBad i fun _ => bad (decide (w.toNat = 0 ∨ 1000000 < w.toNat)) 0x0204
  | .camSExpCci => s.sensorBad i fun _ => none
  | .camSGainCci => s.sensorBad i fun _ => none
  | .camSCommit => s.sensorBad i fun _ => bad (bitOf w 0 && (s.sensor i).commitBad) 0x0204
  | .camSCntCtl => s.sensorBad i fun _ => none
  | .camCBlack => s.ctxBad i none
  | .camCCtl => s.ctxBad i (bad (decide (fieldOf w 15 4 ≠ 0)) 0x0204)
  | .camCCcm0 => s.ctxBad i none
  | .camCCcm1 => s.ctxBad i none
  | .camCCcm2 => s.ctxBad i none
  | .camCCcm3 => s.ctxBad i none
  | .camCCcm4 => s.ctxBad i (bad (decide (fieldOf w 31 16 ≠ 0)) 0x0204)
  | .camCCommit => s.ctxBad i none
  | .haloChLevel => s.haloLevelBad i w
  | .haloChStatus => bad (s.haloEntry? i).isNone 0x0208
  | .orbPpCtl => s.orbPortBad i w
  | .sramScrubCfg => bad (decide (fieldOf w 11 0 = 0 ∨ 3600 < fieldOf w 11 0)) 0x0204
  | .dispCtl => bad (decide (fieldOf w 2 0 = 0 ∨ 4 < fieldOf w 2 0)) 0x0204
  | .dispBase => bad (s.baseBad (fieldOf w 10 0)) 0x0204
  | .dispAperture => bad (decide (1728 < fieldOf w 10 0)) 0x0204
  | .dispThmOrigin => bad (decide (fieldOf w 31 27 ≠ 0 ∨ fieldOf w 15 11 ≠ 0)) 0x0202
  | .dispThmMap => thmMapBad w
  | .dispCommit => bad (bitOf w 1 && s.display?.isNone) 0x0204
  | _ => none

/-! ## Effects of accepted writes -/

/-- The shadow registers of the display changed. -/
def State.modShadow (f : DispRegs → DispRegs) (s : State) : State :=
  { s with disp := { s.disp with shadow := f s.disp.shadow } }

/-- The shadows of a context changed. -/
def State.modCtxShadow (c : Nat) (f : CamCtx → CamCtx) (s : State) : State :=
  s.modCamCtx c fun x => { x with shadow := f x.shadow }

/-- A CLEAR bit. -/
def State.onBit (w : W32) (i : Nat) (f : State → State) (s : State) : State := if bitOf w i then f s else s

/-- HOST_SLOT_CTL. -/
def State.slotCtl (i : Nat) (w : W32) (s : State) : State :=
  s.modSlot i fun x => { x with eventsOn := bitOf w 1, reject := if bitOf w 0 then {} else x.reject }

/-- SE_CNT_CTL (R206). -/
def Engine.clearCounters (e : Engine) : Engine :=
  { e with starve := {}, innerWait := {}, skyShort := {}, gridClamp := {}, noPulse := {}, speedClamp := {},
           vectors := 0, gateOn := 0, starveTime := 0, syncWait := 0 }

/-- ARB_CNT_CTL, the engines' part. A hold that runs keeps its blocker. -/
def Engine.clearArb (e : Engine) : Engine :=
  { e with holdStart := 0, holdMax := {}, holds := {}, holdTime := 0, takes := 0
           blocker := if e.held.isSome then e.blocker else 0 }

/-- ARB_CNT_CTL: the hold log is untouched. -/
def State.clearArb (s : State) : State :=
  { s with
    arb := { s.arb with hold := {}, escalate := {}, unresolved := {}, violation := {}, seamCut := {},
                        seamClamp := {}, forced := {}, takes := 0, holdTime := 0 }
    engines := s.engines.map Engine.clearArb }

/-- MP_CNT_CTL. -/
def MeltCh.clearCounters (c : MeltCh) : MeltCh := { c with frames := {}, crc := {}, late := {}, ratioHeldCnt := {} }

/-- CAM_S_CNT_CTL. -/
def Sensor.clearCounters (x : Sensor) : Sensor :=
  { x with shortCnt := {}, longCnt := {}, missingCnt := {}, skipCnt := {}, overrunCnt := {} }

/-- CAM_CNT_CTL. -/
def State.clearCam (s : State) : State :=
  { s with camera := { s.camera with ports := s.camera.ports.map fun _ => {}, bufPeak := 0 } }

/-- PWR_CNT_CTL. -/
def Power.clearCounters (p : Power) : Power :=
  { p with umbraCnt := {}, railFault := {}, clkFault := {}, rails := p.rails.map fun r => { r with low := 0 } }

/-- THM_CNT_CTL. -/
def Power.clearThm (p : Power) : Power :=
  { p with thm := p.thm.map fun t => { t with breach := {}, maxmin := none } }

/-- TIDE_LOOP_CTL: SET selects on a loop of KIND 2–4 alone (R266). -/
def TideLoop.writeCtl (w : W32) (l : TideLoop) : TideLoop :=
  { l with setSel := if l.entry.kind = 1 then l.setSel else fieldOf w 31 24, modeReq := some (bitOf w 0) }

/-- TIDE_LOOP_STATUS: SET_EMPTY, FE_TRIP and SAT_AT_SWAP (R265, R267, R274). -/
def TideLoop.writeStatus (w : W32) (l : TideLoop) : TideLoop :=
  { l with setEmpty := l.setEmpty && !bitOf w 8, feTrip := l.feTrip && !bitOf w 7
           satAtSwap := l.satAtSwap && !bitOf w 6 }

/-- What an accepted write of `w` to instance `i` of a register does through port `p`. -/
def State.regStore (s : State) (p i : Nat) (w : W32) : Reg → State
  | .eclipseEnter => if w = 0 then s else s.trigger (bitOf w) 1 0x0B02
  | .eclipseLeave => { s with eclipse := { s.eclipse with leaving := s.eclipse.leaving ||| w } }
  | .eclipseCtl => s.onBit w 0 fun s => { s with eclipse := { s.eclipse with entries := {} } }
  | .hostRoleClaim => s.claim i w
  | .hostRoleRelease => s.dropRoles i (w.setWidth 4)
  | .hostSlotCtl => s.slotCtl i w
  | .hostQpSelect => s.modSlot i fun x => { x with qpSelect := fieldOf w 7 0 }
  | .hostQpCtrl => s.modQp i (Queue.writeCtrl w)
  | .hostQpSize => s.modQp i fun q => { q with sqM1 := fieldOf w 31 16, cqM1 := fieldOf w 15 0 }
  | .hostQpSqBaseLo => s.modQp i fun q => { q with sqBase := setLo q.sqBase w }
  | .hostQpSqBaseHi => s.modQp i fun q => { q with sqBase := setHi q.sqBase w }
  | .hostQpCqBaseLo => s.modQp i fun q => { q with cqBase := setLo q.cqBase w }
  | .hostQpCqBaseHi => s.modQp i fun q => { q with cqBase := setHi q.cqBase w }
  | .hostDbSqTail => s.modQueue i fun q => { q with sqTail := fieldOf w 15 0 }
  | .hostDbCqHead => s.writeCqHead i p w
  | .seCntCtl => s.onBit w 0 fun s => s.keepSummary fun s => s.modEngine i Engine.clearCounters
  | .arbTailMin => { s with arb := { s.arb with tailMin := w } }
  | .arbCntCtl => s.onBit w 0 fun s => s.keepSummary State.clearArb
  | .arbLogPop => s.onBit w 0 fun s => { s with arb := { s.arb with log := s.arb.log.tail } }
  | .tideCntCtl => s.onBit w 0 fun s => { s with tide := { s.tide with swap := {}, satSwap := {}, feTripCnt := {}, setEmptyCnt := {} } }
  | .tideLoopCtl => s.modLoop i (TideLoop.writeCtl w)
  | .tideLoopStatus => s.modLoop i (TideLoop.writeStatus w)
  | .tideSp => s.modLoop i fun l => { l with spReg := w.toInt }
  | .tideMan => s.modLoop i fun l => { l with man := w.toInt }
  | .periProbe => { s with peri := { s.peri with probe := w } }
  | .periCntCtl => s.onBit w 0 fun s => { s with peri := { s.peri with passMax := {}, satCnt := {}, steps := 0, deposit := 0 } }
  | .mpCfg => s.modMelt i fun c => { c with cfg := { c.cfg with black := fieldOf w 25 16, thresh := fieldOf w 9 0 } }
  | .mpCfg2 => s.modMelt i fun c => { c with cfg := { c.cfg with spatterTh := fieldOf w 25 16, coreR := fieldOf w 5 0 } }
  | .mpPdCfg => s.modMelt i fun c => { c with ratioMin := fieldOf w 31 16, gateLag := fieldOf w 3 0 }
  | .mpCntCtl => s.onBit w 0 fun s => s.keepSummary fun s => s.modMelt i MeltCh.clearCounters
  | .mlCtl => s.linkCtl i w
  | .mlCntCtl => s.onBit w 0 fun s => s.keepSummary fun s => s.modLink i Link.clearCounters
  | .axRecoatCfg => { s with recoat := { s.recoat with dwell := fieldOf w 31 16, bidir := bitOf w 0 } }
  | .axRecoatEndA => { s with recoat := { s.recoat with endA := w } }
  | .axRecoatEndB => { s with recoat := { s.recoat with endB := w } }
  | .axRecoatDose => { s with recoat := { s.recoat with dose := w } }
  | .axState => s.onBit w 23 fun s => s.modAxis i fun x => { x with profileKept := false }
  | .axCfg => s.modAxis i fun x => { x with cfg := w }
  | .axHomeV => s.modAxis i fun x => { x with homeV := w }
  | .axHomeOfs => s.modAxis i fun x => { x with homeOfs := w }
  | .axFollowCfg => s.modAxis i fun x => { x with followCfg := w }
  | .axCntCtl => s.onBit w 0 fun s => s.modAxis i Axis.clearCounters
  | .camCntCtl => s.onBit w 0 State.clearCam
  | .camSState => s.onBit w 6 fun s => s.modSensor i fun x => { x with cciErr := false }
  | .camSTrig => s.modSensor i fun x => { x with trig := w }
  | .camSPeriod => s.modSensor i fun x => { x with period := w }
  | .camSExpTime => s.modSensor i fun x => { x with shadow := { x.shadow with time := w.toNat } }
  | .camSExpCci => s.modSensor i fun x => { x with shadow := { x.shadow with expCci := w } }
  | .camSGainCci => s.modSensor i fun x => { x with shadow := { x.shadow with gainCci := w } }
  | .camSCommit => s.onBit w 0 (State.camCommit i)
  | .camSCntCtl => s.onBit w 0 fun s => s.modSensor i Sensor.clearCounters
  | .camCBlack => s.modCtxShadow i fun v => { v with black := fieldOf w 15 0 }
  | .camCCtl => s.modCtxShadow i fun v => { v with dpc := bitOf w 0, shading := bitOf w 1, ccmOn := bitOf w 2, gamma := bitOf w 3 }
  | .camCCcm0 => s.modCtxShadow i fun v => { v with ccm := v.ccm.set 0 w }
  | .camCCcm1 => s.modCtxShadow i fun v => { v with ccm := v.ccm.set 1 w }
  | .camCCcm2 => s.modCtxShadow i fun v => { v with ccm := v.ccm.set 2 w }
  | .camCCcm3 => s.modCtxShadow i fun v => { v with ccm := v.ccm.set 3 w }
  | .camCCcm4 => s.modCtxShadow i fun v => { v with ccm := v.ccm.set 4 w }
  | .camCCommit => s.onBit w 0 fun s => s.modCamCtx i fun x => { x with live := x.shadow }
  | .haloCntCtl => s.onBit w 0 fun s => { s with halo := { s.halo with openCnt := {}, shortCnt := {}, budgetCnt := {}, stretchCnt := {} } }
  | .haloChLevel => s.haloLevel i w
  | .haloChStatus => s.haloStatusW1c i w
  | .orbCtl => s.orbCtl w
  | .orbPpCtl => s.orbPort i w
  | .orbPpCntCtl => s.onBit w 0 fun s => s.modRing i RingPort.clearCounters
  | .ptpCntCtl => s.onBit w 0 fun s => { s with time := { s.time with stepCnt := {}, switchCnt := {}, holdoverCnt := {}, seqErr := {} } }
  | .dramScrub => s.onBit w 0 State.startScrub
  | .dramCntCtl => s.onBit w 0 fun s => { s with mem := s.mem.clearDram }
  | .sramScrubCfg => { s with mem := { s.mem with scrubCfg := w } }
  | .sramCntCtl => s.onBit w 0 fun s => { s with mem := s.mem.clearSram }
  | .crcCntCtl => s.onBit w 0 fun s => { s with mem := { s.mem with crcBytes := 0 } }
  | .dispCtl => s.modShadow fun d => { d with source := bitOf w 16, staticDiv := fieldOf w 2 0 }
  | .dispBase => s.modShadow fun d => { d with base := fieldOf w 10 0 }
  | .dispAperture => { s with disp := { s.disp with window := fieldOf w 10 0 } }
  | .dispThmOrigin => s.modShadow fun d => { d with cy := fieldOf w 31 16, cx := fieldOf w 15 0 }
  | .dispThmMap => s.modShadow fun d => { d with tBase := fieldOf w 31 16, tShift := fieldOf w 11 8, zoom := fieldOf w 3 0 }
  | .dispCommit => s.dispCommitWrite w
  | .dispCntCtl => s.onBit w 0 fun s => { s with disp := s.disp.clearCounters }
  | .dispPalette => s.modShadow fun d => { d with palette := sset 0 d.palette i (fieldOf w 23 0) }
  | .pwrCntCtl => s.onBit w 0 fun s => { s with power := s.power.clearCounters }
  | .thmCntCtl => s.onBit w 0 fun s => { s with power := s.power.clearThm }
  | .thmSStatus => s.modThm i fun t => { t with latched := t.latched &&& ~~~low32 (fieldOf w 7 4) }
  | .calCntCtl => s.onBit w 0 fun s => { s with cal := { s.cal with reject := {} } }
  | .tailCtl => s.tailCtl w
  | .tailCursor => s.tailCursor p (fieldOf w 12 0)
  | .tailCntCtl => s.onBit w 0 fun s => { s with tail := { s.tail with drop := {}, torn := {}, clear := {} } }
  | .aperture => s.apertureStore (0x40000 + 4 * i) w
  | _ => s

end Sys2Proof.Machine
end

