-- ==== Sys2Proof/Machine/RegRows.lean ====
section
/-!
DEFINITION. Register accesses: what each access passes (R6–R11, R109–R114, R546), the read latches (R501)
and the rows of the table that are one register's access.
-/

namespace Sys2Proof.Machine

/-! ## Places (R109–R113) -/

/-- The slot whose page holds offset `a`. -/
def pageSlot? (a : Nat) : Option Nat := if 0x1000 ≤ a ∧ a < 0x9000 then some (a / 0x1000 - 1) else none

/-- The queue whose doorbells hold offset `a`. -/
def doorbell? (a : Nat) : Option Nat := if 0x10000 ≤ a ∧ a < 0x11000 then some ((a - 0x10000) / 16) else none

/-- A slot page or doorbell that is not the accessing port's (R110). -/
def State.unbound (s : State) (p a : Nat) : Bool :=
  match pageSlot? a with
  | some i => s.portOf i != p
  | none => match doorbell? a with
    | some q => !(List.range 8).any fun i => s.portOf i == p && (s.slot i).cfg.owns q
    | none => false

/-- The registers that the management plane's role store holds (R104). -/
def storeRegs : List Reg := [.hostSlotStatus, .hostRoleClaim, .hostRoleRelease, .hostRejectCnt, .hostSlotCtl]

/-- Companion-die registers (R13, R104). -/
def State.onCompanion (s : State) (r : RegPlace × Nat) : Bool :=
  r.1.companion || (storeRegs.contains r.1.reg && s.portOf r.2 == 2)

/-- Steps 2 to 4 of R546: the register at an offset, or the code that a write gets. -/
def State.reach (s : State) (p a : Nat) : Except Code (RegPlace × Nat) :=
  if s.unbound p a then .error 0x0304
  else match regAt a with
    | none => .error 0x0203
    | some r => if !s.power.core && !s.onCompanion r then .error 0x0508 else .ok r

/-- Step 1 of R546. -/
def RegAccess.narrow (a : RegAccess) : Bool := a.width != 4 || a.addr % 4 != 0

/-- The port of an access. -/
def Origin.port : Origin → Nat
  | .pcie b => b1 b
  | .bar2 b => b1 b
  | .frame _ => 2

/-- The slot that a refusal is charged to (R112). -/
def State.charged (s : State) (o : Origin) (a : Nat) : Option Nat :=
  match (pageSlot? a).filter fun i => s.portOf i == o.port with
  | some i => some i
  | none => match o with
    | .frame h => some h.slot
    | .bar2 _ => none
    | .pcie b => (List.range 8).find? fun i => s.portOf i == b1 b

/-! ## Permission (R111, R132) -/

/-- The roles that a port's slots hold. -/
def State.portRoles (s : State) (p : Nat) : BitVec 4 :=
  (List.range 8).foldl (fun m i => if s.portOf i = p then m ||| (s.slot i).held else m) 0

/-- The roles that may write the registers of a group: 16 and 17 are TAIL_CURSOR and TAIL_CNT_CTL (R503). -/
def groupRoles (g : Nat) : BitVec 4 :=
  if g = 16 then 0xF else if g = 17 then roleKeeper else actionRoles (256 * g + 0x40)

/-- Step 6 of R546. Group 0 stands in slot pages and doorbells, which R111 does not cover. -/
def State.groupBad (s : State) (p g : Nat) : Option Code :=
  let m := s.portRoles p
  if g = 0 then none
  else
    -- SERVICE permits the fields of the LOOP and AXIS groups outside a build alone (R130)
    let need := if (g = 5 ∨ g = 6) ∧ s.inBuild then rolePilot else groupRoles g
    if m &&& need = 0 then some 0x0302 else none

/-- What a write of `w` fails, in the order of R546; `.ok` names the register that takes it. -/
def State.judgeWrite (s : State) (p : Nat) (a : RegAccess) : Except Code (Reg × Nat) :=
  if a.narrow then .error 0x0201
  else match s.reach p a.addr with
    | .error c => .error c
    | .ok (r, i) =>
      match r.reserved with
      | none => .error 0x0301
      | some m =>
        match badThen (s.groupBad p r.group)
            (badThen (bad (a.value &&& m != 0) 0x0202) (s.regBad i a.value r.reg)) with
        | some c => .error c
        | none => .ok (r.reg, i)

/-! ## Answers -/

/-- An access that reaches the device runs `k` (R114, R128, R129). An access over a link that is down has no
effect; one beyond BAR0 cannot be made. `held` is the frame, for a restart of the management core. -/
def State.access (held : HeldFrame) (a : RegAccess) (k : State → State) (s : State) : Host.Outcome State Fault Refusal :=
  match a.origin with
  | .pcie b =>
    if 2 ^ 20 ≤ a.addr then .fault .outsideBar0
    else .next (if (s.port (b1 b)).linkUp then k (s.wakePort (b1 b)) else s)
  | .bar2 _ => .next s
  | .frame h =>
    .next (if s.answersFrames then
      let r := s.takeFrameAt a.addr h
      if r.1 then k r.2 else r.2
    else s.holdFrame held)

/-- The answer that a register frame gets (R126); a PCIe write gets none. -/
def State.answerWrite (a : RegAccess) (c : Code) (s : State) : State :=
  match a.origin with
  | .pcie _ => s
  | .bar2 _ => s
  | .frame h => s.reply h (.register a.addr a.value c)

/-- What a read returns to its reader. -/
def State.answerRead (a : RegAccess) (w : W32) (c : Code) (s : State) : State :=
  match a.origin with
  | .pcie b => s.send (.readValue (b1 b) a.addr w)
  | .bar2 _ => s
  | .frame h => s.reply h (.register a.addr w c)

/-- An access is refused: recorded, charged and answered (R10, R112). -/
def State.refuseAccess (a : RegAccess) (c : Code) (s : State) : State :=
  s.refuse a.origin.port (s.charged a.origin a.addr) c a.addr

/-- A write of a register, by any row that is one. -/
def State.writeReg (a : RegAccess) (s : State) : State :=
  match s.judgeWrite a.origin.port a with
  | .error c => (s.refuseAccess a c).answerWrite a c
  | .ok (r, i) => (s.regStore a.origin.port i a.value r).answerWrite a 0

/-- A row of the table that is a write of register `r`: an access elsewhere is not this row. -/
def State.writeRow (r : Reg) (a : RegAccess) (s : State) : Host.Outcome State Fault Refusal :=
  if ((regAt (a.addr / 4 * 4)).map fun x => x.1.reg) = some r then s.access (.write a) a (State.writeReg a) else .next s

/-! ## Reads (R7, R9, R110, R113, R501) -/

/-- How many words after a register its read captures. -/
def captures (r : Reg) (i : Nat) : Nat :=
  if [Reg.bootEphAdoptLo, .seVectorsLo, .seGateOnLo, .seStarveTimeLo, .seSyncWaitLo, .arbTakesLo, .arbHoldTimeLo,
      .arbEngHoldTimeLo, .arbEngTakesLo, .tideIntLo, .periStepsLo, .periDepositLo, .mlTestBitsLo, .axStepsLo,
      .orbPpPrbsBitsLo, .dramUeAddrLo, .dramNrLo, .crcBytesLo, .trustOpsecLo].contains r then 1
  else if r = .ptpLatchNs then 3
  else if r = .calLastNs then 4
  else if r = .trustMr ∧ i % 16 = 0 then 11
  else 0

/-- Words that a read of an earlier word has captured for the port. -/
def latched (r : Reg) (i : Nat) : Bool :=
  [Reg.bootEphAdoptHi, .seVectorsHi, .seGateOnHi, .seStarveTimeHi, .seSyncWaitHi, .arbTakesHi, .arbHoldTimeHi,
   .arbEngHoldTimeHi, .arbEngTakesHi, .tideIntHi, .periStepsHi, .periDepositHi, .mlTestBitsHi, .axStepsHi,
   .orbPpPrbsBitsHi, .dramUeAddrHi, .dramNrHi, .crcBytesHi, .trustOpsecHi, .ptpLatchSec, .ptpLatchSecHi,
   .ptpLatchSample, .calLastSec, .calLastSecHi, .calLastOpsecLo, .calLastOpsecHi].contains r ||
  (r == .trustMr && i % 16 != 0)

/-- The words after offset `a` that a read captures, with the values they have now. -/
def State.captured (s : State) (p a n : Nat) : List (Nat × W32) :=
  (List.range n).filterMap fun k =>
    (regAt (a + 4 * (k + 1))).map fun x => (a + 4 * (k + 1), s.regValue p x.2 x.1.reg)

/-- A TAIL_STATUS read that returns BUSY 0 holds the writer off for 10 µs (R496). -/
def State.holdWriter (s : State) : State :=
  if s.tail.busy.isSome then s else { s with tail := { s.tail with holdUntil := s.ix + 40 } }

/-- An aligned read through port `p` at offset `a`: the value, and the state after it. -/
def State.readAt (s : State) (p a : Nat) : W32 × State :=
  match s.reach p a with
  | .error _ => (0, s)
  | .ok (x, i) =>
    let r := x.reg
    if latched r i then (sget 0 (s.port p).latches a, s)
    else
      let v := s.regValue p i r
      let cs := s.captured p a (captures r i)
      let s := s.modPort p fun q => { q with latches := cs.foldl (fun m c => sset 0 m c.1 c.2) q.latches }
      (v, if r = .tailStatus then s.holdWriter else s)

/-- A read of a register, by any row that is one. -/
def State.readReg (a : RegAccess) (s : State) : State :=
  if a.narrow then (s.refuseAccess a 0x0201).answerRead a 0 0x0201
  else
    let r := s.readAt a.origin.port a.addr
    r.2.answerRead a r.1 0

/-! ## Rows for any register -/

/-! ## The configuration header and BAR2 (R96) -/

/-- The configuration header of both endpoints (R96): vendor, device, revision, class code, subsystem vendor and
subsystem IDs, and the sizes of BAR0 and BAR2; no other BAR and no expansion ROM stands in it. -/
structure PcieHeader where
  vendor : Nat
  device : Nat
  revision : Nat
  classCode : Nat
  subVendor : Nat
  subsystem : Nat
  bar0 : Nat
  bar2 : Nat
  deriving DecidableEq, Repr

def pcieHeader : PcieHeader :=
  { vendor := 0xF1A5, device := 0x0F32, revision := 0xA2, classCode := 0x118000, subVendor := 0xF1A5,
    subsystem := 0x0F32, bar0 := 0x100000, bar2 := 0x4000 }

/-- A word of BAR2: the MSI-X table at 0x0000, four words to a vector, and the pending-bit array at 0x2000. -/
def State.bar2Value (s : State) (p addr : Nat) : W32 :=
  let v := sget {} (s.port p).msix (addr / 16)
  if addr < 0x400 then
    match addr / 4 % 4 with
    | 0 => lo64 v.addr
    | 1 => hi64 v.addr
    | 2 => v.data
    | _ => packWord [(b1 v.masked, 0)]
  else if addr / 4 = 0x800 then lo64 (s.port p).pba
  else if addr / 4 = 0x801 then hi64 (s.port p).pba
  else 0

/-- An MSI-X table entry after a write of word `k`. -/
def MsixVec.write (k : Nat) (w : W32) (v : MsixVec) : MsixVec :=
  match k with
  | 0 => { v with addr := setLo v.addr w }
  | 1 => { v with addr := setHi v.addr w }
  | 2 => { v with data := w }
  | _ => { v with masked := bitOf w 0 }

/-- A word of the MSI-X table written: a vector that pends and is no longer masked sends its message. The
pending-bit array takes no write. -/
def State.bar2Write (p addr : Nat) (w : W32) (s : State) : State :=
  if addr < 0x400 then
    let n := addr / 16
    let s := s.modPort p fun q => { q with msix := sset {} q.msix n ((sget {} q.msix n).write (addr / 4 % 4) w) }
    if (s.port p).pba.getLsbD n && !(sget {} (s.port p).msix n).masked then
      (s.modPort p fun q => { q with pba := q.pba &&& ~~~(1#64 <<< n) }).raiseVector p n
    else s
  else s

/-- An access to BAR2 of PCIe port `b`: aligned words of its 16 KiB, over a link that is up. -/
def State.bar2Access (a : RegAccess) (b : Bool) (k : State → State) (s : State) : Host.Outcome State Fault Refusal :=
  if pcieHeader.bar2 ≤ a.addr then .fault .outsideBar2
  else .next (if (s.port (b1 b)).linkUp && !a.narrow then k (s.wakePort (b1 b)) else s)

/-- REGISTER_WRITE (R11, R96, R546). -/
def execRegisterWrite (a : RegAccess) (s : State) : Host.Outcome State Fault Refusal :=
  match a.origin with
  | .bar2 b => s.bar2Access a b (State.bar2Write (b1 b) a.addr a.value)
  | _ => s.access (.write a) a (State.writeReg a)

/-- REFUSED_READ (R7): a read that is narrow or misaligned. -/
def execRefusedRead (a : RegAccess) (s : State) : Host.Outcome State Fault Refusal :=
  if a.narrow then s.access (.read a) a (State.readReg a) else .next s

/-- LATCHING_READ (R501): any aligned 32-bit read. -/
def execLatchingRead (a : RegAccess) (s : State) : Host.Outcome State Fault Refusal :=
  match a.origin with
  | .bar2 b => s.bar2Access a b fun s => s.send (.readValue (b1 b) a.addr (s.bar2Value (b1 b) a.addr))
  | _ => if a.narrow then .next s else s.access (.read a) a (State.readReg a)

/-- TAIL_STATUS_READ (R496). -/
def execTailStatusRead (a : RegAccess) (s : State) : Host.Outcome State Fault Refusal :=
  if !a.narrow && ((regAt a.addr).map fun x => x.1.reg) == some .tailStatus then s.access (.read a) a (State.readReg a)
  else .next s

/-! ## Rows for one register -/


/-- HOST_DB_SQ_TAIL (R116): the ring's tail moves to what the host has written. -/
def execHostDbSqTail (a : RegAccess) (s : State) : Host.Outcome State Fault Refusal :=
  s.writeRow .hostDbSqTail a

/-- HOST_DB_CQ_HEAD (R116): entries are free again, and completions that waited are posted. -/
def execHostDbCqHead (a : RegAccess) (s : State) : Host.Outcome State Fault Refusal :=
  s.writeRow .hostDbCqHead a

/-- QP_ENABLE: a write of HOST_QP_CTRL (R122). -/
def execQpEnable (a : RegAccess) (s : State) : Host.Outcome State Fault Refusal :=
  s.writeRow .hostQpCtrl a

/-- HOST_ROLE_CLAIM (R102). -/
def execHostRoleClaim (a : RegAccess) (s : State) : Host.Outcome State Fault Refusal :=
  s.writeRow .hostRoleClaim a

/-- HOST_ROLE_RELEASE (R105). R123 posts no ROLE_CHANGE for a release that the slot asks for. -/
def execHostRoleRelease (a : RegAccess) (s : State) : Host.Outcome State Fault Refusal :=
  s.writeRow .hostRoleRelease a

/-- CNT_CLEAR: a write of HOST_SLOT_CTL (R134). -/
def execCntClear (a : RegAccess) (s : State) : Host.Outcome State Fault Refusal :=
  s.writeRow .hostSlotCtl a

/-- ARB_LOG_POP (R234). -/
def execArbLogPop (a : RegAccess) (s : State) : Host.Outcome State Fault Refusal :=
  s.writeRow .arbLogPop a

/-- ARB_CNT_CLEAR: a write of ARB_CNT_CTL. -/
def execArbCntClear (a : RegAccess) (s : State) : Host.Outcome State Fault Refusal :=
  s.writeRow .arbCntCtl a

/-- SE_CNT_CLEAR: a write of SE_CNT_CTL (R206). -/
def execSeCntClear (a : RegAccess) (s : State) : Host.Outcome State Fault Refusal :=
  s.writeRow .seCntCtl a

/-- PERI_CNT_CLEAR: a write of PERI_CNT_CTL (R257). -/
def execPeriCntClear (a : RegAccess) (s : State) : Host.Outcome State Fault Refusal :=
  s.writeRow .periCntCtl a

/-- LOOP_MODE_WRITE: a write of TIDE_LOOP_CTL; MODE acts at the next update (R269–R271). -/
def execLoopModeWrite (a : RegAccess) (s : State) : Host.Outcome State Fault Refusal :=
  s.writeRow .tideLoopCtl a

/-- LOOP_SET_SELECT: a write of TIDE_LOOP_CTL; SET acts on a loop of KIND 2–4 (R266). -/
def execLoopSetSelect (a : RegAccess) (s : State) : Host.Outcome State Fault Refusal :=
  s.writeRow .tideLoopCtl a

/-- FE_TRIP_CLEAR: a write of TIDE_LOOP_STATUS (R274). -/
def execFeTripClear (a : RegAccess) (s : State) : Host.Outcome State Fault Refusal :=
  s.writeRow .tideLoopStatus a

/-- SET_EMPTY_CLEAR: a write of TIDE_LOOP_STATUS (R265). -/
def execSetEmptyClear (a : RegAccess) (s : State) : Host.Outcome State Fault Refusal :=
  s.writeRow .tideLoopStatus a

/-- SAT_AT_SWAP_CLEAR: a write of TIDE_LOOP_STATUS (R267). -/
def execSatAtSwapClear (a : RegAccess) (s : State) : Host.Outcome State Fault Refusal :=
  s.writeRow .tideLoopStatus a

/-- TIDE_CNT_CLEAR: a write of TIDE_CNT_CTL (R281). -/
def execTideCntClear (a : RegAccess) (s : State) : Host.Outcome State Fault Refusal :=
  s.writeRow .tideCntCtl a

/-- MP_CNT_CLEAR: a write of MP_CNT_CTL (R256). -/
def execMpCntClear (a : RegAccess) (s : State) : Host.Outcome State Fault Refusal :=
  s.writeRow .mpCntCtl a

/-- ML_TEST: a write of ML_CTL; TEST starts or ends a loopback (R302, R303). -/
def execMlTest (a : RegAccess) (s : State) : Host.Outcome State Fault Refusal :=
  s.writeRow .mlCtl a

/-- ML_INJECT: a write of ML_CTL; INJECT inverts one bit of the pattern (R302). -/
def execMlInject (a : RegAccess) (s : State) : Host.Outcome State Fault Refusal :=
  s.writeRow .mlCtl a

/-- ML_RETRAIN: a write of ML_CTL; RETRAIN restarts bring-up (R290). -/
def execMlRetrain (a : RegAccess) (s : State) : Host.Outcome State Fault Refusal :=
  s.writeRow .mlCtl a

/-- ML_CNT_CLEAR: a write of ML_CNT_CTL (R305). -/
def execMlCntClear (a : RegAccess) (s : State) : Host.Outcome State Fault Refusal :=
  s.writeRow .mlCntCtl a

/-- PROFILE_KEPT_CLEAR: a write of AX_STATE (R313). -/
def execProfileKeptClear (a : RegAccess) (s : State) : Host.Outcome State Fault Refusal :=
  s.writeRow .axState a

/-- AX_CNT_CLEAR: a write of AX_CNT_CTL (R325). -/
def execAxCntClear (a : RegAccess) (s : State) : Host.Outcome State Fault Refusal :=
  s.writeRow .axCntCtl a

/-- CAM_S_COMMIT (R342). -/
def execCamSCommit (a : RegAccess) (s : State) : Host.Outcome State Fault Refusal :=
  s.writeRow .camSCommit a

/-- CAM_C_COMMIT (R341). -/
def execCamCCommit (a : RegAccess) (s : State) : Host.Outcome State Fault Refusal :=
  s.writeRow .camCCommit a

/-- CCI_ERR_CLEAR: a write of CAM_S_STATE (R343). -/
def execCciErrClear (a : RegAccess) (s : State) : Host.Outcome State Fault Refusal :=
  s.writeRow .camSState a

/-- CAM_CNT_CLEAR: a write of CAM_CNT_CTL (R348). -/
def execCamCntClear (a : RegAccess) (s : State) : Host.Outcome State Fault Refusal :=
  s.writeRow .camCntCtl a

/-- CAM_S_CNT_CLEAR: a write of CAM_S_CNT_CTL (R348). -/
def execCamSCntClear (a : RegAccess) (s : State) : Host.Outcome State Fault Refusal :=
  s.writeRow .camSCntCtl a

/-- HALO_CH_LEVEL (R349, R352). -/
def execHaloChLevel (a : RegAccess) (s : State) : Host.Outcome State Fault Refusal :=
  s.writeRow .haloChLevel a

/-- HALO_FAULT_CLEAR: a write of HALO_CH_STATUS (R355, R358). -/
def execHaloFaultClear (a : RegAccess) (s : State) : Host.Outcome State Fault Refusal :=
  s.writeRow .haloChStatus a

/-- STROBE_CUT_CLEAR: a write of HALO_CH_STATUS (R354). -/
def execStrobeCutClear (a : RegAccess) (s : State) : Host.Outcome State Fault Refusal :=
  s.writeRow .haloChStatus a

/-- HALO_CNT_CLEAR: a write of HALO_CNT_CTL (R361). -/
def execHaloCntClear (a : RegAccess) (s : State) : Host.Outcome State Fault Refusal :=
  s.writeRow .haloCntCtl a

/-- BYP_REQ: a write of ORB_CTL (R369). -/
def execBypReq (a : RegAccess) (s : State) : Host.Outcome State Fault Refusal :=
  s.writeRow .orbCtl a

/-- OOS: a write of ORB_Pp_CTL (R385, R386). -/
def execOos (a : RegAccess) (s : State) : Host.Outcome State Fault Refusal :=
  s.writeRow .orbPpCtl a

/-- ORB_INJECT: a write of ORB_Pp_CTL (R385). -/
def execOrbInject (a : RegAccess) (s : State) : Host.Outcome State Fault Refusal :=
  s.writeRow .orbPpCtl a

/-- ORB_BURST: a write of ORB_Pp_CTL (R385). -/
def execOrbBurst (a : RegAccess) (s : State) : Host.Outcome State Fault Refusal :=
  s.writeRow .orbPpCtl a

/-- ORB_CNT_CLEAR: a write of ORB_Pp_CNT_CTL (R387). -/
def execOrbCntClear (a : RegAccess) (s : State) : Host.Outcome State Fault Refusal :=
  s.writeRow .orbPpCntCtl a

/-- PTP_CNT_CLEAR: a write of PTP_CNT_CTL (R387). -/
def execPtpCntClear (a : RegAccess) (s : State) : Host.Outcome State Fault Refusal :=
  s.writeRow .ptpCntCtl a

/-- DRAM_SCRUB_START: a write of DRAM_SCRUB (R399). -/
def execDramScrubStart (a : RegAccess) (s : State) : Host.Outcome State Fault Refusal :=
  s.writeRow .dramScrub a

/-- DRAM_CNT_CLEAR: a write of DRAM_CNT_CTL (R410). -/
def execDramCntClear (a : RegAccess) (s : State) : Host.Outcome State Fault Refusal :=
  s.writeRow .dramCntCtl a

/-- SRAM_CNT_CLEAR: a write of SRAM_CNT_CTL (R410). -/
def execSramCntClear (a : RegAccess) (s : State) : Host.Outcome State Fault Refusal :=
  s.writeRow .sramCntCtl a

/-- CRC_CNT_CLEAR: a write of CRC_CNT_CTL (R410). -/
def execCrcCntClear (a : RegAccess) (s : State) : Host.Outcome State Fault Refusal :=
  s.writeRow .crcCntCtl a

/-- DISP_COMMIT: COMMIT acts at the next frame start (R415). -/
def execDispCommit (a : RegAccess) (s : State) : Host.Outcome State Fault Refusal :=
  s.writeRow .dispCommit a

/-- DISP_RETRAIN: a write of DISP_COMMIT; RETRAIN restarts bring-up (R412). -/
def execDispRetrain (a : RegAccess) (s : State) : Host.Outcome State Fault Refusal :=
  s.writeRow .dispCommit a

/-- APERTURE_WRITE (R414, R419). -/
def execApertureWrite (a : RegAccess) (s : State) : Host.Outcome State Fault Refusal :=
  s.writeRow .aperture a

/-- DISP_CNT_CLEAR: a write of DISP_CNT_CTL (R422). -/
def execDispCntClear (a : RegAccess) (s : State) : Host.Outcome State Fault Refusal :=
  s.writeRow .dispCntCtl a

/-- PWR_CNT_CLEAR: a write of PWR_CNT_CTL. -/
def execPwrCntClear (a : RegAccess) (s : State) : Host.Outcome State Fault Refusal :=
  s.writeRow .pwrCntCtl a

/-- THM_LATCHED_CLEAR: a write of THM_S_STATUS (R445). -/
def execThmLatchedClear (a : RegAccess) (s : State) : Host.Outcome State Fault Refusal :=
  s.writeRow .thmSStatus a

/-- THM_CNT_CLEAR: a write of THM_CNT_CTL (R445). -/
def execThmCntClear (a : RegAccess) (s : State) : Host.Outcome State Fault Refusal :=
  s.writeRow .thmCntCtl a

/-- CAL_CNT_CLEAR: a write of CAL_CNT_CTL; CAL_COUNT is never cleared (R458). -/
def execCalCntClear (a : RegAccess) (s : State) : Host.Outcome State Fault Refusal :=
  s.writeRow .calCntCtl a

/-- FREEZE: a write of TAIL_CTL (R495). -/
def execFreeze (a : RegAccess) (s : State) : Host.Outcome State Fault Refusal :=
  s.writeRow .tailCtl a

/-- TAIL_CURSOR (R497). -/
def execTailCursor (a : RegAccess) (s : State) : Host.Outcome State Fault Refusal :=
  s.writeRow .tailCursor a

/-- TAIL_CNT_CLEAR: a write of TAIL_CNT_CTL. -/
def execTailCntClear (a : RegAccess) (s : State) : Host.Outcome State Fault Refusal :=
  s.writeRow .tailCntCtl a

/-- ECLIPSE_ENTER (R507). -/
def execEclipseEnter (a : RegAccess) (s : State) : Host.Outcome State Fault Refusal :=
  s.writeRow .eclipseEnter a

/-- ECLIPSE_LEAVE (R510): accepted channels leave with ECLIPSE_LEAVE_EFFECT. -/
def execEclipseLeave (a : RegAccess) (s : State) : Host.Outcome State Fault Refusal :=
  s.writeRow .eclipseLeave a

/-- ECLIPSE_CNT_CLEAR: a write of ECLIPSE_CTL. -/
def execEclipseCntClear (a : RegAccess) (s : State) : Host.Outcome State Fault Refusal :=
  s.writeRow .eclipseCtl a

end Sys2Proof.Machine
end

