-- ==== Sys2Proof/Machine/Restart.lean ====
section
/-!
DEFINITION. The end of a restart of the management core, with the frames that it held (R475, R479, R515).
-/

namespace Sys2Proof.Machine

/-- A command's meaning, by opcode. POWER_WAKE, which finds more than its entry, stands apart. -/
abbrev CommandRow := Nat × (Entry → State → Host.Outcome State Fault Refusal)

/-- The commands that a frame can carry, group by group (R130). -/
def commandRows : List CommandRow :=
  [(0x0100, execEphInfo), (0x0140, execEphStore), (0x0141, execEphSetBoot), (0x0142, execEphStage),
     (0x0143, execEphValidate), (0x0144, execEphCommit), (0x0145, execEphCancel), (0x0146, execEphRouteSet)] ++
    [(0x0200, execJobStatus), (0x0240, execJobLayerOpen), (0x0241, execJobLayerClose), (0x0242, execJobSubmit),
     (0x0243, execJobAbort)] ++
    [(0x0300, execParamAtlasRead), (0x0301, execParamPeriRead), (0x0340, execParamAtlasWrite),
     (0x0341, execParamPeriLoad)] ++
    [(0x0441, execCalRun), (0x0442, execCalGridLoad)] ++
    [(0x0500, execLoopStatus), (0x0501, execLoopSetRead), (0x0502, execLoopCaptureRead),
     (0x0540, execLoopSetWrite), (0x0543, execLoopCaptureStart), (0x0544, execLoopCaptureStop)] ++
    [(0x0600, execAxisStatus), (0x0640, execAxisEnable), (0x0641, execAxisHome), (0x0642, execAxisMove),
     (0x0643, execAxisJog), (0x0644, execAxisFollow), (0x0645, execAxisStop), (0x0646, execAxisSetDyn),
     (0x0647, execAxisRecoatResume)] ++
    [(0x0700, execCamFrameInfo), (0x0701, execCamHistRead), (0x0702, execCamFrameRead), (0x0703, execCamZoneRead),
     (0x0740, execCamTrigger), (0x0741, execCamDefectLoad), (0x0742, execCamShadingLoad)] ++
    [(0x0800, execHaloStatus), (0x0840, execHaloSet), (0x0841, execHaloNtest)] ++
    [(0x0A00, execTimeStatus), (0x0A40, execTimeSet)] ++
    [(0x0B00, execTailStatus), (0x0B40, execTailFreeze), (0x0B41, execTailNote), (0x0B42, execTailClear)] ++
    [(0x0C00, execTrustQuote), (0x0C01, execTrustCert), (0x0C40, execTrustExtend)] ++
    [(0x0D00, execUpdStatus), (0x0D40, execUpdWrite), (0x0D41, execUpdVerify), (0x0D42, execUpdActivate),
     (0x0D43, execUpdMgmtAddr), (0x0D44, execUpdNadir)] ++
    [(0x0E00, execPowerStatus), (0x0E40, execPowerUmbra)] ++
    [(0x0F01, execDiagCrc), (0x0F40, execDiagMemTest)]

/-- A command by its entry; an opcode that is not defined has its own row (R133). -/
def runEntry (e : Entry) (s : State) : Host.Outcome State Fault Refusal :=
  (commandRows.find? fun r => r.1 == e.opcode.toNat).elim (execUnknownCommand e s) fun r => r.2 e s

/-- A held frame is answered as if it came now. -/
def runHeld (x : HeldFrame) (s : State) : Host.Outcome State Fault Refusal :=
  match x with
  | .entry e => runEntry e s
  | .wake e env => execPowerWake e env s
  | .write a => execRegisterWrite a s
  | .read a => s.access x a (State.readReg a)
  | .sessionOpen h => execSessionOpen h s
  | .sessionClose h => execSessionClose h s
  | .keepalive h => execKeepalive h s
  | .replay h => execJcsFrameReplay h s
  | .bad p b => execJcsFrameBad p b s
  | .arp p mac target => execArpRequest p mac target s
  | .icmp p target d => execIcmpEchoRequest p target d s

/-- A held frame takes its answer; its turn has come with the restart's end, so that no session waits (R120). -/
def State.giveHeld (s : State) (x : HeldFrame) : State :=
  match runHeld x { s with host := { s.host with rrSessions := [] } } with
  | .next t => t
  | .fault _ => s
  | .refused _ => s

/-- The held frames are answered, oldest first. -/
def State.answerHeld (s : State) : State :=
  s.host.heldFrames.foldl State.giveHeld { s with host := { s.host with heldFrames := [] } }

/-- MGMT_RESTART_DONE (R475, R479, R515). -/
def execMgmtRestartDone (s : State) : Host.Outcome State Fault Refusal :=
  .next (if s.planes.mgmt ≠ .restarting then s else s.mgmtBack.answerHeld)

end Sys2Proof.Machine
end

