-- ==== Sys2Proof/Machine/Dispatch.lean ====
section
/-!
DEFINITION. One arm per command: the direct call of its meaning.
-/

namespace Sys2Proof.Machine

def exec (i : Instr) (s : State) : Host.Outcome State Fault Refusal :=
  match i with
  | .hostDbSqTail a => Sys2Proof.Machine.execHostDbSqTail a s
  | .hostDbCqHead a => Sys2Proof.Machine.execHostDbCqHead a s
  | .qpEnable a => Sys2Proof.Machine.execQpEnable a s
  | .hostRoleClaim a => Sys2Proof.Machine.execHostRoleClaim a s
  | .hostRoleRelease a => Sys2Proof.Machine.execHostRoleRelease a s
  | .cntClear a => Sys2Proof.Machine.execCntClear a s
  | .registerWrite a => Sys2Proof.Machine.execRegisterWrite a s
  | .refusedRead a => Sys2Proof.Machine.execRefusedRead a s
  | .latchingRead a => Sys2Proof.Machine.execLatchingRead a s
  | .tailStatusRead a => Sys2Proof.Machine.execTailStatusRead a s
  | .unknownCommand e => Sys2Proof.Machine.execUnknownCommand e s
  | .sessionOpen h => Sys2Proof.Machine.execSessionOpen h s
  | .sessionClose h => Sys2Proof.Machine.execSessionClose h s
  | .keepalive h => Sys2Proof.Machine.execKeepalive h s
  | .sessionTimeout slot => Sys2Proof.Machine.execSessionTimeout slot s
  | .jcsFrameBad sender frame => Sys2Proof.Machine.execJcsFrameBad sender frame s
  | .jcsFrameReplay h => Sys2Proof.Machine.execJcsFrameReplay h s
  | .pcieLinkDown b => Sys2Proof.Machine.execPcieLinkDown b s
  | .pcieLinkUp b => Sys2Proof.Machine.execPcieLinkUp b s
  | .perstAssert b => Sys2Proof.Machine.execPerstAssert b s
  | .hotReset b => Sys2Proof.Machine.execHotReset b s
  | .functionLevelReset b => Sys2Proof.Machine.execFunctionLevelReset b s
  | .d3hotEntry b => Sys2Proof.Machine.execD3hotEntry b s
  | .ephInfo e => Sys2Proof.Machine.execEphInfo e s
  | .ephStore e => Sys2Proof.Machine.execEphStore e s
  | .ephSetBoot e => Sys2Proof.Machine.execEphSetBoot e s
  | .ephStage e => Sys2Proof.Machine.execEphStage e s
  | .ephValidate e => Sys2Proof.Machine.execEphValidate e s
  | .ephCommit e => Sys2Proof.Machine.execEphCommit e s
  | .ephCommitValidated => Sys2Proof.Machine.execEphCommitValidated s
  | .ephCancel e => Sys2Proof.Machine.execEphCancel e s
  | .ephRouteSet e => Sys2Proof.Machine.execEphRouteSet e s
  | .routeSwitch route => Sys2Proof.Machine.execRouteSwitch route s
  | .jobStatus e => Sys2Proof.Machine.execJobStatus e s
  | .jobLayerOpen e => Sys2Proof.Machine.execJobLayerOpen e s
  | .jobLayerClose e => Sys2Proof.Machine.execJobLayerClose e s
  | .jobSubmit e => Sys2Proof.Machine.execJobSubmit e s
  | .jobAbort e => Sys2Proof.Machine.execJobAbort e s
  | .blockStaged n pool dseq ue => Sys2Proof.Machine.execBlockStaged n pool dseq ue s
  | .tileResident n gi gj ue => Sys2Proof.Machine.execTileResident n gi gj ue s
  | .vectorStart n => Sys2Proof.Machine.execVectorStart n s
  | .layerEnd => Sys2Proof.Machine.execLayerEnd s
  | .recoatDwellEnd => Sys2Proof.Machine.execRecoatDwellEnd s
  | .syzygyTrigger sensor => Sys2Proof.Machine.execSyzygyTrigger sensor s
  | .transitionStepEnd => Sys2Proof.Machine.execTransitionStepEnd s
  | .commonStart => Sys2Proof.Machine.execCommonStart s
  | .sampleTick errs => Sys2Proof.Machine.execSampleTick errs s
  | .waitEnd n => Sys2Proof.Machine.execWaitEnd n s
  | .syncRelease n => Sys2Proof.Machine.execSyncRelease n s
  | .engineParked n => Sys2Proof.Machine.execEngineParked n s
  | .holdEscalation n => Sys2Proof.Machine.execHoldEscalation n s
  | .takeEscalation zone => Sys2Proof.Machine.execTakeEscalation zone s
  | .arbLogPop a => Sys2Proof.Machine.execArbLogPop a s
  | .arbCntClear a => Sys2Proof.Machine.execArbCntClear a s
  | .seCntClear a => Sys2Proof.Machine.execSeCntClear a s
  | .paramAtlasRead e => Sys2Proof.Machine.execParamAtlasRead e s
  | .paramAtlasWrite e => Sys2Proof.Machine.execParamAtlasWrite e s
  | .atlasSwitch => Sys2Proof.Machine.execAtlasSwitch s
  | .paramPeriRead e => Sys2Proof.Machine.execParamPeriRead e s
  | .paramPeriLoad e => Sys2Proof.Machine.execParamPeriLoad e s
  | .diffusionTick => Sys2Proof.Machine.execDiffusionTick s
  | .diffusionPassEnd => Sys2Proof.Machine.execDiffusionPassEnd s
  | .periCntClear a => Sys2Proof.Machine.execPeriCntClear a s
  | .powerPeriodEnd n => Sys2Proof.Machine.execPowerPeriodEnd n s
  | .tideUpdate slot => Sys2Proof.Machine.execTideUpdate slot s
  | .loopStatus e => Sys2Proof.Machine.execLoopStatus e s
  | .loopSetRead e => Sys2Proof.Machine.execLoopSetRead e s
  | .loopCaptureRead e => Sys2Proof.Machine.execLoopCaptureRead e s
  | .loopSetWrite e => Sys2Proof.Machine.execLoopSetWrite e s
  | .setSwitch => Sys2Proof.Machine.execSetSwitch s
  | .loopCaptureStart e => Sys2Proof.Machine.execLoopCaptureStart e s
  | .loopCaptureStop e => Sys2Proof.Machine.execLoopCaptureStop e s
  | .loopModeWrite a => Sys2Proof.Machine.execLoopModeWrite a s
  | .loopSetSelect a => Sys2Proof.Machine.execLoopSetSelect a s
  | .feTripClear a => Sys2Proof.Machine.execFeTripClear a s
  | .setEmptyClear a => Sys2Proof.Machine.execSetEmptyClear a s
  | .satAtSwapClear a => Sys2Proof.Machine.execSatAtSwapClear a s
  | .tideCntClear a => Sys2Proof.Machine.execTideCntClear a s
  | .roiFrameEnd n block => Sys2Proof.Machine.execRoiFrameEnd n block s
  | .roiLate n => Sys2Proof.Machine.execRoiLate n s
  | .mpCntClear a => Sys2Proof.Machine.execMpCntClear a s
  | .uplinkFrame n f => Sys2Proof.Machine.execUplinkFrame n f s
  | .uplinkFrameMissing n => Sys2Proof.Machine.execUplinkFrameMissing n s
  | .blockLockLoss n => Sys2Proof.Machine.execBlockLockLoss n s
  | .receiverDetect n => Sys2Proof.Machine.execReceiverDetect n s
  | .detectTimeout n => Sys2Proof.Machine.execDetectTimeout n s
  | .phaseFound n => Sys2Proof.Machine.execPhaseFound n s
  | .trainTimeout n => Sys2Proof.Machine.execTrainTimeout n s
  | .frameLock n roundTrips seq => Sys2Proof.Machine.execFrameLock n roundTrips seq s
  | .lockTimeout n => Sys2Proof.Machine.execLockTimeout n s
  | .caps n msg => Sys2Proof.Machine.execCaps n msg s
  | .capsTimeout n => Sys2Proof.Machine.execCapsTimeout n s
  | .backoffEnd n => Sys2Proof.Machine.execBackoffEnd n s
  | .headReady n => Sys2Proof.Machine.execHeadReady n s
  | .loopAck n msg => Sys2Proof.Machine.execLoopAck n msg s
  | .loopAckTimeout n => Sys2Proof.Machine.execLoopAckTimeout n s
  | .mlTest a => Sys2Proof.Machine.execMlTest a s
  | .mlInject a => Sys2Proof.Machine.execMlInject a s
  | .mlRetrain a => Sys2Proof.Machine.execMlRetrain a s
  | .mlCntClear a => Sys2Proof.Machine.execMlCntClear a s
  | .axisStatus e => Sys2Proof.Machine.execAxisStatus e s
  | .axisEnable e => Sys2Proof.Machine.execAxisEnable e s
  | .axisHome e => Sys2Proof.Machine.execAxisHome e s
  | .axisMove e => Sys2Proof.Machine.execAxisMove e s
  | .axisJog e => Sys2Proof.Machine.execAxisJog e s
  | .axisFollow e => Sys2Proof.Machine.execAxisFollow e s
  | .axisStop e => Sys2Proof.Machine.execAxisStop e s
  | .axisSetDyn e => Sys2Proof.Machine.execAxisSetDyn e s
  | .axisRecoatResume e => Sys2Proof.Machine.execAxisRecoatResume e s
  | .servoTick => Sys2Proof.Machine.execServoTick s
  | .limitEdge a positive level => Sys2Proof.Machine.execLimitEdge a positive level s
  | .switchQualify a sw => Sys2Proof.Machine.execSwitchQualify a sw s
  | .homeEdge a edge ns => Sys2Proof.Machine.execHomeEdge a edge ns s
  | .homingLimit a positive level ns => Sys2Proof.Machine.execHomingLimit a positive level ns s
  | .stepInEdge a dirIn ns => Sys2Proof.Machine.execStepInEdge a dirIn ns s
  | .interpTimeout a => Sys2Proof.Machine.execInterpTimeout a s
  | .encoderZEdge a => Sys2Proof.Machine.execEncoderZEdge a s
  | .quadTransition a ab => Sys2Proof.Machine.execQuadTransition a ab s
  | .ssiFrameEnd a bits highBefore highAfter => Sys2Proof.Machine.execSsiFrameEnd a bits highBefore highAfter s
  | .profileKeptClear a => Sys2Proof.Machine.execProfileKeptClear a s
  | .axCntClear a => Sys2Proof.Machine.execAxCntClear a s
  | .camFrameInfo e => Sys2Proof.Machine.execCamFrameInfo e s
  | .camHistRead e => Sys2Proof.Machine.execCamHistRead e s
  | .camFrameRead e => Sys2Proof.Machine.execCamFrameRead e s
  | .camZoneRead e => Sys2Proof.Machine.execCamZoneRead e s
  | .camTrigger e => Sys2Proof.Machine.execCamTrigger e s
  | .camDefectLoad e => Sys2Proof.Machine.execCamDefectLoad e s
  | .camShadingLoad e => Sys2Proof.Machine.execCamShadingLoad e s
  | .periodicTrigger sensor => Sys2Proof.Machine.execPeriodicTrigger sensor s
  | .strobeStart sensor => Sys2Proof.Machine.execStrobeStart sensor s
  | .exposureEnd x => Sys2Proof.Machine.execExposureEnd x s
  | .csiFrameStart port vc ecc => Sys2Proof.Machine.execCsiFrameStart port vc ecc s
  | .csiFrameEnd port vc ecc => Sys2Proof.Machine.execCsiFrameEnd port vc ecc s
  | .csiLongPacket port p => Sys2Proof.Machine.execCsiLongPacket port p s
  | .csiHeaderError port vc => Sys2Proof.Machine.execCsiHeaderError port vc s
  | .frameTimeout sensor => Sys2Proof.Machine.execFrameTimeout sensor s
  | .pipelineUnitDone => Sys2Proof.Machine.execPipelineUnitDone s
  | .camSCommit a => Sys2Proof.Machine.execCamSCommit a s
  | .cciWritesDone sensor => Sys2Proof.Machine.execCciWritesDone sensor s
  | .cciNak sensor reg => Sys2Proof.Machine.execCciNak sensor reg s
  | .camCCommit a => Sys2Proof.Machine.execCamCCommit a s
  | .cciErrClear a => Sys2Proof.Machine.execCciErrClear a s
  | .camCntClear a => Sys2Proof.Machine.execCamCntClear a s
  | .camSCntClear a => Sys2Proof.Machine.execCamSCntClear a s
  | .deskewSequence port ui run1 run2 => Sys2Proof.Machine.execDeskewSequence port ui run1 run2 s
  | .haloStatus e => Sys2Proof.Machine.execHaloStatus e s
  | .haloSet e => Sys2Proof.Machine.execHaloSet e s
  | .haloNtest e => Sys2Proof.Machine.execHaloNtest e s
  | .haloChLevel a => Sys2Proof.Machine.execHaloChLevel a s
  | .fadeStep ch => Sys2Proof.Machine.execFadeStep ch s
  | .pwmPeriod ch m => Sys2Proof.Machine.execPwmPeriod ch m s
  | .verifyExpiry ch => Sys2Proof.Machine.execVerifyExpiry ch s
  | .accountingInterval => Sys2Proof.Machine.execAccountingInterval s
  | .budgetCut ch => Sys2Proof.Machine.execBudgetCut ch s
  | .stretchDue ch => Sys2Proof.Machine.execStretchDue ch s
  | .haloShort ch m => Sys2Proof.Machine.execHaloShort ch m s
  | .ntestStart => Sys2Proof.Machine.execNtestStart s
  | .ntestComplete pairs => Sys2Proof.Machine.execNtestComplete pairs s
  | .haloFaultClear a => Sys2Proof.Machine.execHaloFaultClear a s
  | .strobeCutClear a => Sys2Proof.Machine.execStrobeCutClear a s
  | .haloCntClear a => Sys2Proof.Machine.execHaloCntClear a s
  | .ringFrame port f => Sys2Proof.Machine.execRingFrame port f s
  | .supervisionTimer => Sys2Proof.Machine.execSupervisionTimer s
  | .sync port m => Sys2Proof.Machine.execSync port m s
  | .followUp port m => Sys2Proof.Machine.execFollowUp port m s
  | .announce port m => Sys2Proof.Machine.execAnnounce port m s
  | .announceTimeout domain => Sys2Proof.Machine.execAnnounceTimeout domain s
  | .pdelayReq port seq src => Sys2Proof.Machine.execPdelayReq port seq src s
  | .pdelayResp port m => Sys2Proof.Machine.execPdelayResp port m s
  | .pdelayTimer => Sys2Proof.Machine.execPdelayTimer s
  | .domainLost domain => Sys2Proof.Machine.execDomainLost domain s
  | .holdoverExpiry => Sys2Proof.Machine.execHoldoverExpiry s
  | .ringBlockLock port gained => Sys2Proof.Machine.execRingBlockLock port gained s
  | .bypReq a => Sys2Proof.Machine.execBypReq a s
  | .oos a => Sys2Proof.Machine.execOos a s
  | .orbInject a => Sys2Proof.Machine.execOrbInject a s
  | .orbBurst a => Sys2Proof.Machine.execOrbBurst a s
  | .orbCntClear a => Sys2Proof.Machine.execOrbCntClear a s
  | .ptpCntClear a => Sys2Proof.Machine.execPtpCntClear a s
  | .timeStatus e => Sys2Proof.Machine.execTimeStatus e s
  | .timeSet e => Sys2Proof.Machine.execTimeSet e s
  | .refresh => Sys2Proof.Machine.execRefresh s
  | .mr4Poll fast => Sys2Proof.Machine.execMr4Poll fast s
  | .dramScrubStart a => Sys2Proof.Machine.execDramScrubStart a s
  | .dramScrubPass corrected ues => Sys2Proof.Machine.execDramScrubPass corrected ues s
  | .sramScrubPass errs => Sys2Proof.Machine.execSramScrubPass errs s
  | .fspSwitchDown => Sys2Proof.Machine.execFspSwitchDown s
  | .fspSwitchDone => Sys2Proof.Machine.execFspSwitchDone s
  | .dramCntClear a => Sys2Proof.Machine.execDramCntClear a s
  | .sramCntClear a => Sys2Proof.Machine.execSramCntClear a s
  | .crcCntClear a => Sys2Proof.Machine.execCrcCntClear a s
  | .diagCrc e => Sys2Proof.Machine.execDiagCrc e s
  | .diagMemTest e => Sys2Proof.Machine.execDiagMemTest e s
  | .dispCommit a => Sys2Proof.Machine.execDispCommit a s
  | .dispRetrain a => Sys2Proof.Machine.execDispRetrain a s
  | .apertureWrite a => Sys2Proof.Machine.execApertureWrite a s
  | .dispSyncEdge ns => Sys2Proof.Machine.execDispSyncEdge ns s
  | .syncTimeout ns => Sys2Proof.Machine.execSyncTimeout ns s
  | .hpdAssert lanes link adaptive => Sys2Proof.Machine.execHpdAssert lanes link adaptive s
  | .hpdIrq lockLost => Sys2Proof.Machine.execHpdIrq lockLost s
  | .hpdLoss => Sys2Proof.Machine.execHpdLoss s
  | .linkTrainingDone ok => Sys2Proof.Machine.execLinkTrainingDone ok s
  | .dispCntClear a => Sys2Proof.Machine.execDispCntClear a s
  | .powerUp env => Sys2Proof.Machine.execPowerUp env s
  | .bootFallback env => Sys2Proof.Machine.execBootFallback env s
  | .vinLow => Sys2Proof.Machine.execVinLow s
  | .pwrResetAssert => Sys2Proof.Machine.execPwrResetAssert s
  | .pwrResetRelease env => Sys2Proof.Machine.execPwrResetRelease env s
  | .railFault rail mv => Sys2Proof.Machine.execRailFault rail mv s
  | .clockFault pll => Sys2Proof.Machine.execClockFault pll s
  | .junctionTrip entry reading => Sys2Proof.Machine.execJunctionTrip entry reading s
  | .companionOvertemp entry reading => Sys2Proof.Machine.execCompanionOvertemp entry reading s
  | .companionCooled x => Sys2Proof.Machine.execCompanionCooled x s
  | .xtal32Lost => Sys2Proof.Machine.execXtal32Lost s
  | .dieLinkLoss => Sys2Proof.Machine.execDieLinkLoss s
  | .powerStatus e => Sys2Proof.Machine.execPowerStatus e s
  | .powerUmbra e => Sys2Proof.Machine.execPowerUmbra e s
  | .powerWake e env => Sys2Proof.Machine.execPowerWake e env s
  | .pwrWakeL => Sys2Proof.Machine.execPwrWakeL s
  | .perstRelease b => Sys2Proof.Machine.execPerstRelease b s
  | .wakeTimer => Sys2Proof.Machine.execWakeTimer s
  | .umbraExitDone us => Sys2Proof.Machine.execUmbraExitDone us s
  | .pwrCntClear a => Sys2Proof.Machine.execPwrCntClear a s
  | .sensorConversion entry reading => Sys2Proof.Machine.execSensorConversion entry reading s
  | .riseEvaluation => Sys2Proof.Machine.execRiseEvaluation s
  | .thmLatchedClear a => Sys2Proof.Machine.execThmLatchedClear a s
  | .thmCntClear a => Sys2Proof.Machine.execThmCntClear a s
  | .calRun e => Sys2Proof.Machine.execCalRun e s
  | .calGridLoad e => Sys2Proof.Machine.execCalGridLoad e s
  | .calRunDone subj run1 run2 => Sys2Proof.Machine.execCalRunDone subj run1 run2 s
  | .calCntClear a => Sys2Proof.Machine.execCalCntClear a s
  | .trustQuote e => Sys2Proof.Machine.execTrustQuote e s
  | .quoteSigned => Sys2Proof.Machine.execQuoteSigned s
  | .trustCert e => Sys2Proof.Machine.execTrustCert e s
  | .trustExtend e => Sys2Proof.Machine.execTrustExtend e s
  | .updStatus e => Sys2Proof.Machine.execUpdStatus e s
  | .updWrite e => Sys2Proof.Machine.execUpdWrite e s
  | .updVerify e => Sys2Proof.Machine.execUpdVerify e s
  | .updActivate e => Sys2Proof.Machine.execUpdActivate e s
  | .updMgmtAddr e => Sys2Proof.Machine.execUpdMgmtAddr e s
  | .updNadir e => Sys2Proof.Machine.execUpdNadir e s
  | .mgmtRestartDone => Sys2Proof.Machine.execMgmtRestartDone s
  | .standbyReady => Sys2Proof.Machine.execStandbyReady s
  | .transitPauseEnd => Sys2Proof.Machine.execTransitPauseEnd s
  | .healthWindowEnd => Sys2Proof.Machine.execHealthWindowEnd s
  | .healthFailure check => Sys2Proof.Machine.execHealthFailure check s
  | .nadirStatus f => Sys2Proof.Machine.execNadirStatus f s
  | .nadirLoad f => Sys2Proof.Machine.execNadirLoad f s
  | .nadirVerify f => Sys2Proof.Machine.execNadirVerify f s
  | .nadirProgram f => Sys2Proof.Machine.execNadirProgram f s
  | .nadirMemtest f defect => Sys2Proof.Machine.execNadirMemtest f defect s
  | .nadirTailRead f => Sys2Proof.Machine.execNadirTailRead f s
  | .nadirReboot f env => Sys2Proof.Machine.execNadirReboot f env s
  | .tailFlush => Sys2Proof.Machine.execTailFlush s
  | .tailStatus e => Sys2Proof.Machine.execTailStatus e s
  | .tailFreeze e => Sys2Proof.Machine.execTailFreeze e s
  | .tailNote e => Sys2Proof.Machine.execTailNote e s
  | .tailClear e => Sys2Proof.Machine.execTailClear e s
  | .tailEraseDone => Sys2Proof.Machine.execTailEraseDone s
  | .freeze a => Sys2Proof.Machine.execFreeze a s
  | .tailCursor a => Sys2Proof.Machine.execTailCursor a s
  | .windowLoadDone port => Sys2Proof.Machine.execWindowLoadDone port s
  | .tailCntClear a => Sys2Proof.Machine.execTailCntClear a s
  | .eclipseInRequest => Sys2Proof.Machine.execEclipseInRequest s
  | .eclipseInRelease => Sys2Proof.Machine.execEclipseInRelease s
  | .eclipseEnter a => Sys2Proof.Machine.execEclipseEnter a s
  | .eclipseLeave a => Sys2Proof.Machine.execEclipseLeave a s
  | .eclipseLeaveEffect => Sys2Proof.Machine.execEclipseLeaveEffect s
  | .eclipseCntClear a => Sys2Proof.Machine.execEclipseCntClear a s
  | .watchdog unit => Sys2Proof.Machine.execWatchdog unit s
  | .ctlFault cause recordOk => Sys2Proof.Machine.execCtlFault cause recordOk s
  | .mgmtFault cause => Sys2Proof.Machine.execMgmtFault cause s
  | .blockLockGained n => Sys2Proof.Machine.execBlockLockGained n s
  | .hpdWaitTimeout => Sys2Proof.Machine.execHpdWaitTimeout s
  | .domainClockStop d => Sys2Proof.Machine.execDomainClockStop d s
  | .arpRequest sender mac target => Sys2Proof.Machine.execArpRequest sender mac target s
  | .icmpEchoRequest sender target data => Sys2Proof.Machine.execIcmpEchoRequest sender target data s
  | .transitionPassEnd => Sys2Proof.Machine.execTransitionPassEnd s
  | .epochReached => Sys2Proof.Machine.execEpochReached s
  | .pulseInputEdge input frequency duty => Sys2Proof.Machine.execPulseInputEdge input frequency duty s
  | .analogInputSample input hz => Sys2Proof.Machine.execAnalogInputSample input hz s
  | .ephStageLoaded => Sys2Proof.Machine.execEphStageLoaded s
  | .ephValidateDone => Sys2Proof.Machine.execEphValidateDone s
  | .diagMemTestDone defect => Sys2Proof.Machine.execDiagMemTestDone defect s
  | .flashWriteDone => Sys2Proof.Machine.execFlashWriteDone s
  | .updChecksDone => Sys2Proof.Machine.execUpdChecksDone s
  | .umbraEntryDone us => Sys2Proof.Machine.execUmbraEntryDone us s
  | .controlRestartDone => Sys2Proof.Machine.execControlRestartDone s
  | .activeAreaEnd ns => Sys2Proof.Machine.execActiveAreaEnd ns s

end Sys2Proof.Machine
end

