-- ==== Sys2Proof/WellFormed.lean ====
section
/-!
DEFINITION. Well-formed commands: every index names a part that the block has, and every entry has
the 40 parameter bytes of R117. The meanings are total, so a command that is not well formed still
has one: an index beyond its table names no part.
-/

namespace Sys2Proof

open Sys2Proof.Machine

/-- A submission entry holds 40 bytes of parameters (R117) and at most 16,777,216 of data. -/
def entryWf (e : Entry) : Bool :=
  e.params.length == 40 && decide (e.data.length ≤ 16777216) &&
  match e.origin with
  | .queue q => decide (q < 256)
  | .frame h => decide (h.slot < 8)

/-- A register access is at most 8 bytes wide and, over PCIe, lies in its BAR (R96). -/
def accessWf (a : RegAccess) : Bool :=
  decide (1 ≤ a.width) && decide (a.width ≤ 8) &&
  match a.origin with
  | .pcie _ => decide (a.addr < 2 ^ 20)
  | .bar2 _ => decide (a.addr < 2 ^ 14)
  | .frame h => decide (a.addr < 2 ^ 32) && decide (h.slot < 8)

/-- The indices that a command carries, each with the number of parts it may name. -/
def Instr.indices : Instr → List (Nat × Nat)
  | .sessionOpen h | .sessionClose h | .keepalive h | .jcsFrameReplay h => [(h.slot, 8)]
  | .jcsFrameBad _ f => [(f.length, 1473)]
  | .sessionTimeout i => [(i, 8)]
  | .blockStaged n p _ _ => [(n, 32), (p, 0x200)]
  | .tileResident n i j _ => [(n, 32), (i, 65), (j, 65)]
  | .vectorStart n | .waitEnd n | .syncRelease n | .engineParked n | .holdEscalation n
  | .powerPeriodEnd n | .roiFrameEnd n _ | .roiLate n | .uplinkFrame n _
  | .uplinkFrameMissing n | .blockLockLoss n | .blockLockGained n | .receiverDetect n
  | .detectTimeout n | .phaseFound n | .trainTimeout n | .frameLock n _ _ | .lockTimeout n
  | .caps n _ | .capsTimeout n | .backoffEnd n | .headReady n | .loopAck n _
  | .loopAckTimeout n => [(n, 32)]
  | .syzygyTrigger i | .periodicTrigger i | .strobeStart i | .exposureEnd ⟨i, _⟩ | .frameTimeout i
  | .cciWritesDone i | .cciNak i _ => [(i, 8)]
  | .takeEscalation z => [(z, 256)]
  | .tideUpdate l => [(l, 64)]
  | .limitEdge a _ _ | .switchQualify a _ | .homeEdge a _ _ | .homingLimit a _ _ _
  | .stepInEdge a _ _ | .interpTimeout a | .encoderZEdge a | .ssiFrameEnd a _ _ _ => [(a, 8)]
  | .quadTransition a ab => [(a, 8), (ab, 4)]
  | .csiFrameStart p v _ | .csiFrameEnd p v _ | .csiHeaderError p v => [(p, 2), (v, 4)]
  | .csiLongPacket p k => [(p, 2), (k.vc, 4)]
  | .deskewSequence p _ _ _ => [(p, 2)]
  | .fadeStep c | .pwmPeriod c _ | .verifyExpiry c | .budgetCut c | .stretchDue c
  | .haloShort c _ => [(c, 24)]
  | .ringFrame p _ | .sync p _ | .followUp p _ | .pdelayReq p _ _ | .pdelayResp p _
  | .ringBlockLock p _ | .announce p _ => [(p, 2)]
  | .announceTimeout d | .domainLost d => [(d, 2)]
  | .railFault r _ => [(r, 7)]
  | .junctionTrip t _ | .companionOvertemp t _ | .sensorConversion t _ => [(t, 22)]
  | .calRunDone c _ _ => [(c, 5)]
  | .windowLoadDone p => [(p, 3)]
  | .domainClockStop d => [(d, 16)]
  | .pulseInputEdge i _ _ | .analogInputSample i _ => [(i, 8)]
  | .routeSwitch r => [(r, 1024)]
  | _ => []

/-- The register access that a command carries. -/
def Instr.access? : Instr → Option RegAccess
  | .hostDbSqTail a | .hostDbCqHead a | .qpEnable a | .hostRoleClaim a | .hostRoleRelease a
  | .cntClear a | .registerWrite a | .refusedRead a | .latchingRead a | .tailStatusRead a
  | .arbLogPop a | .arbCntClear a | .seCntClear a | .periCntClear a | .loopModeWrite a
  | .loopSetSelect a | .feTripClear a | .setEmptyClear a | .satAtSwapClear a | .tideCntClear a
  | .mpCntClear a | .mlTest a | .mlInject a | .mlRetrain a | .mlCntClear a
  | .profileKeptClear a | .axCntClear a | .camSCommit a | .camCCommit a | .cciErrClear a
  | .camCntClear a | .camSCntClear a | .haloChLevel a | .haloFaultClear a | .strobeCutClear a
  | .haloCntClear a | .bypReq a | .oos a | .orbInject a | .orbBurst a | .orbCntClear a
  | .ptpCntClear a | .dramScrubStart a | .dramCntClear a | .sramCntClear a | .crcCntClear a
  | .dispCommit a | .dispRetrain a | .apertureWrite a | .dispCntClear a | .pwrCntClear a
  | .thmLatchedClear a | .thmCntClear a | .calCntClear a | .freeze a | .tailCursor a
  | .tailCntClear a | .eclipseEnter a | .eclipseLeave a | .eclipseCntClear a => some a
  | _ => none

/-- The submission entry that a command carries. -/
def Instr.entry? : Instr → Option Entry
  | .unknownCommand e | .ephInfo e | .ephStore e | .ephSetBoot e | .ephStage e | .ephValidate e
  | .ephCommit e | .ephCancel e | .ephRouteSet e | .jobStatus e | .jobLayerOpen e
  | .jobLayerClose e | .jobSubmit e | .jobAbort e | .paramAtlasRead e | .paramAtlasWrite e
  | .paramPeriRead e | .paramPeriLoad e | .loopStatus e | .loopSetRead e | .loopCaptureRead e
  | .loopSetWrite e | .loopCaptureStart e | .loopCaptureStop e | .axisStatus e | .axisEnable e
  | .axisHome e | .axisMove e | .axisJog e | .axisFollow e | .axisStop e | .axisSetDyn e
  | .axisRecoatResume e | .camFrameInfo e | .camHistRead e | .camFrameRead e | .camZoneRead e
  | .camTrigger e | .camDefectLoad e | .camShadingLoad e | .haloStatus e | .haloSet e
  | .haloNtest e | .timeStatus e | .timeSet e | .diagCrc e | .diagMemTest e | .powerStatus e
  | .powerUmbra e | .powerWake e _ | .calRun e | .calGridLoad e | .trustQuote e | .trustCert e
  | .trustExtend e | .updStatus e | .updWrite e | .updVerify e | .updActivate e
  | .updMgmtAddr e | .updNadir e | .tailStatus e | .tailFreeze e | .tailNote e | .tailClear e => some e
  | _ => none

/-- A well-formed command. -/
def Instr.wf (i : Instr) : Bool :=
  i.indices.all (fun p => decide (p.1 < p.2)) && i.access?.all accessWf && i.entry?.all entryWf

end Sys2Proof
end

