-- ==== Sys2Proof/Safety.lean ====
section
/-!
DEFINITION. The terms that statements use: the parts of the state and what leaves them alone, the
invariants of a safe run, and when the dispatcher takes a command.
-/

namespace Sys2Proof.Machine

/-! ## Parts of the state -/

/-- The parts of the state, one per field; `pending` is the queue that the step serves. -/
inductive Part
  | pending | outbox | freeCtr | host | eph | job | engines | arb | melt | peri | tide | links | axes | recoat
  | camera | halo | time | mem | disp | power | cal | boot | tail | planes | eclipse | flash
  deriving DecidableEq, Repr

/-- Part `p` is the same in both states. -/
def Part.Same (s t : State) : Part → Prop
  | .pending => t.pending = s.pending
  | .outbox => t.outbox = s.outbox
  | .freeCtr => t.freeCtr = s.freeCtr
  | .host => t.host = s.host
  | .eph => t.eph = s.eph
  | .job => t.job = s.job
  | .engines => t.engines = s.engines
  | .arb => t.arb = s.arb
  | .melt => t.melt = s.melt
  | .peri => t.peri = s.peri
  | .tide => t.tide = s.tide
  | .links => t.links = s.links
  | .axes => t.axes = s.axes
  | .recoat => t.recoat = s.recoat
  | .camera => t.camera = s.camera
  | .halo => t.halo = s.halo
  | .time => t.time = s.time
  | .mem => t.mem = s.mem
  | .disp => t.disp = s.disp
  | .power => t.power = s.power
  | .cal => t.cal = s.cal
  | .boot => t.boot = s.boot
  | .tail => t.tail = s.tail
  | .planes => t.planes = s.planes
  | .eclipse => t.eclipse = s.eclipse
  | .flash => t.flash = s.flash

/-- Nothing but the parts in `w` differs between the states. -/
def SameBut (w : List Part) (s t : State) : Prop := ∀ p, p ∉ w → Part.Same s t p

/-! ## Invariants -/

/-- The memories that a byte address reaches hold their canonical form: addresses strictly rising, no entry
equal to what an unlisted address reads as. -/
def Memory.wf (s : State) : Prop :=
  swf flashErased s.flash = true ∧ swf 0 s.disp.buffer = true ∧ swf 0 s.boot.nadir.staging = true

/-- At most one slot holds a role of `m` (R101). -/
def State.atMostOne (s : State) (m : BitVec 4) : Prop :=
  ∀ i j, (s.slot i).held &&& m ≠ 0 → (s.slot j).held &&& m ≠ 0 → i = j

/-- The roles as R101 lets slots hold them: PILOT and SERVICE at one slot each. -/
def State.rolesOk (s : State) : Prop := s.atMostOne rolePilot ∧ s.atMostOne roleService

/-! ## Commands that the dispatcher takes -/

/-- The dispatcher takes entry `e`: from a queue whose turn it is, its buffer readable (R116, R120–R122), or from a
frame of an open session whose data is in the frame (R127–R129). `f` is the command under way, and `t` the state in
which it is judged. -/
def Taken (e : Entry) (s : State) (f : Flight) (t : State) : Prop :=
  match e.origin with
  | .queue q => ∃ i, s.queueSlot? q = some i ∧ s.mayTake i q e = true ∧ e.dmaOk = true ∧
      (f, t) = (s.takeEntry q).newFlight i e
  | .frame h => s.answersFrames = true ∧ s.dispatches = true ∧ s.sessionTurn h.slot = true ∧
      (s.takeCommand h).1 = true ∧ e.bufAddr = 0 ∧ (f, t) = (s.takeCommand h).2.newFlight h.slot e

/-- The dispatcher takes entry `e` of command `op` and refuses nothing that every command passes (R116–R122,
R125, R128–R132): the command's own checks run in `t`. -/
def Dispatched (op : W16) (e : Entry) (s : State) (f : Flight) (t : State) : Prop :=
  e.opcode = op ∧ e.bad = none ∧ t.roleBad f.slot op.toNat = none ∧
  (t.companionMode = true → e.inline = true ∧ companionOpcodes.contains op.toNat = true) ∧ Taken e s f t

/-! ## Register accesses -/

/-- Access `a` reaches the device in state `s`, which `u` is for it: over PCIe the offset lies in BAR0 and the
link is up; over the management port the frame is taken (R96, R128, R129). -/
def Reaches (a : RegAccess) (s u : State) : Prop :=
  match a.origin with
  | .pcie b => a.addr < 2 ^ 20 ∧ (s.port (b1 b)).linkUp = true ∧ u = s.wakePort (b1 b)
  | .bar2 _ => False
  | .frame h => s.answersFrames = true ∧ (s.takeFrameAt a.addr h).1 = true ∧ u = (s.takeFrameAt a.addr h).2

/-- A write is accepted for instance `i` of register `r` (R546). -/
def Accepted (a : RegAccess) (s u : State) (r : Reg) (i : Nat) : Prop :=
  Reaches a s u ∧ u.judgeWrite a.origin.port a = .ok (r, i)

/-- The rows of the table that write one register: the access and that register. -/
def writeRow? : Instr → Option (RegAccess × Reg)
  | .hostDbSqTail a => some (a, .hostDbSqTail)
  | .hostDbCqHead a => some (a, .hostDbCqHead)
  | .qpEnable a => some (a, .hostQpCtrl)
  | .hostRoleClaim a => some (a, .hostRoleClaim)
  | .hostRoleRelease a => some (a, .hostRoleRelease)
  | .cntClear a => some (a, .hostSlotCtl)
  | .arbLogPop a => some (a, .arbLogPop)
  | .arbCntClear a => some (a, .arbCntCtl)
  | .seCntClear a => some (a, .seCntCtl)
  | .periCntClear a => some (a, .periCntCtl)
  | .loopModeWrite a => some (a, .tideLoopCtl)
  | .loopSetSelect a => some (a, .tideLoopCtl)
  | .feTripClear a => some (a, .tideLoopStatus)
  | .setEmptyClear a => some (a, .tideLoopStatus)
  | .satAtSwapClear a => some (a, .tideLoopStatus)
  | .tideCntClear a => some (a, .tideCntCtl)
  | .mpCntClear a => some (a, .mpCntCtl)
  | .mlTest a => some (a, .mlCtl)
  | .mlInject a => some (a, .mlCtl)
  | .mlRetrain a => some (a, .mlCtl)
  | .mlCntClear a => some (a, .mlCntCtl)
  | .profileKeptClear a => some (a, .axState)
  | .axCntClear a => some (a, .axCntCtl)
  | .camSCommit a => some (a, .camSCommit)
  | .camCCommit a => some (a, .camCCommit)
  | .cciErrClear a => some (a, .camSState)
  | .camCntClear a => some (a, .camCntCtl)
  | .camSCntClear a => some (a, .camSCntCtl)
  | .haloChLevel a => some (a, .haloChLevel)
  | .haloFaultClear a => some (a, .haloChStatus)
  | .strobeCutClear a => some (a, .haloChStatus)
  | .haloCntClear a => some (a, .haloCntCtl)
  | .bypReq a => some (a, .orbCtl)
  | .oos a => some (a, .orbPpCtl)
  | .orbInject a => some (a, .orbPpCtl)
  | .orbBurst a => some (a, .orbPpCtl)
  | .orbCntClear a => some (a, .orbPpCntCtl)
  | .ptpCntClear a => some (a, .ptpCntCtl)
  | .dramScrubStart a => some (a, .dramScrub)
  | .dramCntClear a => some (a, .dramCntCtl)
  | .sramCntClear a => some (a, .sramCntCtl)
  | .crcCntClear a => some (a, .crcCntCtl)
  | .dispCommit a => some (a, .dispCommit)
  | .dispRetrain a => some (a, .dispCommit)
  | .apertureWrite a => some (a, .aperture)
  | .dispCntClear a => some (a, .dispCntCtl)
  | .pwrCntClear a => some (a, .pwrCntCtl)
  | .thmLatchedClear a => some (a, .thmSStatus)
  | .thmCntClear a => some (a, .thmCntCtl)
  | .calCntClear a => some (a, .calCntCtl)
  | .freeze a => some (a, .tailCtl)
  | .tailCursor a => some (a, .tailCursor)
  | .tailCntClear a => some (a, .tailCntCtl)
  | .eclipseEnter a => some (a, .eclipseEnter)
  | .eclipseLeave a => some (a, .eclipseLeave)
  | .eclipseCntClear a => some (a, .eclipseCtl)
  | _ => none

/-- What the CLEAR bit of a counter control register brings to zero: registers with their instances. -/
def clearedBy (i : Nat) : Reg → List (Reg × Nat)
  | .seCntCtl => [.seCntCtl, .seStarveCnt, .seInnerWaitCnt, .seSkyShortCnt, .seGridClampCnt, .seNoPulseCnt,
      .seSpeedClampCnt, .seVectorsLo, .seVectorsHi, .seGateOnLo, .seGateOnHi, .seStarveTimeLo, .seStarveTimeHi,
      .seSyncWaitLo, .seSyncWaitHi].map (·, i)
  | .arbCntCtl => [.arbCntCtl, .arbHoldCnt, .arbEscalateCnt, .arbUnresolvedCnt, .arbViolationCnt, .arbSeamCutCnt,
      .arbSeamClampCnt, .arbForcedCnt, .arbTakesLo, .arbTakesHi, .arbHoldTimeLo, .arbHoldTimeHi].map (·, 0) ++
      (List.range 32).flatMap fun n => [.arbEngHoldStart, .arbEngHoldMax, .arbEngHolds, .arbEngHoldTimeLo,
        .arbEngHoldTimeHi, .arbEngTakesLo, .arbEngTakesHi].map (·, n)
  | .periCntCtl => [.periCntCtl, .periPassMax, .periSatCnt, .periStepsLo, .periStepsHi, .periDepositLo,
      .periDepositHi].map (·, 0)
  | .tideCntCtl => [.tideCntCtl, .tideSwapCnt, .tideSatSwapCnt, .tideFeTripCnt, .tideSetEmptyCnt].map (·, 0)
  | .mpCntCtl => [.mpCntCtl, .mpFramesCnt, .mpCrcCnt, .mpLateCnt, .mpRatioHeldCnt].map (·, i)
  | .mlCntCtl => [.mlCntCtl, .mlUpCrcCnt, .mlUpMissCnt, .mlDnErrCnt, .mlBulkErrCnt, .mlLossCnt, .mlRetrainCnt,
      .mlTestErrCnt, .mlTestBitsLo, .mlTestBitsHi].map (·, i)
  | .axCntCtl => [.axCntCtl, .axChatterCnt, .axLimitStopCnt, .axDevStopCnt, .axQuadErrCnt, .axSsiErrCnt, .axKeptCnt,
      .axSoftClampCnt, .axStepsLo, .axStepsHi].map (·, i)
  | .camCntCtl => [(.camCntCtl, 0), (.camBufPeak, 0)] ++
      (List.range 2).flatMap fun p => [.camPortCrcCnt, .camPortHdrCnt, .camPortEccFixCnt, .camPortUnexpCnt].map (·, p)
  | .camSCntCtl => [.camSCntCtl, .camSShortCnt, .camSLongCnt, .camSMissingCnt, .camSSkipCnt, .camSOverrunCnt].map (·, i)
  | .haloCntCtl => [.haloCntCtl, .haloOpenCnt, .haloShortCnt, .haloBudgetCnt, .haloStretchCnt].map (·, 0)
  | .orbPpCntCtl => [.orbPpCntCtl, .orbPpFcsCnt, .orbPpDupCnt, .orbPpDropCnt, .orbPpPrbsErrCnt, .orbPpPrbsBitsLo,
      .orbPpPrbsBitsHi].map (·, i)
  | .ptpCntCtl => [.ptpCntCtl, .ptpStepCnt, .ptpSwitchCnt, .ptpHoldoverCnt, .ptpSeqErrCnt].map (·, 0)
  | .dramCntCtl => [.dramCntCtl, .dramCeCnt, .dramUeCnt, .dramFspCnt, .dramDerateCnt, .dramPassCnt, .dramNrLo,
      .dramNrHi].map (·, 0)
  | .sramCntCtl => [.sramCntCtl, .sramCeCnt, .sramUeCnt, .sramPassCnt].map (·, 0)
  | .crcCntCtl => [.crcBytesLo, .crcBytesHi].map (·, 0)
  | .dispCntCtl => [.dispCntCtl, .dispUnderrunCnt, .dispSlipCnt, .dispSyncMissCnt, .dispTrainFailCnt].map (·, 0)
  | .pwrCntCtl => [.pwrCntCtl, .pwrUmbraCnt, .pwrRailFaultCnt, .pwrClkFaultCnt].map (·, 0)
  | .thmCntCtl => (List.range 22).flatMap fun k => [.thmSBreachCnt, .thmSMaxmin].map (·, k)
  | .calCntCtl => [(.calRejectCnt, 0)]
  | .tailCntCtl => [.tailCntCtl, .tailDropCnt, .tailTornCnt, .tailClearCnt].map (·, 0)
  | .eclipseCtl => [.eclipseCtl, .eclipseEntryCnt].map (·, 0)
  | .hostSlotCtl => [(.hostRejectCnt, i)]
  | _ => []

/-- The counter control registers. -/
def clearRegs : List Reg :=
  [.seCntCtl, .arbCntCtl, .periCntCtl, .tideCntCtl, .mpCntCtl, .mlCntCtl, .axCntCtl, .camCntCtl, .camSCntCtl,
   .haloCntCtl, .orbPpCntCtl, .ptpCntCtl, .dramCntCtl, .sramCntCtl, .crcCntCtl, .dispCntCtl, .pwrCntCtl, .thmCntCtl,
   .calCntCtl, .tailCntCtl, .eclipseCtl, .hostSlotCtl]

/-- The parts that an accepted write of a register may change, beside the answer of a frame. -/
def Reg.parts : Reg → List Part
  | .eclipseEnter => [.eclipse, .engines, .job, .arb, .host, .outbox, .tail, .mem, .recoat]
  | .eclipseLeave => [.eclipse]
  | .eclipseCtl => [.eclipse]
  | .hostRoleRelease => [.host, .eph, .tail, .outbox]
  | .hostDbCqHead => [.host, .outbox]
  | .hostRoleClaim | .hostSlotCtl | .hostQpSelect | .hostQpCtrl | .hostQpSize | .hostQpSqBaseLo | .hostQpSqBaseHi
  | .hostQpCqBaseLo | .hostQpCqBaseHi | .hostDbSqTail | .tailCursor => [.host]
  | .seCntCtl => [.engines, .tail]
  | .arbCntCtl => [.arb, .engines, .tail]
  | .arbTailMin | .arbLogPop => [.arb]
  | .tideCntCtl | .tideLoopCtl | .tideLoopStatus | .tideSp | .tideMan => [.tide]
  | .periProbe | .periCntCtl => [.peri]
  | .mpCfg | .mpCfg2 | .mpPdCfg => [.melt]
  | .mpCntCtl => [.melt, .tail]
  | .mlCntCtl => [.links, .tail]
  | .mlCtl => [.links, .eph, .melt]
  | .axRecoatCfg | .axRecoatEndA | .axRecoatEndB | .axRecoatDose => [.recoat]
  | .axState | .axCfg | .axHomeV | .axHomeOfs | .axFollowCfg | .axCntCtl => [.axes]
  | .camSCommit => [.camera, .outbox]
  | .camCntCtl | .camSState | .camSTrig | .camSPeriod | .camSExpTime | .camSExpCci | .camSGainCci | .camSCntCtl
  | .camCBlack | .camCCtl | .camCCcm0 | .camCCcm1 | .camCCcm2 | .camCCcm3 | .camCCcm4 | .camCCommit => [.camera]
  | .haloCntCtl | .haloChLevel | .haloChStatus => [.halo]
  | .orbCtl | .orbPpCtl | .orbPpCntCtl | .ptpCntCtl => [.time]
  | .dramScrub | .dramCntCtl | .sramScrubCfg | .sramCntCtl | .crcCntCtl => [.mem]
  | .dispCtl | .dispBase | .dispAperture | .dispThmOrigin | .dispThmMap | .dispCommit | .dispCntCtl | .dispPalette
  | .aperture => [.disp]
  | .pwrCntCtl | .thmCntCtl | .thmSStatus => [.power]
  | .calCntCtl => [.cal]
  | .tailCtl | .tailCntCtl => [.tail]
  | _ => []

end Sys2Proof.Machine
end

