-- ==== Sys2Proof/Certificates/Slice0/Obligations.lean ====
section
/-!
DEFINITION. The statements about the model, for the provers. A premise `Reaches`, `Accepted` or `Dispatched`
(Safety.lean) says that an access or an entry is taken.
-/

open Sys2Proof Sys2Proof.Machine

/-- For every command c and state s, step of s with c put at the front of its queue is exec of c on s, whose queue is the rest. A step on an empty queue answers the same state (log entry 1: the model's own queue). -/
def Obligations.StepRunsTheFrontCommand : Prop :=
  (∀ (c : Instr) (s : State), step { s with pending := c :: s.pending } = exec c s) ∧
  (∀ s : State, s.pending = [] → step s = .next s)

/-- In State.reset, through every port, DEV_ID reads 0xF032_00A2, STEPPING 0xA2, CAPS 0x0001_0820, ERR_LAST 0x000F_0000, HOST_SLOT_STATUS 0x1000_0900 for slot 0, 0x0000_0820 for slot 7 and 0x0000_0030 for slots 1 to 6; MP_CFG, MP_CFG2 and MP_PD_CFG, AX_CFG, AX_HOME_V and AX_FOLLOW_CFG, the CAM_S and CAM_C registers, SRAM_SCRUB_CFG and DISP_THM_MAP hold the reset values of their headings, and the roles held, the events flag and the reject counter of every slot are zero. -/
def Obligations.RegistersReadTheirResetValues : Prop :=
  (∀ p : Nat,
    State.reset.regValue p 0 .devId = 0xF03200A2 ∧ State.reset.regValue p 0 .stepping = 0xA2 ∧
    State.reset.regValue p 0 .caps = 0x10820 ∧ (p < 3 → State.reset.regValue p 0 .errLast = 0xF0000) ∧
    State.reset.regValue p 0 .hostSlotStatus = 0x10000900 ∧ State.reset.regValue p 7 .hostSlotStatus = 0x820 ∧
    (∀ i, 1 ≤ i → i ≤ 6 → State.reset.regValue p i .hostSlotStatus = 0x30) ∧
    (∀ n, n < 32 → State.reset.regValue p n .mpCfg = 0x100 ∧ State.reset.regValue p n .mpCfg2 = 0x2000010 ∧
      State.reset.regValue p n .mpPdCfg = 0x1000002) ∧
    State.reset.regValue p 0 .sramScrubCfg = 0x3C ∧ State.reset.regValue p 0 .dispThmMap = 1) ∧
  (∀ a, a < 8 → (State.reset.axis a).cfg = 0xA0F ∧ (State.reset.axis a).homeV = 0x2710 ∧
    (State.reset.axis a).homeOfs = 0 ∧ (State.reset.axis a).followCfg = 0x10000A) ∧
  (∀ i, i < 8 → (State.reset.sensor i).trig = 0x640000 ∧ (State.reset.sensor i).period = 0x3D0900 ∧
    (State.reset.sensor i).shadow = { time := 1000, expCci := 0xFFFF0000, gainCci := 0xFFFF0000 } ∧
    (State.reset.camCtx i).shadow.ccm = [0x1000, 0, 0x1000, 0, 0x1000]) ∧
  (∀ i, i < 8 → (State.reset.slot i).held = 0 ∧ (State.reset.slot i).eventsOn = false ∧
    (State.reset.slot i).reject = {})

/-- In State.reset every byte-addressed memory holds its canonical form: addresses strictly rising, and no entry equal to what an unlisted address reads as. The form is the model's own (log entry 2). -/
def Obligations.FlashIsCanonicalAfterReset : Prop :=
  Memory.wf State.reset

/-- For every state whose 64 MiB of flash hold the canonical form (addresses strictly rising, no entry equal to the erased byte 0xFF), whatever command stands at the front of the queue: if step answers a next state, the flash of that state holds the canonical form. The form is the model's own (log entry 2). -/
def Obligations.FlashStaysCanonical : Prop :=
  ∀ s t : State, swf flashErased s.flash = true → step s = .next t → swf flashErased t.flash = true

/-- If at most one slot holds PILOT and at most one holds SERVICE, then after any register write (REGISTER_WRITE, HOST_ROLE_CLAIM, HOST_ROLE_RELEASE and every other row that writes one register) that goes on, the same holds. In State.reset it holds. -/
def Obligations.RolesStayExclusiveUnderAccesses : Prop :=
  State.reset.rolesOk ∧
  (∀ (a : RegAccess) (s t : State), s.rolesOk → exec (.registerWrite a) s = .next t → t.rolesOk) ∧
  (∀ (c : Instr) (a : RegAccess) (r : Reg) (s t : State), writeRow? c = some (a, r) → s.rolesOk →
    exec c s = .next t → t.rolesOk)

/-- For every row that writes one register (writeRow? lists them: the doorbells, QP_ENABLE, the role registers, every CLEAR, W1C and commit row, ML_, ORB_, HALO_, CAM_, DISP_, TAIL_ and ECLIPSE_ writes) and for REGISTER_WRITE: when the access reaches the device and R546 finds nothing to refuse, exec answers the next state in which the register's store (regStore) has acted, a register frame is answered with code 0, and a PCIe write gets no answer. -/
def Obligations.AcceptedWritesTakeEffect : Prop :=
  (∀ (c : Instr) (a : RegAccess) (r : Reg) (i : Nat) (s u : State), writeRow? c = some (a, r) →
    Accepted a s u r i →
    exec c s = .next ((u.regStore a.origin.port i a.value r).answerWrite a 0)) ∧
  (∀ (a : RegAccess) (r : Reg) (i : Nat) (s u : State), Accepted a s u r i →
    exec (.registerWrite a) s = .next ((u.regStore a.origin.port i a.value r).answerWrite a 0))

/-- The frame of register writes: for every register but ECLIPSE_ENTER, HOST_ROLE_RELEASE and HOST_DB_CQ_HEAD, the store of a write leaves every part of the state outside Reg.parts of that register as it was. Those parts are the register's own block, the Tail recorder's summary base where counters of a layer summary are cleared, what a link that leaves ACTIVE loses (the sources of its routes and the picture under way), and what a camera commit sends. -/
def Obligations.AcceptedWritesLeaveOtherPartsAlone : Prop :=
  ∀ (r : Reg) (s : State) (p i : Nat) (w : W32), r ≠ .eclipseEnter → r ≠ .hostRoleRelease → r ≠ .hostDbCqHead →
    SameBut r.parts s (s.regStore p i w r)

/-- For each counter control register (SE, ARB, PERI, TIDE, MP, ML, AX, CAM, CAM_S, HALO, ORB, PTP, DRAM, SRAM, CRC, DISP, PWR, THM, CAL, TAIL, ECLIPSE_CTL and HOST_SLOT_CTL): after a write with bit 0 set is stored for an instance that exists, every register that clearedBy lists for it (its counters, statistics and SAT flags) reads zero through every port. CAL_COUNT is not among them. -/
def Obligations.ClearBitsZeroTheirCounters : Prop :=
  ∀ (r : Reg) (s : State) (p i q : Nat) (w : W32), r ∈ clearRegs → s.host.slots.length = 8 → i < 8 →
    bitOf w 0 = true →
    ∀ x ∈ clearedBy i r, x.2 < 32 → (s.regStore p i w r).regValue q x.2 x.1 = 0

/-- Over all states, ports and accesses, the code of a refused write is that of the first step that fails: 1 width or alignment 0x0201; 2 a slot page or doorbell not bound to the port 0x0304; 3 an offset that no chapter lists 0x0203; 4 a core-die register while the core die is unpowered 0x0508; 5 a register whose fields are all RO 0x0301; 6 no held role that permits the write (the group's own code); 7 a reserved bit set 0x0202; 8 and 9 the register's conditions and its fields in table order. Only step 1 refuses a read: a read under steps 2 to 4 returns zero and records nothing. -/
def Obligations.WriteChecksComeInOrder : Prop :=
  ∀ (s : State) (p : Nat) (a : RegAccess),
    (a.narrow = true → s.judgeWrite p a = .error 0x0201) ∧
    (a.narrow = false → s.unbound p a.addr = true → s.judgeWrite p a = .error 0x0304 ∧ s.readAt p a.addr = (0, s)) ∧
    (a.narrow = false → s.unbound p a.addr = false → regAt a.addr = none →
      s.judgeWrite p a = .error 0x0203 ∧ s.readAt p a.addr = (0, s)) ∧
    (∀ x i, a.narrow = false → s.unbound p a.addr = false → regAt a.addr = some (x, i) →
      (s.power.core = false → s.onCompanion (x, i) = false →
        s.judgeWrite p a = .error 0x0508 ∧ s.readAt p a.addr = (0, s)) ∧
      ((s.power.core = true ∨ s.onCompanion (x, i) = true) →
        (x.reserved = none → s.judgeWrite p a = .error 0x0301) ∧
        (∀ m, x.reserved = some m →
          (∀ c, s.groupBad p x.group = some c → s.judgeWrite p a = .error c) ∧
          (s.groupBad p x.group = none → a.value &&& m ≠ 0 → s.judgeWrite p a = .error 0x0202) ∧
          (s.groupBad p x.group = none → a.value &&& m = 0 →
            (∀ c, s.regBad i a.value x.reg = some c → s.judgeWrite p a = .error c) ∧
            (s.regBad i a.value x.reg = none → s.judgeWrite p a = .ok (x.reg, i))))))

/-- When a write that reaches the device is refused with code c, REGISTER_WRITE answers a next state that differs from the state it found only in ERR_LAST and ERR_LAST_ADDR of the accessing port (the charged slot, c and the offset), in the reject counter of the charged slot, and in the reply that a register frame gets. Every other part of the state, every queue and every slot's roles are as before. -/
def Obligations.RefusedWritesOnlyRecord : Prop :=
  ∀ (a : RegAccess) (s u : State) (c : Code), Reaches a s u → u.judgeWrite a.origin.port a = .error c →
    u.host.slots.length = 8 → a.addr < 2 ^ 20 →
    ∃ t, exec (.registerWrite a) s = .next t ∧ SameBut [.host, .outbox] u t ∧
      t.host.queues = u.host.queues ∧ t.host.flights = u.host.flights ∧
      (∀ i, (t.slot i).held = (u.slot i).held ∧ (t.slot i).cfg = (u.slot i).cfg) ∧
      (a.origin.port < 3 → (t.port a.origin.port).errCode = c ∧ (t.port a.origin.port).errAddr = a.addr ∧
        (t.port a.origin.port).errSlot = (u.charged a.origin a.addr).getD 0xF) ∧
      (∀ q, q ≠ a.origin.port → t.port q = u.port q) ∧
      (∀ i, i < 8 → (t.slot i).reject =
        if u.charged a.origin a.addr = some i then (u.slot i).reject.inc else (u.slot i).reject)

/-- A read that is not 32 bits wide or not aligned to 4 bytes, over a PCIe link that is up, makes REFUSED_READ answer a next state in which the reader gets zero, ERR_LAST of the port holds BAD_FIELD (0x0201) with the offset, the charged slot's reject counter has advanced, and no other part has changed. LATCHING_READ does not take such a read. -/
def Obligations.NarrowReadsReturnZero : Prop :=
  ∀ (a : RegAccess) (b : Bool) (s : State), a.origin = .pcie b → a.addr < 2 ^ 20 →
    (s.port (b1 b)).linkUp = true → a.narrow = true → s.host.slots.length = 8 →
    (∃ t, exec (.refusedRead a) s = .next t ∧ t.outbox = .readValue (b1 b) a.addr 0 :: s.outbox ∧
      SameBut [.host, .outbox] s t ∧ (t.port (b1 b)).errCode = 0x0201 ∧ (t.port (b1 b)).errAddr = a.addr ∧
      (∀ i, s.charged a.origin a.addr = some i → i < 8 → (t.slot i).reject = (s.slot i).reject.inc)) ∧
    exec (.latchingRead a) s = .next s

/-- LATCHING_READ of a register that the port reaches, over a PCIe link that is up, answers a next state in which the reader gets regValue of the register (or, for a word that an earlier read has captured, the latch of the port). A read of a word that captures the n words after it stores in the port's latch the value that each of them has at that moment; a latched word reads what the latch holds. -/
def Obligations.ReadsReturnTheRegisterAndLatch : Prop :=
  (∀ (a : RegAccess) (b : Bool) (s : State) (x : RegPlace) (i : Nat), a.origin = .pcie b → a.addr < 2 ^ 20 →
    (s.port (b1 b)).linkUp = true → a.narrow = false → (s.wakePort (b1 b)).reach (b1 b) a.addr = .ok (x, i) →
    ∃ t, exec (.latchingRead a) s = .next t ∧
      t.outbox = .readValue (b1 b) a.addr
        (if latched x.reg i then sget 0 (s.port (b1 b)).latches a.addr
          else (s.wakePort (b1 b)).regValue (b1 b) i x.reg) :: s.outbox ∧
      SameBut [.host, .outbox, .tail] s t) ∧
  (∀ (s : State) (p a k : Nat) (x y : RegPlace) (i j : Nat), p < 3 → swf 0 (s.port p).latches = true →
    s.reach p a = .ok (x, i) → latched x.reg i = false → k < captures x.reg i →
    regAt (a + 4 * (k + 1)) = some (y, j) →
    sget 0 ((s.readAt p a).2.port p).latches (a + 4 * (k + 1)) = s.regValue p j y.reg)

/-- Through any port: an offset that no chapter lists (outside foreign pages and doorbells) reads zero and refuses a write with BAD_FIELD (0x0203); an offset of a slot page that is not bound to the port reads zero and refuses a write with NOT_PERMITTED (0x0304), listed or not; a core-die register reads zero and refuses a write with STATE (0x0508) while the core die is unpowered, and a companion-die register does not. -/
def Obligations.UnlistedOffsetsReadZero : Prop :=
  (∀ (s : State) (p a : Nat), s.unbound p a = false → regAt a = none →
    s.reach p a = .error 0x0203 ∧ s.readAt p a = (0, s)) ∧
  (∀ (s : State) (p a i : Nat), pageSlot? a = some i → s.portOf i ≠ p →
    s.reach p a = .error 0x0304 ∧ s.readAt p a = (0, s)) ∧
  (∀ (s : State) (p a i : Nat) (x : RegPlace), s.unbound p a = false → regAt a = some (x, i) → s.power.core = false →
    (s.onCompanion (x, i) = false → s.reach p a = .error 0x0508 ∧ s.readAt p a = (0, s)) ∧
    (s.onCompanion (x, i) = true → s.reach p a = .ok (x, i)))

/-- For the claim register of slot i and a written value w (bits 3 to 0): a bit outside the slot's ROLES gives 0x0303; else PILOT held by another slot 0x0406; else SERVICE held by another slot 0x0407; and a claim so refused leaves every slot's roles as they were. Otherwise HOST_ROLE_CLAIM answers a next state in which the slot holds what it held and every role asked for, and every other slot what it held. -/
def Obligations.RoleClaimsAreAllOrNothing : Prop :=
  ∀ (a : RegAccess) (s u : State) (i : Nat) (x : RegPlace), Reaches a s u → a.narrow = false →
    u.reach a.origin.port a.addr = .ok (x, i) → x.reg = .hostRoleClaim → a.value &&& 0xFFFFFFF0 = 0 →
    u.host.slots.length = 8 →
    let m : BitVec 4 := a.value.setWidth 4
    let free (r : BitVec 4) : Prop := ∀ j, j < 8 → j ≠ i → (u.slot j).held &&& r = 0
    (m &&& ~~~(u.slot i).cfg.roles ≠ 0 → u.judgeWrite a.origin.port a = .error 0x0303) ∧
    (m &&& ~~~(u.slot i).cfg.roles = 0 → m &&& rolePilot ≠ 0 → ¬ free rolePilot →
      u.judgeWrite a.origin.port a = .error 0x0406) ∧
    (m &&& ~~~(u.slot i).cfg.roles = 0 → (m &&& rolePilot = 0 ∨ free rolePilot) → m &&& roleService ≠ 0 →
      ¬ free roleService → u.judgeWrite a.origin.port a = .error 0x0407) ∧
    (m &&& ~~~(u.slot i).cfg.roles = 0 → (m &&& rolePilot = 0 ∨ free rolePilot) →
      (m &&& roleService = 0 ∨ free roleService) →
      ∃ t, exec (.hostRoleClaim a) s = .next t ∧ (t.slot i).held = (u.slot i).held ||| m ∧
        (∀ j, j ≠ i → (t.slot j).held = (u.slot j).held)) ∧
    (∀ c, u.judgeWrite a.origin.port a = .error c →
      ∃ t, exec (.hostRoleClaim a) s = .next t ∧ ∀ j, (t.slot j).held = (u.slot j).held)

/-- An accepted write of HOST_ROLE_RELEASE answers a next state in which the slot holds what it held without the roles written, and every other slot what it held. If the slot gives up PILOT while its commit is pending, no commit is pending afterwards and COMMIT reads 4 (cancelled); in every other case the ephemeris part is as before. -/
def Obligations.ReleasedRolesAreGone : Prop :=
  ∀ (a : RegAccess) (s u : State) (i : Nat), Accepted a s u .hostRoleRelease i → i < 8 →
    u.host.slots.length = 8 →
    ∃ t, exec (.hostRoleRelease a) s = .next t ∧
      (t.slot i).held = (u.slot i).held &&& ~~~a.value.setWidth 4 ∧
      (∀ j, j ≠ i → (t.slot j).held = (u.slot j).held) ∧
      ((u.slot i).held &&& a.value.setWidth 4 &&& rolePilot ≠ 0 → u.eph.pendingSlot = some i →
        t.eph.pendingSlot = none ∧ t.eph.commit = .cancelled) ∧
      ((u.slot i).held &&& a.value.setWidth 4 &&& rolePilot = 0 ∨ u.eph.pendingSlot ≠ some i → t.eph = u.eph)

/-- An accepted write of HOST_QP_CTRL answers a next state in which the selected queue has the vector and weight written, and, where ENABLE changes, is at head and tail 0 with phase 1 and ERROR clear, running or stopped as written; every other queue is as before. An accepted write of HOST_DB_SQ_TAIL sets that queue's tail. An accepted write of HOST_DB_CQ_HEAD to a queue with no completion waiting sets its head. While QP names no queue of the slot, the queue registers read zero and refuse a write with 0x0506 (Q_COUNT 0) or 0x0208. A doorbell refuses an index beyond the ring (0x0209), and a disabled queue (0x0506). -/
def Obligations.QueuesStartAndStopWithEnable : Prop :=
  (∀ (a : RegAccess) (s u : State) (i : Nat), Accepted a s u .hostQpCtrl i → swf {} u.host.queues = true →
    ∃ t, exec (.qpEnable a) s = .next t ∧ (∀ k, k ≠ (u.slot i).qpSelect → t.queue k = u.queue k) ∧
      (let q := t.queue (u.slot i).qpSelect
       let was := u.queue (u.slot i).qpSelect
       q.vector = fieldOf a.value 21 16 ∧ q.weight = fieldOf a.value 11 8 ∧ q.enable = bitOf a.value 0 ∧
       (bitOf a.value 0 ≠ was.enable → q.sqHead = 0 ∧ q.sqTail = 0 ∧ q.cqHead = 0 ∧ q.cqWrite = 0 ∧ q.phase = true ∧
         q.error = false) ∧
       (bitOf a.value 0 = was.enable → q = { was with vector := q.vector, weight := q.weight }))) ∧
  (∀ (a : RegAccess) (s u : State) (q : Nat), Accepted a s u .hostDbSqTail q → swf {} u.host.queues = true →
    ∃ t, exec (.hostDbSqTail a) s = .next t ∧ t.queue q = { u.queue q with sqTail := fieldOf a.value 15 0 } ∧
      ∀ k, k ≠ q → t.queue k = u.queue k) ∧
  (∀ (a : RegAccess) (s u : State) (q : Nat), Accepted a s u .hostDbCqHead q → swf {} u.host.queues = true →
    (u.queue q).waiting = [] →
    ∃ t, exec (.hostDbCqHead a) s = .next t ∧ t.queue q = { u.queue q with cqHead := fieldOf a.value 15 0 } ∧
      ∀ k, k ≠ q → t.queue k = u.queue k) ∧
  (∀ (s : State) (i p : Nat) (w : W32) (r : Reg), (s.slot i).cfg.owns (s.slot i).qpSelect = false →
    r ∈ [Reg.hostQpCtrl, .hostQpSize, .hostQpSqBaseLo, .hostQpSqBaseHi, .hostQpCqBaseLo, .hostQpCqBaseHi] →
    s.regValue p i r = 0 ∧ s.regValue p i .hostQpStatus = 0 ∧
    s.regBad i w r = some (if (s.slot i).cfg.qCount = 0 then 0x0506 else 0x0208)) ∧
  (∀ (s : State) (q : Nat) (w : W32),
    s.regBad q w .hostDbSqTail = (if (s.queue q).sqM1 < fieldOf w 15 0 then some 0x0209
      else if (s.queue q).enable then none else some 0x0506) ∧
    s.regBad q w .hostDbCqHead = (if (s.queue q).cqM1 < fieldOf w 15 0 then some 0x0209
      else if (s.queue q).enable then none else some 0x0506))

/-- While the management plane answers frames: SESSION_OPEN of a slot bound to the management port with no session answers a next state in which the slot's session is the sender's, with its SEQ as the highest; from another sender it is refused with BUSY (0x0408), for a slot not so bound with NOT_PERMITTED (0x0304), and the refusal goes to the sender and to no slot. KEEPALIVE of the session is answered and keeps it. SESSION_CLOSE and SESSION_TIMEOUT end the session and release every role of the slot. JCS_FRAME_BAD counts a frame with a bad CRC and sends nothing, and answers one with a wrong MAGIC or VERSION with 0x0103, one with a reserved byte set with 0x0205, and one whose LENGTH does not fit with 0x0206. JCS_FRAME_REPLAY of a SEQ whose reply is held sends that reply again, drops one whose reply is not held, and runs nothing. -/
def Obligations.SessionsBindASlotToItsSender : Prop :=
  ∀ (h : FrameHdr) (s : State), s.answersFrames = true → s.host.slots.length = 8 →
    (s.mgmtSlot h.slot = true → (s.slot h.slot).session = none →
      ∃ t, exec (.sessionOpen h) s = .next t ∧ (t.slot h.slot).session.map (·.sender) = some h.sender ∧
        (t.slot h.slot).session.bind (·.highest) = some h.seq ∧ t.outbox.head? = some (.reply h (.code 0))) ∧
    (∀ ss, s.mgmtSlot h.slot = true → (s.slot h.slot).session = some ss → ss.sender ≠ h.sender →
      ∃ t, exec (.sessionOpen h) s = .next t ∧ t.outbox = .reply h (.code 0x0408) :: s.outbox ∧
        ∀ i, t.slot i = s.slot i) ∧
    (s.mgmtSlot h.slot = false →
      ∃ t, exec (.sessionOpen h) s = .next t ∧ t.outbox = .reply h (.code 0x0304) :: s.outbox ∧
        ∀ i, t.slot i = s.slot i) ∧
    ((s.takeFrame h).1 = true →
      (∃ t, exec (.keepalive h) s = .next t ∧ t.outbox.head? = some (.reply h (.code 0)) ∧
        (t.slot h.slot).session.isSome = true) ∧
      (∃ t, exec (.sessionClose h) s = .next t ∧ (t.slot h.slot).session = none ∧ (t.slot h.slot).held = 0)) ∧
    (s.mgmtSlot h.slot = true → (s.slot h.slot).session.isSome = true →
      ∃ t, exec (.sessionTimeout h.slot) s = .next t ∧ (t.slot h.slot).session = none ∧ (t.slot h.slot).held = 0) ∧
    (∀ (b : List Byte) (who : Sender),
      (frameCrcOk b = false → ∃ t, exec (.jcsFrameBad who b) s = .next t ∧ t.host.badFrames = s.host.badFrames + 1 ∧
        t.outbox = s.outbox ∧ SameBut [.host, .power] s t) ∧
      (∀ c, frameCrcOk b = true → frameBad b = some c → ∃ t, exec (.jcsFrameBad who b) s = .next t ∧
        t.outbox = .reply (frameHdr who b) (.code c) :: s.outbox ∧ ∀ i, t.slot i = s.slot i) ∧
      (slice b 0 4 ≠ [0x4A#8, 0x43#8, 0x53#8, 0x46#8] ∨ uAt b 4 1 ≠ 1 → frameBad b = some 0x0103) ∧
      (slice b 0 4 = [0x4A#8, 0x43#8, 0x53#8, 0x46#8] → uAt b 4 1 = 1 →
        (uAt b 7 1 ≠ 0 ∨ uAt b 0x0E 2 ≠ 0 → frameBad b = some 0x0205) ∧
        (uAt b 7 1 = 0 → uAt b 0x0E 2 = 0 → 1408 < uAt b 0x0C 2 ∨ uAt b 0x0C 2 + 20 ≠ b.length →
          frameBad b = some 0x0206))) ∧
    (∀ ss : Session, s.mgmtSlot h.slot = true → (s.slot h.slot).session = some ss → ss.sender = h.sender →
      (∃ hi, ss.highest = some hi ∧ ¬ 0 < seqDiff 32 h.seq.toNat hi.toNat) →
      (∀ b, (ss.replies.find? fun r => r.1 == h.seq) = some (h.seq, some b) →
        exec (.jcsFrameReplay h) s = .next (s.clockMgmt.send (.reply h b))) ∧
      (((ss.replies.find? fun r => r.1 == h.seq).bind (·.2)) = none →
        exec (.jcsFrameReplay h) s = .next s.clockMgmt))

/-- PCIE_LINK_DOWN, PERST_ASSERT and HOT_RESET answer a next state in which the link of that port is down and, where it was up, every slot bound to it holds no role; FUNCTION_LEVEL_RESET of a link that is up does the same and leaves the link up; the other PCIe port's slots keep their roles. PCIE_LINK_UP sets LINK_UP while the core die runs, no Umbra is under way and PERST# is released. D3HOT_ENTRY marks the endpoint. ARP_REQUEST and ICMP_ECHO_REQUEST for the device's address are answered to their sender. -/
def Obligations.PortsGoUpAndDown : Prop :=
  ∀ (b : Bool) (s : State), s.host.slots.length = 8 →
    (∀ c, c = Instr.pcieLinkDown b ∨ c = Instr.perstAssert b ∨ c = Instr.hotReset b → ∃ t, exec c s = .next t ∧
      (t.port (b1 b)).linkUp = false ∧
      ((s.port (b1 b)).linkUp = true → ∀ i, i < 8 → s.portOf i = b1 b → (t.slot i).held = 0) ∧
      (∀ i, i < 8 → s.portOf i ≠ b1 b → (t.slot i).held = (s.slot i).held)) ∧
    ((s.port (b1 b)).linkUp = true → ∃ t, exec (.functionLevelReset b) s = .next t ∧ (t.port (b1 b)).linkUp = true ∧
      (∀ i, i < 8 → s.portOf i = b1 b → (t.slot i).held = 0) ∧
      (∀ i, i < 8 → s.portOf i ≠ b1 b → (t.slot i).held = (s.slot i).held)) ∧
    (s.power.core = true → s.companionMode = false → nth false s.power.perst (b1 b) = false →
      ∃ t, exec (.pcieLinkUp b) s = .next t ∧ (t.port (b1 b)).linkUp = true ∧ SameBut [.host] s t) ∧
    ((s.port (b1 b)).linkUp = true →
      ∃ t, exec (.d3hotEntry b) s = .next t ∧ (t.port (b1 b)).d3hot = true ∧ SameBut [.host] s t) ∧
    (∀ (e : Sender) (mac : Nat) (d : List Byte), (s.planes.mgmt = .running ∨ s.planes.mgmt = .nadir) →
      (∃ t, exec (.arpRequest e mac s.boot.ipv4.toNat) s = .next t ∧
        t.outbox = .arp e.ip.toNat mac :: s.outbox ∧ SameBut [.outbox, .power] s t) ∧
      (∃ t, exec (.icmpEchoRequest e s.boot.ipv4.toNat d) s = .next t ∧
        t.outbox = .icmp e.ip.toNat d :: s.outbox ∧ SameBut [.outbox, .power] s t))

/-- For an entry that the dispatcher takes, from a queue with its buffer readable or from a frame of an open session: when a check of R117 fails, the command is rejected with that code and offset; while the companion die dispatches alone, with STATE 0x0508 unless it is an inline command that R104 lists; and when the slot's roles do not permit the action, with the code of R131 or R132, in this order: no role 0x0306; a command of 0x40 or more with none of its roles 0x0302; an AXIS or LOOP command without PILOT in a build 0x0403. Otherwise the command runs. UNKNOWN_COMMAND rejects an opcode of a defined group that no command has with 0x0102, and one of no group with 0x0101; a frame that names a buffer is rejected with 0x0104. A rejection writes the code and the queue number to ERR_LAST of the slot's port and advances the slot's reject counter before the command completes. A buffer that cannot be read gives 0x070A and stops the queue with ERROR. -/
def Obligations.DispatchedEntriesRunAndOthersAreJudged : Prop :=
  (∀ (e : Entry) (s t : State) (f : Flight) (body : Flight → State → State), Taken e s f t →
    let op := e.opcode.toNat
    let closed := t.companionMode = true ∧ ¬(e.inline = true ∧ companionOpcodes.contains op = true)
    (∀ b, e.bad = some b → s.submit e.opcode e body = t.reject f b) ∧
    (e.bad = none → closed → s.submit e.opcode e body = t.reject f { code := 0x0508 }) ∧
    (∀ c, e.bad = none → ¬ closed → t.roleBad f.slot op = some c →
      s.submit e.opcode e body = (t.noteRefused op).reject f { code := c }) ∧
    (e.bad = none → ¬ closed → t.roleBad f.slot op = none → s.submit e.opcode e body = body f t)) ∧
  (∀ (op : W16) (e : Entry) (s : State) (q i : Nat) (body : Flight → State → State),
    e.origin = .queue q → s.queueSlot? q = some i → s.mayTake i q e = true → e.dmaOk = false → op ≠ 0x0242 →
    swf {} s.host.queues = true →
    ((s.submit op e body).queue q).error = true) ∧
  (∀ (e : Entry) (s t : State) (f : Flight), Taken e s f t → knownOpcodes.contains e.opcode.toNat = false →
    exec (.unknownCommand e) s = .next (t.reject f
      { code := if e.opcode.toNat / 256 = 0 ∨ 0x0F < e.opcode.toNat / 256 then 0x0101 else 0x0102 })) ∧
  (∀ (e : Entry) (s : State) (h : FrameHdr), e.origin = .frame h → s.answersFrames = true → s.dispatches = true →
    s.sessionTurn h.slot = true → (s.takeCommand h).1 = true → e.bufAddr ≠ 0 →
    knownOpcodes.contains e.opcode.toNat = false →
    let r := (s.takeCommand h).2.newFlight h.slot e
    exec (.unknownCommand e) s = .next (r.2.reject r.1 { code := 0x0104 })) ∧
  (∀ (s : State) (i op : Nat),
    ((s.slot i).held = 0 → s.roleBad i op = some 0x0306) ∧
    ((s.slot i).held ≠ 0 → op % 256 < 0x40 → s.roleBad i op = none) ∧
    ((s.slot i).held ≠ 0 → 0x40 ≤ op % 256 → (s.slot i).held &&& actionRoles op = 0 → s.roleBad i op = some 0x0302) ∧
    (0x40 ≤ op % 256 → (s.slot i).held &&& actionRoles op ≠ 0 →
      s.roleBad i op = if (op / 256 = 5 ∨ op / 256 = 6) ∧ (s.slot i).held &&& rolePilot = 0 ∧ s.inBuild = true
        then some 0x0403 else none)) ∧
  (∀ (s : State) (f : Flight) (b : Bad), s.host.slots.length = 8 → f.slot < 8 → f.port < 3 →
    ∃ u, s.reject f b = u.finish f b.code 0 b.r1 false [] ∧ (u.port f.port).errCode = b.code ∧
      (u.port f.port).errSlot = f.slot ∧ (u.port f.port).errAddr = f.origin.sqId % 2 ^ 20 ∧
      (u.slot f.slot).reject = (s.slot f.slot).reject.inc ∧ SameBut [.host] s u)

/-- When a command of queue q finishes outside a Transit pause: while the ring has room and no completion waits, the entry posted carries the command's number, STATUS, results, the present sample, the ring's phase and the SQ head, the write index advances, the phase turns where the index wraps, and where FLAGS asked for it the vector's message goes out, unless its table entry masks it; while the ring is full or completions wait, it joins those that wait, and nothing is sent. A command whose port has gone down counts in LOST_CPL and posts nothing. In a Transit pause the post is held, with the results it had. -/
def Obligations.CompletionsArePostedInTheRing : Prop :=
  ∀ (s : State) (f : Flight) (q : Nat) (c : Code) (r0 r1 : W64) (late : Bool), f.origin = .queue q → f ∈ s.host.flights →
    (∀ g ∈ s.host.flights, g.id = f.id → g = f) → swf {} s.host.queues = true →
    (s.planes.ctl ≠ .pause → f.lost = false → (s.queue q).cqFull = false → (s.queue q).waiting = [] →
      ∃ u, s.finish f c r0 r1 late [] = u ∧ SameBut [.host, .outbox] s u ∧ f ∉ u.host.flights ∧
        (u.queue q).cqWrite = ((s.queue q).cqWrite + 1) % ((s.queue q).cqM1 + 1) ∧
        (u.queue q).phase = (if (u.queue q).cqWrite = 0 then !(s.queue q).phase else (s.queue q).phase) ∧
        u.outbox = (if f.irq then s.msixOut f.port (s.queue q).vector else []) ++
          [Out.completion q {
            r0 := r0, r1 := r1, sqHead := BitVec.ofNat 16 (s.queue q).sqHead, sqId := q, cmdId := f.cmdId,
            status := c, sample := s.sample, late := lateOf c late, phase := (s.queue q).phase }] ++
          s.outbox) ∧
    (s.planes.ctl ≠ .pause → f.lost = false → ((s.queue q).cqFull = true ∨ (s.queue q).waiting ≠ []) →
      let u := s.finish f c r0 r1 late []
      u.outbox = s.outbox ∧ (u.queue q).waiting.length = (s.queue q).waiting.length + 1 ∧
      (u.queue q).cqWrite = (s.queue q).cqWrite ∧ SameBut [.host] s u) ∧
    (s.planes.ctl ≠ .pause → f.lost = true → f.port < 3 →
      let u := s.finish f c r0 r1 late []
      u.outbox = s.outbox ∧ u.host.queues = s.host.queues ∧
      (u.port f.port).lostCpl = satAdd (s.port f.port).lostCpl 1) ∧
    (s.planes.ctl = .pause →
      s.finish f c r0 r1 late [] = { s with host := { s.host with held := s.host.held ++
        [.post { flight := f, status := c, r0 := r0, r1 := r1, sample := s.sample, late := lateOf c late, data := [] }] } })

/-- For dispatched entries whose parameters pass R76: EPH_INFO of a flash slot, the staging area or the ephemeris in force completes with the container's SEQUENCE, length, flags and, with room for them, its MACHINE_ID and digest (all zero where no valid header stands there). EPH_STORE leaves LENGTH bytes of its data at OFFSET of the slot, erases the rest of the slot when OFFSET is 0, leaves every other byte of flash, and completes with OFFSET + LENGTH when FLASH_WRITE_DONE ends the oldest flash write. EPH_SET_BOOT selects the boot slot (0xFF: none) and writes it to the boot header. -/
def Obligations.EphemerisStorageIsWrittenInFlash : Prop :=
  ∀ (e : Entry) (s t : State) (f : Flight),
    (Dispatched 0x0100 e s f t → (e.zeroFrom 0x19 39).1 = false →
      (e.u 0x18 1 < 4 ∨ e.u 0x18 1 = 0x10 ∨ e.u 0x18 1 = 0x11) → (e.bufLen = 0 ∨ e.bufLen = 64) →
      (e.u 0x18 1 = 0x10 → t.eph.stagingBad = false) →
      ∃ b, ((e.u 0x18 1 < 4 → b = t.slotContainer (e.u 0x18 1)) ∧ (e.u 0x18 1 = 0x10 → b = t.eph.staging) ∧
          (e.u 0x18 1 = 0x11 → b = t.eph.container)) ∧
        exec (.ephInfo e) s = .next (t.ok f (ephInfoOf b).1 (ephInfoOf b).2.1
          (if e.bufLen = 64 ∨ e.inline then (ephInfoOf b).2.2 else [])) ∧
        (headerHolds b = true → (ephInfoOf b).1 % 2 ^ 32 = uAt b 0x0C 4) ∧
        (headerHolds b = false → ephInfoOf b = (0, 0, List.replicate 64 0))) ∧
    (∀ i o n, i = e.u 0x18 1 → o = e.u 0x1C 4 → n = e.u 0x20 4 → Dispatched 0x0140 e s f t →
      (e.zeroFrom 0x19 3).1 = false → (e.zeroFrom 0x24 28).1 = false → i < 4 → o % 8 = 0 → n % 8 = 0 → 8 ≤ n →
      n ≤ (if e.inline then 1344 else 65536) → o + n ≤ ephSlotBytes → e.dataLen = n → t.power.nvOpen = true →
      (∀ c ∈ t.eph.copying, c.2 ≠ some i) → swf flashErased t.flash = true →
      ∃ u, exec (.ephStore e) s = .next u ∧
        (∀ k, k < n → sget flashErased u.flash (ephOfs i + o + k) = e.data.getD k 0) ∧
        (o = 0 → ∀ k, n ≤ k → k < ephSlotBytes → sget flashErased u.flash (ephOfs i + k) = 0xFF) ∧
        (∀ a, a < ephOfs i + o ∨ ephOfs i + o + n ≤ a → (o ≠ 0 ∨ a < ephOfs i ∨ ephOfs i + ephSlotBytes ≤ a) →
          sget flashErased u.flash a = sget flashErased t.flash a) ∧
        u.boot.flashJobs = t.boot.flashJobs ++ [{ flight := f.id, r0 := o + n }] ∧
        SameBut [.flash, .boot, .host] t u) ∧
    (∀ i, i = e.u 0x18 1 → Dispatched 0x0141 e s f t → (e.zeroFrom 0x19 39).1 = false → (i < 4 ∨ i = 0xFF) →
      t.power.nvOpen = true →
      ∃ u, exec (.ephSetBoot e) s = .next u ∧ u.eph.bootNone = decide (i = 0xFF) ∧
        (i < 4 → u.eph.bootSlot = BitVec.ofNat 2 i) ∧
        u.flash = (t.writeHeader fun h =>
          { h with ephBoot := if i = 0xFF then none else some (BitVec.ofNat 2 i) }).flash ∧
        u.boot.flashJobs = t.boot.flashJobs ++ [{ flight := f.id, r0 := 0 }] ∧
        SameBut [.flash, .boot, .host, .eph] t u) ∧
    (∀ (j : FlashJob) (r : List FlashJob), s.boot.flashJobs = j :: r →
      exec .flashWriteDone s = .next (({ s with boot := { s.boot with flashJobs := r } } : State).finishId j.flight 0
        (BitVec.ofNat 64 j.r0) 0 false []))

/-- While no EPH_COMMIT validates: EPH_STAGE of a flash slot or a host buffer starts a copy of LENGTH bytes and EPH_STAGE_LOADED ends the oldest, STAGE reading LOADED when it was the last; an inline chunk lands after the bytes staged and completes at once. While one validates, they wait in order. EPH_VALIDATE starts a validation of the staged container and EPH_VALIDATE_DONE ends it: VALID with the command OK, or REJECTED with BOOT_EPH_REJECT and the command rejected. EPH_COMMIT of a container that has not been validated starts its validation, which EPH_COMMIT_VALIDATED ends; of a valid one it adopts at once while DATA_STATE is 1, completing with the adoption sample (or with FAULT when the adoption fails), and otherwise leaves the commit pending for the committing slot and completes DEFERRED with the layer of R118. EPH_CANCEL withdraws a pending commit: COMMIT reads 4. -/
def Obligations.ContainersAreStagedValidatedAndCommitted : Prop :=
  ∀ (e : Entry) (s t : State) (f : Flight), t.eph.committing = none →
    (∀ n i, n = e.u 0x1C 4 → i = e.u 0x18 1 → Dispatched 0x0142 e s f t → (e.zeroFrom 0x19 3).1 = false →
      (e.zeroFrom 0x20 32).1 = false → 64 ≤ n → n ≤ ephSlotBytes → t.eph.pendingSlot = none →
      (i < 4 ∧ e.bufLen = 0 ∨ i = 0x10 ∧ e.inline = false ∧ e.bufLen.toNat = n) →
      ∃ u, exec (.ephStage e) s = .next u ∧
        u.eph.staging = (if i < 4 then t.flashRead (ephOfs i) n else slice e.data 0 n) ∧
        u.eph.stage = .loading ∧ u.eph.validated = none ∧ u.host.flights = (t.launch f).host.flights ∧
        u.eph.copying = t.eph.copying ++ [({ flight := f.id, slot := f.slot }, if i < 4 then some i else none)] ∧
        SameBut [.eph, .host] t u) ∧
    (∀ n o, n = e.u 0x1C 4 → o = e.u 0x20 4 → Dispatched 0x0142 e s f t → e.u 0x18 1 = 0x11 → e.inline = true →
      (e.zeroFrom 0x19 3).1 = false → (e.zeroFrom 0x24 28).1 = false → 64 ≤ n → n ≤ ephSlotBytes →
      t.eph.pendingSlot = none → (o ≠ 0 → t.eph.stage = .loading ∧ t.eph.stageLen = n ∧ t.eph.staging.length = o) →
      o + e.data.length ≤ n →
      ∃ u, exec (.ephStage e) s = .next (u.ok f (o + e.data.length) 0 []) ∧ SameBut [.eph] t u ∧
        u.eph = { t.eph with
          staging := if o = 0 then e.data else t.eph.staging ++ e.data, stageLen := n, validated := none
          stage := if o + e.data.length = n then .loaded else .loading
          stagingBad := t.eph.stagingBad && decide (o ≠ 0) }) ∧
    (∀ c r, t.eph.copying = c :: r → t.eph.stage = .loading → t.flight? c.1.flight = some f →
      exec .ephStageLoaded t = .next (({ t with eph := { t.eph with
        copying := r
        stage := if r = [] ∧ t.eph.staging.length = t.eph.stageLen then .loaded else .loading } } : State).finish f
        0 0 0 false [])) ∧
    (Dispatched 0x0143 e s f t → (e.zeroFrom 0x18 40).1 = false → t.eph.stage ≠ .empty → t.eph.stage ≠ .loading →
      ∃ u, exec (.ephValidate e) s = .next u ∧ u.eph.stage = .validating ∧ u.eph.staging = t.eph.staging ∧
        u.eph.validating = t.eph.validating ++ [{ flight := f.id, slot := f.slot }] ∧
        u.host.flights = (t.launch f).host.flights ∧ SameBut [.eph, .host] t u) ∧
    (∀ (j : EphJob) (r : List EphJob) (x : Eph), t.eph.validating = j :: r → t.eph.stage = .validating →
      t.eph.stagingBad = false → t.validateStaged = .ok x → t.flight? j.flight = some f →
      exec .ephValidateDone t = .next (({ t with eph := { t.eph with validating := r, stage := .valid, validated := some x } } :
        State).finish f 0 0 0 false [])) ∧
    (∀ (j : EphJob) (r : List EphJob) (x : EphFail), t.eph.validating = j :: r → t.eph.stage = .validating →
      t.eph.stagingBad = false → t.validateStaged = .error x → t.flight? j.flight = some f →
      exec .ephValidateDone t = .next (({ t with eph := { t.eph with
        validating := r, stage := .rejected, validated := none, rejCode := x.code, rejSect := BitVec.ofNat 16 x.sect
        rejOfs := BitVec.ofNat 32 x.ofs } } : State).reject f
          { code := x.code, ofs := x.ofs, obj := x.sect })) ∧
    (Dispatched 0x0144 e s f t → (e.zeroFrom 0x18 40).1 = false → t.eph.pendingSlot = none →
      (t.eph.stage = .loaded ∨ t.eph.stage = .rejected ∨ t.eph.stage = .validating) →
      ∃ u, exec (.ephCommit e) s = .next u ∧ u.eph.committing = some { flight := f.id, slot := f.slot } ∧
        u.eph.stage = .validating ∧ u.host.flights = (t.launch f).host.flights ∧ SameBut [.eph, .host] t u) ∧
    (∀ x v, v = t.launch f → Dispatched 0x0144 e s f t → (e.zeroFrom 0x18 40).1 = false → t.eph.pendingSlot = none →
      t.eph.stage = .valid → t.eph.validated = some x → (v.slot f.slot).held &&& rolePilot ≠ 0 →
      v.stage10 x t.eph.staging = none →
      (t.planes.data ≠ .idle →
        exec (.ephCommit e) s = .next (({ v with eph := { t.eph with
          commit := .pending, pendingSlot := some f.slot, atEnd := t.finalNow } } : State).finish f
            0x0A00 (t.firstLayer 4) 0 false [])) ∧
      (t.planes.data = .idle → v.adoptBroken = false →
        exec (.ephCommit e) s = .next ((v.adopt .commit x t.eph.staging).ok f
          (v.adopt .commit x t.eph.staging).eph.adoptIx.toNat 0 [])) ∧
      (t.planes.data = .idle → v.adoptBroken = true →
        exec (.ephCommit e) s = .next ((v.adoptFails x adoptFault).finish f 0x0B01 0 0 true []))) ∧
    (∀ i, Dispatched 0x0145 e s f t → (e.zeroFrom 0x18 40).1 = false → t.eph.pendingSlot = some i →
      exec (.ephCancel e) s = .next ((t.cancelCommit 0).ok f 0 0 []) ∧ (t.cancelCommit 0).eph.commit = .cancelled ∧
      (t.cancelCommit 0).eph.pendingSlot = none) ∧
    (∀ (j : EphJob) (x : Eph) (v : State),
      v = { s with eph := { s.eph with committing := none, stage := .valid, validated := some x } } →
      s.eph.committing = some j → s.eph.stagingBad = false →
      ({ s with eph := { s.eph with committing := none } } : State).validateStaged = .ok x →
      s.flight? j.flight = some f → (s.slot f.slot).held &&& rolePilot ≠ 0 → v.stage10 x s.eph.staging = none →
      (s.planes.data ≠ .idle →
        ∃ u, u = ({ v with eph := { v.eph with
            commit := .pending, pendingSlot := some f.slot, atEnd := s.finalNow } } : State).finish f 0x0A00
              (s.firstLayer 4) 0 false [] ∧
          exec .ephCommitValidated s = .next (u.ephResume u.host.ephWaits)) ∧
      (s.planes.data = .idle → v.adoptBroken = false →
        ∃ u, u = (v.adopt .commit x s.eph.staging).ok f (v.adopt .commit x s.eph.staging).eph.adoptIx.toNat 0 [] ∧
          exec .ephCommitValidated s = .next (u.ephResume u.host.ephWaits))) ∧
    (∀ j c op, s.eph.committing = some j →
      (op = 0x0142 ∧ c = Instr.ephStage e ∨ op = 0x0143 ∧ c = Instr.ephValidate e ∨ op = 0x0144 ∧ c = Instr.ephCommit e ∨
        op = 0x0145 ∧ c = Instr.ephCancel e) →
      ∀ g v, Dispatched op e s g v →
        exec c s = .next { v.launch g with host := { (v.launch g).host with
          ephWaits := (v.launch g).host.ephWaits ++ [(g, e)] } })

/-- A dispatched EPH_ROUTE_SET of a declared route with valid parameters completes with the switch sample S, one to four samples on (the spec leaves which: a free value), and leaves one switch waiting. ROUTE_SWITCH at S gives that route, and no other, the new values and takes the switch away. Before the tick that begins S it changes nothing. A route takes its source field in the width of R93, multiplies it by SCALE, adds OFFSET and saturates at 32 bits. -/
def Obligations.RoutesChangeAtTheirSwitchSample : Prop :=
  (∀ (e : Entry) (s t : State) (f : Flight), Dispatched 0x0146 e s f t → e.u 0x1A 1 ≤ 1 → (e.zeroFrom 0x1B 1).1 = false →
    (e.zeroFrom 0x24 28).1 = false → e.u 0x18 2 < t.routes.length → e.u 0x18 2 ≤ 511 →
    ∃ at_ u, t.ix < at_ ∧ at_ ≤ t.ix + 4 ∧ exec (.ephRouteSet e) s = .next (u.ok f at_ 0 []) ∧
      u.eph = { t.eph with switches := t.eph.switches ++ [{
        route := e.u 0x18 2, at_ := at_, scale := e.s 0x1C 4, offset := e.s 0x20 4, holdLast := (e.u 0x1A 1).testBit 0 }] } ∧ SameBut [.eph, .freeCtr] t u) ∧
  (∀ (s : State) (n : Nat) (w : RouteSwitch),
    (s.eph.switches.find? fun w => w.route == n && decide (w.at_ ≤ s.ix + 1)) = some w →
    ∃ t, exec (.routeSwitch n) s = .next t ∧ t.eph.switches = s.eph.switches.erase w ∧ SameBut [.eph] s t ∧
      (∀ r, s.routes[n]? = some r →
        t.routes[n]? = some { r with scale := w.scale, offset := w.offset, holdLast := w.holdLast }) ∧
      (∀ m, m ≠ n → t.routes[m]? = s.routes[m]?)) ∧
  (∀ (s : State) (n : Nat), (∀ w ∈ s.eph.switches, w.route = n → s.ix + 1 < w.at_) →
    exec (.routeSwitch n) s = .next s) ∧
  (∀ (r : EphRoute) (x : Int), r.eval x = sat32 (r.take x * r.scale + r.offset))

/-- A dispatched PARAM_ATLAS_READ of entries 0 to 16,383 whose count and buffer fit completes with 64 bytes for each. A write whose entries R155 and R158 accept changes no entry yet: it waits for a switch sample after the present one, not before that of an earlier write, and within the next 256 samples while the earlier ones are (which one, the spec leaves open: a free value). ATLAS_SWITCH at that sample puts all its entries into the atlas at once, and the command completes with it. Before the switch sample it changes no entry. -/
def Obligations.AtlasWritesSwitchAsOne : Prop :=
  ∀ (e : Entry) (s t : State) (f : Flight) (first n : Nat), first = e.u 0x18 2 → n = e.u 0x1A 2 →
    (Dispatched 0x0300 e s f t → 1 ≤ n → n ≤ (if e.inline then 21 else 1024) → first + n ≤ 16384 →
      (e.zeroFrom 0x1C 36).1 = false → e.dataLen = (if e.inline then 0 else 64 * n) →
      exec (.paramAtlasRead e) s =
        .next (t.ok f 0 0 ((List.range n).flatMap fun k => (t.atlasNow (first + k)).bytes))) ∧
    (Dispatched 0x0340 e s f t → 1 ≤ n → n ≤ (if e.inline then 21 else 1024) → first + n ≤ 16384 →
      (e.zeroFrom 0x1C 36).1 = false → e.dataLen = 64 * n →
      t.atlasRefused first ((List.range n).map fun k => slice e.data (64 * k) 64) = none →
      ∃ u at_, exec (.paramAtlasWrite e) s = .next u ∧ u.job.atlas = t.job.atlas ∧ t.ix < at_ ∧
        (∀ w ∈ t.job.atlasSwitches, w.at_ ≤ at_) ∧
        ((∀ w ∈ t.job.atlasSwitches, w.at_ ≤ t.ix + 256) → at_ ≤ t.ix + 256) ∧
        u.job.atlasSwitches = t.job.atlasSwitches ++ [{
          at_ := at_, flight := f.id, entries := ((List.range n).map fun k =>
            (first + k, AtlasEntry.ofBytes (slice e.data (64 * k) 64))) }] ∧
        SameBut [.job, .engines, .host, .freeCtr] t u) ∧
    (∀ w r, s.job.atlasSwitches = w :: r → w.at_ ≤ s.ix → (∀ x ∈ r, s.ix < x.at_) → s.flight? w.flight = some f →
      exec .atlasSwitch s = .next (({ s with job := { s.job with
        atlas := atlasPut w.entries s.job.atlas, atlasSwitches := r } } : State).finish f 0
          (BitVec.ofNat 64 w.at_) 0 false [])) ∧
    ((∀ w ∈ s.job.atlasSwitches, s.ix < w.at_) → exec .atlasSwitch s = .next s)

/-- For dispatched entries whose parameters pass their rules: JOB_STATUS reports the depth and next VSEQ of a pool (0 for POOL 0xFFFF) and the layer that runs, is being prepared or is waited for. JOB_LAYER_OPEN of the layer after the last one opened, in a build, completes and adds it, and begins its sequence where the build waits for it; with FIRST in DATA_STATE 1 it completes and starts a build with that layer, at once when no memory test runs and channels 0-1 are at RATE, and otherwise waits for both. JOB_LAYER_CLOSE marks the layer closed. JOB_ABORT completes and brings every channel into Eclipse with the host-command cause and code 0x0B02. LAYER_END of a layer that is over posts LAYER_DONE with the first non-OK code of its descriptors, removes it and starts the next sequence, or waits for the next JOB_LAYER_OPEN; of a FINAL layer it ends the build. -/
def Obligations.LayersOpenCloseAndEnd : Prop :=
  ∀ (e : Entry) (s t : State) (f : Flight) (num : W32) (fl : Nat), num = BitVec.ofNat 32 (e.u 0x18 4) → fl = e.u 0x1C 2 →
    (Dispatched 0x0200 e s f t → (e.zeroFrom 0x1A 38).1 = false →
      (∀ p, (e.u 0x18 2 < 32 ∨ 0x100 ≤ e.u 0x18 2 ∧ e.u 0x18 2 < 0x200) → t.pool? (e.u 0x18 2) = some p →
        exec (.jobStatus e) s = .next (t.ok f (p.queue.length + p.vseq.toNat * 2 ^ 32) t.layerWord [])) ∧
      (e.u 0x18 2 = 0xFFFF → exec (.jobStatus e) s = .next (t.ok f 0 t.layerWord []))) ∧
    (∀ l, t.job.running = some l ∨
        t.job.running = none ∧ t.job.syzygy = .waitOpen ∧ t.job.lastOpened.map (· + 1) = some l ∨
        t.job.running = none ∧ t.job.syzygy ≠ .waitOpen ∧ t.job.layers.head?.map (·.num) = some l →
      t.layerWord % 2 ^ 32 = l.toNat) ∧
    (Dispatched 0x0240 e s f t → t.eph.eph.isSome = true → fl < 16 → (e.zeroFrom 0x1E 2).1 = false →
      (e.zeroFrom 0x24 28).1 = false → e.u 0x20 4 ≤ 1000000 →
      let l : Layer := { num := num, first := fl.testBit 0, final := fl.testBit 1, recoat := fl.testBit 2
                         image := fl.testBit 3, drop := e.u 0x20 4 }
      (fl.testBit 0 = false → t.planes.data ≠ .idle → t.job.ending = false → t.job.finalOpened = false →
        t.job.layers.length < 2 → t.job.lastOpened.map (· + 1) = some num →
        exec (.jobLayerOpen e) s = .next ((t.launch f).openLayer f.id l) ∧
        (t.job.syzygy ≠ .waitOpen →
          ∃ u, exec (.jobLayerOpen e) s = .next u ∧ u.planes = t.planes ∧
            u.job = { t.job with layers := t.job.layers ++ [l], lastOpened := some num, finalOpened := fl.testBit 1 }) ∧
        (t.job.syzygy = .waitOpen → t.recoats l = true →
          ∃ u, exec (.jobLayerOpen e) s = .next u ∧ u.planes.data = .syzygy ∧ u.job.syzygy = .recoat ∧
            u.job.layers = t.job.layers ++ [l] ∧ u.job.lastOpened = some num)) ∧
      (fl.testBit 0 = true → t.planes.data = .idle → t.job.waitingOpen = none →
        ∀ v, v = { t.launch f with job := { t.job with waitingOpen := some (f.id, l) } } →
        (t.mem.tests ≠ [] → exec (.jobLayerOpen e) s = .next v) ∧
        (t.mem.tests = [] → t.mem.fsp ≠ .atRate → exec (.jobLayerOpen e) s = .next v.fspUp) ∧
        (t.mem.tests = [] → t.mem.fsp = .atRate →
          exec (.jobLayerOpen e) s = .next (({ v with job := { v.job with waitingOpen := none } } : State).openLayer f.id l) ∧
          (t.recoats l = true →
            ∃ u, exec (.jobLayerOpen e) s = .next u ∧ u.planes.data = .syzygy ∧ u.job.building = true ∧
              u.job.layers = t.job.layers ++ [l] ∧ u.job.lastOpened = some num)))) ∧
    (Dispatched 0x0241 e s f t → t.eph.eph.isSome = true → (e.zeroFrom 0x1C 36).1 = false →
      (∃ x ∈ t.job.layers, x.num = num ∧ x.closed = false) →
      ∃ u : State, exec (.jobLayerClose e) s = .next (u.ok f 0 0 []) ∧ SameBut [.job] t u ∧
        (∀ x ∈ u.job.layers, x.num = num → x.closed = true) ∧
        u.job.layers.map (·.num) = t.job.layers.map (·.num)) ∧
    (Dispatched 0x0243 e s f t → t.eph.eph.isSome = true → (e.zeroFrom 0x18 40).1 = false →
      exec (.jobAbort e) s = .next ((t.ok f 0 0 []).trigger allCh 1 0x0B02)) ∧
    (∀ l, s.job.running = some l → s.layerOver l = true → s.job.ending = false →
      ∃ u : State, SameBut [.host, .outbox, .tail, .planes, .job, .mem] s u ∧ u.planes.data = .syzygy ∧
        u.job = { s.job with
          running := none, layers := s.job.layers.filter fun x => x.num != l
          layerStatus := s.job.layerStatus.filter fun x => x.1 != l } ∧
        ((∃ x ∈ s.job.layers, x.num = l ∧ x.final = true) → exec .layerEnd s = .next u.buildOver) ∧
        ((∀ x ∈ s.job.layers, x.num = l → x.final = false) →
          (∀ n, u.job.layers.head? = some n → exec .layerEnd s = .next (u.enterRecoat s.ix n)) ∧
          (u.job.layers = [] → exec .layerEnd s = .next { u with job := { u.job with syzygy := .waitOpen } })))

/-- A dispatched JOB_SUBMIT that passes checks 1 to 13 of R148, whose CRC matches, whose words the scan accepts and whose vector count is right, is queued: the pool's next DSEQ advances by one and the command is under way. One whose CRC does not match is rejected with 0x0706 at 0x28, one whose words break a rule with 0x0204 at the offset of that word, and one with another number of vectors with 0x0204 at 0x2C. BLOCK_STAGED stages the next block of an exclusive pool that its buffer has room for, or the window of an engine for an overlap pool; with an uncorrectable error in the block, the words at or after the error do not start. TILE_RESIDENT puts a requested tile into its engine's cache; an uncorrectable line in it unloads the grid. -/
def Obligations.BlocksAreCheckedQueuedAndStaged : Prop :=
  (∀ (e : Entry) (s t : State) (f : Flight) (num units : Nat) (l dseq : W32) (p : Pool),
    num = e.u 0x1C 2 → units = e.u 0x24 4 → l = BitVec.ofNat 32 (e.u 0x18 4) → dseq = BitVec.ofNat 32 (e.u 0x20 4) →
    Dispatched 0x0242 e s f t → t.eph.eph.isSome = true → t.inBuild = true → (e.zeroFrom 0x1E 2).1 = false →
    (e.zeroFrom 0x30 16).1 = false → (num < 32 ∨ 0x100 ≤ num ∧ num < 0x200) → t.pool? num = some p →
    (num < 32 → t.gridOk num = true) → (∃ x ∈ t.job.layers, x.num = l ∧ x.closed = false) →
    (num < 32 → t.job.running = some l → t.eclipsed num = false) → 1 ≤ units → units ≤ 4096 → t.job.ending = false →
    e.dataLen = 16 * units → (e.inline = true → units ≤ 84) → dseq = p.expect → p.queue.length < 64 → e.dmaOk = true →
    let data := e.data.take (16 * units)
    let seed := checkSeed 0 0xFFFFFFFF (BitVec.ofNat 64 (l.toNat * 2 ^ 32 + num)) dseq
    let crc := (checkReg 0 seed data).setWidth 32 ^^^ 0xFFFFFFFF
    let v := t.checkUsed e.dataLen
    let scan := (t.blockEnv num f.id).scan (units + 1) units 0 data (p.blockScan l)
    (crc.toNat ≠ e.u 0x28 4 → exec (.jobSubmit e) s = .next (v.reject f { code := 0x0706, ofs := 0x28 })) ∧
    (∀ o, crc.toNat = e.u 0x28 4 → scan = .error o →
      exec (.jobSubmit e) s = .next (v.reject f { code := 0x0204, ofs := o })) ∧
    (∀ c, crc.toNat = e.u 0x28 4 → scan = .ok c → c.vectors ≠ e.u 0x2C 4 →
      exec (.jobSubmit e) s = .next (v.reject f { code := 0x0204, ofs := 0x2C })) ∧
    (∀ c, crc.toNat = e.u 0x28 4 → scan = .ok c → c.vectors = e.u 0x2C 4 →
      ∃ u, exec (.jobSubmit e) s = .next u ∧ u = v.queueBlock f num l dseq c ∧
        (∃ q, u.pool? num = some q ∧ q.expect = p.expect + 1 ∧ q.endPt = c.pos))) ∧
  (∀ (s : State) (n : Nat) (d : Desc) (p : Pool), n < 32 → s.pool? n = some p → s.stageNext? n p = some d →
    s.declared n = true →
    (∃ t q, exec (.blockStaged n n d.dseq none) s = .next t ∧ SameBut [.job] s t ∧ t.pool? n = some q ∧
      (∀ x ∈ q.queue, x.flight = d.flight → x.staged = true) ∧ q.queue.length = p.queue.length) ∧
    (∀ u : StageUe, ∃ t q, exec (.blockStaged n n d.dseq (some u)) s = .next t ∧ SameBut [.job, .mem, .tail] s t ∧
      t.pool? n = some q ∧ t.mem.dramUe = s.mem.dramUe.inc ∧
      ∀ x ∈ q.queue, x.flight = d.flight → x.staged = true ∧
        ∀ i ∈ x.items, u.unit < i.ofs / 16 + i.word.units → i.bad = true)) ∧
  (∀ (s : State) (n z : Nat) (dseq : W32) (p : Pool), s.pool? (0x100 + z) = some p → (∃ d ∈ p.queue, d.dseq = dseq) →
    s.declared n = true → (s.zoneMask z).testBit n = true →
    ∃ t q, exec (.blockStaged n (0x100 + z) dseq none) s = .next t ∧ SameBut [.job] s t ∧
      t.pool? (0x100 + z) = some q ∧ (n, min 256 p.unitsLeft) ∈ q.windows ∧ q.queue = p.queue) ∧
  (∀ (s : State) (n i j : Nat), n < 32 → s.declared n = true → (i, j) ∈ (s.engine n).requested →
    ∃ t, exec (.tileResident n i j none) s = .next t ∧ (i, j) ∈ (t.engine n).tiles ∧ SameBut [.engines] s t ∧
      ∀ m, m ≠ n → t.engine m = s.engine m) ∧
  (∀ (s : State) (n i j : Nat) (l : LineUe), s.declared n = true → (i, j) ∈ (s.engine n).requested →
    ∃ t, exec (.tileResident n i j (some l)) s = .next t ∧ t.gridOk n = false ∧ t.mem.ueAddr = BitVec.ofNat 32 l.addr ∧
      t.mem.dramUe = s.mem.dramUe.inc)

/-- VECTOR_START lets a starved engine whose tiles are resident start its stroke. WAIT_END ends a WAIT word whose sample is the next one, and SYNC_RELEASE a SYNC word that every engine of its MASK lets pass: the word leaves the plan, the words behind it stay, and the engine's highest TAG is the word's. ENGINE_PARKED marks an Eclipsed engine whose command rests at its park point. HOLD_ESCALATION escalates an engine held for 40,000 samples and counts it; TAKE_ESCALATION a take that has stood that long at the head of its pool. Nothing else changes but what these name. -/
def Obligations.EnginesWaitStartAndEscalate : Prop :=
  ∀ (s : State) (n : Nat), n < 32 →
    (s.mayRun n = true → (s.engine n).wait = .starved → (s.engine n).cur = none → s.tilesReady n (s.ix + 1) = true →
      ∃ t, exec (.vectorStart n) s = .next t ∧ t.engine n = { s.engine n with wait := .none } ∧
        (∀ m, m ≠ n → t.engine m = s.engine m) ∧ SameBut [.engines] s t) ∧
    (∀ (u : Nat) (it : Item) (r : List Item), (s.engine n).wait = .wait u → u ≤ s.ix + 1 →
      (s.engine n).queue = it :: r →
      ∃ t, exec (.waitEnd n) s = .next t ∧ (t.engine n).wait = .none ∧ (t.engine n).queue = r ∧
        (∀ m, m ≠ n → t.engine m = s.engine m) ∧ SameBut [.engines, .job, .host, .outbox] s t) ∧
    (∀ (m tag : W32) (it : Item) (r : List Item), (s.engine n).wait = .sync m tag → s.syncFree m tag = true →
      (s.engine n).queue = it :: r → it.word.ty = .sync →
      ∃ t, exec (.syncRelease n) s = .next t ∧ (t.engine n).wait = .none ∧ r <+: (t.engine n).queue ∧
        (t.engine n).syncTag = some it.word.w2 ∧ SameBut [.engines, .job, .host, .outbox] s t) ∧
    (s.declared n = true → s.eclipsed n = true → (s.engine n).cur = none → (s.engine n).parked = false →
      exec (.engineParked n) s = .next ((s.modEngine n fun e => { e with parked := true }).endIfParked) ∧
      (s.job.ending = false → ∃ t, exec (.engineParked n) s = .next t ∧ (t.engine n).parked = true ∧
        SameBut [.engines] s t)) ∧
    (∀ h, (s.engine n).held = some h → h.start + 40000 ≤ s.ix + 1 → (s.engine n).escalated = false →
      ∃ t, exec (.holdEscalation n) s = .next t ∧ t.engine n = { s.engine n with escalated := true } ∧
        (∀ m, m ≠ n → t.engine m = s.engine m) ∧ t.arb = { s.arb with escalate := s.arb.escalate.inc } ∧
        SameBut [.engines, .arb] s t) ∧
    (∀ z p, s.pool? (overlapPool z) = some p → 40000 ≤ p.headAge + 1 →
      ∃ t, exec (.takeEscalation z) s = .next t ∧ t.pool? (overlapPool z) = some { p with escalated := true } ∧
        SameBut [.job] s t)

/-- RECOAT_DWELL_END ends the dwell and lets the sequence go on. SYZYGY_TRIGGER in the image step, or TRIG_DLY before the exposure start once that is known, triggers a sensor that is left, or skips it while its frame is outstanding, and takes it off the list. TRANSITION_STEP_END, 2,000 samples after step 3 began, enters the commits. COMMON_START on its multiple of 80, with the first blocks staged, starts the layer: DATA_STATE 2, the layer running, rank 0 at engine L mod 32. DIAG_MEM_TEST_DONE ends the oldest memory test, with OK or with 0x0B0A and the place of the defect; when it was the last, a layer that waits opens where channels 0-1 are at RATE. -/
def Obligations.SyzygyStepsFollowEachOther : Prop :=
  ∀ s : State,
    (s.recoat.state = .dwell → s.recoat.dwellEnd ≤ s.ix →
      exec .recoatDwellEnd s =
        .next (({ s with recoat := { s.recoat with state := .idle } } : State).syzygyGo s.ix)) ∧
    (s.recoat.state = .dwell → s.recoat.dwellEnd ≤ s.ix → s.job.syzygy ≠ .recoat → s.job.syzygy ≠ .image →
      s.job.syzygy ≠ .commits →
      exec .recoatDwellEnd s = .next { s with recoat := { s.recoat with state := .idle } }) ∧
    (s.recoat.state = .dwell → s.recoat.dwellEnd ≤ s.ix → s.job.syzygy = .recoat → s.recoat.running = [] →
      exec .recoatDwellEnd s =
        .next (({ s with recoat := { s.recoat with state := .idle } } : State).enterImage s.ix)) ∧
    (∀ i, i ∈ s.job.imageLeft → s.time.preEpoch = false →
      (s.job.syzygy = .image ∨ s.job.syzygy = .recoat ∧
        ∃ e, s.exposureStart? = some e ∧ e ≤ s.ix + 4 * fieldOf (s.sensor i).trig 15 0) →
      ∃ u : State, exec (.syzygyTrigger i) s = .next (u.syzygyGo s.ix) ∧
        u.job.imageLeft = s.job.imageLeft.filter (· ≠ i) ∧
        u.job.imageOpen.map (·.1) = s.job.imageOpen.map (·.1) ++ (if (s.sensor i).cur.isNone then [i] else [])) ∧
    (s.job.syzygy = .transition → s.job.stepEnd ≤ s.ix → exec .transitionStepEnd s = .next (s.enterCommits s.ix)) ∧
    (∀ l, s.prepared? = some l → s.job.syzygy = .start → s.job.t0 ≤ s.ix + 1 → (s.ix + 1) % 80 = 0 →
      s.startStaged = true →
      ∃ u, exec .commonStart s = .next u ∧ u.planes.data = .build ∧ u.job.running = some l.num ∧
        u.job.syzygy = .none ∧ u.arb.rank0 = l.num.toNat % 32) ∧
    (∀ (x : MemTest) (f : Flight), s.mem.tests = [x] → s.flight? x.flight = some f → s.job.waitingOpen = none →
      exec (.diagMemTestDone none) s =
        .next (({ s with mem := { s.mem with tests := [] } } : State).finish f 0 0 0 false []) ∧
      ∀ b o, exec (.diagMemTestDone (some (b, o))) s = .next (({ s with mem := { s.mem with tests := [] } } : State).finish
        f 0x0B0A 0 (BitVec.ofNat 64 (o % 2 ^ 32 + b % 65536 * 2 ^ 32)) false [])) ∧
    (∀ (x : MemTest) (f : Flight) (g : Nat) (l : Layer), s.mem.tests = [x] → s.flight? x.flight = some f →
      s.job.waitingOpen = some (g, l) → s.mem.fsp = .atRate →
      ∃ u : State, exec (.diagMemTestDone none) s = .next (u.openLayer g l) ∧ u.job.waitingOpen = none ∧
        u.mem.tests = [])

/-- After a trigger, every declared channel in its scope is in Eclipse. One that was not holds that cause alone and the trigger's code, and its engine has an empty plan, no gate edge to come and no hold, and runs to its park point. ECLIPSE_IN_REQUEST triggers all channels with cause 0, WATCHDOG the engine's channel or all with cause 6, DIE_LINK_LOSS all with cause 7; ECLIPSE_IN_RELEASE takes no channel out. ECLIPSE_LEAVE_EFFECT takes exactly the accepted channels out of Eclipse. The record that an Eclipsed engine makes has a low gate, POWER 0 and ECLIPSE set. -/
def Obligations.EclipseEntersChannelsAndStopsTheirEngines : Prop :=
  (∀ (s : State) (scope : Nat → Bool) (bit : Nat) (code : Code) (n : Nat), n < 32 → s.declared n = true →
    scope n = true → (s.trigger scope bit code).eclipsed n = true ∧
      (s.eclipsed n = false → ((s.trigger scope bit code).engine n).queue = [] ∧
        ((s.trigger scope bit code).engine n).edges = [] ∧ ((s.trigger scope bit code).engine n).held = none ∧
        (nth {} (s.trigger scope bit code).eclipse.ch n).causes = BitVec.ofNat 16 (2 ^ bit) ∧
        (nth {} (s.trigger scope bit code).eclipse.ch n).firstCode = code)) ∧
  (∀ (s : State) (scope : Nat → Bool) (bit : Nat) (code : Code) (n : Nat), scope n = false →
    (s.trigger scope bit code).eclipsed n = s.eclipsed n) ∧
  (∀ s : State, s.power.core = true → s.eclipse.inReq = false →
    exec .eclipseInRequest s =
      .next (({ s with eclipse := { s.eclipse with inReq := true } } : State).trigger allCh 0 0x0B02)) ∧
  (∀ s : State, s.power.core = false ∨ s.eclipse.inReq = true →
    exec .eclipseInRequest s = .next { s with eclipse := { s.eclipse with inReq := true } }) ∧
  (∀ s : State, exec .eclipseInRelease s = .next { s with eclipse := { s.eclipse with inReq := false } }) ∧
  (∀ s : State, s.eclipse.leaving ≠ 0 → ∃ t, exec .eclipseLeaveEffect s = .next t ∧ t.eclipse.leaving = 0 ∧
    (∀ n, n < 32 → t.eclipsed n = (s.eclipsed n && !bitOf s.eclipse.leaving n)) ∧
    SameBut [.eclipse, .job, .host, .outbox] s t) ∧
  (∀ s : State, s.power.core = true →
    exec .dieLinkLoss s = .next ((s.record 0x0030 .data []).trigger allCh 7 0x0B03)) ∧
  (∀ (s : State) (w : WatchUnit), s.power.core = true → s.planes.data ≠ .off →
    exec (.watchdog w) s = .next ((s.trigger (match w with | .engine n => (· == n) | _ => allCh) 6 0x0B07).healthFail 2)) ∧
  (∀ (s : State) (w : WatchUnit), s.power.core = true → s.planes.data ≠ .off → s.boot.activation = none →
    ∃ t, exec (.watchdog w) s = .next t ∧ ∀ n, n < 32 → s.declared n = true → (∀ m, w = .engine m → m = n) →
      t.eclipsed n = true) ∧
  (∀ (s : State) (k n : Nat), n < 32 → s.eclipsed n = true →
    ((s.makeRec k n).engine n).sr.gate = false ∧ ((s.makeRec k n).engine n).sr.power = 0 ∧
    ((s.makeRec k n).engine n).sr.eclipse = true ∧ ((s.makeRec k n).engine n).gate = false)

/-- While the core die is powered, SAMPLE_TICK advances the idle counts, machine time, the ring, the bypass counters and the time of DATA_STATE 1; from the epoch on the axes' pins and the camera's edges, then the sample of the data plane (dataSample: the words, lookups and records of each declared channel, the breaches, the energy of the records, the arbiter's decisions for the next), and what the Moonlinks send. In Umbra only the AON time advances. SRAM_SCRUB_PASS at the end of its period takes each error as R389 says and counts the pass: a single-bit error counts as corrected, a double-bit one as uncorrectable with its REGION and offset. -/
def Obligations.ASampleDoesItsWorkInOrder : Prop :=
  (∀ (s u : State) (errs : List SramErr), s.power.core = true → u = (s.idleTick.timeTick.ringTick.bypTick).memTick →
    (u.time.preEpoch = true → exec (.sampleTick errs) s = .next u) ∧
    (u.time.preEpoch = false → ∃ v, v = (u.axesEmit u.ix).camTick u.ix ∧
      exec (.sampleTick errs) s = .next (((v.dataSample v.ix errs).settleDescs.linksSend v.ix).endIfParked))) ∧
  (∀ (s : State) (errs : List SramErr), s.power.core = false →
    (s.power.umbra ≠ .awake →
      ∃ t, exec (.sampleTick errs) s = .next t ∧ t.time.t = s.time.t + sampleTime ∧ SameBut [.time, .power, .boot] s t) ∧
    (s.power.umbra = .awake → exec (.sampleTick errs) s = .next s.idleTick)) ∧
  (∀ (s : State) (errs : List SramErr), s.power.core = true → s.mem.sramPeriod ≤ s.mem.sramAge + 1 →
    exec (.sramScrubPass errs) s = .next ((errs.foldl (fun s r => s.sramErr r) s).sramPassOver.settleDescs)) ∧
  (∀ s : State, SameBut [.mem] s s.sramPassOver ∧ s.sramPassOver.mem = { s.mem with
    sramPass := s.mem.sramPass.inc, sramAge := 0, sramPeriod := s.mem.scrubCfg.toNat }) ∧
  (∀ (s : State) (r : SramErr), r.double = false →
    s.sramErr r = { s with mem := { s.mem with sramCe := s.mem.sramCe.inc } }) ∧
  (∀ (s : State) (r : SramErr), r.double = true → r.region < 16 →
    ∃ t, s.sramErr r = t.sramEffect r ∧ t.mem.sramUeCnt = s.mem.sramUeCnt.inc ∧ SameBut [.mem, .tail] s t ∧
      t.mem.sramUe = packWord [(r.region, 28), (1, 27), (r.offset % 2 ^ 26, 0)] ∧
      (r.region = 0 ∨ 10 < r.region → t.sramEffect r = t) ∧
      (r.region = 2 → t.sramEffect r = t.modEngine r.object fun e => { e with tiles := e.tiles.erase (r.i, r.j) }) ∧
      (r.region = 4 → t.sramEffect r = if r.both then t.trigger allCh 8 0x070B else t) ∧
      (r.region = 8 → t.sramEffect r = t.ctlFault 3 true))

/-- POWER_PERIOD_END of a declared channel stores the sums of the period; where S2 reaches RATIO_MIN and is not 0, RATIO is 256 · S1 / S2, rounded and held to 16 bits, and RATIO_HELD is clear; below RATIO_MIN the last RATIO stays, RATIO_HELD is set and counted. With RATIO_MIN 0 and S2 0 the spec states no ratio: a free value. A period uses RATIO_MIN and GATE_LAG as they stood at its start. ROI_FRAME_END judges the oldest frame that ROI_END has closed: a whole one with a good CRC counts, names its exposure sample and sets ROI_VALID; a damaged one, or one of another length, counts in MP_CRC_CNT and in the link's bulk errors and leaves the metrics; with no such frame, or of another ROI_END block, it does nothing. ROI_LATE counts a frame that did not come and clears ROI_VALID, on a head with an ROI. -/
def Obligations.MeltPoolChannelsMeasure : Prop :=
  (∀ (s : State) (n : Nat), n < 32 → s.declared n = true →
    let c := nth {} s.melt n
    let sums := c.sums (s.ix / 4 - 1)
    (4 ≤ s.ix → c.ratioMinPast ≤ sums.2 → sums.2 ≠ 0 →
      ∃ t, exec (.powerPeriodEnd n) s = .next t ∧ SameBut [.melt, .eph] s t ∧ nth {} t.melt n = { c with
        s1 := sums.1, s2 := sums.2, ratioHeld := false
        ratio := min 0xFFFF (roundHalfAway (((256 * sums.1 : Nat) : Rat) / (sums.2 : Rat))).toNat }) ∧
    (4 ≤ s.ix → c.ratioMinPast = 0 → sums.2 = 0 →
      ∃ t v, exec (.powerPeriodEnd n) s = .next t ∧ SameBut [.melt, .eph, .freeCtr] s t ∧ v < 65536 ∧
        nth {} t.melt n = { c with s1 := sums.1, s2 := 0, ratioHeld := false, ratio := v }) ∧
    (4 ≤ s.ix → sums.2 < c.ratioMinPast →
      ∃ t, exec (.powerPeriodEnd n) s = .next t ∧ SameBut [.melt, .eph] s t ∧ nth {} t.melt n = { c with
        s1 := sums.1, s2 := sums.2, ratioHeld := true, ratioHeldCnt := c.ratioHeldCnt.inc }) ∧
    (∀ f r, c.ended = f :: r → f.bad = false →
      uAt f.endBytes 1 4 = (crc32c (f.start ++ f.blocks.flatMap fun b => leBytes 8 b.toNat)).toNat →
      f.blocks.length * 64 = f.size * f.size * 10 →
      ∃ t, exec (.roiFrameEnd n f.endBytes) s = .next t ∧ SameBut [.melt, .eph, .freeCtr] s t ∧
        (nth {} t.melt n).roiValid = true ∧ (nth {} t.melt n).frames = c.frames.inc ∧
        (nth {} t.melt n).frameSample = f.expSample ∧ (nth {} t.melt n).ended = r) ∧
    (∀ f r, c.ended = f :: r → (f.bad = true ∨ f.blocks.length * 64 ≠ f.size * f.size * 10 ∨
        uAt f.endBytes 1 4 ≠ (crc32c (f.start ++ f.blocks.flatMap fun b => leBytes 8 b.toNat)).toNat) →
      ∃ t, exec (.roiFrameEnd n f.endBytes) s = .next t ∧ SameBut [.melt, .links] s t ∧
        (nth {} t.melt n).crc = c.crc.inc ∧ (nth {} t.melt n).metrics = c.metrics ∧ (nth {} t.melt n).ended = r ∧
        (s.linkOf n < 32 → (t.link (s.linkOf n)).bulkErr = (s.link (s.linkOf n)).bulkErr.inc)) ∧
    (∀ block : List Byte, (∀ f r, c.ended = f :: r → f.endBytes ≠ block) → exec (.roiFrameEnd n block) s = .next s) ∧
    (∀ h, s.head? n = some h → h.roiSize ≠ 0 →
      ∃ t, exec (.roiLate n) s = .next t ∧ SameBut [.melt, .eph] s t ∧
        nth {} t.melt n = { c with late := c.late.inc, roiValid := false }) ∧
    (∀ h, s.head? n = some h → h.roiSize = 0 → exec (.roiLate n) s = .next s)) ∧
  (∀ c : MeltCh, c.newPeriod = { c with ratioMinPast := c.ratioMinNow, gateLagPast := c.gateLagNow
                                        ratioMinNow := c.ratioMin, gateLagNow := c.gateLag })

/-- With Perihelion enabled: DIFFUSION_TICK at a multiple of 4,096 samples from the epoch on starts a pass with ALPHA and BIAS_COMP of that moment, or, in a layer transition, waits for its end. DIFFUSION_PASS_END stores the new grid, counts a step and serves the reads and the load that wait for it. TRANSITION_PASS_END resumes a suspended pass and starts the pass whose tick fell in the transition. PARAM_PERI_READ waits for the next pass; PARAM_PERI_LOAD does so in DATA_STATE 1, and else completes DEFERRED with the layer whose transition applies it. A cell that is set reads the value, and no other cell changes. -/
def Obligations.PerihelionPassesAndGridCommands : Prop :=
  (∀ (s : State) (e : EphPeri), s.peri? = some e → s.power.core = true → s.tickAt 4096 = true → s.peri.pass = none →
    (s.peri.transition = false → ∃ t q, exec .diffusionTick s = .next t ∧ t.peri = { s.peri with pass := some q } ∧
      q.tick = s.ix ∧ q.started = s.ix ∧ q.alpha = e.alpha ∧ q.bias = e.biasComp ∧ q.rowsRead = 0 ∧ SameBut [.peri] s t) ∧
    (s.peri.transition = true →
      exec .diffusionTick s = .next { s with peri := { s.peri with tickWaits := some s.ix } })) ∧
  (∀ (s : State) (q : DiffPass), s.peri.pass = some q → q.suspended = false →
    ∃ t, exec .diffusionPassEnd s = .next t ∧ t.peri.pass = none ∧ t.peri.steps = stat s.peri.steps 1 ∧
      t.peri.base = q.newBase ∧ t.peri.reads = [] ∧ (∀ l, t.peri.load = some l → l.deferred = true) ∧
      SameBut [.peri, .host, .outbox] s t) ∧
  (∀ s : State, s.peri.transition = true →
    ∃ t, exec .transitionPassEnd s = .next t ∧ t.peri.transition = false ∧ t.peri.tickWaits = none ∧
      (∀ q, s.peri.pass = some q → t.peri.pass = some { q with suspended := false }) ∧
      (∀ k e, s.peri.pass = none → s.peri.tickWaits = some k → s.peri? = some e →
        ∃ q, t.peri.pass = some q ∧ q.tick = k ∧ q.alpha = e.alpha) ∧
      (s.peri.pass = none → s.peri.tickWaits = none → t.peri.pass = none) ∧ SameBut [.peri] s t) ∧
  (∀ (e : Entry) (s t : State) (f : Flight) (w h : Nat), w = e.u 0x1C 2 → h = e.u 0x1E 2 →
    1 ≤ w → w ≤ 2048 → 1 ≤ h → h ≤ 2048 → (e.zeroFrom 0x20 32).1 = false → e.u 0x18 2 + w ≤ 2048 →
    e.u 0x1A 2 + h ≤ 2048 → t.peri?.isSome = true →
    (Dispatched 0x0301 e s f t → (e.inline = true → 2 * w * h ≤ 1344) → (e.inline = false → e.bufLen.toNat = 2 * w * h) →
      ∃ u, exec (.paramPeriRead e) s = .next u ∧ SameBut [.peri, .host, .mem] t u ∧
        u.peri = { t.peri with reads := t.peri.reads ++ [(f.id, e.periRect)] }) ∧
    (Dispatched 0x0341 e s f t → (e.inline = true → 2 * w * h ≤ 1344) → e.dataLen = 2 * w * h → t.peri.load = none →
      let l : PeriLoad := { flight := f.id, rect := e.periRect, cells := (List.range (w * h)).map fun i => e.d (2 * i) 2
                            deferred := decide (t.planes.data ≠ .idle), atEnd := t.finalNow }
      (t.planes.data = .idle →
        ∃ u, exec (.paramPeriLoad e) s = .next u ∧ SameBut [.peri, .host] t u ∧ u.peri = { t.peri with load := some l }) ∧
      (t.planes.data ≠ .idle → exec (.paramPeriLoad e) s =
        .next (({ t with peri := { t.peri with load := some l } } : State).finish f 0x0A00 (t.firstLayer 3) 0 false [])))) ∧
  (∀ (p : Peri) (i j v : Nat), swf p.base p.cells = true → (∀ q, p.pass = some q → swf q.newBase q.done = true) →
    (p.set i v).cell j = if j = i then v else p.cell j)

/-- For dispatched entries whose parameters pass R275 to R280: LOOP_STATUS of a declared loop completes with y, the word of TIDE_LOOP_STATUS, PV and SP. LOOP_SET_READ returns the sets in the layout of R54. LOOP_SET_WRITE completes with a switch sample one to four samples on (a free value), at which SET_SWITCH puts the sets in force; a loop whose chosen set becomes empty sets SET_EMPTY. LOOP_CAPTURE_START arms the first free unit and completes with its number. LOOP_CAPTURE_STOP ends a capture with its rows, or with FLAGS 1 frees the unit. LOOP_CAPTURE_READ returns rows of 16 bytes while none holds an uncorrectable word. -/
def Obligations.LoopCommandsReadWriteAndCapture : Prop :=
  (∀ (e : Entry) (s t : State) (f : Flight),
    (∀ l, Dispatched 0x0500 e s f t → t.loop? (e.u 0x18 1) = some l → (e.zeroFrom 0x19 39).1 = false →
      exec (.loopStatus e) s = .next (t.ok f (unsignedOf 32 l.y + l.status.toNat * 2 ^ 32)
        (unsignedOf 32 l.pv + unsignedOf 32 l.sp * 2 ^ 32) [])) ∧
    (∀ first n, first = e.u 0x18 1 → n = e.u 0x1A 2 → 1 ≤ n → n ≤ (if e.inline then 42 else 256) → first + n ≤ 256 →
      (e.zeroFrom 0x19 1).1 = false → (e.zeroFrom 0x1C 36).1 = false →
      (Dispatched 0x0501 e s f t → (e.inline = false → e.dataLen = 32 * n) →
        exec (.loopSetRead e) s =
          .next (t.ok f 0 0 ((List.range n).flatMap fun i => (t.coefSet (first + i)).bytes (first + i)))) ∧
      (Dispatched 0x0540 e s f t → e.dataLen = 32 * n →
        (∀ i, i < n → e.d (32 * i) 1 = first + i ∧ e.d (32 * i + 1) 3 = 0 ∧ 0 ≤ e.ds (32 * i + 28) 4) →
        ∃ at_ u, t.ix < at_ ∧ at_ ≤ t.ix + 4 ∧ exec (.loopSetWrite e) s = .next (u.ok f at_ 0 []) ∧
          u.tide = { t.tide with setSwitches := t.tide.setSwitches ++ [{
            at_ := at_, first := first, sets := (List.range n).map e.setAt }] } ∧ SameBut [.tide, .freeCtr] t u)) ∧
    (∀ c i, c = e.capCfg → Dispatched 0x0543 e s f t → (t.loop? c.slot).isSome = true → c.trigger ≤ 3 → c.wave ≤ 3 →
      c.point ≤ 1 → (∀ x ∈ c.signals, x ≤ 9) → 1 ≤ c.rows → c.rows ≤ 65536 → c.pre < c.rows → c.decim ≠ 0 →
      (e.zeroFrom 0x2A 2).1 = false → (c.trigger = 0 ∨ c.trigger = 3 → c.trigArg = 0) → (c.wave = 0 → c.amp = 0) →
      (c.wave < 2 → c.half = 0) → (2 ≤ c.wave → 1 ≤ c.half ∧ c.half ≤ 65535) → (e.zeroFrom 0x38 8).1 = false →
      (i = 0 ∧ nth none t.tide.caps 0 = none ∨ i = 1 ∧ nth none t.tide.caps 0 ≠ none ∧ nth none t.tide.caps 1 = none) →
      ∃ u : State, exec (.loopCaptureStart e) s = .next (u.ok f i 0 []) ∧ SameBut [.tide] t u ∧
        nth none u.tide.caps i = some { cfg := c, state := 1 }) ∧
    (∀ i c, i = e.u 0x18 1 → Dispatched 0x0544 e s f t → nth none t.tide.caps i = some c → (e.zeroFrom 0x1A 38).1 = false →
      e.u 0x19 1 ≤ 1 →
      ∃ u : State, exec (.loopCaptureStop e) s = .next (u.ok f 0 0 []) ∧ SameBut [.tide] t u ∧
        nth none u.tide.caps i = if e.u 0x19 1 = 1 then none else some { c with state := 3, injecting := false }) ∧
    (∀ c first n, Dispatched 0x0502 e s f t → nth none t.tide.caps (e.u 0x18 1) = some c → first = e.u 0x1C 4 →
      n = e.u 0x20 4 → 1 ≤ n → n ≤ (if e.inline then 84 else 65536) → (e.zeroFrom 0x19 3).1 = false →
      (e.zeroFrom 0x24 28).1 = false → first + n ≤ c.rows.length → (e.inline = false → e.bufLen.toNat = 16 * n) → c.bad = [] →
      exec (.loopCaptureRead e) s =
        .next (t.ok f 0 0 (((c.rows.drop first).take n).flatMap fun r => r.flatMap fun w => leBytes 4 w.toNat)))) ∧
  (∀ (s : State) (w : SetSwitch), (s.tide.setSwitches.find? fun w => decide (w.at_ ≤ s.ix + 1)) = some w →
    ∃ t, exec .setSwitch s = .next t ∧ SameBut [.tide] s t ∧ t.tide.setSwitches = s.tide.setSwitches.erase w ∧
      t.tide.sets = (w.sets.zipIdx w.first).foldl (fun t p => sset {} t p.2 p.1) s.tide.sets ∧
      (∀ l ∈ t.tide.loops, (s.coefSet l.choice).isEmpty = false → (t.coefSet l.choice).isEmpty = true →
        l.setEmpty = true))

/-- At a multiple of its PERIOD from the epoch on, a loop takes the measurement of its route (without one, a free value), the setpoint of its route (the last one while its source is invalid) or of TIDE_SP, on a power loop of the word, plus the setpoint injection, and the feed-forward of its route; takes the set that it chooses, or keeps the last one while that is empty; is stepped once by R263, and delivers y, or y plus the output injection held to OUT_MIN and OUT_MAX. Nothing but the Tide engine and the loop counts of a power loop's engine change, unless the following error trips: then the channel of a power loop, or every declared channel, is in Eclipse. Between updates TIDE_UPDATE changes nothing. -/
def Obligations.LoopsUpdateAndTrip : Prop :=
  (∀ (s : State) (slot : Nat) (l : TideLoop) (pv : Int) (v : Bool) (head : Option Nat), s.loop? slot = some l →
    s.ix ≠ 0 → s.tickAt l.entry.period = true → s.sink? 1 slot 0 = some (pv, v) →
    head = (if l.entry.kind = 1 then s.loopHead? l else none) →
    let word := head.bind fun n => s.wordEntry? n (s.ix + 3)
    let sp : Int := match s.sink? 2 slot 0 with
      | some x => if x.2 then x.1 else l.sp
      | none => if l.entry.kind = 1 then word.elim l.sp (·.setpoint) else l.spReg
    let ff : Int := match s.sink? 3 slot 0 with
      | some (y, true) => y
      | _ => 0
    let ch := (chooseSet s.tide.sets (if l.entry.kind = 1 then word.elim l.chosen (·.set) else l.setSel) l).1
    let r := tideUpdate ch.vals { sp := sp + s.tide.injected slot 0, pv := pv, f := ff, valid := v
                                  opened := head.any fun n => !(s.engine n).sr.loop } ch
    let out := if s.tide.injecting slot 1 then
      clampInt ch.vals.outMin ch.vals.outMax (r.1.y + s.tide.injected slot 1) else r.1.y
    ∃ t, exec (.tideUpdate slot) s = .next t ∧ t.loop? slot = some { r.1 with out := out, sp := sp } ∧
      (r.2.trip = false → SameBut [.tide, .engines] s t ∧ (head = none → t.engines = s.engines)) ∧
      (r.2.trip = true → r.1.feTrip = true ∧ r.1.auto = false ∧
        ∀ n, n < 32 → s.declared n = true → (∀ h, head = some h → n = h) → t.eclipsed n = true)) ∧
  (∀ (sets : List (Nat × CoefSet)) (c : Nat) (l : TideLoop),
    ((sget {} sets c).isEmpty = false → (chooseSet sets c l).1.set = c ∧ (chooseSet sets c l).1.vals = sget {} sets c) ∧
    ((sget {} sets c).isEmpty = true → (chooseSet sets c l).1.set = l.set ∧ (chooseSet sets c l).1.setEmpty = true)) ∧
  (∀ (s : State) (slot : Nat) (l : TideLoop), s.loop? slot = some l → s.ix ≠ 0 → s.tickAt l.entry.period = true →
    s.sink? 1 slot 0 = none → ∃ t, exec (.tideUpdate slot) s = .next t) ∧
  (∀ (s : State) (slot : Nat) (l : TideLoop), s.loop? slot = some l → s.tickAt l.entry.period = false →
    exec (.tideUpdate slot) s = .next s)

/-- For every loop, input and coefficient set that is not empty and whose OUT_SLEW is not negative: when y lies within OUT_MIN and OUT_MAX, it does so after the update, whether the update is manual, closed, frozen or trips. When OUT_SLEW is not 0, |y after − y before| is at most OUT_SLEW. A frozen update leaves y. In manual, SAT is clear and y follows TIDE_MAN. -/
def Obligations.LoopOutputsStayInTheirBounds : Prop :=
  ∀ (c : CoefSet) (x : TideIn) (l : TideLoop), c.isEmpty = false → 0 ≤ c.outSlew →
    let r := (tideUpdate c x l).1
    (c.outMin ≤ l.y → l.y ≤ c.outMax → c.outMin ≤ r.y ∧ r.y ≤ c.outMax) ∧
    (c.outSlew ≠ 0 → absI (r.y - l.y) ≤ c.outSlew) ∧
    (l.auto = true → l.modeReq = none → (x.valid = false ∨ x.opened = true) → r.y = l.y) ∧
    (l.auto = false → l.modeReq = none →
      r.auto = false ∧ r.sat = false ∧ r.y = (slewTo c.outSlew l.y (clampInt c.outMin c.outMax l.man)).1)

/-- For each Moonlink: RECEIVER_DETECT moves DETECT to TRAIN; PHASE_FOUND moves TRAIN to LOCK, its sampler at the phase found; BLOCK_LOCK_GAINED sets block lock outside OFF, DETECT and BACKOFF; FRAME_LOCK moves LOCK with block lock to CAPS with d from the mean round trip and the TURNAROUND of the last CAPS message. A timeout in DETECT (without FORCE_DETECT), TRAIN or LOCK fails the attempt: BACKOFF, one attempt and one retrain more, the last attempt at the third. BACKOFF_END goes to DETECT, or after the last attempt to HELD_OUT with REASON 8; CAPS_TIMEOUT goes to HELD_OUT with REASON 7; HEAD_READY marks the head of an ACTIVE link ready. In another STATE each of these leaves the machine as it is. A valid CAPS message received whole stands in the registers; in CAPS, one that passes R295 makes the link ACTIVE, gives its engine the head's focus gain and sends CAPS_ACK, and one that fails a check holds the head out with that REASON; presented with another message, CAPS does nothing. No other link changes. -/
def Obligations.LinksComeUpStepByStep : Prop :=
  ∀ (s : State) (n : Nat), n < 32 →
    let l := s.link n
    let only (t : State) : Prop := ∀ m, m ≠ n → t.link m = s.link m
    let failed : Link := { l.unlock with
      state := .backoff, attempts := l.attempts + 1, lastTry := decide (3 ≤ l.attempts + 1), retrain := l.retrain.inc }
    (l.state = .detect → ∃ t, exec (.receiverDetect n) s = .next t ∧ only t ∧ SameBut [.links] s t ∧
      t.link n = { l with state := .train }) ∧
    (l.state ≠ .detect → exec (.receiverDetect n) s = .next s ∧ exec (.detectTimeout n) s = .next s) ∧
    (l.state = .detect → (s.linkHead? n).any (·.forceDetect) = false →
      ∃ t, exec (.detectTimeout n) s = .next t ∧ only t ∧ SameBut [.links] s t ∧ t.link n = failed) ∧
    ((s.linkHead? n).any (·.forceDetect) = true → exec (.detectTimeout n) s = .next s) ∧
    (l.state = .train → ∃ t, exec (.phaseFound n) s = .next t ∧ only t ∧ SameBut [.links, .cal] s t ∧
      t.link n = { l with state := .lock, phaseOk := true } ∧ nth 0 t.cal.phases n = 0) ∧
    (l.state = .train → ∃ t, exec (.trainTimeout n) s = .next t ∧ only t ∧ SameBut [.links] s t ∧ t.link n = failed) ∧
    (l.state ≠ .train → exec (.phaseFound n) s = .next s ∧ exec (.trainTimeout n) s = .next s) ∧
    (l.state = .lock → ∃ t, exec (.lockTimeout n) s = .next t ∧ only t ∧ SameBut [.links] s t ∧ t.link n = failed) ∧
    (l.state ≠ .lock → exec (.lockTimeout n) s = .next s) ∧
    (l.state ≠ .off → l.state ≠ .detect → l.state ≠ .backoff →
      ∃ t, exec (.blockLockGained n) s = .next t ∧ only t ∧ SameBut [.links] s t ∧ t.link n = { l with blockLock := true }) ∧
    (l.state = .off ∨ l.state = .detect ∨ l.state = .backoff → exec (.blockLockGained n) s = .next s) ∧
    (∀ (r : Nat) (q : W16), l.state = .lock → l.blockLock = true → ∃ t, exec (.frameLock n r q) s = .next t ∧ only t ∧
      SameBut [.links] s t ∧ t.link n = { l with
        state := .caps, frameLock := true, lastSeq := some q, headReady := false, powerZeroed := false
        d := roundHalfAway (((r : Rat) / 64 - (l.caps.turnaround : Rat)) / 2) }) ∧
    (∀ (r : Nat) (q : W16), l.state ≠ .lock ∨ l.blockLock = false → exec (.frameLock n r q) s = .next s) ∧
    (l.state = .backoff → ∃ t, exec (.backoffEnd n) s = .next t ∧ only t ∧ SameBut [.links] s t ∧
      t.link n = if l.lastTry then { l with state := .heldOut, reason := 8, lastTry := false }
        else { l with state := .detect }) ∧
    (l.state ≠ .backoff → exec (.backoffEnd n) s = .next s) ∧
    (l.state = .caps → ∃ t, exec (.capsTimeout n) s = .next t ∧ only t ∧ SameBut [.links] s t ∧
      t.link n = { l with state := .heldOut, reason := 7 }) ∧
    (l.state ≠ .caps → exec (.capsTimeout n) s = .next s) ∧
    (l.state = .active → ∃ t, exec (.headReady n) s = .next t ∧ only t ∧ SameBut [.links] s t ∧
      t.link n = { l with headReady := true }) ∧
    (l.state ≠ .active → exec (.headReady n) s = .next s) ∧
    (∀ msg, l.sideIn ≠ some msg ∨ sideOk 1 msg = false → exec (.caps n msg) s = .next s) ∧
    (∀ msg, l.sideIn = some msg → sideOk 1 msg = true →
      (l.state ≠ .caps ∨ s.linkHead? n = none → ∃ t, exec (.caps n msg) s = .next t ∧ only t ∧ SameBut [.links] s t ∧
        t.link n = { l with caps := parseCaps msg, sideIn := none }) ∧
      ∀ h, l.state = .caps → s.linkHead? n = some h →
        (capsReason h l.d (parseCaps msg) = 0 →
          ∃ t, exec (.caps n msg) s = .next t ∧ only t ∧ SameBut [.links, .engines] s t ∧ t.link n = { l with
              caps := parseCaps msg, sideIn := none, state := .active, reason := 0, attempts := 0, badRun := 0, dnErrRun := 0
              sideOut := l.sideOut ++ [sideMsg (leBytes 1 2 ++ [0] ++ leBytes 1 h.roiSize ++ leBytes 1 h.roiKfps ++
                leBytes 2 (unsignedOf 16 l.d))] } ∧
            (h.head < 32 → (t.engine h.head).focusGain = (parseCaps msg).focusGain)) ∧
        (capsReason h l.d (parseCaps msg) ≠ 0 →
          ∃ t, exec (.caps n msg) s = .next t ∧ only t ∧ SameBut [.links, .host, .outbox, .mem, .tail] s t ∧ t.link n = { l with
              caps := parseCaps msg, sideIn := none, state := .heldOut, reason := capsReason h l.d (parseCaps msg)
              sideOut := l.sideOut ++ [sideMsg (leBytes 1 2 ++ leBytes 1 (capsReason h l.d (parseCaps msg)))] }))

/-- While a link holds frame lock (outside TEST): a sound frame with the SEQ expected ends the run of bad frames and gives its fields; a damaged frame or one with an earlier SEQ counts in UP_CRC, a missing one in UP_MISS, each lengthening the run by 1; a frame with a later SEQ first counts the frames skipped that were not counted yet. When this makes the run of an ACTIVE link eight or more, or eight good frames in a row show DN_ERR, and at a BLOCK_LOCK_LOSS of an ACTIVE link, the link is lost: LOSS counts, it goes to BACKOFF with a new count of attempts, and its head's channel is in Eclipse. Without frame lock a frame only goes to the search for it, gained at the fourth start block in a row whose SEQ rises by 1. In TEST a frame goes to the checker of a far-end loopback. A BLOCK_LOCK_LOSS of a link that is not ACTIVE clears its locks. LOOP_ACK with accept 1 of a waiting link starts the far-end loopback; LOOP_ACK_TIMEOUT gives it up. Loopback rules: R303. -/
def Obligations.UplinkFramesAndLinkLoss : Prop :=
  ∀ (s : State) (n : Nat), n < 32 →
    let l := s.link n
    let lost (t : State) : Prop := (t.link n).state = .backoff ∧ (t.link n).loss = l.loss.inc ∧ (t.link n).attempts = 0 ∧
      (t.link n).frameLock = false ∧
      ∀ h, s.linkHead? n = some h → h.head < 32 → s.declared h.head = true → t.eclipsed h.head = true
    (∀ (f : UplinkFrame) (q : W16), q = BitVec.ofNat 16 (uAt f.bytes 1 2) → l.frameLock = true → l.state ≠ .test →
      (frameSound f = true → l.lastSeq = none ∨ l.lastSeq = some (q - 1) →
        ∃ t, exec (.uplinkFrame n f) s = .next t ∧
          ((uAt f.bytes 7 1).testBit 1 = false ∨ l.dnErrRun < 7 ∨ l.state ≠ .active →
            (t.link n).lastSeq = some q ∧ (t.link n).badRun = 0 ∧ (t.link n).state = l.state ∧
            (t.link n).headReady = (uAt f.bytes 7 1).testBit 0 ∧ (t.link n).powerZeroed = (uAt f.bytes 7 1).testBit 2 ∧
            (t.link n).dnErr = (if (uAt f.bytes 7 1).testBit 1 then l.dnErr.inc else l.dnErr) ∧
            (t.link n).temp = sAt f.bytes 12 2 ∧ (t.link n).actX = sAt f.bytes 16 3 ∧ (t.link n).actY = sAt f.bytes 19 3) ∧
          ((uAt f.bytes 7 1).testBit 1 = true → 7 ≤ l.dnErrRun → l.state = .active → lost t)) ∧
      (frameSound f = false ∨ (∃ p, l.lastSeq = some p ∧ seqDiff 16 q.toNat (p.toNat + 1) < 0) →
        ∃ t, exec (.uplinkFrame n f) s = .next t ∧ (t.link n).upCrc = l.upCrc.inc ∧ (t.link n).upMiss = l.upMiss ∧
          (l.badRun < 7 ∨ l.state ≠ .active → (t.link n).badRun = l.badRun + 1 ∧ SameBut [.links, .melt] s t) ∧
          (7 ≤ l.badRun → l.state = .active → lost t)) ∧
      (∀ (p : W16) (k : Nat), frameSound f = true → l.lastSeq = some p → seqDiff 16 q.toNat (p.toNat + 1) = ((k + 1 : Nat) : Int) →
        ∃ t, exec (.uplinkFrame n f) s = .next t ∧ (t.link n).upCrc = l.upCrc ∧
          (t.link n).upMiss = (if k + 1 ≤ l.badRun then l.upMiss else l.upMiss.add (k + 1 - l.badRun)) ∧
          (l.state ≠ .active → (t.link n).lastSeq = some q ∧ (t.link n).badRun = 0) ∧
          (l.state = .active → l.badRun < 8 → 8 ≤ k + 1 → lost t))) ∧
    (∀ f : UplinkFrame, l.frameLock = false → l.state ≠ .test → ∃ t, exec (.uplinkFrame n f) s = .next t ∧
      SameBut [.links] s t ∧ (t.link n).state = l.state ∧
      (l.state.framed = true → l.blockLock = true → f.syncOk = true → uAt f.bytes 0 1 = 0x4B → l.lockRun = 3 →
        BitVec.ofNat 16 (uAt f.bytes 1 2) = l.lockSeq + 1 → (t.link n).frameLock = true) ∧
      (l.state.framed = false ∨ l.blockLock = false ∨ f.syncOk = false ∨ uAt f.bytes 0 1 ≠ 0x4B ∨ l.lockRun < 3 ∨
        BitVec.ofNat 16 (uAt f.bytes 1 2) ≠ l.lockSeq + 1 → (t.link n).frameLock = false)) ∧
    (∀ f : UplinkFrame, l.state = .test → ∃ t, exec (.uplinkFrame n f) s = .next t ∧ SameBut [.links] s t ∧
      t.link n = if l.test = 3 then (unpackBits (f.bytes.drop 8 ++ f.bulk.flatMap (·.bytes))).foldl Link.checkBit l else l) ∧
    (l.frameLock = true → l.state ≠ .test →
      ∃ t, exec (.uplinkFrameMissing n) s = .next t ∧ (t.link n).upMiss = l.upMiss.add 1 ∧
        (l.badRun < 7 ∨ l.state ≠ .active → (t.link n).badRun = l.badRun + 1 ∧ SameBut [.links, .melt] s t) ∧
        (7 ≤ l.badRun → l.state = .active → lost t)) ∧
    (l.frameLock = false ∨ l.state = .test → ∃ t, exec (.uplinkFrameMissing n) s = .next t ∧ SameBut [.links] s t ∧
      t.link n = if l.state = .test then { l with chkLen := 0 } else { l with lockRun := 0 }) ∧
    (l.state = .active → ∃ t, exec (.blockLockLoss n) s = .next t ∧ lost t) ∧
    (l.state ≠ .active → ∃ t, exec (.blockLockLoss n) s = .next t ∧ SameBut [.links] s t ∧
      t.link n = { l with blockLock := false, frameLock := false, lockRun := 0 }) ∧
    (∀ msg, l.sideIn = some msg → sideOk 4 msg = true → l.loopWait = true → uAt msg 1 1 = 1 →
      ∃ t, exec (.loopAck n msg) s = .next t ∧ SameBut [.links, .eph, .melt] s t ∧
        (t.link n).state = .test ∧ (t.link n).test = 3 ∧ (t.link n).loopWait = false) ∧
    (∀ msg, l.sideIn = some msg → sideOk 4 msg = true → l.loopWait = false ∨ uAt msg 1 1 ≠ 1 →
      ∃ t, exec (.loopAck n msg) s = .next t ∧ SameBut [.links] s t ∧ t.link n = { l with sideIn := none }) ∧
    (∀ msg, l.sideIn ≠ some msg ∨ sideOk 4 msg = false → exec (.loopAck n msg) s = .next s) ∧
    (∃ t, exec (.loopAckTimeout n) s = .next t ∧ t.link n = { l with loopWait := false } ∧ SameBut [.links] s t)

/-- HALO_STATUS of channel 0 to 23 completes with the words of HALO_CH_STATUS and HALO_CH_LEVEL. HALO_SET of enabled channels within their DUTY_MAX and the power budget gives each the target duty, at the next PWM period or in a fade, and KEEP_CURRENT leaves the current. HALO_NTEST makes the neighbour test due; NTEST_START starts it in DATA_STATE 1 with no exposure, and else nothing; NTEST_COMPLETE of a running test latches NSHORT on both channels of each shorted pair but pair 11. FADE_STEP takes the duty of its step and ends with the last. VERIFY_EXPIRY ends a verification 20 s old. BUDGET_CUT cuts an enabled channel that has used its duty, and no other; ACCOUNTING_INTERVAL at a multiple of 400,000 samples clears every channel's account. STRETCH_DUE marks a short pulse. HALO_SHORT turns a shorted channel off, latches FAULT and counts it. Each event completes in every state. -/
def Obligations.HaloChannelsLightFadeAndFault : Prop :=
  (∀ (e : Entry) (s t : State) (f : Flight),
    (∀ c, c = e.u 0x18 1 → Dispatched 0x0800 e s f t → c ≤ 23 → (e.zeroFrom 0x19 39).1 = false →
      exec (.haloStatus e) s =
        .next (t.ok f ((t.haloStatusWord c).toNat + (t.haloCh c).levelWord.toNat * 2 ^ 32) 0 [])) ∧
    (∀ m : W32, m = BitVec.ofNat 32 (e.u 0x18 4) → Dispatched 0x0840 e s f t → e.u 0x1F 1 ≤ 3 →
      (e.zeroFrom 0x22 30).1 = false → m.toNat < 2 ^ 24 →
      (∀ c, c < 24 → bitOf m c = true → ∃ h, t.haloEntry? c = some h ∧ e.u 0x1C 2 ≤ h.dutyMax) →
      ((e.u 0x1F 1).testBit 1 = false →
        t.haloOver (fun c => if (bitsSet m 24).contains c then some (e.u 0x1E 1) else none) = false) →
      ∃ u : State, exec (.haloSet e) s = .next (u.ok f 0 0 []) ∧ SameBut [.halo] t u ∧
        (∀ c, c < 24 → bitOf m c = true → (u.haloCh c).duty = e.u 0x1C 2 ∧ (u.haloCh c).dutyNow = (t.haloCh c).dutyNow ∧
          (e.u 0x20 2 = 0 → (u.haloCh c).nextDuty = some (e.u 0x1C 2) ∧ (u.haloCh c).fade = none) ∧
          (e.u 0x20 2 ≠ 0 → ∃ x, (u.haloCh c).fade = some x ∧ x.d0 = (t.haloCh c).dutyNow ∧ x.d1 = e.u 0x1C 2 ∧
            x.k = e.u 0x20 2)) ∧
        (∀ c, c < 24 → bitOf m c = false → u.haloCh c = t.haloCh c)) ∧
    (Dispatched 0x0841 e s f t → (e.zeroFrom 0x18 40).1 = false → t.inBuild = false →
      exec (.haloNtest e) s = .next (t.dueNtest.ok f 0 0 []))) ∧
  (∀ s : State,
    (s.halo.ntestPending = true → s.planes.data = .idle → s.halo.exposing = 0 → s.halo.ntestRun = false →
      ∃ t, exec .ntestStart s = .next t ∧ SameBut [.halo] s t ∧ t.halo.ntestPending = false ∧ t.halo.ntestRun = true) ∧
    (s.halo.ntestPending = false ∨ s.planes.data ≠ .idle ∨ s.halo.exposing ≠ 0 ∨ s.halo.ntestRun = true →
      exec .ntestStart s = .next s)) ∧
  (∀ (s : State) (p : W32), (s.halo.ntestRun = true → ∃ t, exec (.ntestComplete p) s = .next t ∧
      t.halo.ntestRun = false ∧ t.halo.ntestValid = true ∧ t.halo.shorted = p &&& 0x7FF7FF ∧
      (∀ n, n < 23 → n ≠ 11 → bitOf p n = true → (t.haloCh n).fault = .nshort ∧ (t.haloCh n).off = true ∧
        (t.haloCh (n + 1)).fault = .nshort ∧ (t.haloCh (n + 1)).off = true) ∧ SameBut [.halo, .tail] s t) ∧
    (s.halo.ntestRun = false → exec (.ntestComplete p) s = .next s)) ∧
  (∀ (s : State) (c : Nat), c < 24 → ∃ t, exec (.fadeStep c) s = .next t ∧ SameBut [.halo] s t ∧
    (∀ d, d ≠ c → t.haloCh d = s.haloCh d) ∧ ((s.haloCh c).fade = none → t.haloCh c = s.haloCh c) ∧
    ∀ x : HaloFade, (s.haloCh c).fade = some x → (t.haloCh c).dutyNow = x.at (x.step + 1) ∧
      (t.haloCh c).fade = (if x.k ≤ x.step + 1 then none else some { x with step := x.step + 1 }) ∧
      (x.step = 0 → ∀ i, x.current = some i → (t.haloCh c).nextCurrent = some i)) ∧
  (∀ (s : State) (c : Nat), c < 24 → ∃ t, exec (.verifyExpiry c) s = .next t ∧ SameBut [.halo] s t ∧
    ∀ k, (s.haloCh c).lastPass = some k → (t.haloCh c).lastPass = if k + 80000000 ≤ s.ix + 1 then none else some k) ∧
  (∀ (s : State) (c : Nat), c < 24 → (s.haloEntry? c = none → exec (.budgetCut c) s = .next s) ∧
    ∀ e : EphHaloCh, s.haloEntry? c = some e → ∃ t, exec (.budgetCut c) s = .next t ∧ SameBut [.halo] s t ∧
      (if (s.haloCh c).budget = false ∧ e.dutyMax * 4000000 ≤
          (((s.settleHalo (s.ix + 1) c).haloCh c).countStrobe (s.ix + 1)).onTime * 65536
        then (t.haloCh c).budget = true ∧ (t.haloCh c).strobeCut = ((s.haloCh c).strobeCut || s.wireHigh c) ∧
          t.halo.budgetCnt = s.halo.budgetCnt.inc
        else (t.haloCh c).budget = (s.haloCh c).budget ∧ (t.haloCh c).strobeCut = (s.haloCh c).strobeCut ∧
          t.halo.budgetCnt = s.halo.budgetCnt)) ∧
  (∀ s : State, (s.tickAt 400000 = true → ∃ t, exec .accountingInterval s = .next t ∧ SameBut [.halo] s t ∧
      ∀ c, c < 24 → (t.haloCh c).onTime = 0 ∧ (t.haloCh c).budget = false) ∧
    (s.tickAt 400000 = false → exec .accountingInterval s = .next s)) ∧
  (∀ (s : State) (c : Nat), c < 24 →
    ∃ t, exec (.stretchDue c) s = .next t ∧ SameBut [.halo] s t ∧ t.haloCh c =
      if (s.haloEntry? c).isSome = true ∧ s.haloSect?.any (·.stretchOn) = true ∧ (s.haloCh c).dutyNow ≠ 0 ∧
        s.onCounts (s.haloCh c).dutyNow < 80 then { s.haloCh c with stretchDue := true } else s.haloCh c) ∧
  (∀ (s : State) (c : Nat) (m : SinkReading), c < 24 → (s.heldDark c = false → m.vled < m.mv + 500 →
      ∃ t, exec (.haloShort c m) s = .next t ∧ (t.haloCh c).off = true ∧ (t.haloCh c).fault = .shortSupply ∧
        (t.haloCh c).vsink = BitVec.ofNat 16 m.mv ∧ t.halo.shortCnt = s.halo.shortCnt.inc ∧ SameBut [.halo, .tail] s t) ∧
    (s.heldDark c = true ∨ m.mv + 500 ≤ m.vled → exec (.haloShort c m) s = .next s))

/-- PWM_PERIOD of an enabled channel first applies the duty and the current that wait for it; of another channel it does nothing. A channel held dark gets no pulse. Otherwise its pulse of n counts, n > 0, starts at count floor(channel x 2^PWM_BITS / 24) of the period; with no strobe running it is measured, and checked when n is at least 80. A channel whose stretch is due, with no exposure and a short pulse, gets 80 counts, counted in STRETCH_CNT. STROBE_START from 40 samples before a window of the sensor, triggered or planned, raises EXPOSING, and from 4 samples before it the wires of the sensor's strobe channels; earlier it does nothing. -/
def Obligations.PwmPeriodsAndStrobesDriveTheSinks : Prop :=
  (∀ (s : State) (c : Nat) (m : SinkReading), c < 24 → (s.haloEntry? c).isSome = true →
    ∃ t, exec (.pwmPeriod c m) s = .next t ∧ SameBut [.halo, .tail] s t ∧
      (t.haloCh c).dutyNow = (s.haloCh c).nextDuty.getD (s.haloCh c).dutyNow ∧
      (t.haloCh c).current = (s.haloCh c).nextCurrent.getD (s.haloCh c).current ∧
      (t.haloCh c).nextDuty = none ∧ (t.haloCh c).nextCurrent = none ∧
      (let settled := ((s.settleHalo s.ix c).haloCh c).pulses
       let start := 10 * s.ix + c * 2 ^ s.pwmBits / 24
       let n := s.onCounts (t.haloCh c).dutyNow
       (s.heldDark c = true → (t.haloCh c).pulses = settled ∧ t.halo.vledMeasured = s.halo.vledMeasured) ∧
       (s.heldDark c = false → ((s.haloCh c).stretchDue = false ∨ s.halo.exposing ≠ 0 ∨ (t.haloCh c).dutyNow = 0 ∨ 80 ≤ n) →
         (t.haloCh c).pulses = (if n = 0 then settled else settled ++ [(start, start + n)]) ∧
         t.halo.stretchCnt = s.halo.stretchCnt) ∧
       (s.heldDark c = false → (s.haloCh c).stretchDue = true → s.halo.exposing = 0 → (t.haloCh c).dutyNow ≠ 0 → n < 80 →
         (t.haloCh c).pulses = settled ++ [(start, start + 80)] ∧ (t.haloCh c).stretchDue = false ∧
         t.halo.stretchCnt = s.halo.stretchCnt.inc) ∧
       (s.heldDark c = false → s.wireHigh c = false → 80 ≤ n → (t.haloCh c).lastCheck = some s.ix ∧
         (t.haloCh c).vsink = BitVec.ofNat 16 m.mv) ∧
       (s.wireHigh c = true → (t.haloCh c).lastCheck = (s.haloCh c).lastCheck ∧ (t.haloCh c).fault = (s.haloCh c).fault))) ∧
  (∀ (s : State) (c : Nat) (m : SinkReading), s.haloEntry? c = none → exec (.pwmPeriod c m) s = .next s) ∧
  (∀ (s : State) (i : Nat), i < 8 →
    (s.windowNear i (s.ix + 1) 40 = false → exec (.strobeStart i) s = .next s) ∧
    (s.windowNear i (s.ix + 1) 40 = true → ∃ t, exec (.strobeStart i) s = .next t ∧ SameBut [.halo] s t ∧
      bitOf t.halo.exposing i = true ∧
      (s.windowNear i (s.ix + 1) 4 = true → bitOf t.halo.strobing i = true ∧
        ∀ c, c < 24 → s.strobes i c = true → t.wireHigh c = true)))

/-- While the core die is powered and the DRAM trained: REFRESH counts one refresh, and with NR_K 0 issues no neighbour refresh (else how many the spec leaves open: a free value). MR4_POLL sets DERATE as the channels ask and counts when it turns on. DRAM_SCRUB_PASS ends the pass, counts it and its corrected words, and records each uncorrectable line. FSP_SWITCH_DOWN once DATA_STATE has been 1 for 4,000,000 samples takes channels 0 and 1 through self-refresh, and else does nothing; FSP_SWITCH_DONE ends a switch, after which a waiting JOB_LAYER_OPEN proceeds at RATE. DIAG_CRC completes with the check value and the seed of R406. DIAG_MEM_TEST outside a build starts a test. Each event completes in every state; without power or training it does nothing. -/
def Obligations.MemoryIsRefreshedScrubbedAndChecked : Prop :=
  (∀ s : State, s.power.core = true → s.mem.trained = true →
    (∃ t, exec .refresh s = .next t ∧ t.mem.refreshes = stat s.mem.refreshes 1 ∧
      (s.mem.nrK = 0 → t.mem.nr = s.mem.nr) ∧ SameBut [.mem, .freeCtr] s t) ∧
    (∀ b, ∃ t, exec (.mr4Poll b) s = .next t ∧ SameBut [.mem] s t ∧ t.mem = { s.mem with
      derate := b, derateCnt := if b = true ∧ s.mem.derate = false then s.mem.derateCnt.inc else s.mem.derateCnt })) ∧
  (∀ (s : State) (b : Bool), s.power.core = false ∨ s.mem.trained = false →
    exec .refresh s = .next s ∧ exec (.mr4Poll b) s = .next s) ∧
  (∀ (s : State) (k : Nat) (ues : List LineUe), s.power.core = true → s.mem.scrubRun = true →
    ∃ t, exec (.dramScrubPass k ues) s = .next t ∧ SameBut [.mem, .tail] s t ∧
      t.mem.dramCe = s.mem.dramCe.add k ∧ t.mem.dramPass = s.mem.dramPass.inc ∧ t.mem.scrubRun = false ∧
      t.mem.passAge = some 0 ∧ t.mem.dramUe = ues.foldl (fun c _ => c.inc) s.mem.dramUe ∧
      ∀ l ∈ ues.getLast?, t.mem.ueValid = true ∧ t.mem.ueChannel = l.channel ∧ t.mem.ueAddr = BitVec.ofNat 32 l.addr) ∧
  (∀ (s : State) (k : Nat) (ues : List LineUe), s.power.core = false ∨ s.mem.scrubRun = false →
    exec (.dramScrubPass k ues) s = .next s) ∧
  (∀ s : State,
    (s.mem.fsp = .atRate → s.planes.data = .idle → s.power.core = true → s.mem.fspOn = true →
      4000000 ≤ s.mem.idleFor + 1 → ∃ t, exec .fspSwitchDown s = .next t ∧ SameBut [.mem] s t ∧ t.mem = { s.mem with
        fsp := .switching, fspTo := .low, selfRefresh := s.mem.selfRefresh ||| 3, fspCnt := s.mem.fspCnt.inc }) ∧
    (s.mem.fsp ≠ .atRate ∨ s.planes.data ≠ .idle ∨ s.power.core = false ∨ s.mem.fspOn = false ∨
      s.mem.idleFor + 1 < 4000000 → exec .fspSwitchDown s = .next s)) ∧
  (∀ s : State, (s.mem.fsp ≠ .switching → exec .fspSwitchDone s = .next s) ∧
    (let after : Memory := { s.mem with fsp := s.mem.fspTo, fspUp := false, selfRefresh := s.mem.selfRefresh &&& ~~~3 }
     s.mem.fsp = .switching →
      (s.job.waitingOpen = none → ∃ t, exec .fspSwitchDone s = .next t ∧ SameBut [.mem] s t ∧
        t.mem = if s.mem.fspUp = true ∧ s.planes.data = .idle ∧ s.mem.fspTo = .low then { after with
            fsp := .switching, fspTo := .atRate, selfRefresh := after.selfRefresh ||| 3, fspCnt := s.mem.fspCnt.inc }
          else after) ∧
      ∀ f l, s.job.waitingOpen = some (f, l) → s.mem.tests = [] → s.mem.fspTo = .atRate →
        exec .fspSwitchDone s =
          .next (({ s with mem := after, job := { s.job with waitingOpen := none } } : State).openLayer f l))) ∧
  (∀ (e : Entry) (s t : State) (f : Flight) (alg fl : Nat) (base : W64), alg = e.u 0x18 1 → fl = e.u 0x19 1 →
    base = BitVec.ofNat 64 (e.u 0x30 8) → Dispatched 0x0F01 e s f t → fl ≤ 3 → (e.zeroFrom 0x1A 6).1 = false →
    (e.zeroFrom 0x2C 4).1 = false → (e.zeroFrom 0x38 8).1 = false → alg ≤ 2 → (alg < 2 → base.toNat < 2 ^ 32) →
    e.dataLen ≠ 0 → (e.inline = true → e.dataLen ≤ 1344) → (∃ i, i < 4 ∧ nth 0 t.mem.crcOwner (4 + i) = 0) →
    let seed := if fl.testBit 1 then base
      else checkSeed alg base (BitVec.ofNat 64 (e.u 0x20 8)) (BitVec.ofNat 32 (e.u 0x28 4))
    let reg := checkReg alg seed (e.data.take e.dataLen)
    ∃ u : State, SameBut [.mem] t u ∧ u.mem = { t.mem with crcBytes := stat t.mem.crcBytes e.dataLen } ∧
      exec (.diagCrc e) s =
        .next (u.ok f (if alg = 2 ∨ fl.testBit 0 = true then reg else reg ^^^ 0xFFFFFFFF).toNat seed.toNat [])) ∧
  (∀ (e : Entry) (s t : State) (f : Flight), Dispatched 0x0F40 e s f t → 1 ≤ e.u 0x18 1 → e.u 0x18 1 ≤ 31 →
    e.u 0x19 1 ≤ 1 → allZero (e.bytes 0x1A 38) = true → t.inBuild = false →
    ∃ u, exec (.diagMemTest e) s = .next u ∧ SameBut [.host, .camera, .engines, .mem] t u ∧
      u.mem = { t.mem with tests := t.mem.tests ++ [{
        flight := f.id, targets := BitVec.ofNat 32 (e.u 0x18 1), pattern := e.u 0x19 1 }] })

/-- For dispatched entries that name a declared axis in a state that R307 and R308 allow: AXIS_STATUS completes with AX_STATE, AX_POS, AX_COUNT and AX_DEV. AXIS_ENABLE, AXIS_HOME, AXIS_MOVE, AXIS_JOG, AXIS_FOLLOW, AXIS_STOP and AXIS_SET_DYN name the next tick, and their action joins those that wait for it; AXIS_MOVE also names the end of the motion; an AXIS_SET_DYN whose dynamics the motion cannot take is kept for the next one, counted and DEFERRED. No other axis changes. At the tick the waiting actions take effect in order: enabling makes a disabled axis IDLE with p_add 0, disabling DISABLED; homing starts with p_add 0, for SSI at rest, away from a target that is qualified active, else towards it; a move, jog, follow or recoat move gives its mode and target; a stop of a moving axis brings it to STOPPING, with A_STOP HOMED clear without an encoder; new dynamics apply in a move, and at rest with the next motion. AXIS_RECOAT_RESUME from PILOT runs again the failed moves that are not at their targets, or fails with cause 9 where an axis is disabled or not homed. -/
def Obligations.AxisCommandsActAtTheNextTick : Prop :=
  (∀ (e : Entry) (s t : State) (f : Flight) (a : Nat) (h : EphAxis), a = e.u 0x18 1 → a < 8 → t.axisEntry? a = some h →
    let x := t.axis a
    let now := nextTick t.ix
    let idleOk : Prop := t.recoatDrives a = false ∧ x.mode ≠ .disabled
    let waits (u : State) (c : AxAction) : Prop :=
      u.axis a = { x with todo := x.todo ++ [c] } ∧ (∀ b, b ≠ a → u.axis b = t.axis b) ∧ SameBut [.axes] t u
    (Dispatched 0x0600 e s f t → (e.zeroFrom 0x19 39).1 = false →
      exec (.axisStatus e) s = .next (t.ok f (x.stateWord.toNat + unsignedOf 32 x.pos * 2 ^ 32)
        (unsignedOf 32 x.count + unsignedOf 32 x.dev * 2 ^ 32) [])) ∧
    (Dispatched 0x0640 e s f t → e.u 0x19 1 ≤ 1 → (e.zeroFrom 0x1A 38).1 = false → t.recoatDrives a = false →
      (e.u 0x19 1 = 0 → x.mode.moves = false) →
      ∃ u : State, exec (.axisEnable e) s = .next (u.ok f now 0 []) ∧ waits u (.enable (e.u 0x19 1 == 1))) ∧
    (Dispatched 0x0641 e s f t → (e.zeroFrom 0x19 39).1 = false → idleOk →
      ∃ u : State, exec (.axisHome e) s = .next (u.ok f now 0 []) ∧ waits u .home) ∧
    (∀ g : Int, Dispatched 0x0642 e s f t → g = (if e.u 0x19 1 = 1 then x.planPos now + e.s 0x1C 4 else e.s 0x1C 4) →
      e.u 0x19 1 ≤ 1 → (e.zeroFrom 0x1A 2).1 = false → (e.zeroFrom 0x20 32).1 = false → idleOk → h.softMin ≤ g →
      g ≤ h.softMax → (x.planPos now < g → x.limPos.qualified = false) →
      (g < x.planPos now → x.limNeg.qualified = false) → x.homed = true →
      ∃ u : State, exec (.axisMove e) s = .next (u.ok f now (((u.axis a).acts h now).planEnd now) []) ∧ waits u (.move g)) ∧
    (Dispatched 0x0643 e s f t → (e.zeroFrom 0x19 3).1 = false → (e.zeroFrom 0x20 32).1 = false → e.s 0x1C 4 ≠ 0 →
      idleOk → (0 < e.s 0x1C 4 → x.limPos.qualified = false) → (e.s 0x1C 4 < 0 → x.limNeg.qualified = false) →
      absI (e.s 0x1C 4) ≤ (x.freshDyn.v : Int) → (x.homed = false → absI (e.s 0x1C 4) ≤ (x.homeV.toNat : Int)) →
      ∃ u : State, exec (.axisJog e) s = .next (u.ok f now 0 []) ∧ waits u (.jog (e.s 0x1C 4))) ∧
    (Dispatched 0x0644 e s f t → (e.zeroFrom 0x19 39).1 = false → idleOk → h.stepIn = true →
      ∃ u : State, exec (.axisFollow e) s = .next (u.ok f now 0 []) ∧ waits u .follow) ∧
    (Dispatched 0x0645 e s f t → (e.zeroFrom 0x1A 38).1 = false → e.u 0x19 1 ≤ 1 →
      ∃ u : State, exec (.axisStop e) s = .next (u.ok f now 0 []) ∧ waits u (.stop (e.u 0x19 1 == 1))) ∧
    (∀ v acc, Dispatched 0x0646 e s f t → v = e.u 0x1C 4 → acc = e.u 0x20 4 → (e.zeroFrom 0x19 3).1 = false →
      (e.zeroFrom 0x24 28).1 = false → 1 ≤ v → v ≤ h.vMax → 1 ≤ acc → acc ≤ h.aMax →
      ((x.acts h now).dynFits h (axDyn v acc h.jMax) now = true →
        ∃ u : State, exec (.axisSetDyn e) s = .next (u.ok f now 0 []) ∧ waits u (.dyn v acc false)) ∧
      ((x.acts h now).dynFits h (axDyn v acc h.jMax) now = false →
        ∃ u : State, exec (.axisSetDyn e) s = .next (u.finish f 0x0A01 (BitVec.ofNat 64 now) 0 false []) ∧ SameBut [.axes] t u ∧
          (∀ b, b ≠ a → u.axis b = t.axis b) ∧
          u.axis a = { x with todo := x.todo ++ [.dyn v acc true], profileKept := true, kept := x.kept.inc }))) ∧
  (∀ (h : EphAxis) (k : Nat) (x : Axis),
    (x.acts h k).todo = [] ∧ (x.act h k (.enable false)).mode = .disabled ∧
    (x.mode = .disabled → x.act h k (.enable true) =
      { x with mode := .idle, plan := [], rest := x.pNext - x.offset, pAdd := 0, fed := true }) ∧
    ((x.act h k .home).mode = .homing ∧ (x.act h k .home).pAdd = 0 ∧ (x.act h k .home).latched = none ∧
      (x.act h k .home).homeStage =
        if h.ssi = true then .ssi else if (x.switch (x.homeTarget h)).qualified = true then .away else .approach) ∧
    (∀ g, (x.act h k (.move g)).mode = .move ∧ (x.act h k (.move g)).target = g ∧ (x.act h k (.move g)).causeAtRest = 1 ∧
      (x.act h k (.recoat g)).mode = .recoat ∧ (x.act h k (.recoat g)).target = g) ∧
    (∀ v, (x.act h k (.jog v)).mode = .jog ∧ (x.act h k (.jog v)).jogVel = v) ∧
    ((x.act h k .follow).mode = .follow ∧ (x.act h k .follow).followN = 0 ∧ (x.act h k .follow).edge0 = none) ∧
    (∀ fast, (x.mode.moves = true → (x.act h k (.stop fast)).mode = .stopping ∧
        (x.act h k (.stop fast)).homed = (x.homed && !(fast && !h.encoder)) ∧
        (x.mode ≠ .stopping → (x.act h k (.stop fast)).causeAtRest = 2)) ∧
      (x.mode.moves = false → x.act h k (.stop fast) = x)) ∧
    (∀ v acc, (x.mode = .idle → x.act h k (.dyn v acc false) = { x with nextDyn := some (v, acc) }) ∧
      (x.mode = .move ∨ x.mode = .recoat → (x.act h k (.dyn v acc false)).v = v ∧ (x.act h k (.dyn v acc false)).a = acc ∧
        (x.act h k (.dyn v acc false)).mode = x.mode ∧ (x.act h k (.dyn v acc false)).target = x.target))) ∧
  (∀ (e : Entry) (s t : State) (f : Flight), Dispatched 0x0647 e s f t → (e.zeroFrom 0x18 40).1 = false →
    (t.slot f.slot).held &&& rolePilot ≠ 0 → t.recoat.state = .failed →
    ((∀ m ∈ t.recoat.failed, (t.axis m.axis).mode ≠ .disabled ∧ (t.axis m.axis).homed = true) →
      ∃ u : State, exec (.axisRecoatResume e) s = .next (u.ok f (nextTick t.ix) 0 []) ∧ SameBut [.axes, .recoat] t u ∧
        u.recoat = { t.recoat with
          state := t.recoat.failState, failed := []
          running := t.recoat.running ++
            t.recoat.failed.filter fun m => (t.axis m.axis).planPos (nextTick t.ix) != m.target }) ∧
    ((∃ m ∈ t.recoat.failed, (t.axis m.axis).mode = .disabled ∨ (t.axis m.axis).homed = false) →
      ∃ u : State, exec (.axisRecoatResume e) s = .next (u.ok f (nextTick t.ix) 0 []) ∧
        SameBut [.recoat, .mem, .tail] t u ∧ u.recoat.state = .failed ∧ u.recoat.failCause = 9 ∧
        u.recoat.failed = t.recoat.failed))

/-- For a declared axis: an edge to the raw level a switch has does nothing, and one within a window is chatter, counted. A first active edge of a limit that p moves towards outside HOMING stops the axis with END_CAUSE 3, counted; in HOMING, one of a limit that is not the target aborts with END_CAUSE 4 and HOMED clear. A first active edge of the homing target in the approach latches the steps emitted by then. SWITCH_QUALIFY closes a window: the qualified level takes the raw level. STEP_IN_EDGE in FOLLOW counts by DIR_IN, and INTERP_TIMEOUT leaves p on its way to T, where a tick of FOLLOW never passes. A quadrature step counts by one, two inputs at once count an error and nothing else; Z latches the count; an SSI frame with a good line offers its value, and a bad one counts an error. Each event completes in every state. -/
def Obligations.AxisInputsStopLatchAndCount : Prop :=
  ∀ (s : State) (a : Nat) (h : EphAxis), a < 8 → s.axisEntry? a = some h →
    let x := s.axis a
    let quiet (sw : SwitchName) (level : Bool) (t : State) : Prop :=
      (h.active sw level = (x.switch sw).raw → t.axis a = x) ∧
      (h.active sw level ≠ (x.switch sw).raw → (x.switch sw).window = true →
        (t.axis a).chatter = x.chatter.inc ∧ (t.axis a).mode = x.mode ∧ (t.axis a).plan = x.plan)
    let first (sw : SwitchName) (level : Bool) : Prop :=
      (x.switch sw).raw = false ∧ (x.switch sw).window = false ∧ h.active sw level = true
    (∀ (up level : Bool), ∃ t, exec (.limitEdge a up level) s = .next t ∧ SameBut [.axes, .mem, .tail] s t ∧
      quiet (limitOf up) level t ∧
      (first (limitOf up) level → x.mode ≠ .homing →
        (x.towards up = true → (t.axis a).mode = .stopping ∧ (t.axis a).endCause = 3 ∧
          (t.axis a).limitStop = x.limitStop.inc ∧ (t.axis a).homed = (x.homed && h.encoder)) ∧
        (x.towards up = false → (t.axis a).mode = x.mode ∧ (t.axis a).plan = x.plan))) ∧
    (∀ (up level : Bool) (ns : Nat), ∃ t, exec (.homingLimit a up level ns) s = .next t ∧ SameBut [.axes, .mem, .tail] s t ∧
      quiet (limitOf up) level t ∧
      (first (limitOf up) level → x.mode = .homing → x.homeTarget h ≠ limitOf up →
        (t.axis a).mode = .stopping ∧ (t.axis a).endCause = 4 ∧ (t.axis a).homed = false)) ∧
    (∀ (sw : SwitchName) (level : Bool) (ns : Nat), ∃ t, exec (.homeEdge a ⟨sw, level⟩ ns) s = .next t ∧
      SameBut [.axes, .mem, .tail] s t ∧ quiet sw level t ∧
      (first sw level → (x.switch sw).qualified = false → x.mode = .homing → x.homeStage = .approach → sw = x.homeTarget h →
        (t.axis a).latched = some ((x.emit ns).pos, x.count) ∧ (t.axis a).homeLatch = (x.emit ns).pos)) ∧
    (∀ sw : SwitchName, ∃ t, exec (.switchQualify a sw) s = .next t ∧ SameBut [.axes] s t ∧
      ((x.switch sw).window = true →
        (t.axis a).switch sw = { x.switch sw with window := false, qualified := (x.switch sw).raw }) ∧
      ((x.switch sw).window = false → t.axis a = x)) ∧
    (∀ (d : Bool) (ns : Nat), ∃ t, exec (.stepInEdge a d ns) s = .next t ∧ SameBut [.axes] s t ∧
      (x.mode = .follow → (t.axis a).followN = x.followN + (if d then 1 else -1) ∧
        (t.axis a).edge0 = some ns ∧ (t.axis a).mode = .follow) ∧
      (x.mode ≠ .follow → t.axis a = x)) ∧
    exec (.interpTimeout a) s = .next s ∧
    (∀ k, x.mode = .follow → x.followFrom ≤ k → x.followRate ≥ 0 → (x.planAt k).p ≤ x.followT →
      ((x.followTick k).planAt (k + tickLen)).p ≤ x.followT) ∧
    (∀ ab, ab < 4 → ∃ t, exec (.quadTransition a ab) s = .next t ∧ SameBut [.axes] s t ∧
      (h.quad = false → t.axis a = x) ∧
      (h.quad = true → (t.axis a).ab = ab ∧
        (x.ab = ab → (t.axis a).count = x.count ∧ (t.axis a).quadErr = x.quadErr) ∧
        ((x.ab, ab) ∈ [(0, 2), (2, 3), (3, 1), (1, 0)] →
          (t.axis a).count = signedOf 32 (unsignedOf 32 (x.count + 1)) ∧ (t.axis a).quadErr = x.quadErr) ∧
        ((x.ab, ab) ∈ [(2, 0), (3, 2), (1, 3), (0, 1)] →
          (t.axis a).count = signedOf 32 (unsignedOf 32 (x.count - 1)) ∧ (t.axis a).quadErr = x.quadErr) ∧
        ((x.ab, ab) ∈ [(0, 3), (3, 0), (1, 2), (2, 1)] →
          (t.axis a).count = x.count ∧ (t.axis a).quadErr = x.quadErr.inc))) ∧
    (∃ t, exec (.encoderZEdge a) s = .next t ∧ SameBut [.axes] s t ∧
      t.axis a = if h.quad then { x with encZ := x.count } else x) ∧
    (∀ (bits : Nat) (before after : Bool), ∃ t, exec (.ssiFrameEnd a bits before after) s = .next t ∧ SameBut [.axes] s t ∧
      (h.ssi = false ∨ x.ssiRun = false → t.axis a = x) ∧
      (h.ssi = true → x.ssiRun = true → (t.axis a).ssiRun = false ∧
        (before = true → after = true → (t.axis a).ssiErr = x.ssiErr ∧ (t.axis a).ssiNew = some (some
          (if bitOf x.cfg 16 then grayOf h.ssiBits (bits % 2 ^ h.ssiBits) else bits % 2 ^ h.ssiBits))) ∧
        (before = false ∨ after = false → (t.axis a).ssiNew = some none ∧ (t.axis a).ssiErr = x.ssiErr.inc)))

/-- For every axis that is homed and not disabled, with SOFT_MIN not above SOFT_MAX, whatever its profile, feed and offset: the commanded position of the tick lies within SOFT_MIN and SOFT_MAX, and a tick in which the clamp acts is counted. A disabled axis keeps its commanded position. SERVO_TICK of a powered core at a multiple of 80 samples runs what every declared axis finds at the tick, the recoat sequence, what every axis drives, and then what waits for them; else it does nothing. -/
def Obligations.HomedAxesStayWithinTheirSoftLimits : Prop :=
  (∀ (h : EphAxis) (feed offset : Int) (k : Nat) (x : Axis), h.softMin ≤ h.softMax → x.homed = true → x.mode ≠ .disabled →
    let y := x.drive h feed offset k
    (h.softMin : Rat) ≤ y.pNext ∧ y.pNext ≤ (h.softMax : Rat) ∧ y.p = x.pNext ∧ y.homed = true ∧
    (y.softClamp = x.softClamp ∨ y.softClamp = x.softClamp.inc)) ∧
  (∀ (h : EphAxis) (feed offset : Int) (k : Nat) (x : Axis), x.mode = .disabled →
    (x.drive h feed offset k).pNext = x.pNext ∧ (x.drive h feed offset k).due = x.due) ∧
  (∀ s : State, s.power.core = true → s.tickAt tickLen = true →
    exec .servoTick s = .next ((((s.axesTick s.ix).recoatTick s.ix).axesDrive s.ix).syzygyGo s.ix).endIfParked) ∧
  (∀ s : State, s.power.core = false ∨ s.tickAt tickLen = false → exec .servoTick s = .next s)

/-- For dispatched CAM entries whose checks pass: CAM_FRAME_INFO, CAM_HIST_READ and CAM_ZONE_READ of a delivered frame that is still kept (FRAME 0 names the last delivered) complete with its 32-byte record, its 256 histogram bins and its 256 zone means (log entry 30: a zone without pixels reads zero). CAM_FRAME_READ completes with ROWS rows of pixels from ROW on, or of embedded lines with EMB, while no line of the DRAM channels 2 to 7 is poisoned, and changes only which slot counts as being copied (log entry 64). CAM_TRIGGER of declared sensors puts the edge of each max(0, 240 samples - TRIG_DLY) after the present sample: an edge that has come triggers its sensor, with a new frame of the next number and its window TRIG_DLY after the edge, or only counts a skip while a frame is outstanding; it completes with the mask of the sensors triggered and the edge of the first when no edge is left to come, and else waits with the edges to come (before the epoch, all of them). CAM_DEFECT_LOAD and CAM_SHADING_LOAD of a declared context replace its table and nothing else. -/
def Obligations.CameraCommandsReadTriggerAndLoad : Prop :=
  ∀ (e : Entry) (s t : State) (f : Flight) (i n : Nat), i = e.u 0x18 1 → i < 8 → n = e.u 0x1C 4 →
    (∀ (c : CamStored), (t.sensorEntry? i).isSome = true →
      (t.sensor i).stored.find? (fun d => d.frame.number == if n = 0 then (t.sensor i).delivered else n) = some c →
      ((e.zeroFrom 0x19 3).1 = false → (e.zeroFrom 0x20 32).1 = false →
        (Dispatched 0x0700 e s f t → 32 ≤ e.room →
          exec (.camFrameInfo e) s = .next (t.ok f 0 0 (c.frame.record i))) ∧
        (Dispatched 0x0701 e s f t → 1024 ≤ e.room →
          exec (.camHistRead e) s = .next (t.ok f 0 0 (c.hist.flatMap (leBytes 4)))) ∧
        (Dispatched 0x0703 e s f t → 512 ≤ e.room →
          exec (.camZoneRead e) s = .next (t.ok f 0 0 (c.zones.flatMap fun z => leBytes 2 (z.getD 0))))) ∧
      (∀ (px : List (List Nat)) (data : List Byte), Dispatched 0x0702 e s f t → e.u 0x19 1 ≤ 1 →
        (e.zeroFrom 0x1A 2).1 = false → (e.zeroFrom 0x24 28).1 = false → e.u 0x22 2 ≠ 0 → c.pixels = some px →
        (e.u 0x19 1 = 0 → e.u 0x20 2 + e.u 0x22 2 ≤ px.length ∧
          data = ((px.drop (e.u 0x20 2)).take (e.u 0x22 2)).flatMap fun r => r.flatMap (leBytes 2)) →
        (e.u 0x19 1 = 1 → e.u 0x20 2 + e.u 0x22 2 ≤ c.frame.emb.length ∧
          data = ((c.frame.emb.drop (e.u 0x20 2)).take (e.u 0x22 2)).flatten) →
        data.length ≤ e.room → (t.mem.poison.filter fun p => decide (2 ≤ p.1)) = [] →
        ∃ u : State, exec (.camFrameRead e) s = .next (u.ok f 0 0 data) ∧ SameBut [.camera] t u ∧
          u.sensor i = { t.sensor i with
            copying := (t.sensor i).copying ++ if e.u 0x19 1 = 1 then [] else [c.frame.number] } ∧
          (∀ k, k ≠ i → u.sensor k = t.sensor k) ∧ u.camera.contexts = t.camera.contexts)) ∧
    (Dispatched 0x0740 e s f t → (e.zeroFrom 0x19 39).1 = false →
      (∀ k, k < 8 → (e.u 0x18 1).testBit k = true → (t.sensorEntry? k).isSome = true) →
      let dly (k : Nat) : Nat := 4 * fieldOf (t.sensor k).trig 15 0
      let later (k : Nat) : Bool := (e.u 0x18 1).testBit k && (t.time.preEpoch || decide (dly k < 240))
      let now (k : Nat) : Bool := (e.u 0x18 1).testBit k && !later k
      let hit (k : Nat) : Bool := now k && (t.sensor k).cur.isNone
      let acted (u : State) : Prop := ∀ k, k < 8 →
        (hit k = true → (u.sensor k).lastFrame = (t.sensor k).lastFrame + 1 ∧
          ∃ g, (u.sensor k).cur = some g ∧ g.number = (t.sensor k).lastFrame + 1 ∧ g.trig = t.ix ∧
            g.winStart = g.trig + dly k ∧ g.winEnd = g.winStart + 4 * g.expUs ∧ g.opened = false) ∧
        (now k = true → (t.sensor k).cur.isSome = true →
          u.sensor k = { t.sensor k with skipCnt := (t.sensor k).skipCnt.inc }) ∧
        (now k = false → u.sensor k = t.sensor k)
      ((∀ k, k < 8 → later k = false) →
        ∃ u : State, exec (.camTrigger e) s =
            .next (u.ok f (maskOf 8 hit).toNat (if maskOf 8 hit = 0 then 0 else t.ix) []) ∧
          SameBut [.camera, .power] t u ∧ acted u) ∧
      ((∃ k, k < 8 ∧ later k = true) →
        ∃ (u : State) (w : CamWait), exec (.camTrigger e) s = .next u ∧ SameBut [.host, .camera, .power] t u ∧ acted u ∧
          u.camera.waiting = t.camera.waiting ++ [w] ∧ w.flight = f.id ∧ w.mask = (maskOf 8 hit).toNat ∧
          ∀ k at_, (k, at_) ∈ w.edges ↔ k < 8 ∧ later k = true ∧ at_ = t.ix + (240 - dly k))) ∧
    (∀ m : Nat, m = e.u 0x1A 2 → Dispatched 0x0741 e s f t → (e.zeroFrom 0x19 1).1 = false →
      (e.zeroFrom 0x1C 36).1 = false → m ≤ 4096 → t.ctxDeclared i = true → e.dataLen = 4 * m →
      (e.inline = true → 4 * m ≤ 1344) → (∀ j, j + 1 < m → e.d (4 * j) 4 < e.d (4 * (j + 1)) 4) →
      ∃ u : State, exec (.camDefectLoad e) s = .next (u.ok f 0 0 []) ∧ SameBut [.camera] t u ∧
        u.camCtx i = { t.camCtx i with
          defects := (List.range m).map fun j => (e.d (4 * j) 4 / 65536, e.d (4 * j) 4 % 65536) } ∧
        (∀ c, c ≠ i → u.camCtx c = t.camCtx c) ∧ u.camera.sensors = t.camera.sensors) ∧
    (Dispatched 0x0742 e s f t → (e.zeroFrom 0x19 39).1 = false → t.ctxDeclared i = true → e.dataLen = 578 →
      ∃ u : State, exec (.camShadingLoad e) s = .next (u.ok f 0 0 []) ∧ SameBut [.camera] t u ∧
        u.camCtx i = { t.camCtx i with gains := (List.range 289).map fun j => e.d (2 * j) 2 } ∧
        (∀ c, c ≠ i → u.camCtx c = t.camCtx c) ∧ u.camera.sensors = t.camera.sensors)

/-- For a declared sensor: PERIODIC_TRIGGER at a multiple of PERIOD triggers it, or counts a skip with a frame outstanding; else it does nothing. A frame start opens the outstanding frame, or closes an open one as SHORT; one that no trigger awaits, or on a channel that no sensor declares, is only counted. An image line of the right length is kept while blocks are free, is discarded with OVERRUN when they are not, and beyond HEIGHT counts in EXTRA and marks LONG; a wrong word count marks WC_ERR and a bad CRC marks CRC_ERR and counts; embedded lines are kept up to EMB_LINES; a packet for no open frame or of another type is only counted. An uncorrectable header counts and marks HDR_ERR. A frame end, and a timeout after the start, close the frame, SHORT when lines are missing; a timeout without a start closes it MISSING. PIPELINE_UNIT_DONE passes a unit's lines, and the last one delivers the frame. EXPOSURE_END ends the windows that have ended, and with no other one near lowers the sensor's wires; then Syzygy goes on. CCI_WRITES_DONE makes a new generation; the first CCI_NAK of a register retries, the second abandons the set with CCI_ERR. -/
def Obligations.FramesOpenFillAndClose : Prop :=
  (∀ (s : State) (port vc : Nat) (ecc : Bool), port < 2 → s.vcSensor? port vc = none →
    (∃ t, exec (.csiFrameStart port vc ecc) s = .next t ∧ SameBut [.camera, .cal] s t ∧
      (nth {} t.camera.ports port).unexp = (nth {} s.camera.ports port).unexp.inc ∧
      t.camera.sensors = s.camera.sensors) ∧
    (∃ t, exec (.csiFrameEnd port vc ecc) s = .next t ∧ SameBut [.camera] s t ∧
      (nth {} t.camera.ports port).unexp = (nth {} s.camera.ports port).unexp.inc ∧
      t.camera.sensors = s.camera.sensors) ∧
    (∀ p : CsiPacket, p.vc = vc → ∃ t, exec (.csiLongPacket port p) s = .next t ∧ SameBut [.camera] s t ∧
      (nth {} t.camera.ports port).unexp = (nth {} s.camera.ports port).unexp.inc ∧
      t.camera.sensors = s.camera.sensors) ∧
    (∃ t, exec (.csiHeaderError port vc) s = .next t ∧ SameBut [.camera] s t ∧
      (nth {} t.camera.ports port).hdr = (nth {} s.camera.ports port).hdr.inc ∧
      t.camera.sensors = s.camera.sensors)) ∧
  (∀ (s : State) (port vc i : Nat) (e : EphSensor), port < 2 → s.vcSensor? port vc = some e → i = e.sensor → i < 8 →
    let x := s.sensor i
    (∀ ecc : Bool, x.cur = none → ∃ t, exec (.csiFrameStart port vc ecc) s = .next t ∧ SameBut [.camera, .cal] s t ∧
      (nth {} t.camera.ports port).unexp = (nth {} s.camera.ports port).unexp.inc ∧ t.sensor i = x) ∧
    (∀ ecc : Bool, x.cur.any (·.opened) = false → ∃ t, exec (.csiFrameEnd port vc ecc) s = .next t ∧ SameBut [.camera] s t ∧
      (nth {} t.camera.ports port).unexp = (nth {} s.camera.ports port).unexp.inc ∧ t.sensor i = x) ∧
    (∀ p : CsiPacket, p.vc = vc → x.cur.any (·.opened) = false ∨ (p.dt ≠ e.dataType ∧ p.dt ≠ 0x12) →
      ∃ t, exec (.csiLongPacket port p) s = .next t ∧ SameBut [.camera] s t ∧
        (nth {} t.camera.ports port).unexp = (nth {} s.camera.ports port).unexp.inc ∧ t.sensor i = x) ∧
    (∃ t, exec (.csiHeaderError port vc) s = .next t ∧ SameBut [.camera] s t ∧
      (nth {} t.camera.ports port).hdr = (nth {} s.camera.ports port).hdr.inc ∧
      t.sensor i = { x with cur := x.cur.map fun g => if g.opened = true then { g with hdrErr := true } else g }) ∧
    (∀ f : CamFrame, x.cur = some f →
      (∀ ecc : Bool,
        (f.opened = false → ∃ t, exec (.csiFrameStart port vc ecc) s = .next t ∧ SameBut [.camera, .cal] s t ∧
          ∃ g, (t.sensor i).cur = some g ∧ g.opened = true ∧ g.fs = s.ix ∧ g.number = f.number ∧ g.lines = f.lines ∧
            g.ctx = e.context ∧ g.vals = (s.camCtx e.context).live) ∧
        (f.opened = true → ∃ t, exec (.csiFrameStart port vc ecc) s = .next t ∧
          SameBut [.camera, .cal, .eph, .outbox] s t ∧ (t.sensor i).cur = none ∧
          (t.sensor i).shortCnt = x.shortCnt.inc) ∧
        (f.opened = true → ∃ t, exec (.csiFrameEnd port vc ecc) s = .next t ∧ SameBut [.camera, .eph, .outbox] s t ∧
          (t.sensor i).cur = none ∧
          (t.sensor i).shortCnt = (if f.lines.length < e.height then x.shortCnt.inc else x.shortCnt) ∧
          (t.sensor i).longCnt = (if f.long = true then x.longCnt.inc else x.longCnt) ∧
          (t.sensor i).missingCnt = x.missingCnt)) ∧
      (∀ (p : CsiPacket) (bits : Nat), f.opened = true → p.vc = vc → p.dt = e.dataType ∨ p.dt = 0x12 → e.dataType ≠ 0x12 →
        bits = (if e.dataType = 0x2B then 10 else if e.dataType = 0x2C then 12 else 14) →
        ∃ (t : State) (g : CamFrame), exec (.csiLongPacket port p) s = .next t ∧ SameBut [.camera] s t ∧
          (t.sensor i).cur = some g ∧ g.crcErr = (f.crcErr || !p.crcOk) ∧
          (nth {} t.camera.ports port).crc =
            (if p.crcOk = true then (nth {} s.camera.ports port).crc else (nth {} s.camera.ports port).crc.inc) ∧
          (p.payload.length ≠ e.width * bits / 8 → g.wcErr = true ∧ g.lines = f.lines) ∧
          (p.payload.length = e.width * bits / 8 → p.dt = 0x12 → g.lines = f.lines ∧
            g.emb = if f.emb.length < e.embLines then f.emb ++ [p.payload] else f.emb) ∧
          (p.payload.length = e.width * bits / 8 → p.dt = e.dataType →
            (e.height ≤ f.lines.length → g.long = true ∧ g.extra = min 0xFFFF (f.extra + 1) ∧ g.lines = f.lines) ∧
            (f.lines.length < e.height → 2048 < s.blocksUsed + e.lineBlocks → g.overrun = true ∧ g.lines = f.lines ∧
              (t.sensor i).overrunCnt = (if f.overrun = true then x.overrunCnt else x.overrunCnt.inc)) ∧
            (f.lines.length < e.height → s.blocksUsed + e.lineBlocks ≤ 2048 →
              g.lines = f.lines ++ [unpackRaw e.dataType e.width p.payload] ∧ g.overrun = f.overrun ∧
              (t.sensor i).overrunCnt = x.overrunCnt))))) ∧
  (∀ (s : State) (i : Nat) (e : EphSensor), i < 8 → s.sensorEntry? i = some e → e.sensor = i →
    let x := s.sensor i
    let tmo := 4000 * fieldOf x.trig 27 16
    (bitOf x.trig 30 = false ∨ s.tickAt x.period.toNat = false → exec (.periodicTrigger i) s = .next s) ∧
    (x.cur = none → exec (.frameTimeout i) s = .next s) ∧
    (bitOf x.trig 30 = true → s.tickAt x.period.toNat = true → x.cur = none →
      ∃ t, exec (.periodicTrigger i) s = .next t ∧ SameBut [.camera, .power] s t ∧ (t.sensor i).lastFrame = x.lastFrame + 1 ∧
        ∃ g, (t.sensor i).cur = some g ∧ g.number = x.lastFrame + 1 ∧ g.trig = s.ix ∧
          g.winStart = s.ix + 4 * fieldOf x.trig 15 0 ∧ g.winEnd = g.winStart + 4 * g.expUs) ∧
    (bitOf x.trig 30 = true → s.tickAt x.period.toNat = true → x.cur.isSome = true →
      ∃ t, exec (.periodicTrigger i) s = .next t ∧ SameBut [.camera] s t ∧
        t.sensor i = { x with skipCnt := x.skipCnt.inc }) ∧
    (∀ ms, exec (.exposureEnd ⟨i, ms⟩) s = .next ((s.closeWindow i ms).syzygyGo (s.ix + 1)) ∧
      (let u := s.closeWindow i ms
       SameBut [.camera, .halo, .job, .tail] s u ∧
       u.sensor i = { x with wins := x.wins.filter fun w => decide (s.ix + 1 < w.fin) } ∧
       ((∃ w ∈ x.wins, w.fin ≤ s.ix + 1) → u.windowNear i (s.ix + 1) 4 = false →
         bitOf u.halo.exposing i = false ∧ bitOf u.halo.strobing i = false) ∧
       ((∀ w ∈ x.wins, s.ix + 1 < w.fin) → u = s))) ∧
    (∀ f, x.cur = some f →
      ((f.opened = true → s.ix + 1 < f.fs + tmo) → (f.opened = false → s.ix + 1 < f.winEnd + tmo) →
        exec (.frameTimeout i) s = .next s) ∧
      (f.opened = true → f.fs + tmo ≤ s.ix + 1 → ∃ t, exec (.frameTimeout i) s = .next t ∧ (t.sensor i).cur = none ∧
        (t.sensor i).shortCnt = x.shortCnt.inc ∧ SameBut [.camera, .eph, .outbox] s t) ∧
      (f.opened = false → f.winEnd + tmo ≤ s.ix + 1 → ∃ t, exec (.frameTimeout i) s = .next t ∧ (t.sensor i).cur = none ∧
        (t.sensor i).missingCnt = x.missingCnt.inc ∧ (t.sensor i).shortCnt = x.shortCnt ∧
        SameBut [.camera, .eph, .outbox] s t)) ∧
    (s.camera.unit = none → exec .pipelineUnitDone s = .next s) ∧
    (∀ (u : CamUnit) (f : CamFrame), s.camera.unit = some u → u.sensor = i → u.frame = f.number →
      (x.closing = [] → x.cur = some f → f.opened = true → f.closed = false → e.mode ≠ 0 →
        ∃ t, exec .pipelineUnitDone s = .next t ∧ SameBut [.camera] s t ∧
          (t.sensor i).cur = some { f with done := f.done + u.lines }) ∧
      (x.closing = [f] → f.closed = true → e.mode = 0 ∨ f.done + u.lines = f.lines.length →
        ∃ t, exec .pipelineUnitDone s = .next t ∧ SameBut [.camera, .eph] s t ∧ (t.sensor i).closing = [] ∧
          (t.sensor i).delivered = f.number ∧
          ∃ c, (t.sensor i).stored.head? = some c ∧ c.frame = { f with
              done := f.lines.length, noSlot := x.slots != 0 && x.slotFor.isNone } ∧
            c.hist = histOf (f.stage4 e))) ∧
    (∀ r : Nat, x.writing = none → exec (.cciWritesDone i) s = .next s ∧ exec (.cciNak i r) s = .next s) ∧
    (∀ v, x.writing = some v →
      (∃ t, exec (.cciWritesDone i) s = .next t ∧ SameBut [.camera, .outbox] s t ∧ (x.pending = none →
        (t.sensor i).writing = none ∧ (t.sensor i).inForce = v ∧ (t.sensor i).genLast = x.genLast + 1 ∧
        (t.sensor i).gens = x.gens ++ [{ gen := x.genLast + 1, time := v.time, first := none }])) ∧
      (∀ r : Nat, r ∉ v.writes.map (fieldOf · 31 16) → exec (.cciNak i r) s = .next s) ∧
      (∀ r : Nat, r ∈ v.writes.map (fieldOf · 31 16) → r ∉ x.retried → ∃ t, exec (.cciNak i r) s = .next t ∧ SameBut [.camera, .outbox] s t ∧
        t.sensor i = { x with retried := x.retried ++ [r] }) ∧
      (∀ r : Nat, r ∈ v.writes.map (fieldOf · 31 16) → r ∈ x.retried → ∃ t, exec (.cciNak i r) s = .next t ∧ SameBut [.camera, .outbox, .tail] s t ∧
        (t.sensor i).cciErr = true ∧
        (x.pending = none → t.sensor i = { x with writing := none, retried := [], cciErr := true }))))

/-- For every frame and every sensor number below 256, with fields that fit their width: the record is 32 bytes. At 0x00 stands FRAME, at 0x04 SENSOR, at 0x05 CONTEXT, at 0x06 GEN, at 0x08 STATUS (bit 0 SHORT, 1 LONG, 2 CRC_ERR, 3 OVERRUN, 4 MISSING, 5 NO_SLOT, 6 HDR_ERR, 7 WC_ERR; bits 15 to 8 zero), at 0x0A LINES, at 0x0C EXTRA, at 0x0E EMB, at 0x0F zero, at 0x10 TRIG_SAMPLE, at 0x14 FS_SAMPLE (0 if MISSING), at 0x18 FE_SAMPLE, each the low 32 bits of SAMPLE_IX, and at 0x1C EXP_US; all little-endian. Sample fields so stored are compared by signed 32-bit difference (R28): seqDiff of two samples less than 2^31 apart is their difference. -/
def Obligations.FrameRecordsHaveTheirLayout : Prop :=
  (∀ (f : CamFrame) (i : Nat), i < 256 → f.ctx < 256 → f.number < 2 ^ 32 → f.lines.length < 2 ^ 16 →
    f.extra < 2 ^ 16 → f.emb.length < 256 → f.expUs < 2 ^ 32 →
    let r := f.record i
    r.length = 32 ∧ uAt r 0x00 4 = f.number ∧ uAt r 0x04 1 = i ∧ uAt r 0x05 1 = f.ctx ∧ uAt r 0x06 2 = f.gen.toNat ∧
    (uAt r 0x08 2).testBit 0 = f.short ∧ (uAt r 0x08 2).testBit 1 = f.long ∧ (uAt r 0x08 2).testBit 2 = f.crcErr ∧
    (uAt r 0x08 2).testBit 3 = f.overrun ∧ (uAt r 0x08 2).testBit 4 = f.missing ∧
    (uAt r 0x08 2).testBit 5 = f.noSlot ∧ (uAt r 0x08 2).testBit 6 = f.hdrErr ∧ (uAt r 0x08 2).testBit 7 = f.wcErr ∧
    uAt r 0x08 2 < 256 ∧ uAt r 0x0A 2 = f.lines.length ∧ uAt r 0x0C 2 = f.extra ∧ uAt r 0x0E 1 = f.emb.length ∧
    uAt r 0x0F 1 = 0 ∧ uAt r 0x10 4 = f.trig % 2 ^ 32 ∧
    uAt r 0x14 4 = (if f.missing = true then 0 else f.fs % 2 ^ 32) ∧ uAt r 0x18 4 = f.fe % 2 ^ 32 ∧
    uAt r 0x1C 4 = f.expUs) ∧
  (∀ a b : Nat, (a : Int) - b < 2 ^ 31 → -(2 ^ 31) ≤ (a : Int) - b →
    seqDiff 32 (a % 2 ^ 32) (b % 2 ^ 32) = (a : Int) - b)

/-- A dispatched TIME_STATUS completes with seconds, nanoseconds and PTP_STATUS. A TIME_SET with fields in range, STATE 0 or 1 and DATA_STATE 1 completes with the SAMPLE_IX of the new time (0 before the epoch), puts the servo in FREE_RUN and leaves machine time until the next sample, whose tick sets T to it, counts a step and derives SAMPLE_IX. A sample without such a step takes T to the next instant that lies a whole number of 250 ns from the epoch, and adds one to SAMPLE_IX unless the epoch is still to come. EPOCH_REACHED derives SAMPLE_IX once machine time has come to the epoch, and before does nothing. A phase slew moves 2.5 ps towards zero and stops there, and the total rate stays within 110 ppm. -/
def Obligations.MachineTimeIsReadSetAndDerived : Prop :=
  (∀ (e : Entry) (s t : State) (f : Flight),
    (Dispatched 0x0A00 e s f t → (e.zeroFrom 0x18 40).1 = false →
      exec (.timeStatus e) s = .next (t.ok f (t.time.t / 65536 / 1000000000 % 2 ^ 48)
        (t.time.t / 65536 % 1000000000 + t.ptpStatusWord.toNat * 2 ^ 32) [])) ∧
    (∀ new : Nat, new = (e.u 0x18 8 * 1000000000 + e.u 0x20 4) * 65536 → Dispatched 0x0A40 e s f t →
      (e.zeroFrom 0x24 28).1 = false → e.u 0x18 8 < 2 ^ 48 → e.u 0x20 4 < 1000000000 →
      t.time.state = .unset ∨ t.time.state = .freeRun → t.planes.data = .idle →
      ∃ u : State, exec (.timeSet e) s =
          .next (u.ok f (if new < t.epoch then 0 else (new - t.epoch) / (250 * 65536) % 2 ^ 48) 0 []) ∧
        SameBut [.time] t u ∧ u.time.setTo = some new ∧ u.time.state = .freeRun ∧ u.time.t = t.time.t ∧
        u.time.ix = t.time.ix)) ∧
  (∀ s : State,
    (∀ v, s.time.setTo = some v → s.timeTick.time.t = v ∧ s.timeTick.time.setTo = none ∧
      s.timeTick.time.stepCnt = s.time.stepCnt.inc ∧ s.timeTick.time.preEpoch = decide (v < s.epoch) ∧
      s.timeTick.time.ix = BitVec.ofNat 48 ((v - s.epoch) / (250 * 65536))) ∧
    (∀ t, t < s.nextStart t ∧ s.nextStart t ≤ t + 250 * 65536 ∧
      (((s.nextStart t : Int) - (s.epoch : Int)) % (250 * 65536) = 0)) ∧
    (s.time.preEpoch = false ∨ s.time.t < s.epoch → exec .epochReached s = .next s) ∧
    (s.time.setTo = none → s.timeTick.time.t = s.nextStart s.time.t ∧
      s.timeTick.time.ix = if s.time.preEpoch = true then s.time.ix else s.time.ix + 1) ∧
    (s.time.preEpoch = true → s.epoch ≤ s.time.t → ∃ t, exec .epochReached s = .next t ∧ SameBut [.time] s t ∧
      t.time.preEpoch = false ∧ t.time.ix = BitVec.ofNat 48 ((s.time.t - s.epoch) / (250 * 65536)) ∧
      t.time.t = s.time.t)) ∧
  (∀ p : Rat, (0 ≤ p → slewed p = max 0 (p - 1 / 400)) ∧ (p ≤ 0 → slewed p = min 0 (p + 1 / 400))) ∧
  (∀ r : Rat, -11000000 ≤ clampRate r ∧ clampRate r ≤ 11000000 ∧
    (-11000000 ≤ r → r ≤ 11000000 → clampRate r = r))

/-- On a port that is up in MODE 1: a frame that matches a live entry of the same direction is discarded and counted as a duplicate. One that does not, from another source and not addressed to the device, is noted, and leaves by the other port with its FCS marked bad where it was damaged or of a wrong length, which is counted; if that port's queue has no room it is dropped and counted, and on a port out of service it goes nowhere. A frame from the device's own MAC is never sent on. A sound supervision frame counts once, from its first copy. In another MODE nothing is forwarded; on a port that is not up nothing happens. SUPERVISION_TIMER in MODE 1 sends one frame with one sequence number and its HSR tag, whose LSDU size is a free value (the spec states none), on each port in service, and else nothing. RING_BLOCK_LOCK sets the block lock of a port in use, and of no other. -/
def Obligations.RingFramesAreForwardedTakenOrDropped : Prop :=
  (∀ (s : State) (p : Nat) (f : RingFrame), s.ringUp p = false → exec (.ringFrame p f) s = .next s) ∧
  (∀ (s : State) (p : Nat) (f : RingFrame), p < 2 → s.ringUp p = true →
    let bad : Bool := !f.fcsOk || decide (f.length < 64) || decide (1528 < f.length)
    let hit (d : Nat) : Prop := ∃ e ∈ s.dupLive, e.mac = f.src ∧ e.seq = f.seq ∧ e.dir = d
    let fcs (t : State) : Prop :=
      (t.ringPort p).fcs = if bad = true then (s.ringPort p).fcs.inc else (s.ringPort p).fcs
    (s.ringMode = 1 →
      (hit p → ∃ t, exec (.ringFrame p f) s = .next t ∧ SameBut [.time] s t ∧ fcs t ∧
        (t.ringPort p).dup = (s.ringPort p).dup.inc ∧ t.time.dupTable = s.time.dupTable) ∧
      (¬ hit p → f.src ≠ s.ownMac → f.dst ≠ s.ownMac →
        let q := 1 - p
        let room : Prop := (s.ringPort q).queueBits = 0 ∨ (s.ringPort q).queueBits + 8 * f.length ≤ 16384 * 8
        ((s.ringPort q).oos = false → room →
          ∃ t, exec (.ringFrame p f) s = .next t ∧ SameBut [.time, .outbox] s t ∧ fcs t ∧
            t.outbox = .ring q f.etherType f.src f.dst f.seq.toNat 0 bad :: s.outbox ∧
            t.time.dupTable.head? = some { mac := f.src, seq := f.seq, dir := p, at_ := s.time.t } ∧
            t.time.dupTable.length ≤ 1024) ∧
        ((s.ringPort q).oos = false → ¬ room →
          ∃ t, exec (.ringFrame p f) s = .next t ∧ SameBut [.time] s t ∧ (t.ringPort p).drop = (s.ringPort p).drop.inc) ∧
        ((s.ringPort q).oos = true → ∃ t, exec (.ringFrame p f) s = .next t ∧ SameBut [.time] s t)) ∧
      (f.src = s.ownMac ∨ f.dst = s.ownMac → ∃ t, exec (.ringFrame p f) s = .next t ∧ SameBut [.time] s t) ∧
      (f.dst = supervisionMac → bad = false → ∃ t, exec (.ringFrame p f) s = .next t ∧
        (hit 0 ∨ hit 1 → t.time.rxSup = s.time.rxSup) ∧
        ((∀ e ∈ s.dupLive, ¬ (e.mac = f.src ∧ e.seq = f.seq)) → t.time.rxSup = s.time.rxSup + 1))) ∧
    (s.ringMode ≠ 1 → ∃ t, exec (.ringFrame p f) s = .next t ∧ SameBut [.time] s t ∧ fcs t)) ∧
  (∀ s : State,
    let sent (p : Nat) (x : Nat) : Out := .ringOwn p 0x892F supervisionMac s.time.hsrSeq.toNat s.ownVlan 0
      (some { path := p, seq := s.time.hsrSeq, lsdu := x })
    (s.ringMode ≠ 1 ∨ s.power.core = false → exec .supervisionTimer s = .next s) ∧
    ((s.ringPort 0).oos = true → (s.ringPort 1).oos = true → exec .supervisionTimer s = .next s) ∧
    (s.ringMode = 1 → s.power.core = true → (s.ringPort 0).oos = false → (s.ringPort 1).oos = false →
      ∃ (t : State) (x y : Nat), exec .supervisionTimer s = .next t ∧ SameBut [.time, .outbox, .freeCtr] s t ∧
        t.time.hsrSeq = s.time.hsrSeq + 1 ∧ t.outbox = sent 1 y :: sent 0 x :: s.outbox) ∧
    (∀ p, p < 2 → s.ringMode = 1 → s.power.core = true → (s.ringPort p).oos = false → (s.ringPort (1 - p)).oos = true →
      ∃ (t : State) (x : Nat), exec .supervisionTimer s = .next t ∧ SameBut [.time, .outbox, .freeCtr] s t ∧
        t.time.hsrSeq = s.time.hsrSeq + 1 ∧ t.outbox = sent p x :: s.outbox)) ∧
  (∀ (s : State) (p : Nat) (g : Bool), p < 2 →
    (s.power.core = true → s.ringPortUsed p = true → (s.ringPort p).oos = false →
      ∃ t, exec (.ringBlockLock p g) s = .next t ∧ SameBut [.time] s t ∧
        t.ringPort p = { s.ringPort p with blockLock := g }) ∧
    (s.power.core = false ∨ s.ringPortUsed p = false ∨ (s.ringPort p).oos = true →
      exec (.ringBlockLock p g) s = .next s))

/-- On a port that is up, for a Sync or Follow_Up of a declared domain: one that the ring has shown before, or that is not of the source of the domain's best Announce (DEDUCED), changes no domain. A Sync whose sequenceId is not later than the last is counted and changes no domain. A later one-step Sync, and the Follow_Up of a waiting two-step Sync, give the domain the offset o = t2 - (t1 + correction + meanLinkDelay of the ingress port), one more valid Sync in a row, and F + (f_meas - F)/16. If the domain is the selected one of an ACQUIRING or LOCKED servo, or in UNSET or FREE_RUN where DATA_STATE is 1 or the offset within SWITCH_NS: with DATA_STATE 1 an offset above 1 us has machine time stepped at the next sample, a smaller one is slewed, and STATE is LOCKED from 8 Syncs within 100 ns on; in a build an offset above SWITCH_NS puts the servo in HOLDOVER and a smaller one is slewed. Nothing but time, what the ring sends, free values and the Tail with its check-value unit changes. On a port that is not up nothing happens; a message of no declared domain changes no domain. -/
def Obligations.SyncsMeasureAndSteerTheServo : Prop :=
  (∀ (s : State) (p : Nat) (m : PtpMsg), s.ringUp p = false → exec (.sync p m) s = .next s ∧ exec (.followUp p m) s = .next s) ∧
  (∀ (s : State) (p : Nat) (m : PtpMsg) (c : Instr), p < 2 → s.ringUp p = true → s.domainOf? m.domain = none →
    c = .sync p m ∨ c = .followUp p m → ∃ t, exec c s = .next t ∧ SameBut [.time, .outbox, .freeCtr] s t ∧
      t.time.domains = s.time.domains ∧ t.time.state = s.time.state ∧ t.time.clock = s.time.clock) ∧
  (∀ (s : State) (p d : Nat) (m : PtpMsg), p < 2 → s.ringUp p = true → s.domainOf? m.domain = some d →
    let x := s.domain d
    let t2 : Int := ((s.time.t + m.sub : Nat) : Int)
    let parts : List Part := [.time, .outbox, .freeCtr, .mem, .tail]
    let taken : Prop := (s.ringEnter p m.src m.hsrSeq).2.2 = true ∧ s.fromParent d m = true
    let unmoved (t : State) : Prop := SameBut parts s t ∧ t.time.domains = s.time.domains ∧ t.time.state = s.time.state ∧
      t.time.clock = s.time.clock
    let measured (o t2 : Int) (t : State) : Prop :=
      SameBut parts s t ∧ (t.domain d).offset = o ∧ (t.domain d).lastSync = some t2.toNat ∧
      (t.domain d).syncValid = true ∧ (t.domain d).waiting = none ∧ (t.domain d).run = min 0xFFFF (x.run + 1) ∧
      (t.domain d).near = (if o.natAbs ≤ 6553600 then min 0xFFFF (x.near + 1) else 0) ∧
      (∀ t1 p1 p2 : Int, o = t2 - t1 → x.prev = some (p1, p2) → p2 < t2 → (t.domain d).freq = x.freq +
        (((((t1 - p1) - (t2 - p2) : Int) : Rat) / ((t2 - p2 : Int) : Rat) * 100000000000 +
          (s.time.rateSum - x.prevSum) * (sampleTime : Rat) / ((t2 - p2 : Int) : Rat)) - x.freq) / 16) ∧
      (d = s.selectedDomain ∧ (s.time.state = .acquiring ∨ s.time.state = .locked) ∨
          (s.time.state = .unset ∨ s.time.state = .freeRun) ∧
          (s.planes.data = .idle ∨ (o.natAbs : Int) ≤ s.switchLimit) →
        let st : ServoState := if 8 ≤ (t.domain d).near then .locked else .acquiring
        (s.planes.data = .idle → 65536000 < o.natAbs →
          t.time.setTo = some ((s.nextStart s.time.t : Nat) - o).toNat ∧ t.time.state = st) ∧
        (s.planes.data = .idle → o.natAbs ≤ 65536000 → t.time.phaseLeft = (o : Rat) / 65536 ∧ t.time.state = st ∧
          t.time.setTo = s.time.setTo) ∧
        (s.planes.data ≠ .idle → s.switchLimit < (o.natAbs : Int) → t.time.state = .holdover ∧
          t.time.holdoverCnt = s.time.holdoverCnt.inc ∧ t.time.phaseLeft = 0) ∧
        (s.planes.data ≠ .idle → (o.natAbs : Int) ≤ s.switchLimit →
          t.time.phaseLeft = (o : Rat) / 65536 ∧ t.time.state = st))
    (¬ taken → (∃ t, exec (.sync p m) s = .next t ∧ unmoved t ∧ t.time.seqErr = s.time.seqErr) ∧
      ∃ t, exec (.followUp p m) s = .next t ∧ unmoved t) ∧
    (taken → (∀ l, x.lastSeq = some l → seqDiff 16 m.seq.toNat l.toNat ≤ 0 →
      ∃ t, exec (.sync p m) s = .next t ∧ unmoved t ∧ t.time.seqErr = s.time.seqErr.inc)) ∧
    (taken → (x.lastSeq = none ∨ ∃ l, x.lastSeq = some l ∧ 0 < seqDiff 16 m.seq.toNat l.toNat) →
      (m.twoStep = false → ∃ t, exec (.sync p m) s = .next t ∧ (t.domain d).lastSeq = some m.seq ∧
        measured (t2 - (m.origin + m.correction + (s.ringPort p).meanDelay)) t2 t) ∧
      (m.twoStep = true → ∃ t, exec (.sync p m) s = .next t ∧ SameBut parts s t ∧
        t.domain d = { x with lastSeq := some m.seq
                              waiting := some { seq := m.seq, port := p, t2 := t2, corr := m.correction } })) ∧
    (∀ w : TwoStep, taken → x.waiting = some w → w.seq = m.seq →
      ∃ t, exec (.followUp p m) s = .next t ∧
        measured (w.t2 - (m.origin + w.corr + m.correction + (s.ringPort w.port).meanDelay)) w.t2 t) ∧
    ((∀ w : TwoStep, x.waiting = some w → w.seq ≠ m.seq) → ∃ t, exec (.followUp p m) s = .next t ∧ unmoved t))

/-- On a port that is up, the first copy of an ANNOUNCE of a declared domain, from the source of its best one, a better one, or the first, becomes the domain's best; another changes no domain. When the selected domain of an ACQUIRING or LOCKED servo loses its Announce, three intervals after the last of its best source, or its Sync, the servo selects the other domain if that one is fresh and within SWITCH_NS, and slews its offset out; else it enters HOLDOVER, each counted. Losing a domain that is not selected changes only that domain. A HOLDOVER that lasts HOLDOVER ms becomes FREE_RUN. PDELAY_REQ of another device is answered with a turnaround time that the spec leaves open (a free value); PDELAY_TIMER sends a request with the next number on each port that is up; a response to the last request gives the port its mean link delay, never below 0 (log entry 31). Each of these completes in every state; where it does not apply it changes nothing. -/
def Obligations.DomainsAreLostAndPathDelaysMeasured : Prop :=
  (∀ (s : State) (p : Nat) (m : PtpMsg) (a : Announce), s.ringUp p = false → exec (.announce p ⟨m, a⟩) s = .next s) ∧
  (∀ (s : State) (p : Nat) (m : PtpMsg) (a : Announce), p < 2 → s.ringUp p = true →
    ∃ t, exec (.announce p ⟨m, a⟩) s = .next t ∧ SameBut [.time, .outbox] s t ∧
      (s.domainOf? m.domain = none ∨ (s.ringEnter p m.src m.hsrSeq).2.2 = false → t.time.domains = s.time.domains) ∧
      ∀ d, s.domainOf? m.domain = some d → (s.ringEnter p m.src m.hsrSeq).2.2 = true →
        let x := s.domain d
        (x.announceValid = true → m.source = x.parent → t.domain d = { x with best := a, announceAt := s.time.t }) ∧
        (x.announceValid = false ∨ (m.source ≠ x.parent ∧ a.better x.best = true) → t.domain d = { x with
          announceValid := true, best := a, parent := m.source, announceAt := s.time.t
          lastSeq := none, waiting := none, prev := none }) ∧
        (x.announceValid = true → m.source ≠ x.parent → a.better x.best = false → t.domain d = x)) ∧
  (∀ (s : State) (d : Nat), d < 2 →
    let x := s.domain d
    let lost (t : State) : Prop := SameBut [.time, .mem, .tail] s t ∧
      (d ≠ s.selectedDomain → t.time.state = s.time.state ∧ t.time.selected = s.time.selected ∧
        t.domain (1 - d) = s.domain (1 - d)) ∧
      (d = s.selectedDomain → s.time.state = .acquiring ∨ s.time.state = .locked →
        (s.domainFresh (1 - d) = true → ((s.domain (1 - d)).offset.natAbs : Int) ≤ s.switchLimit →
          t.selectedDomain = 1 - d ∧ t.time.phaseLeft = ((s.domain (1 - d)).offset : Rat) / 65536 ∧
          t.time.switchCnt = s.time.switchCnt.inc) ∧
        (s.domainFresh (1 - d) = false ∨ s.switchLimit < ((s.domain (1 - d)).offset.natAbs : Int) →
          t.time.state = .holdover ∧ t.time.holdSince = s.time.t ∧
          t.time.holdoverCnt = s.time.holdoverCnt.inc))
    (x.announceValid = true → x.announceAt + x.announceWindow ≤ s.time.t →
      ∃ t, exec (.announceTimeout d) s = .next t ∧ lost t ∧ (t.domain d).announceValid = false) ∧
    (x.announceValid = false ∨ s.time.t < x.announceAt + x.announceWindow → exec (.announceTimeout d) s = .next s) ∧
    (x.syncValid = true → s.domainFresh d = false → ∃ t, exec (.domainLost d) s = .next t ∧ lost t ∧
      (t.domain d).syncValid = false ∧ (t.domain d).run = 0 ∧ (t.domain d).near = 0) ∧
    (x.syncValid = false ∨ s.domainFresh d = true → exec (.domainLost d) s = .next s)) ∧
  (∀ s : State,
    (∀ r : EphRing, s.ringSect? = some r → s.time.state = .holdover → s.time.holdSince + r.holdover * 65536000000 ≤ s.time.t →
      ∃ t, exec .holdoverExpiry s = .next t ∧ SameBut [.time, .mem, .tail] s t ∧ t.time.state = .freeRun ∧
        t.time.clock = s.time.clock) ∧
    (s.time.state ≠ .holdover → exec .holdoverExpiry s = .next s)) ∧
  (∀ (s : State) (p seq src : Nat) (m : PtpMsg), s.ringUp p = false ∨ src = s.ownMac →
    exec (.pdelayReq p seq src) s = .next s ∧ (s.ringUp p = false → exec (.pdelayResp p m) s = .next s)) ∧
  (∀ s : State, s.ringUp 0 = false → s.ringUp 1 = false → exec .pdelayTimer s = .next s) ∧
  (∀ (s : State) (p : Nat), p < 2 → s.ringUp p = true →
    (∀ seq src : Nat, src ≠ s.ownMac → ∃ (t : State) (v : Nat) (tag : Option HsrTag), exec (.pdelayReq p seq src) s = .next t ∧
      v < 2 ^ 32 ∧ SameBut [.time, .outbox, .freeCtr] s t ∧
      t.outbox = .ringOwn p 0x88F7 0x0180C200000E seq s.ownVlan v tag :: s.outbox ∧
      (s.ringMode ≠ 1 → tag = none ∧ t.time.hsrSeq = s.time.hsrSeq) ∧
      (s.ringMode = 1 → t.time.hsrSeq = s.time.hsrSeq + 1 ∧ ∃ x, tag = some { path := p, seq := s.time.hsrSeq, lsdu := x })) ∧
    (∃ t, exec .pdelayTimer s = .next t ∧ SameBut [.time, .outbox, .freeCtr] s t ∧ (t.ringPort p).pdelay =
      { seq := (s.ringPort p).pdelay.seq + 1, t1 := some (s.time.t : Int), resp := none }) ∧
    (∀ m : PtpMsg, (s.ringPort p).pdelay.t1 = none ∨ (s.ringPort p).pdelay.seq ≠ m.seq ∨
      (m.followUp = true ∧ (s.ringPort p).pdelay.resp = none) → exec (.pdelayResp p m) s = .next s) ∧
    (∀ (m : PtpMsg) (t1 : Int), (s.ringPort p).pdelay.t1 = some t1 → (s.ringPort p).pdelay.seq = m.seq →
      let t4 : Int := ((s.time.t + m.sub : Nat) : Int)
      (m.followUp = false → m.twoStep = false → ∃ t, exec (.pdelayResp p m) s = .next t ∧ SameBut [.time] s t ∧
        (t.ringPort p).meanDelay = max 0 (((t4 - t1) - m.correction) / 2) ∧ (t.ringPort p).pdelay.t1 = none) ∧
      (m.followUp = false → m.twoStep = true → ∃ t, exec (.pdelayResp p m) s = .next t ∧ SameBut [.time] s t ∧
        (t.ringPort p).pdelay.resp = some (t4, m.origin - m.correction) ∧
        (t.ringPort p).meanDelay = (s.ringPort p).meanDelay) ∧
      (∀ r4 r2, m.followUp = true → (s.ringPort p).pdelay.resp = some (r4, r2) →
        ∃ t, exec (.pdelayResp p m) s = .next t ∧ SameBut [.time] s t ∧
          (t.ringPort p).meanDelay = max 0 (((r4 - t1) - (m.origin + m.correction - r2)) / 2))))

/-- With a DISPLAY section that sets ENABLE: HPD_ASSERT of a panel that offers LANES and LINK starts training, a lesser panel fails, as do HPD_WAIT_TIMEOUT and a failed training, each counted with a Tail record. HPD_WAIT_TIMEOUT acts 200 ms after the wait began. A good training makes the link ACTIVE; a lost lock goes back to training and an HPD loss to waiting, both without video. A sync edge less than 13.333 ms after the last accepted one is only counted as missed; an accepted one gives the measured period, and on an ACTIVE link is passed over at a lowered refresh (R419), and else starts a frame, or waits for the active area to end when a frame runs. A frame start applies committed shadows. 50 ms without an edge count one miss, and then frames run at SYNC_HZ. ACTIVE_AREA_END shows the frame on the panel (log entry 65), turns the backlight on, counts the lines of a frame that underran, and starts the frame that waits, counted as a slip. Each event completes in every state; where it does not apply, and without such a section, it does nothing. -/
def Obligations.DisplayComesUpAndSendsFrames : Prop :=
  (∀ (s : State) (lanes link ns : Nat) (a : Bool), s.display? = none →
    exec (.hpdAssert lanes link a) s = .next s ∧ exec (.dispSyncEdge ns) s = .next s ∧
    exec (.syncTimeout ns) s = .next s ∧ exec (.activeAreaEnd ns) s = .next s) ∧
  (∀ s : State,
    (s.disp.link ≠ .awaitHpd ∨ s.time.t / 65536 + 250 < s.disp.waitFrom + 200000000 → exec .hpdWaitTimeout s = .next s) ∧
    (∀ ok, s.disp.link ≠ .training → exec (.linkTrainingDone ok) s = .next s) ∧
    (∀ b, s.disp.link ≠ .active ∨ b = false → exec (.hpdIrq b) s = .next s) ∧
    (s.disp.link ≠ .training → s.disp.link ≠ .active → s.disp.link ≠ .failed → exec .hpdLoss s = .next s)) ∧
  (∀ (s : State) (e : EphDisplay), s.display? = some e →
    let d := s.disp
    let lowered : Prop := (d.static_ = true ∨ (d.running = false ∧ 2 ≤ d.passed)) ∧ d.maySlow = true ∧ d.commit = false ∧
      d.touched = false ∧ d.edges + 1 < d.live.staticDiv
    let failed (t : State) : Prop := t.disp.link = .failed ∧ t.disp.video = false ∧ t.disp.running = false ∧
      t.disp.trainFail = d.trainFail.inc ∧ SameBut [.disp, .mem, .tail] s t
    (∀ (lanes link : Nat) (a : Bool), d.link ≠ .awaitHpd → exec (.hpdAssert lanes link a) s = .next s) ∧
    (∀ (lanes link : Nat) (a : Bool), d.link = .awaitHpd →
      (e.lanes ≤ lanes → e.link ≤ link → ∃ t, exec (.hpdAssert lanes link a) s = .next t ∧ SameBut [.disp] s t ∧
        t.disp = { d with link := .training, asyncOk := a }) ∧
      (lanes < e.lanes ∨ link < e.link → ∃ t, exec (.hpdAssert lanes link a) s = .next t ∧ failed t)) ∧
    (d.link = .awaitHpd → d.waitFrom + 200000000 ≤ s.time.t / 65536 + 250 → ∃ t, exec .hpdWaitTimeout s = .next t ∧ failed t) ∧
    (d.link = .training → (∃ t, exec (.linkTrainingDone false) s = .next t ∧ failed t) ∧
      ∃ t, exec (.linkTrainingDone true) s = .next t ∧ SameBut [.disp] s t ∧
        t.disp = { d with link := .active, frameAt := s.time.t / 65536 }) ∧
    (d.link = .active → ∃ t, exec (.hpdIrq true) s = .next t ∧ SameBut [.disp] s t ∧ t.disp.link = .training ∧
      t.disp.video = false) ∧
    (d.link = .training ∨ d.link = .active ∨ d.link = .failed → ∃ t, exec .hpdLoss s = .next t ∧ SameBut [.disp] s t ∧
      t.disp.link = .awaitHpd ∧ t.disp.video = false ∧ t.disp.waitFrom = s.time.t / 65536) ∧
    (∀ ns : Nat, s.power.core = false → exec (.dispSyncEdge ns) s = .next s) ∧
    (∀ ns : Nat, s.power.core = true →
      ((∃ l, d.lastEdge = some l ∧ ns < l + 13333000) → ∃ t, exec (.dispSyncEdge ns) s = .next t ∧ SameBut [.disp] s t ∧
        t.disp = { d with syncMiss := d.syncMiss.inc }) ∧
      ((∀ l, d.lastEdge = some l → l + 13333000 ≤ ns) → ∃ t, exec (.dispSyncEdge ns) s = .next t ∧ SameBut [.disp] s t ∧
        t.disp.lastEdge = some ns ∧ t.disp.syncLost = false ∧
        (∀ l, d.lastEdge = some l → t.disp.period = BitVec.ofNat 32 (ns - l)) ∧
        (d.link ≠ .active → t.disp.frame = d.frame ∧ t.disp.live = d.live) ∧
        (d.link = .active → lowered → t.disp.frame = d.frame ∧ t.disp.edges = d.edges + 1 ∧ t.disp.running = d.running) ∧
        (d.link = .active → ¬ lowered → d.running = true → t.disp.edgeWaits = true ∧ t.disp.frame = d.frame) ∧
        (d.link = .active → ¬ lowered → d.running = false → t.disp.frame = d.frame + 1 ∧ t.disp.running = true ∧
          t.disp.frameAt = ns ∧ t.disp.commit = false ∧
          (d.bgNext = none → t.disp.live = if d.commit = true then d.shadow else d.live)))) ∧
    (∀ ns : Nat, d.link ≠ .active ∨ d.running = true ∨
        ns < d.frameAt + (if d.syncLost then 1000000000 / e.syncHz else 50000000) ∨
        (d.syncLost = false ∧ ∃ l, d.lastEdge = some l ∧ ns < l + 50000000) → exec (.syncTimeout ns) s = .next s) ∧
    (∀ ns : Nat, d.link = .active → d.running = false →
      (d.syncLost = false → d.frameAt + 50000000 ≤ ns → (∀ l, d.lastEdge = some l → l + 50000000 ≤ ns) → ∃ t, exec (.syncTimeout ns) s = .next t ∧ SameBut [.disp] s t ∧
        t.disp.syncLost = true ∧ t.disp.syncMiss = d.syncMiss.inc ∧ t.disp.frame = d.frame + 1 ∧ t.disp.frameAt = ns) ∧
      (d.syncLost = true → d.frameAt + 1000000000 / e.syncHz ≤ ns → ∃ t, exec (.syncTimeout ns) s = .next t ∧
        SameBut [.disp] s t ∧ t.disp.syncMiss = d.syncMiss ∧ t.disp.frame = d.frame + 1 ∧ t.disp.frameAt = ns)) ∧
    (∀ ns : Nat, d.running = false → exec (.activeAreaEnd ns) s = .next s) ∧
    (∀ ns : Nat, d.running = true → ∃ t, exec (.activeAreaEnd ns) s = .next t ∧ SameBut [.disp, .outbox] s t ∧
      t.outbox = .panel d.frame (s.panelRows e) :: s.outbox ∧
      t.disp.backlight = true ∧ t.disp.underrun = (if s.underrun e = true then d.underrun.add e.height else d.underrun) ∧
      (d.edgeWaits = false → t.disp.running = false ∧ t.disp.frame = d.frame ∧ t.disp.slip = d.slip) ∧
      (d.edgeWaits = true → t.disp.running = true ∧ t.disp.edgeWaits = false ∧ t.disp.frame = d.frame + 1 ∧
        t.disp.slip = d.slip.inc)))

/-- A dispatched POWER_STATUS completes with PWR_STATUS, PLANE_STATUS, PWR_UMBRA_TIME and PWR_WAKE_LEFT. POWER_UMBRA with DATA_STATE 1, every axis DISABLED or IDLE, no memory test, grid read, staging or activation completes and enters: UMBRA_PHASE 1, the timer set, display, links and ring ports down. UMBRA_ENTRY_DONE puts the core die off, or after a wake goes on to leave, and counts the entry. In Umbra, POWER_WAKE, PWR_WAKE_L, a PERST# edge and an expired timer set UMBRA_PHASE 3 with their WAKE_SRC; the first of them during entry marks it abandoned, and later ones and those while awake change nothing in the phase. UMBRA_EXIT_DONE powers the core die and ends awake, as it does for an abandoned entry. POWER_WAKE completes in every phase, and from KEEPER restarts a core die that a fault holds off. XTAL32_LOST is noted, and DOMAIN_CLOCK_STOP of MGMT or IMG, idle for 4,000 samples, clears its bit. Each event completes in every state; where it does not apply it does nothing. -/
def Obligations.UmbraIsEnteredAndLeft : Prop :=
  (∀ (e : Entry) (s t : State) (f : Flight),
    (Dispatched 0x0E00 e s f t → (e.zeroFrom 0x18 40).1 = false →
      exec (.powerStatus e) s = .next (t.ok f (t.pwrStatusWord.toNat + t.planeStatusWord.toNat * 2 ^ 32)
        (t.umbraTimeWord.toNat + t.wakeLeft % 2 ^ 32 * 2 ^ 32) [])) ∧
    (Dispatched 0x0E40 e s f t → (e.zeroFrom 0x1C 36).1 = false → t.planes.data = .idle →
      (∀ a, a < 8 → (t.axis a).mode = .disabled ∨ (t.axis a).mode = .idle) → t.mem.tests = [] → t.peri.reads = [] →
      t.eph.copying = [] → t.boot.activation = none →
      ∃ u : State, exec (.powerUmbra e) s = .next u ∧ u.power.umbra = .entering ∧ u.power.abandon = false ∧
        u.power.wakeMs = BitVec.ofNat 32 (e.u 0x18 4) ∧ u.power.wakeFrom = t.time.t ∧ u.time.bypHold = false ∧
        u.disp.link = .off ∧ u.disp.vdd = false ∧ u.halo.strobing = 0 ∧ u.halo.exposing = 0 ∧
        (∀ n, n < 32 → (u.link n).state = .off) ∧ (∀ p, p < 2 → (u.ringPort p).blockLock = false) ∧
        SameBut [.host, .outbox, .power, .time, .disp, .camera, .halo, .links, .cal, .mem, .eph, .melt] t u) ∧
    (∀ env : BootEnv, Dispatched 0x0E41 e s f t → (e.zeroFrom 0x18 40).1 = false → t.power.faultOff = false →
      (t.power.umbra = .asleep → ∃ u : State, exec (.powerWake e env) s = .next u ∧ u.power.umbra = .leaving ∧
        u.power.wakeSrc = 1 ∧ SameBut [.power, .host, .outbox] t u) ∧
      (t.power.umbra = .awake → ∃ u : State, exec (.powerWake e env) s = .next u ∧ u.power.umbra = .awake ∧
        u.power.wakeSrc = t.power.wakeSrc ∧ SameBut [.power, .host, .outbox] t u) ∧
      (t.power.umbra = .entering → ∃ u : State, exec (.powerWake e env) s = .next u ∧ u.power.umbra = .entering ∧
        u.power.abandon = true ∧ SameBut [.power, .host, .outbox] t u)) ∧
    (∀ env : BootEnv, Dispatched 0x0E41 e s f t → (e.zeroFrom 0x18 40).1 = false → t.power.faultOff = true →
      (t.slot f.slot).held &&& roleKeeper ≠ 0 →
      exec (.powerWake e env) s = .next ((t.ok f 0 0 []).coreRestart env))) ∧
  (∀ s : State,
    let wakes (c : Instr) (src : Nat) : Prop := ∃ t, exec c s = .next t ∧ SameBut [.power] s t ∧
      (s.power.umbra = .asleep → t.power.umbra = .leaving ∧ t.power.wakeSrc = src) ∧
      (s.power.umbra = .entering → s.power.abandon = false →
        t.power.umbra = .entering ∧ t.power.abandon = true ∧ t.power.wakeSrc = src) ∧
      (s.power.umbra = .entering → s.power.abandon = true → t.power.umbra = .entering ∧ t.power.wakeSrc = s.power.wakeSrc) ∧
      (s.power.umbra = .awake ∨ s.power.umbra = .leaving → t.power.umbra = s.power.umbra ∧
        t.power.wakeSrc = s.power.wakeSrc)
    wakes .pwrWakeL 2 ∧ (∀ b, wakes (.perstRelease b) (3 + b1 b)) ∧
    (s.power.wakeMs ≠ 0 → s.power.wakeFrom + s.power.wakeMs.toNat * 65536000000 ≤ s.time.t + sampleTime →
      wakes .wakeTimer 5) ∧
    (s.power.wakeMs = 0 ∨ s.time.t + sampleTime < s.power.wakeFrom + s.power.wakeMs.toNat * 65536000000 →
      exec .wakeTimer s = .next s) ∧
    (∀ us : Nat, s.power.umbra ≠ .entering → exec (.umbraEntryDone us) s = .next s) ∧
    (∀ us : Nat, s.power.umbra = .awake ∨ s.power.umbra = .asleep → exec (.umbraExitDone us) s = .next s) ∧
    (∀ us : Nat, s.power.umbra = .entering →
      (∃ t, exec (.umbraEntryDone us) s = .next t ∧ t.power.core = false ∧ t.power.entryUs = BitVec.ofNat 16 us ∧
        t.power.umbra = (if s.power.abandon = true then .leaving else .asleep) ∧ t.planes.data = .off ∧
        t.planes.ctl = .off ∧ t.power.umbraCnt = s.power.umbraCnt.inc ∧ t.flash = s.flash ∧ t.boot = s.boot ∧
        t.peri.saved = some (s.peri.abandon.base, s.peri.abandon.cells)) ∧
      (s.power.abandon = true → ∃ t, exec (.umbraExitDone us) s = .next t ∧ t.power.umbra = .awake ∧
        t.power.abandon = false ∧ t.power.exitUs = BitVec.ofNat 16 us ∧ t.power.umbraCnt = s.power.umbraCnt.inc) ∧
      (s.power.abandon = false → exec (.umbraExitDone us) s = .next s)) ∧
    (∀ us : Nat, s.power.umbra = .leaving → ∃ t, exec (.umbraExitDone us) s = .next t ∧
      t.power.umbra = .awake ∧ t.power.core = true ∧ t.power.exitUs = BitVec.ofNat 16 us) ∧
    (s.power.vin = true → ∃ t, exec .xtal32Lost s = .next t ∧ t.power = { s.power with xtal32Lost := true } ∧
      SameBut [.power] s t) ∧
    (s.power.vin = false → exec .xtal32Lost s = .next s) ∧
    (s.mgmtBusy = false → 4000 ≤ s.power.mgmtIdle + 1 →
      ∃ t, exec (.domainClockStop 1) s = .next t ∧ SameBut [.power] s t ∧ bitOf t.power.domains 1 = false) ∧
    (s.imgBusy = false → 4000 ≤ s.power.imgIdle + 1 →
      ∃ t, exec (.domainClockStop 11) s = .next t ∧ SameBut [.power] s t ∧ bitOf t.power.domains 11 = false) ∧
    (∀ d, (d = 1 → s.mgmtBusy = true ∨ s.power.mgmtIdle + 1 < 4000) → (d = 11 → s.imgBusy = true ∨ s.power.imgIdle + 1 < 4000) →
      exec (.domainClockStop d) s = .next s))

/-- A rail average within its window is only recorded; outside it, for a core rail above 10 % of its voltage at an Umbra exit (log entry 39), and for a lost PLL or XTAL_MAIN or a core-die reading of 125 degrees, the core die goes off with its cause and count. A companion-die reading of 150 degrees, VIN_LOW and PWR_RESET_L hold the device at its Reset values, but for the flash, pin levels and the counters that survive. POWER_UP, the end of the pin reset and COMPANION_COOLED count a power cycle and boot when nothing else holds the device in reset: MR0 is extended with the ROM and fuse digests; the strap, or two unusable banks, lead to Nadir mode with MR6 extended; else the CONFIRMED bank runs if its manifest has no broken field. BOOT_FALLBACK within the span of a boot starts the other bank if it is usable, and a second time leads to Nadir mode. Each event completes in every state; where it does not apply it does nothing. -/
def Obligations.FaultsAndResetsTakeTheDieDown : Prop :=
  (∀ s : State,
    let down (t : State) (cause rail : Nat) : Prop := t.power.core = false ∧ t.power.faultOff = true ∧
      t.power.faultCause = cause ∧ t.power.faultRail = rail ∧ t.power.umbra = .awake ∧ t.planes.data = .off ∧
      t.planes.ctl = .off ∧ t.host.flights = [] ∧ t.flash = s.flash ∧
      (cause = 4 ∨ cause = 5 → t.power.clkFault = s.power.clkFault.inc ∧ t.power.railFault = s.power.railFault) ∧
      (cause ≠ 4 → cause ≠ 5 → t.power.railFault = s.power.railFault.inc ∧ t.power.clkFault = s.power.clkFault)
    (∀ r mv : Nat, s.power.umbra = .leaving → railCharged r mv = true →
      ∃ t, exec (.railFault r mv) s = .next t ∧ down t 2 r) ∧
    (∀ r mv : Nat, s.power.umbra ≠ .leaving ∨ railCharged r mv = false → s.railUp r = false →
      exec (.railFault r mv) s = .next s) ∧
    (∀ r mv : Nat, r < 7 → s.power.umbra ≠ .leaving ∨ railCharged r mv = false → s.railUp r = true →
      (railGood r mv = true → ∃ t, exec (.railFault r mv) s = .next t ∧ SameBut [.power] s t ∧ t.power.core = s.power.core ∧
        (nth {} t.power.rails r).now = BitVec.ofNat 16 mv ∧ bitOf t.power.pg r = true) ∧
      (railGood r mv = false → ∃ t, exec (.railFault r mv) s = .next t ∧
        down t (if railNominal r < mv then 2 else if r = 6 then 3 else 1) r)) ∧
    (s.power.core = true → ∃ t, exec (.clockFault true) s = .next t ∧ down t 5 0) ∧
    (s.railUp 3 = true → ∃ t, exec (.clockFault false) s = .next t ∧ down t 4 0) ∧
    (s.power.core = false → exec (.clockFault true) s = .next s) ∧
    (s.railUp 3 = false → exec (.clockFault false) s = .next s) ∧
    (∀ (k : Nat) (r : Int), k < 16 ∨ 20 ≤ k ∨ r < 8000 → exec (.junctionTrip k r) s = .next s) ∧
    (∀ (k : Nat) (r : Int), (k ≠ 20 ∧ k ≠ 21) ∨ r < 9600 ∨ s.power.vin = false →
      exec (.companionOvertemp k r) s = .next s) ∧
    (∀ (k : Nat) (r : Int), 16 ≤ k → k < 20 → s.power.core = false →
      ∃ t, exec (.junctionTrip k r) s = .next t ∧ t.power.core = false ∧ t.power.railFault = s.power.railFault) ∧
    (∀ (k : Nat) (r : Int), 16 ≤ k → k < 20 → 8000 ≤ r → s.power.core = true → s.power.vin = true →
      ∃ t, exec (.junctionTrip k r) s = .next t ∧ t.power.core = false ∧ t.power.faultOff = true ∧
        t.power.faultCause = 6 ∧ t.power.railFault = s.power.railFault.inc) ∧
    (∀ (k : Nat) (r : Int), k = 20 ∨ k = 21 → 9600 ≤ r → s.power.vin = true →
      ∃ t, exec (.companionOvertemp k r) s = .next t ∧ t.power.hotReset = true ∧ t.power.core = false ∧
        t.planes = State.reset.planes ∧ t.host = State.reset.host) ∧
    (∃ t, exec .vinLow s = .next t ∧ SameBut [.host, .eph, .job, .engines, .arb, .melt, .peri, .tide, .links, .axes,
        .recoat, .camera, .halo, .time, .mem, .disp, .power, .cal, .boot, .tail, .planes, .eclipse] s t ∧
      t.host = State.reset.host ∧ t.eph = State.reset.eph ∧ t.cal = State.reset.cal ∧ t.planes = State.reset.planes ∧
      t.boot = { State.reset.boot with opsec := s.boot.opsec, pwrCycles := s.boot.pwrCycles } ∧
      t.power = { State.reset.power with pinReset := s.power.pinReset, perst := s.power.perst }) ∧
    (∃ t, exec .pwrResetAssert s = .next t ∧ t.host = State.reset.host ∧ t.flash = s.flash ∧
      t.planes = State.reset.planes ∧ t.power = { State.reset.power with
        vin := s.power.vin, pinReset := true, hotReset := s.power.hotReset, perst := s.power.perst })) ∧
  (∀ (s : State) (env : BootEnv),
    let head : BootHeader := (s.header?.map (·.1)).getD BootHeader.blank
    let usable (b : Bool) : Prop := manifestBad (s.bankRead b 0 576) = none
    let boots (c : Instr) : Prop := ∃ t, exec c s = .next t ∧ t.boot.pwrCycles = satAdd s.boot.pwrCycles 1 ∧
      nth 0 t.boot.mr 0 = extendMr (extendMr 0 Config.romDigest) Config.fuseDigest ∧
      (env.strap = true → t.planes.mgmt = .nadir ∧ t.boot.nadir.cause = 1 ∧
        nth 0 t.boot.mr 6 = extendMr 0 nadirMark) ∧
      (env.strap = false → ¬ usable false → ¬ usable true → t.planes.mgmt = .nadir ∧ t.boot.nadir.cause = 2) ∧
      (env.strap = false → usable head.confirmed → t.planes.mgmt = .running ∧ t.boot.running = head.confirmed ∧
        t.boot.fallback = false) ∧
      (env.strap = false → ¬ usable head.confirmed → usable (!head.confirmed) → t.planes.mgmt = .running ∧
        t.boot.running = !head.confirmed ∧ t.boot.fallback = true)
    (s.power.vin = false → s.power.pinReset = false → s.power.hotReset = false → boots (.powerUp env)) ∧
    (s.power.vin = false → s.power.pinReset = true → ∃ t, exec (.powerUp env) s = .next t ∧ t.power.vin = true ∧
      t.power.core = false ∧ t.boot.pwrCycles = s.boot.pwrCycles) ∧
    (s.power.pinReset = true → s.power.vin = true → s.power.hotReset = false →
      boots (.pwrResetRelease env)) ∧
    (s.power.pinReset = true → s.power.vin = false ∨ s.power.hotReset = true →
      exec (.pwrResetRelease env) s = .next { s with power := { s.power with pinReset := false } }) ∧
    (s.power.pinReset = false → exec (.pwrResetRelease env) s = .next s) ∧
    (s.power.vin = true → exec (.powerUp env) s = .next s) ∧
    (∀ a b : Int, s.power.hotReset = true → s.power.vin = true → s.power.pinReset = false → a < 8320 → b < 8320 →
      boots (.companionCooled ⟨a, b, env⟩)) ∧
    (∀ a b : Int, s.power.hotReset = false ∨ 8320 ≤ a ∨ 8320 ≤ b → exec (.companionCooled ⟨a, b, env⟩) s = .next s) ∧
    (s.power.vin = false ∨ s.planes.mgmt ≠ .running ∨ startSpan < s.boot.bootFor →
      exec (.bootFallback env) s = .next s) ∧
    (s.power.vin = true → s.planes.mgmt = .running → s.boot.bootFor ≤ startSpan →
      (s.boot.fallback = true ∨ ¬ usable (!s.boot.confirmed) → ∃ t, exec (.bootFallback env) s = .next t ∧
        t.planes.mgmt = .nadir ∧ t.boot.nadir.cause = 2) ∧
      (s.boot.fallback = false → usable (!s.boot.confirmed) → ∃ t, exec (.bootFallback env) s = .next t ∧
        t.planes.mgmt = .running ∧ t.boot.running = !s.boot.confirmed ∧ t.boot.fallback = true)))

/-- SENSOR_CONVERSION of a used entry below the trip levels stores its reading as valid and judges HIGH and LOW: a limit goes live with the second of two consecutive readings beyond it and ends with the second back within it. A HIGH limit that goes live latches HIGH and counts a breach, and while the core die is powered an entry with ECLIPSE_ALL brings every declared channel into Eclipse. A conversion that finds a faulty remote sensor makes its reading invalid, sets FAULT and, the first time, breaches. A core-die entry reads invalid without a fault while the core die is off. A reading of an entry that is not declared is only stored, a reading at the trip level of a core-die entry is the trip of R443, and a conversion of an unused remote entry does nothing. RISE_EVALUATION counts the operating second, keeps one reading of every entry, and sets RISE of an entry with a reading RISE_WIN seconds old; one above RISE_MAX for the first time counts a breach. -/
def Obligations.TemperaturesAreJudgedAndBreachesAct : Prop :=
  (∀ l : Limit, l.run = 0 →
    (l.live = false → (∀ b, (l.step true b).live = false ∧ ((l.step true b).step true b).live = true ∧
      ((l.step true b).step false b).run = 0 ∧ ((l.step true b).step false b).live = false)) ∧
    (l.live = true → ∀ b, (l.step b true).live = true ∧ ((l.step b true).step b true).live = false)) ∧
  (∀ (s : State) (i : Nat) (x : EphTherm) (r : Int), i < 22 → s.power.vin = true → s.thmEntry? i = some x →
    i < 16 ∨ 20 ≤ i ∨ s.power.core = true → i < 16 ∨ r < 8000 →
    let o := s.thm i
    let high := o.high.step (decide (x.high < r)) (decide (r ≤ x.high - 128))
    let low := o.low.step (decide (r < x.low)) (decide (x.low + 128 ≤ r))
    ∃ t, exec (.sensorConversion i (some r)) s = .next t ∧ (t.thm i).reading = r ∧ (t.thm i).valid = true ∧
      (t.thm i).fault = false ∧ (t.thm i).high = high ∧ (t.thm i).low = low ∧
      (∀ k, k < 22 → k ≠ i → t.thm k = s.thm k) ∧
      (high.live = o.high.live → low.live = o.low.live → (t.thm i).breach = o.breach ∧ (t.thm i).latched = o.latched ∧
        t.eclipse = s.eclipse) ∧
      (high.live = true → o.high.live = false → low.live = o.low.live → (t.thm i).breach = o.breach.inc ∧
        (t.thm i).latched = o.latched ||| 1 ∧
        (x.eclipseAll = true → s.power.core = true → ∀ n, n < 32 → s.declared n = true → t.eclipsed n = true))) ∧
  (∀ (s : State) (i : Nat) (x : EphTherm), i < 16 → s.power.vin = true → s.thmEntry? i = some x →
    ∃ t, exec (.sensorConversion i none) s = .next t ∧ (t.thm i).valid = false ∧ (t.thm i).fault = true ∧
      (t.thm i).reading = (s.thm i).reading ∧
      ((s.thm i).fault = false → (t.thm i).breach = (s.thm i).breach.inc ∧ bitOf (t.thm i).latched 3 = true) ∧
      ((s.thm i).fault = true → (t.thm i).breach = (s.thm i).breach)) ∧
  (∀ (s : State) (i : Nat) (r : Int), 16 ≤ i → i < 22 → s.power.vin = true → 20 ≤ i ∨ s.power.core = true → r < 8000 →
    s.thmEntry? i = none → ∃ t, exec (.sensorConversion i (some r)) s = .next t ∧ (t.thm i).reading = r ∧
      (t.thm i).valid = true ∧ (t.thm i).breach = (s.thm i).breach ∧ t.eclipse = s.eclipse) ∧
  (∀ (s : State) (i : Nat), 16 ≤ i → i < 22 → s.power.vin = true → 20 ≤ i ∨ s.power.core = true →
    ∃ t, exec (.sensorConversion i none) s = .next t ∧ (t.thm i).valid = false ∧ t.eclipse = s.eclipse) ∧
  (∀ (s : State) (i : Nat) (r : Int), 16 ≤ i → i < 20 → 8000 ≤ r →
    exec (.sensorConversion i (some r)) s = exec (.junctionTrip i r) s) ∧
  (∀ (s : State) (i : Nat) (r : Option Int), 22 ≤ i ∨ (i < 16 ∧ (s.power.vin = false ∨ s.thmEntry? i = none)) →
    exec (.sensorConversion i r) s = .next s) ∧
  (∀ s : State, s.power.vin = false → exec .riseEvaluation s = .next s) ∧
  (∀ (s : State) (i : Nat) (r : Option Int), 16 ≤ i → i < 20 → s.power.vin = true → s.power.core = false →
    ∃ t, exec (.sensorConversion i r) s = .next t ∧ SameBut [.power] s t ∧
      t.thm i = { s.thm i with valid := false } ∧ ∀ k, k < 22 → k ≠ i → t.thm k = s.thm k) ∧
  (∀ s : State, s.power.vin = true →
    ∃ t, exec .riseEvaluation s = .next t ∧ t.boot.opsec = (s.boot.opsec + 1) % 2 ^ 40 ∧
      ∀ i, i < 22 → (t.thm i).history =
          ((if (s.thm i).valid = true then some (s.thm i).reading else none) :: (s.thm i).history).take 60 ∧
        (t.thm i).reading = (s.thm i).reading ∧
        ∀ x old, s.thmEntry? i = some x → (s.thm i).valid = true → (s.thm i).history[x.riseWin - 1]? = some (some old) →
          let q := ((s.thm i).reading - old).tdiv x.riseWin
          (t.thm i).rise = q ∧ (t.thm i).riseLive = decide ((x.riseMax : Int) < q) ∧
          ((x.riseMax : Int) < q → (s.thm i).riseLive = false → (t.thm i).breach = (s.thm i).breach.inc))

/-- For dispatched entries whose fields are legal: CAL_RUN requests its subjects; in DATA_STATE 1 those that may run start, and in a build the command completes DEFERRED with the first layer. CAL_GRID_LOAD in DATA_STATE 1 puts the head's grid in force and completes with its CRC; in a build it waits and is DEFERRED. CAL_RUN_DONE of a running subject but 2 judges every channel: if all agree it applies every channel's result, counts and is no longer at factory values; a channel that fails leaves every value as it was, counts a rejection with its reason and leaves the subject due; then Syzygy goes on. A deskew sequence of 8,192 UI or more on an armed port is accepted when every lane's halves are within one tap, with the taps waiting for the next frame start, and else rejected; outside a calibration opportunity the port is then no longer armed; a shorter one, or on a port not armed, does nothing. A pulse edge counts and publishes; an analog sample publishes its scaled value, or with a scale of 0 a value the spec leaves open, and while subject 4 measures the last value again. -/
def Obligations.CalibrationsRunAndApply : Prop :=
  (∀ (e : Entry) (s t : State) (f : Flight),
    (∀ m : Nat, m = e.u 0x18 1 → Dispatched 0x0441 e s f t → 0 < m → m < 32 →
      BitVec.ofNat 32 m &&& t.cal.enabled = BitVec.ofNat 32 m → t.cal.cleis = false → (e.zeroFrom 0x19 0x27).1 = false →
      (t.planes.data ≠ .idle → ∃ u : State, exec (.calRun e) s = .next (u.finish f 0x0A00 (t.firstLayer 4) 0 false []) ∧
        SameBut [.cal] t u ∧ ∀ i, i < 5 → u.calSubj i =
          if m.testBit i = true then { t.calSubj i with
            requested := true, atEnd := t.finalNow && ((t.calSubj i).atEnd || !(t.calSubj i).requested) }
          else t.calSubj i) ∧
      (t.planes.data = .idle → t.power.umbra = .awake → t.power.core = true →
        ∃ u : State, exec (.calRun e) s = .next u ∧ SameBut [.cal, .host, .outbox] t u ∧
          ∀ i, i < 5 → i ≠ 2 → m.testBit i = true → (u.calSubj i).running = true ∧ (u.calSubj i).requested =
            (t.calSubj i).running)) ∧
    (∀ h : Nat, h = e.u 0x18 1 → Dispatched 0x0442 e s f t → e.inline = false → (e.zeroFrom 0x19 0x27).1 = false →
      t.eph.eph.isSome = true → h ≤ 31 → t.declared h = true → e.bufLen.toNat = 792588 →
      (∀ g ∈ t.cal.gridLoads, g.head ≠ h) → gridBad 0 e.data = none →
      let crc : W64 := (crc32c e.data).setWidth 64
      (t.planes.data = .idle → ∃ u : State, exec (.calGridLoad e) s = .next (u.finish f 0 0 crc false []) ∧
        SameBut [.mem, .engines] t u ∧ (u.engine h).tiles = [] ∧
        u.mem.grids.find? (fun p => p.1 == h) = some (h, { bytes := e.data.toArray, crc := crc32c e.data })) ∧
      (t.planes.data ≠ .idle → ∃ u : State,
        exec (.calGridLoad e) s = .next (u.finish f 0x0A00 (t.firstLayer 4) crc false []) ∧ SameBut [.cal] t u ∧
        u.cal = { t.cal with gridLoads := t.cal.gridLoads ++ [{ head := h, bytes := e.data, atEnd := t.finalNow }] }))) ∧
  (∀ (s : State) (i : Nat) (run1 run2 : List (List Int)), i < 5 →
    let t := s.calRunDone i run1 run2
    let v (n : Nat) : CalVerdict :=
      if i = 0 then judgeDelay (run1.getD n []) (run2.getD n []) else judgeRuns i (run1.getD n []) (run2.getD n [])
    exec (.calRunDone i run1 run2) s = .next (t.syzygyGo s.ix) ∧
    (i = 2 ∨ (s.calSubj i).running = false → t = s) ∧
    (i ≠ 2 → (s.calSubj i).running = true → (∀ n ∈ s.calChannels i, ∃ l, v n = .good l) →
      SameBut [.cal, .host, .outbox] s t ∧ t.cal.count = s.cal.count.inc ∧ t.cal.reject = s.cal.reject ∧
      (t.calSubj i).lastResult = 1 ∧ (t.calSubj i).streak = 0 ∧ (t.calSubj i).factory = false ∧
      ∀ n ∈ s.calChannels i, ∀ l, v n = .good l →
        (i = 0 → nth (0, 0, 0) t.cal.taps n = ((l.getD 0 0).toNat, (l.getD 1 0).toNat, (l.getD 2 0).toNat)) ∧
        (i = 1 → nth 0 t.cal.phases n = l.getD 0 0) ∧ (i = 3 → nth 0 t.cal.ratios n = l.getD 0 0) ∧
        (i = 4 → (nth {} t.cal.analog n).ofs = l.getD 0 0 ∧ (nth {} t.cal.analog n).scale = l.getD 1 0)) ∧
    (∀ n ∈ s.calChannels i, ∀ why a b, i ≠ 2 → (s.calSubj i).running = true → v n = .bad why a b →
      (∀ k ∈ s.calChannels i, k < n → ∃ l, v k = .good l) →
      SameBut [.cal, .host, .outbox, .mem, .tail] s t ∧
      t.cal.count = s.cal.count ∧ t.cal.reject = s.cal.reject.inc ∧ t.cal.taps = s.cal.taps ∧
      t.cal.phases = s.cal.phases ∧ t.cal.ratios = s.cal.ratios ∧ t.cal.analog = s.cal.analog ∧
      (t.calSubj i).lastResult = why ∧ (t.calSubj i).streak = min 15 ((s.calSubj i).streak + 1) ∧
      (t.calSubj i).due = true)) ∧
  (∀ (s : State) (p ui : Nat) (a b : List Nat), p < 2 →
    (nth false s.cal.armed p = false ∨ ui < 8192 → exec (.deskewSequence p ui a b) s = .next s) ∧
    (nth false s.cal.armed p = true → 8192 ≤ ui →
      let n := max a.length b.length
      ((∀ k, k < n → ((a.getD k 0 : Int) - b.getD k 0).natAbs ≤ 1) →
        ∃ t, exec (.deskewSequence p ui a b) s = .next t ∧ SameBut [.cal, .host, .outbox] s t ∧
          (s.calOpen false = false → nth false t.cal.armed p = false) ∧
          t.cal.count = s.cal.count.inc ∧ nth none t.cal.laneNext p = some ((List.range n).map fun k =>
            (meanOf (a.getD k 0 : Nat) (b.getD k 0 : Nat)).toNat)) ∧
      ((∃ k, k < n ∧ 1 < ((a.getD k 0 : Int) - b.getD k 0).natAbs) →
        ∃ t, exec (.deskewSequence p ui a b) s = .next t ∧ SameBut [.cal, .host, .outbox, .mem, .tail] s t ∧
          (s.calOpen false = false → nth false t.cal.armed p = false) ∧
          t.cal.reject = s.cal.reject.inc ∧ t.cal.count = s.cal.count ∧
          (t.calSubj 2).lastResult = 2 ∧ t.cal.laneNext = s.cal.laneNext))) ∧
  (∀ (s : State) (i : Nat), i < 8 →
    (∀ fr du : Int, ∃ t, exec (.pulseInputEdge i fr du) s = .next t ∧ SameBut [.cal, .eph] s t ∧
      nth {} t.cal.pulse i = { nth {} s.cal.pulse i with
        v0 := fr, v1 := du, v2 := (nth {} s.cal.pulse i).v2 + 1, valid := true }) ∧
    (∀ hz : Int, (s.calSubj 4).running = true → ∃ t, exec (.analogInputSample i hz) s = .next t ∧ SameBut [.eph] s t) ∧
    (∀ hz : Int, (s.calSubj 4).running = false → ∃ t v, exec (.analogInputSample i hz) s = .next t ∧
      SameBut [.cal, .eph, .freeCtr] s t ∧
      nth {} t.cal.analog i = { nth {} s.cal.analog i with v0 := v, v1 := hz, valid := true } ∧
      ((nth {} s.cal.analog i).scale ≠ 0 → v = roundHalfAway
        ((((hz - (nth {} s.cal.analog i).ofs : Int) : Rat) * 65536) / ((nth {} s.cal.analog i).scale : Rat)))))

/-- Dispatched and legal: TRUST_EXTEND extends MR7 with the SHA-384 of its data, leaves the other measurement registers, and completes. TRUST_QUOTE takes magic, version, slot, nonce, power cycles, operating seconds and the eight registers at its dispatch, and waits. QUOTE_SIGNED, while the management core runs, appends the signature to the oldest quote and stores it in the window of its port; else it does nothing. TRUST_CERT completes with the certificate and its length. The key and its signature are the device's own (opaque to the model). -/
def Obligations.TrustCommandsExtendAndQuote : Prop :=
  (∀ (e : Entry) (s t : State) (f : Flight),
    (Dispatched 0x0C40 e s f t → (e.zeroFrom 0x18 40).1 = false → 1 ≤ e.dataLen → e.dataLen ≤ 65536 →
      ∃ u : State, exec (.trustExtend e) s = .next (u.ok f 0 0 []) ∧ SameBut [.boot, .tail] t u ∧
        nth 0 u.boot.mr 7 = extendMr (nth 0 t.boot.mr 7) (sha384 (slice e.data 0 e.dataLen)) ∧
        ∀ k, k < 7 → nth 0 u.boot.mr k = nth 0 t.boot.mr k) ∧
    (Dispatched 0x0C00 e s f t → (e.zeroFrom 0x38 8).1 = false → e.bufLen = 0 ∨ e.bufLen = 536 →
      ∃ (u : State) (q : Quote), exec (.trustQuote e) s = .next u ∧ SameBut [.boot, .host] t u ∧
        u.boot = { t.boot with quotes := t.boot.quotes ++ [q] } ∧ q.flight = f.id ∧ q.port = f.port ∧
        q.toBuffer = (e.inline || e.bufLen == 536) ∧
        q.body = [0x51#8, 0x55#8, 0x4F#8, 0x54#8] ++ leBytes 2 1 ++ leBytes 1 f.slot ++ leBytes 1 0 ++ e.bytes 0x18 32 ++
          leBytes 4 t.boot.pwrCycles.toNat ++ leBytes 8 t.boot.opsec ++ leBytes 4 0 ++
          t.boot.mr.toList.flatMap digestBytes) ∧
    (Dispatched 0x0C01 e s f t → (e.zeroFrom 0x18 40).1 = false → (Config.certificate.take 1280).length ≤ e.room →
      exec (.trustCert e) s =
        .next (t.ok f (Config.certificate.take 1280).length 0 (Config.certificate.take 1280)))) ∧
  (∀ s : State, s.boot.quotes = [] ∨ s.planes.mgmt ≠ .running → exec .quoteSigned s = .next s) ∧
  (∀ (s : State) (q : Quote) (r : List Quote), s.boot.quotes = q :: r → s.planes.mgmt = .running →
    let g := Config.quoteSign (sha384 q.body)
    let d := q.body ++ beBytes 48 g.1 ++ beBytes 48 g.2
    ∃ u : State, exec .quoteSigned s = .next (u.finishId q.flight 0 0 0 false (if q.toBuffer = true then d else [])) ∧
      SameBut [.boot, .host] s u ∧ u.boot = { s.boot with quotes := r } ∧
      (q.port < 3 → (u.port q.port).quote = d))

/-- Dispatched and legal: UPD_STATUS returns the two status words. UPD_WRITE with the NV window open programs the bank other than CONFIRMED, erased first at OFFSET 0. UPD_VERIFY and UPD_ACTIVATE start a check; an activation in progress or a closed window refuses UPD_ACTIVATE with RESULT 4. A check that fails is rejected with its code; a good UPD_VERIFY completes; a good UPD_ACTIVATE extends MR1 and MR6, sets TRIAL and restarts the management core, or finds another activation and is refused. Its return starts the standby and answers the frames that were held, the standby's readiness extends MR2 and begins the Transit, whose end takes the new control bank, and in DATA_STATE 1 the new images, with the health window. 600 s later the bank is confirmed, or waits for the NV window. A health failure of the phase in progress reverts every part; any other changes nothing. UPD_MGMT_ADDR rewrites the header. UPD_NADIR enters Nadir mode. Out of its turn a completion row changes nothing. -/
def Obligations.UpdatesAreWrittenCheckedAndActivated : Prop :=
  (∀ (e : Entry) (s t : State) (f : Flight),
    (Dispatched 0x0D00 e s f t → (e.zeroFrom 0x18 40).1 = false →
      exec (.updStatus e) s = .next (t.ok f (t.updStatusWord.toNat + t.bootStatusWord.toNat * 2 ^ 32) 0 [])) ∧
    (∀ o n : Nat, o = e.u 0x18 4 → n = e.u 0x1C 4 → Dispatched 0x0D40 e s f t → (e.zeroFrom 0x20 32).1 = false →
      o + n ≤ 6291456 → 8 ≤ n → n ≤ (if e.inline = true then 1344 else 65536) → e.dataLen = n →
      t.power.nvOpen = true → t.boot.activation = none →
      let b := bankOfs (!t.boot.confirmed)
      ∃ u : State, exec (.updWrite e) s = .next u ∧ SameBut [.flash, .boot, .host] t u ∧ u.boot.updState = 1 ∧
        u.boot.flashJobs = t.boot.flashJobs ++ [{ flight := f.id }] ∧
        u.flash = sbulk flashErased (if o = 0 then serase t.flash b 6291456 else t.flash) (b + o) (slice e.data 0 n)) ∧
    (Dispatched 0x0D41 e s f t → (e.zeroFrom 0x18 40).1 = false → t.boot.activation = none →
      ∃ u : State, exec (.updVerify e) s = .next u ∧ SameBut [.boot, .host] t u ∧
        u.boot = { t.boot with checks := t.boot.checks ++ [{ flight := f.id, slot := f.slot, activate := false }] }) ∧
    (Dispatched 0x0D42 e s f t → (e.zeroFrom 0x18 40).1 = false →
      (t.boot.activation = none → t.power.nvOpen = true →
        ∃ u : State, exec (.updActivate e) s = .next u ∧ SameBut [.boot, .host] t u ∧
          u.boot = { t.boot with checks := t.boot.checks ++ [{ flight := f.id, slot := f.slot, activate := true }] }) ∧
      (t.boot.activation = none → t.power.nvOpen = false → ∃ u : State, SameBut [.boot] t u ∧
        u.boot = { t.boot with updResult := 4 } ∧ exec (.updActivate e) s = .next (u.reject f { code := 0x0801 })) ∧
      (t.boot.activation.isSome = true → ∃ u : State, SameBut [.boot] t u ∧
        u.boot = { t.boot with updResult := 4 } ∧ exec (.updActivate e) s = .next (u.reject f { code := 0x0409 }))) ∧
    (∀ ip len : Nat, ip = beNat (e.bytes 0x18 4) → len = e.u 0x1C 1 → Dispatched 0x0D43 e s f t →
      (e.zeroFrom 0x1D 35).1 = false → 8 ≤ len → len ≤ 30 → addrBad ip len = false → t.power.nvOpen = true →
      ∃ u : State, exec (.updMgmtAddr e) s = .next u ∧ SameBut [.flash, .boot, .host] t u ∧
        u.boot = { t.boot with flashJobs := t.boot.flashJobs ++ [{ flight := f.id }] } ∧
        u.flash = (t.writeHeader fun h => { h with ipv4 := BitVec.ofNat 32 ip, prefixLen := len }).flash) ∧
    (Dispatched 0x0D44 e s f t → (e.zeroFrom 0x18 40).1 = false → t.planes.data = .idle →
      ∃ u : State, exec (.updNadir e) s = .next u ∧ u.planes.mgmt = .nadir ∧ u.boot.nadir.cause = 3 ∧
        u.power.core = false ∧ u.flash = t.flash ∧ nth 0 u.boot.mr 6 = extendMr (nth 0 t.boot.mr 6) nadirMark ∧
        ∀ i, i < 8 → (u.slot i).session = none)) ∧
  (∀ (s : State) (c : UpdCheck) (r : List UpdCheck), s.boot.checks = c :: r →
    let b := !s.boot.confirmed
    (∀ x, checkManifest (s.bankRead b) = .error x → ∃ u : State, SameBut [.boot] s u ∧
      u.boot = { s.boot with checks := r, updResult := if c.activate = true then 4 else s.boot.updResult } ∧
      exec .updChecksDone s = .next (u.rejectId c.flight x)) ∧
    (∀ d, checkManifest (s.bankRead b) = .ok d →
      (c.activate = false → ∃ u : State, SameBut [.boot] s u ∧ u.boot = { s.boot with
          checks := r, updState := if s.boot.activation.isSome = true then s.boot.updState else 2 } ∧
        exec .updChecksDone s = .next (u.finishId c.flight 0 0 0 false [])) ∧
      (c.activate = true → s.boot.activation.isSome = true → ∃ u : State, SameBut [.boot] s u ∧
        u.boot = { s.boot with checks := r, updResult := 4 } ∧
        exec .updChecksDone s = .next (u.rejectId c.flight { code := 0x0409 })) ∧
      (c.activate = true → s.boot.activation = none → ∃ (u : State) (a : Activation), exec .updChecksDone s = .next u ∧
        SameBut [.boot, .planes, .flash] s u ∧ u.planes = { s.planes with mgmt := .restarting } ∧
        u.boot.updState = 3 ∧ u.boot.trial = true ∧ u.boot.activation = some a ∧ a.bank = b ∧ a.phase = .management ∧
        a.flight = some c.flight ∧ a.digests = d ∧ nth 0 u.boot.mr 1 = extendMr (nth 0 s.boot.mr 1) (d.images.getD 0 0) ∧
        nth 0 u.boot.mr 6 = extendMr (nth 0 s.boot.mr 6) d.manifest))) ∧
  (∀ s : State, s.boot.checks = [] → exec .updChecksDone s = .next s) ∧
  (∀ s : State, s.planes.mgmt ≠ .restarting → exec .mgmtRestartDone s = .next s) ∧
  (∀ s : State, s.planes.mgmt = .restarting → exec .mgmtRestartDone s = .next s.mgmtBack.answerHeld ∧
    (∀ a, s.boot.activation = some a → a.phase = .management →
      SameBut [.boot, .planes] s s.mgmtBack ∧
      s.mgmtBack.planes = { s.planes with mgmt := .running, standby := .synchronising } ∧
      s.mgmtBack.boot = { s.boot with running := a.bank, activation := some { a with phase := .control } }) ∧
    (∀ a, s.boot.activation = some a → a.phase ≠ .management →
      SameBut [.planes] s s.mgmtBack ∧ s.mgmtBack.planes = { s.planes with mgmt := .running }) ∧
    (s.boot.activation = none → s.boot.updState ≠ 7 →
      SameBut [.planes] s s.mgmtBack ∧ s.mgmtBack.planes = { s.planes with mgmt := .running }) ∧
    (s.boot.activation = none → s.boot.updState = 7 → SameBut [.planes, .boot] s s.mgmtBack ∧
      s.mgmtBack.planes = { s.planes with mgmt := .running } ∧ s.mgmtBack.boot.running = s.boot.confirmed ∧
      s.mgmtBack.boot.updState = if s.boot.revertPending = none ∧ s.planes.ctl ≠ .pause then 0 else 7)) ∧
  (∀ s : State, ¬(s.planes.standby = .synchronising ∧ s.planes.ctl = .running) → exec .standbyReady s = .next s) ∧
  (∀ s : State, s.planes.standby = .synchronising → s.planes.ctl = .running →
    ((∀ a, s.boot.activation = some a → a.phase ≠ .control) → ∃ t, exec .standbyReady s = .next t ∧
      SameBut [.planes] s t ∧ t.planes = { s.planes with standby := .ready }) ∧
    (∀ a, s.boot.activation = some a → a.phase = .control → ∃ t, exec .standbyReady s = .next t ∧
      SameBut [.boot, .planes] s t ∧ t.planes.ctl = .pause ∧ t.boot.activation = some { a with phase := .transit } ∧
      nth 0 t.boot.mr 2 = extendMr (nth 0 s.boot.mr 2) (a.digests.images.getD 1 0))) ∧
  (∀ s : State, s.planes.ctl ≠ .pause → exec .transitPauseEnd s = .next s) ∧
  (∀ s : State, s.planes.ctl = .pause → ∃ t, exec .transitPauseEnd s = .next t ∧ t.planes.ctl = .running ∧
    t.planes.pair = s.planes.pair.map (!·) ∧ t.host.held = [] ∧
    ((∀ a, s.boot.activation = some a → a.phase ≠ .transit) → t.planes.standby = .synchronising) ∧
    (∀ a, s.boot.activation = some a → a.phase = .transit → t.planes.standby = .ready ∧ t.boot.ctlBank = a.bank ∧
      (s.planes.data ≠ .idle → t.boot.updState = 4 ∧ t.boot.dataBank = s.boot.dataBank) ∧
      (s.planes.data = .idle → t.boot.updState = 5 ∧ t.boot.dataBank = a.bank ∧ t.boot.windowFor = some 0))) ∧
  (∀ (s : State) (k : Nat), (∀ a, s.boot.activation = some a →
      ¬(a.phase = .management ∧ k = 3 ∨ a.phase = .control ∧ k = 5 ∨ a.phase = .window ∧ k ≠ 5)) →
    exec (.healthFailure k) s = .next s) ∧
  (∀ (s : State) (a : Activation) (k : Nat), s.boot.activation = some a →
      a.phase = .management ∧ k = 3 ∨ a.phase = .control ∧ k = 5 ∨ a.phase = .window ∧ k ≠ 5 →
    ∃ t, exec (.healthFailure k) s = .next t ∧
      SameBut [.boot, .planes, .flash, .tail, .host, .outbox] s t ∧ t.boot.activation = none ∧ t.boot.updResult = 2 ∧
      t.boot.updState = 7 ∧ t.boot.windowFor = none ∧ t.boot.ctlBank = s.boot.confirmed ∧
      t.planes.mgmt = .restarting ∧ nth 0 t.boot.mr 1 = extendMr (nth 0 s.boot.mr 1) (a.old.images.getD 0 0) ∧
      (s.power.nvOpen = false → t.flash = s.flash) ∧
      (a.phase = .control → t.planes.standby = .failed) ∧
      (a.phase = .window → s.planes.ctl = .running → t.planes.ctl = .pause ∧ t.planes.transitCode = 0x0B08) ∧
      (a.phase = .window → s.planes.data ≠ .idle → s.job.ending = false →
        t.boot.revertPending = some a.old ∧ t.boot.dataBank = s.boot.dataBank) ∧
      (s.planes.data = .idle → t.boot.dataBank = s.boot.confirmed)) ∧
  (∀ s : State, (∀ a w, s.boot.activation = some a → s.boot.windowFor = some w →
      a.phase ≠ .window ∨ w + 1 < 2400000000) → exec .healthWindowEnd s = .next s) ∧
  (∀ (s : State) (a : Activation), s.boot.activation = some a → a.phase = .window →
    (∀ w, s.boot.windowFor = some w → 2400000000 ≤ w + 1 → ∃ t, exec .healthWindowEnd s = .next t ∧
      SameBut [.boot, .flash, .tail] s t ∧ t.boot.windowFor = none ∧
      (s.power.nvOpen = true → t.boot.confirmed = a.bank ∧ t.boot.updResult = 1 ∧ t.boot.updState = 0 ∧
        t.boot.activation = none ∧
        t.flash = (s.writeHeader fun h => { h with confirmed := a.bank, trial := none }).flash) ∧
      (s.power.nvOpen = false → t.boot.updState = 6 ∧ t.boot.confirmed = s.boot.confirmed ∧
        t.boot.activation = some { a with phase := .confirming })))

/-- In Nadir mode, for a frame with a good CRC and a SEQ later than the highest seen, each answered with its OP, SEQ and a stored reply: STATUS gives the cause, BOOT_STATUS and the last memory test. LOAD writes up to 1,024 bytes into the staging area and drops its verification. VERIFY runs the three stages of R463 on it and answers their code. PROGRAM of a verified image with the NV window open writes the bank and makes it CONFIRMED. MEMTEST answers its code and the failing offset. TAIL_READ returns 1,024 bytes of the Tail region. REBOOT boots from step 2 with the power-cycle count as it was. A wrong ARG is answered with BAD_FIELD and nothing else. Zero bytes that are set are answered with RESERVED_SET, a LENGTH that is too large or not that of the data with BAD_LENGTH. A SEQ not later than the highest seen gets the stored reply, or none; a bad CRC or MAGIC gets none, and so does a frame of another OP or outside Nadir mode. -/
def Obligations.NadirFramesAreServed : Prop :=
  (∀ (s : State) (f : NadirFrame), s.planes.mgmt = .nadir → f.crcOk = true →
    uAt f.bytes 5 1 = 0 → uAt f.bytes 18 2 = 0 → f.length = f.data.length → f.length ≤ 1024 →
    (s.boot.nadir.lastSeq = none ∨ ∃ q, s.boot.nadir.lastSeq = some q ∧ 0 < seqDiff 32 f.seq.toNat q.toNat) →
    let n := s.boot.nadir
    let answers (c : Instr) (r : NadirReply) (w : List Part) (p : State → Prop) : Prop := ∃ t, exec c s = .next t ∧
      t.outbox = .nadir r.bytes :: s.outbox ∧ SameBut ([.boot, .outbox] ++ w) s t ∧ r.seq = f.seq ∧
      t.boot.nadir.lastSeq = some f.seq ∧ t.boot.nadir.replies = (r :: n.replies).take 32 ∧ p t
    (f.op = 1 → f.arg = 0 → f.data = [] → answers (.nadirStatus f) {
      op := 1, status := 0, seq := f.seq, arg := 0, data := u32s [n.cause, s.bootStatusWord.toNat, n.lastTest.toNat] }
      [] fun _ => True) ∧
    (f.op = 1 → f.arg ≠ 0 → answers (.nadirStatus f) { op := 1, status := 0x0204, seq := f.seq, arg := f.arg, data := [] } [] fun t =>
      t.boot.nadir.staging = n.staging) ∧
    (f.op = 2 → f.arg.toNat + f.data.length ≤ 6291456 → answers (.nadirLoad f)
      { op := 2, status := 0, seq := f.seq, arg := f.arg, data := [] } [] fun t =>
        t.boot.nadir.staging = sbulk 0 n.staging f.arg.toNat f.data ∧ t.boot.nadir.verified = false) ∧
    (f.op = 3 → f.arg = 0 → f.data = [] →
      (∀ d, checkManifest s.stagingRead = .ok d → answers (.nadirVerify f)
        { op := 3, status := 0, seq := f.seq, arg := 0, data := [] } [] fun t => t.boot.nadir.verified = true) ∧
      (∀ b, checkManifest s.stagingRead = .error b → answers (.nadirVerify f)
        { op := 3, status := b.code, seq := f.seq, arg := 0, data := [] } [] fun t => t.boot.nadir.verified = false)) ∧
    (f.op = 4 → f.arg.toNat ≤ 1 → f.data = [] → n.verified = true → s.power.nvOpen = true → answers (.nadirProgram f)
      { op := 4, status := 0, seq := f.seq, arg := f.arg, data := [] } [.flash] fun t =>
        t.boot.confirmed = (f.arg == 1) ∧ t.boot.nadir.staging = n.staging) ∧
    (f.op = 5 → f.arg.toNat ≤ 1 → f.data = [] →
      answers (.nadirMemtest f none) { op := 5, status := 0, seq := f.seq, arg := f.arg, data := [] } [] (fun t =>
        t.boot.nadir.lastTest = 0) ∧
      ∀ o : Nat, answers (.nadirMemtest f (some o))
        { op := 5, status := 0x0B0A, seq := f.seq, arg := BitVec.ofNat 32 o, data := [] } [] fun t =>
          t.boot.nadir.lastTest = 0x0B0A) ∧
    (f.op = 6 → f.arg.toNat + 1024 ≤ 33554432 → f.data = [] → answers (.nadirTailRead f)
      { op := 6, status := 0, seq := f.seq, arg := f.arg, data := s.flashRead (0x2000000 + f.arg.toNat) 1024 } []
      fun _ => True) ∧
    (∀ env : BootEnv, f.op = 7 → f.arg = 0 → f.data = [] → ∃ t, exec (.nadirReboot f env) s = .next t ∧
      t.boot.pwrCycles = s.boot.pwrCycles ∧
      (env.strap = true → t.planes.mgmt = .nadir ∧ t.boot.nadir.cause = 1) ∧
      (∀ b, env.strap = false → b = ((s.header?.map (·.1)).getD BootHeader.blank).confirmed →
        manifestBad (s.bankRead b 0 576) = none → t.planes.mgmt = .running ∧ t.boot.running = b))) ∧
  (∀ (s : State) (f : NadirFrame) (x : Option Nat) (env : BootEnv) (n : Nat) (c : Instr),
    (n, c) ∈ [(1, Instr.nadirStatus f), (2, .nadirLoad f), (3, .nadirVerify f), (4, .nadirProgram f),
      (5, .nadirMemtest f x), (6, .nadirTailRead f), (7, .nadirReboot f env)] →
    (f.crcOk = false ∨ s.planes.mgmt ≠ .nadir ∨ f.op ≠ n → exec c s = .next s) ∧
    (f.crcOk = true → s.planes.mgmt = .nadir → f.op = n →
      (s.boot.nadir.lastSeq = none ∨ ∃ q, s.boot.nadir.lastSeq = some q ∧ 0 < seqDiff 32 f.seq.toNat q.toNat) →
      (uAt f.bytes 5 1 ≠ 0 ∨ uAt f.bytes 18 2 ≠ 0 →
        exec c s = .next (s.nadirReply { op := n, status := 0x0205, seq := f.seq, arg := f.arg, data := [] })) ∧
      (uAt f.bytes 5 1 = 0 → uAt f.bytes 18 2 = 0 → 1024 < f.length ∨ f.length ≠ f.data.length →
        exec c s = .next (s.nadirReply { op := n, status := 0x0206, seq := f.seq, arg := f.arg, data := [] }))) ∧
    (∀ q, f.crcOk = true → s.planes.mgmt = .nadir → f.op = n → s.boot.nadir.lastSeq = some q →
      seqDiff 32 f.seq.toNat q.toNat ≤ 0 →
      (∀ r, s.boot.nadir.replies.find? (fun x => x.seq == f.seq) = some r →
        exec c s = .next { s with outbox := .nadir r.bytes :: s.outbox }) ∧
      (s.boot.nadir.replies.find? (fun x => x.seq == f.seq) = none → exec c s = .next s)))

/-- Dispatched and legal: TAIL_STATUS completes with the status word, the write position and both sequence numbers. TAIL_NOTE makes one record and completes with its SEQ. TAIL_FREEZE acts at once while nothing is programmed, and else waits. TAIL_CLEAR starts an erase, with the MARK of a record in progress first, or joins the one that runs. TAIL_FLUSH begins the oldest record of the companion-die buffer, else of the stage, with every byte but MARK; the next one writes its MARK, moves the write position and lets the freezes act that waited. TAIL_ERASE_DONE leaves the region erased but for a CLEAR record with the slot and the first and last SEQ, and completes its commands. WINDOW_LOAD_DONE gives the port its block. A TAIL_STATUS read that finds BUSY 0 holds the writer off for 40 samples. Out of its turn a completion row changes nothing. -/
def Obligations.TailRecordsAreWrittenFrozenAndCleared : Prop :=
  (∀ (e : Entry) (s t : State) (f : Flight),
    (Dispatched 0x0B00 e s f t → (e.zeroFrom 0x18 40).1 = false →
      exec (.tailStatus e) s = .next (t.ok f (t.tailStatusWord.toNat + t.tail.wpos * 2 ^ 32)
        ((if t.tail.lastValid.isNone = true then t.tail.seqNext else t.tail.firstSeq).toNat +
          t.tail.seqNext.toNat * 2 ^ 32) [])) ∧
    (Dispatched 0x0B40 e s f t → e.u 0x18 1 ≤ 1 → (e.zeroFrom 0x19 39).1 = false →
      (t.tail.busy = none → ∃ u : State, exec (.tailFreeze e) s = .next (u.ok f 0 0 []) ∧ SameBut [.tail] t u ∧
        u.tail = { t.tail with freeze := e.u 0x18 1 == 1 }) ∧
      (t.tail.busy.isSome = true → ∃ u : State, exec (.tailFreeze e) s = .next u ∧ SameBut [.tail, .host] t u ∧
        u.tail = { t.tail with freezeWaits := t.tail.freezeWaits ++ [(f.id, e.u 0x18 1 == 1)] })) ∧
    (Dispatched 0x0B41 e s f t → (e.zeroFrom 0x18 40).1 = false → 12 ≤ e.dataLen → e.dataLen ≤ 1020 →
      e.dataLen % 4 = 0 → t.tail.full = false → ∃ u : State,
        exec (.tailNote e) s = .next (u.ok f t.tail.seqNext.toNat 0 []) ∧ SameBut [.tail, .mem] t u ∧
        u.tail.seqNext = t.tail.seqNext + 1) ∧
    (Dispatched 0x0B42 e s f t → (e.zeroFrom 0x18 40).1 = false → t.power.nvOpen = true →
      (t.tail.erase = none → t.tail.busy = none → ∃ u : State, exec (.tailClear e) s = .next u ∧
        SameBut [.tail, .host] t u ∧ u.tail = { t.tail with erase := some {
          flights := [f.id], slot := f.slot, first := t.tail.first
          last := t.tail.lastValid.getD (t.tail.seqNext - 1) } }) ∧
      (∀ (r : TailRec) (o k : Nat), t.tail.erase = none → t.tail.busy = some (r, o, k) → ∃ (u : State) (x : TailErase),
        exec (.tailClear e) s = .next u ∧ u.flash = sbulk flashErased t.flash (0x2000000 + o) [0x5A#8, 0xA5#8] ∧
        u.tail.busy = none ∧ u.tail.freezeWaits = [] ∧ u.tail.erase = some x ∧ x.flights = [f.id] ∧ x.slot = f.slot ∧
        x.last = r.seq) ∧
      (∀ x, t.tail.erase = some x → ∃ u : State, exec (.tailClear e) s = .next u ∧ SameBut [.tail, .host] t u ∧
        u.tail = { t.tail with erase := some { x with flights := x.flights ++ [f.id] } }))) ∧
  (∀ (s : State) (r : TailRec),
    (∀ o k : Nat, s.tail.busy = some (r, o, k) → ∃ t : State, exec .tailFlush s = .next t.tailFrozen ∧
      SameBut [.tail, .flash] s t ∧ t.flash = sbulk flashErased s.flash (0x2000000 + o) [0x5A#8, 0xA5#8] ∧
      t.tail.busy = none ∧ t.tail.wpos = o + r.length ∧ t.tail.lastValid = some r.seq ∧
      t.tail.freezeWaits = s.tail.freezeWaits ∧
      t.tail.full = (s.tail.full || t.tail.noRoom (t.tailNext.elim 44 (·.length)))) ∧
    (s.tail.busy = none → (s.tailFree = false ∨ s.tailNext = none) → exec .tailFlush s = .next s) ∧
    (s.tail.busy = none → s.tailFree = true →
      (∃ l, s.tail.buffer = r :: l) ∨ (s.tail.buffer = [] ∧ s.power.core = true ∧ ∃ l, s.tail.stage = r :: l) →
      let o := s.tail.place r.length
      (o + r.length ≤ 33554432 → ∃ t, exec .tailFlush s = .next t ∧ SameBut [.tail, .flash] s t ∧
        t.tail.busy = some (r, o, s.ix) ∧ t.flash = sbulk flashErased s.flash (0x2000000 + o) (r.bytes 0xFFFF) ∧
        t.tail.buffer ++ t.tail.stage = (s.tail.buffer ++ s.tail.stage).tail) ∧
      (33554432 < o + r.length → ∃ t, exec .tailFlush s = .next t ∧ SameBut [.tail] s t ∧
        t.tail = { s.tail with full := true }))) ∧
  (∀ s : State, (s.tail.erase = none ∨ s.power.nvOpen = false ∨ s.planes.mgmt = .nadir) →
    exec .tailEraseDone s = .next s) ∧
  (∀ (s : State) (x : TailErase), s.tail.erase = some x → s.power.nvOpen = true → s.planes.mgmt ≠ .nadir →
    ∃ (t : State) (r : TailRec), exec .tailEraseDone s = .next t ∧ SameBut [.tail, .flash, .host, .outbox] s t ∧ r.type = 1 ∧
      r.seq = s.tail.seqNext ∧ r.payload = padPayload (u32s [x.slot, x.first.toNat, x.last.toNat]) ∧
      t.flash = sbulk flashErased (serase s.flash 0x2000000 33554432) 0x2000000 (r.bytes 0xA55A) ∧
      t.tail = { s.tail with
        erase := none, full := false, wpos := r.length, seqNext := s.tail.seqNext + 1, clear := s.tail.clear.inc
        firstSeq := r.seq, lastValid := some r.seq }) ∧
  (∀ (s : State) (p : Nat), (s.port p).loading = false → exec (.windowLoadDone p) s = .next s) ∧
  (∀ (s : State) (p : Nat), p < 3 → (s.port p).loading = true → ∃ t, exec (.windowLoadDone p) s = .next t ∧
    SameBut [.host] s t ∧ t.port p = { s.port p with
      loading := false, ready := true, window := s.flashRead (0x2000000 + 4096 * (s.port p).cursor) 4096 }) ∧
  (∀ (a : RegAccess) (s u : State) (x : RegPlace) (i : Nat), Reaches a s u → a.narrow = false →
    u.reach a.origin.port a.addr = .ok (x, i) → x.reg = .tailStatus →
    ∃ t : State, exec (.tailStatusRead a) s =
        .next (t.answerRead a (u.regValue a.origin.port i .tailStatus) 0) ∧
      SameBut [.host, .tail] u t ∧
      t.tail = if u.tail.busy.isSome = true then u.tail else { u.tail with holdUntil := u.ix + 40 })

/-- CTL_FAULT while a pair is active: with the standby ready and no Transit running a Transit begins and no channel is touched (in a health window, the one that reverts the activation); else every declared channel enters Eclipse and the control plane boots, noting whether its record is good. CONTROL_RESTART_DONE makes the pair run with no command left in flight; when the record was bad every slot has lost its roles. MGMT_FAULT restarts the running management core with a record in the companion-die buffer, and a missed heartbeat that the phase of an activation fails by reverts it. Where the unit does not run, the row changes nothing. -/
def Obligations.PlanesRestartAfterFaults : Prop :=
  (∀ (s : State) (cause : Nat) (good : Bool),
    (s.power.core = false ∨ (s.planes.ctl ≠ .running ∧ s.planes.ctl ≠ .pause) →
      exec (.ctlFault cause good) s = .next s) ∧
    (∀ a, s.power.core = true → s.planes.ctl = .running → s.planes.standby = .ready → s.boot.activation = some a →
      a.phase = .window → ∃ t, exec (.ctlFault cause good) s = .next t ∧ t.planes.ctl = .pause ∧
        t.planes.transitCode = 0x0B08 ∧ t.boot.activation = none ∧ t.boot.updResult = 2)) ∧
  (∀ (s : State) (cause : Nat) (good : Bool), s.power.core = true → s.planes.ctl = .running ∨ s.planes.ctl = .pause →
    (∀ a, s.boot.activation = some a → a.phase ≠ .window) →
    (s.planes.standby = .ready → s.planes.ctl = .running → ∃ t, exec (.ctlFault cause good) s = .next t ∧
      SameBut [.planes, .tail, .mem] s t ∧ t.planes = { s.planes with ctl := .pause, transitCode := 0 }) ∧
    (s.planes.standby ≠ .ready ∨ s.planes.ctl = .pause → ∃ t, exec (.ctlFault cause good) s = .next t ∧ t.planes.ctl = .booting ∧
      t.planes.restart = some good ∧ ∀ n, n < 32 → s.declared n = true → t.eclipsed n = true)) ∧
  (∀ s : State, s.planes.restart = none → exec .controlRestartDone s = .next s) ∧
  (∀ (s : State) (good : Bool), s.planes.restart = some good → ∃ t, exec .controlRestartDone s = .next t ∧
    t.planes.ctl = .running ∧ t.planes.restart = none ∧ t.host.flights = [] ∧ t.host.held = [] ∧
    (good = false → ∀ i, i < 8 → (t.slot i).held = 0)) ∧
  (∀ (s : State) (cause : Nat), s.planes.mgmt ≠ .running → exec (.mgmtFault cause) s = .next s) ∧
  (∀ (s : State) (cause : Nat), s.planes.mgmt = .running →
    (cause ≠ 1 ∨ (∀ a, s.boot.activation = some a → a.phase ≠ .management ∧ a.phase ≠ .window) → ∃ t, exec (.mgmtFault cause) s = .next t ∧ SameBut [.planes, .tail] s t ∧
      t.planes = { s.planes with mgmt := .restarting } ∧ t.tail.stage = s.tail.stage) ∧
    (∀ a, cause = 1 → s.boot.activation = some a → a.phase = .management ∨ a.phase = .window → ∃ t, exec (.mgmtFault cause) s = .next t ∧
      t.planes.mgmt = .restarting ∧ t.boot.activation = none ∧ t.boot.updResult = 2))
end

