-- ==== Sys2Proof/Laws/Dispatch.lean ====
section
/-!
SUPPORT. What the dispatcher and the register layer can do, said once: an entry that is dispatched runs its
command's own checks, a check list without a failure runs the command, and an accepted write stores.
-/

namespace Sys2Proof.Machine

/-- An entry that the dispatcher takes is judged. -/
theorem submit_of_taken {op : W16} {e : Entry} {s t : State} {f : Flight} (h : Taken e s f t)
    (body : Flight → State → State) : s.submit op e body = t.judge f e body := by
  unfold State.submit
  unfold Taken at h
  cases ho : e.origin with
  | queue q =>
    rw [ho] at h
    obtain ⟨i, h6, h7, h8, h9⟩ := h
    have h9a : f = _ := congrArg Prod.fst h9
    have h9b : t = _ := congrArg Prod.snd h9
    simp only [h6, h7, h8, ← h9a, ← h9b, Bool.not_true, Bool.true_or, if_true]
    rfl
  | frame hd =>
    rw [ho] at h
    obtain ⟨h6, h7, h8, h9, h10, h11⟩ := h
    have h11a : f = _ := congrArg Prod.fst h11
    have h11b : t = _ := congrArg Prod.snd h11
    simp only [h6, h7, h8, h9, ← h11a, ← h11b, h10, Bool.not_true, Bool.or_self]
    rfl

/-- A dispatched entry runs its command's body. -/
theorem submit_of_dispatched {op : W16} {e : Entry} {s t : State} {f : Flight} (h : Dispatched op e s f t)
    (body : Flight → State → State) : s.submit op e body = body f t := by
  obtain ⟨h1, h2, h3, h4, h5⟩ := h
  rw [submit_of_taken h5]
  have : (t.companionMode && (!e.inline || !companionOpcodes.contains op.toNat)) = false := by
    cases hc : t.companionMode
    · rfl
    · obtain ⟨h6, h7⟩ := h4 hc
      rw [h6, h7]
      rfl
  simp only [State.judge, h2, h1, this, h3]
  rfl

/-- A dispatched command row answers the state that its body gives. -/
theorem command_of_dispatched {op : W16} {e : Entry} {s t : State} {f : Flight} (h : Dispatched op e s f t)
    (body : Flight → State → State) : s.command op e body = .next (body f t) := by
  simp only [State.command, h.1, if_true, submit_of_dispatched h body]

/-- A check list without a failure runs the command. -/
theorem checked_of_none {f : Flight} {l : List (Bool × Bad)} (h : firstBad l = none) (k : State → State)
    (s : State) : s.checked f l k = k s := by simp only [State.checked, h]

/-- A check list with a failure rejects with the first one. -/
theorem checked_of_some {f : Flight} {l : List (Bool × Bad)} {b : Bad} (h : firstBad l = some b)
    (k : State → State) (s : State) : s.checked f l k = s.reject f b := by simp only [State.checked, h]

/-- A check that passes does not count. -/
theorem firstBad_cons_of_pass {c : Bool × Bad} {l : List (Bool × Bad)} (h : c.1 = false) :
    firstBad (c :: l) = firstBad l := by
  obtain ⟨b, x⟩ := c
  simp only at h
  subst h
  rfl

/-- No check of a list fails exactly when each of them passes. -/
theorem firstBad_eq_none {l : List (Bool × Bad)} : firstBad l = none ↔ ∀ c ∈ l, c.1 = false := by
  induction l with
  | nil => simp [firstBad]
  | cons c r ih => obtain ⟨b, x⟩ := c; cases b <;> simp [firstBad, ih]

end Sys2Proof.Machine
end

