-- ==== Sys2Proof/Laws/Sparse.lean ====
section
/-!
SUPPORT. The laws of sparse tables: a read after a write, and that every operation keeps the canonical
form.
-/

namespace Sys2Proof.Machine

variable {α : Type} [DecidableEq α] {d : α}

/-! ## The canonical form -/

theorem swfFrom_mono {m : List (Nat × α)} {lo lo' : Nat} (h : lo ≤ lo') (w : swfFrom d lo' m = true) :
    swfFrom d lo m = true := by
  cases m with
  | nil => rfl
  | cons c r =>
    obtain ⟨k, a⟩ := c
    simp only [swfFrom, Bool.and_eq_true, decide_eq_true_eq] at w ⊢
    exact ⟨by omega, w.2⟩

theorem swfFrom_sset {m : List (Nat × α)} {lo i : Nat} (v : α) (hi : lo ≤ i) (w : swfFrom d lo m = true) :
    swfFrom d lo (sset d m i v) = true := by
  induction m generalizing lo with
  | nil => by_cases hv : v = d <;> simp [sset, swfFrom, hv, hi]
  | cons c r ih =>
    obtain ⟨k, a⟩ := c
    simp only [swfFrom, Bool.and_eq_true, decide_eq_true_eq] at w
    obtain ⟨hk, ha, hr⟩ := w
    unfold sset
    split
    · split
      · simp [swfFrom, hk, ha, hr]
      · simp only [swfFrom, Bool.and_eq_true, decide_eq_true_eq]
        exact ⟨hi, ‹_›, by omega, ha, hr⟩
    · split
      · split
        · exact swfFrom_mono (by omega) hr
        · simp only [swfFrom, Bool.and_eq_true, decide_eq_true_eq]
          exact ⟨by omega, ‹_›, swfFrom_mono (by omega) hr⟩
      · simp only [swfFrom, Bool.and_eq_true, decide_eq_true_eq]
        exact ⟨hk, ha, ih (by omega) hr⟩

/-- A write keeps the canonical form. -/
theorem swf_sset {m : List (Nat × α)} (i : Nat) (v : α) (w : swf d m = true) : swf d (sset d m i v) = true :=
  swfFrom_sset v (Nat.zero_le i) w

theorem swfFrom_filter {m : List (Nat × α)} {lo : Nat} (p : Nat × α → Bool) (w : swfFrom d lo m = true) :
    swfFrom d lo (m.filter p) = true := by
  induction m generalizing lo with
  | nil => exact w
  | cons c r ih =>
    obtain ⟨k, a⟩ := c
    simp only [swfFrom, Bool.and_eq_true, decide_eq_true_eq] at w
    obtain ⟨hk, ha, hr⟩ := w
    rw [List.filter_cons]
    split
    · simp only [swfFrom, Bool.and_eq_true, decide_eq_true_eq]
      exact ⟨hk, ha, ih hr⟩
    · exact swfFrom_mono (by omega) (ih hr)

/-- An erase keeps the canonical form. -/
theorem swf_serase {m : List (Nat × α)} (i n : Nat) (w : swf d m = true) : swf d (serase m i n) = true :=
  swfFrom_filter _ w

theorem swfFrom_append {a b : List (Nat × α)} {lo hi : Nat} (wa : swfFrom d lo a = true)
    (ha : ∀ c ∈ a, c.1 < hi) (hb : swfFrom d hi b = true) (h : lo ≤ hi) : swfFrom d lo (a ++ b) = true := by
  induction a generalizing lo with
  | nil => exact swfFrom_mono h hb
  | cons c r ih =>
    obtain ⟨k, x⟩ := c
    simp only [swfFrom, Bool.and_eq_true, decide_eq_true_eq] at wa
    obtain ⟨hk, hx, hr⟩ := wa
    have hk' : k < hi := ha (k, x) (List.mem_cons_self ..)
    simp only [List.cons_append, swfFrom, Bool.and_eq_true, decide_eq_true_eq]
    exact ⟨hk, hx, ih hr (fun c hc => ha c (List.mem_cons_of_mem _ hc)) (by omega)⟩

theorem swfFrom_filter_above {m : List (Nat × α)} {lo k : Nat} (w : swfFrom d lo m = true) :
    swfFrom d k (m.filter fun c => decide (k ≤ c.1)) = true := by
  induction m generalizing lo with
  | nil => rfl
  | cons c r ih =>
    obtain ⟨j, a⟩ := c
    simp only [swfFrom, Bool.and_eq_true, decide_eq_true_eq] at w
    obtain ⟨hk, ha, hr⟩ := w
    rw [List.filter_cons]
    split
    · rename_i h
      simp only [decide_eq_true_eq] at h
      simp only [swfFrom, Bool.and_eq_true, decide_eq_true_eq]
      exact ⟨h, ha, swfFrom_filter _ hr⟩
    · exact ih hr

/-- The cells of a bulk write. -/
def newCells (d : α) (i : Nat) (vs : List α) : List (Nat × α) :=
  (vs.zipIdx i).filterMap fun p => if p.1 = d then none else some (p.2, p.1)

theorem newCells_wf (i : Nat) (vs : List α) :
    swfFrom d i (newCells d i vs) = true ∧ ∀ c ∈ newCells d i vs, c.1 < i + vs.length := by
  induction vs generalizing i with
  | nil => exact ⟨rfl, fun c hc => by cases hc⟩
  | cons v r ih =>
    obtain ⟨hw, hl⟩ := ih (i + 1)
    by_cases hv : v = d
    · have e : newCells d i (v :: r) = newCells d (i + 1) r := by
        simp [newCells, List.zipIdx_cons, hv]
      rw [e]
      exact ⟨swfFrom_mono (by omega) hw, fun c hc => by have := hl c hc; simp; omega⟩
    · have e : newCells d i (v :: r) = (i, v) :: newCells d (i + 1) r := by
        simp [newCells, List.zipIdx_cons, hv]
      rw [e]
      refine ⟨by simp [swfFrom, hv, hw], fun c hc => ?_⟩
      rcases List.mem_cons.1 hc with rfl | hc
      · simp
      · have := hl c hc; simp; omega

/-- A bulk write keeps the canonical form. -/
theorem swf_sbulk {m : List (Nat × α)} (i : Nat) (vs : List α) (w : swf d m = true) :
    swf d (sbulk d m i vs) = true := by
  obtain ⟨hw, hl⟩ := newCells_wf (d := d) i vs
  have low : ∀ c ∈ m.filter (fun c => decide (c.1 < i)), c.1 < i := fun c hc => by
    simpa using (List.mem_filter.1 hc).2
  have high := swfFrom_filter_above (k := i + vs.length) w
  have mid := swfFrom_append hw hl high (by omega)
  show swfFrom d 0 ((m.filter fun c => decide (c.1 < i)) ++ newCells d i vs ++
    m.filter fun c => decide (i + vs.length ≤ c.1)) = true
  rw [List.append_assoc]
  exact swfFrom_append (swfFrom_filter _ w) low mid (Nat.zero_le i)

/-! ## Reads -/

theorem sget_of_lt {m : List (Nat × α)} {lo i : Nat} (w : swfFrom d lo m = true) (h : i < lo) :
    sget d m i = d := by
  induction m generalizing lo with
  | nil => rfl
  | cons c r ih =>
    obtain ⟨k, a⟩ := c
    simp only [swfFrom, Bool.and_eq_true, decide_eq_true_eq] at w
    obtain ⟨hk, ha, hr⟩ := w
    simp only [sget]
    rw [if_neg (by omega)]
    exact ih hr (by omega)

/-- A read after a write to the same place gives the value written. -/
theorem sget_sset_same {m : List (Nat × α)} {lo : Nat} (i : Nat) (v : α) (w : swfFrom d lo m = true) :
    sget d (sset d m i v) i = v := by
  induction m generalizing lo with
  | nil => by_cases hv : v = d <;> simp [sset, sget, hv]
  | cons c r ih =>
    obtain ⟨k, a⟩ := c
    simp only [swfFrom, Bool.and_eq_true, decide_eq_true_eq] at w
    obtain ⟨hk, ha, hr⟩ := w
    unfold sset
    split
    · split
      · have w' : swfFrom d k ((k, a) :: r) = true := by simp [swfFrom, ha, hr]
        rw [sget_of_lt w' (by omega)]; exact Eq.symm ‹_›
      · simp [sget]
    · split
      · split
        · rw [sget_of_lt hr (by omega)]; exact Eq.symm ‹_›
        · simp [sget]
      · simp only [sget]
        rw [if_neg (by omega)]
        exact ih hr

/-- A write leaves every other place alone. -/
theorem sget_sset_other {m : List (Nat × α)} (i j : Nat) (v : α) (h : j ≠ i) :
    sget d (sset d m i v) j = sget d m j := by
  induction m with
  | nil =>
    by_cases hv : v = d
    · simp [sset, hv]
    · simp [sset, sget, hv, h]
  | cons c r ih =>
    obtain ⟨k, a⟩ := c
    unfold sset
    split
    · split
      · rfl
      · simp [sget, h]
    · split
      · rename_i hk
        split <;> subst hk <;> simp [sget, h]
      · simp only [sget, ih]

theorem sget_filter {m : List (Nat × α)} {p : Nat → Bool} (i : Nat) (h : p i = true) :
    sget d (m.filter fun c => p c.1) i = sget d m i := by
  induction m with
  | nil => rfl
  | cons c r ih =>
    obtain ⟨k, a⟩ := c
    by_cases hi : i = k
    · subst hi; simp [h, sget]
    · by_cases hp : p k = true <;> simp [hp, sget, hi, ih]

theorem sget_filter_out {m : List (Nat × α)} {p : Nat → Bool} (i : Nat) (h : p i = false) :
    sget d (m.filter fun c => p c.1) i = d := by
  induction m with
  | nil => rfl
  | cons c r ih =>
    obtain ⟨k, a⟩ := c
    by_cases hp : p k = true
    · have hi : i ≠ k := fun e => by rw [e, hp] at h; cases h
      simp [hp, sget, hi, ih]
    · simp [hp, ih]

theorem sget_append {a b : List (Nat × α)} (i : Nat) (h : ∀ c ∈ a, c.1 ≠ i) :
    sget d (a ++ b) i = sget d b i := by
  induction a with
  | nil => rfl
  | cons c r ih =>
    obtain ⟨k, x⟩ := c
    have hk : i ≠ k := fun e => h (k, x) (List.mem_cons_self ..) e.symm
    simp only [List.cons_append, sget, if_neg hk]
    exact ih fun c hc => h c (List.mem_cons_of_mem _ hc)

theorem sget_append_right {a b : List (Nat × α)} (i : Nat) (h : ∀ c ∈ b, c.1 ≠ i) :
    sget d (a ++ b) i = sget d a i := by
  induction a with
  | nil => simpa using sget_append (b := []) (d := d) i h
  | cons c r ih => simp only [List.cons_append, sget, ih]

/-- An erase gives the default inside its range and leaves every other place alone. -/
theorem sget_serase {m : List (Nat × α)} (i n j : Nat) :
    sget d (serase m i n) j = if i ≤ j ∧ j < i + n then d else sget d m j := by
  unfold serase
  split
  · exact sget_filter_out (p := fun k => decide (k < i) || decide (i + n ≤ k)) j
      (by simp only [Bool.or_eq_false_iff, decide_eq_false_iff_not]; omega)
  · exact sget_filter (p := fun k => decide (k < i) || decide (i + n ≤ k)) j
      (by simp only [Bool.or_eq_true, decide_eq_true_eq]; omega)

/-- A bulk write leaves every place outside its range alone. -/
theorem sget_sbulk_other {m : List (Nat × α)} (i j : Nat) (vs : List α) (h : j < i ∨ i + vs.length ≤ j) :
    sget d (sbulk d m i vs) j = sget d m j := by
  have hn : ∀ c ∈ newCells d i vs, c.1 ≠ j := by
    obtain ⟨hw, hl⟩ := newCells_wf (d := d) i vs
    intro c hc e
    have := hl c hc
    have low : i ≤ c.1 := by
      clear hl this
      unfold newCells at hc
      simp only [List.mem_filterMap] at hc
      obtain ⟨p, hp, hc⟩ := hc
      have := List.le_snd_of_mem_zipIdx hp
      split at hc
      · cases hc
      · cases hc; exact this
    omega
  show sget d ((m.filter fun c => decide (c.1 < i)) ++ newCells d i vs ++
    m.filter fun c => decide (i + vs.length ≤ c.1)) j = sget d m j
  rcases h with h | h
  · rw [sget_append_right j fun c hc e => by have := (List.mem_filter.1 hc).2; simp at this; omega,
      sget_append_right j hn]
    exact sget_filter (p := fun k => decide (k < i)) j (by simpa using h)
  · rw [List.append_assoc, sget_append j fun c hc e => by have := (List.mem_filter.1 hc).2; simp at this; omega,
      sget_append j hn]
    exact sget_filter (p := fun k => decide (i + vs.length ≤ k)) j (by simpa using h)

end Sys2Proof.Machine
end

