-- ==== Sys2Proof/Laws/State.lean ====
section
/-!
SUPPORT. What the named updates of the state leave alone: one lemma per field per update.
-/

namespace Sys2Proof.Machine

@[simp] theorem State.modEngine_pending (n : Nat) (f : Engine → Engine) (s : State) :
     (State.modEngine n f s).pending = s.pending := rfl
@[simp] theorem State.modEngine_outbox (n : Nat) (f : Engine → Engine) (s : State) :
     (State.modEngine n f s).outbox = s.outbox := rfl
@[simp] theorem State.modEngine_freeCtr (n : Nat) (f : Engine → Engine) (s : State) :
     (State.modEngine n f s).freeCtr = s.freeCtr := rfl
@[simp] theorem State.modEngine_host (n : Nat) (f : Engine → Engine) (s : State) :
     (State.modEngine n f s).host = s.host := rfl
@[simp] theorem State.modEngine_eph (n : Nat) (f : Engine → Engine) (s : State) :
     (State.modEngine n f s).eph = s.eph := rfl
@[simp] theorem State.modEngine_job (n : Nat) (f : Engine → Engine) (s : State) :
     (State.modEngine n f s).job = s.job := rfl
@[simp] theorem State.modEngine_arb (n : Nat) (f : Engine → Engine) (s : State) :
     (State.modEngine n f s).arb = s.arb := rfl
@[simp] theorem State.modEngine_melt (n : Nat) (f : Engine → Engine) (s : State) :
     (State.modEngine n f s).melt = s.melt := rfl
@[simp] theorem State.modEngine_peri (n : Nat) (f : Engine → Engine) (s : State) :
     (State.modEngine n f s).peri = s.peri := rfl
@[simp] theorem State.modEngine_tide (n : Nat) (f : Engine → Engine) (s : State) :
     (State.modEngine n f s).tide = s.tide := rfl
@[simp] theorem State.modEngine_links (n : Nat) (f : Engine → Engine) (s : State) :
     (State.modEngine n f s).links = s.links := rfl
@[simp] theorem State.modEngine_axes (n : Nat) (f : Engine → Engine) (s : State) :
     (State.modEngine n f s).axes = s.axes := rfl
@[simp] theorem State.modEngine_recoat (n : Nat) (f : Engine → Engine) (s : State) :
     (State.modEngine n f s).recoat = s.recoat := rfl
@[simp] theorem State.modEngine_camera (n : Nat) (f : Engine → Engine) (s : State) :
     (State.modEngine n f s).camera = s.camera := rfl
@[simp] theorem State.modEngine_halo (n : Nat) (f : Engine → Engine) (s : State) :
     (State.modEngine n f s).halo = s.halo := rfl
@[simp] theorem State.modEngine_time (n : Nat) (f : Engine → Engine) (s : State) :
     (State.modEngine n f s).time = s.time := rfl
@[simp] theorem State.modEngine_mem (n : Nat) (f : Engine → Engine) (s : State) :
     (State.modEngine n f s).mem = s.mem := rfl
@[simp] theorem State.modEngine_disp (n : Nat) (f : Engine → Engine) (s : State) :
     (State.modEngine n f s).disp = s.disp := rfl
@[simp] theorem State.modEngine_power (n : Nat) (f : Engine → Engine) (s : State) :
     (State.modEngine n f s).power = s.power := rfl
@[simp] theorem State.modEngine_cal (n : Nat) (f : Engine → Engine) (s : State) :
     (State.modEngine n f s).cal = s.cal := rfl
@[simp] theorem State.modEngine_boot (n : Nat) (f : Engine → Engine) (s : State) :
     (State.modEngine n f s).boot = s.boot := rfl
@[simp] theorem State.modEngine_tail (n : Nat) (f : Engine → Engine) (s : State) :
     (State.modEngine n f s).tail = s.tail := rfl
@[simp] theorem State.modEngine_planes (n : Nat) (f : Engine → Engine) (s : State) :
     (State.modEngine n f s).planes = s.planes := rfl
@[simp] theorem State.modEngine_eclipse (n : Nat) (f : Engine → Engine) (s : State) :
     (State.modEngine n f s).eclipse = s.eclipse := rfl
@[simp] theorem State.modEngine_flash (n : Nat) (f : Engine → Engine) (s : State) :
     (State.modEngine n f s).flash = s.flash := rfl
@[simp] theorem State.modLink_pending (n : Nat) (f : Link → Link) (s : State) :
     (State.modLink n f s).pending = s.pending := rfl
@[simp] theorem State.modLink_outbox (n : Nat) (f : Link → Link) (s : State) :
     (State.modLink n f s).outbox = s.outbox := rfl
@[simp] theorem State.modLink_freeCtr (n : Nat) (f : Link → Link) (s : State) :
     (State.modLink n f s).freeCtr = s.freeCtr := rfl
@[simp] theorem State.modLink_host (n : Nat) (f : Link → Link) (s : State) :
     (State.modLink n f s).host = s.host := rfl
@[simp] theorem State.modLink_eph (n : Nat) (f : Link → Link) (s : State) :
     (State.modLink n f s).eph = s.eph := rfl
@[simp] theorem State.modLink_job (n : Nat) (f : Link → Link) (s : State) :
     (State.modLink n f s).job = s.job := rfl
@[simp] theorem State.modLink_engines (n : Nat) (f : Link → Link) (s : State) :
     (State.modLink n f s).engines = s.engines := rfl
@[simp] theorem State.modLink_arb (n : Nat) (f : Link → Link) (s : State) :
     (State.modLink n f s).arb = s.arb := rfl
@[simp] theorem State.modLink_melt (n : Nat) (f : Link → Link) (s : State) :
     (State.modLink n f s).melt = s.melt := rfl
@[simp] theorem State.modLink_peri (n : Nat) (f : Link → Link) (s : State) :
     (State.modLink n f s).peri = s.peri := rfl
@[simp] theorem State.modLink_tide (n : Nat) (f : Link → Link) (s : State) :
     (State.modLink n f s).tide = s.tide := rfl
@[simp] theorem State.modLink_axes (n : Nat) (f : Link → Link) (s : State) :
     (State.modLink n f s).axes = s.axes := rfl
@[simp] theorem State.modLink_recoat (n : Nat) (f : Link → Link) (s : State) :
     (State.modLink n f s).recoat = s.recoat := rfl
@[simp] theorem State.modLink_camera (n : Nat) (f : Link → Link) (s : State) :
     (State.modLink n f s).camera = s.camera := rfl
@[simp] theorem State.modLink_halo (n : Nat) (f : Link → Link) (s : State) :
     (State.modLink n f s).halo = s.halo := rfl
@[simp] theorem State.modLink_time (n : Nat) (f : Link → Link) (s : State) :
     (State.modLink n f s).time = s.time := rfl
@[simp] theorem State.modLink_mem (n : Nat) (f : Link → Link) (s : State) :
     (State.modLink n f s).mem = s.mem := rfl
@[simp] theorem State.modLink_disp (n : Nat) (f : Link → Link) (s : State) :
     (State.modLink n f s).disp = s.disp := rfl
@[simp] theorem State.modLink_power (n : Nat) (f : Link → Link) (s : State) :
     (State.modLink n f s).power = s.power := rfl
@[simp] theorem State.modLink_cal (n : Nat) (f : Link → Link) (s : State) :
     (State.modLink n f s).cal = s.cal := rfl
@[simp] theorem State.modLink_boot (n : Nat) (f : Link → Link) (s : State) :
     (State.modLink n f s).boot = s.boot := rfl
@[simp] theorem State.modLink_tail (n : Nat) (f : Link → Link) (s : State) :
     (State.modLink n f s).tail = s.tail := rfl
@[simp] theorem State.modLink_planes (n : Nat) (f : Link → Link) (s : State) :
     (State.modLink n f s).planes = s.planes := rfl
@[simp] theorem State.modLink_eclipse (n : Nat) (f : Link → Link) (s : State) :
     (State.modLink n f s).eclipse = s.eclipse := rfl
@[simp] theorem State.modLink_flash (n : Nat) (f : Link → Link) (s : State) :
     (State.modLink n f s).flash = s.flash := rfl
@[simp] theorem State.modMelt_pending (n : Nat) (f : MeltCh → MeltCh) (s : State) :
     (State.modMelt n f s).pending = s.pending := rfl
@[simp] theorem State.modMelt_outbox (n : Nat) (f : MeltCh → MeltCh) (s : State) :
     (State.modMelt n f s).outbox = s.outbox := rfl
@[simp] theorem State.modMelt_freeCtr (n : Nat) (f : MeltCh → MeltCh) (s : State) :
     (State.modMelt n f s).freeCtr = s.freeCtr := rfl
@[simp] theorem State.modMelt_host (n : Nat) (f : MeltCh → MeltCh) (s : State) :
     (State.modMelt n f s).host = s.host := rfl
@[simp] theorem State.modMelt_eph (n : Nat) (f : MeltCh → MeltCh) (s : State) :
     (State.modMelt n f s).eph = s.eph := rfl
@[simp] theorem State.modMelt_job (n : Nat) (f : MeltCh → MeltCh) (s : State) :
     (State.modMelt n f s).job = s.job := rfl
@[simp] theorem State.modMelt_engines (n : Nat) (f : MeltCh → MeltCh) (s : State) :
     (State.modMelt n f s).engines = s.engines := rfl
@[simp] theorem State.modMelt_arb (n : Nat) (f : MeltCh → MeltCh) (s : State) :
     (State.modMelt n f s).arb = s.arb := rfl
@[simp] theorem State.modMelt_peri (n : Nat) (f : MeltCh → MeltCh) (s : State) :
     (State.modMelt n f s).peri = s.peri := rfl
@[simp] theorem State.modMelt_tide (n : Nat) (f : MeltCh → MeltCh) (s : State) :
     (State.modMelt n f s).tide = s.tide := rfl
@[simp] theorem State.modMelt_links (n : Nat) (f : MeltCh → MeltCh) (s : State) :
     (State.modMelt n f s).links = s.links := rfl
@[simp] theorem State.modMelt_axes (n : Nat) (f : MeltCh → MeltCh) (s : State) :
     (State.modMelt n f s).axes = s.axes := rfl
@[simp] theorem State.modMelt_recoat (n : Nat) (f : MeltCh → MeltCh) (s : State) :
     (State.modMelt n f s).recoat = s.recoat := rfl
@[simp] theorem State.modMelt_camera (n : Nat) (f : MeltCh → MeltCh) (s : State) :
     (State.modMelt n f s).camera = s.camera := rfl
@[simp] theorem State.modMelt_halo (n : Nat) (f : MeltCh → MeltCh) (s : State) :
     (State.modMelt n f s).halo = s.halo := rfl
@[simp] theorem State.modMelt_time (n : Nat) (f : MeltCh → MeltCh) (s : State) :
     (State.modMelt n f s).time = s.time := rfl
@[simp] theorem State.modMelt_mem (n : Nat) (f : MeltCh → MeltCh) (s : State) :
     (State.modMelt n f s).mem = s.mem := rfl
@[simp] theorem State.modMelt_disp (n : Nat) (f : MeltCh → MeltCh) (s : State) :
     (State.modMelt n f s).disp = s.disp := rfl
@[simp] theorem State.modMelt_power (n : Nat) (f : MeltCh → MeltCh) (s : State) :
     (State.modMelt n f s).power = s.power := rfl
@[simp] theorem State.modMelt_cal (n : Nat) (f : MeltCh → MeltCh) (s : State) :
     (State.modMelt n f s).cal = s.cal := rfl
@[simp] theorem State.modMelt_boot (n : Nat) (f : MeltCh → MeltCh) (s : State) :
     (State.modMelt n f s).boot = s.boot := rfl
@[simp] theorem State.modMelt_tail (n : Nat) (f : MeltCh → MeltCh) (s : State) :
     (State.modMelt n f s).tail = s.tail := rfl
@[simp] theorem State.modMelt_planes (n : Nat) (f : MeltCh → MeltCh) (s : State) :
     (State.modMelt n f s).planes = s.planes := rfl
@[simp] theorem State.modMelt_eclipse (n : Nat) (f : MeltCh → MeltCh) (s : State) :
     (State.modMelt n f s).eclipse = s.eclipse := rfl
@[simp] theorem State.modMelt_flash (n : Nat) (f : MeltCh → MeltCh) (s : State) :
     (State.modMelt n f s).flash = s.flash := rfl
@[simp] theorem State.modAxis_pending (n : Nat) (f : Axis → Axis) (s : State) :
     (State.modAxis n f s).pending = s.pending := rfl
@[simp] theorem State.modAxis_outbox (n : Nat) (f : Axis → Axis) (s : State) :
     (State.modAxis n f s).outbox = s.outbox := rfl
@[simp] theorem State.modAxis_freeCtr (n : Nat) (f : Axis → Axis) (s : State) :
     (State.modAxis n f s).freeCtr = s.freeCtr := rfl
@[simp] theorem State.modAxis_host (n : Nat) (f : Axis → Axis) (s : State) :
     (State.modAxis n f s).host = s.host := rfl
@[simp] theorem State.modAxis_eph (n : Nat) (f : Axis → Axis) (s : State) :
     (State.modAxis n f s).eph = s.eph := rfl
@[simp] theorem State.modAxis_job (n : Nat) (f : Axis → Axis) (s : State) :
     (State.modAxis n f s).job = s.job := rfl
@[simp] theorem State.modAxis_engines (n : Nat) (f : Axis → Axis) (s : State) :
     (State.modAxis n f s).engines = s.engines := rfl
@[simp] theorem State.modAxis_arb (n : Nat) (f : Axis → Axis) (s : State) :
     (State.modAxis n f s).arb = s.arb := rfl
@[simp] theorem State.modAxis_melt (n : Nat) (f : Axis → Axis) (s : State) :
     (State.modAxis n f s).melt = s.melt := rfl
@[simp] theorem State.modAxis_peri (n : Nat) (f : Axis → Axis) (s : State) :
     (State.modAxis n f s).peri = s.peri := rfl
@[simp] theorem State.modAxis_tide (n : Nat) (f : Axis → Axis) (s : State) :
     (State.modAxis n f s).tide = s.tide := rfl
@[simp] theorem State.modAxis_links (n : Nat) (f : Axis → Axis) (s : State) :
     (State.modAxis n f s).links = s.links := rfl
@[simp] theorem State.modAxis_recoat (n : Nat) (f : Axis → Axis) (s : State) :
     (State.modAxis n f s).recoat = s.recoat := rfl
@[simp] theorem State.modAxis_camera (n : Nat) (f : Axis → Axis) (s : State) :
     (State.modAxis n f s).camera = s.camera := rfl
@[simp] theorem State.modAxis_halo (n : Nat) (f : Axis → Axis) (s : State) :
     (State.modAxis n f s).halo = s.halo := rfl
@[simp] theorem State.modAxis_time (n : Nat) (f : Axis → Axis) (s : State) :
     (State.modAxis n f s).time = s.time := rfl
@[simp] theorem State.modAxis_mem (n : Nat) (f : Axis → Axis) (s : State) :
     (State.modAxis n f s).mem = s.mem := rfl
@[simp] theorem State.modAxis_disp (n : Nat) (f : Axis → Axis) (s : State) :
     (State.modAxis n f s).disp = s.disp := rfl
@[simp] theorem State.modAxis_power (n : Nat) (f : Axis → Axis) (s : State) :
     (State.modAxis n f s).power = s.power := rfl
@[simp] theorem State.modAxis_cal (n : Nat) (f : Axis → Axis) (s : State) :
     (State.modAxis n f s).cal = s.cal := rfl
@[simp] theorem State.modAxis_boot (n : Nat) (f : Axis → Axis) (s : State) :
     (State.modAxis n f s).boot = s.boot := rfl
@[simp] theorem State.modAxis_tail (n : Nat) (f : Axis → Axis) (s : State) :
     (State.modAxis n f s).tail = s.tail := rfl
@[simp] theorem State.modAxis_planes (n : Nat) (f : Axis → Axis) (s : State) :
     (State.modAxis n f s).planes = s.planes := rfl
@[simp] theorem State.modAxis_eclipse (n : Nat) (f : Axis → Axis) (s : State) :
     (State.modAxis n f s).eclipse = s.eclipse := rfl
@[simp] theorem State.modAxis_flash (n : Nat) (f : Axis → Axis) (s : State) :
     (State.modAxis n f s).flash = s.flash := rfl
@[simp] theorem State.modSlot_pending (n : Nat) (f : Slot → Slot) (s : State) :
     (State.modSlot n f s).pending = s.pending := rfl
@[simp] theorem State.modSlot_outbox (n : Nat) (f : Slot → Slot) (s : State) :
     (State.modSlot n f s).outbox = s.outbox := rfl
@[simp] theorem State.modSlot_freeCtr (n : Nat) (f : Slot → Slot) (s : State) :
     (State.modSlot n f s).freeCtr = s.freeCtr := rfl
@[simp] theorem State.modSlot_eph (n : Nat) (f : Slot → Slot) (s : State) :
     (State.modSlot n f s).eph = s.eph := rfl
@[simp] theorem State.modSlot_job (n : Nat) (f : Slot → Slot) (s : State) :
     (State.modSlot n f s).job = s.job := rfl
@[simp] theorem State.modSlot_engines (n : Nat) (f : Slot → Slot) (s : State) :
     (State.modSlot n f s).engines = s.engines := rfl
@[simp] theorem State.modSlot_arb (n : Nat) (f : Slot → Slot) (s : State) :
     (State.modSlot n f s).arb = s.arb := rfl
@[simp] theorem State.modSlot_melt (n : Nat) (f : Slot → Slot) (s : State) :
     (State.modSlot n f s).melt = s.melt := rfl
@[simp] theorem State.modSlot_peri (n : Nat) (f : Slot → Slot) (s : State) :
     (State.modSlot n f s).peri = s.peri := rfl
@[simp] theorem State.modSlot_tide (n : Nat) (f : Slot → Slot) (s : State) :
     (State.modSlot n f s).tide = s.tide := rfl
@[simp] theorem State.modSlot_links (n : Nat) (f : Slot → Slot) (s : State) :
     (State.modSlot n f s).links = s.links := rfl
@[simp] theorem State.modSlot_axes (n : Nat) (f : Slot → Slot) (s : State) :
     (State.modSlot n f s).axes = s.axes := rfl
@[simp] theorem State.modSlot_recoat (n : Nat) (f : Slot → Slot) (s : State) :
     (State.modSlot n f s).recoat = s.recoat := rfl
@[simp] theorem State.modSlot_camera (n : Nat) (f : Slot → Slot) (s : State) :
     (State.modSlot n f s).camera = s.camera := rfl
@[simp] theorem State.modSlot_halo (n : Nat) (f : Slot → Slot) (s : State) :
     (State.modSlot n f s).halo = s.halo := rfl
@[simp] theorem State.modSlot_time (n : Nat) (f : Slot → Slot) (s : State) :
     (State.modSlot n f s).time = s.time := rfl
@[simp] theorem State.modSlot_mem (n : Nat) (f : Slot → Slot) (s : State) :
     (State.modSlot n f s).mem = s.mem := rfl
@[simp] theorem State.modSlot_disp (n : Nat) (f : Slot → Slot) (s : State) :
     (State.modSlot n f s).disp = s.disp := rfl
@[simp] theorem State.modSlot_power (n : Nat) (f : Slot → Slot) (s : State) :
     (State.modSlot n f s).power = s.power := rfl
@[simp] theorem State.modSlot_cal (n : Nat) (f : Slot → Slot) (s : State) :
     (State.modSlot n f s).cal = s.cal := rfl
@[simp] theorem State.modSlot_boot (n : Nat) (f : Slot → Slot) (s : State) :
     (State.modSlot n f s).boot = s.boot := rfl
@[simp] theorem State.modSlot_tail (n : Nat) (f : Slot → Slot) (s : State) :
     (State.modSlot n f s).tail = s.tail := rfl
@[simp] theorem State.modSlot_planes (n : Nat) (f : Slot → Slot) (s : State) :
     (State.modSlot n f s).planes = s.planes := rfl
@[simp] theorem State.modSlot_eclipse (n : Nat) (f : Slot → Slot) (s : State) :
     (State.modSlot n f s).eclipse = s.eclipse := rfl
@[simp] theorem State.modSlot_flash (n : Nat) (f : Slot → Slot) (s : State) :
     (State.modSlot n f s).flash = s.flash := rfl
@[simp] theorem State.modPort_pending (n : Nat) (f : Port → Port) (s : State) :
     (State.modPort n f s).pending = s.pending := rfl
@[simp] theorem State.modPort_outbox (n : Nat) (f : Port → Port) (s : State) :
     (State.modPort n f s).outbox = s.outbox := rfl
@[simp] theorem State.modPort_freeCtr (n : Nat) (f : Port → Port) (s : State) :
     (State.modPort n f s).freeCtr = s.freeCtr := rfl
@[simp] theorem State.modPort_eph (n : Nat) (f : Port → Port) (s : State) :
     (State.modPort n f s).eph = s.eph := rfl
@[simp] theorem State.modPort_job (n : Nat) (f : Port → Port) (s : State) :
     (State.modPort n f s).job = s.job := rfl
@[simp] theorem State.modPort_engines (n : Nat) (f : Port → Port) (s : State) :
     (State.modPort n f s).engines = s.engines := rfl
@[simp] theorem State.modPort_arb (n : Nat) (f : Port → Port) (s : State) :
     (State.modPort n f s).arb = s.arb := rfl
@[simp] theorem State.modPort_melt (n : Nat) (f : Port → Port) (s : State) :
     (State.modPort n f s).melt = s.melt := rfl
@[simp] theorem State.modPort_peri (n : Nat) (f : Port → Port) (s : State) :
     (State.modPort n f s).peri = s.peri := rfl
@[simp] theorem State.modPort_tide (n : Nat) (f : Port → Port) (s : State) :
     (State.modPort n f s).tide = s.tide := rfl
@[simp] theorem State.modPort_links (n : Nat) (f : Port → Port) (s : State) :
     (State.modPort n f s).links = s.links := rfl
@[simp] theorem State.modPort_axes (n : Nat) (f : Port → Port) (s : State) :
     (State.modPort n f s).axes = s.axes := rfl
@[simp] theorem State.modPort_recoat (n : Nat) (f : Port → Port) (s : State) :
     (State.modPort n f s).recoat = s.recoat := rfl
@[simp] theorem State.modPort_camera (n : Nat) (f : Port → Port) (s : State) :
     (State.modPort n f s).camera = s.camera := rfl
@[simp] theorem State.modPort_halo (n : Nat) (f : Port → Port) (s : State) :
     (State.modPort n f s).halo = s.halo := rfl
@[simp] theorem State.modPort_time (n : Nat) (f : Port → Port) (s : State) :
     (State.modPort n f s).time = s.time := rfl
@[simp] theorem State.modPort_mem (n : Nat) (f : Port → Port) (s : State) :
     (State.modPort n f s).mem = s.mem := rfl
@[simp] theorem State.modPort_disp (n : Nat) (f : Port → Port) (s : State) :
     (State.modPort n f s).disp = s.disp := rfl
@[simp] theorem State.modPort_power (n : Nat) (f : Port → Port) (s : State) :
     (State.modPort n f s).power = s.power := rfl
@[simp] theorem State.modPort_cal (n : Nat) (f : Port → Port) (s : State) :
     (State.modPort n f s).cal = s.cal := rfl
@[simp] theorem State.modPort_boot (n : Nat) (f : Port → Port) (s : State) :
     (State.modPort n f s).boot = s.boot := rfl
@[simp] theorem State.modPort_tail (n : Nat) (f : Port → Port) (s : State) :
     (State.modPort n f s).tail = s.tail := rfl
@[simp] theorem State.modPort_planes (n : Nat) (f : Port → Port) (s : State) :
     (State.modPort n f s).planes = s.planes := rfl
@[simp] theorem State.modPort_eclipse (n : Nat) (f : Port → Port) (s : State) :
     (State.modPort n f s).eclipse = s.eclipse := rfl
@[simp] theorem State.modPort_flash (n : Nat) (f : Port → Port) (s : State) :
     (State.modPort n f s).flash = s.flash := rfl
@[simp] theorem State.modQueue_pending (n : Nat) (f : Queue → Queue) (s : State) :
     (State.modQueue n f s).pending = s.pending := rfl
@[simp] theorem State.modQueue_outbox (n : Nat) (f : Queue → Queue) (s : State) :
     (State.modQueue n f s).outbox = s.outbox := rfl
@[simp] theorem State.modQueue_freeCtr (n : Nat) (f : Queue → Queue) (s : State) :
     (State.modQueue n f s).freeCtr = s.freeCtr := rfl
@[simp] theorem State.modQueue_eph (n : Nat) (f : Queue → Queue) (s : State) :
     (State.modQueue n f s).eph = s.eph := rfl
@[simp] theorem State.modQueue_job (n : Nat) (f : Queue → Queue) (s : State) :
     (State.modQueue n f s).job = s.job := rfl
@[simp] theorem State.modQueue_engines (n : Nat) (f : Queue → Queue) (s : State) :
     (State.modQueue n f s).engines = s.engines := rfl
@[simp] theorem State.modQueue_arb (n : Nat) (f : Queue → Queue) (s : State) :
     (State.modQueue n f s).arb = s.arb := rfl
@[simp] theorem State.modQueue_melt (n : Nat) (f : Queue → Queue) (s : State) :
     (State.modQueue n f s).melt = s.melt := rfl
@[simp] theorem State.modQueue_peri (n : Nat) (f : Queue → Queue) (s : State) :
     (State.modQueue n f s).peri = s.peri := rfl
@[simp] theorem State.modQueue_tide (n : Nat) (f : Queue → Queue) (s : State) :
     (State.modQueue n f s).tide = s.tide := rfl
@[simp] theorem State.modQueue_links (n : Nat) (f : Queue → Queue) (s : State) :
     (State.modQueue n f s).links = s.links := rfl
@[simp] theorem State.modQueue_axes (n : Nat) (f : Queue → Queue) (s : State) :
     (State.modQueue n f s).axes = s.axes := rfl
@[simp] theorem State.modQueue_recoat (n : Nat) (f : Queue → Queue) (s : State) :
     (State.modQueue n f s).recoat = s.recoat := rfl
@[simp] theorem State.modQueue_camera (n : Nat) (f : Queue → Queue) (s : State) :
     (State.modQueue n f s).camera = s.camera := rfl
@[simp] theorem State.modQueue_halo (n : Nat) (f : Queue → Queue) (s : State) :
     (State.modQueue n f s).halo = s.halo := rfl
@[simp] theorem State.modQueue_time (n : Nat) (f : Queue → Queue) (s : State) :
     (State.modQueue n f s).time = s.time := rfl
@[simp] theorem State.modQueue_mem (n : Nat) (f : Queue → Queue) (s : State) :
     (State.modQueue n f s).mem = s.mem := rfl
@[simp] theorem State.modQueue_disp (n : Nat) (f : Queue → Queue) (s : State) :
     (State.modQueue n f s).disp = s.disp := rfl
@[simp] theorem State.modQueue_power (n : Nat) (f : Queue → Queue) (s : State) :
     (State.modQueue n f s).power = s.power := rfl
@[simp] theorem State.modQueue_cal (n : Nat) (f : Queue → Queue) (s : State) :
     (State.modQueue n f s).cal = s.cal := rfl
@[simp] theorem State.modQueue_boot (n : Nat) (f : Queue → Queue) (s : State) :
     (State.modQueue n f s).boot = s.boot := rfl
@[simp] theorem State.modQueue_tail (n : Nat) (f : Queue → Queue) (s : State) :
     (State.modQueue n f s).tail = s.tail := rfl
@[simp] theorem State.modQueue_planes (n : Nat) (f : Queue → Queue) (s : State) :
     (State.modQueue n f s).planes = s.planes := rfl
@[simp] theorem State.modQueue_eclipse (n : Nat) (f : Queue → Queue) (s : State) :
     (State.modQueue n f s).eclipse = s.eclipse := rfl
@[simp] theorem State.modQueue_flash (n : Nat) (f : Queue → Queue) (s : State) :
     (State.modQueue n f s).flash = s.flash := rfl
@[simp] theorem State.modLoop_pending (n : Nat) (f : TideLoop → TideLoop) (s : State) :
     (State.modLoop n f s).pending = s.pending := rfl
@[simp] theorem State.modLoop_outbox (n : Nat) (f : TideLoop → TideLoop) (s : State) :
     (State.modLoop n f s).outbox = s.outbox := rfl
@[simp] theorem State.modLoop_freeCtr (n : Nat) (f : TideLoop → TideLoop) (s : State) :
     (State.modLoop n f s).freeCtr = s.freeCtr := rfl
@[simp] theorem State.modLoop_host (n : Nat) (f : TideLoop → TideLoop) (s : State) :
     (State.modLoop n f s).host = s.host := rfl
@[simp] theorem State.modLoop_eph (n : Nat) (f : TideLoop → TideLoop) (s : State) :
     (State.modLoop n f s).eph = s.eph := rfl
@[simp] theorem State.modLoop_job (n : Nat) (f : TideLoop → TideLoop) (s : State) :
     (State.modLoop n f s).job = s.job := rfl
@[simp] theorem State.modLoop_engines (n : Nat) (f : TideLoop → TideLoop) (s : State) :
     (State.modLoop n f s).engines = s.engines := rfl
@[simp] theorem State.modLoop_arb (n : Nat) (f : TideLoop → TideLoop) (s : State) :
     (State.modLoop n f s).arb = s.arb := rfl
@[simp] theorem State.modLoop_melt (n : Nat) (f : TideLoop → TideLoop) (s : State) :
     (State.modLoop n f s).melt = s.melt := rfl
@[simp] theorem State.modLoop_peri (n : Nat) (f : TideLoop → TideLoop) (s : State) :
     (State.modLoop n f s).peri = s.peri := rfl
@[simp] theorem State.modLoop_links (n : Nat) (f : TideLoop → TideLoop) (s : State) :
     (State.modLoop n f s).links = s.links := rfl
@[simp] theorem State.modLoop_axes (n : Nat) (f : TideLoop → TideLoop) (s : State) :
     (State.modLoop n f s).axes = s.axes := rfl
@[simp] theorem State.modLoop_recoat (n : Nat) (f : TideLoop → TideLoop) (s : State) :
     (State.modLoop n f s).recoat = s.recoat := rfl
@[simp] theorem State.modLoop_camera (n : Nat) (f : TideLoop → TideLoop) (s : State) :
     (State.modLoop n f s).camera = s.camera := rfl
@[simp] theorem State.modLoop_halo (n : Nat) (f : TideLoop → TideLoop) (s : State) :
     (State.modLoop n f s).halo = s.halo := rfl
@[simp] theorem State.modLoop_time (n : Nat) (f : TideLoop → TideLoop) (s : State) :
     (State.modLoop n f s).time = s.time := rfl
@[simp] theorem State.modLoop_mem (n : Nat) (f : TideLoop → TideLoop) (s : State) :
     (State.modLoop n f s).mem = s.mem := rfl
@[simp] theorem State.modLoop_disp (n : Nat) (f : TideLoop → TideLoop) (s : State) :
     (State.modLoop n f s).disp = s.disp := rfl
@[simp] theorem State.modLoop_power (n : Nat) (f : TideLoop → TideLoop) (s : State) :
     (State.modLoop n f s).power = s.power := rfl
@[simp] theorem State.modLoop_cal (n : Nat) (f : TideLoop → TideLoop) (s : State) :
     (State.modLoop n f s).cal = s.cal := rfl
@[simp] theorem State.modLoop_boot (n : Nat) (f : TideLoop → TideLoop) (s : State) :
     (State.modLoop n f s).boot = s.boot := rfl
@[simp] theorem State.modLoop_tail (n : Nat) (f : TideLoop → TideLoop) (s : State) :
     (State.modLoop n f s).tail = s.tail := rfl
@[simp] theorem State.modLoop_planes (n : Nat) (f : TideLoop → TideLoop) (s : State) :
     (State.modLoop n f s).planes = s.planes := rfl
@[simp] theorem State.modLoop_eclipse (n : Nat) (f : TideLoop → TideLoop) (s : State) :
     (State.modLoop n f s).eclipse = s.eclipse := rfl
@[simp] theorem State.modLoop_flash (n : Nat) (f : TideLoop → TideLoop) (s : State) :
     (State.modLoop n f s).flash = s.flash := rfl
@[simp] theorem State.modSensor_pending (n : Nat) (f : Sensor → Sensor) (s : State) :
     (State.modSensor n f s).pending = s.pending := rfl
@[simp] theorem State.modSensor_outbox (n : Nat) (f : Sensor → Sensor) (s : State) :
     (State.modSensor n f s).outbox = s.outbox := rfl
@[simp] theorem State.modSensor_freeCtr (n : Nat) (f : Sensor → Sensor) (s : State) :
     (State.modSensor n f s).freeCtr = s.freeCtr := rfl
@[simp] theorem State.modSensor_host (n : Nat) (f : Sensor → Sensor) (s : State) :
     (State.modSensor n f s).host = s.host := rfl
@[simp] theorem State.modSensor_eph (n : Nat) (f : Sensor → Sensor) (s : State) :
     (State.modSensor n f s).eph = s.eph := rfl
@[simp] theorem State.modSensor_job (n : Nat) (f : Sensor → Sensor) (s : State) :
     (State.modSensor n f s).job = s.job := rfl
@[simp] theorem State.modSensor_engines (n : Nat) (f : Sensor → Sensor) (s : State) :
     (State.modSensor n f s).engines = s.engines := rfl
@[simp] theorem State.modSensor_arb (n : Nat) (f : Sensor → Sensor) (s : State) :
     (State.modSensor n f s).arb = s.arb := rfl
@[simp] theorem State.modSensor_melt (n : Nat) (f : Sensor → Sensor) (s : State) :
     (State.modSensor n f s).melt = s.melt := rfl
@[simp] theorem State.modSensor_peri (n : Nat) (f : Sensor → Sensor) (s : State) :
     (State.modSensor n f s).peri = s.peri := rfl
@[simp] theorem State.modSensor_tide (n : Nat) (f : Sensor → Sensor) (s : State) :
     (State.modSensor n f s).tide = s.tide := rfl
@[simp] theorem State.modSensor_links (n : Nat) (f : Sensor → Sensor) (s : State) :
     (State.modSensor n f s).links = s.links := rfl
@[simp] theorem State.modSensor_axes (n : Nat) (f : Sensor → Sensor) (s : State) :
     (State.modSensor n f s).axes = s.axes := rfl
@[simp] theorem State.modSensor_recoat (n : Nat) (f : Sensor → Sensor) (s : State) :
     (State.modSensor n f s).recoat = s.recoat := rfl
@[simp] theorem State.modSensor_halo (n : Nat) (f : Sensor → Sensor) (s : State) :
     (State.modSensor n f s).halo = s.halo := rfl
@[simp] theorem State.modSensor_time (n : Nat) (f : Sensor → Sensor) (s : State) :
     (State.modSensor n f s).time = s.time := rfl
@[simp] theorem State.modSensor_mem (n : Nat) (f : Sensor → Sensor) (s : State) :
     (State.modSensor n f s).mem = s.mem := rfl
@[simp] theorem State.modSensor_disp (n : Nat) (f : Sensor → Sensor) (s : State) :
     (State.modSensor n f s).disp = s.disp := rfl
@[simp] theorem State.modSensor_power (n : Nat) (f : Sensor → Sensor) (s : State) :
     (State.modSensor n f s).power = s.power := rfl
@[simp] theorem State.modSensor_cal (n : Nat) (f : Sensor → Sensor) (s : State) :
     (State.modSensor n f s).cal = s.cal := rfl
@[simp] theorem State.modSensor_boot (n : Nat) (f : Sensor → Sensor) (s : State) :
     (State.modSensor n f s).boot = s.boot := rfl
@[simp] theorem State.modSensor_tail (n : Nat) (f : Sensor → Sensor) (s : State) :
     (State.modSensor n f s).tail = s.tail := rfl
@[simp] theorem State.modSensor_planes (n : Nat) (f : Sensor → Sensor) (s : State) :
     (State.modSensor n f s).planes = s.planes := rfl
@[simp] theorem State.modSensor_eclipse (n : Nat) (f : Sensor → Sensor) (s : State) :
     (State.modSensor n f s).eclipse = s.eclipse := rfl
@[simp] theorem State.modSensor_flash (n : Nat) (f : Sensor → Sensor) (s : State) :
     (State.modSensor n f s).flash = s.flash := rfl
@[simp] theorem State.modCamCtx_pending (n : Nat) (f : CamContext → CamContext) (s : State) :
     (State.modCamCtx n f s).pending = s.pending := rfl
@[simp] theorem State.modCamCtx_outbox (n : Nat) (f : CamContext → CamContext) (s : State) :
     (State.modCamCtx n f s).outbox = s.outbox := rfl
@[simp] theorem State.modCamCtx_freeCtr (n : Nat) (f : CamContext → CamContext) (s : State) :
     (State.modCamCtx n f s).freeCtr = s.freeCtr := rfl
@[simp] theorem State.modCamCtx_host (n : Nat) (f : CamContext → CamContext) (s : State) :
     (State.modCamCtx n f s).host = s.host := rfl
@[simp] theorem State.modCamCtx_eph (n : Nat) (f : CamContext → CamContext) (s : State) :
     (State.modCamCtx n f s).eph = s.eph := rfl
@[simp] theorem State.modCamCtx_job (n : Nat) (f : CamContext → CamContext) (s : State) :
     (State.modCamCtx n f s).job = s.job := rfl
@[simp] theorem State.modCamCtx_engines (n : Nat) (f : CamContext → CamContext) (s : State) :
     (State.modCamCtx n f s).engines = s.engines := rfl
@[simp] theorem State.modCamCtx_arb (n : Nat) (f : CamContext → CamContext) (s : State) :
     (State.modCamCtx n f s).arb = s.arb := rfl
@[simp] theorem State.modCamCtx_melt (n : Nat) (f : CamContext → CamContext) (s : State) :
     (State.modCamCtx n f s).melt = s.melt := rfl
@[simp] theorem State.modCamCtx_peri (n : Nat) (f : CamContext → CamContext) (s : State) :
     (State.modCamCtx n f s).peri = s.peri := rfl
@[simp] theorem State.modCamCtx_tide (n : Nat) (f : CamContext → CamContext) (s : State) :
     (State.modCamCtx n f s).tide = s.tide := rfl
@[simp] theorem State.modCamCtx_links (n : Nat) (f : CamContext → CamContext) (s : State) :
     (State.modCamCtx n f s).links = s.links := rfl
@[simp] theorem State.modCamCtx_axes (n : Nat) (f : CamContext → CamContext) (s : State) :
     (State.modCamCtx n f s).axes = s.axes := rfl
@[simp] theorem State.modCamCtx_recoat (n : Nat) (f : CamContext → CamContext) (s : State) :
     (State.modCamCtx n f s).recoat = s.recoat := rfl
@[simp] theorem State.modCamCtx_halo (n : Nat) (f : CamContext → CamContext) (s : State) :
     (State.modCamCtx n f s).halo = s.halo := rfl
@[simp] theorem State.modCamCtx_time (n : Nat) (f : CamContext → CamContext) (s : State) :
     (State.modCamCtx n f s).time = s.time := rfl
@[simp] theorem State.modCamCtx_mem (n : Nat) (f : CamContext → CamContext) (s : State) :
     (State.modCamCtx n f s).mem = s.mem := rfl
@[simp] theorem State.modCamCtx_disp (n : Nat) (f : CamContext → CamContext) (s : State) :
     (State.modCamCtx n f s).disp = s.disp := rfl
@[simp] theorem State.modCamCtx_power (n : Nat) (f : CamContext → CamContext) (s : State) :
     (State.modCamCtx n f s).power = s.power := rfl
@[simp] theorem State.modCamCtx_cal (n : Nat) (f : CamContext → CamContext) (s : State) :
     (State.modCamCtx n f s).cal = s.cal := rfl
@[simp] theorem State.modCamCtx_boot (n : Nat) (f : CamContext → CamContext) (s : State) :
     (State.modCamCtx n f s).boot = s.boot := rfl
@[simp] theorem State.modCamCtx_tail (n : Nat) (f : CamContext → CamContext) (s : State) :
     (State.modCamCtx n f s).tail = s.tail := rfl
@[simp] theorem State.modCamCtx_planes (n : Nat) (f : CamContext → CamContext) (s : State) :
     (State.modCamCtx n f s).planes = s.planes := rfl
@[simp] theorem State.modCamCtx_eclipse (n : Nat) (f : CamContext → CamContext) (s : State) :
     (State.modCamCtx n f s).eclipse = s.eclipse := rfl
@[simp] theorem State.modCamCtx_flash (n : Nat) (f : CamContext → CamContext) (s : State) :
     (State.modCamCtx n f s).flash = s.flash := rfl
@[simp] theorem State.modHalo_pending (n : Nat) (f : HaloCh → HaloCh) (s : State) :
     (State.modHalo n f s).pending = s.pending := rfl
@[simp] theorem State.modHalo_outbox (n : Nat) (f : HaloCh → HaloCh) (s : State) :
     (State.modHalo n f s).outbox = s.outbox := rfl
@[simp] theorem State.modHalo_freeCtr (n : Nat) (f : HaloCh → HaloCh) (s : State) :
     (State.modHalo n f s).freeCtr = s.freeCtr := rfl
@[simp] theorem State.modHalo_host (n : Nat) (f : HaloCh → HaloCh) (s : State) :
     (State.modHalo n f s).host = s.host := rfl
@[simp] theorem State.modHalo_eph (n : Nat) (f : HaloCh → HaloCh) (s : State) :
     (State.modHalo n f s).eph = s.eph := rfl
@[simp] theorem State.modHalo_job (n : Nat) (f : HaloCh → HaloCh) (s : State) :
     (State.modHalo n f s).job = s.job := rfl
@[simp] theorem State.modHalo_engines (n : Nat) (f : HaloCh → HaloCh) (s : State) :
     (State.modHalo n f s).engines = s.engines := rfl
@[simp] theorem State.modHalo_arb (n : Nat) (f : HaloCh → HaloCh) (s : State) :
     (State.modHalo n f s).arb = s.arb := rfl
@[simp] theorem State.modHalo_melt (n : Nat) (f : HaloCh → HaloCh) (s : State) :
     (State.modHalo n f s).melt = s.melt := rfl
@[simp] theorem State.modHalo_peri (n : Nat) (f : HaloCh → HaloCh) (s : State) :
     (State.modHalo n f s).peri = s.peri := rfl
@[simp] theorem State.modHalo_tide (n : Nat) (f : HaloCh → HaloCh) (s : State) :
     (State.modHalo n f s).tide = s.tide := rfl
@[simp] theorem State.modHalo_links (n : Nat) (f : HaloCh → HaloCh) (s : State) :
     (State.modHalo n f s).links = s.links := rfl
@[simp] theorem State.modHalo_axes (n : Nat) (f : HaloCh → HaloCh) (s : State) :
     (State.modHalo n f s).axes = s.axes := rfl
@[simp] theorem State.modHalo_recoat (n : Nat) (f : HaloCh → HaloCh) (s : State) :
     (State.modHalo n f s).recoat = s.recoat := rfl
@[simp] theorem State.modHalo_camera (n : Nat) (f : HaloCh → HaloCh) (s : State) :
     (State.modHalo n f s).camera = s.camera := rfl
@[simp] theorem State.modHalo_time (n : Nat) (f : HaloCh → HaloCh) (s : State) :
     (State.modHalo n f s).time = s.time := rfl
@[simp] theorem State.modHalo_mem (n : Nat) (f : HaloCh → HaloCh) (s : State) :
     (State.modHalo n f s).mem = s.mem := rfl
@[simp] theorem State.modHalo_disp (n : Nat) (f : HaloCh → HaloCh) (s : State) :
     (State.modHalo n f s).disp = s.disp := rfl
@[simp] theorem State.modHalo_power (n : Nat) (f : HaloCh → HaloCh) (s : State) :
     (State.modHalo n f s).power = s.power := rfl
@[simp] theorem State.modHalo_cal (n : Nat) (f : HaloCh → HaloCh) (s : State) :
     (State.modHalo n f s).cal = s.cal := rfl
@[simp] theorem State.modHalo_boot (n : Nat) (f : HaloCh → HaloCh) (s : State) :
     (State.modHalo n f s).boot = s.boot := rfl
@[simp] theorem State.modHalo_tail (n : Nat) (f : HaloCh → HaloCh) (s : State) :
     (State.modHalo n f s).tail = s.tail := rfl
@[simp] theorem State.modHalo_planes (n : Nat) (f : HaloCh → HaloCh) (s : State) :
     (State.modHalo n f s).planes = s.planes := rfl
@[simp] theorem State.modHalo_eclipse (n : Nat) (f : HaloCh → HaloCh) (s : State) :
     (State.modHalo n f s).eclipse = s.eclipse := rfl
@[simp] theorem State.modHalo_flash (n : Nat) (f : HaloCh → HaloCh) (s : State) :
     (State.modHalo n f s).flash = s.flash := rfl
@[simp] theorem State.modRing_pending (n : Nat) (f : RingPort → RingPort) (s : State) :
     (State.modRing n f s).pending = s.pending := rfl
@[simp] theorem State.modRing_outbox (n : Nat) (f : RingPort → RingPort) (s : State) :
     (State.modRing n f s).outbox = s.outbox := rfl
@[simp] theorem State.modRing_freeCtr (n : Nat) (f : RingPort → RingPort) (s : State) :
     (State.modRing n f s).freeCtr = s.freeCtr := rfl
@[simp] theorem State.modRing_host (n : Nat) (f : RingPort → RingPort) (s : State) :
     (State.modRing n f s).host = s.host := rfl
@[simp] theorem State.modRing_eph (n : Nat) (f : RingPort → RingPort) (s : State) :
     (State.modRing n f s).eph = s.eph := rfl
@[simp] theorem State.modRing_job (n : Nat) (f : RingPort → RingPort) (s : State) :
     (State.modRing n f s).job = s.job := rfl
@[simp] theorem State.modRing_engines (n : Nat) (f : RingPort → RingPort) (s : State) :
     (State.modRing n f s).engines = s.engines := rfl
@[simp] theorem State.modRing_arb (n : Nat) (f : RingPort → RingPort) (s : State) :
     (State.modRing n f s).arb = s.arb := rfl
@[simp] theorem State.modRing_melt (n : Nat) (f : RingPort → RingPort) (s : State) :
     (State.modRing n f s).melt = s.melt := rfl
@[simp] theorem State.modRing_peri (n : Nat) (f : RingPort → RingPort) (s : State) :
     (State.modRing n f s).peri = s.peri := rfl
@[simp] theorem State.modRing_tide (n : Nat) (f : RingPort → RingPort) (s : State) :
     (State.modRing n f s).tide = s.tide := rfl
@[simp] theorem State.modRing_links (n : Nat) (f : RingPort → RingPort) (s : State) :
     (State.modRing n f s).links = s.links := rfl
@[simp] theorem State.modRing_axes (n : Nat) (f : RingPort → RingPort) (s : State) :
     (State.modRing n f s).axes = s.axes := rfl
@[simp] theorem State.modRing_recoat (n : Nat) (f : RingPort → RingPort) (s : State) :
     (State.modRing n f s).recoat = s.recoat := rfl
@[simp] theorem State.modRing_camera (n : Nat) (f : RingPort → RingPort) (s : State) :
     (State.modRing n f s).camera = s.camera := rfl
@[simp] theorem State.modRing_halo (n : Nat) (f : RingPort → RingPort) (s : State) :
     (State.modRing n f s).halo = s.halo := rfl
@[simp] theorem State.modRing_mem (n : Nat) (f : RingPort → RingPort) (s : State) :
     (State.modRing n f s).mem = s.mem := rfl
@[simp] theorem State.modRing_disp (n : Nat) (f : RingPort → RingPort) (s : State) :
     (State.modRing n f s).disp = s.disp := rfl
@[simp] theorem State.modRing_power (n : Nat) (f : RingPort → RingPort) (s : State) :
     (State.modRing n f s).power = s.power := rfl
@[simp] theorem State.modRing_cal (n : Nat) (f : RingPort → RingPort) (s : State) :
     (State.modRing n f s).cal = s.cal := rfl
@[simp] theorem State.modRing_boot (n : Nat) (f : RingPort → RingPort) (s : State) :
     (State.modRing n f s).boot = s.boot := rfl
@[simp] theorem State.modRing_tail (n : Nat) (f : RingPort → RingPort) (s : State) :
     (State.modRing n f s).tail = s.tail := rfl
@[simp] theorem State.modRing_planes (n : Nat) (f : RingPort → RingPort) (s : State) :
     (State.modRing n f s).planes = s.planes := rfl
@[simp] theorem State.modRing_eclipse (n : Nat) (f : RingPort → RingPort) (s : State) :
     (State.modRing n f s).eclipse = s.eclipse := rfl
@[simp] theorem State.modRing_flash (n : Nat) (f : RingPort → RingPort) (s : State) :
     (State.modRing n f s).flash = s.flash := rfl
@[simp] theorem State.modThm_pending (n : Nat) (f : ThmEntry → ThmEntry) (s : State) :
     (State.modThm n f s).pending = s.pending := rfl
@[simp] theorem State.modThm_outbox (n : Nat) (f : ThmEntry → ThmEntry) (s : State) :
     (State.modThm n f s).outbox = s.outbox := rfl
@[simp] theorem State.modThm_freeCtr (n : Nat) (f : ThmEntry → ThmEntry) (s : State) :
     (State.modThm n f s).freeCtr = s.freeCtr := rfl
@[simp] theorem State.modThm_host (n : Nat) (f : ThmEntry → ThmEntry) (s : State) :
     (State.modThm n f s).host = s.host := rfl
@[simp] theorem State.modThm_eph (n : Nat) (f : ThmEntry → ThmEntry) (s : State) :
     (State.modThm n f s).eph = s.eph := rfl
@[simp] theorem State.modThm_job (n : Nat) (f : ThmEntry → ThmEntry) (s : State) :
     (State.modThm n f s).job = s.job := rfl
@[simp] theorem State.modThm_engines (n : Nat) (f : ThmEntry → ThmEntry) (s : State) :
     (State.modThm n f s).engines = s.engines := rfl
@[simp] theorem State.modThm_arb (n : Nat) (f : ThmEntry → ThmEntry) (s : State) :
     (State.modThm n f s).arb = s.arb := rfl
@[simp] theorem State.modThm_melt (n : Nat) (f : ThmEntry → ThmEntry) (s : State) :
     (State.modThm n f s).melt = s.melt := rfl
@[simp] theorem State.modThm_peri (n : Nat) (f : ThmEntry → ThmEntry) (s : State) :
     (State.modThm n f s).peri = s.peri := rfl
@[simp] theorem State.modThm_tide (n : Nat) (f : ThmEntry → ThmEntry) (s : State) :
     (State.modThm n f s).tide = s.tide := rfl
@[simp] theorem State.modThm_links (n : Nat) (f : ThmEntry → ThmEntry) (s : State) :
     (State.modThm n f s).links = s.links := rfl
@[simp] theorem State.modThm_axes (n : Nat) (f : ThmEntry → ThmEntry) (s : State) :
     (State.modThm n f s).axes = s.axes := rfl
@[simp] theorem State.modThm_recoat (n : Nat) (f : ThmEntry → ThmEntry) (s : State) :
     (State.modThm n f s).recoat = s.recoat := rfl
@[simp] theorem State.modThm_camera (n : Nat) (f : ThmEntry → ThmEntry) (s : State) :
     (State.modThm n f s).camera = s.camera := rfl
@[simp] theorem State.modThm_halo (n : Nat) (f : ThmEntry → ThmEntry) (s : State) :
     (State.modThm n f s).halo = s.halo := rfl
@[simp] theorem State.modThm_time (n : Nat) (f : ThmEntry → ThmEntry) (s : State) :
     (State.modThm n f s).time = s.time := rfl
@[simp] theorem State.modThm_mem (n : Nat) (f : ThmEntry → ThmEntry) (s : State) :
     (State.modThm n f s).mem = s.mem := rfl
@[simp] theorem State.modThm_disp (n : Nat) (f : ThmEntry → ThmEntry) (s : State) :
     (State.modThm n f s).disp = s.disp := rfl
@[simp] theorem State.modThm_cal (n : Nat) (f : ThmEntry → ThmEntry) (s : State) :
     (State.modThm n f s).cal = s.cal := rfl
@[simp] theorem State.modThm_boot (n : Nat) (f : ThmEntry → ThmEntry) (s : State) :
     (State.modThm n f s).boot = s.boot := rfl
@[simp] theorem State.modThm_tail (n : Nat) (f : ThmEntry → ThmEntry) (s : State) :
     (State.modThm n f s).tail = s.tail := rfl
@[simp] theorem State.modThm_planes (n : Nat) (f : ThmEntry → ThmEntry) (s : State) :
     (State.modThm n f s).planes = s.planes := rfl
@[simp] theorem State.modThm_eclipse (n : Nat) (f : ThmEntry → ThmEntry) (s : State) :
     (State.modThm n f s).eclipse = s.eclipse := rfl
@[simp] theorem State.modThm_flash (n : Nat) (f : ThmEntry → ThmEntry) (s : State) :
     (State.modThm n f s).flash = s.flash := rfl
@[simp] theorem State.send_pending (o : Out) (s : State) :
     (State.send o s).pending = s.pending := rfl
@[simp] theorem State.send_freeCtr (o : Out) (s : State) :
     (State.send o s).freeCtr = s.freeCtr := rfl
@[simp] theorem State.send_host (o : Out) (s : State) :
     (State.send o s).host = s.host := rfl
@[simp] theorem State.send_eph (o : Out) (s : State) :
     (State.send o s).eph = s.eph := rfl
@[simp] theorem State.send_job (o : Out) (s : State) :
     (State.send o s).job = s.job := rfl
@[simp] theorem State.send_engines (o : Out) (s : State) :
     (State.send o s).engines = s.engines := rfl
@[simp] theorem State.send_arb (o : Out) (s : State) :
     (State.send o s).arb = s.arb := rfl
@[simp] theorem State.send_melt (o : Out) (s : State) :
     (State.send o s).melt = s.melt := rfl
@[simp] theorem State.send_peri (o : Out) (s : State) :
     (State.send o s).peri = s.peri := rfl
@[simp] theorem State.send_tide (o : Out) (s : State) :
     (State.send o s).tide = s.tide := rfl
@[simp] theorem State.send_links (o : Out) (s : State) :
     (State.send o s).links = s.links := rfl
@[simp] theorem State.send_axes (o : Out) (s : State) :
     (State.send o s).axes = s.axes := rfl
@[simp] theorem State.send_recoat (o : Out) (s : State) :
     (State.send o s).recoat = s.recoat := rfl
@[simp] theorem State.send_camera (o : Out) (s : State) :
     (State.send o s).camera = s.camera := rfl
@[simp] theorem State.send_halo (o : Out) (s : State) :
     (State.send o s).halo = s.halo := rfl
@[simp] theorem State.send_time (o : Out) (s : State) :
     (State.send o s).time = s.time := rfl
@[simp] theorem State.send_mem (o : Out) (s : State) :
     (State.send o s).mem = s.mem := rfl
@[simp] theorem State.send_disp (o : Out) (s : State) :
     (State.send o s).disp = s.disp := rfl
@[simp] theorem State.send_power (o : Out) (s : State) :
     (State.send o s).power = s.power := rfl
@[simp] theorem State.send_cal (o : Out) (s : State) :
     (State.send o s).cal = s.cal := rfl
@[simp] theorem State.send_boot (o : Out) (s : State) :
     (State.send o s).boot = s.boot := rfl
@[simp] theorem State.send_tail (o : Out) (s : State) :
     (State.send o s).tail = s.tail := rfl
@[simp] theorem State.send_planes (o : Out) (s : State) :
     (State.send o s).planes = s.planes := rfl
@[simp] theorem State.send_eclipse (o : Out) (s : State) :
     (State.send o s).eclipse = s.eclipse := rfl
@[simp] theorem State.send_flash (o : Out) (s : State) :
     (State.send o s).flash = s.flash := rfl
@[simp] theorem State.draw_pending (n : Nat) (s : State) :
     (State.draw n s).2.pending = s.pending := rfl
@[simp] theorem State.draw_outbox (n : Nat) (s : State) :
     (State.draw n s).2.outbox = s.outbox := rfl
@[simp] theorem State.draw_host (n : Nat) (s : State) :
     (State.draw n s).2.host = s.host := rfl
@[simp] theorem State.draw_eph (n : Nat) (s : State) :
     (State.draw n s).2.eph = s.eph := rfl
@[simp] theorem State.draw_job (n : Nat) (s : State) :
     (State.draw n s).2.job = s.job := rfl
@[simp] theorem State.draw_engines (n : Nat) (s : State) :
     (State.draw n s).2.engines = s.engines := rfl
@[simp] theorem State.draw_arb (n : Nat) (s : State) :
     (State.draw n s).2.arb = s.arb := rfl
@[simp] theorem State.draw_melt (n : Nat) (s : State) :
     (State.draw n s).2.melt = s.melt := rfl
@[simp] theorem State.draw_peri (n : Nat) (s : State) :
     (State.draw n s).2.peri = s.peri := rfl
@[simp] theorem State.draw_tide (n : Nat) (s : State) :
     (State.draw n s).2.tide = s.tide := rfl
@[simp] theorem State.draw_links (n : Nat) (s : State) :
     (State.draw n s).2.links = s.links := rfl
@[simp] theorem State.draw_axes (n : Nat) (s : State) :
     (State.draw n s).2.axes = s.axes := rfl
@[simp] theorem State.draw_recoat (n : Nat) (s : State) :
     (State.draw n s).2.recoat = s.recoat := rfl
@[simp] theorem State.draw_camera (n : Nat) (s : State) :
     (State.draw n s).2.camera = s.camera := rfl
@[simp] theorem State.draw_halo (n : Nat) (s : State) :
     (State.draw n s).2.halo = s.halo := rfl
@[simp] theorem State.draw_time (n : Nat) (s : State) :
     (State.draw n s).2.time = s.time := rfl
@[simp] theorem State.draw_mem (n : Nat) (s : State) :
     (State.draw n s).2.mem = s.mem := rfl
@[simp] theorem State.draw_disp (n : Nat) (s : State) :
     (State.draw n s).2.disp = s.disp := rfl
@[simp] theorem State.draw_power (n : Nat) (s : State) :
     (State.draw n s).2.power = s.power := rfl
@[simp] theorem State.draw_cal (n : Nat) (s : State) :
     (State.draw n s).2.cal = s.cal := rfl
@[simp] theorem State.draw_boot (n : Nat) (s : State) :
     (State.draw n s).2.boot = s.boot := rfl
@[simp] theorem State.draw_tail (n : Nat) (s : State) :
     (State.draw n s).2.tail = s.tail := rfl
@[simp] theorem State.draw_planes (n : Nat) (s : State) :
     (State.draw n s).2.planes = s.planes := rfl
@[simp] theorem State.draw_eclipse (n : Nat) (s : State) :
     (State.draw n s).2.eclipse = s.eclipse := rfl
@[simp] theorem State.draw_flash (n : Nat) (s : State) :
     (State.draw n s).2.flash = s.flash := rfl
@[simp] theorem State.flashWrite_pending (o : Nat) (d : List Byte) (s : State) :
     (State.flashWrite o d s).pending = s.pending := rfl
@[simp] theorem State.flashWrite_outbox (o : Nat) (d : List Byte) (s : State) :
     (State.flashWrite o d s).outbox = s.outbox := rfl
@[simp] theorem State.flashWrite_freeCtr (o : Nat) (d : List Byte) (s : State) :
     (State.flashWrite o d s).freeCtr = s.freeCtr := rfl
@[simp] theorem State.flashWrite_host (o : Nat) (d : List Byte) (s : State) :
     (State.flashWrite o d s).host = s.host := rfl
@[simp] theorem State.flashWrite_eph (o : Nat) (d : List Byte) (s : State) :
     (State.flashWrite o d s).eph = s.eph := rfl
@[simp] theorem State.flashWrite_job (o : Nat) (d : List Byte) (s : State) :
     (State.flashWrite o d s).job = s.job := rfl
@[simp] theorem State.flashWrite_engines (o : Nat) (d : List Byte) (s : State) :
     (State.flashWrite o d s).engines = s.engines := rfl
@[simp] theorem State.flashWrite_arb (o : Nat) (d : List Byte) (s : State) :
     (State.flashWrite o d s).arb = s.arb := rfl
@[simp] theorem State.flashWrite_melt (o : Nat) (d : List Byte) (s : State) :
     (State.flashWrite o d s).melt = s.melt := rfl
@[simp] theorem State.flashWrite_peri (o : Nat) (d : List Byte) (s : State) :
     (State.flashWrite o d s).peri = s.peri := rfl
@[simp] theorem State.flashWrite_tide (o : Nat) (d : List Byte) (s : State) :
     (State.flashWrite o d s).tide = s.tide := rfl
@[simp] theorem State.flashWrite_links (o : Nat) (d : List Byte) (s : State) :
     (State.flashWrite o d s).links = s.links := rfl
@[simp] theorem State.flashWrite_axes (o : Nat) (d : List Byte) (s : State) :
     (State.flashWrite o d s).axes = s.axes := rfl
@[simp] theorem State.flashWrite_recoat (o : Nat) (d : List Byte) (s : State) :
     (State.flashWrite o d s).recoat = s.recoat := rfl
@[simp] theorem State.flashWrite_camera (o : Nat) (d : List Byte) (s : State) :
     (State.flashWrite o d s).camera = s.camera := rfl
@[simp] theorem State.flashWrite_halo (o : Nat) (d : List Byte) (s : State) :
     (State.flashWrite o d s).halo = s.halo := rfl
@[simp] theorem State.flashWrite_time (o : Nat) (d : List Byte) (s : State) :
     (State.flashWrite o d s).time = s.time := rfl
@[simp] theorem State.flashWrite_mem (o : Nat) (d : List Byte) (s : State) :
     (State.flashWrite o d s).mem = s.mem := rfl
@[simp] theorem State.flashWrite_disp (o : Nat) (d : List Byte) (s : State) :
     (State.flashWrite o d s).disp = s.disp := rfl
@[simp] theorem State.flashWrite_power (o : Nat) (d : List Byte) (s : State) :
     (State.flashWrite o d s).power = s.power := rfl
@[simp] theorem State.flashWrite_cal (o : Nat) (d : List Byte) (s : State) :
     (State.flashWrite o d s).cal = s.cal := rfl
@[simp] theorem State.flashWrite_boot (o : Nat) (d : List Byte) (s : State) :
     (State.flashWrite o d s).boot = s.boot := rfl
@[simp] theorem State.flashWrite_tail (o : Nat) (d : List Byte) (s : State) :
     (State.flashWrite o d s).tail = s.tail := rfl
@[simp] theorem State.flashWrite_planes (o : Nat) (d : List Byte) (s : State) :
     (State.flashWrite o d s).planes = s.planes := rfl
@[simp] theorem State.flashWrite_eclipse (o : Nat) (d : List Byte) (s : State) :
     (State.flashWrite o d s).eclipse = s.eclipse := rfl
@[simp] theorem State.flashErase_pending (o n : Nat) (s : State) :
     (State.flashErase o n s).pending = s.pending := rfl
@[simp] theorem State.flashErase_outbox (o n : Nat) (s : State) :
     (State.flashErase o n s).outbox = s.outbox := rfl
@[simp] theorem State.flashErase_freeCtr (o n : Nat) (s : State) :
     (State.flashErase o n s).freeCtr = s.freeCtr := rfl
@[simp] theorem State.flashErase_host (o n : Nat) (s : State) :
     (State.flashErase o n s).host = s.host := rfl
@[simp] theorem State.flashErase_eph (o n : Nat) (s : State) :
     (State.flashErase o n s).eph = s.eph := rfl
@[simp] theorem State.flashErase_job (o n : Nat) (s : State) :
     (State.flashErase o n s).job = s.job := rfl
@[simp] theorem State.flashErase_engines (o n : Nat) (s : State) :
     (State.flashErase o n s).engines = s.engines := rfl
@[simp] theorem State.flashErase_arb (o n : Nat) (s : State) :
     (State.flashErase o n s).arb = s.arb := rfl
@[simp] theorem State.flashErase_melt (o n : Nat) (s : State) :
     (State.flashErase o n s).melt = s.melt := rfl
@[simp] theorem State.flashErase_peri (o n : Nat) (s : State) :
     (State.flashErase o n s).peri = s.peri := rfl
@[simp] theorem State.flashErase_tide (o n : Nat) (s : State) :
     (State.flashErase o n s).tide = s.tide := rfl
@[simp] theorem State.flashErase_links (o n : Nat) (s : State) :
     (State.flashErase o n s).links = s.links := rfl
@[simp] theorem State.flashErase_axes (o n : Nat) (s : State) :
     (State.flashErase o n s).axes = s.axes := rfl
@[simp] theorem State.flashErase_recoat (o n : Nat) (s : State) :
     (State.flashErase o n s).recoat = s.recoat := rfl
@[simp] theorem State.flashErase_camera (o n : Nat) (s : State) :
     (State.flashErase o n s).camera = s.camera := rfl
@[simp] theorem State.flashErase_halo (o n : Nat) (s : State) :
     (State.flashErase o n s).halo = s.halo := rfl
@[simp] theorem State.flashErase_time (o n : Nat) (s : State) :
     (State.flashErase o n s).time = s.time := rfl
@[simp] theorem State.flashErase_mem (o n : Nat) (s : State) :
     (State.flashErase o n s).mem = s.mem := rfl
@[simp] theorem State.flashErase_disp (o n : Nat) (s : State) :
     (State.flashErase o n s).disp = s.disp := rfl
@[simp] theorem State.flashErase_power (o n : Nat) (s : State) :
     (State.flashErase o n s).power = s.power := rfl
@[simp] theorem State.flashErase_cal (o n : Nat) (s : State) :
     (State.flashErase o n s).cal = s.cal := rfl
@[simp] theorem State.flashErase_boot (o n : Nat) (s : State) :
     (State.flashErase o n s).boot = s.boot := rfl
@[simp] theorem State.flashErase_tail (o n : Nat) (s : State) :
     (State.flashErase o n s).tail = s.tail := rfl
@[simp] theorem State.flashErase_planes (o n : Nat) (s : State) :
     (State.flashErase o n s).planes = s.planes := rfl
@[simp] theorem State.flashErase_eclipse (o n : Nat) (s : State) :
     (State.flashErase o n s).eclipse = s.eclipse := rfl
@[simp] theorem State.clockMgmt_pending (s : State) :
     (State.clockMgmt s).pending = s.pending := rfl
@[simp] theorem State.clockMgmt_outbox (s : State) :
     (State.clockMgmt s).outbox = s.outbox := rfl
@[simp] theorem State.clockMgmt_freeCtr (s : State) :
     (State.clockMgmt s).freeCtr = s.freeCtr := rfl
@[simp] theorem State.clockMgmt_host (s : State) :
     (State.clockMgmt s).host = s.host := rfl
@[simp] theorem State.clockMgmt_eph (s : State) :
     (State.clockMgmt s).eph = s.eph := rfl
@[simp] theorem State.clockMgmt_job (s : State) :
     (State.clockMgmt s).job = s.job := rfl
@[simp] theorem State.clockMgmt_engines (s : State) :
     (State.clockMgmt s).engines = s.engines := rfl
@[simp] theorem State.clockMgmt_arb (s : State) :
     (State.clockMgmt s).arb = s.arb := rfl
@[simp] theorem State.clockMgmt_melt (s : State) :
     (State.clockMgmt s).melt = s.melt := rfl
@[simp] theorem State.clockMgmt_peri (s : State) :
     (State.clockMgmt s).peri = s.peri := rfl
@[simp] theorem State.clockMgmt_tide (s : State) :
     (State.clockMgmt s).tide = s.tide := rfl
@[simp] theorem State.clockMgmt_links (s : State) :
     (State.clockMgmt s).links = s.links := rfl
@[simp] theorem State.clockMgmt_axes (s : State) :
     (State.clockMgmt s).axes = s.axes := rfl
@[simp] theorem State.clockMgmt_recoat (s : State) :
     (State.clockMgmt s).recoat = s.recoat := rfl
@[simp] theorem State.clockMgmt_camera (s : State) :
     (State.clockMgmt s).camera = s.camera := rfl
@[simp] theorem State.clockMgmt_halo (s : State) :
     (State.clockMgmt s).halo = s.halo := rfl
@[simp] theorem State.clockMgmt_time (s : State) :
     (State.clockMgmt s).time = s.time := rfl
@[simp] theorem State.clockMgmt_mem (s : State) :
     (State.clockMgmt s).mem = s.mem := rfl
@[simp] theorem State.clockMgmt_disp (s : State) :
     (State.clockMgmt s).disp = s.disp := rfl
@[simp] theorem State.clockMgmt_cal (s : State) :
     (State.clockMgmt s).cal = s.cal := rfl
@[simp] theorem State.clockMgmt_boot (s : State) :
     (State.clockMgmt s).boot = s.boot := rfl
@[simp] theorem State.clockMgmt_tail (s : State) :
     (State.clockMgmt s).tail = s.tail := rfl
@[simp] theorem State.clockMgmt_planes (s : State) :
     (State.clockMgmt s).planes = s.planes := rfl
@[simp] theorem State.clockMgmt_eclipse (s : State) :
     (State.clockMgmt s).eclipse = s.eclipse := rfl
@[simp] theorem State.clockMgmt_flash (s : State) :
     (State.clockMgmt s).flash = s.flash := rfl

end Sys2Proof.Machine
end

