-- ==== Sys2Proof/Laws/Flash.lean ====
section
/-!
SUPPORT. What leaves the flash alone: one lemma for each operation that does not write it.
-/

set_option linter.all false

namespace Sys2Proof.Machine

@[simp] theorem ite_flash {c : Prop} [Decidable c] (a b : State) :
    (if c then a else b).flash = if c then a.flash else b.flash := by split <;> rfl
@[simp] theorem foldl_flash {α : Type} (l : List α) (f : State → α → State) (h : ∀ s a, (f s a).flash = s.flash) (s : State) :
    (l.foldl f s).flash = s.flash := by
  induction l generalizing s with
  | nil => rfl
  | cons a r ih => rw [List.foldl_cons, ih, h]

@[simp] theorem State.drawIn_flash (lo hi : Nat) (s : State) :
    ((State.drawIn lo hi s).2).flash = s.flash := by
  unfold State.drawIn <;> (try dsimp only) <;> (repeat' split) <;> simp

@[simp] theorem State.checkUsed_flash (n : Nat) (s : State) :
    (State.checkUsed n s).flash = s.flash := by
  unfold State.checkUsed <;> (try dsimp only) <;> (repeat' split) <;> simp

@[simp] theorem State.recordAt_flash (time : Option Nat) (stage : Bool) (type : Nat) (plane : Plane) (payload : List Byte) (s : State) :
    (State.recordAt time stage type plane payload s).flash = s.flash := by
  unfold State.recordAt <;> (try dsimp only) <;> (repeat' split) <;> simp

@[simp] theorem State.recordIn_flash (stage : Bool) (type : Nat) (plane : Plane) (payload : List Byte) (s : State) :
    (State.recordIn stage type plane payload s).flash = s.flash := by
  unfold State.recordIn <;> (try dsimp only) <;> (repeat' split) <;> simp

@[simp] theorem State.record_flash (type : Nat) (plane : Plane) (payload : List Byte) (s : State) :
    (State.record type plane payload s).flash = s.flash := by
  unfold State.record <;> (try dsimp only) <;> (repeat' split) <;> simp

@[simp] theorem State.raiseVector_flash (port vector : Nat) (s : State) :
    (State.raiseVector port vector s).flash = s.flash := by
  unfold State.raiseVector <;> (try dsimp only) <;> (repeat' split) <;> simp

@[simp] theorem State.postCq_flash (qn port : Nat) (c : Cpl) (irq : Bool) (s : State) :
    (State.postCq qn port c irq s).flash = s.flash := by
  unfold State.postCq <;> (try dsimp only) <;> (repeat' split) <;> simp

@[simp] theorem State.reply_flash (h : FrameHdr) (b : ReplyBody) (s : State) :
    (State.reply h b s).flash = s.flash := by
  unfold State.reply <;> (try dsimp only) <;> (repeat' split) <;> simp

@[simp] theorem State.post_flash (f : Flight) (status : Code) (r0 r1 : W64) (sample : W32) (late : Bool) (data : List Byte) (s : State) :
    (State.post f status r0 r1 sample late data s).flash = s.flash := by
  unfold State.post <;> (try dsimp only) <;> (repeat' split) <;> simp

@[simp] theorem State.finish_flash (f : Flight) (status : Code) (r0 r1 : W64) (late : Bool) (data : List Byte) (s : State) :
    (State.finish f status r0 r1 late data s).flash = s.flash := by
  unfold State.finish <;> (try dsimp only) <;> (repeat' split) <;> simp

@[simp] theorem State.finishId_flash (id : Nat) (status : Code) (r0 r1 : W64) (late : Bool) (data : List Byte) (s : State) :
    (State.finishId id status r0 r1 late data s).flash = s.flash := by
  unfold State.finishId <;> (try dsimp only) <;> (repeat' split) <;> simp

@[simp] theorem State.eventTo_flash (i type : Nat) (status : Code) (r1 : W64) (s : State) :
    (State.eventTo i type status r1 s).flash = s.flash := by
  unfold State.eventTo <;> (try dsimp only) <;> (repeat' split) <;> simp

@[simp] theorem State.eventBut_flash (skip : Nat → Bool) (type : Nat) (status : Code) (r1 : W64) (s : State) :
    (State.eventBut skip type status r1 s).flash = s.flash := by
  unfold State.eventBut <;> (try dsimp only) <;> (repeat' split) <;> simp

@[simp] theorem State.event_flash (type : Nat) (status : Code) (r1 : W64) (s : State) :
    (State.event type status r1 s).flash = s.flash := by
  unfold State.event <;> (try dsimp only) <;> (repeat' split) <;> simp

@[simp] theorem State.releaseHeld_flash (s : State) :
    (State.releaseHeld s).flash = s.flash := by
  unfold State.releaseHeld
  dsimp only
  rw [foldl_flash]
  intro s h
  cases h <;> simp

@[simp] theorem State.refuse_flash (port : Nat) (slot : Option Nat) (code : Code) (addr : Nat) (s : State) :
    (State.refuse port slot code addr s).flash = s.flash := by
  unfold State.refuse <;> (try dsimp only) <;> (repeat' split) <;> simp

@[simp] theorem State.cancelCommit_flash (status : Code) (s : State) :
    (State.cancelCommit status s).flash = s.flash := by
  unfold State.cancelCommit <;> (try dsimp only) <;> (repeat' split) <;> simp

@[simp] theorem State.pilotLost_flash (i : Nat) (s : State) :
    (State.pilotLost i s).flash = s.flash := by
  unfold State.pilotLost <;> (try dsimp only) <;> (repeat' split) <;> simp

@[simp] theorem State.dropRoles_flash (i : Nat) (m : BitVec 4) (s : State) :
    (State.dropRoles i m s).flash = s.flash := by
  unfold State.dropRoles <;> (try dsimp only) <;> (repeat' split) <;> simp

@[simp] theorem State.slotDown_flash (i : Nat) (s : State) :
    (State.slotDown i s).flash = s.flash := by
  unfold State.slotDown
  simp only [State.eventBut_flash, State.record_flash, State.modSlot_flash, State.modPort_flash]
  refine (foldl_flash _ _ ?_ _).trans (State.dropRoles_flash ..)
  intro s q
  rfl

@[simp] theorem State.portDown_flash (p : Nat) (s : State) :
    (State.portDown p s).flash = s.flash := by
  unfold State.portDown <;> (try dsimp only) <;> (repeat' split) <;> simp

@[simp] theorem State.source_flash (ty index : Nat) (fields : List (Nat × Int)) (s : State) :
    (State.source ty index fields s).flash = s.flash := by
  unfold State.source <;> (try dsimp only) <;> (repeat' split) <;> simp

@[simp] theorem State.sourceLost_flash (ty index : Nat) (field : Nat → Bool) (s : State) :
    (State.sourceLost ty index field s).flash = s.flash := by
  unfold State.sourceLost <;> (try dsimp only) <;> (repeat' split) <;> simp

@[simp] theorem State.applySwitch_flash (w : RouteSwitch) (s : State) :
    (State.applySwitch w s).flash = s.flash := by
  unfold State.applySwitch <;> (try dsimp only) <;> (repeat' split) <;> simp

@[simp] theorem State.reject_flash (f : Flight) (b : Bad) (s : State) :
    (State.reject f b s).flash = s.flash := by
  unfold State.reject <;> (try dsimp only) <;> (repeat' split) <;> simp

@[simp] theorem State.ok_flash (f : Flight) (r0 r1 : Nat) (data : List Byte) (s : State) :
    (State.ok f r0 r1 data s).flash = s.flash := by
  unfold State.ok <;> (try dsimp only) <;> (repeat' split) <;> simp

@[simp] theorem State.launch_flash (f : Flight) (s : State) :
    (State.launch f s).flash = s.flash := by
  unfold State.launch <;> (try dsimp only) <;> (repeat' split) <;> simp

@[simp] theorem State.checked_flash (f : Flight) (checks : List (Bool × Bad)) (k : State → State) (s : State) (h : ∀ s, (k s).flash = s.flash) :
    (State.checked f checks k s).flash = s.flash := by
  unfold State.checked <;> (try dsimp only) <;> (repeat' split) <;> simp [h]

@[simp] theorem State.refuseFrame_flash (addr : Nat) (h : FrameHdr) (c : Code) (s : State) :
    (State.refuseFrame addr h c s).flash = s.flash := by
  unfold State.refuseFrame <;> (try dsimp only) <;> (repeat' split) <;> simp

@[simp] theorem State.takeFrameAt_flash (addr : Nat) (h : FrameHdr) (s0 : State) :
    ((State.takeFrameAt addr h s0).2).flash = s0.flash := by
  unfold State.takeFrameAt <;> (try dsimp only) <;> (repeat' split) <;> simp

@[simp] theorem State.takeFrame_flash (h : FrameHdr) (s : State) :
    ((State.takeFrame h s).2).flash = s.flash := by
  unfold State.takeFrame <;> (try dsimp only) <;> (repeat' split) <;> simp

@[simp] theorem State.holdFrame_flash (x : HeldFrame) (s : State) :
    (State.holdFrame x s).flash = s.flash := by
  unfold State.holdFrame <;> (try dsimp only) <;> (repeat' split) <;> simp

@[simp] theorem State.newFlight_flash (slot : Nat) (e : Entry) (s : State) :
    ((State.newFlight slot e s).2).flash = s.flash := by
  unfold State.newFlight <;> (try dsimp only) <;> (repeat' split) <;> simp

@[simp] theorem State.noteRefused_flash (op : Nat) (s : State) :
    (State.noteRefused op s).flash = s.flash := by
  unfold State.noteRefused <;> (try dsimp only) <;> (repeat' split) <;> simp

@[simp] theorem State.judge_flash (f : Flight) (e : Entry) (body : Flight → State → State) (s : State) (h : ∀ g s, (body g s).flash = s.flash) :
    (State.judge f e body s).flash = s.flash := by
  unfold State.judge <;> (try dsimp only) <;> (repeat' split) <;> simp [h]

@[simp] theorem State.takeEntry_flash (q : Nat) (s : State) :
    (State.takeEntry q s).flash = s.flash := by
  unfold State.takeEntry <;> (try dsimp only) <;> (repeat' split) <;> simp

@[simp] theorem State.takeCommand_flash (h : FrameHdr) (s : State) :
    ((State.takeCommand h s).2).flash = s.flash := by
  unfold State.takeCommand <;> (try dsimp only) <;> (repeat' split) <;> simp

@[simp] theorem State.dmaFailed_flash (f : Flight) (s : State) :
    (State.dmaFailed f s).flash = s.flash := by
  unfold State.dmaFailed <;> (try dsimp only) <;> (repeat' split) <;> simp

@[simp] theorem State.submit_flash (op : W16) (e : Entry) (body : Flight → State → State) (s : State) (h : ∀ g s, (body g s).flash = s.flash) :
    (State.submit op e body s).flash = s.flash := by
  unfold State.submit <;> (try dsimp only) <;> (repeat' split) <;> simp [h]

@[simp] theorem State.modPool_flash (num : Nat) (f : Pool → Pool) (s : State) :
    (State.modPool num f s).flash = s.flash := by
  unfold State.modPool <;> (try dsimp only) <;> (repeat' split) <;> simp

@[simp] theorem State.modDesc_flash (num id : Nat) (f : Desc → Desc) (s : State) :
    (State.modDesc num id f s).flash = s.flash := by
  unfold State.modDesc <;> (try dsimp only) <;> (repeat' split) <;> simp

@[simp] theorem State.completeDesc_flash (d : Desc) (s : State) :
    (State.completeDesc d s).flash = s.flash := by
  unfold State.completeDesc <;> (try dsimp only) <;> (repeat' split) <;> simp

@[simp] theorem State.settleDescs_flash (s : State) :
    (State.settleDescs s).flash = s.flash := by
  unfold State.settleDescs <;> (try dsimp only) <;> (repeat' split) <;> simp

@[simp] theorem State.wordDone_flash (n : Nat) (it : Item) (last : Nat) (s : State) :
    (State.wordDone n it last s).flash = s.flash := by
  unfold State.wordDone <;> (try dsimp only) <;> (repeat' split) <;> simp

theorem State.feedOne_flash {n : Nat} {s t : State} (h : s.feedOne n = some t) : t.flash = s.flash := by
  unfold State.feedOne at h
  dsimp only at h
  (repeat' split at h) <;> cases h <;> simp

@[simp] theorem State.feed_flash (n k fuel : Nat) (s : State) : (s.feed n k fuel).flash = s.flash := by
  induction fuel generalizing s with
  | zero => rfl
  | succ fuel ih =>
    unfold State.feed
    split
    · split
      · rw [ih, State.feedOne_flash ‹_›]
      · rfl
    · rfl

@[simp] theorem State.feedAll_flash (k : Nat) (s : State) :
    (State.feedAll k s).flash = s.flash := by
  unfold State.feedAll <;> (try dsimp only) <;> (repeat' split) <;> simp

@[simp] theorem State.requestTile_flash (n k : Nat) (t : Nat × Nat) (s : State) :
    (State.requestTile n k t s).flash = s.flash := by
  unfold State.requestTile <;> (try dsimp only) <;> (repeat' split) <;> simp

@[simp] theorem State.fetchTile_flash (n k : Nat) (s : State) :
    (State.fetchTile n k s).flash = s.flash := by
  unfold State.fetchTile <;> (try dsimp only) <;> (repeat' split) <;> simp

@[simp] theorem State.finishWords_flash (n k : Nat) (s : State) :
    (State.finishWords n k s).flash = s.flash := by
  unfold State.finishWords <;> (try dsimp only) <;> (repeat' split) <;> simp

@[simp] theorem State.startMotion_flash (n k : Nat) (s : State) :
    (State.startMotion n k s).flash = s.flash := by
  unfold State.startMotion <;> (try dsimp only) <;> (repeat' split) <;> simp

@[simp] theorem State.dropControl_flash (n k : Nat) (s : State) :
    (State.dropControl n k s).flash = s.flash := by
  unfold State.dropControl <;> (try dsimp only) <;> (repeat' split) <;> simp

@[simp] theorem State.beginHold_flash (n k blocker rule : Nat) (s : State) :
    (State.beginHold n k blocker rule s).flash = s.flash := by
  unfold State.beginHold <;> (try dsimp only) <;> (repeat' split) <;> simp

@[simp] theorem State.innerCheck_flash (n k : Nat) (s : State) :
    (State.innerCheck n k s).flash = s.flash := by
  unfold State.innerCheck <;> (try dsimp only) <;> (repeat' split) <;> simp

@[simp] theorem State.park_flash (n t0 : Nat) (s : State) :
    (State.park n t0 s).flash = s.flash := by
  unfold State.park <;> (try dsimp only) <;> (repeat' split) <;> simp

@[simp] theorem State.parkReady_flash (n k : Nat) (s : State) :
    (State.parkReady n k s).flash = s.flash := by
  unfold State.parkReady <;> (try dsimp only) <;> (repeat' split) <;> simp

@[simp] theorem State.advance_flash (n k fuel : Nat) (s : State) : (s.advance n k fuel).flash = s.flash := by
  induction fuel generalizing s with
  | zero => rfl
  | succ fuel ih =>
    unfold State.advance
    dsimp only
    (repeat' split) <;> simp [ih]

@[simp] theorem State.boundary_flash (k n : Nat) (s : State) :
    (State.boundary k n s).flash = s.flash := by
  unfold State.boundary
  split
  · rfl
  · dsimp only
    rw [State.advance_flash, State.parkReady_flash, ite_flash]
    simp only [State.modEngine_flash, State.finishWords_flash, State.innerCheck_flash, ite_self]

@[simp] theorem State.makeRec_flash (k n : Nat) (s : State) :
    (State.makeRec k n s).flash = s.flash := by
  unfold State.makeRec
  dsimp only
  generalize s.soon? n k = ahead
  split <;> simp only [State.modEngine_flash]

@[simp] theorem State.noteStarving_flash (s : State) : s.noteStarving.flash = s.flash := rfl

@[simp] theorem State.endHold_flash (n t : Nat) (released : Bool) (s : State) :
    (State.endHold n t released s).flash = s.flash := by
  unfold State.endHold <;> (try dsimp only) <;> (repeat' split) <;> simp

@[simp] theorem State.returnTakes_flash (n : Nat) (s : State) :
    (State.returnTakes n s).flash = s.flash := by
  unfold State.returnTakes <;> (try dsimp only) <;> (repeat' split) <;> simp

@[simp] theorem State.returnOwn_flash (n : Nat) (s : State) :
    (State.returnOwn n s).flash = s.flash := by
  unfold State.returnOwn <;> (try dsimp only) <;> (repeat' split) <;> simp

@[simp] theorem State.returnBad_flash (bad : Item → Bool) (n : Nat) (s : State) :
    (State.returnBad bad n s).flash = s.flash := by
  unfold State.returnBad <;> (try dsimp only) <;> (repeat' split) <;> simp

@[simp] theorem State.spoilWords_flash (bad : Item → Bool) (s : State) :
    (State.spoilWords bad s).flash = s.flash := by
  unfold State.spoilWords <;> (try dsimp only) <;> (repeat' split) <;> simp

@[simp] theorem State.refusePool_flash (n : Nat) (s : State) :
    (State.refusePool n s).flash = s.flash := by
  unfold State.refusePool <;> (try dsimp only) <;> (repeat' split) <;> simp

@[simp] theorem State.refusePools_flash (s : State) :
    (State.refusePools s).flash = s.flash := by
  unfold State.refusePools <;> (try dsimp only) <;> (repeat' split) <;> simp

@[simp] theorem State.cutWords_flash (n : Nat) (s : State) :
    (State.cutWords n s).flash = s.flash := by
  unfold State.cutWords <;> (try dsimp only) <;> (repeat' split) <;> simp

@[simp] theorem State.discardDescs_flash (num : Nat) (code : Code) (p : Desc → Bool) (s : State) :
    (State.discardDescs num code p s).flash = s.flash := by
  unfold State.discardDescs <;> (try dsimp only) <;> (repeat' split) <;> simp

@[simp] theorem State.dropExclusive_flash (n : Nat) (s : State) :
    (State.dropExclusive n s).flash = s.flash := by
  unfold State.dropExclusive <;> (try dsimp only) <;> (repeat' split) <;> simp

@[simp] theorem State.dropZones_flash (s : State) :
    (State.dropZones s).flash = s.flash := by
  unfold State.dropZones <;> (try dsimp only) <;> (repeat' split) <;> simp

@[simp] theorem State.abortBuild_flash (s : State) :
    (State.abortBuild s).flash = s.flash := by
  unfold State.abortBuild <;> (try dsimp only) <;> (repeat' split) <;> simp

@[simp] theorem State.stopEngine_flash (n k t0 : Nat) (s : State) :
    (State.stopEngine n k t0 s).flash = s.flash := by
  unfold State.stopEngine <;> (try dsimp only) <;> (repeat' split) <;> simp

@[simp] theorem State.triggerAt_flash (k t0 : Nat) (scope : Nat → Bool) (bit : Nat) (code : Code) (s : State) :
    (State.triggerAt k t0 scope bit code s).flash = s.flash := by
  unfold State.triggerAt <;> (try dsimp only) <;> (repeat' split) <;> simp

@[simp] theorem State.trigger_flash (scope : Nat → Bool) (bit : Nat) (code : Code) (s : State) :
    (State.trigger scope bit code s).flash = s.flash := by
  unfold State.trigger <;> (try dsimp only) <;> (repeat' split) <;> simp

@[simp] theorem State.unresolved_flash (k : Nat) (pub : List Stroke) (s : State) :
    (State.unresolved k pub s).flash = s.flash := by
  unfold State.unresolved <;> (try dsimp only) <;> (repeat' split) <;> simp

@[simp] theorem State.giveTake_flash (z n : Nat) (d : Desc) (give tail rest : List Item) (s : State) :
    (State.giveTake z n d give tail rest s).flash = s.flash := by
  unfold State.giveTake <;> (try dsimp only) <;> (repeat' split) <;> simp

@[simp] theorem State.countTake_flash (n : Nat) (s : State) :
    (State.countTake n s).flash = s.flash := by
  unfold State.countTake <;> (try dsimp only) <;> (repeat' split) <;> simp

@[simp] theorem State.grantWhole_flash (z n : Nat) (s : State) :
    (State.grantWhole z n s).flash = s.flash := by
  unfold State.grantWhole <;> (try dsimp only) <;> (repeat' split) <;> simp

@[simp] theorem State.grantPrefix_flash (z n i : Nat) (s : State) :
    (State.grantPrefix z n i s).flash = s.flash := by
  unfold State.grantPrefix <;> (try dsimp only) <;> (repeat' split) <;> simp

theorem foldl_keep {α β γ : Type} (g : β → γ) (f : β → α → β) (h : ∀ b a, g (f b a) = g b) (l : List α) (b : β) :
    g (l.foldl f b) = g b := by
  induction l generalizing b with
  | nil => rfl
  | cons a r ih => rw [List.foldl_cons, ih, h]

theorem State.markOne_flash (k : Nat) (acc : State × List Stroke) (x : Stroke) :
    (State.markOne k acc x).1.flash = acc.1.flash := by
  unfold State.markOne <;> (try dsimp only) <;> (repeat' split) <;> simp

@[simp] theorem holdMarks_flash (w : Nat → Bool) (k : Nat) (acc : State × List Stroke) :
    (holdMarks w k acc).1.flash = acc.1.flash :=
  foldl_keep (fun a => a.1.flash) _ (fun a n => State.markOne_flash k a n) _ _

theorem Offers.try_flash (k n : Nat) (l : List (Nat × Option Nat)) (o : Offers) :
    (o.try_ k n l).s.flash = o.s.flash := by
  induction l generalizing o with
  | nil => rfl
  | cons a r ih =>
    obtain ⟨z, c⟩ := a
    unfold Offers.try_
    split
    · rfl
    · cases c <;> dsimp only <;> split <;> simp [Offers.granted, ih]

theorem Offers.turn_flash (k : Nat) (o : Offers) (n : Nat) : (o.turn k n).s.flash = o.s.flash := by
  unfold Offers.turn
  (repeat' split) <;> first | rfl | exact Offers.try_flash ..

theorem Offers.force_flash (k : Nat) (ord : List Nat) (o : Offers) (z : Nat) :
    (o.force k ord z).s.flash = o.s.flash := by
  unfold Offers.force
  (repeat' split) <;> simp [Offers.granted]

@[simp] theorem State.offer_flash (k : Nat) (pub : List Stroke) (s : State) :
    (State.offer k pub s).flash = s.flash := by
  unfold State.offer
  show (List.foldl (Offers.turn k) _ _).s.flash = s.flash
  rw [foldl_keep (fun o => o.s.flash) _ (fun o n => Offers.turn_flash k o n)]
  show (holdMarks _ _ _).1.flash = s.flash
  rw [holdMarks_flash, foldl_keep (fun o : Offers => o.s.flash) _ (fun o z => Offers.force_flash k _ o z)]

@[simp] theorem State.ageTakes_flash (s : State) :
    (State.ageTakes s).flash = s.flash := by
  unfold State.ageTakes <;> (try dsimp only) <;> (repeat' split) <;> simp

theorem State.testRelease_flash (k n : Nat) (acc : State × List Stroke) :
    (State.testRelease k n acc).1.flash = acc.1.flash := by
  unfold State.testRelease <;> (try dsimp only) <;> (repeat' split) <;> simp

@[simp] theorem State.tidyPool_flash (z fuel : Nat) (s : State) : (s.tidyPool z fuel).flash = s.flash := by
  induction fuel generalizing s with
  | zero => rfl
  | succ fuel ih =>
    unfold State.tidyPool
    dsimp only
    (repeat' split) <;> simp [ih]

@[simp] theorem State.arbitrate_flash (k : Nat) (s : State) :
    (State.arbitrate k s).flash = s.flash := by
  unfold State.arbitrate
  split
  · rfl
  · simp only [State.ageTakes_flash, State.offer_flash, State.unresolved_flash, holdMarks_flash]
    rw [foldl_keep (fun a : State × List Stroke => a.1.flash) _ fun a n => State.testRelease_flash k n a]
    refine foldl_flash _ _ ?_ _
    intro s z
    exact State.tidyPool_flash ..

@[simp] theorem State.breachPair_flash (k : Nat) (before : State) (s : State) (p : Nat × Nat) :
    (State.breachPair k before s p).flash = s.flash := by
  unfold State.breachPair <;> (try dsimp only) <;> (repeat' split) <;> simp

@[simp] theorem State.breaches_flash (k : Nat) (before : State) (s : State) :
    (State.breaches k before s).flash = s.flash := by
  unfold State.breaches <;> (try dsimp only) <;> (repeat' split) <;> simp

@[simp] theorem State.axisEdge_flash (a : Nat) (n : SwitchName) (level : Bool) (ns : Nat) (s : State) :
    (State.axisEdge a n level ns s).flash = s.flash := by
  unfold State.axisEdge <;> (try dsimp only) <;> (repeat' split) <;> simp

@[simp] theorem State.axisTick_flash (k a : Nat) (e : EphAxis) (s : State) :
    (State.axisTick k a e s).flash = s.flash := by
  unfold State.axisTick <;> (try dsimp only) <;> (repeat' split) <;> simp

@[simp] theorem State.axisDrive_flash (k a : Nat) (e : EphAxis) (s : State) :
    (State.axisDrive k a e s).flash = s.flash := by
  unfold State.axisDrive <;> (try dsimp only) <;> (repeat' split) <;> simp

theorem State.eachAxis_flash (f : Nat → EphAxis → State → State) (s : State)
    (h : ∀ a e s, (f a e s).flash = s.flash) : (State.eachAxis f s).flash = s.flash := by
  refine foldl_flash _ _ ?_ _
  intro s a
  split
  · exact h ..
  · rfl

@[simp] theorem State.axesTick_flash (k : Nat) (s : State) :
    (State.axesTick k s).flash = s.flash :=
  State.eachAxis_flash _ _ fun a e s => State.axisTick_flash k a e s

@[simp] theorem State.axesDrive_flash (k : Nat) (s : State) :
    (State.axesDrive k s).flash = s.flash :=
  State.eachAxis_flash _ _ fun a e s => State.axisDrive_flash k a e s

@[simp] theorem State.axesEmit_flash (k : Nat) (s : State) :
    (State.axesEmit k s).flash = s.flash := by
  unfold State.axesEmit <;> (try dsimp only) <;> (repeat' split) <;> simp

@[simp] theorem State.recoatFail_flash (axis cause : Nat) (s : State) :
    (State.recoatFail axis cause s).flash = s.flash := by
  unfold State.recoatFail <;> (try dsimp only) <;> (repeat' split) <;> simp

@[simp] theorem State.recoatMoves_flash (st : RecoatState) (ms : List RecoatMove) (t : Nat) (s : State) :
    (State.recoatMoves st ms t s).flash = s.flash := by
  unfold State.recoatMoves
  dsimp only
  split
  · simp
  · refine (foldl_flash _ _ ?_ _).trans rfl
    intro s m
    rfl

@[simp] theorem State.recoatStart_flash (drop t0 : Nat) (s : State) :
    (State.recoatStart drop t0 s).flash = s.flash := by
  unfold State.recoatStart <;> (try dsimp only) <;> (repeat' split) <;> simp

@[simp] theorem State.recoatNext_flash (k : Nat) (s : State) :
    (State.recoatNext k s).flash = s.flash := by
  unfold State.recoatNext <;> (try dsimp only) <;> (repeat' split) <;> simp

@[simp] theorem State.recoatOn_flash (k : Nat) (s : State) :
    (State.recoatOn k s).flash = s.flash := by
  unfold State.recoatOn <;> (try dsimp only) <;> (repeat' split) <;> simp

@[simp] theorem State.recoatTick_flash (k : Nat) (s : State) :
    (State.recoatTick k s).flash = s.flash := by
  unfold State.recoatTick
  dsimp only
  split
  · rw [ite_flash]
    simp only [ite_self]
    refine (foldl_flash _ _ ?_ _).trans rfl
    intro s m
    rfl
  · simp only [State.recoatOn_flash]
    refine (foldl_flash _ _ ?_ _).trans rfl
    intro s m
    split <;> simp

@[simp] theorem State.adoptAxes_flash (s : State) :
    (State.adoptAxes s).flash = s.flash := by
  unfold State.adoptAxes <;> (try dsimp only) <;> (repeat' split) <;> simp

@[simp] theorem State.dramError_flash (l : LineUe) (s : State) :
    (State.dramError l s).flash = s.flash := by
  unfold State.dramError <;> (try dsimp only) <;> (repeat' split) <;> simp

@[simp] theorem State.meetsPoison_flash (which : Nat → Bool) (s : State) :
    ((State.meetsPoison which s).2).flash = s.flash := by
  unfold State.meetsPoison <;> (try dsimp only) <;> (repeat' split) <;> simp

@[simp] theorem State.noteSramUe_flash (r : SramErr) (s : State) :
    (State.noteSramUe r s).flash = s.flash := by
  unfold State.noteSramUe <;> (try dsimp only) <;> (repeat' split) <;> simp

@[simp] theorem State.trainDram_flash (vendor capacity : Nat) (failed : W32) (s : State) :
    (State.trainDram vendor capacity failed s).flash = s.flash := by
  unfold State.trainDram <;> (try dsimp only) <;> (repeat' split) <;> simp

@[simp] theorem State.sramSecond_flash (s : State) :
    (State.sramSecond s).flash = s.flash := by
  unfold State.sramSecond <;> (try dsimp only) <;> (repeat' split) <;> simp

@[simp] theorem State.sramPassOver_flash (s : State) :
    (State.sramPassOver s).flash = s.flash := by
  unfold State.sramPassOver <;> (try dsimp only) <;> (repeat' split) <;> simp

@[simp] theorem State.startScrub_flash (s : State) :
    (State.startScrub s).flash = s.flash := by
  unfold State.startScrub <;> (try dsimp only) <;> (repeat' split) <;> simp

@[simp] theorem State.scrubSecond_flash (s : State) :
    (State.scrubSecond s).flash = s.flash := by
  unfold State.scrubSecond <;> (try dsimp only) <;> (repeat' split) <;> simp

@[simp] theorem State.startFsp_flash (dst : FspState) (s : State) :
    (State.startFsp dst s).flash = s.flash := by
  unfold State.startFsp <;> (try dsimp only) <;> (repeat' split) <;> simp

@[simp] theorem State.fspUp_flash (s : State) :
    (State.fspUp s).flash = s.flash := by
  unfold State.fspUp <;> (try dsimp only) <;> (repeat' split) <;> simp

@[simp] theorem State.fspDone_flash (s : State) :
    (State.fspDone s).flash = s.flash := by
  unfold State.fspDone <;> (try dsimp only) <;> (repeat' split) <;> simp

theorem dramMeet_flash (f : Nat → Bool) (s : State) :
    ((s.meetsPoison f).1.elim (s.meetsPoison f).2 fun l => (s.meetsPoison f).2.dramError l).flash = s.flash := by
  cases (s.meetsPoison f).1 <;> simp

@[simp] theorem State.checkGrids_flash (s : State) :
    (State.checkGrids s).flash = s.flash := by
  unfold State.checkGrids
  refine foldl_flash _ _ ?_ _
  intro s g
  dsimp only
  split
  · rfl
  · exact dramMeet_flash _ s

@[simp] theorem State.memTick_flash (s : State) :
    (State.memTick s).flash = s.flash := by
  unfold State.memTick <;> (try dsimp only) <;> (repeat' split) <;> simp

@[simp] theorem State.adoptDram_flash (boot : Bool) (s : State) :
    (State.adoptDram boot s).flash = s.flash := by
  unfold State.adoptDram <;> (try dsimp only) <;> (repeat' split) <;> simp

@[simp] theorem State.wipeAreas_flash (t : W32) (s : State) :
    (State.wipeAreas t s).flash = s.flash := by
  unfold State.wipeAreas <;> (try dsimp only) <;> (repeat' split) <;> simp

@[simp] theorem State.modCamPort_flash (p : Nat) (f : CamPort → CamPort) (s : State) :
    (State.modCamPort p f s).flash = s.flash := by
  unfold State.modCamPort <;> (try dsimp only) <;> (repeat' split) <;> simp

@[simp] theorem State.deliver_flash (e : EphSensor) (f : CamFrame) (s : State) :
    (State.deliver e f s).flash = s.flash := by
  unfold State.deliver <;> (try dsimp only) <;> (repeat' split) <;> simp

@[simp] theorem State.takeUnit_flash (s : State) :
    (State.takeUnit s).flash = s.flash := by
  unfold State.takeUnit <;> (try dsimp only) <;> (repeat' split) <;> simp

@[simp] theorem State.deliverDone_flash (e : EphSensor) (s : State) :
    (State.deliverDone e s).flash = s.flash := by
  unfold State.deliverDone <;> (try dsimp only) <;> (repeat' split) <;> simp

@[simp] theorem State.cciWrites_flash (i : Nat) (ws : List W32) (s : State) :
    (State.cciWrites i ws s).flash = s.flash := by
  unfold State.cciWrites; apply foldl_flash; intros; simp

@[simp] theorem State.newGen_flash (i : Nat) (v : ExpSet) (s : State) :
    (State.newGen i v s).flash = s.flash := by
  unfold State.newGen <;> (try dsimp only) <;> (repeat' split) <;> simp

@[simp] theorem State.startWrites_flash (i : Nat) (s : State) :
    (State.startWrites i s).flash = s.flash := by
  unfold State.startWrites <;> (try dsimp only) <;> (repeat' split) <;> simp

@[simp] theorem State.camCommit_flash (i : Nat) (s : State) :
    (State.camCommit i s).flash = s.flash := by
  unfold State.camCommit <;> (try dsimp only) <;> (repeat' split) <;> simp

@[simp] theorem State.clockImg_flash (s : State) :
    (State.clockImg s).flash = s.flash := by
  unfold State.clockImg <;> (try dsimp only) <;> (repeat' split) <;> simp

@[simp] theorem State.trigSensor_flash (i t : Nat) (s : State) :
    (State.trigSensor i t s).flash = s.flash := by
  unfold State.trigSensor <;> (try dsimp only) <;> (repeat' split) <;> simp

@[simp] theorem State.trigOrSkip_flash (i t : Nat) (s : State) :
    ((State.trigOrSkip i t s).2).flash = s.flash := by
  unfold State.trigOrSkip <;> (try dsimp only) <;> (repeat' split) <;> simp

theorem CamWait.edge_flash (k : Nat) (r : CamWait × State) (e : Nat × Nat) :
    (CamWait.edge k r e).2.flash = r.2.flash := by
  unfold CamWait.edge <;> (try dsimp only) <;> (repeat' split) <;> simp

@[simp] theorem State.camEdges_flash (k : Nat) (w : CamWait) (s : State) :
    ((State.camEdges k w s).2).flash = s.flash :=
  foldl_keep (fun r : CamWait × State => r.2.flash) _ (fun r e => CamWait.edge_flash k r e) _ _

@[simp] theorem State.camWaits_flash (k : Nat) (s : State) :
    (State.camWaits k s).flash = s.flash := by
  unfold State.camWaits <;> (try dsimp only) <;> (repeat' split) <;> simp

@[simp] theorem State.unexpected_flash (port : Nat) (s : State) :
    (State.unexpected port s).flash = s.flash := by
  unfold State.unexpected <;> (try dsimp only) <;> (repeat' split) <;> simp

@[simp] theorem State.eccFix_flash (port : Nat) (ecc : Bool) (s : State) :
    (State.eccFix port ecc s).flash = s.flash := by
  unfold State.eccFix <;> (try dsimp only) <;> (repeat' split) <;> simp

@[simp] theorem State.closeFrame_flash (e : EphSensor) (short missing : Bool) (s : State) :
    (State.closeFrame e short missing s).flash = s.flash := by
  unfold State.closeFrame <;> (try dsimp only) <;> (repeat' split) <;> simp

@[simp] theorem State.applyTaps_flash (port : Nat) (s : State) :
    (State.applyTaps port s).flash = s.flash := by
  unfold State.applyTaps <;> (try dsimp only) <;> (repeat' split) <;> simp

@[simp] theorem State.camLine_flash (e : EphSensor) (p : CsiPacket) (f : CamFrame) (s : State) :
    (State.camLine e p f s).flash = s.flash := by
  unfold State.camLine <;> (try dsimp only) <;> (repeat' split) <;> simp

@[simp] theorem State.adoptCameras_flash (old : Option Eph) (s : State) :
    (State.adoptCameras old s).flash = s.flash := by
  unfold State.adoptCameras <;> (try dsimp only) <;> (repeat' split) <;> simp

@[simp] theorem State.umbraCameras_flash (s : State) :
    (State.umbraCameras s).flash = s.flash := by
  unfold State.umbraCameras <;> (try dsimp only) <;> (repeat' split) <;> simp

@[simp] theorem State.resetCameras_flash (s : State) :
    (State.resetCameras s).flash = s.flash := by
  unfold State.resetCameras <;> (try dsimp only) <;> (repeat' split) <;> simp

@[simp] theorem State.settleHalo_flash (k c : Nat) (s : State) :
    (State.settleHalo k c s).flash = s.flash := by
  unfold State.settleHalo <;> (try dsimp only) <;> (repeat' split) <;> simp

@[simp] theorem State.settleHalos_flash (k : Nat) (s : State) :
    (State.settleHalos k s).flash = s.flash := by
  unfold State.settleHalos <;> (try dsimp only) <;> (repeat' split) <;> simp

@[simp] theorem State.strobeOn_flash (k c : Nat) (s : State) :
    (State.strobeOn k c s).flash = s.flash := by
  unfold State.strobeOn <;> (try dsimp only) <;> (repeat' split) <;> simp

@[simp] theorem State.strobesOn_flash (k : Nat) (s : State) :
    (State.strobesOn k s).flash = s.flash := by
  unfold State.strobesOn; apply foldl_flash; intros; simp

@[simp] theorem State.checkPulse_flash (c : Nat) (m : SinkReading) (s : State) :
    (State.checkPulse c m s).flash = s.flash := by
  unfold State.checkPulse <;> (try dsimp only) <;> (repeat' split) <;> simp

@[simp] theorem State.noteSink_flash (c : Nat) (m : SinkReading) (s : State) :
    (State.noteSink c m s).flash = s.flash := by
  unfold State.noteSink <;> (try dsimp only) <;> (repeat' split) <;> simp

@[simp] theorem State.strobeOff_flash (k : Nat) (ms : List (Nat × SinkReading)) (c : Nat) (s : State) :
    (State.strobeOff k ms c s).flash = s.flash := by
  unfold State.strobeOff <;> (try dsimp only) <;> (repeat' split) <;> simp

@[simp] theorem State.strobeEnd_flash (sensor : Nat) (ms : List (Nat × SinkReading)) (s : State) :
    (State.strobeEnd sensor ms s).flash = s.flash := by
  unfold State.strobeEnd <;> (try dsimp only) <;> (repeat' split) <;> simp

@[simp] theorem State.closeWindow_flash (sensor : Nat) (ms : List (Nat × SinkReading)) (s : State) :
    (State.closeWindow sensor ms s).flash = s.flash := by
  unfold State.closeWindow <;> (try dsimp only) <;> (repeat' split) <;> simp

@[simp] theorem State.camTick_flash (k : Nat) (s : State) :
    (State.camTick k s).flash = s.flash := by
  unfold State.camTick <;> (try dsimp only) <;> (repeat' split) <;> simp

@[simp] theorem State.tryNtest_flash (s : State) :
    (State.tryNtest s).flash = s.flash := by
  unfold State.tryNtest <;> (try dsimp only) <;> (repeat' split) <;> simp

@[simp] theorem State.dueNtest_flash (s : State) :
    (State.dueNtest s).flash = s.flash := by
  unfold State.dueNtest <;> (try dsimp only) <;> (repeat' split) <;> simp

@[simp] theorem State.haloLevel_flash (c : Nat) (w : W32) (s : State) :
    (State.haloLevel c w s).flash = s.flash := by
  unfold State.haloLevel <;> (try dsimp only) <;> (repeat' split) <;> simp

@[simp] theorem State.haloStatusW1c_flash (c : Nat) (w : W32) (s : State) :
    (State.haloStatusW1c c w s).flash = s.flash := by
  unfold State.haloStatusW1c <;> (try dsimp only) <;> (repeat' split) <;> simp

@[simp] theorem State.adoptHalo_flash (s : State) :
    (State.adoptHalo s).flash = s.flash := by
  unfold State.adoptHalo <;> (try dsimp only) <;> (repeat' split) <;> simp

@[simp] theorem State.haloWiresLow_flash (s : State) :
    (State.haloWiresLow s).flash = s.flash := by
  unfold State.haloWiresLow <;> (try dsimp only) <;> (repeat' split) <;> simp

@[simp] theorem State.near_flash (x : Rat) (lo hi : Int) (s : State) :
    ((State.near x lo hi s).2).flash = s.flash := by
  unfold State.near <;> (try dsimp only) <;> (repeat' split) <;> simp

@[simp] theorem roiMetrics_flash (cfg : RoiCfg) (size : Nat) (px : List Nat) (dir : Option Nat) (s : State) :
    ((roiMetrics cfg size px dir s).2).flash = s.flash := by
  unfold roiMetrics <;> (try dsimp only) <;> (repeat' split) <;> simp

@[simp] theorem State.roiDamaged_flash (n : Nat) (s : State) :
    (State.roiDamaged n s).flash = s.flash := by
  unfold State.roiDamaged <;> (try dsimp only) <;> (repeat' split) <;> simp

@[simp] theorem State.roiGood_flash (n : Nat) (f : RoiIn) (s : State) :
    (State.roiGood n f s).flash = s.flash := by
  unfold State.roiGood <;> (try dsimp only) <;> (repeat' split) <;> simp

@[simp] theorem State.bulkBlocks_flash (n : Nat) (bs : List BulkBlock) (s : State) :
    (State.bulkBlocks n bs s).flash = s.flash := by
  unfold State.bulkBlocks <;> (try dsimp only) <;> (repeat' split) <;> simp

@[simp] theorem State.bulkLost_flash (n : Nat) (s : State) :
    (State.bulkLost n s).flash = s.flash := by
  unfold State.bulkLost <;> (try dsimp only) <;> (repeat' split) <;> simp

@[simp] theorem State.noteGate_flash (k n : Nat) (s : State) :
    (State.noteGate k n s).flash = s.flash := by
  unfold State.noteGate <;> (try dsimp only) <;> (repeat' split) <;> simp

@[simp] theorem State.linkSourcesLost_flash (m : Nat) (s : State) :
    (State.linkSourcesLost m s).flash = s.flash := by
  unfold State.linkSourcesLost <;> (try dsimp only) <;> (repeat' split) <;> simp

@[simp] theorem State.toState_flash (m : Nat) (f : Link → Link) (s : State) :
    (State.toState m f s).flash = s.flash := by
  unfold State.toState <;> (try dsimp only) <;> (repeat' split) <;> simp

@[simp] theorem State.phaseHome_flash (n : Nat) (s : State) :
    (State.phaseHome n s).flash = s.flash := by
  unfold State.phaseHome <;> (try dsimp only) <;> (repeat' split) <;> simp

@[simp] theorem State.linkLoss_flash (m : Nat) (s : State) :
    (State.linkLoss m s).flash = s.flash := by
  unfold State.linkLoss <;> (try dsimp only) <;> (repeat' split) <;> simp

@[simp] theorem State.judgeLink_flash (m : Nat) (s : State) :
    (State.judgeLink m s).flash = s.flash := by
  unfold State.judgeLink <;> (try dsimp only) <;> (repeat' split) <;> simp

@[simp] theorem State.badFrame_flash (m : Nat) (damaged : Bool) (k : Nat) (s : State) :
    (State.badFrame m damaged k s).flash = s.flash := by
  unfold State.badFrame <;> (try dsimp only) <;> (repeat' split) <;> simp

@[simp] theorem State.goodFrame_flash (m : Nat) (f : UplinkFrame) (s : State) :
    (State.goodFrame m f s).flash = s.flash := by
  unfold State.goodFrame <;> (try dsimp only) <;> (repeat' split) <;> simp

@[simp] theorem State.endTest_flash (m : Nat) (s : State) :
    (State.endTest m s).flash = s.flash := by
  unfold State.endTest <;> (try dsimp only) <;> (repeat' split) <;> simp

@[simp] theorem State.linkCtl_flash (m : Nat) (w : W32) (s : State) :
    (State.linkCtl m w s).flash = s.flash := by
  unfold State.linkCtl <;> (try dsimp only) <;> (repeat' split) <;> simp

@[simp] theorem State.linksSend_flash (k : Nat) (s : State) :
    (State.linksSend k s).flash = s.flash := by
  unfold State.linksSend <;> (try dsimp only) <;> (repeat' split) <;> simp

@[simp] theorem State.adoptLinks_flash (old : Option Eph) (s : State) :
    (State.adoptLinks old s).flash = s.flash := by
  unfold State.adoptLinks
  refine foldl_flash _ _ (fun s m => ?_) _
  dsimp only
  (repeat' split) <;> simp

@[simp] theorem State.modCal_flash (i : Nat) (f : CalSubject → CalSubject) (s : State) :
    (State.modCal i f s).flash = s.flash := by
  unfold State.modCal <;> (try dsimp only) <;> (repeat' split) <;> simp

@[simp] theorem State.calDue_flash (s : State) :
    (State.calDue s).flash = s.flash := by
  unfold State.calDue <;> (try dsimp only) <;> (repeat' split) <;> simp

@[simp] theorem State.calFactory_flash (s : State) :
    (State.calFactory s).flash = s.flash := by
  unfold State.calFactory <;> (try dsimp only) <;> (repeat' split) <;> simp

@[simp] theorem State.calPowerUp_flash (s : State) :
    (State.calPowerUp s).flash = s.flash := by
  unfold State.calPowerUp <;> (try dsimp only) <;> (repeat' split) <;> simp

@[simp] theorem State.calEnded_flash (i : Nat) (how : Nat) (s : State) :
    (State.calEnded i how s).flash = s.flash := by
  unfold State.calEnded <;> (try dsimp only) <;> (repeat' split) <;> simp

@[simp] theorem State.calStartOne_flash (step : Bool) (i : Nat) (s : State) :
    (State.calStartOne step i s).flash = s.flash := by
  unfold State.calStartOne <;> (try dsimp only) <;> (repeat' split) <;> simp

@[simp] theorem State.calStartAll_flash (step : Bool) (s : State) :
    (State.calStartAll step s).flash = s.flash := by
  unfold State.calStartAll <;> (try dsimp only) <;> (repeat' split) <;> simp

@[simp] theorem State.calStart_flash (s : State) :
    (State.calStart s).flash = s.flash := by
  unfold State.calStart <;> (try dsimp only) <;> (repeat' split) <;> simp

@[simp] theorem State.calReject_flash (i why channel : Nat) (a b : List Int) (s : State) :
    (State.calReject i why channel a b s).flash = s.flash := by
  unfold State.calReject <;> (try dsimp only) <;> (repeat' split) <;> simp

@[simp] theorem State.calAccept_flash (i : Nat) (s : State) :
    (State.calAccept i s).flash = s.flash := by
  unfold State.calAccept <;> (try dsimp only) <;> (repeat' split) <;> simp

@[simp] theorem State.calApply_flash (i n : Nat) (v : List Int) (s : State) :
    (State.calApply i n v s).flash = s.flash := by
  unfold State.calApply <;> (try dsimp only) <;> (repeat' split) <;> simp

@[simp] theorem State.calRunDone_flash (i : Nat) (run1 run2 : List (List Int)) (s : State) :
    (State.calRunDone i run1 run2 s).flash = s.flash := by
  unfold State.calRunDone
  split
  · rfl
  · dsimp only
    split
    · simp
    · simp only [State.calStart_flash, State.calEnded_flash, State.calAccept_flash]
      refine foldl_flash _ _ ?_ _
      intro s n
      split <;> simp

@[simp] theorem State.calAbandon_flash (which : Nat → Bool) (s : State) :
    (State.calAbandon which s).flash = s.flash := by
  unfold State.calAbandon <;> (try dsimp only) <;> (repeat' split) <;> simp

@[simp] theorem State.adoptCal_flash (e : Eph) (s : State) :
    (State.adoptCal e s).flash = s.flash := by
  unfold State.adoptCal <;> (try dsimp only) <;> (repeat' split) <;> simp

@[simp] theorem State.setGrid_flash (h : Nat) (b : List Byte) (s : State) :
    (State.setGrid h b s).flash = s.flash := by
  unfold State.setGrid <;> (try dsimp only) <;> (repeat' split) <;> simp

@[simp] theorem State.takeGrids_flash (s : State) :
    (State.takeGrids s).flash = s.flash := by
  unfold State.takeGrids <;> (try dsimp only) <;> (repeat' split) <;> simp

@[simp] theorem State.deposit_flash (n : Nat) (s : State) :
    (State.deposit n s).flash = s.flash := by
  unfold State.deposit <;> (try dsimp only) <;> (repeat' split) <;> simp

@[simp] theorem State.diffuseSome_flash (s : State) :
    (State.diffuseSome s).flash = s.flash := by
  unfold State.diffuseSome <;> (try dsimp only) <;> (repeat' split) <;> simp

@[simp] theorem State.startPass_flash (e : EphPeri) (tick : Nat) (s : State) :
    (State.startPass e tick s).flash = s.flash := by
  unfold State.startPass <;> (try dsimp only) <;> (repeat' split) <;> simp

@[simp] theorem State.servePass_flash (tick : Nat) (s : State) :
    (State.servePass tick s).flash = s.flash := by
  unfold State.servePass <;> (try dsimp only) <;> (repeat' split) <;> simp

@[simp] theorem State.loadAtEnd_flash (s : State) :
    (State.loadAtEnd s).flash = s.flash := by
  unfold State.loadAtEnd <;> (try dsimp only) <;> (repeat' split) <;> simp

@[simp] theorem State.startTransition_flash (s : State) :
    (State.startTransition s).flash = s.flash := by
  unfold State.startTransition <;> (try dsimp only) <;> (repeat' split) <;> simp

@[simp] theorem State.lookup_flash (k n : Nat) (s : State) :
    (State.lookup k n s).flash = s.flash := by
  unfold State.lookup <;> (try dsimp only) <;> (repeat' split) <;> simp

@[simp] theorem State.modDisp_flash (f : Display → Display) (s : State) :
    (State.modDisp f s).flash = s.flash := by
  unfold State.modDisp <;> (try dsimp only) <;> (repeat' split) <;> simp

@[simp] theorem State.dispFail_flash (s : State) :
    (State.dispFail s).flash = s.flash := by
  unfold State.dispFail <;> (try dsimp only) <;> (repeat' split) <;> simp

@[simp] theorem State.apertureStore_flash (addr : Nat) (w : W32) (s : State) :
    (State.apertureStore addr w s).flash = s.flash := by
  unfold State.apertureStore <;> (try dsimp only) <;> (repeat' split) <;> simp

@[simp] theorem State.dispCommitWrite_flash (w : W32) (s : State) :
    (State.dispCommitWrite w s).flash = s.flash := by
  unfold State.dispCommitWrite <;> (try dsimp only) <;> (repeat' split) <;> simp

@[simp] theorem State.adoptDisplay_flash (old : Option EphDisplay) (s : State) :
    (State.adoptDisplay old s).flash = s.flash := by
  unfold State.adoptDisplay <;> (try dsimp only) <;> (repeat' split) <;> simp

@[simp] theorem State.umbraDisplay_flash (s : State) :
    (State.umbraDisplay s).flash = s.flash := by
  unfold State.umbraDisplay <;> (try dsimp only) <;> (repeat' split) <;> simp

@[simp] theorem State.restartDisplay_flash (s : State) :
    (State.restartDisplay s).flash = s.flash := by
  unfold State.restartDisplay <;> (try dsimp only) <;> (repeat' split) <;> simp

@[simp] theorem State.rebase_flash (o n from_ : Nat) (s : State) :
    (State.rebase o n from_ s).flash = s.flash := by
  unfold State.rebase <;> (try dsimp only) <;> (repeat' split) <;> simp

@[simp] theorem State.modDomain_flash (d : Nat) (f : PtpDomain → PtpDomain) (s : State) :
    (State.modDomain d f s).flash = s.flash := by
  unfold State.modDomain <;> (try dsimp only) <;> (repeat' split) <;> simp

@[simp] theorem State.deriveIx_flash (s : State) :
    (State.deriveIx s).flash = s.flash := by
  unfold State.deriveIx <;> (try dsimp only) <;> (repeat' split) <;> simp

@[simp] theorem State.setRate_flash (s : State) :
    (State.setRate s).flash = s.flash := by
  unfold State.setRate <;> (try dsimp only) <;> (repeat' split) <;> simp

@[simp] theorem State.moveIx_flash (o : Nat) (step : Bool) (s : State) :
    (State.moveIx o step s).flash = s.flash := by
  unfold State.moveIx
  have h := State.deriveIx_flash s
  generalize s.deriveIx = t at h
  refine Eq.trans ?_ h
  clear h
  rw [ite_flash, State.rebase_flash, ite_self]

@[simp] theorem State.stepTime_flash (new : Nat) (s : State) :
    (State.stepTime new s).flash = s.flash := by
  unfold State.stepTime
  refine (State.record_flash ..).trans ((State.setRate_flash _).trans ((State.moveIx_flash ..).trans ?_))
  rfl

@[simp] theorem State.planStep_flash (o : Int) (s : State) :
    (State.planStep o s).flash = s.flash := by
  unfold State.planStep <;> (try dsimp only) <;> (repeat' split) <;> simp

@[simp] theorem State.enterHoldover_flash (s : State) :
    (State.enterHoldover s).flash = s.flash := by
  unfold State.enterHoldover <;> (try dsimp only) <;> (repeat' split) <;> simp

@[simp] theorem State.selectDomain_flash (d : Nat) (s : State) :
    (State.selectDomain d s).flash = s.flash := by
  unfold State.selectDomain <;> (try dsimp only) <;> (repeat' split) <;> simp

@[simp] theorem State.loseSelected_flash (s : State) :
    (State.loseSelected s).flash = s.flash := by
  unfold State.loseSelected <;> (try dsimp only) <;> (repeat' split) <;> simp

@[simp] theorem State.steer_flash (d : Nat) (s : State) :
    (State.steer d s).flash = s.flash := by
  unfold State.steer <;> (try dsimp only) <;> (repeat' split) <;> simp

@[simp] theorem State.servoSync_flash (d : Nat) (s : State) :
    (State.servoSync d s).flash = s.flash := by
  unfold State.servoSync <;> (try dsimp only) <;> (repeat' split) <;> simp

@[simp] theorem State.measure_flash (d : Nat) (t1 t2 : Int) (s : State) :
    (State.measure d t1 t2 s).flash = s.flash := by
  unfold State.measure <;> (try dsimp only) <;> (repeat' split) <;> simp

@[simp] theorem State.servoBuildEnd_flash (s : State) :
    (State.servoBuildEnd s).flash = s.flash := by
  unfold State.servoBuildEnd <;> (try dsimp only) <;> (repeat' split) <;> simp

@[simp] theorem State.bypCheck_flash (s : State) :
    (State.bypCheck s).flash = s.flash := by
  unfold State.bypCheck <;> (try dsimp only) <;> (repeat' split) <;> simp

@[simp] theorem State.bypTick_flash (s : State) :
    (State.bypTick s).flash = s.flash := by
  unfold State.bypTick <;> (try dsimp only) <;> (repeat' split) <;> simp

@[simp] theorem State.ringTick_flash (s : State) :
    (State.ringTick s).flash = s.flash := by
  unfold State.ringTick <;> (try dsimp only) <;> (repeat' split) <;> simp

@[simp] theorem State.timeTick_flash (s : State) :
    (State.timeTick s).flash = s.flash := by
  unfold State.timeTick <;> (try dsimp only) <;> (repeat' split) <;> simp

@[simp] theorem State.noteDup_flash (e : DupEntry) (s : State) :
    (State.noteDup e s).flash = s.flash := by
  unfold State.noteDup <;> (try dsimp only) <;> (repeat' split) <;> simp

@[simp] theorem State.ringSend_flash (p : Nat) (bits : Nat) (o : Nat → Out) (s : State) :
    (State.ringSend p bits o s).flash = s.flash := by
  unfold State.ringSend <;> (try dsimp only) <;> (repeat' split) <;> simp

@[simp] theorem State.ringEnter_flash (port mac : Nat) (seq : W16) (s : State) :
    ((State.ringEnter port mac seq s).1).flash = s.flash := by
  unfold State.ringEnter <;> (try dsimp only) <;> (repeat' split) <;> simp

@[simp] theorem State.ringOther_flash (s : State) :
    (State.ringOther s).flash = s.flash := by
  unfold State.ringOther <;> (try dsimp only) <;> (repeat' split) <;> simp

@[simp] theorem State.ringOwn_flash (ps : List Nat) (etherType dst : Nat) (seq : Nat → Nat) (corr : Int) (s : State) :
    (State.ringOwn ps etherType dst seq corr s).flash = s.flash := by
  unfold State.ringOwn
  dsimp only
  split
  · refine (foldl_flash _ _ ?_ s)
    intro s p
    simp
  · refine foldl_flash _ _ ?_ _
    intro s p
    simp

@[simp] theorem State.transit_flash (port : Nat) (m : PtpMsg) (s : State) :
    ((State.transit port m s).2).flash = s.flash := by
  unfold State.transit <;> (try dsimp only) <;> (repeat' split) <;> simp

@[simp] theorem State.ptpSend_flash (port : Nat) (m : PtpMsg) (add : Int) (s : State) :
    (State.ptpSend port m add s).flash = s.flash := by
  unfold State.ptpSend <;> (try dsimp only) <;> (repeat' split) <;> simp

@[simp] theorem State.ptpOther_flash (fwd : Bool) (s : State) :
    (State.ptpOther fwd s).flash = s.flash := by
  unfold State.ptpOther <;> (try dsimp only) <;> (repeat' split) <;> simp

@[simp] theorem State.forwardSync_flash (port : Nat) (m : PtpMsg) (s : State) :
    (State.forwardSync port m s).flash = s.flash := by
  unfold State.forwardSync <;> (try dsimp only) <;> (repeat' split) <;> simp

@[simp] theorem State.forwardFollowUp_flash (port : Nat) (m : PtpMsg) (s : State) :
    (State.forwardFollowUp port m s).flash = s.flash := by
  unfold State.forwardFollowUp <;> (try dsimp only) <;> (repeat' split) <;> simp

@[simp] theorem State.orbCtl_flash (w : W32) (s : State) :
    (State.orbCtl w s).flash = s.flash := by
  unfold State.orbCtl <;> (try dsimp only) <;> (repeat' split) <;> simp

@[simp] theorem State.orbPort_flash (p : Nat) (w : W32) (s : State) :
    (State.orbPort p w s).flash = s.flash := by
  unfold State.orbPort <;> (try dsimp only) <;> (repeat' split) <;> simp

@[simp] theorem State.adoptRing_flash (old : Option EphRing) (s : State) :
    (State.adoptRing old s).flash = s.flash := by
  unfold State.adoptRing <;> (try dsimp only) <;> (repeat' split) <;> simp

@[simp] theorem State.timeToAon_flash (s : State) :
    (State.timeToAon s).flash = s.flash := by
  unfold State.timeToAon <;> (try dsimp only) <;> (repeat' split) <;> simp

@[simp] theorem State.timeFromAon_flash (s : State) :
    (State.timeFromAon s).flash = s.flash := by
  unfold State.timeFromAon <;> (try dsimp only) <;> (repeat' split) <;> simp

@[simp] theorem State.adoptHosts_flash (hosts : List SlotCfg) (s : State) :
    (State.adoptHosts hosts s).flash = s.flash := by
  unfold State.adoptHosts <;> (try dsimp only) <;> (repeat' split) <;> simp

@[simp] theorem State.adoptPools_flash (e : Eph) (s : State) :
    (State.adoptPools e s).flash = s.flash := by
  unfold State.adoptPools <;> (try dsimp only) <;> (repeat' split) <;> simp

@[simp] theorem State.adoptEngines_flash (old : Option Eph) (s : State) :
    (State.adoptEngines old s).flash = s.flash := by
  unfold State.adoptEngines <;> (try dsimp only) <;> (repeat' split) <;> simp

@[simp] theorem State.adoptEclipse_flash (s : State) :
    (State.adoptEclipse s).flash = s.flash := by
  unfold State.adoptEclipse <;> (try dsimp only) <;> (repeat' split) <;> simp

@[simp] theorem State.adoptTide_flash (e : Eph) (s : State) :
    (State.adoptTide e s).flash = s.flash := by
  unfold State.adoptTide <;> (try dsimp only) <;> (repeat' split) <;> simp

@[simp] theorem State.adoptRoutes_flash (old : Option Eph) (e : Eph) (s : State) :
    (State.adoptRoutes old e s).flash = s.flash := by
  unfold State.adoptRoutes <;> (try dsimp only) <;> (repeat' split) <;> simp

@[simp] theorem State.adoptPeri_flash (old : Option Eph) (s : State) :
    (State.adoptPeri old s).flash = s.flash := by
  unfold State.adoptPeri <;> (try dsimp only) <;> (repeat' split) <;> simp

@[simp] theorem State.nvCheck_flash (s : State) :
    (State.nvCheck s).flash = s.flash := by
  unfold State.nvCheck <;> (try dsimp only) <;> (repeat' split) <;> simp

@[simp] theorem State.adoptThermal_flash (e : Eph) (s : State) :
    (State.adoptThermal e s).flash = s.flash := by
  unfold State.adoptThermal <;> (try dsimp only) <;> (repeat' split) <;> simp

@[simp] theorem State.dropStrobes_flash (s : State) :
    (State.dropStrobes s).flash = s.flash := by
  unfold State.dropStrobes <;> (try dsimp only) <;> (repeat' split) <;> simp

@[simp] theorem State.swapEph_flash (k : AdoptKind) (e : Eph) (container : List Byte) (s : State) :
    (State.swapEph k e container s).flash = s.flash := by
  unfold State.swapEph <;> (try dsimp only) <;> (repeat' split) <;> simp

@[simp] theorem State.measureEph_flash (e : Eph) (s : State) :
    (State.measureEph e s).flash = s.flash := by
  unfold State.measureEph <;> (try dsimp only) <;> (repeat' split) <;> simp

@[simp] theorem State.noteReject_flash (f : EphFail) (s : State) :
    (State.noteReject f s).flash = s.flash := by
  unfold State.noteReject <;> (try dsimp only) <;> (repeat' split) <;> simp

@[simp] theorem State.adoptFails_flash (e : Eph) (f : EphFail) (s : State) :
    (State.adoptFails e f s).flash = s.flash := by
  unfold State.adoptFails <;> (try dsimp only) <;> (repeat' split) <;> simp

@[simp] theorem State.flashJob_flash (f : Flight) (r0 : Nat) (s : State) :
    (State.flashJob f r0 s).flash = s.flash := by
  unfold State.flashJob <;> (try dsimp only) <;> (repeat' split) <;> simp

@[simp] theorem State.restage_flash (n : Nat) (d : List Byte) (st : StageState) (s : State) :
    (State.restage n d st s).flash = s.flash := by
  unfold State.restage <;> (try dsimp only) <;> (repeat' split) <;> simp

@[simp] theorem State.ephStage_flash (f : Flight) (e : Entry) (s : State) :
    (State.ephStage f e s).flash = s.flash := by
  unfold State.ephStage <;> (try dsimp only) <;> (repeat' split) <;> simp

@[simp] theorem State.noteValidation_flash (r : Except EphFail Eph) (s : State) :
    (State.noteValidation r s).flash = s.flash := by
  unfold State.noteValidation <;> (try dsimp only) <;> (repeat' split) <;> simp

@[simp] theorem State.ephValidate_flash (f : Flight) (e : Entry) (s : State) :
    (State.ephValidate f e s).flash = s.flash := by
  unfold State.ephValidate <;> (try dsimp only) <;> (repeat' split) <;> simp

@[simp] theorem State.rejectId_flash (id : Nat) (b : Bad) (s : State) :
    (State.rejectId id b s).flash = s.flash := by
  unfold State.rejectId <;> (try dsimp only) <;> (repeat' split) <;> simp

@[simp] theorem State.stagingLost_flash (id : Nat) (s : State) :
    (State.stagingLost id s).flash = s.flash := by
  unfold State.stagingLost <;> (try dsimp only) <;> (repeat' split) <;> simp

@[simp] theorem State.ephCancel_flash (f : Flight) (e : Entry) (s : State) :
    (State.ephCancel f e s).flash = s.flash := by
  unfold State.ephCancel <;> (try dsimp only) <;> (repeat' split) <;> simp

@[simp] theorem State.tailWalk_flash (s : State) :
    (State.tailWalk s).flash = s.flash := by
  unfold State.tailWalk <;> (try dsimp only) <;> (repeat' split) <;> simp

@[simp] theorem State.noteFull_flash (s : State) :
    (State.noteFull s).flash = s.flash := by
  unfold State.noteFull <;> (try dsimp only) <;> (repeat' split) <;> simp

@[simp] theorem State.setFreeze_flash (on : Bool) (s : State) :
    (State.setFreeze on s).flash = s.flash := by
  unfold State.setFreeze <;> (try dsimp only) <;> (repeat' split) <;> simp

@[simp] theorem State.tailFrozen_flash (s : State) :
    (State.tailFrozen s).flash = s.flash := by
  unfold State.tailFrozen <;> (try dsimp only) <;> (repeat' split) <;> simp

@[simp] theorem State.tailCursor_flash (port block : Nat) (s : State) :
    (State.tailCursor port block s).flash = s.flash := by
  unfold State.tailCursor <;> (try dsimp only) <;> (repeat' split) <;> simp

@[simp] theorem State.tailCtl_flash (w : W32) (s : State) :
    (State.tailCtl w s).flash = s.flash := by
  unfold State.tailCtl <;> (try dsimp only) <;> (repeat' split) <;> simp

@[simp] theorem State.resetHosts_flash (s : State) :
    (State.resetHosts s).flash = s.flash := by
  unfold State.resetHosts <;> (try dsimp only) <;> (repeat' split) <;> simp

@[simp] theorem State.dropFlights_flash (s : State) :
    (State.dropFlights s).flash = s.flash := by
  unfold State.dropFlights
  refine foldl_flash _ _ ?_ _
  intro s f
  rfl

@[simp] theorem State.resetEph_flash (s : State) :
    (State.resetEph s).flash = s.flash := by
  unfold State.resetEph <;> (try dsimp only) <;> (repeat' split) <;> simp

@[simp] theorem State.resetCore_flash (s : State) :
    (State.resetCore s).flash = s.flash := by
  unfold State.resetCore <;> (try dsimp only) <;> (repeat' split) <;> simp

@[simp] theorem State.pcieDown_flash (s : State) :
    (State.pcieDown s).flash = s.flash := by
  unfold State.pcieDown <;> (try dsimp only) <;> (repeat' split) <;> simp

@[simp] theorem State.coreLost_flash (s : State) :
    (State.coreLost s).flash = s.flash := by
  unfold State.coreLost <;> (try dsimp only) <;> (repeat' split) <;> simp

@[simp] theorem State.coreSaved_flash (s : State) :
    (State.coreSaved s).flash = s.flash := by
  unfold State.coreSaved <;> (try dsimp only) <;> (repeat' split) <;> simp

@[simp] theorem State.coreSensors_flash (s : State) :
    (State.coreSensors s).flash = s.flash := by
  unfold State.coreSensors <;> (try dsimp only) <;> (repeat' split) <;> simp

@[simp] theorem State.planesUp_flash (standby : StandbyState) (s : State) :
    (State.planesUp standby s).flash = s.flash := by
  unfold State.planesUp <;> (try dsimp only) <;> (repeat' split) <;> simp

@[simp] theorem State.engineHome_flash (s : State) :
    (State.engineHome s).flash = s.flash := by
  unfold State.engineHome <;> (try dsimp only) <;> (repeat' split) <;> simp

@[simp] theorem State.noEphemeris_flash (s : State) :
    (State.noEphemeris s).flash = s.flash := by
  unfold State.noEphemeris <;> (try dsimp only) <;> (repeat' split) <;> simp

@[simp] theorem State.bootReject_flash (x : EphFail) (s : State) :
    (State.bootReject x s).flash = s.flash := by
  unfold State.bootReject <;> (try dsimp only) <;> (repeat' split) <;> simp

@[simp] theorem State.gridsBack_flash (s : State) :
    (State.gridsBack s).flash = s.flash := by
  unfold State.gridsBack <;> (try dsimp only) <;> (repeat' split) <;> simp

@[simp] theorem State.periBack_flash (s : State) :
    (State.periBack s).flash = s.flash := by
  unfold State.periBack
  split
  · rfl
  · exact dramMeet_flash _ s

@[simp] theorem State.extend_flash (n : Nat) (v : Digest) (s : State) :
    (State.extend n v s).flash = s.flash := by
  unfold State.extend <;> (try dsimp only) <;> (repeat' split) <;> simp

@[simp] theorem State.extendData_flash (d : BankDigests) (s : State) :
    (State.extendData d s).flash = s.flash := by
  unfold State.extendData <;> (try dsimp only) <;> (repeat' split) <;> simp

@[simp] theorem State.enterNadir_flash (cause : Nat) (s : State) :
    (State.enterNadir cause s).flash = s.flash := by
  unfold State.enterNadir <;> (try dsimp only) <;> (repeat' split) <;> simp

@[simp] theorem State.railNow_flash (r mv : Nat) (s : State) :
    (State.railNow r mv s).flash = s.flash := by
  unfold State.railNow <;> (try dsimp only) <;> (repeat' split) <;> simp

@[simp] theorem State.railsOff_flash (s : State) :
    (State.railsOff s).flash = s.flash := by
  unfold State.railsOff <;> (try dsimp only) <;> (repeat' split) <;> simp

@[simp] theorem State.coreFault_flash (cause rail : Nat) (s : State) :
    (State.coreFault cause rail s).flash = s.flash := by
  unfold State.coreFault <;> (try dsimp only) <;> (repeat' split) <;> simp

@[simp] theorem State.takeHeader_flash (s : State) :
    (State.takeHeader s).flash = s.flash := by
  unfold State.takeHeader <;> (try dsimp only) <;> (repeat' split) <;> simp

@[simp] theorem State.noteTrial_flash (s : State) :
    (State.noteTrial s).flash = s.flash := by
  unfold State.noteTrial <;> (try dsimp only) <;> (repeat' split) <;> simp

@[simp] theorem State.powerReset_flash (vinLost : Bool) (s : State) :
    (State.powerReset vinLost s).flash = s.flash := by
  unfold State.powerReset <;> (try dsimp only) <;> (repeat' split) <;> simp

@[simp] theorem State.nadirReply_flash (r : NadirReply) (s : State) :
    (State.nadirReply r s).flash = s.flash := by
  unfold State.nadirReply <;> (try dsimp only) <;> (repeat' split) <;> simp

@[simp] theorem State.beginTransit_flash (code : Code) (s : State) :
    (State.beginTransit code s).flash = s.flash := by
  unfold State.beginTransit <;> (try dsimp only) <;> (repeat' split) <;> simp

@[simp] theorem State.revertSettled_flash (s : State) :
    (State.revertSettled s).flash = s.flash := by
  unfold State.revertSettled <;> (try dsimp only) <;> (repeat' split) <;> simp

@[simp] theorem State.revertData_flash (d : BankDigests) (s : State) :
    (State.revertData d s).flash = s.flash := by
  unfold State.revertData <;> (try dsimp only) <;> (repeat' split) <;> simp

@[simp] theorem State.swapImages_flash (s : State) :
    (State.swapImages s).flash = s.flash := by
  unfold State.swapImages <;> (try dsimp only) <;> (repeat' split) <;> simp

@[simp] theorem State.swapPending_flash (s : State) :
    (State.swapPending s).flash = s.flash := by
  unfold State.swapPending <;> (try dsimp only) <;> (repeat' split) <;> simp

@[simp] theorem State.controlDone_flash (a : Activation) (s : State) :
    (State.controlDone a s).flash = s.flash := by
  unfold State.controlDone <;> (try dsimp only) <;> (repeat' split) <;> simp

@[simp] theorem State.mgmtBack_flash (s : State) :
    (State.mgmtBack s).flash = s.flash := by
  unfold State.mgmtBack <;> (try dsimp only) <;> (repeat' split) <;> simp

@[simp] theorem State.startCheck_flash (f : Flight) (activate : Bool) (s : State) :
    (State.startCheck f activate s).flash = s.flash := by
  unfold State.startCheck <;> (try dsimp only) <;> (repeat' split) <;> simp

@[simp] theorem State.activateRefused_flash (s : State) :
    (State.activateRefused s).flash = s.flash := by
  unfold State.activateRefused <;> (try dsimp only) <;> (repeat' split) <;> simp

@[simp] theorem State.accepted_flash (h : FrameHdr) (s : State) :
    (State.accepted h s).flash = s.flash := by
  unfold State.accepted <;> (try dsimp only) <;> (repeat' split) <;> simp

@[simp] theorem State.wakePort_flash (p : Nat) (s : State) :
    (State.wakePort p s).flash = s.flash := by
  unfold State.wakePort <;> (try dsimp only) <;> (repeat' split) <;> simp

@[simp] theorem State.queueBlock_flash (f : Flight) (num : Nat) (l dseq : W32) (c : BlockScan) (s : State) :
    (State.queueBlock f num l dseq c s).flash = s.flash := by
  unfold State.queueBlock <;> (try dsimp only) <;> (repeat' split) <;> simp

@[simp] theorem State.unloadGrid_flash (n : Nat) (t : Nat × Nat) (s : State) :
    (State.unloadGrid n t s).flash = s.flash := by
  unfold State.unloadGrid <;> (try dsimp only) <;> (repeat' split) <;> simp

@[simp] theorem State.startSummary_flash (s : State) :
    (State.startSummary s).flash = s.flash := by
  unfold State.startSummary <;> (try dsimp only) <;> (repeat' split) <;> simp

@[simp] theorem State.keepSummary_flash (f : State → State) (s : State) (h : ∀ s, (f s).flash = s.flash) :
    (State.keepSummary f s).flash = s.flash := by
  unfold State.keepSummary <;> (try dsimp only) <;> (repeat' split) <;> simp [h]

@[simp] theorem State.summarize_flash (l : W32) (s : State) :
    (State.summarize l s).flash = s.flash := by
  unfold State.summarize <;> (try dsimp only) <;> (repeat' split) <;> simp

@[simp] theorem State.idleTick_flash (s : State) :
    (State.idleTick s).flash = s.flash := by
  unfold State.idleTick <;> (try dsimp only) <;> (repeat' split) <;> simp

@[simp] theorem State.linksOff_flash (s : State) :
    (State.linksOff s).flash = s.flash := by
  unfold State.linksOff <;> (try dsimp only) <;> (repeat' split) <;> simp

@[simp] theorem State.enterUmbra_flash (ms : Nat) (s : State) :
    (State.enterUmbra ms s).flash = s.flash := by
  unfold State.enterUmbra <;> (try dsimp only) <;> (repeat' split) <;> simp

@[simp] theorem State.wake_flash (src : Nat) (s0 : State) :
    (State.wake src s0).flash = s0.flash := by
  unfold State.wake <;> (try dsimp only) <;> (repeat' split) <;> simp

@[simp] theorem State.undoUmbra_flash (us : Nat) (s : State) :
    (State.undoUmbra us s).flash = s.flash := by
  unfold State.undoUmbra <;> (try dsimp only) <;> (repeat' split) <;> simp

@[simp] theorem State.breakStroke_flash (n k : Nat) (s : State) :
    (State.breakStroke n k s).flash = s.flash := by
  unfold State.breakStroke <;> (try dsimp only) <;> (repeat' split) <;> simp

@[simp] theorem State.enterStart_flash (k : Nat) (s : State) :
    (State.enterStart k s).flash = s.flash := by
  unfold State.enterStart <;> (try dsimp only) <;> (repeat' split) <;> simp

@[simp] theorem State.startLayer_flash (l : Layer) (s : State) :
    (State.startLayer l s).flash = s.flash := by
  unfold State.startLayer
  dsimp only
  rw [holdMarks_flash, State.feedAll_flash, State.startSummary_flash, State.settleDescs_flash, State.dropZones_flash]
  refine foldl_flash _ _ ?_ _
  intro s n
  split <;> simp

@[simp] theorem State.eachChannel_flash (f : Nat → State → State) (s : State) (h : ∀ g s, (f g s).flash = s.flash) :
    (State.eachChannel f s).flash = s.flash := by
  unfold State.eachChannel <;> (try dsimp only) <;> (repeat' split) <;> simp [h]

@[simp] theorem State.recordOut_flash (k n : Nat) (s : State) :
    (State.recordOut k n s).flash = s.flash := by
  unfold State.recordOut <;> (try dsimp only) <;> (repeat' split) <;> simp

@[simp] theorem State.countWaits_flash (s : State) :
    (State.countWaits s).flash = s.flash := by
  unfold State.countWaits <;> (try dsimp only) <;> (repeat' split) <;> simp

@[simp] theorem State.repeatXyz_flash (k : Nat) (before : State) (r : SramErr) (s : State) :
    (State.repeatXyz k before r s).flash = s.flash := by
  unfold State.repeatXyz <;> (try dsimp only) <;> (repeat' split) <;> simp

@[simp] theorem State.aonTick_flash (s : State) :
    (State.aonTick s).flash = s.flash := by
  unfold State.aonTick <;> (try dsimp only) <;> (repeat' split) <;> simp

@[simp] theorem State.breach_flash (i limit : Nat) (x : EphTherm) (s : State) :
    (State.breach i limit x s).flash = s.flash := by
  unfold State.breach <;> (try dsimp only) <;> (repeat' split) <;> simp

@[simp] theorem State.limits_flash (i : Nat) (x : EphTherm) (r : Int) (s : State) :
    (State.limits i x r s).flash = s.flash := by
  unfold State.limits <;> (try dsimp only) <;> (repeat' split) <;> simp

@[simp] theorem State.overtemp_flash (s : State) :
    (State.overtemp s).flash = s.flash := by
  unfold State.overtemp <;> (try dsimp only) <;> (repeat' split) <;> simp

@[simp] theorem State.trips_flash (i : Nat) (r : Int) (s : State) :
    (State.trips i r s).flash = s.flash := by
  unfold State.trips <;> (try dsimp only) <;> (repeat' split) <;> simp

@[simp] theorem State.riseOne_flash (i : Nat) (s : State) :
    (State.riseOne i s).flash = s.flash := by
  unfold State.riseOne <;> (try dsimp only) <;> (repeat' split) <;> simp

@[simp] theorem State.modQp_flash (i : Nat) (f : Queue → Queue) (s : State) :
    (State.modQp i f s).flash = s.flash := by
  unfold State.modQp <;> (try dsimp only) <;> (repeat' split) <;> simp

@[simp] theorem State.drainCq_flash (q p n : Nat) (s : State) : (s.drainCq q p n).flash = s.flash := by
  induction n generalizing s with
  | zero => rfl
  | succ n ih =>
    unfold State.drainCq
    split
    · rfl
    · split
      · rfl
      · rw [ih]; simp

@[simp] theorem State.writeCqHead_flash (qn port : Nat) (w : W32) (s : State) :
    (State.writeCqHead qn port w s).flash = s.flash := by
  unfold State.writeCqHead
  simp

@[simp] theorem State.claim_flash (i : Nat) (w : W32) (s : State) :
    (State.claim i w s).flash = s.flash := by
  unfold State.claim <;> (try dsimp only) <;> (repeat' split) <;> simp

@[simp] theorem State.modShadow_flash (f : DispRegs → DispRegs) (s : State) :
    (State.modShadow f s).flash = s.flash := by
  unfold State.modShadow <;> (try dsimp only) <;> (repeat' split) <;> simp

@[simp] theorem State.modCtxShadow_flash (c : Nat) (f : CamCtx → CamCtx) (s : State) :
    (State.modCtxShadow c f s).flash = s.flash := by
  unfold State.modCtxShadow <;> (try dsimp only) <;> (repeat' split) <;> simp

@[simp] theorem State.onBit_flash (w : W32) (i : Nat) (f : State → State) (s : State) (h : ∀ s, (f s).flash = s.flash) :
    (State.onBit w i f s).flash = s.flash := by
  unfold State.onBit <;> (try dsimp only) <;> (repeat' split) <;> simp [h]

@[simp] theorem State.slotCtl_flash (i : Nat) (w : W32) (s : State) :
    (State.slotCtl i w s).flash = s.flash := by
  unfold State.slotCtl <;> (try dsimp only) <;> (repeat' split) <;> simp

@[simp] theorem State.clearArb_flash (s : State) :
    (State.clearArb s).flash = s.flash := by
  unfold State.clearArb <;> (try dsimp only) <;> (repeat' split) <;> simp

@[simp] theorem State.clearCam_flash (s : State) :
    (State.clearCam s).flash = s.flash := by
  unfold State.clearCam <;> (try dsimp only) <;> (repeat' split) <;> simp

@[simp] theorem State.answerWrite_flash (a : RegAccess) (c : Code) (s : State) :
    (State.answerWrite a c s).flash = s.flash := by
  unfold State.answerWrite <;> (try dsimp only) <;> (repeat' split) <;> simp

@[simp] theorem State.answerRead_flash (a : RegAccess) (w : W32) (c : Code) (s : State) :
    (State.answerRead a w c s).flash = s.flash := by
  unfold State.answerRead <;> (try dsimp only) <;> (repeat' split) <;> simp

@[simp] theorem State.refuseAccess_flash (a : RegAccess) (c : Code) (s : State) :
    (State.refuseAccess a c s).flash = s.flash := by
  unfold State.refuseAccess <;> (try dsimp only) <;> (repeat' split) <;> simp

@[simp] theorem State.regStore_flash (s : State) (p i : Nat) (w : W32) (r : Reg) :
    (s.regStore p i w r).flash = s.flash := by
  cases r <;> first
    | rfl
    | (simp only [State.regStore]; (try split) <;> simp [State.onBit, State.keepSummary] <;> split <;> simp)
    | (simp only [State.regStore]; (try split) <;> simp)

@[simp] theorem State.writeReg_flash (a : RegAccess) (s : State) :
    (State.writeReg a s).flash = s.flash := by
  unfold State.writeReg
  (repeat' split) <;> simp

@[simp] theorem State.holdWriter_flash (s : State) :
    (State.holdWriter s).flash = s.flash := by
  unfold State.holdWriter <;> (try dsimp only) <;> (repeat' split) <;> simp

@[simp] theorem State.readAt_flash (s : State) (p a : Nat) :
    ((State.readAt s p a).2).flash = s.flash := by
  unfold State.readAt <;> (try dsimp only) <;> (repeat' split) <;> simp

@[simp] theorem State.readReg_flash (a : RegAccess) (s : State) :
    (State.readReg a s).flash = s.flash := by
  unfold State.readReg <;> (try dsimp only) <;> (repeat' split) <;> simp

@[simp] theorem State.bar2Write_flash (p addr : Nat) (w : W32) (s : State) :
    (State.bar2Write p addr w s).flash = s.flash := by
  unfold State.bar2Write <;> (try dsimp only) <;> (repeat' split) <;> simp

@[simp] theorem State.withFetchWord_flash (s : State) (nbits w : Nat) :
    (State.withFetchWord s nbits w).flash = s.flash := by
  unfold State.withFetchWord <;> (try dsimp only) <;> (repeat' split) <;> simp

end Sys2Proof.Machine
end

