-- ==== Sys2Proof/Laws/FlashOk.lean ====
section
/-!
SUPPORT. The flash keeps its canonical form: one lemma for each operation that writes it, or runs one that does.
-/

set_option linter.all false

namespace Sys2Proof.Machine

@[simp] theorem State.flashWrite_ok (o : Nat) (d : List Byte) (s : State) (h : swf flashErased s.flash = true) :
    swf flashErased (State.flashWrite o d s).flash = true :=
  swf_sbulk o d h
@[simp] theorem State.flashErase_ok (o n : Nat) (s : State) (h : swf flashErased s.flash = true) :
    swf flashErased (State.flashErase o n s).flash = true :=
  swf_serase o n h
theorem foldl_ok {α : Type} (l : List α) (f : State → α → State)
    (h : ∀ s a, swf flashErased s.flash = true → swf flashErased (f s a).flash = true) (s : State)
    (hs : swf flashErased s.flash = true) : swf flashErased (l.foldl f s).flash = true := by
  induction l generalizing s with
  | nil => exact hs
  | cons a r ih => exact ih _ (h s a hs)

theorem ite_ok {c : Prop} [Decidable c] {a b : State} (ha : swf flashErased a.flash = true)
    (hb : swf flashErased b.flash = true) : swf flashErased (if c then a else b).flash = true := by
  split <;> assumption

@[simp] theorem State.writeHeader_ok (f : BootHeader → BootHeader) (s : State) (hs : swf flashErased s.flash = true) :
    swf flashErased (State.writeHeader f s).flash = true := by
  unfold State.writeHeader <;> (try dsimp only) <;> (repeat' split) <;> simp [hs]

@[simp] theorem State.flushHeader_ok (s : State) (hs : swf flashErased s.flash = true) :
    swf flashErased (State.flushHeader s).flash = true := by
  unfold State.flushHeader <;> (try dsimp only) <;> (repeat' split) <;> simp [hs]

@[simp] theorem State.noteAdoption_ok (e : Eph) (s : State) (hs : swf flashErased s.flash = true) :
    swf flashErased (State.noteAdoption e s).flash = true := by
  unfold State.noteAdoption <;> (try dsimp only) <;> (repeat' split) <;> simp [hs]

@[simp] theorem State.adopt_ok (k : AdoptKind) (e : Eph) (container : List Byte) (s : State) (hs : swf flashErased s.flash = true) :
    swf flashErased (State.adopt k e container s).flash = true := by
  unfold State.adopt <;> (try dsimp only) <;> (repeat' split) <;> simp [hs]

@[simp] theorem State.adoptStaged_ok (e : Eph) (s : State) (hs : swf flashErased s.flash = true) :
    swf flashErased (State.adoptStaged e s).flash = true := by
  unfold State.adoptStaged <;> (try dsimp only) <;> (repeat' split) <;> simp [hs]

@[simp] theorem State.adoptPending_ok (s : State) (hs : swf flashErased s.flash = true) :
    swf flashErased (State.adoptPending s).flash = true := by
  unfold State.adoptPending <;> (try dsimp only) <;> (repeat' split) <;> simp [hs]

@[simp] theorem State.decideCommit_ok (f : Flight) (e : Eph) (s : State) (hs : swf flashErased s.flash = true) :
    swf flashErased (State.decideCommit f e s).flash = true := by
  unfold State.decideCommit <;> (try dsimp only) <;> (repeat' split) <;> simp [hs]

theorem State.checked_ok (f : Flight) (cs : List (Bool × Bad)) (k : State → State) (s : State)
    (h : ∀ s, swf flashErased s.flash = true → swf flashErased (k s).flash = true)
    (hs : swf flashErased s.flash = true) : swf flashErased (s.checked f cs k).flash = true := by
  unfold State.checked
  split
  · simp [hs]
  · exact h s hs

theorem State.judge_ok (f : Flight) (e : Entry) (k : Flight → State → State) (s : State)
    (h : ∀ g s, swf flashErased s.flash = true → swf flashErased (k g s).flash = true)
    (hs : swf flashErased s.flash = true) : swf flashErased (s.judge f e k).flash = true := by
  unfold State.judge
  split
  · simp [hs]
  · dsimp only
    split
    · simp [hs]
    · split
      · simp [hs]
      · exact h f s hs

/-- A command whose own part keeps the flash in its canonical form does so as a whole. -/
theorem State.submit_ok (op : W16) (e : Entry) (k : Flight → State → State) (s : State)
    (h : ∀ g s, swf flashErased s.flash = true → swf flashErased (k g s).flash = true)
    (hs : swf flashErased s.flash = true) : swf flashErased (s.submit op e k).flash = true := by
  unfold State.submit
  (repeat' split) <;> (try dsimp only) <;> (repeat' split) <;>
    first | (refine State.judge_ok _ _ _ _ h ?_; simp [hs]) | simp [hs]

@[simp] theorem State.ephCommit_ok (f : Flight) (e : Entry) (s : State) (hs : swf flashErased s.flash = true) :
    swf flashErased (State.ephCommit f e s).flash = true := by
  unfold State.ephCommit
  refine State.checked_ok _ _ _ _ ?_ hs
  intro s hs
  split <;> simp [hs]

@[simp] theorem State.ephRun_ok (f : Flight) (e : Entry) (s : State) (hs : swf flashErased s.flash = true) :
    swf flashErased (State.ephRun f e s).flash = true := by
  unfold State.ephRun <;> (try dsimp only) <;> (repeat' split) <;> simp [hs]

@[simp] theorem State.ephGate_ok (f : Flight) (e : Entry) (s : State) (hs : swf flashErased s.flash = true) :
    swf flashErased (State.ephGate f e s).flash = true := by
  unfold State.ephGate <;> (try dsimp only) <;> (repeat' split) <;> simp [hs]

@[simp] theorem State.tailMark_ok (s : State) (hs : swf flashErased s.flash = true) :
    swf flashErased (State.tailMark s).flash = true := by
  unfold State.tailMark <;> (try dsimp only) <;> (repeat' split) <;> simp [hs]

@[simp] theorem State.tailBegin_ok (r : TailRec) (s : State) (hs : swf flashErased s.flash = true) :
    swf flashErased (State.tailBegin r s).flash = true := by
  unfold State.tailBegin <;> (try dsimp only) <;> (repeat' split) <;> simp [hs]

@[simp] theorem State.bootEph_ok (s : State) (hs : swf flashErased s.flash = true) :
    swf flashErased (State.bootEph s).flash = true := by
  unfold State.bootEph <;> (try dsimp only) <;> (repeat' split) <;> simp [hs]

@[simp] theorem State.readopt_ok (s : State) (hs : swf flashErased s.flash = true) :
    swf flashErased (State.readopt s).flash = true := by
  unfold State.readopt
  dsimp only
  have h : swf flashErased ((s.meetsPoison (· == 0)).1.elim s fun l =>
      (s.meetsPoison (· == 0)).2.dramError l).flash = true := by
    cases (s.meetsPoison (· == 0)).1 <;> simp [hs]
  (repeat' split) <;> simp [hs, h]

@[simp] theorem State.coreBack_ok (s : State) (hs : swf flashErased s.flash = true) :
    swf flashErased (State.coreBack s).flash = true := by
  unfold State.coreBack <;> (try dsimp only) <;> (repeat' split) <;> simp [hs]

@[simp] theorem State.coreBoot_ok (env : BootEnv) (verdict : Bool) (s : State) (hs : swf flashErased s.flash = true) :
    swf flashErased (State.coreBoot env verdict s).flash = true := by
  unfold State.coreBoot <;> (try dsimp only) <;> (repeat' split) <;> simp [hs]

@[simp] theorem State.bankBoot_ok (env : BootEnv) (b fallback : Bool) (s : State) (hs : swf flashErased s.flash = true) :
    swf flashErased (State.bankBoot env b fallback s).flash = true := by
  unfold State.bankBoot <;> (try dsimp only) <;> (repeat' split) <;> simp [hs]

@[simp] theorem State.bootFrom2_ok (env : BootEnv) (s : State) (hs : swf flashErased s.flash = true) :
    swf flashErased (State.bootFrom2 env s).flash = true := by
  unfold State.bootFrom2 <;> (try dsimp only) <;> (repeat' split) <;> simp [hs]

@[simp] theorem State.bootFrom1_ok (env : BootEnv) (s : State) (hs : swf flashErased s.flash = true) :
    swf flashErased (State.bootFrom1 env s).flash = true := by
  unfold State.bootFrom1 <;> (try dsimp only) <;> (repeat' split) <;> simp [hs]

@[simp] theorem State.bootIfFree_ok (env : BootEnv) (s : State) (hs : swf flashErased s.flash = true) :
    swf flashErased (State.bootIfFree env s).flash = true := by
  unfold State.bootIfFree <;> (try dsimp only) <;> (repeat' split) <;> simp [hs]

@[simp] theorem State.clearTrial_ok (s : State) (hs : swf flashErased s.flash = true) :
    swf flashErased (State.clearTrial s).flash = true := by
  unfold State.clearTrial <;> (try dsimp only) <;> (repeat' split) <;> simp [hs]

@[simp] theorem State.revert_ok (check : Nat) (s : State) (hs : swf flashErased s.flash = true) :
    swf flashErased (State.revert check s).flash = true := by
  unfold State.revert
  split
  · exact hs
  split
  · exact hs
  rename_i a _ _
  dsimp only
  have h := State.clearTrial_ok
    { ((s.extend 1 (a.old.images.getD 0 0)).extend 2 (a.old.images.getD 1 0)).extend 6 a.old.manifest with
      boot := { (((s.extend 1 (a.old.images.getD 0 0)).extend 2 (a.old.images.getD 1 0)).extend 6 a.old.manifest).boot with
        activation := none, updResult := 2, updState := 7, windowFor := none
        ctlBank := (((s.extend 1 (a.old.images.getD 0 0)).extend 2 (a.old.images.getD 1 0)).extend 6 a.old.manifest).boot.confirmed }
      planes := { (((s.extend 1 (a.old.images.getD 0 0)).extend 2 (a.old.images.getD 1 0)).extend 6 a.old.manifest).planes with
        mgmt := .restarting } } (by simp [hs])
  revert h
  generalize State.clearTrial _ = u
  intro h
  cases a.flight <;> simp only [Option.elim_none, Option.elim_some, State.finishId_flash, ite_flash,
    State.revertData_flash, State.beginTransit_flash, State.event_flash, State.record_flash, ite_self, h]

@[simp] theorem State.healthFail_ok (check : Nat) (s : State) (hs : swf flashErased s.flash = true) :
    swf flashErased (State.healthFail check s).flash = true := by
  unfold State.healthFail <;> (try dsimp only) <;> (repeat' split) <;> simp [hs]

@[simp] theorem State.confirmUpdate_ok (s : State) (hs : swf flashErased s.flash = true) :
    swf flashErased (State.confirmUpdate s).flash = true := by
  unfold State.confirmUpdate <;> (try dsimp only) <;> (repeat' split) <;> simp [hs]

@[simp] theorem State.nvWork_ok (s : State) (hs : swf flashErased s.flash = true) :
    swf flashErased (State.nvWork s).flash = true := by
  unfold State.nvWork
  dsimp only
  refine ite_ok hs ?_
  have h1 := State.flushHeader_ok s hs
  have h2 : swf flashErased
      (if s.flushHeader.boot.trialWaits then s.flushHeader.clearTrial else s.flushHeader).flash = true :=
    ite_ok (State.clearTrial_ok _ h1) h1
  exact ite_ok (State.confirmUpdate_ok _ h2) h2

@[simp] theorem State.activate_ok (c : UpdCheck) (b : Bool) (d : BankDigests) (s : State) (hs : swf flashErased s.flash = true) :
    swf flashErased (State.activate c b d s).flash = true := by
  unfold State.activate <;> (try dsimp only) <;> (repeat' split) <;> simp [hs]

@[simp] theorem State.ctlFault_ok (cause : Nat) (recordOk : Bool) (s : State) (hs : swf flashErased s.flash = true) :
    swf flashErased (State.ctlFault cause recordOk s).flash = true := by
  unfold State.ctlFault <;> (try dsimp only) <;> (repeat' split) <;> simp [hs]

@[simp] theorem State.coreRestart_ok (env : BootEnv) (s : State) (hs : swf flashErased s.flash = true) :
    swf flashErased (State.coreRestart env s).flash = true := by
  unfold State.coreRestart <;> (try dsimp only) <;> (repeat' split) <;> simp [hs]

@[simp] theorem State.controlBack_ok (s : State) (hs : swf flashErased s.flash = true) :
    swf flashErased (State.controlBack s).flash = true := by
  unfold State.controlBack
  dsimp only
  cases (s.meetsPoison (· == 1)).1 <;> simp [hs]

@[simp] theorem State.ephResume_ok (l : List (Flight × Entry)) (s : State) (hs : swf flashErased s.flash = true) :
    swf flashErased (State.ephResume l s).flash = true := by
  induction l generalizing s with
  | nil => exact hs
  | cons a r ih =>
    obtain ⟨f, e⟩ := a
    unfold State.ephResume
    split
    · exact hs
    · exact ih _ (State.ephRun_ok _ _ _ hs)

@[simp] theorem State.sramEffect_ok (r : SramErr) (s : State) (hs : swf flashErased s.flash = true) :
    swf flashErased (State.sramEffect r s).flash = true := by
  unfold State.sramEffect <;> (try dsimp only) <;> (repeat' split) <;> simp [hs]

@[simp] theorem State.sramErr_ok (r : SramErr) (s : State) (hs : swf flashErased s.flash = true) :
    swf flashErased (State.sramErr r s).flash = true := by
  unfold State.sramErr <;> (try dsimp only) <;> (repeat' split) <;> simp [hs]

@[simp] theorem State.commitsStep_ok (s : State) (hs : swf flashErased s.flash = true) :
    swf flashErased (State.commitsStep s).flash = true := by
  unfold State.commitsStep <;> (try dsimp only) <;> (repeat' split) <;> simp [hs]

@[simp] theorem State.buildOver_ok (s : State) (hs : swf flashErased s.flash = true) :
    swf flashErased (State.buildOver s).flash = true := by
  unfold State.buildOver <;> (try dsimp only) <;> (repeat' split) <;> simp [hs]

@[simp] theorem State.endIfParked_ok (s : State) (hs : swf flashErased s.flash = true) :
    swf flashErased (State.endIfParked s).flash = true := by
  unfold State.endIfParked <;> (try dsimp only) <;> (repeat' split) <;> simp [hs]

@[simp] theorem State.enterCommits_ok (k : Nat) (s : State) (hs : swf flashErased s.flash = true) :
    swf flashErased (State.enterCommits k s).flash = true := by
  unfold State.enterCommits <;> (try dsimp only) <;> (repeat' split) <;> simp [hs]

@[simp] theorem State.enterTransition_ok (k : Nat) (s : State) (hs : swf flashErased s.flash = true) :
    swf flashErased (State.enterTransition k s).flash = true := by
  unfold State.enterTransition <;> (try dsimp only) <;> (repeat' split) <;> simp [hs]

@[simp] theorem State.enterImage_ok (k : Nat) (s : State) (hs : swf flashErased s.flash = true) :
    swf flashErased (State.enterImage k s).flash = true := by
  unfold State.enterImage <;> (try dsimp only) <;> (repeat' split) <;> simp [hs]

@[simp] theorem State.enterRecoat_ok (k : Nat) (l : Layer) (s : State) (hs : swf flashErased s.flash = true) :
    swf flashErased (State.enterRecoat k l s).flash = true := by
  unfold State.enterRecoat <;> (try dsimp only) <;> (repeat' split) <;> simp [hs]

@[simp] theorem State.syzygyGo_ok (k : Nat) (s : State) (hs : swf flashErased s.flash = true) :
    swf flashErased (State.syzygyGo k s).flash = true := by
  unfold State.syzygyGo <;> (try dsimp only) <;> (repeat' split) <;> simp [hs]

@[simp] theorem State.openLayer_ok (f : Nat) (l : Layer) (s : State) (hs : swf flashErased s.flash = true) :
    swf flashErased (State.openLayer f l s).flash = true := by
  unfold State.openLayer <;> (try dsimp only) <;> (repeat' split) <;> simp [hs]

@[simp] theorem State.tryOpen_ok (s : State) (hs : swf flashErased s.flash = true) :
    swf flashErased (State.tryOpen s).flash = true := by
  unfold State.tryOpen <;> (try dsimp only) <;> (repeat' split) <;> simp [hs]

@[simp] theorem State.dataSample_ok (k : Nat) (errs : List SramErr) (s : State) (hs : swf flashErased s.flash = true) :
    swf flashErased (State.dataSample k errs s).flash = true := by
  unfold State.dataSample
  dsimp only
  refine foldl_ok _ _ (fun s a hs => State.sramErr_ok _ _ hs) _ ?_
  rw [State.eachChannel_flash _ _ fun n s => by simp]
  simp only [State.arbitrate_flash, State.feedAll_flash, State.settleDescs_flash, State.refusePools_flash,
    State.diffuseSome_flash, State.noteStarving_flash, State.countWaits_flash]
  rw [State.eachChannel_flash _ _ fun n s => by simp]
  rw [State.breaches_flash]
  have hr : ∀ (l : List SramErr) (b t : State), (l.foldl (fun s r => State.repeatXyz k b r s) t).flash = t.flash := by
    intro l b t
    refine foldl_flash _ _ ?_ _
    intro s r
    simp
  rw [hr, State.eachChannel_flash _ _ fun n s => by simp, State.eachChannel_flash _ _ fun n s => by simp]
  refine foldl_ok _ _ (fun s a hs => State.sramErr_ok _ _ hs) _ ?_
  rw [State.settleDescs_flash, State.eachChannel_flash _ _ fun n s => by simp]
  exact hs

@[simp] theorem State.convert_ok (i : Nat) (reading : Option Int) (s : State) (hs : swf flashErased s.flash = true) :
    swf flashErased (State.convert i reading s).flash = true := by
  unfold State.convert <;> (try dsimp only) <;> (repeat' split) <;> simp [hs]

end Sys2Proof.Machine
end

