-- ==== Sys2Proof/Machine/Pins.lean ====
section
/-!
DEFINITION. The levels of the device's output pins in every power state (R506, R517, R523, R536).
-/

namespace Sys2Proof.Machine

/-- What an output does: `idle` is an idle link or electrical idle, `live` a signal that its unit drives. -/
inductive PinLevel
  | undriven | low | high | idle | live
  deriving DecidableEq, Repr

/-- The outputs of R523, with the number that a name carries. -/
inductive Pin
  | mlTx (n : Nat) | laserGate (n : Nat) | hostTx (b : Bool) | wake (b : Bool) | clkreq (b : Bool) | mgmtTx | orbTx (p : Nat)
  | orbBypHold | camTrig (i : Nat) | camI2c (bus : Nat) | dispTx | dispVddEn | dispBlEn | dramCs (c : Nat)
  | dramReset | xspiCs | xspiReset | axStep (a : Nat) | axDir (a : Nat) | axEn (a : Nat) | axSsiClk (a : Nat)
  | thmHtr (h : Nat) | halo (c : Nat) | eclipseOut | bkPwm (buck : Nat) | pwrDramEn
  deriving DecidableEq, Repr

/-- The columns of R517 and R523: without VIN_12V, held in reset, in Nadir mode, with the core die down after a fault,
in UMBRA_PHASE 2, and running. -/
inductive PowerCase
  | unpowered | reset | nadir | coreDown | umbra | running
  deriving DecidableEq, Repr

def State.powerCase (s : State) : PowerCase :=
  if !s.power.vin then .unpowered
  else if s.power.pinReset || s.power.hotReset then .reset
  else if s.planes.mgmt == .nadir then .nadir
  else if s.power.core then .running
  else if s.power.umbra == .awake then (if s.power.faultOff then .coreDown else .reset)
  else .umbra

/-- A pin that is high, or low. -/
def levelOf (b : Bool) : PinLevel := if b then .high else .low

/-- The level of LASER_GATE of channel `n`. -/
def State.laserGate (s : State) (n : Nat) : PinLevel :=
  match s.powerCase with
  | .nadir => .low
  | .running => levelOf (s.engine n).pin
  | _ => .undriven

/-- A core-die output: at `off` while the core die does not run. -/
def State.coreOut (s : State) (off on : PinLevel) : PinLevel :=
  match s.powerCase with
  | .unpowered => .undriven
  | .running => on
  | _ => off

/-- Link `n` sends blocks: it is neither off nor waiting. -/
def State.linkSends (s : State) (n : Nat) : Bool := (s.link n).state != .off && (s.link n).state != .backoff

/-- An output of the device. -/
def State.pinOut (s : State) (p : Pin) : PinLevel :=
  let c := s.powerCase
  match p with
  | .mlTx n => s.coreOut .idle (if s.linkSends n then .live else .idle)
  | .laserGate n => s.laserGate n
  | .hostTx b => s.coreOut .idle (if (s.port (b1 b)).linkUp then .live else .idle)
  | .wake b => if nth false s.power.wakeL (b1 b) then .low else .undriven
  | .clkreq _ => .undriven
  | .mgmtTx => if c = .unpowered then .undriven else if c = .reset then .idle else .live
  | .orbTx p => s.coreOut .idle (if (s.ringPort p).blockLock then .live else .idle)
  | .orbBypHold => if s.time.bypHold then .high else .undriven
  | .camTrig i => s.coreOut .low (levelOf (s.trigPin i))
  | .camI2c _ => if c = .running then .live else .undriven
  | .dispTx => s.coreOut .idle (if s.disp.link = .training ∨ s.disp.link = .active then .live else .idle)
  | .dispVddEn => s.coreOut .low (levelOf s.disp.vdd)
  | .dispBlEn => s.coreOut .low (levelOf s.disp.backlight)
  | .dramCs _ => s.coreOut .low .live
  | .dramReset =>
    match c with
    | .unpowered => .undriven
    | .reset => .low
    | _ => .high
  | .xspiCs => if c = .unpowered then .undriven else if c = .reset then .high else .live
  | .xspiReset => if c = .unpowered then .undriven else levelOf (c != .reset)
  | .axStep _ => s.coreOut .low .live
  | .axDir _ => s.coreOut .low .live
  | .axEn a => s.coreOut .low (levelOf ((s.axis a).mode != .disabled))
  | .axSsiClk _ => s.coreOut .high .live
  | .thmHtr h => if c = .unpowered then .undriven else if s.heaterDuty h = 0 then .low else .live
  | .halo n =>
    match c with
    | .unpowered => .undriven
    | .reset => .undriven
    | .nadir => .undriven
    | _ => if s.sinkOn n (10 * s.ix) then .live else .undriven
  | .eclipseOut => if s.eclipseOut then .undriven else .low
  | .bkPwm b =>
    match c with
    | .unpowered => .undriven
    | .reset => .undriven
    | .running => .live
    | _ => if b = 3 then .live else .undriven
  | .pwrDramEn => if c = .unpowered then .undriven else levelOf (c != .reset)

end Sys2Proof.Machine
end

