-- ==== Sys2Proof/Tests/Slice0.lean ====
section
/-!
SUPPORT. Tests of the model, on states built here: refusals of ill-formed commands, single steps with the
results that the spec gives, and for every statement one theorem that shows concrete states and operands that
meet its hypotheses, clause by clause. The state `up` is a block with one of each part declared.
-/

namespace Sys2Proof.Tests

set_option Elab.async false

open Sys2Proof.Machine

/-! ## A small machine -/

/-- Head 0 on Moonlink 0, parked at its origin. -/
def head0 : EphHead := {
  head := 0, moonlink := 0, forceDetect := false, farLoop := true, vendor := 1, model := 1, minFw := 1, roiSize := 16
  roiKfps := 1, caps := 0, mountX := 0, mountY := 0, mountZ := 0, yaw := 0, pitch := 0, roll := 0, gridX0 := 0
  gridY0 := 0, gridPitch := 4000, gridCrc := 0, parkX := 0, parkY := 0
  polygon := [(0, 0), (400000, 0), (400000, 400000), (0, 400000)] }

/-- Axis 0: a motion axis with both encoder inputs. -/
def axis0 : EphAxis := {
  axis := 0, role := 3, stepIn := true, quad := true, ssi := false, homePositive := false, limPosLow := false
  limNegLow := false, homeLow := false, ustepPerMm := 1000, vMax := 100000, aMax := 1000000, jMax := 10000000
  softMin := -1000, softMax := 100000, debounce := 1, ssiBits := 16, ssiClk := 0, encPerUstep := 65536, devWindow := 10
  aStop := 1000000 }

/-- Sensor 0 on port 0, virtual channel 0: RAW10, 64 × 64 pixels. -/
def sensor0 : EphSensor := {
  sensor := 0, port := 0, vc := 0, dataType := 0x2B, width := 64, height := 64, lanes := 2, laneRate := 15, context := 0
  mode := 1, stripe := 64, latencyK := 1, cfa := 0, cciAddr := 16, cciBus := 0, fpsMax := 100, strobeMask := 1
  embLines := 1 }

def halo0 : EphHalo := {
  globalRef := 100, pwmBits := 12, stretchInt := 100, stretchOn := true, neighbourTest := true, vled := 240
  channels := List.replicate 24 { enable := true, current := 100, vf := 3000, dutyMax := 4000 } }

def therm0 : EphTherm := {
  kind := 1, ideality := 0, eclipseAll := true, riseWin := 1, high := 5000, low := -1000, riseMax := 100, eclipseMask := 1
  beta := 0 }

def ring0 : EphRing := {
  mode := 1, portA := true, portB := true, bypass := true, mac := 0x020000000001, vlan := 0, domainA := 0, domainB := 1
  preferred := 0, logSync := -3, epochS := 0, epochNs := 0, holdover := 1000, switchNs := 100 }

def display0 : EphDisplay := {
  enable := true, lanes := 2, link := 1, format := 0, width := 640, height := 480, hblank := 160, vblank := 20
  syncHz := 60, staticDiv := 1, background := 0 }

def peri0 : EphPeri := {
  enable := true, pitch := 400, x0 := 0, y0 := 0, alpha := 100, decay := 1, under := 100, biasComp := 0, gain := 256
  curves := [] }

def route0 : EphRoute := {
  srcType := 7, srcIndex := 0, srcField := 0, signed := false, holdLast := true, sinkType := 1, sinkIndex := 0
  sinkInput := 0, scale := 65536, offset := 0 }

def loop0 : EphLoop := {
  slot := 0, kind := 1, target := 0, startAuto := false, period := 4, defaultSet := 1, feTimer := 1, feLimit := 65536 }

def loop1 : EphLoop := { loop0 with slot := 1, kind := 2, period := 80 }

def set1 : CoefSet := { kp := 65536, outMax := 65536 }

/-- An ephemeris with one of each part. -/
def eph : Eph := {
  sequence := 1, signed := false, digest := 0, signerDigest := 0
  machine := { machineId := 1, bedXMin := 0, bedXMax := 400000, bedYMin := 0, bedYMax := 400000, gasX := 1, gasY := 0
               headCount := 1, laserCount := 1 }
  heads := [head0]
  lasers := [{ laser := 0, head := 0, gateInvert := false, ratedMw := 100000, powerCeil := 60000, powerFloor := 0
               wavelength := 1070, gateSkew := 0, slew := 100 }]
  zones := [{ headMask := 1, seamsAllowed := true, polygon := head0.polygon }]
  classes := [], routes := [route0, { route0 with sinkIndex := 1 }]
  loops := [loop0, loop1], sets := [(1, set1)]
  axes := [axis0, { axis0 with axis := 1, role := 1 }, { axis0 with axis := 2, role := 2 }], sensors := [sensor0], halo := some halo0
  thermal := { nvSensor := 0, nvLow := -1000, nvHigh := 8000, heaters := []
               sensors := List.replicate 16 therm0 ++ List.replicate 6 { therm0 with kind := 4 } }
  ring := ring0
  hosts := [{ port := 0, roles := 15, qFirst := 0, qCount := 16, msixFirst := 0, msixCount := 64 }, {}, {}, {}, {}, {}, {},
    { port := 2, roles := 15 }]
  dram := { capacity := 4, rate := 1, nrK := 8, fsp := true, scrubH := 24, vendor := 1, pasr := 0 }
  display := some display0, cal := some { cleis := false, deltaT := 5, subjects := 0x1F }, peri := some peri0 }

/-- Atlas entry 0. -/
def atlas0 : AtlasEntry := { valid := true, power := 30000, markSpeed := 4000000, jumpSpeed := 8000000 }

def sender : Sender := { ip := 0x0A000001, udp := 4242 }

/-- A session of `sender` whose highest SEQ is 4, with one stored reply. -/
def session : Session := { sender := sender, highest := some 4, replies := [(4, some (.code 0))] }

def hdr (seq : W32) : FrameHdr := { sender := sender, slot := 7, seq := seq }

/-- The block at work with `eph` in force and DATA_STATE 1: slot 0 holds every role, slot 7
holds KEEPER in a session, and queue 0 has an entry to take. -/
def up : State := { State.reset with
  host := { State.reset.host with
    ports := upd (upd State.reset.host.ports 0 fun p => { p with linkUp := true }) 1 fun p => { p with linkUp := true }
    slots := { cfg := { port := 0, roles := 15, qFirst := 0, qCount := 16, msixFirst := 0, msixCount := 64 }, held := 15 } ::
      List.replicate 6 { cfg := {} } ++ [{ cfg := { port := 2, roles := 15 }, held := 8, session := some session }]
    queues := [(0, { enable := true, sqTail := 1 })] }
  eph := { State.reset.eph with eph := some eph, routeVals := List.replicate 2 { y := 65536, valid := true } }
  tide := { loops := [{ entry := loop0 }, { entry := loop1, setSel := 1 }], sets := [(1, set1)] }
  links := upd State.reset.links 0 fun l =>
    { l with state := .active, headReady := true, frameLock := true, blockLock := true }
  job := { pools := [{ num := 0 }, { num := 0x100 }], atlas := [(0, atlas0)] }
  time := { State.reset.time with
    clock := 250 * 2 ^ 48 * 400000, ix := 400000, ports := Vector.replicate 2 { blockLock := true } }
  mem := { trained := true, fspOn := true, grids := [(0, { bytes := #[], crc := 0 })] }
  power := { State.reset.power with vin := true, core := true, nvOpen := true, pg := 0x7F }
  planes := { pair := some false, standby := .ready, data := .idle, ctl := .running, mgmt := .running } }

/-- An entry on queue 0 with PARAMS zero but for fields (offset, bytes, value). -/
def entry (op : W16) (fields : List (Nat × Nat × Nat)) (data : List Byte := []) (bufLen : W32 := 0) : Entry := {
  origin := .queue 0, opcode := op, bufLen := bufLen, data := data
  params := fields.foldl (fun p f => p.take (f.1 - 0x18) ++ leBytes f.2.1 f.2.2 ++ p.drop (f.1 - 0x18 + f.2.1))
    (List.replicate 40 0) }

/-- The same entry in a frame of slot 7's session. -/
def framed (e : Entry) : Entry := { e with origin := .frame (hdr 5) }

/-- The command that the dispatcher makes of an entry, and the state in which its checks run. -/
def taken (s : State) (e : Entry) : Flight × State :=
  match e.origin with
  | .queue q => (s.takeEntry q).newFlight ((s.queueSlot? q).getD 0) e
  | .frame h => (s.takeCommand h).2.newFlight h.slot e

/-- The dispatcher takes the entry. -/
def takable (s : State) (e : Entry) : Bool :=
  match e.origin with
  | .queue q => match s.queueSlot? q with
    | some i => s.mayTake i q e && e.dmaOk
    | none => false
  | .frame h => s.answersFrames && s.dispatches && s.sessionTurn h.slot && (s.takeCommand h).1 && e.bufAddr == 0

/-- The dispatcher takes the entry, and its command's own checks run. -/
def takes (op : W16) (s : State) (e : Entry) : Bool :=
  let r := taken s e
  e.opcode == op && e.bad.isNone && (r.2.roleBad r.1.slot op.toNat).isNone &&
  (!r.2.companionMode || e.inline && companionOpcodes.contains op.toNat) && takable s e

theorem taken_of {s : State} {e : Entry} (h : takable s e = true) : Taken e s (taken s e).1 (taken s e).2 := by
  unfold takable at h
  unfold Taken taken
  split <;> simp_all only [Bool.and_eq_true, beq_iff_eq]
  · split at h
    · next i hq => simp_all
    · cases h
  · simp_all

theorem dispatched {op : W16} {s : State} {e : Entry} (h : takes op s e = true) :
    Dispatched op e s (taken s e).1 (taken s e).2 := by
  simp only [takes, Bool.and_eq_true, beq_iff_eq, Option.isNone_iff_eq_none] at h
  obtain ⟨⟨⟨⟨h1, h2⟩, h3⟩, h4⟩, h5⟩ := h
  exact ⟨h1, h2, h3, fun hc => by simpa [hc] using h4, taken_of h5⟩

/-! ## Register accesses -/

/-- The offset of a register. -/
def at_ (r : Reg) (i : Nat := 0) : Nat := (regMap.find? fun p => p.reg == r).elim 0 fun p => p.base + p.stride * i

/-- A write over PCIe A. -/
def write (r : Reg) (w : W32) (i : Nat := 0) : RegAccess := { origin := .pcie false, addr := at_ r i, value := w }

/-- A PCIe write is accepted. -/
theorem accepted {a : RegAccess} {s : State} {b : Bool} {r : Reg} {i : Nat} (ho : a.origin = .pcie b)
    (h : decide (a.addr < 2 ^ 20) && (s.port (b1 b)).linkUp &&
      decide ((s.wakePort (b1 b)).judgeWrite a.origin.port a = .ok (r, i)) = true) :
    Accepted a s (s.wakePort (b1 b)) r i := by
  simp only [Bool.and_eq_true, decide_eq_true_eq] at h
  refine ⟨?_, h.2⟩
  simp only [Reaches, ho]
  exact ⟨h.1.1, h.1.2, trivial⟩

/-- The registers of the rows that write one register, each with a value that `up` accepts. -/
def writes : List (Reg × W32) :=
  [(.hostDbSqTail, 15), (.hostDbCqHead, 0), (.hostQpCtrl, 0x100), (.hostRoleClaim, 0xF), (.hostRoleRelease, 0xF),
   (.hostSlotCtl, 1), (.arbLogPop, 1), (.arbCntCtl, 1), (.seCntCtl, 1), (.periCntCtl, 1), (.tideLoopCtl, 1),
   (.tideLoopStatus, 1), (.tideCntCtl, 1), (.mpCntCtl, 1), (.mlCtl, 1), (.mlCntCtl, 1), (.axState, 0x800000),
   (.axCntCtl, 1), (.camSCommit, 1), (.camCCommit, 1), (.camSState, 1), (.camCntCtl, 1), (.camSCntCtl, 1),
   (.haloChLevel, 1), (.haloChStatus, 1), (.haloCntCtl, 1), (.orbCtl, 1), (.orbPpCtl, 1), (.orbPpCntCtl, 1),
   (.ptpCntCtl, 1), (.dramScrub, 1), (.dramCntCtl, 1), (.sramCntCtl, 1), (.crcCntCtl, 1), (.dispCommit, 1),
   (.aperture, 0), (.dispCntCtl, 1), (.pwrCntCtl, 1), (.thmSStatus, 1), (.thmCntCtl, 1), (.calCntCtl, 1),
   (.tailCtl, 1), (.tailCursor, 8191), (.tailCntCtl, 1), (.eclipseEnter, 1), (.eclipseLeave, 0), (.eclipseCtl, 1)]

theorem test_every_written_register_takes_a_write : ∀ w ∈ writes,
    up.judgeWrite 0 (write w.1 w.2) = .ok (w.1, 0) := by decide +kernel

/-- AcceptedWritesTakeEffect: QP_ENABLE and REGISTER_WRITE. -/
theorem meets_AcceptedWritesTakeEffect :
    writeRow? (.qpEnable (write .hostQpCtrl 0x100)) = some (write .hostQpCtrl 0x100, .hostQpCtrl) ∧
    Accepted (write .hostQpCtrl 0x100) up (up.wakePort 0) .hostQpCtrl 0 ∧
    Accepted (write .tailCursor 8191) up (up.wakePort 0) .tailCursor 0 :=
  ⟨rfl, accepted (b := false) rfl (by decide +kernel), accepted (b := false) rfl (by decide +kernel)⟩

/-- A channel that may leave Eclipse. -/
def dark : State := { up with
  eclipse := { up.eclipse with ch := upd up.eclipse.ch 0 fun c => { c with inEclipse := true, causes := 1 } }
  engines := upd up.engines 0 fun e => { e with parked := true } }

theorem test_a_parked_channel_may_leave_eclipse :
    dark.judgeWrite 0 (write .eclipseLeave 1) = .ok (.eclipseLeave, 0) := by decide +kernel

theorem test_every_refusal_of_a_write_has_its_code :
    -- width, a foreign slot page, an unlisted offset, an RO register, a role, a reserved bit, a field
    up.judgeWrite 0 { write .hostSlotCtl 1 with width := 8 } = .error 0x0201 ∧
    up.judgeWrite 0 { write .hostSlotCtl 1 with addr := at_ .hostSlotCtl + 2 } = .error 0x0201 ∧
    up.judgeWrite 0 (write .hostSlotCtl 1 7) = .error 0x0304 ∧
    up.judgeWrite 0 { write .devId 0 with addr := 0xFFFFC } = .error 0x0203 ∧
    up.judgeWrite 0 (write .devId 0) = .error 0x0301 ∧
    up.judgeWrite 1 (write .axCfg 0xA0F) = .error 0x0302 ∧
    up.judgeWrite 0 (write .hostSlotCtl 4) = .error 0x0202 ∧
    up.judgeWrite 0 (write .hostQpSelect 16) = .error 0x0208 := by decide +kernel

/-- The core die unpowered. -/
def coreOff : State := { up with power := { up.power with core := false } }

theorem test_the_core_die_registers_need_its_power :
    coreOff.judgeWrite 0 (write .axCfg 0xA0F) = .error 0x0508 ∧ coreOff.reach 0 (at_ .axCfg) = .error 0x0508 ∧
    coreOff.judgeWrite 0 (write .tailCursor 1) = .ok (.tailCursor, 0) := by decide +kernel

/-- WriteChecksComeInOrder: each step's premises, the earlier steps passed. -/
theorem meets_WriteChecksComeInOrder :
    (write .hostSlotCtl 1).narrow = false ∧ up.unbound 0 (at_ .hostSlotCtl 7) = true ∧
    up.unbound 0 0xFFFFC = false ∧ regAt 0xFFFFC = none ∧
    (∃ x i, up.unbound 0 (at_ .axCfg) = false ∧ regAt (at_ .axCfg) = some (x, i) ∧ coreOff.power.core = false ∧
      coreOff.onCompanion (x, i) = false ∧ x.reserved ≠ none ∧ up.groupBad 1 x.group = some 0x0302 ∧
      up.groupBad 0 x.group = none ∧ up.regBad i 0 x.reg = some 0x0204 ∧ up.regBad i 0xA0F x.reg = none) ∧
    (∃ x i, regAt (at_ .devId) = some (x, i) ∧ x.reserved = none) :=
  ⟨by decide +kernel, by decide +kernel, by decide +kernel, by decide +kernel,
    ⟨((regAt (at_ .axCfg)).get (by decide +kernel)).1, ((regAt (at_ .axCfg)).get (by decide +kernel)).2,
      by decide +kernel⟩,
    ⟨((regAt (at_ .devId)).get (by decide +kernel)).1, ((regAt (at_ .devId)).get (by decide +kernel)).2,
      by decide +kernel⟩⟩

/-- RefusedWritesOnlyRecord: a write without its role over PCIe B, which no slot is bound to. -/
theorem meets_RefusedWritesOnlyRecord :
    let a : RegAccess := { write .axCfg 0xA0F with origin := .pcie true }
    Reaches a up (up.wakePort 1) ∧ (up.wakePort 1).judgeWrite 1 a = .error 0x0302 ∧
    (up.wakePort 1).host.slots.length = 8 ∧ a.addr < 2 ^ 20 :=
  ⟨⟨by decide +kernel, by decide +kernel, rfl⟩, by decide +kernel, by decide +kernel, by decide +kernel⟩

/-- NarrowReadsReturnZero and ReadsReturnTheRegisterAndLatch: SE_VECTORS_LO captures SE_VECTORS_HI. -/
theorem meets_ReadStatements :
    (up.port 0).linkUp = true ∧ ({ write .devId 0 with width := 2 } : RegAccess).narrow = true ∧
    up.host.slots.length = 8 ∧ (write .devId 0).narrow = false ∧ at_ .devId < 2 ^ 20 ∧
    ((up.wakePort 0).reach 0 (at_ .devId)).toOption.isSome = true ∧ swf 0 (up.port 0).latches = true ∧
    (up.reach 0 (at_ .seVectorsLo)).toOption.map (fun x => latched x.1.reg x.2) = some false ∧
    0 < captures .seVectorsLo 0 ∧ (regAt (at_ .seVectorsLo + 4)).map (·.1.reg) = some .seVectorsHi := by
  decide +kernel

/-- UnlistedOffsetsReadZero. -/
theorem meets_UnlistedOffsetsReadZero :
    up.unbound 0 0xFFFFC = false ∧ regAt 0xFFFFC = none ∧
    pageSlot? (at_ .hostSlotCtl 7) = some 7 ∧ up.portOf 7 ≠ 0 ∧ coreOff.power.core = false ∧
    coreOff.unbound 0 (at_ .axCfg) = false ∧ (regAt (at_ .axCfg)).map coreOff.onCompanion = some false ∧
    (regAt (at_ .tailCursor)).map coreOff.onCompanion = some true := by decide +kernel

/-- For RoleClaimsAreAllOrNothing: slot 0 holds every role; slot 7 of `up` claims over the management port, and
slot 0 of a block without roles over PCIe. -/
def noRoles : State := { up with host := { up.host with slots := up.host.slots.map fun x => { x with held := 0 } } }

def claim7 (w : W32) : RegAccess := { write .hostRoleClaim w 7 with origin := .frame (hdr 5) }

theorem meets_RoleClaimsAreAllOrNothing :
    Reaches (claim7 1) up (up.takeFrame (hdr 5)).2 ∧ (claim7 1).narrow = false ∧ (claim7 1).value &&& 0xFFFFFFF0 = 0 ∧
    (((up.takeFrame (hdr 5)).2.reach 2 (claim7 1).addr).toOption.map fun x => x.1.reg) = some .hostRoleClaim ∧
    (up.takeFrame (hdr 5)).2.host.slots.length = 8 ∧
    (1 : BitVec 4) &&& ~~~(up.slot 7).cfg.roles = 0 ∧ (up.slot 0).held &&& rolePilot ≠ 0 ∧
    (up.slot 0).held &&& roleService ≠ 0 ∧ (15 : BitVec 4) &&& ~~~(noRoles.slot 0).cfg.roles = 0 ∧
    (∀ j, j < 8 → (noRoles.slot j).held = 0) ∧
    up.judgeWrite 2 (claim7 1) = .error 0x0406 ∧ up.judgeWrite 2 (claim7 4) = .error 0x0407 ∧
    noRoles.judgeWrite 0 (write .hostRoleClaim 15) = .ok (.hostRoleClaim, 0) := by
  refine ⟨⟨by decide +kernel, by decide +kernel, rfl⟩, ?_⟩
  decide +kernel

/-- ReleasedRolesAreGone: with and without a pending commit of slot 0. -/
theorem meets_ReleasedRolesAreGone :
    let s : State := { up with eph := { up.eph with pendingSlot := some 0, commit := .pending } }
    Accepted (write .hostRoleRelease 1) s (s.wakePort 0) .hostRoleRelease 0 ∧
    (s.slot 0).held &&& 1 &&& rolePilot ≠ 0 ∧ (s.wakePort 0).host.slots.length = 8 ∧
    Accepted (write .hostRoleRelease 8) s (s.wakePort 0) .hostRoleRelease 0 ∧
    (s.slot 0).held &&& 8 &&& rolePilot = 0 := by
  refine ⟨accepted (b := false) rfl (by decide +kernel), by decide +kernel, by decide +kernel,
    accepted (b := false) rfl (by decide +kernel), by decide +kernel⟩

/-- QueuesStartAndStopWithEnable: an enabled queue is stopped, rung and served at the ends of its ring; slot 1 has no
queue, and QP 16 is none of slot 0's. -/
theorem meets_QueuesStartAndStopWithEnable :
    let s : State := { up with host := { up.host with slots := up.host.slots.map fun x => { x with qpSelect := 16 } } }
    Accepted (write .hostQpCtrl 0x100) up (up.wakePort 0) .hostQpCtrl 0 ∧ swf {} up.host.queues = true ∧
    Accepted (write .hostDbSqTail 15) up (up.wakePort 0) .hostDbSqTail 0 ∧
    Accepted (write .hostDbCqHead 15) up (up.wakePort 0) .hostDbCqHead 0 ∧ ((up.wakePort 0).queue 0).waiting = [] ∧
    (s.slot 0).cfg.owns (s.slot 0).qpSelect = false ∧ (up.slot 1).cfg.owns (up.slot 1).qpSelect = false := by
  refine ⟨accepted (b := false) rfl (by decide +kernel), by decide +kernel, accepted (b := false) rfl (by decide +kernel),
    accepted (b := false) rfl (by decide +kernel), by decide +kernel⟩

/-! ## Host -/

theorem meets_StepRunsTheFrontCommand : State.reset.pending = [] := rfl

/-- RegistersReadTheirResetValues at the ends of its ranges. -/
theorem meets_RegistersReadTheirResetValues :
    State.reset.regValue 2 0 .errLast = 0xF0000 ∧ State.reset.regValue 0 1 .hostSlotStatus = 0x30 ∧
    State.reset.regValue 0 6 .hostSlotStatus = 0x30 ∧ State.reset.regValue 0 31 .mpCfg2 = 0x2000010 ∧
    (State.reset.axis 7).cfg = 0xA0F ∧ (State.reset.sensor 7).period = 0x3D0900 := by decide +kernel

/-- A Tail record that waits for its programming. -/
def rec0 : TailRec := {
  type := 0x30, plane := .data, opsec := 0, cycles := 1, seq := 0, sample := 0, time := some 0, payload := [] }

def recording : State := { up with tail := { buffer := [rec0] } }

theorem meets_FlashStaysCanonical :
    swf flashErased recording.flash = true ∧
    ∃ t, step { recording with pending := [.tailFlush] } = .next t ∧ t.flash ≠ recording.flash :=
  ⟨rfl, _, rfl, by decide +kernel⟩

/-- RolesStayExclusiveUnderAccesses: no slot of the block holds a role before a claim. -/
theorem meets_RolesStayExclusiveUnderAccesses :
    noRoles.rolesOk ∧ writeRow? (.hostRoleClaim (write .hostRoleClaim 15)) = some (write .hostRoleClaim 15, .hostRoleClaim) ∧
    (∃ t, exec (.hostRoleClaim (write .hostRoleClaim 15)) noRoles = .next t) ∧
    ∃ t, exec (.registerWrite (write .hostRoleClaim 15)) noRoles = .next t := by
  have h : ∀ i, (noRoles.slot i).held = 0 := fun i => by
    by_cases hi : i < 8
    · exact (show ∀ i, i < 8 → (noRoles.slot i).held = 0 by decide +kernel) i hi
    · have hn : noRoles.host.slots[i]? = none := by
        rw [List.getElem?_eq_none_iff]
        have : noRoles.host.slots.length = 8 := rfl
        omega
      simp only [State.slot, hn]; rfl
  refine ⟨⟨fun i j hi => by simp [h] at hi, fun i j hi => by simp [h] at hi⟩, rfl, ⟨_, rfl⟩, ⟨_, rfl⟩⟩

/-- AcceptedWritesLeaveOtherPartsAlone and ClearBitsZeroTheirCounters. -/
theorem meets_RegisterStores :
    Reg.hostQpCtrl ≠ .eclipseEnter ∧ Reg.hostQpCtrl ≠ .hostRoleRelease ∧ Reg.hostQpCtrl ≠ .hostDbCqHead ∧
    (∀ r ∈ clearRegs, r ∈ clearRegs ∧ ((clearedBy 7 r).isEmpty = false)) ∧ up.host.slots.length = 8 ∧
    bitOf 1 0 = true ∧ (Reg.seVectorsHi, 7) ∈ clearedBy 7 .seCntCtl := by decide +kernel

/-- No session at slot 7. -/
def closed : State := { up with
  host := { up.host with slots := up.host.slots.map fun x => { x with session := none } } }

def other : FrameHdr := { hdr 9 with sender := { sender with udp := 1 } }

/-- A frame of bytes with the CRC that covers them (R36, R126). -/
def sealed (b : List Byte) : List Byte := b ++ leBytes 4 (crc32c b).toNat

/-- The header of a JCS frame without data: VERSION, KIND, the byte at 7 and LENGTH. -/
def jcs (version kind pad length : Nat) : List Byte :=
  sealed ([0x4A#8, 0x43#8, 0x53#8, 0x46#8] ++ leBytes 1 version ++ leBytes 1 kind ++ leBytes 1 7 ++ leBytes 1 pad ++
    leBytes 4 5 ++ leBytes 2 length ++ leBytes 2 0)

theorem test_frame_headers_are_checked :
    frameCrcOk [] = false ∧ frameCrcOk (jcs 2 7 0 0) = true ∧ frameBad (jcs 2 7 0 0) = some 0x0103 ∧
    frameBad (jcs 1 7 1 0) = some 0x0205 ∧ frameBad (jcs 1 7 0 1409) = some 0x0206 ∧ frameBad (jcs 1 1 0 0) = some 0x0206 ∧
    frameBad (jcs 1 7 0 0) = none := by decide +kernel

/-- SessionsBindASlotToItsSender: each of its clauses; SEQ 5 is later than 4, 4 has a stored reply, and 3 has none
(the frames that are wrong stand in the test above). -/
theorem meets_SessionsBindASlotToItsSender :
    up.answersFrames = true ∧ closed.answersFrames = true ∧ up.host.slots.length = 8 ∧
    closed.mgmtSlot 7 = true ∧ (closed.slot 7).session = none ∧ up.mgmtSlot 7 = true ∧
    (up.slot 7).session = some session ∧ session.sender ≠ other.sender ∧ up.mgmtSlot 0 = false ∧
    (up.takeFrame (hdr 5)).1 = true ∧ session.sender = (hdr 4).sender ∧
    ¬ 0 < seqDiff 32 (hdr 4).seq.toNat (4 : W32).toNat ∧
    (session.replies.find? fun r => r.1 == (hdr 4).seq) = some (4, some (.code 0)) ∧
    ¬ 0 < seqDiff 32 (hdr 3).seq.toNat (4 : W32).toNat ∧
    ((session.replies.find? fun r => r.1 == (hdr 3).seq).bind (·.2)) = none := by decide +kernel

/-- PortsGoUpAndDown, and a link that may come up. -/
theorem meets_PortsGoUpAndDown :
    up.host.slots.length = 8 ∧ (up.port (b1 false)).linkUp = true ∧ (up.port (b1 true)).linkUp = true ∧
    up.portOf 0 = b1 false ∧ up.portOf 7 ≠ b1 false ∧ up.power.core = true ∧ up.companionMode = false ∧
    nth false up.power.perst (b1 true) = false ∧ up.planes.mgmt = .running ∧
    ({ up with planes := { up.planes with mgmt := .nadir } } : State).planes.mgmt = .nadir := by decide +kernel

/-- The block in Umbra, the companion die alone at work. -/
def dozing : State := { up with power := { up.power with umbra := .asleep, core := false } }

/-- DispatchedEntriesRunAndOthersAreJudged: the entries that the dispatcher takes, from a queue and from a frame. -/
theorem meets_Taken :
    (∃ f t, Taken (entry 0x0E00 []) up f t) ∧ (∃ f t, Taken (framed (entry 0x0E00 [])) up f t) ∧
    ∃ f t, Taken (framed (entry 0x0200 [])) dozing f t ∧ t.companionMode = true :=
  ⟨⟨_, _, taken_of (by decide +kernel)⟩, ⟨_, _, taken_of (by decide +kernel)⟩,
    ⟨_, _, taken_of (s := dozing) (by decide +kernel), by decide +kernel⟩⟩

/-- DispatchedEntriesRunAndOthersAreJudged: an entry with a fault in a field, one without its role, one that runs,
one whose buffer cannot be read, one that companion-die commands do not cover, a frame that names a buffer, opcodes of a
defined and of an undefined group, and roles. -/
theorem meets_DispatchedEntriesRunAndOthersAreJudged :
    let e := entry 0x0E00 []
    let bad : Entry := { e with flags := 4 }
    up.queueSlot? 0 = some 0 ∧ up.mayTake 0 0 e = true ∧ e.bad = none ∧ bad.bad = some { code := 0x0205, ofs := 2 } ∧
    up.mayTake 0 0 bad = true ∧ noRoles.mayTake 0 0 e = true ∧ (taken noRoles e).2.roleBad 0 0x0E00 = some 0x0306 ∧
    (taken up e).2.roleBad 0 0x0E00 = none ∧ up.mayTake 0 0 { e with dmaOk := false } = true ∧
    (taken dozing (framed (entry 0x0200 []))).2.companionMode = true ∧ companionOpcodes.contains 0x0200 = false ∧
    up.answersFrames = true ∧ up.dispatches = true ∧ up.sessionTurn 7 = true ∧ (up.takeCommand (hdr 5)).1 = true ∧
    swf {} up.host.queues = true ∧ knownOpcodes.contains 0x0101 = false ∧ knownOpcodes.contains 0x1000 = false ∧
    (noRoles.slot 0).held = 0 ∧ (up.slot 0).held ≠ 0 ∧ (up.slot 7).held &&& actionRoles 0x0640 = 0 ∧
    (up.slot 0).held &&& actionRoles 0x0640 ≠ 0 ∧ up.host.slots.length = 8 ∧ up.portOf 0 < 3 := by decide +kernel

/-- A command of queue 0 under way. -/
def flight : Flight := { id := 9, slot := 0, port := 0, origin := .queue 0, cmdId := 77, irq := true, opcode := 0x0E00 }

def running (f : Flight) : State := { up with host := { up.host with flights := [f], nextFlight := 10 } }

def withQueue (q : Queue) (s : State) : State := { s with host := { s.host with queues := [(0, q)] } }

/-- CompletionsArePostedInTheRing: room at the last index, a full ring, a waiting completion, a lost port and a
Transit pause. -/
theorem meets_CompletionsArePostedInTheRing :
    let s := withQueue { enable := true, cqWrite := 15, cqHead := 1 } (running flight)
    let full := withQueue { enable := true, cqWrite := 15, cqHead := 0 } (running flight)
    let l : Flight := { flight with lost := true }
    flight.origin = .queue 0 ∧ flight ∈ s.host.flights ∧ (∀ g ∈ s.host.flights, g.id = flight.id → g = flight) ∧
    swf {} s.host.queues = true ∧ s.planes.ctl ≠ .pause ∧ flight.lost = false ∧ (s.queue 0).cqFull = false ∧
    (s.queue 0).waiting = [] ∧ (full.queue 0).cqFull = true ∧ l ∈ (running l).host.flights ∧ l.lost = true ∧
    l.port < 3 ∧ ({ s with planes := { s.planes with ctl := .pause } } : State).planes.ctl = .pause := by
  decide +kernel

/-! ## The ephemeris -/

/-- Bytes that are zero but for fields (offset, bytes, value). -/
def bytes (n : Nat) (fields : List (Nat × Nat × Nat)) : List Byte :=
  fields.foldl (fun p f => p.take f.1 ++ leBytes f.2.1 f.2.2 ++ p.drop (f.1 + f.2.1)) (List.replicate n 0)

/-- A section of a container: type, body, padding (R39). -/
def sect (ty : Nat) (b : List Byte) : List Byte :=
  let p := leBytes 2 ty ++ leBytes 4 b.length ++ b
  p ++ List.replicate (up8 p.length - p.length) 0

/-- The required sections of a machine with one head and its laser (R41–R66). -/
def ephBody : List Byte :=
  sect 1 (bytes 64 [(0x0C, 4, 400000), (0x14, 4, 400000), (0x18, 2, 32768 - 1), (0x1C, 1, 1), (0x1D, 1, 1)]) ++
  sect 2 (bytes 200 [(0x18, 4, 400000), (0x30, 4, 4000), (0x40, 1, 3), (0x48 + 8, 4, 400000), (0x48 + 16, 4, 400000),
    (0x48 + 20, 4, 400000)]) ++
  sect 3 (bytes 32 [(4, 4, 100000), (8, 2, 60000), (0x0C, 2, 1070)]) ++
  sect 5 (bytes 256 []) ++ sect 6 (bytes 8 []) ++
  sect 0x0B (bytes 600 ((0, 1, 16) :: (4, 2, 1) :: (List.range 6).flatMap fun k =>
    let o := 8 + 24 * (16 + k)
    [(o, 1, 4), (o + 3, 1, 1), (o + 4, 2, 8000), (o + 8, 2, 1)])) ++
  sect 0x0C (bytes 64 [(0x0D, 1, 255), (0x1C, 4, 1), (0x20, 4, 1)]) ++
  sect 0x0D (bytes 64 ([(0, 1, 0), (1, 1, 15), (3, 1, 16), (5, 1, 64), (56, 1, 2), (57, 1, 15)] ++
    (List.range 6).map fun k => (8 * (k + 1), 1, 0xFF))) ++
  sect 0x0E (bytes 32 [(0, 1, 4), (2, 1, 8), (4, 2, 24), (6, 1, 1)]) ++ sect 0xFF []

/-- An unsigned container with those sections (R37). -/
def container : List Byte :=
  let h := bytes 0x3C [(0, 4, 0x4D485045), (4, 2, 1), (8, 4, ephBody.length), (0x0C, 4, 1), (0x10, 2, 0x0F32),
    (0x12, 2, 1), (0x14, 4, (crc32c ephBody).toNat)]
  h ++ leBytes 4 (crc32c h).toNat ++ ephBody

/-- A valid header alone. -/
def header : List Byte :=
  let h := bytes 0x3C [(0, 4, 0x4D485045), (0x0C, 4, 7)]
  h ++ leBytes 4 (crc32c h).toNat

/-- An ephemeris command, its entry taken with PARAMS that pass, for EPH_INFO, EPH_STORE at a slot's end and
EPH_SET_BOOT; and FLASH_WRITE_DONE. -/
def info (i : Nat) : Entry := entry 0x0100 [(0x18, 1, i)] [] 64

def store : Entry := entry 0x0140 [(0x18, 1, 3), (0x1C, 4, ephSlotBytes - 8), (0x20, 4, 8)] (List.replicate 8 1) 8

theorem meets_EphemerisStorageIsWrittenInFlash_info :
    Dispatched 0x0100 (info 3) up (taken up (info 3)).1 (taken up (info 3)).2 ∧ ((info 3).zeroFrom 0x19 39).1 = false ∧
    (info 3).u 0x18 1 < 4 ∧ (info 0x11).u 0x18 1 = 0x11 ∧ (info 3).bufLen = 64 ∧
    (taken up (info 3)).2.eph.stagingBad = false ∧ headerHolds ((taken up (info 3)).2.slotContainer 3) = false ∧
    headerHolds ({ up with eph := { up.eph with container := header } } : State).eph.container = true :=
  ⟨dispatched (by decide +kernel), by decide +kernel⟩

theorem meets_EphemerisStorageIsWrittenInFlash_writes :
    let b := entry 0x0141 [(0x18, 1, 0xFF)]
    let t := (taken up store).2
    let s : State := { running flight with boot := { flashJobs := [{ flight := 9, r0 := 8 }] } }
    Dispatched 0x0140 store up (taken up store).1 t ∧
    Dispatched 0x0141 b up (taken up b).1 (taken up b).2 ∧ (store.zeroFrom 0x19 3).1 = false ∧
    (store.zeroFrom 0x24 28).1 = false ∧ store.u 0x1C 4 % 8 = 0 ∧ store.u 0x1C 4 + store.u 0x20 4 ≤ ephSlotBytes ∧
    store.dataLen = 8 ∧ t.power.nvOpen = true ∧ t.eph.copying = [] ∧ swf flashErased t.flash = true ∧
    (b.zeroFrom 0x19 39).1 = false ∧ b.u 0x18 1 = 0xFF ∧ (taken up b).2.power.nvOpen = true ∧
    (s.boot.flashJobs.head?.map (·.flight)) = some 9 ∧ (s.host.flights.find? fun g => g.id == 9) = some flight :=
  ⟨dispatched (by decide +kernel), dispatched (by decide +kernel), by decide +kernel⟩

/-- The block with a container staged as `st` says, and EPH jobs under way. -/
def staged (st : StageState) (x : EphState → EphState := id) : State := { running flight with
  eph := x { up.eph with staging := container, stage := st, stageLen := container.length } }

def stage_ (src ofs : Nat) (data : List Byte) : Entry :=
  entry 0x0142 [(0x18, 1, src), (0x1C, 4, 64), (0x20, 4, ofs)] data

/-- ContainersAreStagedValidatedAndCommitted: staging from flash and, in a chunk, from a frame. -/
theorem meets_ContainersAreStagedValidatedAndCommitted_stage :
    let e := stage_ 3 0 []
    let i := framed (stage_ 0x11 56 (List.replicate 8 0))
    let s : State := { up with eph := { up.eph with stage := .loading, stageLen := 64, staging := List.replicate 56 0 } }
    let j : EphJob := { flight := 9, slot := 0 }
    let c := staged .loading fun x => { x with copying := [(j, none)] }
    Dispatched 0x0142 e up (taken up e).1 (taken up e).2 ∧ Dispatched 0x0142 i s (taken s i).1 (taken s i).2 ∧
    up.eph.committing = none ∧ (e.zeroFrom 0x19 3).1 = false ∧ (e.zeroFrom 0x20 32).1 = false ∧ e.bufLen = 0 ∧
    up.eph.pendingSlot = none ∧ i.inline = true ∧ (i.zeroFrom 0x24 28).1 = false ∧ i.u 0x20 4 ≠ 0 ∧
    (taken s i).2.eph.stage = .loading ∧ (taken s i).2.eph.stageLen = i.u 0x1C 4 ∧
    (taken s i).2.eph.staging.length = i.u 0x20 4 ∧ i.u 0x20 4 + i.data.length ≤ i.u 0x1C 4 ∧
    c.eph.committing = none ∧ c.eph.copying = [(j, none)] ∧ c.eph.stage = .loading ∧ c.flight? 9 = some flight :=
  ⟨dispatched (by decide +kernel), dispatched (by decide +kernel), by decide +kernel⟩

/-- Validation, commit of a container not yet validated and of a valid one in a build, and cancellation. -/
theorem meets_ContainersAreStagedValidatedAndCommitted_commit :
    let v := entry 0x0143 []
    let c := entry 0x0144 []
    let x := entry 0x0145 []
    let s := staged .loaded
    let b : State := { staged .valid fun x => { x with validated := some eph } with planes := { up.planes with data := .build } }
    let p := staged .valid fun x => { x with pendingSlot := some 0 }
    let i : State := { b with planes := up.planes }
    let broken : State := { b with planes := { up.planes with mgmt := .restarting } }
    let w := staged .validating fun x => { x with committing := some { flight := 9, slot := 0 } }
    Dispatched 0x0143 v s (taken s v).1 (taken s v).2 ∧ Dispatched 0x0144 c s (taken s c).1 (taken s c).2 ∧
    Dispatched 0x0144 c i (taken i c).1 (taken i c).2 ∧ Dispatched 0x0144 c broken (taken broken c).1 (taken broken c).2 ∧
    Dispatched 0x0143 v w (taken w v).1 (taken w v).2 ∧
    Dispatched 0x0144 c b (taken b c).1 (taken b c).2 ∧ Dispatched 0x0145 x p (taken p x).1 (taken p x).2 ∧
    (v.zeroFrom 0x18 40).1 = false ∧ (taken s v).2.eph.stage = .loaded ∧ (taken s c).2.eph.pendingSlot = none ∧
    (taken b c).2.eph.validated = some eph ∧ ((taken b c).2.slot 0).held &&& rolePilot ≠ 0 ∧
    ((taken b c).2.launch (taken b c).1).stage10 eph (taken b c).2.eph.staging = none ∧ (taken b c).2.planes.data ≠ .idle ∧
    ((taken i c).2.launch (taken i c).1).adoptBroken = false ∧ (taken i c).2.planes.data = .idle ∧
    ((taken broken c).2.launch (taken broken c).1).adoptBroken = true ∧
    ((taken broken c).2.launch (taken broken c).1).stage10 eph (taken broken c).2.eph.staging = none ∧
    w.eph.committing = some { flight := 9, slot := 0 } ∧ (taken p x).2.eph.pendingSlot = some 0 := by
  refine ⟨dispatched ?_, dispatched ?_, dispatched ?_, dispatched ?_, dispatched ?_, dispatched ?_, dispatched ?_, ?_⟩ <;>
    decide +kernel

/-- The staged container is valid, and it may be committed. -/
def commits (s : State) : Bool :=
  match s.validateStaged with
  | .ok x => (s.stage10 x s.eph.staging).isNone
  | .error _ => false

theorem commits_iff {s : State} (h : commits s = true) : ∃ x, s.validateStaged = .ok x ∧ s.stage10 x s.eph.staging = none := by
  unfold commits at h
  split at h
  · exact ⟨_, by assumption, by simpa using h⟩
  · simp at h

set_option maxRecDepth 4000 in
/-- A validation that ends well, one that ends with a rejection, and one of an EPH_COMMIT. -/
theorem meets_ContainersAreStagedValidatedAndCommitted_end :
    let j : EphJob := { flight := 9, slot := 0 }
    let m : Memory := { up.mem with capacity := 4, vendor := 1 }
    let s : State := { staged .validating fun x => { x with validating := [j], committing := some j } with
      mem := m, planes := { up.planes with data := .build } }
    let bad : State := { s with eph := { s.eph with staging := [0] } }
    (∃ x, s.validateStaged = .ok x ∧ s.stage10 x s.eph.staging = none) ∧ bad.validateStaged = .error ⟨0x0701, 0, 0⟩ ∧
    s.eph.validating = [j] ∧ s.eph.stage = .validating ∧ s.flight? 9 = some flight ∧ s.host.ephWaits = [] ∧
    (s.slot flight.slot).held &&& rolePilot ≠ 0 ∧ s.planes.data ≠ .idle ∧ s.eph.stagingBad = false ∧
    ({ s with planes := up.planes } : State).adoptBroken = false ∧ s.eph.committing = some j ∧
    ({ s with eph := { s.eph with committing := none } } : State).eph.committing = none :=
  ⟨commits_iff (by decide +kernel), by decide +kernel⟩

/-- RoutesChangeAtTheirSwitchSample. -/
theorem meets_RoutesChangeAtTheirSwitchSample :
    let e := entry 0x0146 [(0x18, 2, 1), (0x1A, 1, 1), (0x1C, 4, 65536)]
    let w : RouteSwitch := { route := 1, at_ := 400001, scale := 1, offset := 0, holdLast := true }
    let s : State := { up with eph := { up.eph with switches := [w] } }
    let late : State := { up with eph := { up.eph with switches := [{ w with at_ := 400002 }] } }
    Dispatched 0x0146 e up (taken up e).1 (taken up e).2 ∧ e.u 0x1A 1 ≤ 1 ∧ (e.zeroFrom 0x1B 1).1 = false ∧
    (e.zeroFrom 0x24 28).1 = false ∧ e.u 0x18 2 < (taken up e).2.routes.length ∧ e.u 0x18 2 ≤ 511 ∧
    (s.eph.switches.find? fun w => w.route == 1 && decide (w.at_ ≤ s.ix + 1)) = some w ∧
    (∀ w ∈ late.eph.switches, w.route = 1 → late.ix + 1 < w.at_) :=
  ⟨dispatched (by decide +kernel), by decide +kernel⟩

/-- AtlasWritesSwitchAsOne: the last entry of the atlas. -/
theorem meets_AtlasWritesSwitchAsOne :
    let r := entry 0x0300 [(0x18, 2, 16383), (0x1A, 2, 1)]
    let w := entry 0x0340 [(0x18, 2, 16383), (0x1A, 2, 1)] (List.replicate 64 0) 64
    let f := framed (entry 0x0300 [(0x18, 2, 0), (0x1A, 2, 21)])
    let x : AtlasSwitch := { at_ := 400000, flight := 9, entries := [(16383, {})] }
    let s : State := { running flight with job := { up.job with atlasSwitches := [x] } }
    let r64 : Entry := { r with bufLen := 64 }
    Dispatched 0x0300 r64 up (taken up r64).1 (taken up r64).2 ∧ Dispatched 0x0300 f up (taken up f).1 (taken up f).2 ∧
    Dispatched 0x0340 w up (taken up w).1 (taken up w).2 ∧ r64.dataLen = 64 ∧ (r64.zeroFrom 0x1C 36).1 = false ∧
    f.inline = true ∧ f.dataLen = 0 ∧ f.u 0x1A 2 ≤ 21 ∧ w.dataLen = 64 ∧ w.u 0x18 2 + 1 ≤ 16384 ∧
    (∀ w ∈ up.job.atlasSwitches, w.at_ ≤ up.ix + 256) ∧ (taken up w).2.atlasRefused 16383 [slice w.data 0 64] = none ∧ s.job.atlasSwitches = [x] ∧ x.at_ ≤ s.ix ∧
    s.flight? 9 = some flight ∧ (∀ w ∈ up.job.atlasSwitches, up.ix < w.at_) :=
  ⟨dispatched (by decide +kernel), dispatched (by decide +kernel), dispatched (by decide +kernel), by decide +kernel⟩

/-! ## Layers, blocks and engines -/

def layer5 : Layer := { num := 5, first := true, final := false, recoat := true, image := true, drop := 40 }

/-- A build whose layer 5 runs. -/
def building : State := { up with
  planes := { up.planes with data := .build }
  job := { up.job with building := true, layers := [layer5], running := some 5, lastOpened := some 5 } }

def opens (l fl : Nat) : Entry := entry 0x0240 [(0x18, 4, l), (0x1C, 2, fl), (0x20, 4, 1000000)]

def memTest : MemTest := { flight := 9, targets := 1, pattern := 0 }

theorem meets_LayersOpenCloseAndEnd_commands :
    let st := entry 0x0200 [(0x18, 2, 0x100)]
    let c := entry 0x0241 [(0x18, 4, 5)]
    let a := entry 0x0243 []
    let all := entry 0x0200 [(0x18, 2, 0xFFFF)]
    let tested : State := { up with mem := { up.mem with tests := [memTest] } }
    let slow : State := { up with mem := { up.mem with fsp := .low } }
    let waits : State := { building with
      planes := { up.planes with data := .syzygy }, job := { building.job with running := none, syzygy := .waitOpen } }
    Dispatched 0x0200 all up (taken up all).1 (taken up all).2 ∧
    Dispatched 0x0240 (opens 1 5) slow (taken slow (opens 1 5)).1 (taken slow (opens 1 5)).2 ∧
    Dispatched 0x0240 (opens 6 4) waits (taken waits (opens 6 4)).1 (taken waits (opens 6 4)).2 ∧
    Dispatched 0x0200 st up (taken up st).1 (taken up st).2 ∧
    Dispatched 0x0240 (opens 6 2) building (taken building (opens 6 2)).1 (taken building (opens 6 2)).2 ∧
    Dispatched 0x0240 (opens 1 5) up (taken up (opens 1 5)).1 (taken up (opens 1 5)).2 ∧
    Dispatched 0x0240 (opens 1 5) tested (taken tested (opens 1 5)).1 (taken tested (opens 1 5)).2 ∧
    Dispatched 0x0241 c building (taken building c).1 (taken building c).2 ∧
    Dispatched 0x0243 a building (taken building a).1 (taken building a).2 ∧
    (st.zeroFrom 0x1A 38).1 = false ∧ ((taken up st).2.pool? 0x100).isSome = true ∧
    ((opens 1 5).zeroFrom 0x1E 2).1 = false ∧ ((opens 1 5).zeroFrom 0x24 28).1 = false ∧ (opens 1 5).u 0x20 4 ≤ 1000000 ∧
    (5).testBit 0 = true ∧ (2).testBit 0 = false ∧ up.planes.data = .idle ∧ up.job.waitingOpen = none ∧
    up.recoats { num := 1, first := true, final := false, recoat := true, image := false, drop := 0 } = true ∧
    building.planes.data ≠ .idle ∧ building.job.ending = false ∧ building.job.finalOpened = false ∧
    building.job.layers.length < 2 ∧ building.job.lastOpened.map (· + 1) = some 6 ∧ building.job.syzygy ≠ .waitOpen ∧
    tested.mem.tests ≠ [] ∧ slow.mem.tests = [] ∧ slow.mem.fsp ≠ .atRate ∧ up.mem.tests = [] ∧ up.mem.fsp = .atRate ∧
    waits.job.syzygy = .waitOpen ∧ waits.recoats { layer5 with num := 6, first := false } = true ∧
    building.job.running = some 5 ∧ waits.job.running = none ∧ waits.job.lastOpened.map (· + 1) = some 6 ∧
    ({ waits with job := { waits.job with syzygy := .recoat } } : State).job.layers.head?.map (·.num) = some 5 ∧
    up.eph.eph.isSome = true ∧ (c.zeroFrom 0x1C 36).1 = false ∧
    (∃ x ∈ building.job.layers, x.num = 5 ∧ x.closed = false) ∧ (a.zeroFrom 0x18 40).1 = false ∧ building.inBuild = true := by
  refine ⟨dispatched ?_, dispatched ?_, dispatched ?_, dispatched ?_, dispatched ?_, dispatched ?_, dispatched ?_,
    dispatched ?_, dispatched ?_, ?_⟩ <;> decide +kernel

/-- Layer 5 over, alone, and FINAL or not. -/
def finished (final : Bool) : State := { building with
  job := { building.job with layers := [{ layer5 with closed := true, final := final }] } }

theorem meets_LayersOpenCloseAndEnd_end :
    (finished false).job.running = some 5 ∧ (finished false).layerOver 5 = true ∧ (finished false).job.ending = false ∧
    (∀ x ∈ (finished false).job.layers, x.num = 5 ∧ x.final = false) ∧ (finished true).layerOver 5 = true ∧
    (∃ x ∈ (finished true).job.layers, x.num = 5 ∧ x.final = true) := by decide +kernel

/-- JOB_SUBMIT of one block to pool 0 with its check value, or with that plus `err`. -/
def submits (data : List Byte) (vectors err : Nat) : Entry :=
  let crc := ((checkReg 0 (checkSeed 0 0xFFFFFFFF (BitVec.ofNat 64 (5 * 2 ^ 32)) 0) data).setWidth 32 ^^^ 0xFFFFFFFF).toNat
  entry 0x0242 [(0x18, 4, 5), (0x24, 4, data.length / 16), (0x28, 4, (crc + err) % 2 ^ 32), (0x2C, 4, vectors)] data
    (BitVec.ofNat 32 data.length)

/-- A JUMP to (4, 8). -/
def jump : List Byte := leBytes 4 0x20000000 ++ leBytes 4 4 ++ leBytes 4 8 ++ leBytes 4 0

/-- The premises that the four outcomes share, and the scan's answer: the offset of a bad word, or the vectors. -/
def submitOk (e : Entry) : Bool :=
  let t := (taken building e).2
  takes 0x0242 building e && t.inBuild && !(e.zeroFrom 0x1E 2).1 && !(e.zeroFrom 0x30 16).1 && t.gridOk 0 &&
  !t.eclipsed 0 && e.dataLen == 16 * e.u 0x24 4 && (t.pool? 0).any fun p => decide (p.expect = 0) && p.queue.isEmpty

def scanned (e : Entry) : Option (Except Nat Nat) :=
  let t := (taken building e).2
  (t.pool? 0).map fun p => match (t.blockEnv 0 0).scan (e.u 0x24 4 + 1) (e.u 0x24 4) 0 e.data (p.blockScan 5) with
    | .ok c => .ok c.vectors
    | .error o => .error o

theorem meets_BlocksAreCheckedQueuedAndStaged_submit :
    submitOk (submits jump 1 0) = true ∧ submitOk (submits jump 1 1) = true ∧ submitOk (submits jump 2 0) = true ∧
    submitOk (submits (jump ++ List.replicate 16 0) 1 0) = true ∧ scanned (submits jump 1 0) = some (.ok 1) ∧
    scanned (submits (jump ++ List.replicate 16 0) 1 0) = some (.error 16) := by decide +kernel

/-- A SYNC or WAIT word. -/
def item (ty : WType) : Item := { word := { ty := ty, w1 := 1, w2 := 3 }, ofs := 0 }

def engine0 (e : Engine) (s : State) : State := { s with engines := upd s.engines 0 fun _ => e }

def desc : Desc := { flight := 9, layer := 5, dseq := 7, items := [item .wait], units := 1 }

def queued : State := { building with
  job := { building.job with pools := [{ num := 0, queue := [desc] }, { num := 0x100, queue := [desc] }] } }

theorem meets_BlocksAreCheckedQueuedAndStaged_staging :
    ((queued.pool? 0).bind (queued.stageNext? 0)).map (·.dseq) = some 7 ∧
    ((engine0 { requested := [(0, 0)] } up).engine 0).requested = [(0, 0)] ∧
    (queued.pool? 0x100).any (fun p => p.queue.any fun d => d.dseq == 7) = true ∧ queued.declared 0 = true ∧
    (queued.zoneMask 0).testBit 0 = true := by decide +kernel

/-- A take at the head of the overlap pool for 40,000 samples. -/
def taking : State := { building with job := { building.job with pools := [{ num := 0x100, headAge := 39999 }] } }

theorem meets_EnginesWaitStartAndEscalate :
    let starved := engine0 { wait := .starved } building
    let waits := engine0 { wait := .wait 400001, queue := [item .wait] } building
    let syncs := engine0 { wait := .sync 1 3, queue := [item .sync] } building
    let held := engine0 { held := some { start := 360001, blocker := 1, rule := 1 } } building
    let parks := engine0 {} { building with eclipse := dark.eclipse }
    starved.mayRun 0 = true ∧ (starved.engine 0).wait = .starved ∧ (starved.engine 0).cur = none ∧
    starved.tilesReady 0 (starved.ix + 1) = true ∧ (waits.engine 0).wait = .wait 400001 ∧ 400001 ≤ waits.ix + 1 ∧
    (waits.engine 0).queue = [item .wait] ∧ (syncs.engine 0).wait = .sync 1 3 ∧ syncs.syncFree 1 3 = true ∧
    (syncs.engine 0).queue = [item .sync] ∧ (item .sync).word.ty = .sync ∧ parks.declared 0 = true ∧
    parks.eclipsed 0 = true ∧ (parks.engine 0).cur = none ∧ (parks.engine 0).parked = false ∧ parks.job.ending = false ∧
    (held.engine 0).held = some { start := 360001, blocker := 1, rule := 1 } ∧ 360001 + 40000 ≤ held.ix + 1 ∧
    (held.engine 0).escalated = false ∧ (taking.pool? (overlapPool 0)).map (·.headAge) = some 39999 := by decide +kernel

/-- The block in a Syzygy step. -/
def inStep (z : Syzygy) (x : JobState → JobState := id) : State := { building with
  planes := { building.planes with data := .syzygy }
  job := x { building.job with running := none, syzygy := z } }

theorem meets_SyzygyStepsFollowEachOther :
    let r : Recoat := { state := .dwell, dwellEnd := 400000 }
    let f : State := running { flight with opcode := 0x0F40 }
    let start := { inStep .start fun j => { j with t0 := 400080 } with time := { up.time with ix := 400079 } }
    let image := inStep .image fun j => { j with imageLeft := [0] }
    (({ inStep .none with recoat := r } : State).recoat.dwellEnd ≤ (inStep .none).ix) ∧
    ({ inStep .recoat with recoat := r } : State).job.syzygy = .recoat ∧ r.running = [] ∧ r.state = .dwell ∧
    image.job.syzygy = .image ∧ 0 ∈ image.job.imageLeft ∧ image.time.preEpoch = false ∧ f.mem.fsp = .atRate ∧
    (inStep .transition).job.syzygy ≠ .recoat ∧ (inStep .transition).job.syzygy ≠ .image ∧
    (inStep .transition).job.syzygy ≠ .commits ∧
    (inStep .transition fun j => { j with stepEnd := 400000 }).job.stepEnd ≤ (inStep .transition).ix ∧
    start.prepared? = some layer5 ∧ start.job.syzygy = .start ∧ start.job.t0 ≤ start.ix + 1 ∧ (start.ix + 1) % 80 = 0 ∧
    start.startStaged = true ∧ ({ f with mem := { f.mem with tests := [memTest] } } : State).mem.tests = [memTest] ∧
    (f.flight? memTest.flight).isSome = true ∧ f.job.waitingOpen = none ∧
    ({ f with job := { f.job with waitingOpen := some (10, layer5) } } : State).job.waitingOpen = some (10, layer5) := by
  decide +kernel

theorem meets_EclipseEntersChannelsAndStopsTheirEngines :
    up.declared 0 = true ∧ up.eclipsed 0 = false ∧ dark.eclipsed 0 = true ∧ up.power.core = true ∧
    up.eclipse.inReq = false ∧ ({ dark.eclipse with leaving := 1 } : Eclipse).leaving ≠ 0 ∧ up.planes.data ≠ .off ∧
    up.boot.activation = none := by decide +kernel

/-- ASampleDoesItsWorkInOrder: before and after the epoch, in Umbra, a scrub pass, and errors of both kinds. -/
theorem meets_ASampleDoesItsWorkInOrder :
    let early : State := { up with
      time := { up.time with clock := 0, preEpoch := true }, eph := { up.eph with
        eph := some { eph with ring := { ring0 with epochS := 1 } } } }
    let umbra : State := { coreOff with power := { coreOff.power with umbra := .asleep } }
    let scrubs : State := { up with mem := { up.mem with sramAge := 59 } }
    let err (r : Nat) (d : Bool) : SramErr := { region := r, object := 0, offset := 8, double := d, both := false, i := 0, j := 0 }
    up.power.core = true ∧ early.idleTick.timeTick.ringTick.bypTick.memTick.time.preEpoch = true ∧
    up.idleTick.timeTick.ringTick.bypTick.memTick.time.preEpoch = false ∧ umbra.power.core = false ∧
    umbra.power.umbra ≠ .awake ∧ coreOff.power.umbra = .awake ∧ scrubs.mem.sramPeriod ≤ scrubs.mem.sramAge + 1 ∧
    (err 1 false).double = false ∧ (∀ r ∈ [0, 2, 4, 8, 15], (err r true).double = true ∧ (err r true).region < 16) := by
  decide +kernel

/-! ## Measurement and control -/

/-- A frame of 16 × 16 pixels that ROI_END has closed, with its check value, or with that plus `err`. -/
def roi (err : Nat) : RoiIn :=
  let start := bytes 7 [(6, 1, 1)]
  let blocks : List W64 := List.replicate 40 0
  let crc := (crc32c (start ++ blocks.flatMap fun b => leBytes 8 b.toNat)).toNat
  { start := start, blocks := blocks, endBytes := [0x66#8] ++ leBytes 4 ((crc + err) % 2 ^ 32) }

/-- The check value that ROI_END carries is that of the frame. -/
def roiCrcOk (f : RoiIn) : Bool :=
  uAt f.endBytes 1 4 == (crc32c (f.start ++ f.blocks.flatMap fun b => leBytes 8 b.toNat)).toNat

def melting (c : MeltCh) : State := { up with melt := upd up.melt 0 fun _ => c }

set_option maxRecDepth 4000 in
theorem meets_MeltPoolChannelsMeasure :
    let lit : MeltCh := {
      pd := [{ ix := 399998, l1a := 512, l1b := 0, l2a := 256, l2b := 0 }]
      gates := [{ ix := 399996, gate := true, on := none, off := none }, { ix := 399997, gate := true, on := none, off := none }] }
    let free : MeltCh := { ratioMinPast := 0 }
    let c : MeltCh := { ended := [roi 0, roi 1] }
    up.declared 0 = true ∧ 4 ≤ up.ix ∧ lit.sums (up.ix / 4 - 1) = (512, 256) ∧ lit.ratioMinPast ≤ 256 ∧
    free.sums (up.ix / 4 - 1) = (0, 0) ∧ ({} : MeltCh).sums (up.ix / 4 - 1) = (0, 0) ∧ 0 < ({} : MeltCh).ratioMinPast ∧
    (nth {} (melting c).melt 0).ended = [roi 0, roi 1] ∧ (roi 0).endBytes ≠ [] ∧ (roi 0).bad = false ∧ roiCrcOk (roi 0) = true ∧
    roiCrcOk (roi 1) = false ∧ (roi 0).blocks.length * 64 = (roi 0).size * (roi 0).size * 10 ∧ up.linkOf 0 < 32 ∧
    (up.head? 0).any (fun h => h.roiSize != 0) = true ∧
    (({ up with eph := { up.eph with eph := some { eph with heads := [{ head0 with roiSize := 0 }] } } } : State).head? 0).any
      (fun h => h.roiSize == 0) = true := by decide +kernel

def pass0 : DiffPass := { tick := 409600, started := 409600, alpha := 100, bias := 0 }

def passing (p : Peri) : State := { up with peri := p, time := { up.time with ix := 409600 } }

/-- PerihelionPassesAndGridCommands: the pass, and rectangles that end at the grid's last cell. -/
theorem meets_PerihelionPassesAndGridCommands :
    let r := entry 0x0301 [(0x18, 2, 2047), (0x1A, 2, 2047), (0x1C, 2, 1), (0x1E, 2, 1)] [] 2
    let l := entry 0x0341 [(0x18, 2, 0), (0x1A, 2, 0), (0x1C, 2, 1), (0x1E, 2, 1)] [5, 0] 2
    let i := framed (entry 0x0301 [(0x1C, 2, 672), (0x1E, 2, 1)])
    Dispatched 0x0301 r up (taken up r).1 (taken up r).2 ∧ Dispatched 0x0301 i up (taken up i).1 (taken up i).2 ∧
    Dispatched 0x0341 l up (taken up l).1 (taken up l).2 ∧ Dispatched 0x0341 l building (taken building l).1 (taken building l).2 ∧
    (passing {}).peri?.isSome = true ∧ (passing {}).power.core = true ∧ (passing {}).tickAt 4096 = true ∧
    ({} : Peri).pass = none ∧ ({ transition := true } : Peri).transition = true ∧
    ({ pass := some pass0 } : Peri).pass = some pass0 ∧ pass0.suspended = false ∧
    ({ transition := true, tickWaits := some 409600 } : Peri).tickWaits = some 409600 ∧
    r.u 0x18 2 + r.u 0x1C 2 ≤ 2048 ∧ (r.zeroFrom 0x20 32).1 = false ∧ r.bufLen.toNat = 2 ∧ l.dataLen = 2 ∧
    2 * 672 * 1 ≤ 1344 ∧ up.peri?.isSome = true ∧ (taken up l).2.peri.load = none ∧ up.planes.data = .idle ∧
    building.planes.data ≠ .idle ∧ swf pass0.newBase pass0.done = true ∧ swf (0 : Nat) ([] : List (Nat × Nat)) = true := by
  refine ⟨dispatched ?_, dispatched ?_, dispatched ?_, dispatched ?_, ?_⟩ <;> decide +kernel

/-- A capture of loop 1 with a square injection, and a unit in use. -/
def capture : Entry := entry 0x0543 [(0x18, 1, 1), (0x1A, 1, 2), (0x20, 4, 65536), (0x24, 4, 65535), (0x28, 2, 1),
  (0x30, 4, 65536), (0x34, 4, 65535)]

def used : CapUnit := { cfg := capture.capCfg, state := 3, rows := [[1, 2, 3, 4]] }

def inUse (n : Nat) : State := { up with
  tide := { up.tide with caps := updAll up.tide.caps fun i _ => if i < n then some used else none } }

def sets (op : W16) : Entry := entry op [(0x18, 1, 255), (0x1A, 2, 1)] (bytes 32 [(0, 1, 255)]) 32

theorem meets_LoopCommandsReadWriteAndCapture_commands :
    let st := entry 0x0500 [(0x18, 1, 1)]
    let x := entry 0x0544 [(0x18, 1, 1), (0x19, 1, 1)]
    let r := entry 0x0502 [(0x18, 1, 0), (0x20, 4, 1)] [] 16
    Dispatched 0x0500 st up (taken up st).1 (taken up st).2 ∧
    Dispatched 0x0501 (sets 0x0501) up (taken up (sets 0x0501)).1 (taken up (sets 0x0501)).2 ∧
    Dispatched 0x0540 (sets 0x0540) up (taken up (sets 0x0540)).1 (taken up (sets 0x0540)).2 ∧
    Dispatched 0x0543 capture up (taken up capture).1 (taken up capture).2 ∧
    Dispatched 0x0543 capture (inUse 1) (taken (inUse 1) capture).1 (taken (inUse 1) capture).2 ∧
    Dispatched 0x0544 x (inUse 2) (taken (inUse 2) x).1 (taken (inUse 2) x).2 ∧
    Dispatched 0x0502 r (inUse 1) (taken (inUse 1) r).1 (taken (inUse 1) r).2 := by
  refine ⟨dispatched ?_, dispatched ?_, dispatched ?_, dispatched ?_, dispatched ?_, dispatched ?_, dispatched ?_⟩ <;>
    decide +kernel

theorem meets_LoopCommandsReadWriteAndCapture_values :
    let st := entry 0x0500 [(0x18, 1, 1)]
    let x := entry 0x0544 [(0x18, 1, 1), (0x19, 1, 1)]
    let r := entry 0x0502 [(0x18, 1, 0), (0x20, 4, 1)] [] 16
    let e := sets 0x0540
    let c := capture.capCfg
    let w : SetSwitch := { at_ := 400001, first := 1, sets := [{}] }
    let s : State := { up with tide := { up.tide with setSwitches := [w] } }
    ((taken up st).2.loop? 1).isSome = true ∧ (st.zeroFrom 0x19 39).1 = false ∧ e.u 0x18 1 + e.u 0x1A 2 ≤ 256 ∧
    (e.zeroFrom 0x19 1).1 = false ∧ (e.zeroFrom 0x1C 36).1 = false ∧ e.dataLen = 32 ∧ e.d 0 1 = 255 ∧ e.d 1 3 = 0 ∧
    0 ≤ e.ds 28 4 ∧ ((taken up capture).2.loop? c.slot).isSome = true ∧ c.trigger ≤ 3 ∧ c.wave ≤ 3 ∧ c.point ≤ 1 ∧
    (∀ x ∈ c.signals, x ≤ 9) ∧ 1 ≤ c.rows ∧ c.rows ≤ 65536 ∧ c.pre < c.rows ∧ c.decim ≠ 0 ∧
    (capture.zeroFrom 0x2A 2).1 = false ∧ (c.trigger = 0 → c.trigArg = 0) ∧ 2 ≤ c.wave ∧ 1 ≤ c.half ∧ c.half ≤ 65535 ∧
    (capture.zeroFrom 0x38 8).1 = false ∧ nth none (taken up capture).2.tide.caps 0 = none ∧
    nth none (inUse 1).tide.caps 0 ≠ none ∧ nth none (inUse 1).tide.caps 1 = none ∧
    nth none (taken (inUse 2) x).2.tide.caps 1 ≠ none ∧ (x.zeroFrom 0x1A 38).1 = false ∧ x.u 0x19 1 ≤ 1 ∧
    (nth none (taken (inUse 1) r).2.tide.caps 0).map (fun c => (c.rows.length, c.bad)) = some (1, []) ∧ (r.zeroFrom 0x19 3).1 = false ∧
    (r.zeroFrom 0x24 28).1 = false ∧ r.bufLen.toNat = 16 ∧
    (s.tide.setSwitches.find? fun w => decide (w.at_ ≤ s.ix + 1)) = some w ∧ (s.coefSet 1).isEmpty = false ∧
    ({} : CoefSet).isEmpty = true := by decide +kernel

/-- LoopsUpdateAndTrip: loop 1 at its PERIOD, in manual and, far from its setpoint, about to trip. -/
def loopUp (l : TideLoop) : State := { up with tide := { up.tide with loops := [l] } }

theorem meets_LoopsUpdateAndTrip :
    let calm : TideLoop := { entry := loop1, setSel := 1 }
    let l : TideLoop := { entry := loop1, setSel := 1, auto := true, started := true, spReg := 655360000, feCount := 100 }
    let ch := (chooseSet up.tide.sets 1 l).1
    let r := tideUpdate ch.vals { sp := l.spReg, pv := 65536, f := 0, valid := true, opened := false } ch
    let bare : State := { loopUp calm with eph := { up.eph with eph := some { eph with routes := [] } } }
    (∀ x ∈ [calm, l], (loopUp x).loop? 1 = some x) ∧ loop1.kind ≠ 1 ∧ up.ix ≠ 0 ∧ up.tickAt loop1.period = true ∧
    (loopUp { entry := loop0 }).loopHead? { entry := loop0 } = some 0 ∧ (loopUp l).tide.injected 1 0 = 0 ∧
    bare.loop? 1 = some calm ∧ bare.sink? 1 1 0 = none ∧ bare.tickAt loop1.period = true ∧ up.sink? 3 1 0 = none ∧
    up.sink? 1 1 0 = some (65536, true) ∧ up.tide.caps = Vector.replicate 2 none ∧ up.coefSet 1 = set1 ∧
    set1.isEmpty = false ∧ up.sink? 2 1 0 = none ∧ r.2.trip = true ∧
    ({ up with time := { up.time with ix := 400001 } } : State).tickAt loop1.period = false := by decide +kernel

theorem meets_LoopOutputsStayInTheirBounds :
    set1.isEmpty = false ∧ 0 ≤ set1.outSlew ∧ ({ set1 with outSlew := 1 } : CoefSet).outSlew ≠ 0 ∧
    set1.outMin ≤ ({ entry := loop1 } : TideLoop).y ∧ ({ entry := loop1 } : TideLoop).y ≤ set1.outMax ∧
    ({ entry := loop1, auto := true } : TideLoop).modeReq = none := by decide +kernel

/-! ## Moonlinks -/

/-- Moonlink 0 in a state. -/
def linked (l : Link) : State := { up with links := upd up.links 0 fun _ => l }

/-- A CAPS message of the head that `eph` declares, with model `m`. -/
def caps (m : Nat) : List Byte :=
  let b := bytes 60 [(0, 1, 1), (2, 2, 1), (4, 2, m), (6, 2, 1), (0x1A, 1, 16), (0x1B, 1, 1), (0x1C, 1, 1)]
  b ++ leBytes 4 (crc32c b).toNat

/-- LinksComeUpStepByStep: every state that a clause names, and both outcomes of a CAPS message. -/
theorem meets_LinksComeUpStepByStep :
    (∀ st ∈ [LinkState.detect, .train, .lock, .backoff, .caps, .active], ((linked { state := st }).link 0).state = st) ∧
    ((linked { state := .lock, blockLock := true }).link 0).blockLock = true ∧
    ((linked { state := .backoff, lastTry := true }).link 0).lastTry = true ∧ sideOk 1 (caps 1) = true ∧
    ((linked { state := .caps, sideIn := some (caps 1) }).link 0).sideIn = some (caps 1) ∧
    (linked {}).linkHead? 1 = none ∧ (head0.forceDetect = false) ∧
    ({ head0 with forceDetect := true } : EphHead).forceDetect = true ∧ sideOk 1 (caps 2) = true ∧ (linked {}).linkHead? 0 = some head0 ∧ capsReason head0 0 (parseCaps (caps 1)) = 0 ∧
    capsReason head0 0 (parseCaps (caps 2)) = 2 ∧ head0.head < 32 := by decide +kernel

/-- An uplink frame with SEQ `q` and HSTAT `h`, its CRC off by `err`. -/
def uplink (q err : Nat) (h : Nat := 1) : UplinkFrame :=
  let b := bytes 28 [(0, 1, 0x4B), (1, 2, q), (7, 1, h)]
  { syncOk := true, bytes := b ++ leBytes 4 (((crc32c b).toNat + err) % 2 ^ 32) }

def loopAck : List Byte :=
  let b := bytes 60 [(0, 1, 4), (1, 1, 1)]
  b ++ leBytes 4 (crc32c b).toNat

theorem meets_UplinkFramesAndLinkLoss :
    let l : Link := { state := .active, frameLock := true, lastSeq := some 0xFFFF, badRun := 7 }
    ((linked l).link 0).frameLock = true ∧ frameSound (uplink 0 0) = true ∧ frameSound (uplink 0 1) = false ∧
    (uAt (uplink 0 0).bytes 7 1).testBit 1 = false ∧ l.lastSeq = some (BitVec.ofNat 16 (uAt (uplink 0 0).bytes 1 2) - 1) ∧
    (uAt (uplink 0 0 2).bytes 7 1).testBit 1 = true ∧ frameSound (uplink 0 0 2) = true ∧
    seqDiff 16 0xFFFE ((0xFFFF : W16).toNat + 1) < 0 ∧ seqDiff 16 7 ((0xFFFF : W16).toNat + 1) = ((6 + 1 : Nat) : Int) ∧
    seqDiff 16 8 ((0xFFFF : W16).toNat + 1) = ((7 + 1 : Nat) : Int) ∧ l.badRun < 8 ∧ LinkState.caps.framed = true ∧
    BitVec.ofNat 16 (uAt (uplink 1 0).bytes 1 2) = ({ lockRun := 3, lockSeq := 0 } : Link).lockSeq + 1 ∧
    (uplink 1 0).syncOk = true ∧ uAt (uplink 1 0).bytes 0 1 = 0x4B ∧
    ((linked { state := .test, test := 3 }).link 0).state = .test ∧ ({ dnErrRun := 7 } : Link).dnErrRun = 7 ∧
    ((linked l).link 0).state = .active ∧ 7 ≤ l.badRun ∧ ((linked { l with badRun := 6 }).link 0).badRun < 7 ∧
    ((linked { state := .lock }).link 0).state ≠ .active ∧ (linked l).linkHead? 0 = some head0 ∧
    (linked l).declared head0.head = true ∧ ((linked { loopWait := true, sideIn := some loopAck }).link 0).loopWait = true ∧
    ((linked { loopWait := true, sideIn := some loopAck }).link 0).sideIn = some loopAck ∧
    sideOk 4 loopAck = true ∧ uAt loopAck 1 1 = 1 := by decide +kernel

/-! ## Halo and memory -/

def lit (h : HaloCh) (x : Halo → Halo := id) : State := { up with
  halo := x { up.halo with ch := upd up.halo.ch 23 fun _ => h } }

def fade0 : HaloFade := { d0 := 0, d1 := 100, k := 2, step := 1, exp := false, current := none }

theorem meets_HaloChannelsLightFadeAndFault :
    let st := entry 0x0800 [(0x18, 1, 23)]
    let set := entry 0x0840 [(0x18, 4, 0x800000), (0x1C, 2, 4000), (0x1F, 1, 2), (0x20, 2, 5)]
    let cur := entry 0x0840 [(0x18, 4, 0x800000), (0x1C, 2, 1), (0x1E, 1, 1)]
    let nt := entry 0x0841 []
    Dispatched 0x0800 st up (taken up st).1 (taken up st).2 ∧ Dispatched 0x0840 set up (taken up set).1 (taken up set).2 ∧
    Dispatched 0x0840 cur up (taken up cur).1 (taken up cur).2 ∧ Dispatched 0x0841 nt up (taken up nt).1 (taken up nt).2 ∧
    st.u 0x18 1 ≤ 23 ∧ (st.zeroFrom 0x19 39).1 = false ∧ set.u 0x1F 1 ≤ 3 ∧ (set.zeroFrom 0x22 30).1 = false ∧
    set.u 0x18 4 < 2 ^ 24 ∧ ((taken up set).2.haloEntry? 23).any (fun h => decide (set.u 0x1C 2 ≤ h.dutyMax)) = true ∧
    (set.u 0x1F 1).testBit 1 = true ∧ (cur.u 0x1F 1).testBit 1 = false ∧
    (taken up cur).2.haloOver (fun c => if (bitsSet 0x800000 24).contains c then some 1 else none) = false ∧
    cur.u 0x20 2 = 0 ∧ set.u 0x20 2 ≠ 0 ∧ (nt.zeroFrom 0x18 40).1 = false ∧ up.inBuild = false ∧
    (lit {} fun x => { x with ntestPending := true }).halo.ntestPending = true ∧ up.halo.exposing = 0 ∧
    (lit {} fun x => { x with ntestRun := true }).halo.ntestRun = true ∧
    ((lit { fade := some fade0 }).haloCh 23).fade = some fade0 ∧ 0 + 80000000 ≤ 79999999 + 1 ∧
    (let s : State := { lit { lastPass := some 0 } with time := { up.time with ix := 79999999 } }
     (s.haloCh 23).lastPass = some 0 ∧ 0 + 80000000 ≤ s.ix + 1) ∧
    (lit { onTime := 4000000 }).haloEntry? 23 = (eph.halo.getD halo0).channels[23]? ∧ ((lit {}).haloCh 23).budget = false ∧
    4000 * 4000000 ≤
      ((((lit { onTime := 4000000 }).settleHalo (up.ix + 1) 23).haloCh 23).countStrobe (up.ix + 1)).onTime * 65536 ∧
    up.tickAt 400000 = true ∧ up.haloSect?.any (·.stretchOn) = true ∧ ((lit { dutyNow := 1000 }).haloCh 23).dutyNow ≠ 0 ∧
    (lit { dutyNow := 1000 }).onCounts 1000 < 80 ∧ up.heldDark 23 = false ∧ 24000 < 23501 + 500 := by
  refine ⟨dispatched ?_, dispatched ?_, dispatched ?_, dispatched ?_, ?_⟩ <;> decide +kernel

/-- A frame of sensor 0 whose window opens 3 samples from now. -/
def frame0 : CamFrame := { number := 1, gen := 0, expUs := 1000, trig := 400003, winStart := 400003, winEnd := 404003 }

def window0 : CamWin := { frame := 1, start := 400003, fin := 404003 }

def imaging (x : Sensor) : State := { up with camera := { up.camera with sensors := upd up.camera.sensors 0 fun _ => x } }

theorem meets_PwmPeriodsAndStrobesDriveTheSinks :
    let pulse := lit { dutyNow := 1000 }
    let stretch := lit { dutyNow := 1000, stretchDue := true }
    (up.haloEntry? 23).isSome = true ∧ (lit { off := true }).heldDark 23 = true ∧ pulse.heldDark 23 = false ∧
    pulse.wireHigh 23 = false ∧ (pulse.haloCh 23).stretchDue = false ∧ pulse.onCounts 1000 < 80 ∧
    (stretch.haloCh 23).stretchDue = true ∧ stretch.halo.exposing = 0 ∧ 1 ≤ stretch.onCounts 1000 ∧
    (imaging { cur := some frame0, wins := [window0] }).windowNear 0 (up.ix + 1) 40 = true ∧
    (imaging { cur := some frame0, wins := [window0] }).windowNear 0 (up.ix + 1) 4 = true ∧
    up.windowNear 0 (up.ix + 1) 40 = false ∧ up.strobes 0 0 = true := by decide +kernel

theorem meets_MemoryIsRefreshedScrubbedAndChecked :
    let c := framed (entry 0x0F01 [(0x18, 1, 1), (0x19, 1, 3)] [1, 2, 3])
    let t := entry 0x0F40 [(0x18, 1, 31), (0x19, 1, 1)]
    let sv : State := { up with host := { up.host with slots := up.host.slots.map fun x => { x with held := 15 } } }
    let scrub : State := { up with mem := { up.mem with scrubRun := true } }
    let sw : State := { up with mem := { up.mem with fsp := .switching, fspTo := .low } }
    Dispatched 0x0F01 c sv (taken sv c).1 (taken sv c).2 ∧ Dispatched 0x0F40 t up (taken up t).1 (taken up t).2 ∧
    up.power.core = true ∧ up.mem.trained = true ∧ up.mem.nrK = 0 ∧ scrub.mem.scrubRun = true ∧
    up.mem.fsp = .atRate ∧ up.planes.data = .idle ∧ up.mem.fspOn = true ∧
    4000000 ≤ ({ up.mem with idleFor := 3999999 } : Memory).idleFor + 1 ∧ sw.mem.fsp = .switching ∧ sw.mem.fspUp = false ∧
    c.u 0x19 1 ≤ 3 ∧ (c.zeroFrom 0x1A 6).1 = false ∧ (c.zeroFrom 0x2C 4).1 = false ∧ (c.zeroFrom 0x38 8).1 = false ∧
    c.u 0x18 1 ≤ 2 ∧ (c.u 0x18 1 < 2 → (BitVec.ofNat 64 (c.u 0x30 8)).toNat < 2 ^ 32) ∧ c.dataLen ≠ 0 ∧ c.inline = true ∧
    c.dataLen ≤ 1344 ∧ nth 0 (taken sv c).2.mem.crcOwner (4 + 0) = 0 ∧ 1 ≤ t.u 0x18 1 ∧ t.u 0x18 1 ≤ 31 ∧
    t.u 0x19 1 ≤ 1 ∧ allZero (t.bytes 0x1A 38) = true ∧ (taken up t).2.inBuild = false := by
  refine ⟨dispatched ?_, dispatched ?_, ?_⟩ <;> decide +kernel
/-! ## Motion and cameras -/

def moving (x : Axis) : State := { up with axes := upd up.axes 0 fun _ => x }

/-- Axis 0 at rest, homed; and one that runs at V_MAX. -/
def idle : Axis := { mode := .idle, homed := true, v := 100000, a := 1000000 }

def run (target : Int) : Axis := { idle with
  mode := .move, target := target, plan := [{ at_ := 400000, p := 0, v := 1 / 40, a := 0, j := 0 }], pNext := 2 }

def axCmd (op : W16) (fields : List (Nat × Nat × Nat)) : Entry := entry op fields

def goTo (g : Nat) : Entry := axCmd 0x0642 [(0x1C, 4, g)]

def dyn : Entry := axCmd 0x0646 [(0x1C, 4, 100000), (0x20, 4, 1000000)]

/-- AxisCommandsActAtTheNextTick: the entries that the dispatcher takes. -/
theorem meets_AxisCommandsActAtTheNextTick_entries :
    (∀ p ∈ [(0x0640#16, axCmd 0x0640 [(0x19, 1, 1)], { idle with mode := .disabled }),
        (0x0640#16, axCmd 0x0640 [], idle), (0x0600#16, axCmd 0x0600 [], idle), (0x0641#16, axCmd 0x0641 [], idle),
        (0x0642#16, goTo (2 ^ 32 - 1000), idle), (0x0642#16, goTo 100000, idle),
        (0x0643#16, axCmd 0x0643 [(0x1C, 4, 100)], idle), (0x0644#16, axCmd 0x0644 [], idle),
        (0x0645#16, axCmd 0x0645 [(0x19, 1, 1)], run 100000), (0x0646#16, dyn, idle), (0x0646#16, dyn, run 100000),
        (0x0646#16, dyn, run 1)],
      takes p.1 (moving p.2.2) p.2.1 = true) := by decide +kernel

theorem meets_AxisCommandsActAtTheNextTick_values :
    let now := nextTick (moving idle).ix
    let g := goTo (2 ^ 32 - 1000)
    let j := axCmd 0x0643 [(0x1C, 4, 100)]
    (moving idle).axisEntry? 0 = some axis0 ∧ (moving idle).axis 0 = idle ∧ (moving idle).recoatDrives 0 = false ∧
    idle.mode ≠ .disabled ∧ axis0.ssi = false ∧ ((axCmd 0x0640 [(0x19, 1, 1)]).zeroFrom 0x1A 38).1 = false ∧
    ((axCmd 0x0600 []).zeroFrom 0x19 39).1 = false ∧ g.s 0x1C 4 = axis0.softMin ∧ (goTo 100000).s 0x1C 4 = axis0.softMax ∧
    (g.zeroFrom 0x1A 2).1 = false ∧ (g.zeroFrom 0x20 32).1 = false ∧ idle.limPos.qualified = false ∧
    idle.limNeg.qualified = false ∧ idle.homed = true ∧ j.s 0x1C 4 ≠ 0 ∧ absI (j.s 0x1C 4) ≤ (idle.freshDyn.v : Int) ∧
    axis0.stepIn = true ∧ (run 1).mode.moves = true ∧ (run 1).mode ≠ .stopping ∧ dyn.u 0x1C 4 ≤ axis0.vMax ∧
    dyn.u 0x20 4 ≤ axis0.aMax ∧ (idle.acts axis0 now).dynFits axis0 (axDyn 100000 1000000 axis0.jMax) now = true ∧
    ((run 100000).acts axis0 now).dynFits axis0 (axDyn 100000 1000000 axis0.jMax) now = true ∧
    ((run 1).acts axis0 now).dynFits axis0 (axDyn 100000 1000000 axis0.jMax) now = false := by decide +kernel

theorem meets_AxisCommandsActAtTheNextTick_resume :
    let e := axCmd 0x0647 []
    let s : State := { moving idle with recoat := { state := .failed, failState := .traverse, failed := [{ axis := 0, target := 5 }] } }
    Dispatched 0x0647 e s (taken s e).1 (taken s e).2 ∧ (e.zeroFrom 0x18 40).1 = false ∧
    ((taken s e).2.slot (taken s e).1.slot).held &&& rolePilot ≠ 0 ∧ (taken s e).2.recoat.state = .failed ∧
    (taken s e).2.recoat.running = [] ∧
    (∀ m ∈ (taken s e).2.recoat.failed, ((taken s e).2.axis m.axis).mode ≠ .disabled ∧ ((taken s e).2.axis m.axis).homed = true) ∧
    (∃ m ∈ s.recoat.failed, (({ s with axes := (moving { idle with homed := false }).axes } : State).axis m.axis).homed = false) :=
  ⟨dispatched (by decide +kernel), by decide +kernel⟩

theorem meets_AxisInputsStopLatchAndCount :
    let homing : Axis := { idle with mode := .homing, homeStage := .approach }
    let ssi : State := { moving { idle with ssiRun := true } with eph := { up.eph with eph := some { eph with
      axes := [{ axis0 with quad := false, ssi := true }] } } }
    (moving (run 5000)).axisEntry? 0 = some axis0 ∧ (run 5000).limPos.raw = false ∧ (run 5000).limPos.window = false ∧
    axis0.active .limPos true = true ∧ (run 5000).mode ≠ .homing ∧ (run 5000).mode.moves = true ∧
    (run 5000).towards true = true ∧ (run 5000).towards false = false ∧ homing.limPos.qualified = false ∧ homing.mode = .homing ∧ homing.homeTarget axis0 ≠ .limPos ∧
    homing.homeStage = .approach ∧ (homing.switch (homing.homeTarget axis0)).raw = false ∧
    axis0.active (homing.homeTarget axis0) true = true ∧ axis0.debounce ≠ 0 ∧
    ({ idle with home := { window := true } } : Axis).home.window = true ∧ ({ idle with mode := .follow } : Axis).mode = .follow ∧
    idle.followRate ≥ 0 ∧ idle.followFrom ≤ 400080 ∧ (idle.planAt 400080).p ≤ idle.followT ∧ axis0.quad = true ∧ idle.ab = 0 ∧
    ({ idle with ab := 2 } : Axis).ab = 2 ∧ (ssi.axisEntry? 0).any (·.ssi) = true ∧ (ssi.axis 0).ssiRun = true ∧
    bitOf (ssi.axis 0).cfg 16 = false := by decide +kernel

theorem meets_HomedAxesStayWithinTheirSoftLimits :
    axis0.softMin ≤ axis0.softMax ∧ idle.homed = true ∧ idle.mode ≠ .disabled ∧ ({} : Axis).mode = .disabled ∧
    up.power.core = true ∧ up.tickAt tickLen = true ∧
    ({ up with time := { up.time with ix := 400001 } } : State).tickAt tickLen = false := by decide +kernel

/-- A delivered frame of sensor 0 with two rows of pixels and one embedded line. -/
def stored : CamStored := {
  frame := { frame0 with emb := [[1, 2]] }, hist := List.replicate 256 0, zones := List.replicate 256 none
  pixels := some [[1, 2], [3, 4]] }

def delivered : State := imaging { stored := [stored], delivered := 1, lastFrame := 1 }

def rows (emb row n : Nat) : Entry := entry 0x0702 [(0x19, 1, emb), (0x20, 2, row), (0x22, 2, n)] [] 64

theorem meets_CameraCommandsReadTriggerAndLoad_reads :
    (∀ p ∈ [(0x0700#16, entry 0x0700 [(0x1C, 4, 1)] [] 32), (0x0701#16, entry 0x0701 [] [] 1024),
        (0x0703#16, entry 0x0703 [] [] 512), (0x0702#16, rows 0 1 1), (0x0702#16, rows 1 0 1)],
      takes p.1 delivered p.2 = true ∧ p.2.u 0x18 1 = 0 ∧ (p.2.zeroFrom 0x24 28).1 = false) ∧
    (delivered.sensorEntry? 0).isSome = true ∧ (delivered.sensor 0).delivered = 1 ∧
    (delivered.sensor 0).stored.find? (fun d => d.frame.number == 1) = some stored ∧
    ((entry 0x0701 [] [] 1024).zeroFrom 0x19 3).1 = false ∧ ((entry 0x0701 [] [] 1024).zeroFrom 0x20 32).1 = false ∧
    1 + 1 ≤ [[1, 2], [3, 4]].length ∧ 0 + 1 ≤ stored.frame.emb.length ∧ ((rows 1 0 1).zeroFrom 0x1A 2).1 = false ∧
    4 ≤ (rows 0 1 1).room ∧ (up.mem.poison.filter fun p => decide (2 ≤ p.1)) = [] := by decide +kernel

theorem meets_CameraCommandsReadTriggerAndLoad_loads :
    let t := entry 0x0740 [(0x18, 1, 1)]
    let d := entry 0x0741 [(0x1A, 2, 2)] (leBytes 4 7 ++ leBytes 4 0x10000) 8
    let g := entry 0x0742 [] (List.replicate 578 0) 578
    let near : Sensor := { trig := 0x64003C }
    let free := imaging near
    let busy := imaging { near with cur := some frame0 }
    Dispatched 0x0740 t free (taken free t).1 (taken free t).2 ∧
    Dispatched 0x0740 t up (taken up t).1 (taken up t).2 ∧ Dispatched 0x0740 t busy (taken busy t).1 (taken busy t).2 ∧
    Dispatched 0x0741 d up (taken up d).1 (taken up d).2 ∧ Dispatched 0x0742 g up (taken up g).1 (taken up g).2 ∧
    (t.zeroFrom 0x19 39).1 = false ∧ (t.u 0x18 1).testBit 0 = true ∧ (t.u 0x18 1).testBit 1 = false ∧
    (∀ k, k < 8 → (t.u 0x18 1).testBit k = true → (up.sensorEntry? k).isSome = true) ∧
    ((taken busy t).2.sensor 0).cur.isSome = true ∧ ((taken up t).2.sensor 0).cur = none ∧ d.u 0x1A 2 ≤ 4096 ∧
    4 * fieldOf near.trig 15 0 = 240 ∧ 4 * fieldOf (up.sensor 0).trig 15 0 < 240 ∧ up.time.preEpoch = false ∧
    up.ctxDeclared 0 = true ∧ d.dataLen = 4 * d.u 0x1A 2 ∧ (∀ j, j < 2 → j + 1 < 2 → d.d (4 * j) 4 < d.d (4 * (j + 1)) 4) ∧
    (d.zeroFrom 0x1C 36).1 = false ∧ g.dataLen = 578 ∧ (g.zeroFrom 0x19 39).1 = false := by
  refine ⟨dispatched ?_, dispatched ?_, dispatched ?_, dispatched ?_, dispatched ?_, ?_⟩ <;> decide +kernel

/-- FramesOpenFillAndClose: the premises of each event on sensor 0. -/
def open0 : CamFrame := { frame0 with opened := true, fs := 1 }

def packet (n : Nat) : CsiPacket := { vc := 0, dt := 0x2B, payload := List.replicate n 0 }

theorem meets_FramesOpenFillAndClose_packets :
    let full : CamFrame := { open0 with lines := List.replicate 64 [] }
    let crowded := imaging { cur := some open0, closing := [{ open0 with closed := true, lines := List.replicate 2048 [] }] }
    up.vcSensor? 1 3 = none ∧ up.vcSensor? 0 0 = some sensor0 ∧ (up.sensor 0).cur = none ∧
    ((imaging { cur := some frame0 }).sensor 0).cur = some frame0 ∧ frame0.opened = false ∧ open0.opened = true ∧
    (packet 80).vc = 0 ∧ (packet 80).dt = sensor0.dataType ∧ sensor0.dataType ≠ 0x12 ∧
    (packet 80).payload.length = sensor0.width * 10 / 8 ∧ (packet 79).payload.length ≠ sensor0.width * 10 / 8 ∧
    sensor0.height ≤ full.lines.length ∧ open0.lines.length < sensor0.height ∧
    2048 < crowded.blocksUsed + sensor0.lineBlocks ∧
    (imaging { cur := some open0 }).blocksUsed + sensor0.lineBlocks ≤ 2048 := by decide +kernel

theorem meets_FramesOpenFillAndClose_events :
    let x : Sensor := { trig := 0x40640000, period := 400000 }
    let u : CamUnit := { sensor := 0, frame := 1, lines := 64 }
    let done : CamFrame := { open0 with opened := true, closed := true, lines := List.replicate 64 (List.replicate 64 0) }
    let s : State := { imaging x with camera := { (imaging x).camera with unit := some u } }
    up.sensorEntry? 0 = some sensor0 ∧ sensor0.sensor = 0 ∧ bitOf x.trig 30 = true ∧ up.tickAt x.period.toNat = true ∧
    x.cur = none ∧ ({ x with cur := some frame0 } : Sensor).cur.isSome = true ∧
    open0.fs + 4000 * fieldOf x.trig 27 16 ≤ up.ix + 1 ∧ ({ frame0 with winEnd := 1 } : CamFrame).winEnd + 400000 ≤ up.ix + 1 ∧
    (let w : CamWin := { window0 with fin := 400001 }
     let e := imaging { wins := [w] }
     (e.sensor 0).wins = [w] ∧ w.fin ≤ e.ix + 1 ∧ (e.closeWindow 0 []).windowNear 0 (e.ix + 1) 4 = false) ∧
    up.ix + 1 < window0.fin ∧ s.camera.unit = some u ∧ u.sensor = 0 ∧
    u.frame = open0.number ∧ open0.closed = false ∧ sensor0.mode ≠ 0 ∧ done.closed = true ∧ u.frame = done.number ∧
    done.done + u.lines = done.lines.length ∧ ({ x with writing := some {} } : Sensor).writing = some {} ∧ x.pending = none ∧
    0x3500 ∈ ({ expCci := 0x35000001 } : ExpSet).writes.map (fieldOf · 31 16) ∧ 0x3500 ∉ x.retried ∧
    0x3500 ∈ ({ x with retried := [0x3500] } : Sensor).retried := by decide +kernel

theorem meets_FrameRecordsHaveTheirLayout :
    255 < 256 ∧ frame0.ctx < 256 ∧ frame0.number < 2 ^ 32 ∧ frame0.lines.length < 2 ^ 16 ∧ frame0.extra < 2 ^ 16 ∧
    frame0.emb.length < 256 ∧ frame0.expUs < 2 ^ 32 ∧ ((2 ^ 31 - 1 : Nat) : Int) - (0 : Nat) < 2 ^ 31 ∧
    -(2 ^ 31) ≤ ((0 : Nat) : Int) - (2 ^ 31 : Nat) := by decide +kernel

/-! ## Time, ring and display -/

def timed (x : TimeState → TimeState) : State := { up with time := x up.time }

/-- With another RING section. -/
def ringed (r : EphRing) : State := { up with eph := { up.eph with eph := some { eph with ring := r } } }

theorem meets_MachineTimeIsReadSetAndDerived :
    let r := entry 0x0A00 []
    let w := entry 0x0A40 [(0x18, 8, 2 ^ 48 - 1), (0x20, 4, 999999999)]
    Dispatched 0x0A00 r up (taken up r).1 (taken up r).2 ∧ Dispatched 0x0A40 w up (taken up w).1 (taken up w).2 ∧
    (r.zeroFrom 0x18 40).1 = false ∧ (w.zeroFrom 0x24 28).1 = false ∧ w.u 0x18 8 < 2 ^ 48 ∧ w.u 0x20 4 < 1000000000 ∧
    up.time.state = .unset ∧ up.planes.data = .idle ∧ (timed fun t => { t with setTo := some 5 }).time.setTo = some 5 ∧
    up.time.setTo = none ∧ (timed fun t => { t with preEpoch := true }).time.preEpoch = true ∧
    (timed fun t => { t with state := .freeRun }).time.state = .freeRun ∧ up.time.preEpoch = false ∧
    (ringed { ring0 with epochS := 1 }).time.t < (ringed { ring0 with epochS := 1 }).epoch ∧
    (timed fun t => { t with preEpoch := true }).epoch ≤ up.time.t ∧ (0 : Rat) ≤ 1 / 800 ∧ (-1 / 800 : Rat) ≤ 0 ∧
    (-11000000 : Rat) ≤ 11000000 :=
  ⟨dispatched (by decide +kernel), dispatched (by decide +kernel), by decide +kernel⟩

/-- A frame of a partner, a copy of which port `d` has seen. -/
def frame1 : RingFrame := { src := 2, dst := 3, etherType := 0x892F, seq := 9, length := 64 }

def seen (d : Nat) : State := timed fun t => { t with dupTable := [{ mac := 2, seq := 9, dir := d, at_ := t.t }] }

def ports (x : Nat → RingPort → RingPort) : State := timed fun t => { t with ports := updAll t.ports x }

theorem meets_RingFramesAreForwardedTakenOrDropped :
    let full := ports fun _ p => { p with queueBits := 16384 * 8 }
    let oos := ports fun i p => { p with oos := decide (i = 1) }
    let star := ringed { ring0 with mode := 2, portB := false }
    let out := ports fun _ p => { p with oos := true }
    State.reset.ringUp 0 = false ∧ (∃ e ∈ (seen 1).dupLive, e.mac = frame1.src ∧ e.seq = frame1.seq ∧ e.dir = 1) ∧
    (∀ e ∈ (seen 1).dupLive, ¬ (e.mac = frame1.src ∧ e.seq = frame1.seq ∧ e.dir = 0)) ∧ (seen 1).ringUp 0 = true ∧
    (seen 0).ringUp 0 = true ∧ (out.ringPort 0).oos = true ∧ (out.ringPort 1).oos = true ∧ (oos.ringPort 0).oos = false ∧
    (up.ringPort 1).oos = false ∧ State.reset.power.core = false ∧ star.ringPortUsed 1 = false ∧ (oos.ringPort 1).oos = true ∧
    up.ringUp 0 = true ∧ up.ringMode = 1 ∧ (∃ e ∈ (seen 0).dupLive, e.mac = frame1.src ∧ e.seq = frame1.seq ∧ e.dir = 0) ∧
    (∀ e ∈ up.dupLive, ¬ (e.mac = frame1.src ∧ e.seq = frame1.seq)) ∧ frame1.src ≠ up.ownMac ∧ frame1.dst ≠ up.ownMac ∧
    (up.ringPort 1).oos = false ∧ (up.ringPort 1).queueBits = 0 ∧ (full.ringPort 1).queueBits ≠ 0 ∧
    ¬ (full.ringPort 1).queueBits + 8 * frame1.length ≤ 16384 * 8 ∧ oos.ringUp 0 = true ∧ (oos.ringPort 1).oos = true ∧
    ({ frame1 with src := up.ownMac } : RingFrame).src = up.ownMac ∧
    ({ frame1 with dst := supervisionMac } : RingFrame).dst = supervisionMac ∧
    (!frame1.fcsOk || decide (frame1.length < 64) || decide (1528 < frame1.length)) = false ∧ star.ringMode ≠ 1 ∧
    star.ringUp 0 = true ∧ up.power.core = true ∧ (up.ringPort 0).oos = false ∧ up.ringPortUsed 1 = true := by
  decide +kernel

/-- A Sync sent 1 ns before the machine time of `up`. -/
def sync (q : W16) (two : Bool) : PtpMsg := { seq := q, twoStep := two, origin := 6553600000000 - 65536 }

/-- One at offset `o`. -/
def late (o : Int) : PtpMsg := { sync 0 false with origin := 6553600000000 - o }

/-- The offset that it gives on a port without delay. -/
def offsetOf (s : State) (m : PtpMsg) : Int := ((s.time.t : Nat) : Int) - (m.origin + m.correction + (s.ringPort 0).meanDelay)

def heard (x : PtpDomain) (st : ServoState) (d : DataState := .idle) : State :=
  { (timed fun t => { t with domains := upd t.domains 0 fun _ => x, state := st }) with planes := { up.planes with data := d } }

theorem meets_SyncsMeasureAndSteerTheServo :
    let x : PtpDomain := {
      announceValid := true, lastSeq := some 0xFFFF, prev := some (6553599000000, 6553599000000), near := 7 }
    let w : TwoStep := { seq := 0, port := 0, t2 := 6553600000000, corr := 0 }
    let s := heard x .acquiring
    let b := heard x .locked .build
    let dup := { s with time := { s.time with dupTable := [{ mac := 0, seq := 0, dir := 0, at_ := s.time.t }] } }
    State.reset.ringUp 0 = false ∧ s.domainOf? 7 = none ∧
    s.ringUp 0 = true ∧ s.domainOf? 0 = some 0 ∧ (s.domain 0).lastSeq = some 0xFFFF ∧
    (s.ringEnter 0 (sync 0 false).src (sync 0 false).hsrSeq).2.2 = true ∧ s.fromParent 0 (sync 0 false) = true ∧
    (dup.ringEnter 0 (sync 0 false).src (sync 0 false).hsrSeq).2.2 = false ∧ dup.ringUp 0 = true ∧
    s.fromParent 0 { sync 0 false with source := 1 } = false ∧ s.fromParent 0 (sync 0xFFFE false) = true ∧
    (s.domain 0).prev = some (6553599000000, 6553599000000) ∧ (6553599000000 : Int) < ((s.time.t : Nat) : Int) ∧
    (heard { announceValid := true } .unset).fromParent 0 (sync 0 false) = true ∧
    ((heard { announceValid := true } .unset).domain 0).lastSeq = none ∧ (heard { announceValid := true } .unset).ringUp 0 = true ∧
    (heard { announceValid := true } .unset).time.state = .unset ∧ (heard x .freeRun .build).time.state = .freeRun ∧
    seqDiff 16 (0xFFFE : W16).toNat (0xFFFF : W16).toNat < 0 ∧ 0 < seqDiff 16 (sync 0 false).seq.toNat (0xFFFF : W16).toNat ∧
    (sync 0 false).twoStep = false ∧ (sync 0 true).twoStep = true ∧
    ((heard { x with waiting := some w } .locked).domain 0).waiting = some w ∧ w.seq = (sync 0 true).seq ∧
    (heard { x with waiting := some w } .locked).fromParent 0 (sync 0 true) = true ∧ w.seq ≠ (sync 1 true).seq ∧
    offsetOf s (sync 0 false) = 65536 ∧ (offsetOf s (late 65536000)).natAbs ≤ 65536000 ∧
    65536000 < (offsetOf s (late (-65536001))).natAbs ∧ 0 = s.selectedDomain ∧ s.time.state = .acquiring ∧
    s.planes.data = .idle ∧ b.planes.data ≠ .idle ∧ b.time.state = .locked ∧ b.fromParent 0 (late 6553600) = true ∧
    ((offsetOf b (late 6553600)).natAbs : Int) ≤ b.switchLimit ∧
    b.switchLimit < ((offsetOf b (late (-6553601))).natAbs : Int) := by decide +kernel

/-- The servo locked to domain A, with domain B fresh or not at offset `o`. -/
def twoDomains (fresh : Bool) (o : Int) : State := timed fun t => { t with
  state := .locked
  domains := updAll t.domains fun i _ => if i = 0 then { announceValid := true, syncValid := true, best := { gm := 5 } }
    else { lastSync := if fresh then some t.t else none, offset := o } }

theorem meets_DomainsAreLostAndPathDelaysMeasured :
    let s := twoDomains true 6553600
    let held := timed fun t => { t with state := .holdover, holdSince := 0, clock := 65536000000000 * 2 ^ 32 }
    let m (source : Nat) : PtpMsg := { sync 0 false with source := source }
    let old (l : Int) : PtpDomain :=
      { announceValid := true, syncValid := true, best := { logInterval := l }, lastSync := some up.time.t }
    let a := heard (old (-8)) .locked
    let asked := ports fun _ p => { p with pdelay := { seq := 4, t1 := some 1, resp := some (3, 2) } }
    State.reset.ringUp 0 = false ∧ State.reset.ringUp 1 = false ∧ s.ringUp 0 = true ∧ s.domainOf? (m 0).domain = some 0 ∧
    s.domainOf? 7 = none ∧ (s.ringEnter 0 (m 0).src (m 0).hsrSeq).2.2 = true ∧
    ((seen 1).ringEnter 0 2 9).2.2 = false ∧ (m 0).source = (s.domain 0).parent ∧ (m 1).source ≠ (s.domain 0).parent ∧
    (up.domain 0).announceValid = false ∧ (s.domain 0).announceValid = true ∧
    (a.domain 0).announceAt + (a.domain 0).announceWindow ≤ a.time.t ∧ (a.domain 0).announceValid = true ∧
    s.time.t < (s.domain 0).announceAt + (s.domain 0).announceWindow ∧ (a.domain 0).syncValid = true ∧
    a.domainFresh 0 = true ∧ (up.domain 1).syncValid = false ∧ a.time.state = .locked ∧
    ({ gm := 6 } : Announce).better (s.domain 0).best = false ∧ ({ gm := 4 } : Announce).better (s.domain 0).best = true ∧
    0 = s.selectedDomain ∧ 1 ≠ s.selectedDomain ∧ s.time.state = .locked ∧ s.domainFresh 1 = true ∧
    ((s.domain 1).offset.natAbs : Int) ≤ s.switchLimit ∧ (twoDomains false 0).domainFresh 1 = false ∧
    (twoDomains true 6553601).switchLimit < (((twoDomains true 6553601).domain 1).offset.natAbs : Int) ∧
    (s.domain 0).syncValid = true ∧ s.domainFresh 0 = false ∧ held.ringSect? = some ring0 ∧ held.time.state = .holdover ∧
    held.time.holdSince + ring0.holdover * 65536000000 ≤ held.time.t ∧ up.time.state ≠ .holdover ∧
    up.ringMode = 1 ∧ (ringed { ring0 with mode := 2 }).ringMode ≠ 1 ∧ (ringed { ring0 with mode := 2 }).ringUp 0 = true ∧
    (up.ringPort 0).pdelay.t1 = none ∧ ((asked.ringPort 0).pdelay.seq ≠ (sync 5 false).seq) ∧
    ({ sync 4 false with followUp := true } : PtpMsg).followUp = true ∧ (sync 4 true).twoStep = true ∧
    up.ringUp 0 = true ∧ 2 ≠ up.ownMac ∧ (asked.ringPort 0).pdelay.t1 = some 1 ∧ (asked.ringPort 0).pdelay.seq = (sync 4 false).seq ∧
    (asked.ringPort 0).pdelay.resp = some (3, 2) ∧ asked.ringUp 0 = true ∧ (sync 4 false).followUp = false := by
  decide +kernel

def shown (d : Display) : State := { up with disp := d }

theorem meets_DisplayComesUpAndSendsFrames :
    let waits : State := { shown { link := .awaitHpd } with time := { up.time with clock := 2 ^ 48 * 199999750 } }
    let slow : Display := { link := .active, asyncOk := true, quiet := 1, live := { staticDiv := 3 } }
    let odd : State := { up with eph := State.reset.eph }
    odd.display? = none ∧ waits.disp.waitFrom + 200000000 ≤ waits.time.t / 65536 + 250 ∧
    (shown { link := .awaitHpd }).time.t / 65536 + 250 < (shown { link := .awaitHpd }).disp.waitFrom + 200000000 ∧
    up.disp.link ≠ .awaitHpd ∧ up.disp.link ≠ .training ∧ up.disp.link ≠ .active ∧ up.disp.link ≠ .failed ∧
    ((slow.static_ = true ∨ (slow.running = false ∧ 2 ≤ slow.passed)) ∧ slow.maySlow = true ∧ slow.commit = false ∧
      slow.touched = false ∧ slow.edges + 1 < slow.live.staticDiv) ∧
    ((({ slow with static_ := true, running := true } : Display).static_ = true) ∧
      ({ slow with static_ := true, running := true } : Display).maySlow = true) ∧
    ({ slow with edges := 2 } : Display).live.staticDiv ≤ ({ slow with edges := 2 } : Display).edges + 1 ∧
    (({ link := .active, running := true } : Display).maySlow = false) ∧ (({ link := .active } : Display).maySlow = false) ∧
    ({ link := .active, commit := true } : Display).commit = true ∧ (shown { link := .failed }).disp.link = .failed ∧
    coreOff.power.core = false ∧ 13332999 < 0 + 13333000 ∧ 1 < 0 + 50000000 ∧
    up.display? = some display0 ∧ (shown { link := .awaitHpd }).disp.link = .awaitHpd ∧ display0.lanes ≤ 2 ∧ display0.link ≤ 1 ∧
    1 < display0.lanes ∧ (shown { link := .training }).disp.link = .training ∧ (shown { link := .active }).disp.link = .active ∧
    up.power.core = true ∧ (shown { lastEdge := some 1 }).disp.lastEdge = some 1 ∧ 13333000 < 1 + 13333000 ∧
    1 + 13333000 ≤ 13333001 ∧ (shown {}).disp.static_ = false ∧ (shown { running := true }).disp.running = true ∧
    (shown {}).disp.bgNext = none ∧ (shown {}).disp.syncLost = false ∧ (shown {}).disp.frameAt + 50000000 ≤ 50000000 ∧
    (shown { syncLost := true }).disp.syncLost = true ∧ 0 + 1000000000 / display0.syncHz ≤ 16666666 ∧
    (shown { running := true, edgeWaits := true }).disp.edgeWaits = true := by decide +kernel

/-! ## Power, boot and heat -/

def powered (x : Power → Power) : State := { up with power := x up.power }

/-- Asleep in Umbra, with the active pair off. -/
def asleep : State := { powered (fun p => { p with core := false, umbra := .asleep }) with
  planes := { up.planes with ctl := .off, data := .off } }

theorem meets_UmbraIsEnteredAndLeft :
    let st := entry 0x0E00 []
    let u := entry 0x0E40 [(0x18, 4, 1000)]
    let w := entry 0x0E41 []
    let z : State := { powered (fun p => { p with wakeMs := 1, umbra := .asleep }) with
      time := { up.time with clock := (65536000000 - 16384000) * 2 ^ 32 } }
    let near : State := { powered (fun p => { p with wakeMs := 2, umbra := .asleep }) with time := z.time }
    let fault : State := powered fun p => { p with faultOff := true }
    Dispatched 0x0E00 st up (taken up st).1 (taken up st).2 ∧ Dispatched 0x0E40 u up (taken up u).1 (taken up u).2 ∧
    Dispatched 0x0E41 w up (taken up w).1 (taken up w).2 ∧
    Dispatched 0x0E41 (framed w) asleep (taken asleep (framed w)).1 (taken asleep (framed w)).2 ∧
    Dispatched 0x0E41 (framed w) fault (taken fault (framed w)).1 (taken fault (framed w)).2 ∧
    (u.zeroFrom 0x1C 36).1 = false ∧ (w.zeroFrom 0x18 40).1 = false ∧ up.planes.data = .idle ∧
    (∀ a, a < 8 → (up.axis a).mode = .disabled ∨ (up.axis a).mode = .idle) ∧ up.mem.tests = [] ∧ up.peri.reads = [] ∧
    up.eph.copying = [] ∧ up.boot.activation = none ∧ (taken asleep (framed w)).2.power.umbra = .asleep ∧
    (taken asleep (framed w)).2.power.faultOff = false ∧ up.power.umbra = .awake ∧ z.power.wakeMs ≠ 0 ∧
    z.power.wakeFrom + z.power.wakeMs.toNat * 65536000000 ≤ z.time.t + sampleTime ∧
    near.time.t + sampleTime < near.power.wakeFrom + near.power.wakeMs.toNat * 65536000000 ∧ up.power.wakeMs = 0 ∧
    (taken fault (framed w)).2.power.faultOff = true ∧
    ((taken fault (framed w)).2.slot (taken fault (framed w)).1.slot).held &&& roleKeeper ≠ 0 ∧
    State.reset.power.vin = false ∧ up.mgmtBusy = false ∧ up.imgBusy = false ∧
    (powered fun p => { p with mgmtIdle := 3999, imgIdle := 3999 }).power.mgmtIdle + 1 = 4000 ∧ up.power.imgIdle + 1 < 4000 ∧
    ({ up with boot := { up.boot with flashJobs := [{ flight := 1 }] } } : State).mgmtBusy = true ∧
    (powered fun p => { p with umbra := .entering }).power.umbra = .entering ∧
    (powered fun p => { p with umbra := .entering, abandon := true }).power.abandon = true ∧
    (powered fun p => { p with umbra := .leaving }).power.umbra = .leaving ∧ up.power.vin = true ∧ up.camera.unit = none ∧
    (∀ i, i < 8 → (up.sensor i).cur = none ∧ (up.sensor i).closing = []) := by
  refine ⟨dispatched ?_, dispatched ?_, dispatched ?_, dispatched ?_, dispatched ?_, ?_⟩ <;> decide +kernel

/-- A manifest with seven images of the one byte `b` (R462), unsigned as far as the model knows: the key that signs it
is no part of the spec. -/
def manifest (b : Byte) : List Byte :=
  (List.range 7).foldl (fun m i => m.take (0x20 + 64 * i + 16) ++ digestBytes (sha384 [b]) ++ m.drop (0x20 + 64 * i + 64))
    (bytes 576 ([(0, 4, 0x464D5646), (4, 2, 1), (6, 2, 7), (8, 2, 0x0F32), (0x0A, 2, 1), (0x10, 4, 0x7001)] ++
      (List.range 7).flatMap fun i =>
        [(0x20 + 64 * i, 2, i + 1), (0x20 + 64 * i + 8, 4, 0x1000 * (i + 1)), (0x20 + 64 * i + 12, 4, 1)]))

/-- The block with that manifest in one bank: A (false) or B (true). -/
def banked (b : Bool) (s : State := up) : State := { s with flash := sbulk flashErased [] (bankOfs b) (manifest 0xFF) }

set_option maxRecDepth 4000 in
theorem manifest_is_usable :
    manifestBad ((banked false).bankRead false 0 576) = none ∧ manifestBad ((banked true).bankRead true 0 576) = none ∧
    manifestBad ((banked true).bankRead false 0 576) ≠ none ∧ manifestBad (up.bankRead true 0 576) ≠ none ∧
    up.header? = none := by
  refine ⟨?_, ?_, ?_, ?_, ?_⟩ <;> decide +kernel

theorem meets_FaultsAndResetsTakeTheDieDown :
    let off := State.reset
    off.railUp 0 = false ∧ off.railUp 3 = false ∧ off.power.core = false ∧
    (powered fun p => { p with umbra := .leaving }).power.umbra = .leaving ∧ railCharged 0 200 = true ∧
    railCharged 0 10 = false ∧ startSpan < ({ up with boot := { bootFor := 12848001 } } : State).boot.bootFor ∧
    up.boot.bootFor ≤ startSpan ∧
    (powered fun p => { p with hotReset := true }).power.vin = true ∧ (8319 : Int) < 8320 ∧ (8000 : Int) ≤ 8000 ∧
    up.power.umbra ≠ .leaving ∧ up.railUp 0 = true ∧ up.railUp 6 = true ∧ railGood 0 824 = true ∧ railGood 6 13201 = false ∧ railGood 0 775 = false ∧
    up.power.core = true ∧ up.railUp 3 = true ∧ up.power.vin = true ∧ off.power.vin = false ∧ off.power.pinReset = false ∧
    off.power.hotReset = false ∧ (powered fun p => { p with vin := false, pinReset := true }).power.pinReset = true ∧
    (powered fun p => { p with pinReset := true }).power.pinReset = true ∧
    (powered fun p => { p with hotReset := true }).power.hotReset = true ∧ ({ strap := true } : BootEnv).strap = true ∧
    up.planes.mgmt = .running ∧ up.boot.fallback = false ∧
    ({ up with boot := { fallback := true } } : State).boot.fallback = true ∧ ({} : BootEnv).strap = false ∧
    ((up.header?.map (·.1)).getD BootHeader.blank).confirmed = false := by
  decide +kernel

/-- Powered, with no ephemeris in force. -/
def undeclared : State := { up with eph := State.reset.eph }

def warm (t : ThmEntry) : State := powered fun p => { p with thm := upd p.thm 0 fun _ => t }

theorem meets_TemperaturesAreJudgedAndBreachesAct :
    ({} : Limit).run = 0 ∧ ({} : Limit).live = false ∧ ({ live := true } : Limit).live = true ∧ up.power.vin = true ∧
    up.thmEntry? 0 = some therm0 ∧ (up.thmEntry? 21).isSome = true ∧ up.power.core = true ∧ (7999 : Int) < 8000 ∧
    (({ run := 1 } : Limit).step (decide (therm0.high < 5001)) (decide ((5001 : Int) ≤ therm0.high - 128))).live = true ∧
    (({} : Limit).step (decide (therm0.high < 5001)) (decide ((5001 : Int) ≤ therm0.high - 128))).live = false ∧
    therm0.eclipseAll = true ∧ up.declared 0 = true ∧ (up.thm 0).fault = false ∧ ((warm { fault := true }).thm 0).fault = true ∧
    undeclared.thmEntry? 0 = none ∧ undeclared.thmEntry? 20 = none ∧ State.reset.power.vin = false ∧
    (({ run := 1 } : Limit).step (decide ((-1001 : Int) < therm0.low)) (decide (therm0.low + 128 ≤ (-1001 : Int)))).live = true ∧
    coreOff.power.vin = true ∧ coreOff.power.core = false ∧
    (let o := (warm { valid := true, reading := 500, history := [some 0] }).thm 0
     o.valid = true ∧ o.history[therm0.riseWin - 1]? = some (some 0) ∧
     (therm0.riseMax : Int) < (o.reading - 0).tdiv therm0.riseWin ∧ o.riseLive = false) := by decide +kernel

/-! ## Calibration, trust and update -/

theorem gridBad_zeros (k : Nat) : ∀ o, gridBad o (List.replicate (4 * k) 0) = none := by
  induction k with
  | zero => intro o; rfl
  | succ k ih =>
    intro o
    rw [show 4 * (k + 1) = 4 * k + 1 + 1 + 1 + 1 by omega]
    simp only [List.replicate_succ, gridBad]
    rw [if_neg (by decide +kernel), ih]

/-- The grid of zeros. -/
def grid : Entry := entry 0x0442 [] (List.replicate (4 * 198147) 0) 792588

def measured (x : Cal → Cal) : State := { up with cal := x up.cal }

/-- The delays of 32 channels: cells 0, 1 and 2 at 250, 500 and `v` ps. -/
def delays (v : Int) : List (List Int) := List.replicate 32 [250, 500, v]

theorem meets_CalibrationsRunAndApply :
    let r := entry 0x0441 [(0x18, 1, 31)]
    Dispatched 0x0441 r up (taken up r).1 (taken up r).2 ∧ Dispatched 0x0441 r building (taken building r).1 (taken building r).2 ∧
    Dispatched 0x0442 grid up (taken up grid).1 (taken up grid).2 ∧ gridBad 0 grid.data = none ∧
    BitVec.ofNat 32 31 &&& up.cal.enabled = BitVec.ofNat 32 31 ∧ up.cal.cleis = false ∧ (r.zeroFrom 0x19 0x27).1 = false ∧
    building.planes.data ≠ .idle ∧ up.planes.data = .idle ∧ up.power.umbra = .awake ∧ up.power.core = true ∧
    grid.inline = false ∧ (grid.zeroFrom 0x19 0x27).1 = false ∧ up.eph.eph.isSome = true ∧ up.declared 0 = true ∧
    grid.bufLen.toNat = 792588 ∧ up.cal.gridLoads = [] ∧
    ((measured fun c => { c with subj := upd c.subj 0 fun x => { x with running := true } }).calSubj 0).running = true ∧
    up.job.syzygy = .none ∧
    (∀ n, n < 32 → judgeDelay ((delays 750).getD n []) ((delays 750).getD n []) = .good [0, 1, 2]) ∧
    judgeDelay ((delays 750).getD 0 []) ((delays 800).getD 0 []) = .bad 2 [0, 1, 2] [0, 1, 2] ∧
    nth false (measured fun c => { c with armed := Vector.replicate 2 true }).cal.armed 1 = true ∧ 8192 ≤ 8192 ∧
    up.calOpen false = true ∧ building.calOpen false = false ∧ (∀ k, k < 2 → (([5, 6].getD k 0 : Int) - [6, 6].getD k 0).natAbs ≤ 1) ∧
    1 < (([5].getD 0 0 : Int) - [7].getD 0 0).natAbs ∧ (up.calSubj 4).running = false ∧
    (nth {} (measured fun c => { c with analog := upd c.analog 0 fun x => { x with scale := 65536 } }).cal.analog 0).scale ≠ 0 := by
  refine ⟨dispatched ?_, dispatched ?_, dispatched ?_, gridBad_zeros 198147 0, ?_⟩ <;> decide +kernel

def quote0 : Quote := { flight := 9, slot := 0, port := 0, body := [], addr := 0, toBuffer := true }

theorem meets_TrustCommandsExtendAndQuote :
    let x := entry 0x0C40 [] [7] 1
    let q := entry 0x0C00 [] [] 536
    let c := entry 0x0C01 [] [] 1280
    Dispatched 0x0C40 x up (taken up x).1 (taken up x).2 ∧ Dispatched 0x0C00 q up (taken up q).1 (taken up q).2 ∧
    Dispatched 0x0C01 c up (taken up c).1 (taken up c).2 ∧ (Config.certificate.take 1280).length ≤ c.room ∧
    (x.zeroFrom 0x18 40).1 = false ∧ x.dataLen = 1 ∧ (q.zeroFrom 0x38 8).1 = false ∧ q.bufLen = 536 ∧
    up.boot.quotes = [] ∧ ({ up with planes := { up.planes with mgmt := .restarting } } : State).planes.mgmt ≠ .running ∧
    ({ up with boot := { quotes := [quote0] } } : State).boot.quotes = [quote0] ∧ up.planes.mgmt = .running ∧ quote0.port < 3 :=
  ⟨dispatched (by decide +kernel), dispatched (by decide +kernel), dispatched (by decide +kernel),
    Nat.le_trans (List.length_take_le _ _) (by decide +kernel), by decide +kernel⟩

def act (p : ActPhase) : Activation := {
  flight := some 9, slot := 0, bank := true, digests := { manifest := 1, images := [] }
  old := { manifest := 2, images := [] }, phase := p }

def activating (p : ActPhase) (x : Boot → Boot := id) (y : Planes → Planes := id) : State := { up with
  boot := x { up.boot with activation := some (act p) }, planes := y up.planes }

theorem meets_UpdatesAreWrittenCheckedAndActivated_commands :
    let w := entry 0x0D40 [(0x18, 4, 6291448), (0x1C, 4, 8)] (List.replicate 8 0) 8
    let m := entry 0x0D43 [(0x18, 4, 0x0100000A), (0x1C, 1, 30)]
    let shut := powered fun p => { p with nvOpen := false }
    (∀ p ∈ [(0x0D00#16, entry 0x0D00 [], up), (0x0D40#16, w, up), (0x0D41#16, entry 0x0D41 [], up), (0x0D42#16, entry 0x0D42 [], up),
        (0x0D42#16, entry 0x0D42 [], shut), (0x0D42#16, entry 0x0D42 [], activating .window), (0x0D43#16, m, up),
        (0x0D44#16, entry 0x0D44 [], up)], takes p.1 p.2.2 p.2.1 = true) ∧
    (w.zeroFrom 0x20 32).1 = false ∧ w.u 0x18 4 + w.u 0x1C 4 ≤ 6291456 ∧ w.dataLen = 8 ∧ up.power.nvOpen = true ∧
    up.boot.activation = none ∧ shut.power.nvOpen = false ∧ (activating .window).boot.activation.isSome = true ∧
    (m.zeroFrom 0x1D 35).1 = false ∧ m.u 0x1C 1 ≤ 30 ∧ addrBad (beNat (m.bytes 0x18 4)) (m.u 0x1C 1) = false ∧
    up.planes.data = .idle := by decide +kernel

/-- A bank whose manifest the update key has signed passes the checks: the key is the maker's, so its signature is a
hypothesis here; everything else stands in the bytes. -/
theorem checkManifest_ok {read : Nat → Nat → List Byte} (h1 : manifestBad (read 0 576) = none)
    (h2 : manifestSigned (read 0 576) = true)
    (h3 : ((List.range 7).find? fun i => !digestHolds (read 0 576) (readDigests read) i) = none) :
    checkManifest read = .ok (readDigests read) := by
  simp only [checkManifest, h1, h2, h3, Bool.not_true, Bool.false_eq_true, if_false]

set_option maxRecDepth 4000 in
theorem meets_UpdatesAreWrittenCheckedAndActivated_checks
    (h : manifestSigned ((banked true).bankRead true 0 576) = true) :
    let c : UpdCheck := { flight := 9, slot := 0, activate := true }
    let twice : State := { banked true with boot := { up.boot with checks := [c], activation := some (act .window) } }
    checkManifest (twice.bankRead (!twice.boot.confirmed)) = .ok (readDigests (twice.bankRead true)) ∧
    twice.boot.activation.isSome = true ∧ up.boot.checks = [] ∧ ({ c with activate := false } : UpdCheck).activate = false ∧
    checkManifest ((banked true).bankRead (!(banked true).boot.confirmed)) = .ok (readDigests ((banked true).bankRead true)) ∧
    ({ banked true with boot := { up.boot with checks := [c] } } : State).boot.checks = [c] ∧
    (banked true).boot.activation = none ∧
    checkManifest (up.bankRead true) = .error { code := 0x0204, ofs := 0 } :=
  ⟨checkManifest_ok manifest_is_usable.2.1 h (by decide +kernel), rfl, rfl, rfl,
    checkManifest_ok manifest_is_usable.2.1 h (by decide +kernel), rfl, rfl, by decide +kernel⟩

theorem meets_UpdatesAreWrittenCheckedAndActivated_steps :
    let sb (p : Planes) : Planes := { p with standby := .synchronising }
    let w (n : Nat) := activating .window fun b => { b with windowFor := some n }
    let shut : State := { w 2399999999 with power := { up.power with nvOpen := false } }
    let back : State := { up with planes := { up.planes with mgmt := .restarting }, boot := { up.boot with updState := 7 } }
    let late : State := { building with boot := { up.boot with activation := some (act .window) } }
    up.planes.mgmt ≠ .restarting ∧ back.planes.mgmt = .restarting ∧ back.boot.activation = none ∧ back.boot.updState = 7 ∧
    (activating .control id fun p => { p with mgmt := .restarting }).planes.mgmt = .restarting ∧
    (act .control).phase ≠ .management ∧ ({ back with boot := {} } : State).boot.updState ≠ 7 ∧
    ({ back with boot := { back.boot with revertPending := some (act .window).old } } : State).boot.updState = 7 ∧
    up.planes.standby ≠ .synchronising ∧ (sb { up.planes with ctl := .pause }).ctl ≠ .running ∧
    (sb up.planes).standby = .synchronising ∧ (act .window).phase ≠ .control ∧ up.planes.ctl ≠ .pause ∧
    ({ up.planes with ctl := .pause } : Planes).ctl = .pause ∧ building.planes.data ≠ .idle ∧
    ¬((act .management).phase = .management ∧ 5 = 3 ∨ (act .management).phase = .control ∧ 5 = 5 ∨
      (act .management).phase = .window ∧ 5 ≠ 5) ∧
    ((act .management).phase = .management ∧ 3 = 3) ∧ ((act .control).phase = .control ∧ 5 = 5) ∧
    ((act .window).phase = .window ∧ 4 ≠ 5) ∧ late.boot.activation = some (act .window) ∧ late.job.ending = false ∧
    late.planes.data ≠ .idle ∧ late.planes.ctl = .running ∧ (w 2399999998).boot.windowFor = some 2399999998 ∧
    2399999998 + 1 < 2400000000 ∧
    (activating .management id fun p => { p with mgmt := .restarting }).planes.mgmt = .restarting ∧ up.boot.updState ≠ 7 ∧
    (activating .control id sb).planes.standby = .synchronising ∧ (activating .control id sb).planes.ctl = .running ∧
    (activating .control).boot.activation.map (·.phase) = some .control ∧
    (activating .transit id fun p => { p with ctl := .pause }).planes.ctl = .pause ∧ up.boot.activation = none ∧
    (w 2399999999).boot.windowFor = some 2399999999 ∧ 2400000000 ≤ 2399999999 + 1 ∧ (w 2399999999).planes.data = .idle ∧
    (w 2399999999).power.nvOpen = true ∧ shut.boot.windowFor = some 2399999999 ∧ shut.power.nvOpen = false := by decide +kernel

/-- Nadir mode. -/
def nadir (n : Nadir := {}) : State := { up with planes := { up.planes with mgmt := .nadir }, boot := { up.boot with nadir := n } }

/-- A Nadir frame of SEQ 5 (R484), with LENGTH and the zero bytes as given. -/
def ask (op arg : Nat) (data : List Byte := []) (length : Nat := data.length) (pad : Nat := 0) : NadirFrame := {
  bytes := sealed ([0x4E#8, 0x44#8, 0x52#8, 0x46#8] ++ leBytes 1 op ++ leBytes 1 pad ++ leBytes 2 0 ++ leBytes 4 5 ++
    leBytes 4 arg ++ leBytes 2 length ++ leBytes 2 0 ++ data) }

/-- Well-formed with a SEQ later than 4: what the frame operations ask of a frame. -/
def asks (f : NadirFrame) (op : Nat) : Bool :=
  f.crcOk && uAt f.bytes 5 1 == 0 && uAt f.bytes 18 2 == 0 && f.length == f.data.length && decide (f.length ≤ 1024) &&
  f.op == op && decide (0 < seqDiff 32 f.seq.toNat 4)

def reply0 : NadirReply := { op := 1, status := 0, seq := 5, arg := 0, data := [] }

set_option maxRecDepth 4000 in
theorem meets_NadirFramesAreServed
    (h : manifestSigned ((nadir { staging := sbulk 0 [] 0 (manifest 0) }).stagingRead 0 576) = true) :
    let s := nadir { staging := sbulk 0 [] 0 (manifest 0) }
    let p := nadir { lastSeq := some 5, replies := [reply0] }
    checkManifest s.stagingRead = .ok (readDigests s.stagingRead) ∧
    checkManifest (nadir).stagingRead = .error { code := 0x0204, ofs := 0 } ∧
    s.planes.mgmt = .nadir ∧ s.boot.nadir.lastSeq = none ∧ (nadir { verified := true }).boot.nadir.verified = true ∧
    s.power.nvOpen = true ∧ ({ strap := true } : BootEnv).strap = true ∧ ({} : BootEnv).strap = false ∧
    up.planes.mgmt ≠ .nadir ∧ p.boot.nadir.lastSeq = some 5 ∧
    (p.boot.nadir.replies.find? fun x => x.seq == (ask 1 0).seq) = some reply0 ∧
    (p.boot.nadir.replies.find? fun x => x.seq == (4 : W32)) = none :=
  ⟨checkManifest_ok (by decide +kernel) h (by decide +kernel), by decide +kernel⟩

/-- NadirFramesAreServed: the frames of each operation, and those that are refused or dropped. -/
theorem meets_NadirFramesAreServed_frames :
    asks (ask 1 0) 1 = true ∧ (ask 1 0).arg = 0 ∧ (ask 1 0).data = [] ∧ asks (ask 1 1) 1 = true ∧ (ask 1 1).arg ≠ 0 ∧
    asks (ask 2 6291455 [9]) 2 = true ∧ (ask 2 6291455 [9]).data = [9] ∧
    (ask 2 6291455 [9]).arg.toNat + (ask 2 6291455 [9]).data.length ≤ 6291456 ∧ asks (ask 3 0) 3 = true ∧
    asks (ask 4 1) 4 = true ∧ (ask 4 1).arg.toNat ≤ 1 ∧ asks (ask 5 1) 5 = true ∧ (ask 5 1).data = [] ∧
    asks (ask 6 33553408) 6 = true ∧ (ask 6 33553408).arg.toNat + 1024 ≤ 33554432 ∧ asks (ask 7 0) 7 = true ∧
    (∀ n ∈ [1, 2, 3, 4, 5, 6, 7], (ask n 0 [] 0 1).crcOk = true ∧ (ask n 0 [] 0 1).op = n ∧
      uAt (ask n 0 [] 0 1).bytes 5 1 ≠ 0 ∧ (ask n 0 [] 1025).crcOk = true ∧ 1024 < (ask n 0 [] 1025).length ∧
      uAt (ask n 0 [] 1025).bytes 5 1 = 0 ∧ (ask n 0 [7] 2).length ≠ (ask n 0 [7] 2).data.length) ∧
    (ask 1 0).op ≠ 2 ∧ ({ bytes := (ask 1 0).bytes.take 23 ++ [0] } : NadirFrame).crcOk = false ∧
    seqDiff 32 (ask 1 0).seq.toNat (5 : W32).toNat ≤ 0 := by decide +kernel

/-! ## Tail and planes -/

def taped (t : Tail) : State := { up with tail := t }

theorem meets_TailRecordsAreWrittenFrozenAndCleared :
    let note := entry 0x0B41 [] (List.replicate 1020 1) 1020
    let er : TailErase := { flights := [9], slot := 0, first := 0, last := 0 }
    let full := taped { buffer := [rec0], wpos := 33554432 - 8 }
    (∀ p ∈ [(0x0B00#16, entry 0x0B00 [], up), (0x0B40#16, entry 0x0B40 [(0x18, 1, 1)], up),
        (0x0B40#16, entry 0x0B40 [(0x18, 1, 1)], taped { busy := some (rec0, 0, 0) }), (0x0B41#16, note, up),
        (0x0B42#16, entry 0x0B42 [], up), (0x0B42#16, entry 0x0B42 [], taped { erase := some er }),
        (0x0B42#16, entry 0x0B42 [], taped { busy := some (rec0, 0, 0) })],
      takes p.1 p.2.2 p.2.1 = true) ∧
    note.dataLen = 1020 ∧ up.tail.full = false ∧ up.power.nvOpen = true ∧ up.tail.erase = none ∧ up.tail.busy = none ∧
    (taped { busy := some (rec0, 0, 0), freezeWaits := [(9, true)] }).tail.freezeWaits = [(9, true)] ∧
    (taped { stage := [rec0] }).tail.buffer = [] ∧ (taped { stage := [rec0] }).tailFree = true ∧
    (taped { buffer := [rec0], freeze := true }).tailFree = false ∧ up.tailNext = none ∧ recording.tail.busy = none ∧
    (taped { erase := some er }).tail.erase = some er ∧ up.planes.mgmt ≠ .nadir ∧ (nadir).planes.mgmt = .nadir ∧
    (powered fun p => { p with nvOpen := false }).power.nvOpen = false ∧ (up.port 2).loading = false ∧ recording.tailFree = true ∧
    recording.tail.place rec0.length + rec0.length ≤ 33554432 ∧ full.tailFree = true ∧
    33554432 < full.tail.place rec0.length + rec0.length ∧
    (({ up with host := { up.host with ports := upd up.host.ports 2 fun p => { p with loading := true } } } : State).port 2).loading = true ∧
    ((up.wakePort 0).reach 0 (at_ .tailStatus)).toOption.map (·.1.reg) = some .tailStatus ∧
    (write .tailStatus 0).narrow = false ∧ (write .tailStatus 0).addr < 2 ^ 20 ∧ (up.port 0).linkUp = true ∧
    (up.wakePort 0).tail.busy = none ∧ ((taped { busy := some (rec0, 0, 0) }).wakePort 0).tail.busy.isSome = true := by
  decide +kernel

theorem meets_PlanesRestartAfterFaults :
    let alone : State := { up with planes := { up.planes with standby := .off } }
    let r : State := { up with planes := { up.planes with restart := some false } }
    up.power.core = true ∧ up.planes.ctl = .running ∧ up.boot.activation = none ∧ up.planes.standby = .ready ∧
    alone.planes.standby ≠ .ready ∧ coreOff.power.core = false ∧ alone.planes.ctl = .running ∧
    ({ up with planes := { up.planes with ctl := .pause } } : State).planes.ctl = .pause ∧
    ({ up with planes := { up.planes with ctl := .booting } } : State).planes.ctl ≠ .running ∧ up.planes.restart = none ∧
    (act .transit).phase ≠ .window ∧ (activating .window).planes.standby = .ready ∧
    (activating .window).planes.ctl = .running ∧ (activating .management).planes.mgmt = .running ∧
    (act .control).phase ≠ .management ∧ (nadir).planes.mgmt ≠ .running ∧ r.planes.restart = some false ∧ up.planes.mgmt = .running ∧
    (activating .window).boot.activation.map (·.phase) = some .window := by decide +kernel

/-! ## Well-formed commands -/

theorem test_ill_formed_commands_are_refused :
    -- an index beyond its table, of each origin of an index
    (Instr.holdEscalation 32).wf = false ∧ (Instr.takeEscalation 256).wf = false ∧ (Instr.sessionTimeout 8).wf = false ∧
    (Instr.sessionOpen { hdr 1 with slot := 8 }).wf = false ∧ (Instr.tileResident 0 65 0 none).wf = false ∧
    (Instr.quadTransition 0 4).wf = false ∧ (Instr.csiLongPacket 2 { vc := 0, dt := 0, payload := [] }).wf = false ∧
    -- 39 parameter bytes, queue 256, a frame of slot 8
    (Instr.tailStatus { entry 0x0E00 [] with params := List.replicate 39 0 }).wf = false ∧
    (Instr.tailStatus { entry 0x0E00 [] with origin := .queue 256 }).wf = false ∧
    (Instr.tailStatus { entry 0x0E00 [] with origin := .frame { hdr 1 with slot := 8 } }).wf = false ∧
    -- accesses of no byte and of nine, beyond BAR0, and beyond 32 bits in a frame
    (Instr.registerWrite { write .tailCursor 0 with width := 0 }).wf = false ∧
    (Instr.registerWrite { write .tailCursor 0 with width := 9 }).wf = false ∧
    (Instr.registerWrite { write .tailCursor 0 with addr := 2 ^ 20 }).wf = false ∧
    (Instr.registerWrite { write .tailCursor 0 with origin := .frame (hdr 1), addr := 2 ^ 32 }).wf = false := by decide +kernel

theorem test_an_entry_of_more_than_16_mib_is_refused (e : Entry) (l : List Byte) (h : l.length = 16777217) :
    (Instr.updWrite { e with data := l }).wf = false := by simp [Instr.wf, Instr.entry?, entryWf, h]

theorem test_well_formed_commands_are_taken :
    (Instr.holdEscalation 31).wf = true ∧ (Instr.tailStatus (entry 0x0E00 [])).wf = true ∧
    (Instr.registerWrite (write .tailCursor 0)).wf = true ∧ Instr.vinLow.wf = true := by decide +kernel

/-- The opcode table gives no bits. -/
theorem test_no_word_spells_a_command (nbits w : Nat) (s : State) :
    decodeTableWord nbits w = none ∧ s.withFetchWord nbits w = s := ⟨rfl, rfl⟩

/-! ## Worked examples of the spec -/

/-- The check value of both CRCs over the nine digits, as their polynomials' catalogues give it. -/
theorem test_crc_check_values :
    let digits : List Byte := [0x31, 0x32, 0x33, 0x34, 0x35, 0x36, 0x37, 0x38, 0x39]
    crc32c digits = 0xE3069283 ∧ crc32 digits = 0xCBF43926 := by decide +kernel

/-- SHA-384 of "abc", from FIPS 180-4's published example. -/
theorem test_sha384_of_abc : sha384 [0x61, 0x62, 0x63] =
    0xCB00753F45A35E8BB5A03D699AC65007272C32AB0EDED1631A8B605A43FF5BED8086072BA1E7CC2358BAECA134C825A7 := by decide +kernel

/-- Ranks of layers 1,300 and 1,301 (ch. 07, R220). -/
theorem test_ranks_turn_with_the_layer :
    let a : Arbiter := { up.arb with rank0 := 1300 % 32 }
    a.rank 20 = 0 ∧ a.rank 5 = 17 ∧ a.rank 9 = 21 ∧ ({ a with rank0 := 1301 % 32 } : Arbiter).rank 21 = 0 := by decide +kernel

/-- A 400-LSB jump at 8 LSB per sample with ramps of 40 samples cruises for 10 (ch. 07), one of 50,000 LSB for
6,210 (ch. 06); a 15 mm line at 2,000,000 µm/s takes 30,000 samples. -/
theorem test_jump_and_line_lengths :
    (stepOf 40000000 8000000 0x8000).1 = 8 * 65536 ∧ jumpCruise (400 ^ 2) (8 * 65536) 40 40 = 10 ∧
    jumpCruise (50000 ^ 2) (8 * 65536) 40 40 = 6210 ∧ samplesFor (60000 ^ 2) (2 * 65536) = 30000 := by decide +kernel

/-- A stroke on bench cell 4, sample by sample (ch. 06): a jump and a skywritten mark of engine 5. -/
theorem test_a_stroke_sample_by_sample :
    let env : PlanEnv := {
      atlas := [(13, { valid := true, jumpSpeed := 8000000, runIn := 40, runOut := 40, settle := 120 }),
        (41, { valid := true, skyOn := true, power := 0x8000, markSpeed := 2000000, runIn := 200, runOut := 160
               onDelay := 12345, offDelay := 8000 })]
      x0 := -880000, y0 := -1280000, x1 := 80000, y1 := -720000, skew := -20 }
    let jump : Item := {
      word := { ty := .jump, atlas := 13, w1 := BitVec.ofInt 32 (-440000), w2 := BitVec.ofInt 32 (-1000000) }, ofs := 0 }
    let mark : Item := {
      word := { ty := .mark, atlas := 41, w1 := BitVec.ofInt 32 (-400000), w2 := BitVec.ofInt 32 (-1000000) }, ofs := 16
      start := (-440000, -1000000) }
    let m := (planMotion env 0 (-440200, -1050000) none 0 [jump, mark]).1
    m.rise = some (6622 * 1000 + 325) ∧ m.fall = some (26617 * 1000 + 980) ∧ m.fin = 26770 ∧
    ([40, 6250, 6290, 6510, 6610, 6622, 26610, 26617, 26770].map fun k => (m.pos k).round) =
      [(-440200, -1049840), (-440200, -1000160), (-440200, -1000000), (-440167, -1000000), (-440000, -1000000),
       (-439976, -1000000), (-400000, -1000000), (-399986, -1000000), (-399840, -1000000)] := by decide +kernel

/-- The cone of engine 9 holds a spot 79.9 mm downwind and 25 mm aside, and one 121 mm downwind is out of it (ch. 07). -/
theorem test_a_spot_downwind_lies_in_the_cone :
    let s : State := { up with eph := { up.eph with eph := some { eph with
      machine := { eph.machine with gasX := 0, gasY := -32768 }
      classes := [{ minSep := 0, coneHalf := 2000, sepOn := false, coneOn := true, coneLen := 480000 }] } } }
    let nine : SetRec := { px := -380000, py := -680400 }
    s.spotRule nine { px := -480000, py := -1000000 } = 2 ∧ s.spotRule nine { px := -380000, py := -1164400 } = 0 ∧
    s.spotRule nine { px := -380000, py := -1160400 } = 2 := by decide +kernel

/-- The recoat of bench cell 4 (ch. 11): 7,072, 25,000 and 185,000 ticks. -/
theorem test_recoat_moves_take_their_ticks :
    let r : AxRun := { t := 0, p := 0, v := 0, a := 0 }
    (r.toTarget (axDyn 40960 409600 0) (-2048)).t = 565760 ∧ (r.toTarget (axDyn 20000 200000 0) 8000).t = 2000000 ∧
    (r.toTarget (axDyn 400000 4000000 0) 1440000).t = 14800000 := by decide +kernel

/-- The delay line of channel 5 (ch. 18): 5, 9 and 14 cells; 515 ps at 9 cells in run 2 rejects it. -/
theorem test_a_delay_line_is_judged :
    let far : List Int := List.replicate 4 0
    let run1 : List Int := far ++ [212, 265, 300, 350, 400, 490, 531, 590, 640, 689, 742, 800, 850]
    let run2 (nine : Int) : List Int := far ++ [213, 266, 300, 350, 400, nine, 532, 590, 640, 690, 741, 800, 850]
    let good (b : List Int) : Bool := match judgeDelay run1 b with
      | .good v => v == [5, 9, 14]
      | .bad _ _ _ => false
    good (run2 489) = true ∧ good (run2 515) = false := by decide +kernel

/-- One spot, one factor (ch. 08): K of a 1 kW laser, the cell, and the factor at 200 K. -/
theorem test_one_spot_one_factor :
    let e : EphPeri := { peri0 with x0 := -1638400, y0 := -1638400, gain := 40960000 }
    e.kOf { laser := 5, head := 5, gateInvert := false, ratedMw := 1000000, powerCeil := 0xF000, powerFloor := 0x800
            wavelength := 1070, gateSkew := -20, slew := 0 } = 42949673 ∧
    e.cellOf (-440000) (-1000000) = 399 * 2048 + 749 ∧ curveAt [(9600, 0x7000), (16000, 0x6000)] 12800 = 0x6800 := by
  decide +kernel

/-- A frame at 72 Hz is underrun from column 1,864 on, and one at 60 Hz is not (ch. 16). -/
theorem test_a_fast_frame_underruns :
    let e : EphDisplay := { display0 with lanes := 2, link := 1, width := 1920, height := 1200, hblank := 160, vblank := 35 }
    let at_ (ns : W32) : State := { up with disp := { up.disp with period := ns } }
    (at_ 13888888).underrun e = true ∧ (at_ 13888888).underrunPixels e = 1864 ∧ (at_ 16666667).underrun e = false := by
  decide +kernel

/-! ## Single steps -/

/-- A command at the front of the queue, and what its step answers. -/
def stepped (c : Instr) (s : State) : Host.Outcome State Fault Refusal := step { s with pending := [c] }

theorem test_an_empty_queue_idles : step State.reset = .next State.reset := rfl

/-- ECLIPSE_ENTER of a declared channel is taken from the queue and reads back in ECLIPSE_STATUS's mask (R507). -/
theorem test_eclipse_enter_puts_the_channel_in : (match stepped (.eclipseEnter (write .eclipseEnter 1)) up with
    | .next t => t.eclipsed 0 && !t.eclipsed 1 && t.pending.isEmpty
    | _ => false) = true := by decide +kernel

/-- A write beyond BAR0 is the one access that faults. -/
theorem test_an_access_beyond_bar0_faults : (match stepped (.registerWrite { write .tailCursor 0 with addr := 2 ^ 20 }) up with
    | .fault _ => true
    | _ => false) = true := by decide +kernel

/-- A write to an RO register leaves it and is counted for the slot of the port (R132). -/
theorem test_a_refused_write_is_counted : (match stepped (.registerWrite (write .devId 0)) up with
    | .next t => (t.host.slots[0]?.map (·.reject)) != (up.host.slots[0]?.map (·.reject))
    | _ => false) = true := by decide +kernel

end Sys2Proof.Tests
end

section
/-!
Register accesses: how an access that reaches the device runs, and what reading and writing a register answers.
-/

namespace Sys2Proof.Machine

/-! ## Accesses that reach the device -/

/-- An access that reaches the device runs its work on the state that it finds there. -/
theorem State.access_of_reaches {a : RegAccess} {s u : State} (h : Reaches a s u) (x : HeldFrame)
    (k : State → State) : s.access x a k = .next (k u) := by
  unfold Reaches at h
  unfold State.access
  cases ho : a.origin with
  | pcie b =>
    rw [ho] at h
    obtain ⟨haddr, hup, rfl⟩ := h
    simp only [Nat.not_le.2 haddr, hup, if_false, if_true]
  | bar2 b => rw [ho] at h; exact h.elim
  | frame f =>
    rw [ho] at h
    obtain ⟨hans, htaken, rfl⟩ := h
    simp only [hans, htaken, if_true]

/-- No access to BAR2 reaches a register of BAR0. -/
theorem Reaches.origin_ne_bar2 {a : RegAccess} {s u : State} (h : Reaches a s u) (b : Bool) :
    a.origin ≠ .bar2 b := by
  intro ho
  unfold Reaches at h
  rw [ho] at h
  exact h

/-! ## What a port reaches (R546 steps 2 to 4) -/

/-- A foreign page or doorbell is not reached, listed or not. -/
theorem State.reach_of_unbound {s : State} {p a : Nat} (h : s.unbound p a = true) : s.reach p a = .error 0x0304 := by
  simp only [State.reach, h, if_true]

/-- An offset that no chapter lists is not reached. -/
theorem State.reach_of_unlisted {s : State} {p a : Nat} (hb : s.unbound p a = false) (h : regAt a = none) :
    s.reach p a = .error 0x0203 := by
  simp only [State.reach, hb, h, Bool.false_eq_true, if_false]

/-- A core-die register is not reached while the core die is unpowered. -/
theorem State.reach_of_dark {s : State} {p a : Nat} {q : RegPlace × Nat} (hb : s.unbound p a = false)
    (h : regAt a = some q) (hcore : s.power.core = false) (hdie : s.onCompanion q = false) :
    s.reach p a = .error 0x0508 := by
  simp only [State.reach, hb, h, hcore, hdie, Bool.false_eq_true, Bool.not_false, Bool.and_self, if_false, if_true]

/-- A listed register whose die is powered is reached. -/
theorem State.reach_of_powered {s : State} {p a : Nat} {q : RegPlace × Nat} (hb : s.unbound p a = false)
    (h : regAt a = some q) (hdie : s.power.core = true ∨ s.onCompanion q = true) : s.reach p a = .ok q := by
  have hlit : (!s.power.core && !s.onCompanion q) = false := by
    rcases hdie with h | h <;> simp [h]
  simp only [State.reach, hb, h, hlit, Bool.false_eq_true, if_false]

/-- A slot page that is not bound to the port is foreign to it. -/
theorem State.unbound_of_foreignPage {s : State} {p a i : Nat} (hi : pageSlot? a = some i) (hp : s.portOf i ≠ p) :
    s.unbound p a = true := by
  simp only [State.unbound, hi, bne_iff_ne, ne_eq, hp, not_false_eq_true]

/-- A read of what the port does not reach gives zero and records nothing. -/
theorem State.readAt_of_unreached {s : State} {p a : Nat} {c : Code} (h : s.reach p a = .error c) :
    s.readAt p a = (0, s) := by
  simp only [State.readAt, h]

/-! ## What a write fails (R546) -/

/-- Step 1. -/
theorem State.judgeWrite_of_narrow {s : State} {p : Nat} {a : RegAccess} (h : a.narrow = true) :
    s.judgeWrite p a = .error 0x0201 := by
  simp only [State.judgeWrite, h, if_true]

/-- Steps 2 to 4: the code of the place. -/
theorem State.judgeWrite_of_unreached {s : State} {p : Nat} {a : RegAccess} {c : Code} (hn : a.narrow = false)
    (h : s.reach p a.addr = .error c) : s.judgeWrite p a = .error c := by
  simp only [State.judgeWrite, hn, h, Bool.false_eq_true, if_false]

/-- Step 5. -/
theorem State.judgeWrite_of_readOnly {s : State} {p : Nat} {a : RegAccess} {x : RegPlace} {i : Nat}
    (hn : a.narrow = false) (h : s.reach p a.addr = .ok (x, i)) (hm : x.reserved = none) :
    s.judgeWrite p a = .error 0x0301 := by
  simp only [State.judgeWrite, hn, h, hm, Bool.false_eq_true, if_false]

/-- What a write of a writable register that the port reaches still has to pass: steps 6 to 9, in this order. -/
def State.writeBad (s : State) (p : Nat) (w m : W32) (x : RegPlace) (i : Nat) : Option Code :=
  badThen (s.groupBad p x.group) (badThen (bad (w &&& m != 0) 0x0202) (s.regBad i w x.reg))

/-- Steps 6 to 9. -/
theorem State.judgeWrite_of_reached {s : State} {p : Nat} {a : RegAccess} {x : RegPlace} {i : Nat} {m : W32}
    (hn : a.narrow = false) (h : s.reach p a.addr = .ok (x, i)) (hm : x.reserved = some m) :
    s.judgeWrite p a = (s.writeBad p a.value m x i).elim (.ok (x.reg, i)) .error := by
  simp only [State.judgeWrite, hn, h, hm, Bool.false_eq_true, if_false]
  unfold State.writeBad
  cases badThen (s.groupBad p x.group) (badThen (bad (a.value &&& m != 0) 0x0202) (s.regBad i a.value x.reg)) <;> rfl

/-- A role that is missing is reported before anything of the value. -/
theorem State.writeBad_of_group {s : State} {p i : Nat} {w m : W32} {x : RegPlace} {c : Code}
    (h : s.groupBad p x.group = some c) : s.writeBad p w m x i = some c := by
  rw [State.writeBad, h]
  rfl

/-- A reserved bit is reported before the register's own table. -/
theorem State.writeBad_of_reserved {s : State} {p i : Nat} {w m : W32} {x : RegPlace}
    (hg : s.groupBad p x.group = none) (hm : w &&& m ≠ 0) : s.writeBad p w m x i = some 0x0202 := by
  rw [State.writeBad, hg, bne_iff_ne.2 hm]
  rfl

/-- With the role held and no reserved bit set, the register's own table decides. -/
theorem State.writeBad_of_own {s : State} {p i : Nat} {w m : W32} {x : RegPlace}
    (hg : s.groupBad p x.group = none) (hm : w &&& m = 0) : s.writeBad p w m x i = s.regBad i w x.reg := by
  rw [State.writeBad, hg, hm]
  rfl

/-! ## Accepted writes -/

/-- What an accepted write has passed: it is aligned, and the port reaches the register that takes it. -/
theorem State.reach_of_judgeWrite_ok {s : State} {p : Nat} {a : RegAccess} {r : Reg} {i : Nat}
    (h : s.judgeWrite p a = .ok (r, i)) : a.narrow = false ∧ ∃ x, s.reach p a.addr = .ok (x, i) ∧ x.reg = r := by
  cases hn : a.narrow with
  | true => rw [State.judgeWrite_of_narrow hn] at h; cases h
  | false =>
    refine ⟨rfl, ?_⟩
    cases hr : s.reach p a.addr with
    | error c => rw [State.judgeWrite_of_unreached hn hr] at h; cases h
    | ok q =>
      obtain ⟨x, j⟩ := q
      cases hm : x.reserved with
      | none => rw [State.judgeWrite_of_readOnly hn hr hm] at h; cases h
      | some m =>
        rw [State.judgeWrite_of_reached hn hr hm] at h
        cases hw : s.writeBad p a.value m x j with
        | none => rw [hw] at h; cases h; exact ⟨x, rfl, rfl⟩
        | some c => rw [hw] at h; cases h

/-- A register that a port reaches stands at the offset. -/
theorem State.regAt_of_reach {s : State} {p a : Nat} {q : RegPlace × Nat} (h : s.reach p a = .ok q) :
    regAt a = some q := by
  unfold State.reach at h
  split at h
  · cases h
  · split at h
    · cases h
    · split at h
      · cases h
      · cases h
        assumption

/-- The word of an aligned access begins at its own offset. -/
theorem RegAccess.word_of_aligned {a : RegAccess} (h : a.narrow = false) : a.addr / 4 * 4 = a.addr := by
  have : a.addr % 4 = 0 := by
    simp only [RegAccess.narrow, Bool.or_eq_false_iff, bne_eq_false_iff_eq] at h
    exact h.2
  omega

/-- The write of an accepted access stores and answers with code 0. -/
theorem State.writeReg_of_accepted {a : RegAccess} {s u : State} {r : Reg} {i : Nat} (h : Accepted a s u r i) :
    u.writeReg a = (u.regStore a.origin.port i a.value r).answerWrite a 0 := by
  simp only [State.writeReg, h.2]

/-- The row of register `r` runs an access that is accepted for it. -/
theorem State.writeRow_of_accepted {a : RegAccess} {s u : State} {r : Reg} {i : Nat} (h : Accepted a s u r i) :
    s.writeRow r a = .next ((u.regStore a.origin.port i a.value r).answerWrite a 0) := by
  obtain ⟨hn, x, hx, hr⟩ := State.reach_of_judgeWrite_ok h.2
  have hreg : (regAt (a.addr / 4 * 4)).map (fun x => x.1.reg) = some r := by
    rw [RegAccess.word_of_aligned hn, State.regAt_of_reach hx, Option.map_some, hr]
  rw [State.writeRow, if_pos hreg, State.access_of_reaches h.1, State.writeReg_of_accepted h]

/-- Each row that writes one register is that register's write. -/
theorem exec_of_writeRow {c : Instr} {a : RegAccess} {r : Reg} (h : writeRow? c = some (a, r)) (s : State) :
    exec c s = s.writeRow r a := by
  cases c <;> cases h <;> rfl

/-- REGISTER_WRITE of an accepted access stores and answers with code 0. -/
theorem execRegisterWrite_of_accepted {a : RegAccess} {s u : State} {r : Reg} {i : Nat} (h : Accepted a s u r i) :
    execRegisterWrite a s = .next ((u.regStore a.origin.port i a.value r).answerWrite a 0) := by
  have hrun : s.access (.write a) a (State.writeReg a) = _ := State.access_of_reaches h.1 _ _
  rw [State.writeReg_of_accepted h] at hrun
  unfold execRegisterWrite
  split
  · exact absurd ‹_› (h.1.origin_ne_bar2 _)
  · exact hrun

/-- Settles O6: an access that reaches the device runs its write there, and a write that R546 accepts stores. -/
theorem acceptedWritesTakeEffect : Obligations.AcceptedWritesTakeEffect :=
  ⟨fun _ _ _ _ s _ hrow hacc => (exec_of_writeRow hrow s).trans (State.writeRow_of_accepted hacc),
   fun _ _ _ _ _ hacc => execRegisterWrite_of_accepted hacc⟩

/-- Settles O9: steps 2 to 4 decide what the port reaches, and steps 6 to 9 are the order in `State.writeBad`. -/
theorem writeChecksComeInOrder : Obligations.WriteChecksComeInOrder := by
  intro s p a
  refine ⟨State.judgeWrite_of_narrow, fun hn hb => ?_, fun hn hb hl => ?_, fun x i hn hb hl => ⟨fun hc hd => ?_, ?_⟩⟩
  · have hr := State.reach_of_unbound hb
    exact ⟨State.judgeWrite_of_unreached hn hr, State.readAt_of_unreached hr⟩
  · have hr := State.reach_of_unlisted hb hl
    exact ⟨State.judgeWrite_of_unreached hn hr, State.readAt_of_unreached hr⟩
  · have hr := State.reach_of_dark hb hl hc hd
    exact ⟨State.judgeWrite_of_unreached hn hr, State.readAt_of_unreached hr⟩
  · intro hdie
    have hr := State.reach_of_powered hb hl hdie
    refine ⟨State.judgeWrite_of_readOnly hn hr, fun m hm => ?_⟩
    rw [State.judgeWrite_of_reached hn hr hm]
    refine ⟨fun c hg => ?_, fun hg hw => ?_, fun hg hw => ?_⟩
    · rw [State.writeBad_of_group hg]; rfl
    · rw [State.writeBad_of_reserved hg hw]; rfl
    · rw [State.writeBad_of_own hg hw]
      exact ⟨fun c hc => by rw [hc]; rfl, fun hc => by rw [hc]; rfl⟩

/-- Settles O13: what a port does not reach reads zero, and a companion-die register is reached with the core die
unpowered. -/
theorem unlistedOffsetsReadZero : Obligations.UnlistedOffsetsReadZero := by
  refine ⟨fun s p a hb hl => ?_, fun s p a i hi hp => ?_, fun s p a i x hb hl hc => ⟨fun hd => ?_, fun hd => ?_⟩⟩
  · have hr := State.reach_of_unlisted hb hl
    exact ⟨hr, State.readAt_of_unreached hr⟩
  · have hr := State.reach_of_unbound (State.unbound_of_foreignPage hi hp)
    exact ⟨hr, State.readAt_of_unreached hr⟩
  · have hr := State.reach_of_dark hb hl hc hd
    exact ⟨hr, State.readAt_of_unreached hr⟩
  · exact State.reach_of_powered hb hl (.inr hd)

end Sys2Proof.Machine
end

section
/-!
What an accepted register write leaves alone: frames as `SameBut`, composed from one lemma per part of the state.
-/

namespace Sys2Proof.Machine

/-! ## Composing frames -/

theorem Part.Same.refl (s : State) (p : Part) : Part.Same s s p := by
  cases p <;> rfl

theorem Part.Same.trans {s t u : State} {p : Part} (h : Part.Same s t p) (k : Part.Same t u p) : Part.Same s u p := by
  cases p <;> exact Eq.trans k h

theorem SameBut.refl (w : List Part) (s : State) : SameBut w s s := fun p _ => Part.Same.refl s p

theorem SameBut.mono {v w : List Part} {s t : State} (h : SameBut v s t) (hv : v ⊆ w) : SameBut w s t :=
  fun p hp => h p fun hq => hp (hv hq)

theorem SameBut.trans {w : List Part} {s t u : State} (h : SameBut w s t) (k : SameBut w t u) : SameBut w s u :=
  fun p hp => (h p hp).trans (k p hp)

/-- Two steps change what either of them changes. -/
theorem SameBut.comp {v w : List Part} {s t u : State} (h : SameBut v s t) (k : SameBut w t u) :
    SameBut (v ++ w) s u :=
  (h.mono (List.subset_append_left v w)).trans (k.mono (List.subset_append_right v w))

theorem SameBut.ite {w : List Part} {s t u : State} {c : Prop} [Decidable c] (h : SameBut w s t)
    (k : SameBut w s u) : SameBut w s (if c then t else u) := by
  split <;> assumption

theorem SameBut.foldl {α : Type} {w : List Part} {f : State → α → State} (h : ∀ s a, SameBut w s (f s a))
    (l : List α) (s : State) : SameBut w s (l.foldl f s) := by
  induction l generalizing s with
  | nil => exact SameBut.refl w s
  | cons a r ih => exact (h s a).trans (ih (f s a))

/-- A write whose bit is 0 does nothing. -/
theorem SameBut.onBit {v : List Part} {s : State} {f : State → State} (h : SameBut v s (f s)) (w : W32) (i : Nat) :
    SameBut v s (s.onBit w i f) :=
  SameBut.ite h (SameBut.refl v s)

/-! ## One part changed -/

theorem sameBut_outbox (s : State) (x : List Out) : SameBut [.outbox] s { s with outbox := x } := by
  intro p hp; cases p <;> simp_all [Part.Same]
theorem sameBut_host (s : State) (x : HostState) : SameBut [.host] s { s with host := x } := by
  intro p hp; cases p <;> simp_all [Part.Same]
theorem sameBut_eph (s : State) (x : EphState) : SameBut [.eph] s { s with eph := x } := by
  intro p hp; cases p <;> simp_all [Part.Same]
theorem sameBut_engines (s : State) (x : Vector Engine 32) : SameBut [.engines] s { s with engines := x } := by
  intro p hp; cases p <;> simp_all [Part.Same]
theorem sameBut_arb (s : State) (x : Arbiter) : SameBut [.arb] s { s with arb := x } := by
  intro p hp; cases p <;> simp_all [Part.Same]
theorem sameBut_melt (s : State) (x : Vector MeltCh 32) : SameBut [.melt] s { s with melt := x } := by
  intro p hp; cases p <;> simp_all [Part.Same]
theorem sameBut_peri (s : State) (x : Peri) : SameBut [.peri] s { s with peri := x } := by
  intro p hp; cases p <;> simp_all [Part.Same]
theorem sameBut_tide (s : State) (x : Tide) : SameBut [.tide] s { s with tide := x } := by
  intro p hp; cases p <;> simp_all [Part.Same]
theorem sameBut_links (s : State) (x : Vector Link 32) : SameBut [.links] s { s with links := x } := by
  intro p hp; cases p <;> simp_all [Part.Same]
theorem sameBut_axes (s : State) (x : Vector Axis 8) : SameBut [.axes] s { s with axes := x } := by
  intro p hp; cases p <;> simp_all [Part.Same]
theorem sameBut_recoat (s : State) (x : Recoat) : SameBut [.recoat] s { s with recoat := x } := by
  intro p hp; cases p <;> simp_all [Part.Same]
theorem sameBut_camera (s : State) (x : Camera) : SameBut [.camera] s { s with camera := x } := by
  intro p hp; cases p <;> simp_all [Part.Same]
theorem sameBut_halo (s : State) (x : Halo) : SameBut [.halo] s { s with halo := x } := by
  intro p hp; cases p <;> simp_all [Part.Same]
theorem sameBut_time (s : State) (x : TimeState) : SameBut [.time] s { s with time := x } := by
  intro p hp; cases p <;> simp_all [Part.Same]
theorem sameBut_mem (s : State) (x : Memory) : SameBut [.mem] s { s with mem := x } := by
  intro p hp; cases p <;> simp_all [Part.Same]
theorem sameBut_disp (s : State) (x : Display) : SameBut [.disp] s { s with disp := x } := by
  intro p hp; cases p <;> simp_all [Part.Same]
theorem sameBut_power (s : State) (x : Power) : SameBut [.power] s { s with power := x } := by
  intro p hp; cases p <;> simp_all [Part.Same]
theorem sameBut_cal (s : State) (x : Cal) : SameBut [.cal] s { s with cal := x } := by
  intro p hp; cases p <;> simp_all [Part.Same]
theorem sameBut_tail (s : State) (x : Tail) : SameBut [.tail] s { s with tail := x } := by
  intro p hp; cases p <;> simp_all [Part.Same]
theorem sameBut_eclipse (s : State) (x : Eclipse) : SameBut [.eclipse] s { s with eclipse := x } := by
  intro p hp; cases p <;> simp_all [Part.Same]

/-! ## The stores that change more than one field -/

/-- Counters cleared under `keepSummary` also move the summary base of the Tail recorder (R206). -/
theorem State.keepSummary_sameBut {v : List Part} {s : State} {f : State → State} (h : SameBut v s (f s)) :
    SameBut (v ++ [.tail]) s (s.keepSummary f) :=
  h.comp (sameBut_tail (f s) _)

theorem State.clearArb_sameBut (s : State) : SameBut [.arb, .engines] s s.clearArb :=
  (sameBut_arb s s.clearArb.arb).comp (sameBut_engines { s with arb := s.clearArb.arb } s.clearArb.engines)

/-- A link that leaves ACTIVE loses the sources of its routes and the picture under way (R298). -/
theorem State.linkSourcesLost_sameBut (m : Nat) (s : State) : SameBut [.eph, .melt] s (s.linkSourcesLost m) := by
  have lost (ty i : Nat) (s : State) : SameBut [.eph] s (s.sourceLost ty i fun _ => true) := sameBut_eph s _
  unfold State.linkSourcesLost
  dsimp only
  split
  next => exact (lost 1 m s).comp (SameBut.refl [.melt] _)
  next h _ => exact (((lost 1 m s).trans (lost 2 h.head _)).trans (lost 7 h.head _)).comp (sameBut_melt _ _)

theorem State.toState_sameBut (m : Nat) (f : Link → Link) (s : State) :
    SameBut [.links, .eph, .melt] s (s.toState m f) :=
  (sameBut_links s (upd s.links m f)).comp
    (SameBut.ite (State.linkSourcesLost_sameBut m _) (SameBut.refl [.eph, .melt] _))

theorem State.linkCtl_sameBut (m : Nat) (w : W32) (s : State) : SameBut [.links, .eph, .melt] s (s.linkCtl m w) := by
  have link (f : Link → Link) (s : State) : SameBut [.links, .eph, .melt] s (s.modLink m f) :=
    (sameBut_links s _).mono (by simp)
  have ends (s : State) : SameBut [.links, .eph, .melt] s (s.endTest m) := link _ s
  have moves (f : Link → Link) (s : State) := State.toState_sameBut m f s
  unfold State.linkCtl
  refine SameBut.trans (SameBut.trans ?test (SameBut.ite (link _ _) (SameBut.refl _ _)))
    (SameBut.ite (SameBut.ite (ends _) (moves _ _)) (SameBut.refl _ _))
  exact SameBut.ite (SameBut.refl _ _) (SameBut.ite (SameBut.ite (link _ s) (ends s))
    (SameBut.ite (link _ s) (moves _ s)))

/-- A commit of an exposure set changes the camera and sends its writes (R342). -/
theorem State.camCommit_sameBut (i : Nat) (s : State) : SameBut [.camera, .outbox] s (s.camCommit i) := by
  have sensor (f : Sensor → Sensor) (s : State) : SameBut [.camera, .outbox] s (s.modSensor i f) :=
    (sameBut_camera s _).mono (by simp)
  have sends (ws : List W32) (s : State) : SameBut [.camera, .outbox] s (s.cciWrites i ws) :=
    SameBut.foldl (fun s _ => (sameBut_outbox s _).mono (by simp)) ws s
  have starts (s : State) : SameBut [.camera, .outbox] s (s.startWrites i) := by
    unfold State.startWrites
    dsimp only
    split
    · exact ((sensor _ s).trans (sends _ _)).trans (SameBut.ite (sensor _ _) (SameBut.refl _ _))
    · exact SameBut.refl _ s
  exact (sensor _ s).trans (starts _)

theorem State.strobesOn_sameBut (k : Nat) (s : State) : SameBut [.halo] s (s.strobesOn k) :=
  SameBut.foldl (fun s _ => SameBut.ite (SameBut.refl _ s) (sameBut_halo s _)) _ s

theorem State.haloStatusW1c_sameBut (c : Nat) (w : W32) (s : State) : SameBut [.halo] s (s.haloStatusW1c c w) :=
  (SameBut.trans (sameBut_halo s _) (sameBut_halo _ _)).trans (State.strobesOn_sameBut (s.ix + 1) _)

theorem State.bypCheck_sameBut (s : State) : SameBut [.time] s s.bypCheck :=
  SameBut.ite (sameBut_time s _) (SameBut.refl _ s)

theorem State.dispCommitWrite_sameBut (w : W32) (s : State) : SameBut [.disp] s (s.dispCommitWrite w) :=
  (SameBut.ite (sameBut_disp s _) (SameBut.refl _ s)).trans (SameBut.ite (sameBut_disp _ _) (SameBut.refl _ _))

theorem State.noteFull_sameBut (s : State) : SameBut [.tail] s s.noteFull :=
  SameBut.ite (sameBut_tail s _) (SameBut.refl _ s)

theorem State.setFreeze_sameBut (on : Bool) (s : State) : SameBut [.tail] s (s.setFreeze on) := by
  refine (sameBut_tail s { s.tail with freeze := on }).trans ?_
  unfold State.setFreeze
  dsimp only
  split
  · exact SameBut.ite ((sameBut_tail _ _).trans (State.noteFull_sameBut _)) (SameBut.refl _ _)
  · exact SameBut.refl _ _

/-! ## Every register -/

/-- What a write of a register stores lies in the register's parts. -/
theorem State.regStore_sameBut (r : Reg) (s : State) (p i : Nat) (w : W32) (henter : r ≠ .eclipseEnter)
    (hrelease : r ≠ .hostRoleRelease) (hhead : r ≠ .hostDbCqHead) : SameBut r.parts s (s.regStore p i w r) := by
  cases r
  case eclipseEnter => exact absurd rfl henter
  case hostRoleRelease => exact absurd rfl hrelease
  case hostDbCqHead => exact absurd rfl hhead
  case eclipseLeave => exact sameBut_eclipse s _
  case eclipseCtl => exact (sameBut_eclipse s _).onBit w 0
  case hostRoleClaim | hostSlotCtl | hostQpSelect | hostQpCtrl | hostQpSize | hostQpSqBaseLo | hostQpSqBaseHi
      | hostQpCqBaseLo | hostQpCqBaseHi | hostDbSqTail | tailCursor => exact sameBut_host s _
  case seCntCtl => exact (State.keepSummary_sameBut (f := State.modEngine i _) (sameBut_engines s _)).onBit w 0
  case arbCntCtl => exact (State.keepSummary_sameBut s.clearArb_sameBut).onBit w 0
  case arbTailMin => exact sameBut_arb s _
  case arbLogPop => exact (sameBut_arb s _).onBit w 0
  case tideCntCtl => exact (sameBut_tide s _).onBit w 0
  case tideLoopCtl | tideLoopStatus | tideSp | tideMan => exact sameBut_tide s _
  case periProbe => exact sameBut_peri s _
  case periCntCtl => exact (sameBut_peri s _).onBit w 0
  case mpCfg | mpCfg2 | mpPdCfg => exact sameBut_melt s _
  case mpCntCtl => exact (State.keepSummary_sameBut (f := State.modMelt i _) (sameBut_melt s _)).onBit w 0
  case mlCtl => exact s.linkCtl_sameBut i w
  case mlCntCtl => exact (State.keepSummary_sameBut (f := State.modLink i _) (sameBut_links s _)).onBit w 0
  case axRecoatCfg | axRecoatEndA | axRecoatEndB | axRecoatDose => exact sameBut_recoat s _
  case axState => exact (sameBut_axes s _).onBit w 23
  case axCntCtl => exact (sameBut_axes s _).onBit w 0
  case axCfg | axHomeV | axHomeOfs | axFollowCfg => exact sameBut_axes s _
  case camSCommit => exact (s.camCommit_sameBut i).onBit w 0
  case camSState => exact (sameBut_camera s _).onBit w 6
  case camCntCtl | camSCntCtl | camCCommit => exact (sameBut_camera s _).onBit w 0
  case camSTrig | camSPeriod | camSExpTime | camSExpCci | camSGainCci | camCBlack | camCCtl | camCCcm0 | camCCcm1
      | camCCcm2 | camCCcm3 | camCCcm4 => exact sameBut_camera s _
  case haloCntCtl => exact (sameBut_halo s _).onBit w 0
  case haloChLevel => exact sameBut_halo s _
  case haloChStatus => exact s.haloStatusW1c_sameBut i w
  case orbCtl => exact (sameBut_time s _).trans (State.bypCheck_sameBut _)
  case orbPpCtl => exact sameBut_time s _
  case orbPpCntCtl | ptpCntCtl => exact (sameBut_time s _).onBit w 0
  case dramScrub => exact SameBut.onBit (f := State.startScrub) (SameBut.ite (SameBut.refl _ s) (sameBut_mem s _)) w 0
  case sramScrubCfg => exact sameBut_mem s _
  case dramCntCtl | sramCntCtl | crcCntCtl => exact (sameBut_mem s _).onBit w 0
  case dispCommit => exact s.dispCommitWrite_sameBut w
  case dispCntCtl => exact (sameBut_disp s _).onBit w 0
  case dispCtl | dispBase | dispAperture | dispThmOrigin | dispThmMap | dispPalette | aperture =>
    exact sameBut_disp s _
  case pwrCntCtl | thmCntCtl => exact (sameBut_power s _).onBit w 0
  case thmSStatus => exact sameBut_power s _
  case calCntCtl => exact (sameBut_cal s _).onBit w 0
  case tailCtl => exact (sameBut_tail s _).trans (State.setFreeze_sameBut (bitOf w 0) _)
  case tailCntCtl => exact (sameBut_tail s _).onBit w 0
  -- a register whose fields are all RO stores nothing
  all_goals exact SameBut.refl _ s

/-- Settles O7, register by register. -/
theorem acceptedWritesLeaveOtherPartsAlone : Obligations.AcceptedWritesLeaveOtherPartsAlone :=
  State.regStore_sameBut

end Sys2Proof.Machine
end

section
/-!
Register reads: what a port and a slot hold after a change, and what a read answers, records and captures.
-/

namespace Sys2Proof.Machine

/-! ## Tables, ports and slots after a change -/

theorem nth_upd_same {α : Type} {n i : Nat} (d : α) (t : Vector α n) (f : α → α) (h : i < n) :
    nth d (upd t i f) i = f (nth d t i) := by
  simp [nth, upd, h]

theorem nth_upd_other {α : Type} {n i j : Nat} (d : α) (t : Vector α n) (f : α → α) (h : j ≠ i) :
    nth d (upd t i f) j = nth d t j := by
  unfold nth upd
  split
  · rw [Vector.getElem?_setIfInBounds_ne h.symm]
  · rfl

theorem State.port_modPort_same {p : Nat} (h : p < 3) (f : Port → Port) (s : State) :
    (s.modPort p f).port p = f (s.port p) :=
  nth_upd_same ({} : Port) s.host.ports f h

@[simp] theorem State.port_send (o : Out) (s : State) (p : Nat) : (s.send o).port p = s.port p := rfl

@[simp] theorem State.port_holdWriter (s : State) (p : Nat) : s.holdWriter.port p = s.port p := by
  unfold State.holdWriter
  split <;> rfl

theorem State.slot_modSlot_same {i : Nat} {s : State} (h : i < s.host.slots.length) (f : Slot → Slot) :
    (s.modSlot i f).slot i = f (s.slot i) := by
  simp [State.slot, State.modSlot, h]

theorem b1_lt_three (b : Bool) : b1 b < 3 := by cases b <;> decide

/-! ## Refusals -/

/-- Neither a wake of the endpoint nor a refusal changes which slot is charged. -/
@[simp] theorem State.charged_wakePort (p : Nat) (s : State) (o : Origin) (a : Nat) :
    (s.wakePort p).charged o a = s.charged o a := rfl

/-- A refusal is recorded in ERR_LAST of its port (R112). -/
theorem State.port_refuse {p : Nat} (h : p < 3) (slot : Option Nat) (c : Code) (addr : Nat) (s : State) :
    (s.refuse p slot c addr).port p =
      { s.port p with errSlot := slot.getD 0xF, errCode := c, errAddr := addr % 2 ^ 20 } := by
  unfold State.refuse
  cases slot <;> exact State.port_modPort_same h _ s

/-- A refusal is counted for the slot that it is charged to (R112). -/
theorem State.reject_refuse {i : Nat} {s : State} (h : i < s.host.slots.length) (p : Nat) (c : Code) (addr : Nat) :
    ((s.refuse p (some i) c addr).slot i).reject = (s.slot i).reject.inc :=
  congrArg Slot.reject (State.slot_modSlot_same (s := s.modPort p _) h _)

/-- A refusal changes the host part alone. -/
theorem State.refuse_sameBut (p : Nat) (slot : Option Nat) (c : Code) (addr : Nat) (s : State) :
    SameBut [.host] s (s.refuse p slot c addr) := by
  unfold State.refuse
  cases slot with
  | none => exact sameBut_host s _
  | some i => exact (sameBut_host s _).trans (sameBut_host _ _)

/-! ## Narrow reads -/

/-- What a read that is narrow or misaligned leaves: the refusal and the zero that the reader gets (R7). -/
theorem State.readReg_of_narrow {a : RegAccess} {b : Bool} (ho : a.origin = .pcie b) (hn : a.narrow = true)
    (s : State) : s.readReg a =
      (s.refuse (b1 b) (s.charged a.origin a.addr) 0x0201 a.addr).send (.readValue (b1 b) a.addr 0) := by
  simp only [State.readReg, hn, if_true, State.refuseAccess, State.answerRead, ho, Origin.port]

/-- LATCHING_READ is the row of aligned reads: a narrow one is no such row. -/
theorem execLatchingRead_of_narrow {a : RegAccess} {b : Bool} (ho : a.origin = .pcie b) (hn : a.narrow = true)
    (s : State) : execLatchingRead a s = .next s := by
  simp only [execLatchingRead, ho, hn, if_true]

/-- A PCIe access within BAR0 over a link that is up reaches the device, which it wakes. -/
theorem reaches_pcie {a : RegAccess} {b : Bool} {s : State} (ho : a.origin = .pcie b) (ha : a.addr < 2 ^ 20)
    (hup : (s.port (b1 b)).linkUp = true) : Reaches a s (s.wakePort (b1 b)) := by
  unfold Reaches
  rw [ho]
  exact ⟨ha, hup, rfl⟩

/-- Settles O11: the refusal of step 1, the one that concerns reads. -/
theorem narrowReadsReturnZero : Obligations.NarrowReadsReturnZero := by
  intro a b s ho ha hup hn hlen
  refine ⟨?_, execLatchingRead_of_narrow ho hn s⟩
  let u := s.wakePort (b1 b)
  let t := u.refuse (b1 b) (u.charged a.origin a.addr) 0x0201 a.addr
  have hport := State.port_refuse (b1_lt_three b) (u.charged a.origin a.addr) 0x0201 a.addr u
  have hframe : SameBut [.host] s t := (sameBut_host s u.host).trans (State.refuse_sameBut _ _ _ _ u)
  refine ⟨t.send (.readValue (b1 b) a.addr 0), ?run, ?sent, hframe.comp (sameBut_outbox t _), ?code, ?offset, ?charge⟩
  case run =>
    show execRefusedRead a s = _
    rw [execRefusedRead, if_pos hn, State.access_of_reaches (reaches_pcie ho ha hup), State.readReg_of_narrow ho hn]
  case sent => exact congrArg _ (hframe .outbox (by decide))
  case code => rw [State.port_send, hport]
  case offset =>
    rw [State.port_send, hport]
    exact Nat.mod_eq_of_lt ha
  case charge =>
    intro i hi hi8
    have hslot : i < u.host.slots.length := hlen ▸ hi8
    show (t.slot i).reject = _
    simp only [t, u, State.charged_wakePort, hi]
    exact State.reject_refuse hslot ..

/-! ## Aligned reads -/

/-- The latches of a port after a read of register `r` that captures (R501). -/
def State.withCaptured (s : State) (p a : Nat) (r : Reg) (i : Nat) : State :=
  s.modPort p fun q =>
    { q with latches := (s.captured p a (captures r i)).foldl (fun m c => sset 0 m c.1 c.2) q.latches }

/-- A latched word reads what the port's latch holds, and changes nothing. -/
theorem State.readAt_of_latched {s : State} {p a i : Nat} {x : RegPlace} (h : s.reach p a = .ok (x, i))
    (hl : latched x.reg i = true) : s.readAt p a = (sget 0 (s.port p).latches a, s) := by
  simp only [State.readAt, h, hl, if_true]

/-- Any other register reads its value; TAIL_STATUS also holds the writer off (R496). -/
theorem State.readAt_of_live {s : State} {p a i : Nat} {x : RegPlace} (h : s.reach p a = .ok (x, i))
    (hl : latched x.reg i = false) : s.readAt p a = (s.regValue p i x.reg,
      if x.reg = .tailStatus then (s.withCaptured p a x.reg i).holdWriter else s.withCaptured p a x.reg i) := by
  simp only [State.readAt, h, hl, Bool.false_eq_true, if_false, State.withCaptured]

/-- A read changes at most the latches of its port and the hold of the Tail writer. -/
theorem State.readAt_sameBut (p a : Nat) (s : State) : SameBut [.host, .tail] s (s.readAt p a).2 := by
  have hold (s : State) : SameBut [.host, .tail] s s.holdWriter :=
    SameBut.ite (SameBut.refl _ s) ((sameBut_tail s _).mono (by simp))
  cases hr : s.reach p a with
  | error c => rw [State.readAt_of_unreached hr]; exact SameBut.refl _ s
  | ok q =>
    obtain ⟨x, i⟩ := q
    cases hl : latched x.reg i with
    | true => rw [State.readAt_of_latched hr hl]; exact SameBut.refl _ s
    | false =>
      rw [State.readAt_of_live hr hl]
      have capture : SameBut [.host, .tail] s (s.withCaptured p a x.reg i) :=
        (sameBut_host s _).mono (by simp)
      exact SameBut.ite (capture.trans (hold _)) capture

/-- The port's latches after a read of a register that is not latched itself. -/
theorem State.latches_readAt {s : State} {p a i : Nat} {x : RegPlace} (hp : p < 3) (h : s.reach p a = .ok (x, i))
    (hl : latched x.reg i = false) : ((s.readAt p a).2.port p).latches =
      (s.captured p a (captures x.reg i)).foldl (fun m c => sset 0 m c.1 c.2) (s.port p).latches := by
  rw [State.readAt_of_live h hl]
  have capture : ((s.withCaptured p a x.reg i).port p).latches = _ :=
    congrArg Port.latches (State.port_modPort_same hp _ s)
  dsimp only
  split
  · rw [State.port_holdWriter]; exact capture
  · exact capture

/-- A LATCHING_READ that reaches the device answers what `readAt` gives. -/
theorem execLatchingRead_of_reaches {a : RegAccess} {b : Bool} {s : State} (ho : a.origin = .pcie b)
    (ha : a.addr < 2 ^ 20) (hup : (s.port (b1 b)).linkUp = true) (hn : a.narrow = false) :
    execLatchingRead a s = .next (((s.wakePort (b1 b)).readAt (b1 b) a.addr).2.send
      (.readValue (b1 b) a.addr ((s.wakePort (b1 b)).readAt (b1 b) a.addr).1)) := by
  have hrun := State.access_of_reaches (reaches_pcie ho ha hup) (.read a) (State.readReg a)
  simp only [execLatchingRead, ho, hn, Bool.false_eq_true, if_false, hrun, State.readReg, State.answerRead, Origin.port]

/-- The value that a read gives: the latch of a latched word, and else the register's own. -/
theorem State.readAt_value {s : State} {p a i : Nat} {x : RegPlace} (h : s.reach p a = .ok (x, i)) :
    (s.readAt p a).1 = if latched x.reg i then sget 0 (s.port p).latches a else s.regValue p i x.reg := by
  cases hl : latched x.reg i with
  | true => rw [State.readAt_of_latched h hl]; rfl
  | false => rw [State.readAt_of_live h hl]; rfl

/-- A wake of the endpoint leaves the port's latches. -/
theorem State.latches_wakePort {p : Nat} (hp : p < 3) (s : State) :
    ((s.wakePort p).port p).latches = (s.port p).latches := by
  rw [State.wakePort, State.port_modPort_same hp]

/-! ## What a read captures (R501) -/

/-- After several writes of a table, a place that some of them wrote, all with the same value, holds that value. -/
theorem sget_foldl_sset {cs : List (Nat × W32)} {m : List (Nat × W32)} {k : Nat} {v : W32} (hm : swf 0 m = true)
    (hk : sget 0 m k = v ∨ ∃ c ∈ cs, c.1 = k) (hv : ∀ c ∈ cs, c.1 = k → c.2 = v) :
    sget 0 (cs.foldl (fun m c => sset 0 m c.1 c.2) m) k = v := by
  induction cs generalizing m with
  | nil => simpa using hk
  | cons c r ih =>
    have hw : swf 0 (sset 0 m c.1 c.2) = true := swf_sset c.1 c.2 hm
    refine ih hw ?_ fun d hd => hv d (List.mem_cons_of_mem c hd)
    by_cases hc : c.1 = k
    · left
      rw [← hv c List.mem_cons_self hc, ← hc]
      exact sget_sset_same c.1 c.2 hm
    · rcases hk with hk | ⟨d, hd, hdk⟩
      · left
        rw [sget_sset_other c.1 k c.2 (Ne.symm hc), hk]
      · rcases List.mem_cons.1 hd with rfl | hd
        · exact absurd hdk hc
        · exact .inr ⟨d, hd, hdk⟩

/-- A word that is captured is captured with its value of the moment. -/
theorem State.mem_captured {s : State} {p a n : Nat} {c : Nat × W32} :
    c ∈ s.captured p a n ↔ ∃ k y j, k < n ∧ regAt (a + 4 * (k + 1)) = some (y, j) ∧
      c = (a + 4 * (k + 1), s.regValue p j y.reg) := by
  simp only [State.captured, List.mem_filterMap, List.mem_range, Option.map_eq_some_iff, Prod.exists]
  constructor
  · rintro ⟨k, hk, y, j, hy, rfl⟩
    exact ⟨k, y, j, hk, hy, rfl⟩
  · rintro ⟨k, y, j, hk, hy, rfl⟩
    exact ⟨k, hk, y, j, hy, rfl⟩

/-- Settles O12: the value by `State.readAt_value`, the captured words by `State.latches_readAt`. -/
theorem readsReturnTheRegisterAndLatch : Obligations.ReadsReturnTheRegisterAndLatch := by
  constructor
  · intro a b s x i ho ha hup hn hreach
    let u := s.wakePort (b1 b)
    let t := (u.readAt (b1 b) a.addr).2
    have hframe : SameBut [.host, .tail] s t :=
      ((sameBut_host s u.host).mono (by simp)).trans (State.readAt_sameBut (b1 b) a.addr u)
    refine ⟨_, execLatchingRead_of_reaches ho ha hup hn, ?_, (hframe.comp (sameBut_outbox t _)).mono (by simp)⟩
    show _ :: t.outbox = _ :: s.outbox
    rw [State.readAt_value hreach, State.latches_wakePort (b1_lt_three b), hframe .outbox (by decide)]
  · intro s p a k x y i j hp hm hreach hl hk hy
    rw [State.latches_readAt hp hreach hl]
    refine sget_foldl_sset hm (.inr ⟨_, State.mem_captured.2 ⟨k, y, j, hk, hy, rfl⟩, rfl⟩) ?_
    intro c hc hck
    obtain ⟨l, z, m, _, hz, rfl⟩ := State.mem_captured.1 hc
    have hlk : l = k := by simp only at hck; omega
    subst hlk
    rw [hz] at hy
    cases hy
    rfl

end Sys2Proof.Machine
end

section
/-!
The parts of the state after reset, and the registers whose heading gives a non-zero reset value (R12).
-/

namespace Sys2Proof.Machine

theorem nth_replicate {α : Type} {n i : Nat} (d a : α) (h : i < n) : nth d (Vector.replicate n a) i = a := by
  simp [nth, h]

theorem State.port_reset {p : Nat} (h : p < 3) : State.reset.port p = {} := nth_replicate _ _ h

theorem State.slot_reset {i : Nat} (h : i < 8) : State.reset.slot i = { cfg := defaultSlot i } := by
  simp [State.slot, State.reset, h]

theorem State.meltCh_reset {n : Nat} (h : n < 32) : State.reset.meltCh n = {} := nth_replicate _ _ h

theorem State.axis_reset {a : Nat} (h : a < 8) : State.reset.axis a = {} := nth_replicate _ _ h

theorem State.sensor_reset {i : Nat} (h : i < 8) : State.reset.sensor i = {} := nth_replicate _ _ h

theorem State.camCtx_reset {i : Nat} (h : i < 8) : State.reset.camCtx i = CamContext.atReset := nth_replicate _ _ h

/-- Slots 1 to 6 of the default map are not bound to a port (R101). -/
theorem defaultSlot_unbound {i : Nat} (h1 : 1 ≤ i) (h6 : i ≤ 6) : defaultSlot i = {} := by
  rw [defaultSlot, if_neg (by omega), if_neg (by omega)]

/-- HOST_SLOT_STATUS of slots 1 to 6 after reset: PORT 3, and nothing else. -/
theorem State.slotStatusWord_reset_unbound {i : Nat} (h1 : 1 ≤ i) (h6 : i ≤ 6) :
    State.reset.slotStatusWord i = 0x30 := by
  rw [State.slotStatusWord, State.slotUp, State.slot_reset (by omega), defaultSlot_unbound h1 h6]
  decide

/-- Settles O2: each register word is computed from its part after reset. -/
theorem registersReadTheirResetValues : Obligations.RegistersReadTheirResetValues := by
  refine ⟨fun p => ⟨rfl, rfl, rfl, fun hp => ?errLast, ?slot0, ?slot7, fun i h1 h6 => ?slots, fun n hn => ?melt,
    rfl, ?thmMap⟩, fun a ha => ?axes, fun i hi => ?cameras, fun i hi => ?roles⟩
  case errLast =>
    show packWord [((State.reset.port p).errSlot, 16), ((State.reset.port p).errCode.toNat, 0)] = _
    rw [State.port_reset hp]
    decide
  case slot0 => show State.reset.slotStatusWord 0 = _; decide
  case slot7 => show State.reset.slotStatusWord 7 = _; decide
  case slots => exact State.slotStatusWord_reset_unbound h1 h6
  case melt =>
    show packWord [((State.reset.meltCh n).cfg.black, 16), ((State.reset.meltCh n).cfg.thresh, 0)] = _ ∧
      packWord [((State.reset.meltCh n).cfg.spatterTh, 16), ((State.reset.meltCh n).cfg.coreR, 0)] = _ ∧
      packWord [((State.reset.meltCh n).ratioMin, 16), ((State.reset.meltCh n).gateLag, 0)] = _
    rw [State.meltCh_reset hn]
    decide
  case thmMap => show packWord [(0, 16), (0, 8), (1, 0)] = _; decide
  case axes => rw [State.axis_reset ha]; exact ⟨rfl, rfl, rfl, rfl⟩
  case cameras => rw [State.sensor_reset hi, State.camCtx_reset hi]; exact ⟨rfl, rfl, rfl, rfl⟩
  case roles => rw [State.slot_reset hi]; exact ⟨rfl, rfl, rfl⟩

end Sys2Proof.Machine
end

section
/-!
What the units of the device leave alone: no operation of a unit changes the boot registers, the planes or the power
unit. One lemma for each operation, in the order of the model.
-/

namespace Sys2Proof.Machine

/-- The parts that only power-up, boot, update, faults and temperature change. -/
def State.trunk (s : State) : Boot × Planes × Power := (s.boot, s.planes, s.power)

theorem State.boot_of_trunk {s t : State} (h : t.trunk = s.trunk) : t.boot = s.boot := congrArg Prod.fst h

theorem State.planes_of_trunk {s t : State} (h : t.trunk = s.trunk) : t.planes = s.planes :=
  congrArg (fun x => x.2.1) h

theorem State.power_of_trunk {s t : State} (h : t.trunk = s.trunk) : t.power = s.power :=
  congrArg (fun x => x.2.2) h

/-- The trunk of a state that is written out: with `State.trunk_eta`, updates of other parts disappear. -/
@[simp] theorem State.trunk_mk (pending : List Instr) (outbox : List Out) (freeCtr : Nat) (host : HostState)
    (eph : EphState) (job : JobState) (engines : Vector Engine 32) (arb : Arbiter) (melt : Vector MeltCh 32)
    (peri : Peri) (tide : Tide) (links : Vector Link 32) (axes : Vector Axis 8) (recoat : Recoat) (camera : Camera)
    (halo : Halo) (time : TimeState) (mem : Memory) (disp : Display) (power : Power) (cal : Cal) (boot : Boot)
    (tail : Tail) (planes : Planes) (eclipse : Eclipse) (flash : List (Nat × Byte)) :
    State.trunk ⟨pending, outbox, freeCtr, host, eph, job, engines, arb, melt, peri, tide, links, axes, recoat, camera,
      halo, time, mem, disp, power, cal, boot, tail, planes, eclipse, flash⟩ = (boot, planes, power) := rfl

@[simp] theorem State.trunk_eta (s : State) : (s.boot, s.planes, s.power) = s.trunk := rfl

@[simp] theorem ite_trunk {c : Prop} [Decidable c] (a b : State) :
    (if c then a else b).trunk = if c then a.trunk else b.trunk := by split <;> rfl

@[simp] theorem foldl_trunk {α : Type} (l : List α) (f : State → α → State) (h : ∀ s a, (f s a).trunk = s.trunk)
    (s : State) : (l.foldl f s).trunk = s.trunk := foldl_keep State.trunk f h l s

/-! ### The named updates -/

@[simp] theorem State.modEngine_trunk (n : Nat) (f : Engine → Engine) (s : State) :
    (State.modEngine n f s).trunk = s.trunk := rfl

@[simp] theorem State.modLink_trunk (n : Nat) (f : Link → Link) (s : State) :
    (State.modLink n f s).trunk = s.trunk := rfl

@[simp] theorem State.modSlot_trunk (n : Nat) (f : Slot → Slot) (s : State) :
    (State.modSlot n f s).trunk = s.trunk := rfl

@[simp] theorem State.modPort_trunk (n : Nat) (f : Port → Port) (s : State) :
    (State.modPort n f s).trunk = s.trunk := rfl

@[simp] theorem State.modQueue_trunk (n : Nat) (f : Queue → Queue) (s : State) :
    (State.modQueue n f s).trunk = s.trunk := rfl

@[simp] theorem State.send_trunk (o : Out) (s : State) : (State.send o s).trunk = s.trunk := rfl

@[simp] theorem State.modHalo_trunk (n : Nat) (f : HaloCh → HaloCh) (s : State) :
    (State.modHalo n f s).trunk = s.trunk := rfl

@[simp] theorem State.modCal_trunk (i : Nat) (f : CalSubject → CalSubject) (s : State) :
    (State.modCal i f s).trunk = s.trunk := rfl

@[simp] theorem State.modDisp_trunk (f : Display → Display) (s : State) : (State.modDisp f s).trunk = s.trunk := rfl

/-! ### Records, posts and events -/

@[simp] theorem State.checkUsed_trunk (n : Nat) (s : State) : (State.checkUsed n s).trunk = s.trunk := rfl

@[simp] theorem State.recordAt_trunk (time : Option Nat) (stage : Bool) (type : Nat) (plane : Plane)
    (payload : List Byte) (s : State) :
    (State.recordAt time stage type plane payload s).trunk = s.trunk := by
  simp [State.recordAt]

@[simp] theorem State.recordIn_trunk (stage : Bool) (type : Nat) (plane : Plane) (payload : List Byte)
    (s : State) :
    (State.recordIn stage type plane payload s).trunk = s.trunk := by
  simp [State.recordIn]

@[simp] theorem State.record_trunk (type : Nat) (plane : Plane) (payload : List Byte) (s : State) :
    (State.record type plane payload s).trunk = s.trunk := by
  simp [State.record]

@[simp] theorem State.raiseVector_trunk (port vector : Nat) (s : State) :
    (State.raiseVector port vector s).trunk = s.trunk := by
  unfold State.raiseVector
  split <;> simp

@[simp] theorem State.postCq_trunk (qn port : Nat) (c : Cpl) (irq : Bool) (s : State) :
    (State.postCq qn port c irq s).trunk = s.trunk := by
  simp [State.postCq]

@[simp] theorem State.post_trunk (f : Flight) (status : Code) (r0 r1 : W64) (sample : W32)
    (late : Bool) (data : List Byte) (s : State) :
    (State.post f status r0 r1 sample late data s).trunk = s.trunk := by
  unfold State.post
  dsimp only
  split
  · rfl
  · split
    · split <;> simp
    · rfl

@[simp] theorem State.finish_trunk (f : Flight) (status : Code) (r0 r1 : W64) (late : Bool)
    (data : List Byte) (s : State) :
    (State.finish f status r0 r1 late data s).trunk = s.trunk := by
  simp [State.finish]

@[simp] theorem State.finishId_trunk (id : Nat) (status : Code) (r0 r1 : W64) (late : Bool)
    (data : List Byte) (s : State) :
    (State.finishId id status r0 r1 late data s).trunk = s.trunk := by
  unfold State.finishId
  split <;> simp

@[simp] theorem State.eventTo_trunk (i type : Nat) (status : Code) (r1 : W64) (s : State) :
    (State.eventTo i type status r1 s).trunk = s.trunk := by
  unfold State.eventTo
  dsimp only
  repeat' split
  all_goals simp

@[simp] theorem State.eventBut_trunk (skip : Nat → Bool) (type : Nat) (status : Code) (r1 : W64) (s : State) :
    (State.eventBut skip type status r1 s).trunk = s.trunk := by
  simp [State.eventBut]

@[simp] theorem State.event_trunk (type : Nat) (status : Code) (r1 : W64) (s : State) :
    (State.event type status r1 s).trunk = s.trunk := by
  simp [State.event]

/-! ### Roles and links of hosts -/

@[simp] theorem State.cancelCommit_trunk (status : Code) (s : State) :
    (State.cancelCommit status s).trunk = s.trunk := by
  unfold State.cancelCommit
  split <;> simp

@[simp] theorem State.pilotLost_trunk (i : Nat) (s : State) :
    (State.pilotLost i s).trunk = s.trunk := by
  simp [State.pilotLost]

@[simp] theorem State.dropRoles_trunk (i : Nat) (m : BitVec 4) (s : State) :
    (State.dropRoles i m s).trunk = s.trunk := by
  simp [State.dropRoles]

@[simp] theorem foldl_modQueue_trunk (f : Queue → Queue) (l : List Nat) (s : State) :
    (l.foldl (fun s q => s.modQueue q f) s).trunk = s.trunk := foldl_keep State.trunk _ (fun _ _ => by rfl) l s

@[simp] theorem State.slotDown_trunk (i : Nat) (s : State) :
    (State.slotDown i s).trunk = s.trunk := by
  simp [State.slotDown]

@[simp] theorem State.portDown_trunk (p : Nat) (s : State) :
    (State.portDown p s).trunk = s.trunk := by
  simp [State.portDown]

@[simp] theorem State.pcieDown_trunk (s : State) :
    (State.pcieDown s).trunk = s.trunk := by
  simp [State.pcieDown]

/-! ### Pools, engines and Eclipse -/

@[simp] theorem State.sourceLost_trunk (ty index : Nat) (field : Nat → Bool) (s : State) :
    (State.sourceLost ty index field s).trunk = s.trunk := rfl

@[simp] theorem State.completeDesc_trunk (d : Desc) (s : State) :
    (State.completeDesc d s).trunk = s.trunk := by
  unfold State.completeDesc
  split <;> simp

@[simp] theorem State.settleDescs_trunk (s : State) :
    (State.settleDescs s).trunk = s.trunk := by
  simp [State.settleDescs]

@[simp] theorem State.park_trunk (n t0 : Nat) (s : State) :
    (State.park n t0 s).trunk = s.trunk := by
  unfold State.park
  split <;> simp

@[simp] theorem State.endHold_trunk (n t : Nat) (released : Bool) (s : State) :
    (State.endHold n t released s).trunk = s.trunk := by
  unfold State.endHold
  dsimp only
  split <;> simp

@[simp] theorem State.returnTakes_trunk (n : Nat) (s : State) :
    (State.returnTakes n s).trunk = s.trunk := by
  unfold State.returnTakes
  exact foldl_keep State.trunk _ (fun _ _ => by rfl) _ s

@[simp] theorem State.cutWords_trunk (n : Nat) (s : State) :
    (State.cutWords n s).trunk = s.trunk := foldl_keep State.trunk _ (fun _ _ => by rfl) _ s

@[simp] theorem State.discardDescs_trunk (num : Nat) (code : Code) (p : Desc → Bool) (s : State) :
    (State.discardDescs num code p s).trunk = s.trunk := rfl

@[simp] theorem State.dropExclusive_trunk (n : Nat) (s : State) :
    (State.dropExclusive n s).trunk = s.trunk := by
  unfold State.dropExclusive
  split <;> simp

@[simp] theorem State.dropZones_trunk (s : State) :
    (State.dropZones s).trunk = s.trunk := by
  unfold State.dropZones
  split <;> simp

@[simp] theorem State.abortBuild_trunk (s : State) :
    (State.abortBuild s).trunk = s.trunk := by
  unfold State.abortBuild
  split
  · exact foldl_keep State.trunk _ (fun _ _ => by rfl) _ s
  · rfl

@[simp] theorem State.stopEngine_trunk (n k t0 : Nat) (s : State) :
    (State.stopEngine n k t0 s).trunk = s.trunk := by
  simp [State.stopEngine]

@[simp] theorem State.triggerAt_trunk (k t0 : Nat) (scope : Nat → Bool) (bit : Nat) (code : Code) (s : State) :
    (State.triggerAt k t0 scope bit code s).trunk = s.trunk := by
  simp [State.triggerAt]

@[simp] theorem State.trigger_trunk (scope : Nat → Bool) (bit : Nat) (code : Code) (s : State) :
    (State.trigger scope bit code s).trunk = s.trunk := by
  simp [State.trigger]

/-! ### Memory, cameras and Halo -/

@[simp] theorem State.adoptAxes_trunk (s : State) : (State.adoptAxes s).trunk = s.trunk := rfl

@[simp] theorem State.trainDram_trunk (vendor capacity : Nat) (failed : W32) (s : State) :
    (State.trainDram vendor capacity failed s).trunk = s.trunk := by
  simp [State.trainDram]

@[simp] theorem State.adoptDram_trunk (boot : Bool) (s : State) :
    (State.adoptDram boot s).trunk = s.trunk := by
  unfold State.adoptDram
  split <;> simp

@[simp] theorem State.takeUnit_trunk (s : State) :
    (State.takeUnit s).trunk = s.trunk := by
  unfold State.takeUnit
  split
  · rfl
  · dsimp only
    split <;> rfl

@[simp] theorem State.adoptCameras_trunk (old : Option Eph) (s : State) :
    (State.adoptCameras old s).trunk = s.trunk := by
  simp [State.adoptCameras]

@[simp] theorem State.settleHalos_trunk (k : Nat) (s : State) :
    (State.settleHalos k s).trunk = s.trunk := foldl_keep State.trunk _ (fun _ _ => by rfl) _ s

@[simp] theorem State.checkPulse_trunk (c : Nat) (m : SinkReading) (s : State) :
    (State.checkPulse c m s).trunk = s.trunk := by
  simp [State.checkPulse]

@[simp] theorem State.noteSink_trunk (c : Nat) (m : SinkReading) (s : State) :
    (State.noteSink c m s).trunk = s.trunk := rfl

@[simp] theorem State.strobeOff_trunk (k : Nat) (ms : List (Nat × SinkReading)) (c : Nat) (s : State) :
    (State.strobeOff k ms c s).trunk = s.trunk := by
  unfold State.strobeOff
  split <;> simp

@[simp] theorem State.strobeEnd_trunk (sensor : Nat) (ms : List (Nat × SinkReading)) (s : State) :
    (State.strobeEnd sensor ms s).trunk = s.trunk := by
  simp [State.strobeEnd]

theorem State.trunk_withHalo (h : Halo) (s : State) : ({ s with halo := h }).trunk = s.trunk := rfl

@[simp] theorem State.tryNtest_trunk (s : State) :
    (State.tryNtest s).trunk = s.trunk := by
  unfold State.tryNtest
  split
  · exact (State.trunk_withHalo _ _).trans (State.settleHalos_trunk (s.ix + 1) s)
  · rfl

@[simp] theorem State.dueNtest_trunk (s : State) :
    (State.dueNtest s).trunk = s.trunk := by
  simp [State.dueNtest]

@[simp] theorem State.adoptHalo_trunk (s : State) :
    (State.adoptHalo s).trunk = s.trunk := by
  simp [State.adoptHalo]

/-! ### Moonlinks -/

@[simp] theorem State.bulkLost_trunk (n : Nat) (s : State) : (State.bulkLost n s).trunk = s.trunk := rfl

@[simp] theorem State.linkSourcesLost_trunk (m : Nat) (s : State) :
    (State.linkSourcesLost m s).trunk = s.trunk := by
  unfold State.linkSourcesLost
  dsimp only
  split <;> simp

@[simp] theorem State.toState_trunk (m : Nat) (f : Link → Link) (s : State) :
    (State.toState m f s).trunk = s.trunk := by
  simp [State.toState]

@[simp] theorem State.endTest_trunk (m : Nat) (s : State) : (State.endTest m s).trunk = s.trunk := rfl

@[simp] theorem State.adoptLinks_trunk (old : Option Eph) (s : State) :
    (State.adoptLinks old s).trunk = s.trunk := by
  refine foldl_keep State.trunk _ (fun s m => ?_) _ s
  dsimp only
  split <;> simp

/-! ### Calibration and the display -/

@[simp] theorem State.calDue_trunk (s : State) :
    (State.calDue s).trunk = s.trunk := by
  simp [State.calDue]

@[simp] theorem State.calFactory_trunk (s : State) : (State.calFactory s).trunk = s.trunk := rfl

@[simp] theorem State.calPowerUp_trunk (s : State) :
    (State.calPowerUp s).trunk = s.trunk := by
  simp [State.calPowerUp]

@[simp] theorem State.calEnded_trunk (i : Nat) (how : Nat) (s : State) :
    (State.calEnded i how s).trunk = s.trunk := by
  simp [State.calEnded]

@[simp] theorem State.calStartOne_trunk (step : Bool) (i : Nat) (s : State) :
    (State.calStartOne step i s).trunk = s.trunk := by
  simp [State.calStartOne]

@[simp] theorem State.calStartAll_trunk (step : Bool) (s : State) :
    (State.calStartAll step s).trunk = s.trunk := by
  simp [State.calStartAll]

@[simp] theorem State.calStart_trunk (s : State) :
    (State.calStart s).trunk = s.trunk := by
  simp [State.calStart]

@[simp] theorem State.calAbandon_trunk (which : Nat → Bool) (s : State) :
    (State.calAbandon which s).trunk = s.trunk := by
  simp [State.calAbandon]

@[simp] theorem State.adoptCal_trunk (e : Eph) (s : State) :
    (State.adoptCal e s).trunk = s.trunk := by
  simp [State.adoptCal]

@[simp] theorem State.adoptDisplay_trunk (old : Option EphDisplay) (s : State) :
    (State.adoptDisplay old s).trunk = s.trunk := by
  unfold State.adoptDisplay
  split <;> simp

/-! ### Time and the ring -/

@[simp] theorem State.rebase_trunk (o n from_ : Nat) (s : State) : (State.rebase o n from_ s).trunk = s.trunk := rfl

@[simp] theorem State.deriveIx_trunk (s : State) : (State.deriveIx s).trunk = s.trunk := rfl

@[simp] theorem State.setRate_trunk (s : State) :
    (State.setRate s).trunk = s.trunk := by
  simp [State.setRate]

@[simp] theorem State.moveIx_trunk (o : Nat) (step : Bool) (s : State) :
    (State.moveIx o step s).trunk = s.trunk := by
  simp [State.moveIx]

@[simp] theorem State.enterHoldover_trunk (s : State) :
    (State.enterHoldover s).trunk = s.trunk := by
  simp [State.enterHoldover]

@[simp] theorem State.selectDomain_trunk (d : Nat) (s : State) :
    (State.selectDomain d s).trunk = s.trunk := by
  simp [State.selectDomain]

@[simp] theorem State.loseSelected_trunk (s : State) :
    (State.loseSelected s).trunk = s.trunk := by
  simp [State.loseSelected]

@[simp] theorem State.bypCheck_trunk (s : State) :
    (State.bypCheck s).trunk = s.trunk := by
  simp [State.bypCheck]

@[simp] theorem State.adoptRing_trunk (old : Option EphRing) (s : State) :
    (State.adoptRing old s).trunk = s.trunk := by
  unfold State.adoptRing
  split <;> simp

/-! ### Adoption -/

@[simp] theorem State.adoptHosts_trunk (hosts : List SlotCfg) (s : State) :
    (State.adoptHosts hosts s).trunk = s.trunk := by
  simp [State.adoptHosts]

@[simp] theorem State.adoptPools_trunk (e : Eph) (s : State) :
    (State.adoptPools e s).trunk = s.trunk := by
  unfold State.adoptPools
  refine (State.settleDescs_trunk _).trans ?_
  exact foldl_keep State.trunk _ (fun _ _ => by rfl) _ s

@[simp] theorem State.adoptEngines_trunk (old : Option Eph) (s : State) :
    (State.adoptEngines old s).trunk = s.trunk := rfl

@[simp] theorem State.adoptEclipse_trunk (s : State) :
    (State.adoptEclipse s).trunk = s.trunk := by
  simp [State.adoptEclipse]

@[simp] theorem State.adoptTide_trunk (e : Eph) (s : State) : (State.adoptTide e s).trunk = s.trunk := rfl

@[simp] theorem State.adoptRoutes_trunk (old : Option Eph) (e : Eph) (s : State) :
    (State.adoptRoutes old e s).trunk = s.trunk := rfl

@[simp] theorem State.adoptPeri_trunk (old : Option Eph) (s : State) :
    (State.adoptPeri old s).trunk = s.trunk := by
  unfold State.adoptPeri
  split <;> simp

@[simp] theorem State.dropStrobes_trunk (s : State) :
    (State.dropStrobes s).trunk = s.trunk := by
  simp [State.dropStrobes]

@[simp] theorem State.noteReject_trunk (f : EphFail) (s : State) : (State.noteReject f s).trunk = s.trunk := rfl

/-! ### Resets of units -/

@[simp] theorem State.tailWalk_trunk (s : State) :
    (State.tailWalk s).trunk = s.trunk := by
  simp [State.tailWalk]

@[simp] theorem State.noEphemeris_trunk (s : State) :
    (State.noEphemeris s).trunk = s.trunk := by
  simp [State.noEphemeris]

@[simp] theorem State.bootReject_trunk (x : EphFail) (s : State) :
    (State.bootReject x s).trunk = s.trunk := by
  simp [State.bootReject]

end Sys2Proof.Machine
end

section
/-!
What a fault that takes the core die down leaves (R427), and what rail averages and temperature conversions leave
alone (R425, R439, R443).
-/

namespace Sys2Proof.Machine

/-! ## The core die off -/

/-- The commands in flight are gone, with the quotes and flash jobs that they waited for. -/
theorem State.dropFlights_trunk (s : State) : s.dropFlights.trunk =
    ({ s.boot with quotes := [], checks := [], flashJobs := [] }, s.planes, s.power) := by
  have h : ((s.host.flights.filter (·.lost)).foldl (fun s f =>
      s.modPort f.port fun p => { p with lostCpl := satAdd p.lostCpl 1 }) s).trunk = s.trunk :=
    foldl_keep State.trunk _ (fun _ _ => by rfl) _ s
  unfold State.dropFlights
  rw [State.trunk_mk, State.boot_of_trunk h, State.planes_of_trunk h, State.power_of_trunk h]

/-- The core-die units at their Reset values: the core die is unpowered and its planes are off. -/
theorem State.resetCore_trunk (s : State) : s.resetCore.trunk =
    (s.boot, { s.planes with pair := none, standby := .off, data := .off, ctl := .off, restart := none },
      { s.power with core := false, domains := s.power.domains &&& 3 }) := rfl

/-- The core rails off after a fault: the boot registers keep all but the work of commands. -/
theorem State.coreLost_trunk (s : State) : s.coreLost.trunk =
    ({ s.boot with quotes := [], checks := [], flashJobs := [] },
      { s.planes with pair := none, standby := .off, data := .off, ctl := .off, restart := none },
      { s.power with core := false, domains := s.power.domains &&& 3 }) := by
  have h := s.pcieDown.dropFlights_trunk
  rw [State.boot_of_trunk s.pcieDown_trunk, State.planes_of_trunk s.pcieDown_trunk,
    State.power_of_trunk s.pcieDown_trunk] at h
  show s.pcieDown.dropFlights.resetCore.trunk = _
  obtain ⟨hboot, hplanes, hpower⟩ : s.pcieDown.dropFlights.boot = _ ∧ s.pcieDown.dropFlights.planes = _ ∧
      s.pcieDown.dropFlights.power = _ := by simpa only [State.trunk, Prod.mk.injEq] using h
  rw [State.resetCore_trunk, hboot, hplanes, hpower]

theorem State.coreLost_boot (s : State) :
    s.coreLost.boot = { s.boot with quotes := [], checks := [], flashJobs := [] } :=
  congrArg Prod.fst s.coreLost_trunk

theorem State.coreLost_planes (s : State) : s.coreLost.planes =
    { s.planes with pair := none, standby := .off, data := .off, ctl := .off, restart := none } :=
  congrArg (fun x => x.2.1) s.coreLost_trunk

theorem State.coreLost_power (s : State) :
    s.coreLost.power = { s.power with core := false, domains := s.power.domains &&& 3 } :=
  congrArg (fun x => x.2.2) s.coreLost_trunk

theorem State.coreLost_flights (s : State) : s.coreLost.host.flights = [] := rfl

/-- A record changes the Tail recorder and the count of the check-value units. -/
theorem State.recordAt_sameBut (time : Option Nat) (stage : Bool) (type : Nat) (plane : Plane) (payload : List Byte)
    (s : State) : SameBut [.tail, .mem] s (s.recordAt time stage type plane payload) := by
  have tail (x : Tail) : SameBut [.tail, .mem] s { s with tail := x } := (sameBut_tail s x).mono (by simp)
  have used (n : Nat) (t : State) : SameBut [.tail, .mem] t (t.checkUsed n) := (sameBut_mem t _).mono (by simp)
  unfold State.recordAt
  exact SameBut.ite (tail _) (SameBut.ite
    (SameBut.ite (SameBut.ite (tail _) ((tail _).trans (used _ _))) (tail _)) (SameBut.ite (tail _) (tail _)))

theorem State.record_host (type : Nat) (plane : Plane) (payload : List Byte) (s : State) :
    (s.record type plane payload).host = s.host :=
  State.recordAt_sameBut _ _ type plane payload s .host (by decide)

theorem State.bypCheck_host (s : State) : s.bypCheck.host = s.host :=
  s.bypCheck_sameBut .host (by decide)

/-- The power unit after a fault that takes the core die down (R427). -/
def Power.faulted (cause rail : Nat) (p : Power) : Power :=
  { p with
    umbra := .awake, abandon := false, faultOff := true, faultCause := cause, faultRail := rail
    railFault := if cause = 4 ∨ cause = 5 then p.railFault else p.railFault.inc
    clkFault := if cause = 4 ∨ cause = 5 then p.clkFault.inc else p.clkFault }

/-- A fault takes the core die down, and its cause is recorded. -/
theorem State.coreFault_trunk (cause rail : Nat) (s : State) : (s.coreFault cause rail).trunk =
    (s.coreLost.boot, s.coreLost.planes, s.coreLost.railsOff.power.faulted cause rail) :=
  (State.record_trunk ..).trans (State.bypCheck_trunk _)

theorem State.coreFault_boot (cause rail : Nat) (s : State) : (s.coreFault cause rail).boot = s.coreLost.boot :=
  congrArg Prod.fst (s.coreFault_trunk cause rail)

theorem State.coreFault_planes (cause rail : Nat) (s : State) :
    (s.coreFault cause rail).planes = s.coreLost.planes :=
  congrArg (fun x => x.2.1) (s.coreFault_trunk cause rail)

theorem State.coreFault_power (cause rail : Nat) (s : State) :
    (s.coreFault cause rail).power = s.coreLost.railsOff.power.faulted cause rail :=
  congrArg (fun x => x.2.2) (s.coreFault_trunk cause rail)

theorem State.coreFault_flights (cause rail : Nat) (s : State) : (s.coreFault cause rail).host.flights = [] := by
  unfold State.coreFault
  rw [State.record_host, State.bypCheck_host]
  exact s.coreLost_flights

/-- The counters of rail and clock faults, the core die and VIN_12V: what temperature and NV work leave alone. -/
def Power.supply (p : Power) : Bool × Bool × Counter × Counter := (p.vin, p.core, p.railFault, p.clkFault)

/-- What a fault leaves: the core die is off with cause and rail, the planes of the core die are off, no command is
under way, the flash is untouched, and the cause is counted as a clock or a rail fault. -/
def FaultDown (s t : State) (cause rail : Nat) : Prop :=
  t.power.core = false ∧ t.power.faultOff = true ∧ t.power.faultCause = cause ∧ t.power.faultRail = rail ∧
  t.power.umbra = .awake ∧ t.planes.data = .off ∧ t.planes.ctl = .off ∧ t.host.flights = [] ∧ t.flash = s.flash ∧
  (cause = 4 ∨ cause = 5 → t.power.clkFault = s.power.clkFault.inc ∧ t.power.railFault = s.power.railFault) ∧
  (cause ≠ 4 → cause ≠ 5 → t.power.railFault = s.power.railFault.inc ∧ t.power.clkFault = s.power.clkFault)

theorem State.coreFault_down (cause rail : Nat) (s : State) : FaultDown s (s.coreFault cause rail) cause rail := by
  have hp : (s.coreFault cause rail).power =
      ({ s.power with core := false, domains := s.power.domains &&& 3, rails := s.coreLost.railsOff.power.rails
                      pg := s.coreLost.railsOff.power.pg } : Power).faulted cause rail := by
    rw [State.coreFault_power]
    have h : s.coreLost.railsOff.power = { s.coreLost.power with
      rails := s.coreLost.railsOff.power.rails, pg := s.coreLost.railsOff.power.pg } := rfl
    rw [h, s.coreLost_power]
  have hl : (s.coreFault cause rail).planes.data = .off ∧ (s.coreFault cause rail).planes.ctl = .off := by
    rw [State.coreFault_planes, State.coreLost_planes]
    exact ⟨rfl, rfl⟩
  refine ⟨by rw [hp]; rfl, by rw [hp]; rfl, by rw [hp]; rfl, by rw [hp]; rfl, by rw [hp]; rfl, hl.1, hl.2,
    s.coreFault_flights cause rail, s.coreFault_flash cause rail, fun hc => ?_, fun h4 h5 => ?_⟩
  · rw [hp]
    exact ⟨if_pos hc, if_pos hc⟩
  · have hc : ¬ (cause = 4 ∨ cause = 5) := by rintro (h | h) <;> contradiction
    rw [hp]
    exact ⟨if_neg hc, if_neg hc⟩

/-! ## Rails -/

theorem State.railNow_now {r : Nat} (h : r < 7) (mv : Nat) (s : State) :
    (nth {} (s.railNow r mv).power.rails r).now = BitVec.ofNat 16 mv := by
  unfold State.railNow
  exact congrArg RailV.now (nth_upd_same {} s.power.rails _ h)

/-- A rail whose average lies in its window has its power-good bit set. -/
theorem State.railNow_pg {r mv : Nat} (h : r < 7) (hgood : railGood r mv = true) (s : State) :
    bitOf (s.railNow r mv).power.pg r = true := by
  simp only [State.railNow, hgood, if_true, bitOf, BitVec.getLsbD_or, Bool.or_eq_true]
  right
  interval_cases r <;> rfl

theorem State.railNow_sameBut (r mv : Nat) (s : State) : SameBut [.power] s (s.railNow r mv) := sameBut_power s _

/-- A rail average is recorded before the fault that it shows: the fault's effect is as seen from before. -/
theorem State.railNow_coreFault_down (r mv cause rail : Nat) (s : State) :
    FaultDown s ((s.railNow r mv).coreFault cause rail) cause rail :=
  (s.railNow r mv).coreFault_down cause rail

/-! ## Temperature -/

theorem State.nvCheck_supply (s : State) : s.nvCheck.power.supply = s.power.supply := rfl

theorem State.breach_supply (i limit : Nat) (x : EphTherm) (s : State) :
    (s.breach i limit x).power.supply = s.power.supply := by
  unfold State.breach
  dsimp only
  split
  · rw [State.power_of_trunk (State.trigger_trunk ..), State.power_of_trunk (State.record_trunk ..)]
    rfl
  · rw [State.power_of_trunk (State.record_trunk ..)]
    rfl

theorem State.limits_supply (i : Nat) (x : EphTherm) (r : Int) (s : State) :
    (s.limits i x r).power.supply = s.power.supply := by
  have step (c : Bool) (k : Nat) (s : State) :
      (if c then s.breach i k x else s).power.supply = s.power.supply := by
    split
    · exact s.breach_supply i k x
    · rfl
  unfold State.limits
  dsimp only
  rw [step, step]
  rfl

theorem State.flushHeader_power (s : State) : s.flushHeader.power = s.power := by
  unfold State.flushHeader
  split
  · split <;> rfl
  · rfl

theorem State.clearTrial_power (s : State) : s.clearTrial.power = s.power := by
  unfold State.clearTrial
  split <;> rfl

theorem State.confirmUpdate_power (s : State) : s.confirmUpdate.power = s.power := by
  unfold State.confirmUpdate
  split
  · rfl
  · rw [State.power_of_trunk (State.record_trunk ..)]
    rfl

theorem ite_power {c : Prop} [Decidable c] {s t u : State} (ht : t.power = s.power) (hu : u.power = s.power) :
    (if c then t else u).power = s.power := by
  split <;> assumption

theorem State.nvWork_power (s : State) : s.nvWork.power = s.power := by
  have trial (s : State) : (if s.boot.trialWaits then s.clearTrial else s).power = s.power :=
    ite_power s.clearTrial_power rfl
  have confirm (c : Prop) [Decidable c] (s : State) : (if c then s.confirmUpdate else s).power = s.power :=
    ite_power s.confirmUpdate_power rfl
  refine ite_power rfl ?_
  dsimp only
  rw [confirm, trial, State.flushHeader_power]

/-- A conversion takes no supply away and counts no rail or clock fault. -/
theorem State.convert_supply (i : Nat) (reading : Option Int) (s : State) :
    (s.convert i reading).power.supply = s.power.supply := by
  have work (s : State) : s.nvCheck.nvWork.power.supply = s.power.supply := by
    rw [State.nvWork_power, State.nvCheck_supply]
  have due (c : Prop) [Decidable c] (s : State) : (if c then s.calDue.calStart else s).power = s.power :=
    ite_power (State.power_of_trunk ((State.calStart_trunk _).trans (State.calDue_trunk _))) rfl
  unfold State.convert
  dsimp only
  split
  · rfl
  · split
    · rfl
    · rw [due, work]
      split
      · split
        · rw [State.limits_supply]
          rfl
        · rfl
      · split
        · split
          · rw [State.breach_supply]
            rfl
          · rfl
        · rfl

/-- What of `Power.supply` a conversion keeps, field by field. -/
theorem State.convert_vin_core_railFault (i : Nat) (reading : Option Int) (s : State) :
    (s.convert i reading).power.vin = s.power.vin ∧ (s.convert i reading).power.core = s.power.core ∧
      (s.convert i reading).power.railFault = s.power.railFault := by
  have h := s.convert_supply i reading
  simp only [Power.supply, Prod.mk.injEq] at h
  obtain ⟨hvin, hcore, hrail, _⟩ := h
  exact ⟨hvin, hcore, hrail⟩

end Sys2Proof.Machine
end

section
/-!
The boot (R464–R467): what each of its steps keeps of the decision that `State.bootFrom2` takes, and its outcome.
-/

namespace Sys2Proof.Machine

/-! ## What a boot decides before the core die starts -/

/-- Power cycles, MR0, the bank that runs, FALLBACK and the state of the management plane. -/
def State.bootKey (s : State) : W32 × Digest × Bool × Bool × MgmtState :=
  (s.boot.pwrCycles, nth 0 s.boot.mr 0, s.boot.running, s.boot.fallback, s.planes.mgmt)

theorem State.bootKey_of_trunk {s t : State} (h : t.trunk = s.trunk) : t.bootKey = s.bootKey := by
  unfold State.bootKey
  rw [State.boot_of_trunk h, State.planes_of_trunk h]

theorem State.extend_pwrCycles (n : Nat) (v : Digest) (s : State) :
    (s.extend n v).boot.pwrCycles = s.boot.pwrCycles := rfl

/-- Extending another register than MR0. -/
theorem State.extend_mr0 {n : Nat} (h : 0 ≠ n) (v : Digest) (s : State) :
    nth 0 (s.extend n v).boot.mr 0 = nth 0 s.boot.mr 0 := nth_upd_other 0 s.boot.mr _ h

theorem State.extend_bootKey {n : Nat} (h : 0 ≠ n) (v : Digest) (s : State) : (s.extend n v).bootKey = s.bootKey := by
  unfold State.bootKey
  rw [State.extend_mr0 h]
  rfl

/-- The banks in force say nothing of the bank that runs. -/
theorem State.inForce_bootKey (b : Bool) (d : Option BankDigests) (s : State) :
    State.bootKey { s with boot := { s.boot with ctlBank := b, dataBank := b, inForce := d } } = s.bootKey := rfl

theorem State.verdict_bootKey (sig b : Bool) (ok : W32) (d : Option BankDigests) (s : State) :
    State.bootKey { s with boot := { s.boot with
      sigOk := sig, digestOk := ok, ctlBank := b, dataBank := b, inForce := d } } = s.bootKey := rfl

theorem State.setRunning_bootKey (b fallback : Bool) (s : State) :
    State.bootKey { s with
      boot := { s.boot with running := b, fallback := fallback, bootFor := 0 }
      planes := { s.planes with mgmt := .running } } =
    (s.boot.pwrCycles, nth 0 s.boot.mr 0, b, fallback, .running) := rfl

theorem State.extendData_bootKey (d : BankDigests) (s : State) : (s.extendData d).bootKey = s.bootKey :=
  foldl_keep State.bootKey _ (fun s _ => s.extend_bootKey (by decide) _) _ s

theorem State.adoptThermal_bootKey (e : Eph) (s : State) : (s.adoptThermal e).bootKey = s.bootKey := rfl

theorem State.swapEph_bootKey (k : AdoptKind) (e : Eph) (container : List Byte) (s : State) :
    (s.swapEph k e container).bootKey = s.bootKey := by
  unfold State.swapEph
  dsimp only
  rw [State.bootKey_of_trunk ((State.adoptDisplay_trunk ..).trans (State.adoptCal_trunk ..)),
    State.adoptThermal_bootKey]
  exact State.bootKey_of_trunk (by simp)

theorem State.measureEph_bootKey (e : Eph) (s : State) : (s.measureEph e).bootKey = s.bootKey :=
  ((s.extend 3 e.digest).extend_bootKey (n := 3) (by decide) e.signerDigest).trans
    (s.extend_bootKey (by decide) e.digest)

theorem State.flushHeader_bootKey (s : State) : s.flushHeader.bootKey = s.bootKey := by
  unfold State.flushHeader
  split
  · split <;> rfl
  · rfl

theorem State.noteAdoption_bootKey (e : Eph) (s : State) : (s.noteAdoption e).bootKey = s.bootKey := by
  unfold State.noteAdoption
  dsimp only
  rw [State.flushHeader_bootKey, State.bootKey_of_trunk ((State.event_trunk ..).trans (State.record_trunk ..))]
  rfl

theorem State.adopt_bootKey (k : AdoptKind) (e : Eph) (container : List Byte) (s : State) :
    (s.adopt k e container).bootKey = s.bootKey := by
  unfold State.adopt
  dsimp only
  rw [State.noteAdoption_bootKey, State.swapEph_bootKey]
  split
  · rfl
  · exact s.measureEph_bootKey e

theorem State.bootEph_bootKey (s : State) : s.bootEph.bootKey = s.bootKey := by
  unfold State.bootEph
  dsimp only
  split
  · exact State.bootKey_of_trunk (by simp)
  · split
    · exact State.bootKey_of_trunk (by simp)
    · split
      · exact State.bootKey_of_trunk (by simp)
      · exact State.adopt_bootKey ..

theorem State.coreFault_bootKey (cause rail : Nat) (s : State) : (s.coreFault cause rail).bootKey = s.bootKey := by
  unfold State.bootKey
  rw [State.coreFault_boot, State.coreFault_planes, State.coreLost_boot, State.coreLost_planes]

theorem State.planesUp_bootKey (standby : StandbyState) (s : State) :
    (s.planesUp standby).bootKey = s.bootKey := rfl

theorem State.coreSensors_bootKey (s : State) : s.coreSensors.bootKey = s.bootKey := rfl

/-- The core die's part of a boot decides nothing more about bank and management plane. -/
theorem State.coreBoot_bootKey (env : BootEnv) (verdict : Bool) (s : State) :
    (s.coreBoot env verdict).bootKey = s.bootKey := by
  have rails : ([6, 4, 5, 3, 0, 1, 2].foldl (fun s r => s.railNow r (railOf env r)) s).bootKey = s.bootKey :=
    foldl_keep State.bootKey _ (fun _ _ => by rfl) _ s
  unfold State.coreBoot
  dsimp only
  split
  · rw [State.coreFault_bootKey, rails]
  · rw [State.bootKey_of_trunk ((State.bypCheck_trunk _).trans ((State.calStart_trunk _).trans (State.calDue_trunk _))),
      State.bootEph_bootKey, State.bootKey_of_trunk (State.calPowerUp_trunk _)]
    have measured (d x : BankDigests) (standby : StandbyState) (v c : Nat) (f : W32) :
        (State.extendData x (State.extend 2 (d.images.getD 1 0) (State.trainDram v c f (State.coreSensors (State.planesUp
          standby ([6, 4, 5, 3, 0, 1, 2].foldl (fun s r => s.railNow r (railOf env r)) s)))))).bootKey = s.bootKey := by
      rw [State.extendData_bootKey, State.extend_bootKey (by decide),
        State.bootKey_of_trunk (State.trainDram_trunk ..), State.coreSensors_bootKey, State.planesUp_bootKey, rails]
    cases verdict
    · simp only [Bool.false_eq_true, if_false]
      rw [State.inForce_bootKey, measured]
    · simp only [if_true]
      rw [State.verdict_bootKey, State.extend_bootKey (by decide), measured]

/-- A bank boots: it runs, and the management firmware is started. -/
theorem State.bankBoot_bootKey (env : BootEnv) (b fallback : Bool) (s : State) :
    (s.bankBoot env b fallback).bootKey = (s.boot.pwrCycles, nth 0 s.boot.mr 0, b, fallback, .running) := by
  unfold State.bankBoot
  dsimp only
  rw [State.coreBoot_bootKey]
  cases fallback
  · simp only [Bool.false_eq_true, if_false]
    rw [State.setRunning_bootKey, State.extend_pwrCycles, State.extend_pwrCycles, State.extend_pwrCycles,
      State.extend_mr0 (by decide), State.extend_mr0 (by decide), State.extend_mr0 (by decide)]
  · simp only [if_true]
    rw [State.bootKey_of_trunk (State.record_trunk ..), State.setRunning_bootKey, State.extend_pwrCycles,
      State.extend_pwrCycles, State.extend_pwrCycles, State.extend_mr0 (by decide), State.extend_mr0 (by decide),
      State.extend_mr0 (by decide)]

/-- Nadir mode: its cause, and MR6 extended with the mark. -/
theorem State.enterNadir_boot (cause : Nat) (s : State) : (s.enterNadir cause).planes.mgmt = .nadir ∧
    (s.enterNadir cause).boot.nadir.cause = cause ∧ (s.enterNadir cause).boot.pwrCycles = s.boot.pwrCycles ∧
    (s.enterNadir cause).boot.mr = upd s.boot.mr 6 fun m => extendMr m nadirMark := by
  have roles : ((List.range 8).foldl (fun s i => if s.portOf i = 2 then s.dropRoles i 0xF else s) s).trunk =
      s.trunk := foldl_keep State.trunk _ (fun s i => by split <;> simp) _ s
  unfold State.enterNadir
  dsimp only
  rw [State.planes_of_trunk (State.bypCheck_trunk _), State.boot_of_trunk (State.bypCheck_trunk _)]
  refine ⟨rfl, rfl, ?_⟩
  simp only [State.extend, State.coreLost_boot, State.boot_of_trunk roles, and_self]

/-! ## The flash that a boot reads -/

theorem State.bankRead_congr {s t : State} (h : t.flash = s.flash) (b : Bool) (o n : Nat) :
    t.bankRead b o n = s.bankRead b o n := by
  unfold State.bankRead State.flashRead
  rw [h]

theorem State.header?_congr {s t : State} (h : t.flash = s.flash) : t.header? = s.header? := by
  unfold State.header? State.flashRead
  rw [h]

/-- The boot header that holds (R461). -/
def State.heldHeader (s : State) : BootHeader := (s.header?.map (·.1)).getD BootHeader.blank

theorem State.takeHeader_confirmed (s : State) : s.takeHeader.boot.confirmed = s.heldHeader.confirmed := rfl

theorem State.takeHeader_pwrCycles (s : State) : s.takeHeader.boot.pwrCycles = s.boot.pwrCycles := rfl

theorem State.takeHeader_mr (s : State) : s.takeHeader.boot.mr =
    upd (upd s.boot.mr 0 fun m => extendMr m Config.romDigest) 0 fun m => extendMr m Config.fuseDigest := rfl

/-! ## The outcome of a boot -/

/-- What the boot of `s` leads to: the measurements of ROM and fuses, and the strap, the confirmed bank, the other
bank or Nadir mode (R464–R467). -/
def BootOutcome (s : State) (strap : Bool) (t : State) : Prop :=
  t.boot.pwrCycles = satAdd s.boot.pwrCycles 1 ∧
  nth 0 t.boot.mr 0 = extendMr (extendMr 0 Config.romDigest) Config.fuseDigest ∧
  (strap = true → t.planes.mgmt = .nadir ∧ t.boot.nadir.cause = 1 ∧ nth 0 t.boot.mr 6 = extendMr 0 nadirMark) ∧
  (strap = false → ¬ manifestBad (s.bankRead false 0 576) = none → ¬ manifestBad (s.bankRead true 0 576) = none →
    t.planes.mgmt = .nadir ∧ t.boot.nadir.cause = 2) ∧
  (strap = false → manifestBad (s.bankRead s.heldHeader.confirmed 0 576) = none →
    t.planes.mgmt = .running ∧ t.boot.running = s.heldHeader.confirmed ∧ t.boot.fallback = false) ∧
  (strap = false → ¬ manifestBad (s.bankRead s.heldHeader.confirmed 0 576) = none →
    manifestBad (s.bankRead (!s.heldHeader.confirmed) 0 576) = none →
    t.planes.mgmt = .running ∧ t.boot.running = !s.heldHeader.confirmed ∧ t.boot.fallback = true)

theorem State.noteTrial_bootKey (s : State) : s.noteTrial.bootKey = s.bootKey := by
  unfold State.noteTrial
  split
  · rw [State.bootKey_of_trunk (State.record_trunk ..)]
    rfl
  · rfl

theorem State.noteTrial_confirmed (s : State) : s.noteTrial.boot.confirmed = s.boot.confirmed := by
  unfold State.noteTrial
  split
  · rw [State.boot_of_trunk (State.record_trunk ..)]
  · rfl

/-- The five parts of `State.bootKey`, from an equation of two keys written out. -/
theorem State.of_bootKey {t : State} {pwr : W32} {mr : Digest} {b fallback : Bool} {mgmt : MgmtState}
    (h : t.bootKey = (pwr, mr, b, fallback, mgmt)) : t.boot.pwrCycles = pwr ∧ nth 0 t.boot.mr 0 = mr ∧
      t.boot.running = b ∧ t.boot.fallback = fallback ∧ t.planes.mgmt = mgmt := by
  simpa only [State.bootKey, Prod.mk.injEq] using h

/-- MR0 after the header was taken, where the boot began with MR0 at zero. -/
theorem State.takeHeader_mr0 {s : State} (h : s.boot.mr = Vector.replicate 8 0) :
    nth 0 s.takeHeader.boot.mr 0 = extendMr (extendMr 0 Config.romDigest) Config.fuseDigest := by
  rw [State.takeHeader_mr, nth_upd_same _ _ _ (by decide), nth_upd_same _ _ _ (by decide), h]
  rfl

theorem State.takeHeader_mr6 {s : State} (h : s.boot.mr = Vector.replicate 8 0) :
    nth 0 s.takeHeader.boot.mr 6 = 0 := by
  rw [State.takeHeader_mr, nth_upd_other _ _ _ (by decide), nth_upd_other _ _ _ (by decide), h]
  rfl

/-- Nadir mode extends MR6 alone. -/
theorem State.enterNadir_mr (cause : Nat) (s : State) :
    nth 0 (s.enterNadir cause).boot.mr 0 = nth 0 s.boot.mr 0 ∧
      nth 0 (s.enterNadir cause).boot.mr 6 = extendMr (nth 0 s.boot.mr 6) nadirMark := by
  obtain ⟨_, _, _, hmr⟩ := s.enterNadir_boot cause
  rw [hmr]
  exact ⟨nth_upd_other _ _ _ (by decide), nth_upd_same _ _ _ (by decide)⟩

/-- Steps 3 to 8 of R464: the bank that boots, or Nadir mode where neither can (R465). -/
def State.pickBank (env : BootEnv) (s : State) : State :=
  if (manifestBad (s.bankRead s.boot.confirmed 0 576)).isNone then s.bankBoot env s.boot.confirmed false
  else if (manifestBad (s.bankRead (!s.boot.confirmed) 0 576)).isNone then s.bankBoot env (!s.boot.confirmed) true
  else s.enterNadir 2

theorem State.bootFrom2_eq (env : BootEnv) (s : State) : s.bootFrom2 env =
    if env.strap then s.takeHeader.enterNadir 1 else s.takeHeader.noteTrial.pickBank env := rfl

/-- No bank is left where neither the confirmed one nor the other can be used. -/
theorem bank_cases {p : Bool → Prop} (c : Bool) : ¬ p false → ¬ p true → ¬ (p c ∨ p !c) := by
  cases c <;> simp_all

/-- The choice of a bank, on a state with the flash of `s` whose ROM, fuses and boot header were taken. -/
theorem State.pickBank_outcome {s v : State} (env : BootEnv) (hflash : v.flash = s.flash)
    (hcycles : v.boot.pwrCycles = satAdd s.boot.pwrCycles 1)
    (h0 : nth 0 v.boot.mr 0 = extendMr (extendMr 0 Config.romDigest) Config.fuseDigest)
    (hconf : v.boot.confirmed = s.heldHeader.confirmed) : BootOutcome s false (v.pickBank env) := by
  have hread (b : Bool) : v.bankRead b 0 576 = s.bankRead b 0 576 := State.bankRead_congr hflash ..
  have none_left := bank_cases (p := fun b => manifestBad (s.bankRead b 0 576) = none) s.heldHeader.confirmed
  unfold State.pickBank
  simp only [hconf, hread, Option.isNone_iff_eq_none]
  split
  case isTrue hgood =>
    obtain ⟨h1, h2, hrun, hfb, hmgmt⟩ := State.of_bootKey (v.bankBoot_bootKey env s.heldHeader.confirmed false)
    exact ⟨h1.trans hcycles, h2.trans h0, nofun, fun _ hf ht => absurd (.inl hgood) (none_left hf ht),
      fun _ _ => ⟨hmgmt, hrun, hfb⟩, fun _ hbad => absurd hgood hbad⟩
  case isFalse hbad =>
    split
    case isTrue hother =>
      obtain ⟨h1, h2, hrun, hfb, hmgmt⟩ := State.of_bootKey (v.bankBoot_bootKey env (!s.heldHeader.confirmed) true)
      exact ⟨h1.trans hcycles, h2.trans h0, nofun, fun _ hf ht => absurd (.inr hother) (none_left hf ht),
        fun _ hgood => absurd hgood hbad, fun _ _ _ => ⟨hmgmt, hrun, hfb⟩⟩
    case isFalse hnone =>
      obtain ⟨hmgmt, hcause, h1, _⟩ := v.enterNadir_boot 2
      obtain ⟨h2, _⟩ := v.enterNadir_mr 2
      exact ⟨h1.trans hcycles, h2.trans h0, nofun, fun _ _ _ => ⟨hmgmt, hcause⟩,
        fun _ hgood => absurd hgood hbad, fun _ _ hother => absurd hother hnone⟩

/-- Steps 2 to 8 of R464, on a state with the flash of `s` and its power cycle counted. -/
theorem State.bootFrom2_outcome {s u : State} (env : BootEnv) (hflash : u.flash = s.flash)
    (hpwr : u.boot.pwrCycles = satAdd s.boot.pwrCycles 1) (hmr : u.boot.mr = Vector.replicate 8 0) :
    BootOutcome s env.strap (u.bootFrom2 env) := by
  have hmr0 := State.takeHeader_mr0 hmr
  have hcycles : u.takeHeader.boot.pwrCycles = satAdd s.boot.pwrCycles 1 := u.takeHeader_pwrCycles.trans hpwr
  rw [State.bootFrom2_eq]
  cases env.strap with
  | true =>
    obtain ⟨hmgmt, hcause, h1, _⟩ := u.takeHeader.enterNadir_boot 1
    obtain ⟨h2, h6⟩ := u.takeHeader.enterNadir_mr 1
    rw [State.takeHeader_mr6 hmr] at h6
    rw [if_pos rfl]
    exact ⟨h1.trans hcycles, h2.trans hmr0, fun _ => ⟨hmgmt, hcause, h6⟩, nofun, nofun, nofun⟩
  | false =>
    obtain ⟨h1, h2, _⟩ := State.of_bootKey u.takeHeader.noteTrial_bootKey
    rw [if_neg Bool.false_ne_true]
    refine State.pickBank_outcome env ?_ (h1.trans hcycles) (h2.trans hmr0) ?_
    · rw [State.noteTrial_flash, State.takeHeader_flash, hflash]
    · rw [State.noteTrial_confirmed, State.takeHeader_confirmed, State.heldHeader, State.heldHeader,
        State.header?_congr hflash]

/-- A boot, on a state with the flash and the power cycles of `s`. -/
theorem State.bootFrom1_outcome {s u : State} (env : BootEnv) (hflash : u.flash = s.flash)
    (hpwr : u.boot.pwrCycles = s.boot.pwrCycles) : BootOutcome s env.strap (u.bootFrom1 env) := by
  unfold State.bootFrom1
  refine State.bootFrom2_outcome env ?_ ?_ ?_
  · rw [State.tailWalk_flash, hflash]
  · rw [State.boot_of_trunk (State.tailWalk_trunk _), hpwr]
  · rw [State.boot_of_trunk (State.tailWalk_trunk _)]

/-- A device that nothing holds in reset boots. -/
theorem State.bootIfFree_outcome {s u : State} (env : BootEnv)
    (hfree : u.power.vin = true ∧ u.power.pinReset = false ∧ u.power.hotReset = false) (hflash : u.flash = s.flash)
    (hpwr : u.boot.pwrCycles = s.boot.pwrCycles) : BootOutcome s env.strap (u.bootIfFree env) := by
  rw [State.bootIfFree, if_pos hfree]
  exact State.bootFrom1_outcome env hflash hpwr

end Sys2Proof.Machine
end

section
/-!
Faults, resets and boots, event by event (R424–R428, R443, R464–R467, R536).
-/

namespace Sys2Proof.Machine

/-! ## Faults of rails and clocks -/

theorem exec_railFault_leaving {r mv : Nat} {s : State} (hl : s.power.umbra = .leaving)
    (hc : railCharged r mv = true) : exec (.railFault r mv) s = .next (s.coreFault 2 r) :=
  congrArg Host.Outcome.next (if_pos ⟨hl, hc⟩)

/-- Where no Umbra exit finds a core rail charged, an average is judged by its window. -/
theorem exec_railFault {r mv : Nat} {s : State} (h : s.power.umbra ≠ .leaving ∨ railCharged r mv = false) :
    exec (.railFault r mv) s = .next (if 7 ≤ r ∨ s.railUp r = false then s
      else if railGood r mv then s.railNow r mv
      else (s.railNow r mv).coreFault (if railNominal r < mv then 2 else if r = 6 then 3 else 1) r) := by
  have hn : ¬ (s.power.umbra = .leaving ∧ railCharged r mv = true) := by
    rintro ⟨hl, hc⟩
    rcases h with h | h
    · exact h hl
    · rw [h] at hc
      cases hc
  exact congrArg Host.Outcome.next (if_neg hn)

theorem exec_clockFault (pll : Bool) (s : State) : exec (.clockFault pll) s =
    .next (if (if pll then s.power.core else s.railUp 3) then s.coreFault (if pll then 5 else 4) 0 else s) := rfl

/-! ## Temperature -/

theorem exec_junctionTrip (k : Nat) (r : Int) (s : State) : exec (.junctionTrip k r) s =
    .next (if 16 ≤ k ∧ k < 20 ∧ 8000 ≤ r then (s.convert k (some r)).trips k r else s) := rfl

theorem exec_companionOvertemp (k : Nat) (r : Int) (s : State) : exec (.companionOvertemp k r) s =
    .next (if (k = 20 ∨ k = 21) ∧ 9600 ≤ r then (s.convert k (some r)).trips k r else s) := rfl

/-- Nothing is converted without VIN_12V. -/
theorem State.convert_of_no_vin (k : Nat) (r : Option Int) {s : State} (hv : s.power.vin = false) :
    s.convert k r = s := by
  simp [State.convert, hv]

theorem State.trips_core {k : Nat} {r : Int} {s : State} (h16 : 16 ≤ k) (h20 : k < 20) (hr : 8000 ≤ r)
    (hcore : s.power.core = true) : s.trips k r = s.coreFault 6 0 :=
  if_pos ⟨h16, h20, hr, hcore⟩

/-- A core-die entry trips nothing while the core die is unpowered. -/
theorem State.trips_of_dark {k : Nat} (h20 : k < 20) (r : Int) {s : State} (hcore : s.power.core = false) :
    s.trips k r = s := by
  have h1 : ¬ (16 ≤ k ∧ k < 20 ∧ 8000 ≤ r ∧ s.power.core = true) := by simp [hcore]
  have h2 : ¬ ((k = 20 ∨ k = 21) ∧ 9600 ≤ r ∧ s.power.vin = true) := by omega
  exact (if_neg h1).trans (if_neg h2)

theorem State.trips_companion {k : Nat} {r : Int} {s : State} (hk : k = 20 ∨ k = 21) (hr : 9600 ≤ r)
    (hv : s.power.vin = true) : s.trips k r = s.overtemp := by
  have h1 : ¬ (16 ≤ k ∧ k < 20 ∧ 8000 ≤ r ∧ s.power.core = true) := by omega
  exact (if_neg h1).trans (if_pos ⟨hk, hr, hv⟩)

/-- Without VIN_12V a companion-die entry trips nothing. -/
theorem State.trips_of_no_vin {k : Nat} (hk : k = 20 ∨ k = 21) (r : Int) {s : State} (hv : s.power.vin = false) :
    s.trips k r = s := by
  have h1 : ¬ (16 ≤ k ∧ k < 20 ∧ 8000 ≤ r ∧ s.power.core = true) := by omega
  have h2 : ¬ ((k = 20 ∨ k = 21) ∧ 9600 ≤ r ∧ s.power.vin = true) := by simp [hv]
  exact (if_neg h1).trans (if_neg h2)

/-- A core-die entry that reads while the core die is unpowered: no fault is counted. -/
theorem exec_junctionTrip_dark {k : Nat} (r : Int) (h20 : k < 20) {s : State}
    (hcore : s.power.core = false) : ∃ t, exec (.junctionTrip k r) s = .next t ∧ t.power.core = false ∧
      t.power.railFault = s.power.railFault := by
  rw [exec_junctionTrip]
  split
  case isTrue =>
    obtain ⟨_, hc, hf⟩ := s.convert_vin_core_railFault k (some r)
    have hdark := hc.trans hcore
    rw [State.trips_of_dark h20 r hdark]
    exact ⟨_, rfl, hdark, hf⟩
  case isFalse => exact ⟨s, rfl, hcore, rfl⟩

/-- A core-die reading of 125 °C takes the core die down (R443). -/
theorem exec_junctionTrip_hot {k : Nat} {r : Int} (h16 : 16 ≤ k) (h20 : k < 20) (hr : 8000 ≤ r) {s : State}
    (hcore : s.power.core = true) : ∃ t, exec (.junctionTrip k r) s = .next t ∧ t.power.core = false ∧
      t.power.faultOff = true ∧ t.power.faultCause = 6 ∧ t.power.railFault = s.power.railFault.inc := by
  obtain ⟨_, hc, hf⟩ := s.convert_vin_core_railFault k (some r)
  obtain ⟨hoff, hfault, hcause, _, _, _, _, _, _, _, hcount⟩ := (s.convert k (some r)).coreFault_down 6 0
  obtain ⟨hrail, _⟩ := hcount (by decide) (by decide)
  rw [exec_junctionTrip, if_pos ⟨h16, h20, hr⟩, State.trips_core h16 h20 hr (hc.trans hcore)]
  exact ⟨_, rfl, hoff, hfault, hcause, hrail.trans (congrArg Counter.inc hf)⟩

theorem exec_companionOvertemp_hot {k : Nat} {r : Int} (hk : k = 20 ∨ k = 21) (hr : 9600 ≤ r) {s : State}
    (hv : s.power.vin = true) : exec (.companionOvertemp k r) s = .next (s.convert k (some r)).overtemp := by
  obtain ⟨hvin, _, _⟩ := s.convert_vin_core_railFault k (some r)
  rw [exec_companionOvertemp, if_pos ⟨hk, hr⟩, State.trips_companion hk hr (hvin.trans hv)]

theorem exec_companionOvertemp_cool {k : Nat} {r : Int} {s : State}
    (h : (k ≠ 20 ∧ k ≠ 21) ∨ r < 9600 ∨ s.power.vin = false) : exec (.companionOvertemp k r) s = .next s := by
  rw [exec_companionOvertemp]
  split
  case isTrue hon =>
    obtain ⟨hk, hr⟩ := hon
    have hv : s.power.vin = false := by
      rcases h with h | h | h
      · omega
      · omega
      · exact h
    rw [State.convert_of_no_vin k _ hv, State.trips_of_no_vin hk r hv]
  case isFalse => rfl

/-! ## Resets -/

theorem exec_vinLow (s : State) : exec .vinLow s =
    .next (({ s with power := { s.power with vin := false, hotReset := false } } : State).powerReset true) := rfl

/-- A power-down touches every part but the queues to the outside, the free counter and the flash. -/
theorem State.powerReset_sameBut (vinLost : Bool) (s : State) :
    SameBut [.host, .eph, .job, .engines, .arb, .melt, .peri, .tide, .links, .axes, .recoat, .camera, .halo, .time, .mem,
      .disp, .power, .cal, .boot, .tail, .planes, .eclipse] s (s.powerReset vinLost) := by
  intro p hp
  cases p
  case pending | outbox | freeCtr | flash => rfl
  all_goals exact absurd (by decide) hp

/-! ## Boots -/

theorem exec_powerUp (env : BootEnv) (s : State) : exec (.powerUp env) s = .next (if s.power.vin then s else
    State.bootIfFree env { s.powerReset true with power := { (s.powerReset true).power with vin := true } }) := rfl

theorem exec_pwrResetRelease (env : BootEnv) (s : State) : exec (.pwrResetRelease env) s =
    .next (if s.power.pinReset then State.bootIfFree env { s with power := { s.power with pinReset := false } }
      else s) := rfl

theorem exec_companionCooled (a b : Int) (env : BootEnv) (s : State) : exec (.companionCooled ⟨a, b, env⟩) s =
    .next (if s.power.hotReset ∧ a < 8320 ∧ b < 8320 then
      State.bootIfFree env { s with power := { s.power with hotReset := false } } else s) := rfl

/-- A device held in reset does not boot. -/
theorem State.bootIfFree_held (env : BootEnv) {s : State}
    (h : s.power.vin = false ∨ s.power.pinReset = true ∨ s.power.hotReset = true) : s.bootIfFree env = s := by
  refine if_neg ?_
  rintro ⟨hv, hp, hh⟩
  rcases h with h | h | h <;> simp_all

/-- The state in which the second bank of a boot starts: its Reset values, with what the boot took so far (R465). -/
def State.secondStart (s : State) : State :=
  { s.powerReset false with
    tail := s.tail
    eph := { (s.powerReset false).eph with
      bootSlot := s.eph.bootSlot, bootNone := s.eph.bootNone, last := s.eph.last }
    boot := { (s.powerReset false).boot with
      mr := s.boot.mr, keyReady := true, confirmed := s.boot.confirmed, trial := s.boot.trial
      trialWaits := s.boot.trialWaits, updResult := s.boot.updResult, ipv4 := s.boot.ipv4
      prefixLen := s.boot.prefixLen } }

theorem exec_bootFallback (env : BootEnv) (s : State) : exec (.bootFallback env) s =
    .next (if !s.power.vin || s.planes.mgmt != .running || decide (startSpan < s.boot.bootFor) then s
    else if s.boot.fallback ∨ (manifestBad (s.secondStart.bankRead (!s.boot.confirmed) 0 576)).isSome then
      s.secondStart.enterNadir 2
    else s.secondStart.bankBoot env (!s.boot.confirmed) true) := rfl

theorem State.secondStart_flash (s : State) : s.secondStart.flash = s.flash := s.powerReset_flash false

theorem exec_bootFallback_late {env : BootEnv} {s : State}
    (h : s.power.vin = false ∨ s.planes.mgmt ≠ .running ∨ startSpan < s.boot.bootFor) :
    exec (.bootFallback env) s = .next s := by
  rw [exec_bootFallback, if_pos]
  simpa [or_assoc] using h

/-- A start timeout within the span of a boot starts the other bank, or leaves none (R465). -/
theorem exec_bootFallback_timeout (env : BootEnv) {s : State} (hv : s.power.vin = true)
    (hm : s.planes.mgmt = .running) (hb : s.boot.bootFor ≤ startSpan) : exec (.bootFallback env) s =
    .next (if s.boot.fallback = true ∨ ¬ manifestBad (s.bankRead (!s.boot.confirmed) 0 576) = none then
      s.secondStart.enterNadir 2 else s.secondStart.bankBoot env (!s.boot.confirmed) true) := by
  have hon : ¬ (!s.power.vin || s.planes.mgmt != .running || decide (startSpan < s.boot.bootFor)) = true := by
    simp [hv, hm, hb]
  rw [exec_bootFallback, if_neg hon, State.bankRead_congr s.secondStart_flash]
  simp only [Option.isSome_iff_ne_none, ne_eq]

/-! ## The obligation -/

/-- A rail average: what it leads to in each of the cases of R425 and R539. -/
theorem exec_railFault_cases {r mv : Nat} (hr : r < 7) {s : State}
    (hn : s.power.umbra ≠ .leaving ∨ railCharged r mv = false) (hup : s.railUp r = true) :
    (railGood r mv = true → ∃ t, exec (.railFault r mv) s = .next t ∧ SameBut [.power] s t ∧
      t.power.core = s.power.core ∧ (nth {} t.power.rails r).now = BitVec.ofNat 16 mv ∧ bitOf t.power.pg r = true) ∧
    (railGood r mv = false → ∃ t, exec (.railFault r mv) s = .next t ∧
      FaultDown s t (if railNominal r < mv then 2 else if r = 6 then 3 else 1) r) := by
  have hjudged : ¬ (7 ≤ r ∨ s.railUp r = false) := by
    rw [hup]
    simp only [Bool.true_eq_false, or_false]
    omega
  rw [exec_railFault hn, if_neg hjudged]
  constructor
  · intro hgood
    rw [if_pos hgood]
    exact ⟨_, rfl, s.railNow_sameBut r mv, rfl, s.railNow_now hr mv, s.railNow_pg hr hgood⟩
  · intro hbad
    rw [if_neg (by rw [hbad]; exact Bool.false_ne_true)]
    exact ⟨_, rfl, s.railNow_coreFault_down r mv _ r⟩

/-- Settles O53, from the equation of each event and `State.coreFault_down`, `State.bootIfFree_outcome`,
`State.bankBoot_bootKey` and `State.enterNadir_boot`. -/
theorem faultsAndResetsTakeTheDieDown : Obligations.FaultsAndResetsTakeTheDieDown := by
  unfold Obligations.FaultsAndResetsTakeTheDieDown
  constructor
  · intro s
    dsimp only
    refine ⟨fun r mv hl hc => ⟨_, exec_railFault_leaving hl hc, s.coreFault_down 2 r⟩, fun r mv hn hup => ?_,
      fun r mv hr hn hup => exec_railFault_cases hr hn hup, fun hcore => ?_, fun hup => ?_, fun hcore => ?_,
      fun hup => ?_, fun k r hno => ?_, fun k r => exec_companionOvertemp_cool,
      fun k r _ h20 hcore => exec_junctionTrip_dark r h20 hcore,
      fun k r h16 h20 hr hcore _ => exec_junctionTrip_hot h16 h20 hr hcore,
      fun k r hk hr hv => ⟨_, exec_companionOvertemp_hot hk hr hv, rfl, rfl, rfl, rfl⟩,
      ⟨_, exec_vinLow s, ?_, rfl, rfl, rfl, rfl, rfl, rfl⟩, ⟨_, rfl, rfl, ?_, rfl, rfl⟩⟩
    · rw [exec_railFault hn, if_pos (.inr hup)]
    · exact ⟨_, (exec_clockFault true s).trans (congrArg _ (if_pos hcore)), s.coreFault_down 5 0⟩
    · exact ⟨_, (exec_clockFault false s).trans (congrArg _ (if_pos hup)), s.coreFault_down 4 0⟩
    · exact (exec_clockFault true s).trans (congrArg _ (if_neg (by simp [hcore])))
    · exact (exec_clockFault false s).trans (congrArg _ (if_neg (by simp [hup])))
    · rw [exec_junctionTrip, if_neg (by omega)]
    · exact ((sameBut_power s _).mono (by simp)).trans (State.powerReset_sameBut true _)
    · exact State.powerReset_flash ..
  · intro s env
    dsimp only
    refine ⟨fun hv hp hh => ?_, fun hv hp => ?_, fun hp hv hh => ?_, fun hp hheld => ?_, fun hp => ?_, fun hv => ?_,
      fun a b hh hv hp ha hb => ?_, fun a b hno => ?_, exec_bootFallback_late, fun hv hm hb => ⟨?_, ?_⟩⟩
    · rw [exec_powerUp, hv]
      exact ⟨_, rfl, State.bootIfFree_outcome env ⟨rfl, hp, hh⟩ (s.powerReset_flash true) rfl⟩
    · rw [exec_powerUp, hv]
      exact ⟨_, congrArg Host.Outcome.next (State.bootIfFree_held env (.inr (.inl hp))), rfl, rfl, rfl⟩
    · rw [exec_pwrResetRelease, if_pos hp]
      exact ⟨_, rfl, State.bootIfFree_outcome env ⟨hv, rfl, hh⟩ rfl rfl⟩
    · rw [exec_pwrResetRelease, if_pos hp]
      exact congrArg Host.Outcome.next (State.bootIfFree_held env (hheld.imp_right .inr))
    · rw [exec_pwrResetRelease, if_neg (by simp [hp])]
    · rw [exec_powerUp, if_pos hv]
    · rw [exec_companionCooled, if_pos ⟨hh, ha, hb⟩]
      exact ⟨_, rfl, State.bootIfFree_outcome env ⟨hv, hp, rfl⟩ rfl rfl⟩
    · rw [exec_companionCooled, if_neg]
      rintro ⟨hh, ha, hb⟩
      rcases hno with h | h | h
      · simp [hh] at h
      · omega
      · omega
    · intro hlast
      obtain ⟨hmgmt, hcause, _⟩ := s.secondStart.enterNadir_boot 2
      rw [exec_bootFallback_timeout env hv hm hb, if_pos hlast]
      exact ⟨_, rfl, hmgmt, hcause⟩
    · intro hfb hgood
      obtain ⟨_, _, hrun, hfb', hmgmt⟩ :=
        State.of_bootKey (s.secondStart.bankBoot_bootKey env (!s.boot.confirmed) true)
      rw [exec_bootFallback_timeout env hv hm hb, if_neg (by simp [hfb, hgood])]
      exact ⟨_, rfl, hmgmt, hrun, hfb'⟩

end Sys2Proof.Machine
end

section
/-!
What completions, events, records and descriptors leave alone: frames as `SameBut`, one lemma for each operation.
-/

namespace Sys2Proof.Machine

theorem sameBut_job (s : State) (x : JobState) : SameBut [.job] s { s with job := x } := by
  intro p hp; cases p <;> simp_all [Part.Same]

/-! ## Completions and events -/

/-- A message that leaves is put on the outbox. -/
theorem State.send_sameBut (o : Out) (s : State) : SameBut [.host, .outbox] s (s.send o) :=
  (sameBut_outbox s _).mono (by simp)

theorem State.modPort_sameBut (p : Nat) (f : Port → Port) (s : State) : SameBut [.host, .outbox] s (s.modPort p f) :=
  (sameBut_host s _).mono (by simp)

theorem State.modSlot_sameBut (i : Nat) (f : Slot → Slot) (s : State) : SameBut [.host, .outbox] s (s.modSlot i f) :=
  (sameBut_host s _).mono (by simp)

theorem State.modQueue_sameBut (q : Nat) (f : Queue → Queue) (s : State) :
    SameBut [.host, .outbox] s (s.modQueue q f) :=
  (sameBut_host s _).mono (by simp)

theorem State.raiseVector_sameBut (port vector : Nat) (s : State) :
    SameBut [.host, .outbox] s (s.raiseVector port vector) := by
  unfold State.raiseVector
  split
  · exact s.send_sameBut _
  · exact s.modPort_sameBut _ _

theorem State.postCq_sameBut (qn port : Nat) (c : Cpl) (irq : Bool) (s : State) :
    SameBut [.host, .outbox] s (s.postCq qn port c irq) :=
  ((s.modQueue_sameBut _ _).trans (State.send_sameBut _ _)).trans
    (SameBut.ite (State.raiseVector_sameBut _ _ _) (SameBut.refl _ _))

theorem State.post_sameBut (f : Flight) (status : Code) (r0 r1 : W64) (sample : W32) (late : Bool) (data : List Byte)
    (s : State) : SameBut [.host, .outbox] s (s.post f status r0 r1 sample late data) := by
  have drop (fs : List Flight) : SameBut [.host, .outbox] s { s with host := { s.host with flights := fs } } :=
    (sameBut_host s _).mono (by simp)
  unfold State.post
  dsimp only
  refine (drop _).trans (SameBut.ite (State.modPort_sameBut _ _ _) ?_)
  split
  case h_1 =>
    exact (SameBut.ite (SameBut.refl _ _) (State.send_sameBut _ _)).trans
      (SameBut.ite (State.modQueue_sameBut _ _ _) (State.postCq_sameBut _ _ _ _ _))
  case h_2 => exact (State.modSlot_sameBut _ _ _).trans (State.send_sameBut _ _)

theorem State.finish_sameBut (f : Flight) (status : Code) (r0 r1 : W64) (late : Bool) (data : List Byte) (s : State) :
    SameBut [.host, .outbox] s (s.finish f status r0 r1 late data) :=
  SameBut.ite ((sameBut_host s _).mono (by simp)) (s.post_sameBut _ _ _ _ _ _ _)

theorem State.finishId_sameBut (id : Nat) (status : Code) (r0 r1 : W64) (late : Bool) (data : List Byte) (s : State) :
    SameBut [.host, .outbox] s (s.finishId id status r0 r1 late data) := by
  unfold State.finishId
  split
  · exact s.finish_sameBut _ _ _ _ _ _
  · exact SameBut.refl _ s

theorem State.eventTo_sameBut (i type : Nat) (status : Code) (r1 : W64) (s : State) :
    SameBut [.host, .outbox] s (s.eventTo i type status r1) := by
  unfold State.eventTo
  refine SameBut.ite (SameBut.refl _ s) (SameBut.ite (SameBut.ite ?_ (s.modSlot_sameBut _ _)) ?_)
  · exact (s.postCq_sameBut _ _ _ _).trans (State.modSlot_sameBut _ _ _)
  · split
    · exact (s.send_sameBut _).trans (State.modSlot_sameBut _ _ _)
    · exact s.modSlot_sameBut _ _

theorem State.event_sameBut (type : Nat) (status : Code) (r1 : W64) (s : State) :
    SameBut [.host, .outbox] s (s.event type status r1) :=
  SameBut.foldl (fun s i => SameBut.ite ((sameBut_host s _).mono (by simp)) (s.eventTo_sameBut i type status r1)) _ s

theorem State.record_sameBut (type : Nat) (plane : Plane) (payload : List Byte) (s : State) :
    SameBut [.tail, .mem] s (s.record type plane payload) :=
  State.recordAt_sameBut _ _ type plane payload s

/-! ## Descriptors -/

theorem State.modDesc_sameBut (num id : Nat) (f : Desc → Desc) (s : State) : SameBut [.job] s (s.modDesc num id f) :=
  sameBut_job s _

theorem State.completeDesc_sameBut (d : Desc) (s : State) : SameBut [.job, .host, .outbox] s (s.completeDesc d) := by
  unfold State.completeDesc
  split
  · exact (s.finishId_sameBut _ _ _ _ _ _).mono (by simp)
  · exact (sameBut_job s _).comp (State.finishId_sameBut _ _ _ _ _ _ _)

theorem State.settleDescs_sameBut (s : State) : SameBut [.job, .host, .outbox] s s.settleDescs :=
  ((sameBut_job s _).mono (by simp)).trans (SameBut.foldl (fun s d => s.completeDesc_sameBut d) _ _)

theorem State.discardDescs_sameBut (num : Nat) (code : Code) (p : Desc → Bool) (s : State) :
    SameBut [.job] s (s.discardDescs num code p) :=
  sameBut_job s _

theorem State.dropExclusive_sameBut (n : Nat) (s : State) : SameBut [.job] s (s.dropExclusive n) := by
  unfold State.dropExclusive
  split
  · exact s.discardDescs_sameBut _ _ _
  · exact SameBut.refl _ s

theorem State.dropZones_sameBut (s : State) : SameBut [.job] s s.dropZones := by
  unfold State.dropZones
  split
  · exact SameBut.refl _ s
  · exact SameBut.foldl (fun s _ => SameBut.ite (s.discardDescs_sameBut _ _ _) (SameBut.refl _ s)) _ s

theorem State.cutWords_sameBut (n : Nat) (s : State) : SameBut [.job] s (s.cutWords n) :=
  SameBut.foldl (fun s _ => s.modDesc_sameBut _ _ _) _ s

theorem State.abortBuild_sameBut (s : State) : SameBut [.job, .recoat] s s.abortBuild := by
  have drop := SameBut.foldl (fun s p => State.discardDescs_sameBut p.num 0x0B02 (fun _ => true) s) s.job.pools s
  have ends (t : State) (j : JobState) (r : Recoat) : SameBut [.job, .recoat] t { t with job := j, recoat := r } :=
    (sameBut_job t j).comp (sameBut_recoat { t with job := j } r)
  exact SameBut.ite ((drop.mono (by simp)).trans (ends _ _ _)) (SameBut.refl _ s)

end Sys2Proof.Machine
end

section
/-!
Eclipse (R165, R205, R504–R511): what a trigger makes of channels and engines, what a leave takes out, and the records
of a channel in Eclipse.
-/

namespace Sys2Proof.Machine

/-! ## Tables with every entry changed -/

theorem nth_updAll {α : Type} {n i : Nat} (d : α) (t : Vector α n) (f : Nat → α → α) (h : i < n) :
    nth d (updAll t f) i = f i (nth d t i) := by
  simp [nth, updAll, h]

theorem nth_updAll_of_fixed {α : Type} {n i : Nat} (d : α) (t : Vector α n) (f : Nat → α → α) (h : ∀ a, f i a = a) :
    nth d (updAll t f) i = nth d t i := by
  by_cases hi : i < n
  · rw [nth_updAll d t f hi, h]
  · simp [nth, hi]

/-! ## One engine changed -/

theorem State.engine_modEngine_same {n : Nat} (h : n < 32) (f : Engine → Engine) (s : State) :
    (s.modEngine n f).engine n = f (s.engine n) :=
  nth_upd_same ({} : Engine) s.engines f h

theorem State.engine_modEngine_other {n m : Nat} (h : n ≠ m) (f : Engine → Engine) (s : State) :
    (s.modEngine m f).engine n = s.engine n :=
  nth_upd_other ({} : Engine) s.engines f h

/-! ## Stopping an engine -/

/-- What stopping engine `m` may change: that engine, the hold log with its record, and the descriptors. -/
def StopOf (m : Nat) (s t : State) : Prop :=
  SameBut [.engines, .arb, .tail, .mem, .job] s t ∧ ∀ n, n ≠ m → t.engine n = s.engine n

theorem StopOf.refl (m : Nat) (s : State) : StopOf m s s := ⟨SameBut.refl _ s, fun _ _ => rfl⟩

theorem StopOf.trans {m : Nat} {s t u : State} (h : StopOf m s t) (k : StopOf m t u) : StopOf m s u :=
  ⟨h.1.trans k.1, fun n hn => (k.2 n hn).trans (h.2 n hn)⟩

theorem StopOf.ite {m : Nat} {s t u : State} {c : Prop} [Decidable c] (h : StopOf m s t) (k : StopOf m s u) :
    StopOf m s (if c then t else u) := by
  split <;> assumption

/-- An operation that touches no engine. -/
theorem StopOf.of_sameBut {m : Nat} {s t : State} (h : SameBut [.arb, .tail, .mem, .job] s t) : StopOf m s t := by
  have he : t.engines = s.engines := h .engines (by simp)
  exact ⟨h.mono (by simp), fun n _ => by simp only [State.engine, he]⟩

theorem State.modEngine_stopOf (m : Nat) (f : Engine → Engine) (s : State) : StopOf m s (s.modEngine m f) :=
  ⟨(sameBut_engines s _).mono (by simp), fun _ hn => State.engine_modEngine_other hn f s⟩

theorem State.endHold_stopOf (n t : Nat) (released : Bool) (s : State) : StopOf n s (s.endHold n t released) := by
  have log (a : Arbiter) (f : Engine → Engine) : StopOf n s (({ s with arb := a } : State).modEngine n f) :=
    (StopOf.of_sameBut ((sameBut_arb s a).mono (by simp))).trans (State.modEngine_stopOf n f _)
  unfold State.endHold
  dsimp only
  split
  case h_1 => exact StopOf.refl n s
  case h_2 =>
    exact StopOf.ite ((log _ _).trans (.of_sameBut ((State.record_sameBut _ _ _ _).mono (by simp)))) (log _ _)

theorem State.returnTakes_stopOf (n : Nat) (s : State) : StopOf n s (s.returnTakes n) := by
  have give (l : List (Nat × Nat)) (f : Nat × Nat → Desc → Desc) (g : Pool → Pool) :
      SameBut [.job] s (l.foldl (fun s k => (s.modDesc k.1 k.2 (f k)).modPool k.1 g) s) :=
    SameBut.foldl (fun s _ => (s.modDesc_sameBut _ _ _).trans (sameBut_job _ _)) l s
  exact (StopOf.of_sameBut ((give _ _ _).mono (by simp))).trans (State.modEngine_stopOf n _ _)

theorem State.park_stopOf (n t0 : Nat) (s : State) : StopOf n s (s.park n t0) := by
  unfold State.park
  split
  · exact StopOf.refl n s
  · exact State.modEngine_stopOf n _ s

theorem State.stopEngine_stopOf (n k t0 : Nat) (s : State) : StopOf n s (s.stopEngine n k t0) := by
  have desc {s t : State} (h : SameBut [.job] s t) : StopOf n s t := .of_sameBut (h.mono (by simp))
  exact ((((s.endHold_stopOf n (k + 1) false).trans (State.returnTakes_stopOf n _)).trans
    (desc (State.cutWords_sameBut n _))).trans (desc (State.dropExclusive_sameBut n _))).trans
      (State.park_stopOf n t0 _)

/-- An engine that Eclipse has stopped: no plan, no gate edge to come and no hold. -/
def Engine.stopped (e : Engine) : Prop := e.queue = [] ∧ e.edges = [] ∧ e.held = none

theorem StopOf.declared {m : Nat} {s t : State} (h : StopOf m s t) (n : Nat) : t.declared n = s.declared n := by
  have he : t.eph = s.eph := h.1 .eph (by simp)
  simp only [State.declared, State.head?, he]

theorem State.park_stopped {n t0 : Nat} {s : State} (hn : n < 32) (hd : s.declared n = true) :
    ((s.park n t0).engine n).stopped := by
  unfold State.park
  split
  case h_1 hh => simp [State.declared, hh] at hd
  case h_2 =>
    rw [State.engine_modEngine_same hn]
    exact ⟨rfl, rfl, rfl⟩

/-- The way to the park point comes last, and it clears the plan, the gate edges and the hold. -/
theorem State.stopEngine_stopped {n k t0 : Nat} {s : State} (hn : n < 32) (hd : s.declared n = true) :
    ((s.stopEngine n k t0).engine n).stopped := by
  have desc {s t : State} (h : SameBut [.job] s t) : StopOf n s t := .of_sameBut (h.mono (by simp))
  have before := (((s.endHold_stopOf n (k + 1) false).trans (State.returnTakes_stopOf n _)).trans
    (desc (State.cutWords_sameBut n _))).trans (desc (State.dropExclusive_sameBut n _))
  exact State.park_stopped hn ((before.declared n).trans hd)

theorem State.stopEngines_sameBut (k t0 : Nat) (l : List Nat) (s : State) :
    SameBut [.engines, .arb, .tail, .mem, .job] s (l.foldl (fun s n => s.stopEngine n k t0) s) :=
  SameBut.foldl (fun s n => (s.stopEngine_stopOf n k t0).1) l s

/-- Of several engines that stop, each is stopped, whichever stops last. -/
theorem State.stopEngines_stopped {n k t0 : Nat} (hn : n < 32) (l : List Nat) (s : State) (hd : s.declared n = true)
    (h : n ∈ l ∨ (s.engine n).stopped) : ((l.foldl (fun s n => s.stopEngine n k t0) s).engine n).stopped := by
  induction l generalizing s with
  | nil => simpa using h
  | cons m r ih =>
    have stop := s.stopEngine_stopOf m k t0
    refine ih (s.stopEngine m k t0) ((stop.declared n).trans hd) ?_
    by_cases hm : n = m
    · subst hm
      exact .inr (State.stopEngine_stopped hn hd)
    · rw [stop.2 n hm]
      exact h.imp_left fun h => (List.mem_cons.1 h).resolve_left hm

/-! ## Triggers -/

/-- The declared channels that a trigger's scope names. -/
def State.inScope (s : State) (scope : Nat → Bool) : List Nat :=
  (List.range 32).filter fun n => s.declared n && scope n

/-- Of those, the channels that enter Eclipse: not in it, or about to leave it. -/
def State.entering (s : State) (scope : Nat → Bool) : List Nat :=
  (s.inScope scope).filter fun n => !s.eclipsed n || bitOf s.eclipse.leaving n

/-- Of those, the channels that stay in Eclipse with one more cause. -/
def State.addedTo (s : State) (scope : Nat → Bool) : List Nat :=
  (s.inScope scope).filter fun n => s.eclipsed n && !bitOf s.eclipse.leaving n

/-- The Eclipse state of a channel after a trigger in sample `k`. -/
def State.triggered (s : State) (k : Nat) (scope : Nat → Bool) (bit : Nat) (code : Code) (n : Nat) (c : EclipseCh) :
    EclipseCh :=
  if (s.entering scope).contains n then .enter k bit code
  else if (s.addedTo scope).contains n then c.add k bit code
  else c

/-- What follows from the channels that entered Eclipse or got a cause: descriptors, the record and the event. -/
def State.announce (entered added : W32) (bit : Nat) (code : Code) (s : State) : State :=
  let t := s.dropZones.abortBuild.settleDescs.record 0x0031 .data
    (u32s [entered.toNat, added.toNat, code.toNat, bit] ++
      leBytes 8 s.dropZones.abortBuild.settleDescs.ix)
  if entered = 0 then t else t.event 2 code (entered.setWidth 64)

theorem State.announce_sameBut (entered added : W32) (bit : Nat) (code : Code) (s : State) :
    SameBut [.job, .recoat, .host, .outbox, .tail, .mem] s (s.announce entered added bit code) := by
  have settled : SameBut [.job, .recoat, .host, .outbox, .tail, .mem] s s.dropZones.abortBuild.settleDescs :=
    ((s.dropZones_sameBut.mono (by simp)).trans ((State.abortBuild_sameBut _).mono (by simp))).trans
      ((State.settleDescs_sameBut _).mono (by simp))
  have told (payload : List Byte) := settled.trans ((State.record_sameBut 0x0031 .data payload _).mono (by simp))
  exact SameBut.ite (told _) ((told _).trans ((State.event_sameBut _ _ _ _).mono (by simp)))

/-- The engines stop whose channels enter Eclipse and were not in it. -/
def State.stopEntering (k t0 : Nat) (scope : Nat → Bool) (s : State) : State :=
  ((s.entering scope).filter fun n => !s.eclipsed n).foldl (fun s n => s.stopEngine n k t0) s

/-- A trigger in its three steps: engines stop, channels enter, and what follows from it. -/
theorem State.triggerAt_eq (k t0 : Nat) (scope : Nat → Bool) (bit : Nat) (code : Code) (s : State) :
    ∃ (x : Eclipse) (entered added : W32), x.ch = updAll s.eclipse.ch (s.triggered k scope bit code) ∧
      s.triggerAt k t0 scope bit code =
        State.announce entered added bit code { s.stopEntering k t0 scope with eclipse := x } := by
  have h : (s.stopEntering k t0 scope).eclipse = s.eclipse := State.stopEngines_sameBut k t0 _ s .eclipse (by simp)
  exact ⟨_, _, _, congrArg (fun x : Eclipse => updAll x.ch (s.triggered k scope bit code)) h, rfl⟩

/-- What follows from a trigger touches neither the engines that it stopped nor the channels that it changed. -/
theorem State.triggerAt_engines_ch (k t0 : Nat) (scope : Nat → Bool) (bit : Nat) (code : Code) (s : State) :
    (s.triggerAt k t0 scope bit code).engines = (s.stopEntering k t0 scope).engines ∧
      (s.triggerAt k t0 scope bit code).eclipse.ch = updAll s.eclipse.ch (s.triggered k scope bit code) := by
  obtain ⟨x, entered, added, hx, h⟩ := s.triggerAt_eq k t0 scope bit code
  have same := State.announce_sameBut entered added bit code { s.stopEntering k t0 scope with eclipse := x }
  rw [h, same .eclipse (by simp), same .engines (by simp)]
  exact ⟨rfl, hx⟩

/-- The entry of channel `n` after a trigger. -/
theorem State.triggerAt_ch (k t0 : Nat) (scope : Nat → Bool) (bit : Nat) (code : Code) (s : State) {n : Nat}
    (hn : n < 32) : nth {} (s.triggerAt k t0 scope bit code).eclipse.ch n =
      s.triggered k scope bit code n (nth {} s.eclipse.ch n) := by
  rw [(s.triggerAt_engines_ch k t0 scope bit code).2, nth_updAll _ _ _ hn]

/-- An engine whose channel enters Eclipse is stopped. -/
theorem State.triggerAt_stopped (k t0 : Nat) (scope : Nat → Bool) (bit : Nat) (code : Code) (s : State) {n : Nat}
    (hn : n < 32) (hd : s.declared n = true) (h : n ∈ s.entering scope) (he : s.eclipsed n = false) :
    ((s.triggerAt k t0 scope bit code).engine n).stopped := by
  rw [State.engine, (s.triggerAt_engines_ch k t0 scope bit code).1]
  exact State.stopEngines_stopped hn _ s hd (.inl (List.mem_filter.2 ⟨h, by simp [he]⟩))

/-- A channel that enters: declared, in scope, and not in Eclipse or about to leave it. -/
theorem State.mem_entering {s : State} {scope : Nat → Bool} {n : Nat} : n ∈ s.entering scope ↔
    n < 32 ∧ s.declared n = true ∧ scope n = true ∧ (s.eclipsed n = false ∨ bitOf s.eclipse.leaving n = true) := by
  simp only [State.entering, State.inScope, List.mem_filter, List.mem_range, Bool.and_eq_true, Bool.or_eq_true,
    Bool.not_eq_true', and_assoc]

theorem State.triggered_of_entering {s : State} {k : Nat} {scope : Nat → Bool} {bit : Nat} {code : Code} {n : Nat}
    (h : n ∈ s.entering scope) (c : EclipseCh) : s.triggered k scope bit code n c = .enter k bit code :=
  if_pos (List.contains_iff_mem.2 h)

theorem EclipseCh.add_inEclipse (k bit : Nat) (code : Code) (c : EclipseCh) :
    (c.add k bit code).inEclipse = c.inEclipse := by
  unfold EclipseCh.add
  dsimp only
  split <;> rfl

/-- Where a channel does not enter, its trigger leaves it in Eclipse or out of it. -/
theorem State.triggered_of_not_entering {s : State} {k : Nat} {scope : Nat → Bool} {bit : Nat} {code : Code} {n : Nat}
    (h : n ∉ s.entering scope) (c : EclipseCh) : (s.triggered k scope bit code n c).inEclipse = c.inEclipse := by
  rw [State.triggered, if_neg (by simpa using h)]
  split
  · exact EclipseCh.add_inEclipse k bit code c
  · rfl

theorem State.trigger_eclipsed {s : State} {scope : Nat → Bool} {n : Nat} (bit : Nat) (code : Code) (hn : n < 32)
    (hd : s.declared n = true) (hs : scope n = true) : (s.trigger scope bit code).eclipsed n = true := by
  rw [State.trigger, State.eclipsed, State.triggerAt_ch _ _ _ _ _ _ hn]
  by_cases h : n ∈ s.entering scope
  · rw [State.triggered_of_entering h]
    rfl
  · rw [State.triggered_of_not_entering h]
    cases he : s.eclipsed n with
    | true => exact he
    | false => exact absurd (State.mem_entering.2 ⟨hn, hd, hs, .inl he⟩) h

/-- Outside its scope a trigger changes no channel. -/
theorem State.trigger_eclipsed_of_not_scope {s : State} {scope : Nat → Bool} {n : Nat} (bit : Nat) (code : Code)
    (hs : scope n = false) : (s.trigger scope bit code).eclipsed n = s.eclipsed n := by
  by_cases hn : n < 32
  · have h : n ∉ s.entering scope := fun h => by
      obtain ⟨_, _, hscope, _⟩ := State.mem_entering.1 h
      rw [hs] at hscope
      cases hscope
    rw [State.trigger, State.eclipsed, State.triggerAt_ch _ _ _ _ _ _ hn, State.triggered_of_not_entering h]
    rfl
  · simp [State.eclipsed, nth, hn]

/-- A channel that was not in Eclipse enters it with the trigger's cause alone, and its engine is stopped. -/
theorem State.trigger_enters {s : State} {scope : Nat → Bool} {n : Nat} (bit : Nat) (code : Code) (hn : n < 32)
    (hd : s.declared n = true) (hs : scope n = true) (he : s.eclipsed n = false) :
    nth {} (s.trigger scope bit code).eclipse.ch n = .enter s.ix bit code ∧
      ((s.trigger scope bit code).engine n).stopped := by
  have h : n ∈ s.entering scope := State.mem_entering.2 ⟨hn, hd, hs, .inl he⟩
  refine ⟨?_, State.triggerAt_stopped _ _ scope bit code s hn hd h he⟩
  rw [State.trigger, State.triggerAt_ch _ _ _ _ _ _ hn, State.triggered_of_entering h]

/-! ## Sources and the leave -/

/-- The scope of a watchdog: its engine's channel, or every channel (R508). -/
def watchScope : WatchUnit → Nat → Bool
  | .engine n => (· == n)
  | _ => allCh

theorem exec_watchdog (w : WatchUnit) {s : State} (hcore : s.power.core = true) (hdata : s.planes.data ≠ .off) :
    exec (.watchdog w) s = .next ((s.trigger (watchScope w) 6 0x0B07).healthFail 2) := by
  have h : ¬ (s.power.core = false ∨ s.planes.data = .off) := by simp [hcore, hdata]
  cases w <;> exact congrArg Host.Outcome.next (if_neg h)

/-- Without an activation no failure reverts. -/
theorem State.healthFail_of_no_activation {s : State} (check : Nat) (h : s.boot.activation = none) :
    s.healthFail check = s := by
  simp only [State.healthFail, State.revert, h]

/-- ECLIPSE_LEAVE_EFFECT takes the accepted channels out and posts their event. -/
theorem exec_eclipseLeaveEffect {s : State} (h : s.eclipse.leaving ≠ 0) : ∃ j : JobState,
    exec .eclipseLeaveEffect s = .next (State.event 2 0 (s.eclipse.leaving.setWidth 64 <<< 32)
      { s with
        job := j
        eclipse := { s.eclipse with
          ch := updAll s.eclipse.ch fun n c => if bitOf s.eclipse.leaving n then {} else c, leaving := 0 } }) :=
  ⟨_, if_neg h⟩

/-! ## Records in Eclipse -/

/-- A channel in Eclipse has its gate low throughout the sample. -/
theorem State.recSrc_gate_of_eclipsed {s : State} {n : Nat} (k : Nat) (h : s.eclipsed n = true) :
    (s.recSrc k n).gate.gate = false := by
  simp [State.recSrc, h]

/-- The record of an engine in Eclipse has POWER 0 and ECLIPSE set (R205). -/
theorem State.makeRec_of_eclipsed {s : State} {n : Nat} (k : Nat) (hn : n < 32) (h : s.eclipsed n = true) :
    ((s.makeRec k n).engine n).sr.gate = false ∧ ((s.makeRec k n).engine n).sr.power = 0 ∧
      ((s.makeRec k n).engine n).sr.eclipse = true ∧ ((s.makeRec k n).engine n).gate = false := by
  have low := State.recSrc_gate_of_eclipsed k h
  unfold State.makeRec
  dsimp only
  rw [State.engine_modEngine_same hn]
  cases (s.recSrc k n).word <;> exact ⟨low, if_pos h, h, low⟩

/-- Settles O29, from `State.trigger_enters`, `State.trigger_eclipsed` and the equation of each source. -/
theorem eclipseEntersChannelsAndStopsTheirEngines : Obligations.EclipseEntersChannelsAndStopsTheirEngines := by
  unfold Obligations.EclipseEntersChannelsAndStopsTheirEngines
  refine ⟨fun s scope bit code n hn hd hs => ⟨s.trigger_eclipsed bit code hn hd hs, fun he => ?enters⟩,
    fun s scope bit code n => State.trigger_eclipsed_of_not_scope bit code, fun s hcore hreq => ?request,
    fun s hno => ?noRequest, fun s => rfl, fun s hl => ?leave, fun s hcore => ?linkLoss,
    fun s w hcore hdata => ?watchdogScope, fun s w hcore hdata hact => ?watchdog,
    fun s k n => State.makeRec_of_eclipsed k⟩
  case enters =>
    obtain ⟨hch, hqueue, hedges, hheld⟩ := s.trigger_enters bit code hn hd hs he
    rw [hch]
    exact ⟨hqueue, hedges, hheld, rfl, rfl⟩
  case request => exact congrArg Host.Outcome.next (if_pos ⟨hcore, hreq⟩)
  case noRequest =>
    exact congrArg Host.Outcome.next (if_neg (by rcases hno with h | h <;> simp [h]))
  case leave =>
    obtain ⟨j, hexec⟩ := exec_eclipseLeaveEffect hl
    have posts (t : State) := t.event_sameBut 2 0 (s.eclipse.leaving.setWidth 64 <<< 32)
    refine ⟨_, hexec, ?_, fun n hn => ?_, ?_⟩
    · rw [posts _ .eclipse (by simp)]
    · rw [State.eclipsed, posts _ .eclipse (by simp), nth_updAll _ _ _ hn]
      cases bitOf s.eclipse.leaving n <;> simp [State.eclipsed]
    · exact (((sameBut_job s j).mono (by simp)).trans ((sameBut_eclipse _ _).mono (by simp))).trans
        ((posts _).mono (by simp))
  case linkLoss => exact congrArg Host.Outcome.next (if_neg (by simp [hcore]))
  case watchdogScope => cases w <;> exact exec_watchdog _ hcore hdata
  case watchdog =>
    refine ⟨_, exec_watchdog w hcore hdata, fun n hn hd hw => ?_⟩
    rw [State.healthFail_of_no_activation _ (by rw [State.boot_of_trunk (State.trigger_trunk ..), hact])]
    refine State.trigger_eclipsed _ _ hn hd ?_
    cases w with
    | engine m => simp [watchScope, hw m rfl]
    | _ => rfl

end Sys2Proof.Machine
end

section
/-!
The Syzygy sequence (R33, R161–R163, R322, R330, R409): the steps that end in time, the common start, and memory tests.
-/

namespace Sys2Proof.Machine

/-! ## What a layer's start keeps -/

/-- The planes, the running layer, the step of the sequence and the engine of rank 0: what the work of pools, engines
and completions leaves alone. -/
def State.layerKey (s : State) : Planes × Option W32 × Syzygy × Nat :=
  (s.planes, s.job.running, s.job.syzygy, s.arb.rank0)

/-- The four parts of `State.layerKey`, from an equation of two keys written out. -/
theorem State.of_layerKey {t : State} {planes : Planes} {running : Option W32} {step : Syzygy} {rank : Nat}
    (h : t.layerKey = (planes, running, step, rank)) : t.planes = planes ∧ t.job.running = running ∧
      t.job.syzygy = step ∧ t.arb.rank0 = rank := by
  simpa only [State.layerKey, Prod.mk.injEq] using h

/-- Frames that leave the planes, the job and the arbiter alone. -/
theorem SameBut.layerKey {v : List Part} {s t : State} (h : SameBut v s t) (hp : .planes ∉ v) (hj : .job ∉ v)
    (ha : .arb ∉ v) : t.layerKey = s.layerKey := by
  have planes : t.planes = s.planes := h .planes hp
  have job : t.job = s.job := h .job hj
  have arb : t.arb = s.arb := h .arb ha
  simp only [State.layerKey, planes, job, arb]

theorem State.discardDescs_layerKey (num : Nat) (code : Code) (p : Desc → Bool) (s : State) :
    (s.discardDescs num code p).layerKey = s.layerKey := rfl

theorem State.dropExclusive_layerKey (n : Nat) (s : State) : (s.dropExclusive n).layerKey = s.layerKey := by
  unfold State.dropExclusive
  split <;> rfl

theorem State.dropZones_layerKey (s : State) : s.dropZones.layerKey = s.layerKey := by
  unfold State.dropZones
  split
  · rfl
  · exact foldl_keep State.layerKey _ (fun s _ => by split <;> rfl) _ s

theorem State.completeDesc_layerKey (d : Desc) (s : State) : (s.completeDesc d).layerKey = s.layerKey := by
  unfold State.completeDesc
  split <;> exact (State.finishId_sameBut _ _ _ _ _ _ _).layerKey (by simp) (by simp) (by simp)

theorem State.settleDescs_layerKey (s : State) : s.settleDescs.layerKey = s.layerKey :=
  foldl_keep State.layerKey _ (fun s d => s.completeDesc_layerKey d) _ _

theorem State.feedOne_layerKey {n : Nat} {s t : State} (h : s.feedOne n = some t) : t.layerKey = s.layerKey := by
  unfold State.feedOne at h
  split at h
  · cases h
  · split at h
    · cases h
      exact State.settleDescs_layerKey _
    · split at h
      · cases h
      · cases h
        exact State.settleDescs_layerKey _

theorem State.feed_layerKey (n k fuel : Nat) (s : State) : (s.feed n k fuel).layerKey = s.layerKey := by
  induction fuel generalizing s with
  | zero => rfl
  | succ fuel ih =>
    unfold State.feed
    split
    · split
      next hfed => rw [ih, State.feedOne_layerKey hfed]
      next => rfl
    · rfl

theorem State.feedAll_layerKey (k : Nat) (s : State) : (s.feedAll k).layerKey = s.layerKey :=
  foldl_keep State.layerKey _ (fun s n => by split <;> [exact s.feed_layerKey n k planFuel; rfl]) _ s

theorem State.markOne_layerKey (k : Nat) (acc : State × List Stroke) (x : Stroke) :
    (State.markOne k acc x).1.layerKey = acc.1.layerKey := by
  unfold State.markOne
  dsimp only
  split
  · rfl
  · split <;> rfl

theorem holdMarks_layerKey (which : Nat → Bool) (k : Nat) (acc : State × List Stroke) :
    (holdMarks which k acc).1.layerKey = acc.1.layerKey :=
  foldl_keep (fun a => a.1.layerKey) _ (fun a x => State.markOne_layerKey k a x) _ _

/-! ## The common start (R33, R220) -/

/-- A layer that starts: DATA_STATE 2, the layer runs, no step is left, and rank 0 is at engine L mod 32. -/
theorem State.startLayer_layerKey (l : Layer) (s : State) : (s.startLayer l).layerKey =
    ({ s.planes with data := .build }, some l.num, .none, l.num.toNat % 32) := by
  have drop (f : State → Nat → Bool) (l : List Nat) (s : State) :
      (l.foldl (fun s n => if f s n then s.dropExclusive n else s) s).layerKey = s.layerKey :=
    foldl_keep State.layerKey _ (fun s n => by split <;> [exact s.dropExclusive_layerKey n; rfl]) l s
  have summary (s : State) : s.startSummary.layerKey = s.layerKey := rfl
  unfold State.startLayer
  dsimp only
  rw [holdMarks_layerKey, State.feedAll_layerKey, summary, State.settleDescs_layerKey, State.dropZones_layerKey, drop]
  rfl

theorem exec_commonStart {s : State} {l : Layer} (hl : s.prepared? = some l) (hstep : s.job.syzygy = .start)
    (ht0 : s.job.t0 ≤ s.ix + 1) (h80 : (s.ix + 1) % 80 = 0) (hstaged : s.startStaged = true) :
    exec .commonStart s =
      .next (({ s with job := { s.job with t0 := s.ix + 1 } } : State).startLayer l) := by
  show execCommonStart s = _
  simp only [execCommonStart, hl]
  rw [if_pos ⟨hstep, ht0, h80, hstaged⟩]

/-! ## Steps that end in time -/

theorem exec_recoatDwellEnd {s : State} (hdwell : s.recoat.state = .dwell) (hend : s.recoat.dwellEnd ≤ s.ix) :
    exec .recoatDwellEnd s =
      .next (({ s with recoat := { s.recoat with state := .idle } } : State).syzygyGo s.ix) :=
  congrArg Host.Outcome.next (if_pos ⟨hdwell, hend⟩)

/-- Outside the steps that wait for recoat, images or commits the sequence does not go on by itself. -/
theorem State.syzygyGo_of_other_step {s : State} (k : Nat) (hr : s.job.syzygy ≠ .recoat) (hi : s.job.syzygy ≠ .image)
    (hc : s.job.syzygy ≠ .commits) : s.syzygyGo k = s := by
  unfold State.syzygyGo
  split
  case h_1 => contradiction
  case h_2 => contradiction
  case h_3 => contradiction
  case h_4 => rfl

/-- The recoat step is over when the recoater rests and no motion runs. -/
theorem State.syzygyGo_of_recoat_over {s : State} (k : Nat) (hr : s.job.syzygy = .recoat)
    (hidle : s.recoat.state = .idle) (hnone : s.recoat.running = []) : s.syzygyGo k = s.enterImage k := by
  simp [State.syzygyGo, hr, hidle, hnone]

/-- A sensor without an outstanding frame is triggered; another skips (R329). -/
theorem State.trigOrSkip_fst (i t : Nat) (s : State) : (s.trigOrSkip i t).1 = (s.sensor i).cur.isNone := by
  unfold State.trigOrSkip
  cases (s.sensor i).cur <;> rfl

/-- A trigger or its skip touches the camera and its clock, and not the sequence. -/
theorem State.trigOrSkip_sameBut (i t : Nat) (s : State) : SameBut [.power, .camera] s (s.trigOrSkip i t).2 := by
  unfold State.trigOrSkip
  split
  · exact (sameBut_camera s _).mono (by simp)
  · exact (sameBut_power s _).comp (sameBut_camera _ _)

/-- SYZYGY_TRIGGER is due in the image step, or TRIG_DLY before the exposure start that the recoat step gives. -/
def State.triggerDue (s : State) (i : Nat) : Prop :=
  s.job.syzygy = .image ∨ s.job.syzygy = .recoat ∧
    ∃ e, s.exposureStart? = some e ∧ e ≤ s.ix + 4 * fieldOf (s.sensor i).trig 15 0

/-- The sequence after the trigger of sensor `i`, or its skip, was done on it. -/
def State.noteTriggered (i : Nat) (r : Bool × State) : State :=
  { r.2 with job := { r.2.job with
      imageLeft := r.2.job.imageLeft.filter (· != i)
      imageOpen := if r.1 then r.2.job.imageOpen ++ [(i, (r.2.sensor i).lastFrame)] else r.2.job.imageOpen } }

theorem exec_syzygyTrigger {s : State} {i : Nat} (hleft : i ∈ s.job.imageLeft) (hepoch : s.time.preEpoch = false)
    (hdue : s.triggerDue i) :
    exec (.syzygyTrigger i) s = .next ((State.noteTriggered i (s.trigOrSkip i s.ix)).syzygyGo s.ix) := by
  have run : exec (.syzygyTrigger i) s = .next ((State.noteTriggered i (s.trigOrSkip i s.ix)).syzygyGo
      (s.trigOrSkip i s.ix).2.ix) := by
    show execSyzygyTrigger i s = _
    unfold execSyzygyTrigger
    rcases hdue with hi | ⟨hr, e, he, hle⟩
    · simp only [hi, List.contains_iff_mem.2 hleft, hepoch, Bool.not_false, Bool.and_self, if_true]
      rfl
    · simp only [hr, he, Option.any_some, decide_eq_true hle, List.contains_iff_mem.2 hleft, hepoch, Bool.not_false,
        Bool.and_self, if_true]
      rfl
  have time : (s.trigOrSkip i s.ix).2.time = s.time := s.trigOrSkip_sameBut i s.ix .time (by simp)
  rw [run, State.ix, time, State.ix]

theorem State.noteTriggered_job (i t : Nat) (s : State) :
    (State.noteTriggered i (s.trigOrSkip i t)).job.imageLeft = s.job.imageLeft.filter (· ≠ i) ∧
    (State.noteTriggered i (s.trigOrSkip i t)).job.imageOpen.map (·.1) =
      s.job.imageOpen.map (·.1) ++ (if (s.sensor i).cur.isNone then [i] else []) := by
  have hjob : (s.trigOrSkip i t).2.job = s.job := s.trigOrSkip_sameBut i t .job (by simp)
  simp only [State.noteTriggered, s.trigOrSkip_fst, hjob]
  refine ⟨List.filter_congr fun x _ => by simp [bne, BEq.beq], ?_⟩
  cases (s.sensor i).cur.isNone <;> simp

/-! ## Memory tests (R409) -/

theorem State.finishId_of_flight {s : State} {id : Nat} {f : Flight} (h : s.flight? id = some f) (status : Code)
    (r0 r1 : W64) (late : Bool) (data : List Byte) :
    s.finishId id status r0 r1 late data = s.finish f status r0 r1 late data := by
  unfold State.flight? at h
  simp only [State.finishId, h]

/-- No layer waits to be opened. -/
theorem State.tryOpen_of_none {s : State} (h : s.job.waitingOpen = none) : s.tryOpen = s := by
  simp only [State.tryOpen, h]

/-- A waiting layer opens once no memory test runs, with channels 0–1 at RATE. -/
theorem State.tryOpen_of_ready {s : State} {g : Nat} {l : Layer} (hw : s.job.waitingOpen = some (g, l))
    (ht : s.mem.tests = []) (hr : s.mem.fsp = .atRate) :
    s.tryOpen = ({ s with job := { s.job with waitingOpen := none } } : State).openLayer g l := by
  have up : s.fspUp = s := by simp [State.fspUp, hr]
  simp [State.tryOpen, hw, ht, up, hr]

/-- The oldest of the memory tests that run has ended, and its command completes. -/
def State.testEnded (f : Flight) (rest : List MemTest) (status : Code) (r1 : W64) (s : State) : State :=
  ({ s with mem := { s.mem with tests := rest } } : State).finish f status 0 r1 false []

theorem State.testEnded_job_mem (f : Flight) (rest : List MemTest) (status : Code) (r1 : W64) (s : State) :
    (s.testEnded f rest status r1).job = s.job ∧
      (s.testEnded f rest status r1).mem = { s.mem with tests := rest } := by
  have h := State.finish_sameBut f status 0 r1 false [] { s with mem := { s.mem with tests := rest } }
  exact ⟨h .job (by simp), h .mem (by simp)⟩

theorem exec_diagMemTestDone {s : State} {x : MemTest} {rest : List MemTest} {f : Flight}
    (ht : s.mem.tests = x :: rest) (hf : s.flight? x.flight = some f) :
    exec (.diagMemTestDone none) s = .next (s.testEnded f rest 0 0).tryOpen ∧
    ∀ b o, exec (.diagMemTestDone (some (b, o))) s =
      .next (s.testEnded f rest 0x0B0A (BitVec.ofNat 64 (o % 2 ^ 32 + b % 65536 * 2 ^ 32))).tryOpen := by
  have hflight : ({ s with mem := { s.mem with tests := rest } } : State).flight? x.flight = some f := hf
  constructor
  · show execDiagMemTestDone none s = _
    simp only [execDiagMemTestDone, ht, State.finishId_of_flight hflight]
    rfl
  · intro b o
    show execDiagMemTestDone (some (b, o)) s = _
    simp only [execDiagMemTestDone, ht, State.finishId_of_flight hflight]
    rfl

/-- Settles O28, from the equation of each event, `State.startLayer_layerKey` and `State.noteTriggered_job`. -/
theorem syzygyStepsFollowEachOther : Obligations.SyzygyStepsFollowEachOther := by
  unfold Obligations.SyzygyStepsFollowEachOther
  intro s
  refine ⟨exec_recoatDwellEnd, fun hdwell hend hr hi hc => ?other, fun hdwell hend hr hnone => ?recoat,
    fun i hleft hepoch hdue => ⟨_, exec_syzygyTrigger hleft hepoch hdue, s.noteTriggered_job i s.ix⟩,
    fun hstep hend => congrArg Host.Outcome.next (if_pos ⟨hstep, hend⟩),
    fun l hl hstep ht0 h80 hstaged => ⟨_, exec_commonStart hl hstep ht0 h80 hstaged, ?start⟩,
    fun x f ht hf hw => ?tests, fun x f g l ht hf hw hr => ?opens⟩
  case other =>
    exact (exec_recoatDwellEnd hdwell hend).trans (congrArg _ (State.syzygyGo_of_other_step _ hr hi hc))
  case recoat =>
    exact (exec_recoatDwellEnd hdwell hend).trans (congrArg _ (State.syzygyGo_of_recoat_over _ hr rfl hnone))
  case start =>
    obtain ⟨hplanes, hrun, hnone, hrank⟩ := State.of_layerKey (State.startLayer_layerKey l _)
    exact ⟨by rw [hplanes], hrun, hnone, hrank⟩
  case tests =>
    have ended (status : Code) (r1 : W64) :
        (s.testEnded f [] status r1).tryOpen = s.testEnded f [] status r1 :=
      State.tryOpen_of_none (by rw [(s.testEnded_job_mem f [] status r1).1, hw])
    obtain ⟨hok, hdefect⟩ := exec_diagMemTestDone ht hf
    exact ⟨hok.trans (congrArg _ (ended _ _)), fun b o => (hdefect b o).trans (congrArg _ (ended _ _))⟩
  case opens =>
    obtain ⟨hjob, hmem⟩ := s.testEnded_job_mem f [] 0 0
    refine ⟨{ s.testEnded f [] 0 0 with job := { (s.testEnded f [] 0 0).job with waitingOpen := none } }, ?_, rfl,
      by rw [hmem]⟩
    rw [(exec_diagMemTestDone ht hf).1,
      State.tryOpen_of_ready (by rw [hjob, hw]) (by rw [hmem]) (by rw [hmem]; exact hr)]

end Sys2Proof.Machine
end

section
/-!
Machine time (R26, R372–R384): the sample boundaries, what a tick and a step make of the clock, and the two commands.
-/

namespace Sys2Proof.Machine

/-! ## The clock -/

@[simp] theorem TimeState.setT_t (v : Nat) (x : TimeState) : (x.setT v).t = v :=
  Nat.mul_div_cancel v (by decide)

theorem State.nextStart_bounds (s : State) (t : Nat) : t < s.nextStart t ∧ s.nextStart t ≤ t + sampleTime ∧
    ((s.nextStart t : Int) - (s.epoch : Int)) % (sampleTime : Int) = 0 := by
  unfold State.nextStart sampleTime
  omega

/-- What a step sets: machine time, the step still to come, the count of steps, PRE_EPOCH and SAMPLE_IX. -/
def TimeState.course (x : TimeState) : Nat × Option Nat × Counter × Bool × W48 :=
  (x.t, x.setTo, x.stepCnt, x.preEpoch, x.ix)

/-- The course at machine time `v`, as it is derived with epoch `e` (R373). -/
def courseAt (e v : Nat) (setTo : Option Nat) (steps : Counter) : Nat × Option Nat × Counter × Bool × W48 :=
  (v, setTo, steps, decide (v < e), BitVec.ofNat 48 ((v - e) / sampleTime))

theorem State.deriveIx_course (s : State) :
    s.deriveIx.time.course = courseAt s.epoch s.time.t s.time.setTo s.time.stepCnt := by
  have ix : BitVec.ofNat 48 (s.ixAt s.time.t) = BitVec.ofNat 48 ((s.time.t - s.epoch) / sampleTime) :=
    BitVec.eq_of_toNat_eq (by simp only [State.ixAt, BitVec.toNat_ofNat, Nat.mod_mod])
  rw [courseAt, ← ix]
  rfl

theorem exec_epochReached (s : State) : exec .epochReached s =
    .next (if s.time.preEpoch && decide (s.epoch ≤ s.time.t) then s.deriveIx else s) := rfl

/-! ## Rates (R378) -/

/-- The servo's rates and the phase still to be slewed. -/
def State.withRates (rate phase estimate sum : Rat) (s : State) : State :=
  { s with time := { s.time with rate := rate, phaseLeft := phase, estimate := estimate, rateSum := sum } }

/-- A new rate changes the rate, the estimate and the phase left, and nothing else. -/
theorem State.setRate_eq (s : State) : ∃ r p e, s.setRate = s.withRates r p e s.time.rateSum := by
  unfold State.setRate
  dsimp only
  split
  · exact ⟨_, s.time.phaseLeft, _, rfl⟩
  · split
    · exact ⟨_, _, s.time.estimate, rfl⟩
    · exact ⟨_, _, s.time.estimate, rfl⟩

theorem slewed_of_nonneg {p : Rat} (h : 0 ≤ p) : slewed p = max 0 (p - 1 / 400) := by
  unfold slewed
  split
  · split
    · rw [max_eq_left (by linarith)]
    · rw [max_eq_right (by linarith)]
  · have : p = 0 := by linarith
    subst this
    rw [if_pos (by norm_num), max_eq_left (by norm_num)]

theorem slewed_of_nonpos {p : Rat} (h : p ≤ 0) : slewed p = min 0 (p + 1 / 400) := by
  rw [slewed, if_neg (not_lt.2 h)]
  split
  · rw [min_eq_left (by linarith)]
  · rw [min_eq_right (by linarith)]

theorem clampRate_bounds (r : Rat) : -11000000 ≤ clampRate r ∧ clampRate r ≤ 11000000 ∧
    (-11000000 ≤ r → r ≤ 11000000 → clampRate r = r) := by
  unfold clampRate
  split
  · exact ⟨le_refl _, by norm_num, fun h _ => by linarith⟩
  · split
    · exact ⟨by norm_num, le_refl _, fun _ h => by linarith⟩
    · exact ⟨by linarith, by linarith, fun _ _ => rfl⟩

/-! ## Steps (R379) -/

/-- A step leaves what the derivation of SAMPLE_IX gives, whatever else is rebased with it. -/
theorem State.moveIx_time (o : Nat) (step : Bool) (s : State) : (s.moveIx o step).time = s.deriveIx.time := by
  unfold State.moveIx
  dsimp only
  split <;> rfl

theorem State.setRate_course (s : State) : s.setRate.time.course = s.time.course := by
  obtain ⟨r, p, e, h⟩ := s.setRate_eq
  rw [h]
  rfl

/-- The clock that a step to `v` sets, before SAMPLE_IX is derived. -/
def TimeState.stepped (v : Nat) (x : TimeState) : TimeState :=
  { x.setT v with setTo := none, phaseLeft := 0, landed := true, stepCnt := x.stepCnt.inc }

theorem TimeState.stepped_t (v : Nat) (x : TimeState) : (x.stepped v).t = v :=
  Nat.mul_div_cancel v (by decide)

theorem State.stepTime_eq (v : Nat) (s : State) : ∃ (d : Display) (delta : Int) (o : Nat) (payload : List Byte),
    s.stepTime v = State.record 0x00A0 .data payload
      (({ s with disp := d, time := (s.time.shift delta).stepped v } : State).moveIx o true).setRate :=
  ⟨_, _, _, _, rfl⟩

/-- The course after a step to `v`: nothing after `State.moveIx` changes it. -/
theorem State.stepTime_course (v : Nat) (s : State) :
    (s.stepTime v).time.course = courseAt s.epoch v none s.time.stepCnt.inc := by
  have recorded (payload : List Byte) (t : State) : (t.record 0x00A0 .data payload).time = t.time :=
    t.record_sameBut _ _ _ .time (by simp)
  obtain ⟨d, delta, o, payload, h⟩ := s.stepTime_eq v
  rw [h, recorded, State.setRate_course, State.moveIx_time, State.deriveIx_course]
  dsimp only
  rw [TimeState.stepped_t]
  rfl

/-! ## Samples (R26, R372) -/

/-- The first part of a sample: the phase slewed, the rate summed up, and a new rate once the phase is out (R378). -/
def State.slewTick (s : State) : State :=
  let next := s.nextStart s.time.t
  let t := s.withRates s.time.rate (slewed s.time.phaseLeft) s.time.estimate
    (s.time.rateSum + s.time.rate * ((next - s.time.t : Nat) : Rat) / (sampleTime : Rat))
  if s.time.phaseLeft ≠ 0 ∧ t.time.phaseLeft = 0 then t.setRate else t

theorem State.slewTick_eq (s : State) : ∃ r p e q, s.slewTick = s.withRates r p e q := by
  unfold State.slewTick
  dsimp only
  split
  · obtain ⟨r, p, e, h⟩ := State.setRate_eq _
    exact ⟨r, p, e, _, h⟩
  · exact ⟨_, _, _, _, rfl⟩

theorem State.timeTick_of_step {s : State} {v : Nat} (h : s.time.setTo = some v) :
    s.timeTick = s.slewTick.stepTime v := by
  unfold State.timeTick
  dsimp only
  split
  next w hw =>
    obtain rfl : w = v := Option.some.inj (hw.symm.trans h)
    rfl
  next hnone => exact absurd (hnone.symm.trans h) nofun

theorem State.timeTick_of_no_step {s : State} (h : s.time.setTo = none) : s.timeTick = { s.slewTick with
    time := { s.slewTick.time.setT (s.nextStart s.time.t) with
      ix := if s.slewTick.time.preEpoch then s.slewTick.time.ix else s.slewTick.time.ix + 1, landed := false } } := by
  unfold State.timeTick
  dsimp only
  split
  next v hv => exact absurd (hv.symm.trans h) nofun
  next => rfl

/-- A sample in which a step falls due takes it. -/
theorem State.timeTick_course {s : State} {v : Nat} (h : s.time.setTo = some v) :
    s.timeTick.time.course = courseAt s.epoch v none s.time.stepCnt.inc := by
  obtain ⟨r, p, e, q, hs⟩ := s.slewTick_eq
  rw [State.timeTick_of_step h, State.stepTime_course, hs]
  rfl

/-- Another sample goes on to the next boundary, and SAMPLE_IX with it once the epoch has passed. -/
theorem State.timeTick_next {s : State} (h : s.time.setTo = none) :
    s.timeTick.time.t = s.nextStart s.time.t ∧
      s.timeTick.time.ix = if s.time.preEpoch = true then s.time.ix else s.time.ix + 1 := by
  obtain ⟨r, p, e, q, hs⟩ := s.slewTick_eq
  rw [State.timeTick_of_no_step h, hs]
  exact ⟨TimeState.setT_t _ s.time, rfl⟩

/-! ## Commands (R384) -/

theorem exec_timeStatus {e : Entry} {s t : State} {f : Flight} (h : Dispatched 0x0A00 e s f t)
    (hz : (e.zeroFrom 0x18 40).1 = false) :
    exec (.timeStatus e) s = .next (t.ok f (t.time.t / 65536 / 1000000000 % 2 ^ 48)
      (t.time.t / 65536 % 1000000000 + t.ptpStatusWord.toNat * 2 ^ 32) []) :=
  (command_of_dispatched h _).trans
    (congrArg Host.Outcome.next (checked_of_none (by rw [firstBad_cons_of_pass hz]; rfl) _ t))

/-- What TIME_SET to `new` leaves for the next sample (R384). -/
def State.timeToSet (new : Nat) (s : State) : State :=
  ({ s with time := { s.time with setTo := some new, state := .freeRun } } : State).setRate

theorem State.timeToSet_time (new : Nat) (s : State) : SameBut [.time] s (s.timeToSet new) ∧
    (s.timeToSet new).time.setTo = some new ∧ (s.timeToSet new).time.state = .freeRun ∧
    (s.timeToSet new).time.t = s.time.t ∧ (s.timeToSet new).time.ix = s.time.ix := by
  obtain ⟨r, p, e, h⟩ := State.setRate_eq { s with time := { s.time with setTo := some new, state := .freeRun } }
  rw [State.timeToSet, h]
  exact ⟨sameBut_time s _, rfl, rfl, rfl, rfl⟩

theorem exec_timeSet {e : Entry} {s t : State} {f : Flight} (h : Dispatched 0x0A40 e s f t)
    (hz : (e.zeroFrom 0x24 28).1 = false) (hsec : e.u 0x18 8 < 2 ^ 48) (hns : e.u 0x20 4 < 1000000000)
    (hstate : t.time.state = .unset ∨ t.time.state = .freeRun) (hdata : t.planes.data = .idle) :
    let new := (e.u 0x18 8 * 1000000000 + e.u 0x20 4) * 65536
    exec (.timeSet e) s = .next ((t.timeToSet new).ok f
      (if new < (t.timeToSet new).epoch then 0 else (t.timeToSet new).ixAt new) 0 []) := by
  have free : decide (2 ≤ t.time.state.num) = false := by rcases hstate with h | h <;> rw [h] <;> rfl
  refine (command_of_dispatched h _).trans (congrArg Host.Outcome.next (checked_of_none ?_ _ t))
  rw [firstBad_cons_of_pass hz, firstBad_cons_of_pass (by simpa using hsec), firstBad_cons_of_pass (by simpa using hns),
    firstBad_cons_of_pass free, firstBad_cons_of_pass (by simp [hdata])]
  rfl

/-- Settles O47, from `State.timeTick_course`, `State.timeTick_next`, `State.deriveIx_course` and the two commands. -/
theorem machineTimeIsReadSetAndDerived : Obligations.MachineTimeIsReadSetAndDerived := by
  unfold Obligations.MachineTimeIsReadSetAndDerived
  refine ⟨fun e s t f => ⟨exec_timeStatus, fun new hnew hdisp hz hsec hns hstate hdata => ?set⟩, fun s =>
    ⟨fun v hv => ?step, s.nextStart_bounds, fun hno => ?early, fun hv => State.timeTick_next hv,
      fun hpre hepoch => ?reached⟩, fun p => ⟨slewed_of_nonneg, slewed_of_nonpos⟩, clampRate_bounds⟩
  case set =>
    subst hnew
    exact ⟨_, exec_timeSet hdisp hz hsec hns hstate hdata, State.timeToSet_time _ t⟩
  case step =>
    have h := State.timeTick_course hv
    simp only [TimeState.course, courseAt, Prod.mk.injEq] at h
    obtain ⟨ht, hset, hcnt, hpre, hix⟩ := h
    exact ⟨ht, hset, hcnt, hpre, hix⟩
  case early =>
    rw [exec_epochReached, if_neg]
    rcases hno with h | h
    · simp [h]
    · simp [h]
  case reached =>
    have h := s.deriveIx_course
    simp only [TimeState.course, courseAt, Prod.mk.injEq] at h
    obtain ⟨ht, _, _, hpre', hix⟩ := h
    refine ⟨s.deriveIx, ?_, sameBut_time s _, ?_, hix, ht⟩
    · rw [exec_epochReached, if_pos (by simp [hpre, hepoch])]
    · rw [hpre', decide_eq_false (by omega)]

end Sys2Proof.Machine
end

section
/-!
One sample (R26, R373, R383) and the errors of the on-chip SRAM (R388–R390).
-/

namespace Sys2Proof.Machine

/-! ## SAMPLE_TICK -/

/-- The part of a sample that does not wait for the epoch: the clocks of the units that run before it too. -/
def State.clocksTick (s : State) : State := s.idleTick.timeTick.ringTick.bypTick.memTick

theorem exec_sampleTick (errs : List SramErr) {s : State} (hcore : s.power.core = true) :
    exec (.sampleTick errs) s = .next (if s.clocksTick.time.preEpoch then s.clocksTick
      else (((((s.clocksTick.axesEmit s.clocksTick.ix).camTick s.clocksTick.ix).dataSample
        ((s.clocksTick.axesEmit s.clocksTick.ix).camTick s.clocksTick.ix).ix errs).settleDescs).linksSend
          ((s.clocksTick.axesEmit s.clocksTick.ix).camTick s.clocksTick.ix).ix).endIfParked) := by
  have on : ¬ s.idleTick.power.core = false := by
    show ¬ s.power.core = false
    simp [hcore]
  exact congrArg Host.Outcome.next (if_neg on)

/-- While the core die is unpowered only the AON time advances, and that in Umbra alone. -/
theorem exec_sampleTick_dark (errs : List SramErr) {s : State} (hcore : s.power.core = false) :
    exec (.sampleTick errs) s = .next (if s.power.umbra = .awake then s.idleTick else s.idleTick.aonTick) :=
  congrArg Host.Outcome.next (if_pos hcore)

theorem TimeState.setT_withAon_t (v aon : Nat) (x : TimeState) : ({ x.setT v with aon := aon } : TimeState).t = v :=
  Nat.mul_div_cancel v (by decide)

/-- The idle counts, the boot and the health window are counted by the sample. -/
theorem State.idleTick_sameBut (s : State) : SameBut [.time, .power, .boot] s s.idleTick := by
  intro p hp
  cases p
  case time | power | boot => exact absurd (by decide) hp
  all_goals rfl

theorem State.aonTick_sameBut (s : State) : SameBut [.time, .power, .boot] s s.aonTick :=
  (sameBut_time s s.aonTick.time).mono (by simp)

theorem State.aonTick_t (s : State) : s.aonTick.time.t = s.time.t + sampleTime := by
  have course (aon : Nat) := State.deriveIx_course
    { s with time := { s.time.setT (s.time.t + sampleTime) with aon := aon } }
  exact (congrArg Prod.fst (course _)).trans (TimeState.setT_withAon_t _ _ s.time)

/-! ## Errors of the SRAM -/

/-- A record counts the bytes of its check value in the memory unit, and nothing else there. -/
theorem State.record_mem (type : Nat) (plane : Plane) (payload : List Byte) (s : State) :
    ∃ n, (s.record type plane payload).mem = { s.mem with crcBytes := n } := by
  unfold State.record State.recordIn State.recordAt
  dsimp only
  repeat' split
  all_goals exact ⟨_, rfl⟩

theorem State.noteSramUe_sameBut (r : SramErr) (s : State) : SameBut [.mem, .tail] s (s.noteSramUe r) :=
  ((sameBut_mem s _).mono (by simp)).trans ((State.record_sameBut _ _ _ _).mono (by simp))

/-- A double-bit error counts as uncorrectable, with its REGION and offset. -/
theorem State.noteSramUe_mem (r : SramErr) (s : State) :
    (s.noteSramUe r).mem.sramUeCnt = s.mem.sramUeCnt.inc ∧
      (s.noteSramUe r).mem.sramUe = packWord [(r.region, 28), (1, 27), (r.offset % 2 ^ 26, 0)] := by
  obtain ⟨n, h⟩ := State.record_mem 0x00B0 .data [] { s with mem := { s.mem with
    sramUeCnt := s.mem.sramUeCnt.inc, sramUe := packWord [(r.region, 28), (1, 27), (r.offset % 2 ^ 26, 0)] } }
  rw [State.noteSramUe, h]
  exact ⟨rfl, rfl⟩

theorem State.sramErr_single {r : SramErr} (h : r.double = false) (s : State) :
    s.sramErr r = { s with mem := { s.mem with sramCe := s.mem.sramCe.inc } } := by
  simp [State.sramErr, h]

theorem State.sramErr_double {r : SramErr} (h : r.double = true) (s : State) :
    s.sramErr r = (s.noteSramUe r).sramEffect r := by
  simp [State.sramErr, h]

/-- Regions without an effect of their own: ROM, and those beyond the table. -/
theorem State.sramEffect_none {r : SramErr} (h : r.region = 0 ∨ 10 < r.region) (s : State) : s.sramEffect r = s := by
  unfold State.sramEffect
  split
  case h_11 => rfl
  all_goals omega

theorem State.sramEffect_tile {r : SramErr} (h : r.region = 2) (s : State) :
    s.sramEffect r = s.modEngine r.object fun e => { e with tiles := e.tiles.erase (r.i, r.j) } := by
  simp only [State.sramEffect, h]

theorem State.sramEffect_zones {r : SramErr} (h : r.region = 4) (s : State) :
    s.sramEffect r = if r.both then s.trigger allCh 8 0x070B else s := by
  simp only [State.sramEffect, h]

theorem State.sramEffect_control {r : SramErr} (h : r.region = 8) (s : State) :
    s.sramEffect r = s.ctlFault 3 true := by
  simp only [State.sramEffect, h]

theorem exec_sramScrubPass (errs : List SramErr) {s : State} (hcore : s.power.core = true)
    (hage : s.mem.sramPeriod ≤ s.mem.sramAge + 1) :
    exec (.sramScrubPass errs) s = .next ((errs.foldl (fun s r => s.sramErr r) s).sramPassOver.settleDescs) :=
  congrArg Host.Outcome.next (if_neg (by simp [hcore, hage]))

/-- Settles O30, from the equations of SAMPLE_TICK, SRAM_SCRUB_PASS and of an error in each region. -/
theorem aSampleDoesItsWorkInOrder : Obligations.ASampleDoesItsWorkInOrder := by
  unfold Obligations.ASampleDoesItsWorkInOrder
  refine ⟨fun s u errs hcore hu => ⟨fun hpre => ?early, fun hpre => ⟨_, rfl, ?running⟩⟩, fun s errs hcore =>
    ⟨fun humbra => ⟨_, ?umbra, s.idleTick.aonTick_t, s.idleTick_sameBut.trans (State.aonTick_sameBut _)⟩,
      fun hawake => ?awake⟩, fun s errs => exec_sramScrubPass errs, fun s => ⟨sameBut_mem s _, rfl⟩,
    fun s r h => s.sramErr_single h, fun s r h _ => ?double⟩
  case early =>
    subst hu
    exact (exec_sampleTick errs hcore).trans (congrArg _ (if_pos hpre))
  case running =>
    subst hu
    exact (exec_sampleTick errs hcore).trans (congrArg _ (if_neg (Bool.eq_false_iff.1 hpre)))
  case umbra => rw [exec_sampleTick_dark errs hcore, if_neg humbra]
  case awake => rw [exec_sampleTick_dark errs hcore, if_pos hawake]
  case double =>
    obtain ⟨hcnt, hue⟩ := s.noteSramUe_mem r
    exact ⟨s.noteSramUe r, s.sramErr_double h, hcnt, s.noteSramUe_sameBut r, hue, fun h => State.sramEffect_none h _,
      fun h => State.sramEffect_tile h _, fun h => State.sramEffect_zones h _, fun h => State.sramEffect_control h _⟩

end Sys2Proof.Machine
end

section
/-!
Roles (R101, R105): what leaves the roles of the slots alone, and what a release takes from them.
-/

namespace Sys2Proof.Machine

/-! ## What leaves the roles alone -/

/-- Every slot holds in `t` what it held in `s`. -/
def SameRoles (s t : State) : Prop := ∀ j, (t.slot j).held = (s.slot j).held

theorem SameRoles.refl (s : State) : SameRoles s s := fun _ => rfl

theorem SameRoles.trans {s t u : State} (h : SameRoles s t) (k : SameRoles t u) : SameRoles s u :=
  fun j => (k j).trans (h j)

theorem SameRoles.ite {s t u : State} {c : Prop} [Decidable c] (h : SameRoles s t) (k : SameRoles s u) :
    SameRoles s (if c then t else u) := by
  split <;> assumption

theorem SameRoles.foldl {α : Type} {f : State → α → State} (h : ∀ s a, SameRoles s (f s a)) (l : List α) (s : State) :
    SameRoles s (l.foldl f s) := by
  induction l generalizing s with
  | nil => exact SameRoles.refl s
  | cons a r ih => exact (h s a).trans (ih (f s a))

/-- Roles are held by the slots alone. -/
theorem SameRoles.of_slots {s t : State} (h : t.host.slots = s.host.slots) : SameRoles s t := fun j => by
  rw [State.slot, State.slot, h]

theorem SameBut.sameRoles {w : List Part} {s t : State} (h : SameBut w s t) (hw : .host ∉ w) : SameRoles s t := by
  have hh : t.host = s.host := h .host hw
  exact .of_slots (by rw [hh])

theorem State.slot_modSlot_other {i j : Nat} (h : j ≠ i) (f : Slot → Slot) (s : State) :
    (s.modSlot i f).slot j = s.slot j := by
  simp [State.slot, State.modSlot, Ne.symm h]

/-- A change of a slot that leaves what it holds. -/
theorem State.modSlot_sameRoles {f : Slot → Slot} (i : Nat) (hf : ∀ x, (f x).held = x.held) (s : State) :
    SameRoles s (s.modSlot i f) := by
  intro j
  simp only [State.slot, State.modSlot, List.getElem?_modify]
  cases s.host.slots[j]? with
  | none => rfl
  | some x => by_cases h : i = j <;> simp [h, hf]

theorem State.raiseVector_sameRoles (port vector : Nat) (s : State) : SameRoles s (s.raiseVector port vector) := by
  unfold State.raiseVector
  split <;> exact SameRoles.refl s

theorem State.postCq_sameRoles (qn port : Nat) (c : Cpl) (irq : Bool) (s : State) :
    SameRoles s (s.postCq qn port c irq) :=
  SameRoles.trans (.of_slots rfl) (SameRoles.ite (State.raiseVector_sameRoles _ _ _) (SameRoles.refl _))

theorem State.eventTo_sameRoles (i type : Nat) (status : Code) (r1 : W64) (s : State) :
    SameRoles s (s.eventTo i type status r1) := by
  have drop (s : State) : SameRoles s (s.modSlot i fun sl => { sl with dropped := satAdd sl.dropped 1 }) :=
    s.modSlot_sameRoles i fun _ => by rfl
  have sent (s : State) : SameRoles s (s.modSlot i fun sl => { sl with dropped := 0 }) :=
    s.modSlot_sameRoles i fun _ => by rfl
  unfold State.eventTo
  refine SameRoles.ite (SameRoles.refl s) (SameRoles.ite (SameRoles.ite ?_ (drop s)) ?_)
  · exact (s.postCq_sameRoles _ _ _ _).trans (sent _)
  · split
    · exact (SameRoles.of_slots (by rfl)).trans (sent _)
    · exact drop s

theorem State.event_sameRoles (type : Nat) (status : Code) (r1 : W64) (s : State) :
    SameRoles s (s.event type status r1) :=
  SameRoles.foldl (fun s i => SameRoles.ite (.of_slots (by rfl)) (s.eventTo_sameRoles i type status r1)) _ s

/-- The answer to a frame keeps a reply in its slot's session, and nothing else of the slot. -/
theorem State.answerWrite_sameRoles (a : RegAccess) (c : Code) (s : State) : SameRoles s (s.answerWrite a c) := by
  have kept (h : FrameHdr) (b : ReplyBody) : SameRoles s
      (s.modSlot h.slot fun sl => { sl with session := sl.session.map (Session.keep h.seq b) }) :=
    s.modSlot_sameRoles h.slot fun _ => by rfl
  unfold State.answerWrite
  split
  case h_3 h _ => exact (kept h _).trans (.of_slots rfl)
  all_goals exact SameRoles.refl s

theorem State.answerWrite_sameBut (a : RegAccess) (c : Code) (s : State) :
    SameBut [.host, .outbox] s (s.answerWrite a c) := by
  unfold State.answerWrite
  split
  case h_3 => exact (s.modSlot_sameBut _ _).trans (State.send_sameBut _ _)
  all_goals exact SameBut.refl _ s

/-! ## A lost PILOT (R84) -/

theorem State.cancelCommit_of_none {s : State} (h : s.eph.pendingSlot = none) (status : Code) :
    s.cancelCommit status = s := by
  simp only [State.cancelCommit, h]

/-- A pending commit is withdrawn, and what its slot is told changes the host part alone. -/
theorem State.cancelCommit_eph {s : State} {i : Nat} (h : s.eph.pendingSlot = some i) (status : Code) :
    (s.cancelCommit status).eph = { s.eph with pendingSlot := none, commit := .cancelled } := by
  simp only [State.cancelCommit, h]
  exact State.event_sameBut 4 status _ _ .eph (by simp)

theorem State.cancelCommit_sameRoles (status : Code) (s : State) : SameRoles s (s.cancelCommit status) := by
  unfold State.cancelCommit
  split
  · exact SameRoles.refl s
  · exact (SameRoles.of_slots (by rfl)).trans (State.event_sameRoles _ _ _ _)

theorem State.pilotLost_sameRoles (i : Nat) (s : State) : SameRoles s (s.pilotLost i) :=
  SameRoles.ite (((s.record_sameBut 0x0011 .management []).sameRoles (by simp)).trans (State.cancelCommit_sameRoles _ _))
    (SameRoles.refl s)

theorem State.pilotLost_eph_pending {s : State} {i : Nat} (h : s.eph.pendingSlot = some i) :
    (s.pilotLost i).eph = { s.eph with pendingSlot := none, commit := .cancelled } := by
  have hrec : (s.record 0x0011 .management []).eph = s.eph := s.record_sameBut _ _ _ .eph (by simp)
  rw [State.pilotLost, if_pos (by simp [h]), State.cancelCommit_eph (hrec ▸ h), hrec]

theorem State.pilotLost_of_other {s : State} {i : Nat} (h : s.eph.pendingSlot ≠ some i) : s.pilotLost i = s :=
  if_neg (by simpa using h)

/-! ## Roles given up (R105) -/

/-- A slot that gives up roles keeps the others. -/
theorem State.dropRoles_held {s : State} {i : Nat} (m : BitVec 4) (hi : i < s.host.slots.length) :
    ((s.dropRoles i m).slot i).held = (s.slot i).held &&& ~~~m := by
  have drop := congrArg Slot.held (State.slot_modSlot_same hi fun sl => { sl with held := sl.held &&& ~~~m })
  exact (SameRoles.ite (State.pilotLost_sameRoles i _) (SameRoles.refl _) i).trans drop

theorem State.dropRoles_held_other {i j : Nat} (m : BitVec 4) (h : j ≠ i) (s : State) :
    ((s.dropRoles i m).slot j).held = (s.slot j).held :=
  (SameRoles.ite (State.pilotLost_sameRoles i _) (SameRoles.refl _) j).trans
    (congrArg Slot.held (State.slot_modSlot_other h _ s))

/-- A slot that gives up PILOT while its commit is pending withdraws it. -/
theorem State.dropRoles_eph_pending {s : State} {i : Nat} {m : BitVec 4}
    (hp : (s.slot i).held &&& m &&& rolePilot ≠ 0) (h : s.eph.pendingSlot = some i) :
    (s.dropRoles i m).eph = { s.eph with pendingSlot := none, commit := .cancelled } := by
  rw [State.dropRoles, if_pos (bne_iff_ne.2 hp)]
  exact State.pilotLost_eph_pending (s := s.modSlot i _) h

/-- In every other case the ephemeris part is as before. -/
theorem State.dropRoles_eph_same {s : State} {i : Nat} {m : BitVec 4}
    (h : (s.slot i).held &&& m &&& rolePilot = 0 ∨ s.eph.pendingSlot ≠ some i) : (s.dropRoles i m).eph = s.eph := by
  rw [State.dropRoles]
  rcases h with hp | hs
  · rw [if_neg (by simp [hp])]
    rfl
  · rw [State.pilotLost_of_other (s := s.modSlot i _) hs]
    split <;> rfl

/-- Settles O15, from what `State.dropRoles` does to roles and to the ephemeris part. -/
theorem releasedRolesAreGone : Obligations.ReleasedRolesAreGone := by
  intro a s u i hacc hi hlen
  have roles := State.answerWrite_sameRoles a 0 (u.dropRoles i (a.value.setWidth 4))
  have heph : ((u.dropRoles i (a.value.setWidth 4)).answerWrite a 0).eph = (u.dropRoles i (a.value.setWidth 4)).eph :=
    State.answerWrite_sameBut a 0 _ .eph (by simp)
  refine ⟨_, acceptedWritesTakeEffect.1 _ _ _ _ _ _ rfl hacc, ?_, fun j hj => ?_, fun hp hs => ?_, fun h => ?_⟩
  · exact (roles i).trans (State.dropRoles_held _ (hlen ▸ hi))
  · exact (roles j).trans (State.dropRoles_held_other _ hj u)
  · rw [State.regStore, heph, State.dropRoles_eph_pending hp hs]
    exact ⟨rfl, rfl⟩
  · exact heph.trans (State.dropRoles_eph_same h)

end Sys2Proof.Machine
end

section
/-!
The Orrery (R90–R94): EPH_ROUTE_SET and the switch that it leaves waiting.
-/

namespace Sys2Proof.Machine

/-! ## Free values -/

theorem State.draw_sameBut (n : Nat) (s : State) : SameBut [.freeCtr] s (s.draw n).2 := by
  intro p hp; cases p <;> simp_all [Part.Same]

/-- A free value lies between its bounds. -/
theorem State.drawIn_bounds {lo hi : Nat} (h : lo ≤ hi) (s : State) : lo ≤ (s.drawIn lo hi).1 ∧ (s.drawIn lo hi).1 ≤ hi := by
  have hlt : (s.draw (hi + 1 - lo)).1 < hi + 1 - lo := by
    rw [State.draw, if_neg (by omega)]
    exact Nat.mod_lt _ (by omega)
  simp only [State.drawIn]
  omega

/-! ## EPH_ROUTE_SET (R91, R92) -/

/-- A switch sample is not before the sample that was drawn for it. -/
theorem le_lastSwitch (l : List RouteSwitch) (r lo : Nat) : lo ≤ lastSwitch l r lo := by
  rw [lastSwitch, List.foldl_max]
  exact le_max_left _ _

/-- The switch sample of a route switch that is dispatched now: one to four samples on (R92). -/
def State.switchSample (s : State) (r : Nat) : Nat :=
  min (s.ix + 4) (lastSwitch s.eph.switches r (s.ix + (s.drawIn 1 4).1))

theorem State.switchSample_bounds (s : State) (r : Nat) : s.ix < s.switchSample r ∧ s.switchSample r ≤ s.ix + 4 := by
  have hdraw := (s.drawIn_bounds (lo := 1) (hi := 4) (by decide)).1
  have hlast := le_lastSwitch s.eph.switches r (s.ix + (s.drawIn 1 4).1)
  unfold State.switchSample
  omega

/-- The switch that a dispatched EPH_ROUTE_SET leaves waiting. -/
def State.routeSwitchOf (s : State) (e : Entry) : RouteSwitch :=
  { route := e.u 0x18 2, at_ := s.switchSample (e.u 0x18 2), scale := e.s 0x1C 4, offset := e.s 0x20 4
    holdLast := (e.u 0x1A 1).testBit 0 }

/-- One switch more waits, and its switch sample has been drawn. -/
def State.withSwitch (s : State) (w : RouteSwitch) : State :=
  { (s.drawIn 1 4).2 with eph := { s.eph with switches := s.eph.switches ++ [w] } }

theorem State.withSwitch_sameBut (s : State) (w : RouteSwitch) : SameBut [.eph, .freeCtr] s (s.withSwitch w) :=
  ((s.draw_sameBut (4 + 1 - 1)).mono (by simp)).trans ((sameBut_eph (s.drawIn 1 4).2 _).mono (by simp))

theorem exec_ephRouteSet {e : Entry} {s t : State} {f : Flight} (h : Dispatched 0x0146 e s f t)
    (hfl : e.u 0x1A 1 ≤ 1) (hz : (e.zeroFrom 0x1B 1).1 = false) (hz' : (e.zeroFrom 0x24 28).1 = false)
    (hr : e.u 0x18 2 < t.routes.length) (hr' : e.u 0x18 2 ≤ 511) :
    exec (.ephRouteSet e) s =
      .next ((t.withSwitch (t.routeSwitchOf e)).ok f (t.switchSample (e.u 0x18 2)) 0 []) := by
  refine (command_of_dispatched h _).trans (congrArg Host.Outcome.next (checked_of_none ?_ _ t))
  rw [firstBad_eq_none]
  simp [hfl, hz, hz', hr, hr']

/-! ## ROUTE_SWITCH -/

/-- The state after switch `w` has taken effect: it waits no longer. -/
def State.switched (w : RouteSwitch) (s : State) : State :=
  State.applySwitch w { s with eph := { s.eph with switches := s.eph.switches.erase w } }

theorem State.switched_sameBut (w : RouteSwitch) (s : State) : SameBut [.eph] s (s.switched w) :=
  (sameBut_eph s _).trans (sameBut_eph _ _)

/-- The route that a switch names gets its values, and no other route changes. -/
theorem State.routes_switched (w : RouteSwitch) (s : State) : (s.switched w).routes =
    s.routes.modify w.route fun r => { r with scale := w.scale, offset := w.offset, holdLast := w.holdLast } := by
  unfold State.routes State.switched State.applySwitch
  cases s.eph.eph with
  | none => simp
  | some e => rfl

theorem exec_routeSwitch {s : State} {n : Nat} {w : RouteSwitch}
    (h : (s.eph.switches.find? fun w => w.route == n && decide (w.at_ ≤ s.ix + 1)) = some w) :
    exec (.routeSwitch n) s = .next (s.switched w) := by
  show execRouteSwitch n s = _
  simp only [execRouteSwitch, h]
  rfl

/-- Before the tick that begins its sample, no switch of the route acts. -/
theorem exec_routeSwitch_early {s : State} {n : Nat} (h : ∀ w ∈ s.eph.switches, w.route = n → s.ix + 1 < w.at_) :
    exec (.routeSwitch n) s = .next s := by
  have none : (s.eph.switches.find? fun w => w.route == n && decide (w.at_ ≤ s.ix + 1)) = none := by
    simpa using h
  show execRouteSwitch n s = _
  simp only [execRouteSwitch, none]

/-- Settles O23, from `exec_ephRouteSet` and `State.routes_switched`. -/
theorem routesChangeAtTheirSwitchSample : Obligations.RoutesChangeAtTheirSwitchSample := by
  refine ⟨fun e s t f h hfl hz hz' hr hr' => ?set, fun s n w h => ?switch, fun s n => exec_routeSwitch_early,
    fun r x => rfl⟩
  case set =>
    obtain ⟨hlo, hhi⟩ := t.switchSample_bounds (e.u 0x18 2)
    exact ⟨_, _, hlo, hhi, exec_ephRouteSet h hfl hz hz' hr hr', rfl, t.withSwitch_sameBut _⟩
  case switch =>
    have hroute : w.route = n := by
      have := List.find?_some h
      simp only [Bool.and_eq_true, beq_iff_eq] at this
      exact this.1
    refine ⟨_, exec_routeSwitch h, rfl, s.switched_sameBut w, fun r hr => ?_, fun m hm => ?_⟩
    · simp [State.routes_switched, hroute, hr]
    · simp [State.routes_switched, hroute, hm.symm]

end Sys2Proof.Machine
end

section
/-!
Ephemeris storage in flash (R72–R76): EPH_INFO, EPH_STORE, EPH_SET_BOOT and the flash write that ends.
-/

namespace Sys2Proof.Machine

/-! ## Bytes and bulk writes -/

theorem leNat_lt (l : List Byte) : leNat l < 2 ^ (8 * l.length) := by
  induction l with
  | nil => decide
  | cons b r ih =>
    have hb := b.isLt
    rw [leNat, List.length_cons, show 2 ^ (8 * (r.length + 1)) = 256 * 2 ^ (8 * r.length) by ring]
    omega

theorem length_slice (l : List Byte) (o k : Nat) : (slice l o k).length = k := by
  simp [slice]

theorem uAt_lt (l : List Byte) (o k : Nat) : uAt l o k < 2 ^ (8 * k) := by
  have h := leNat_lt (slice l o k)
  rwa [length_slice] at h

/-- A slice holds the bytes of its list. -/
theorem getD_slice (l : List Byte) {n k : Nat} (h : k < n) : (slice l 0 n).getD k 0 = l.getD k 0 := by
  simp only [slice, List.drop_zero, List.getD_eq_getElem?_getD, List.getElem?_append, List.length_take,
    List.getElem?_take, List.getElem?_replicate]
  by_cases hk : k < l.length
  · simp [h, hk]
  · have : ¬ k < min n l.length := by omega
    rw [if_neg this, List.getElem?_eq_none (by omega)]
    split <;> rfl

theorem newCells_cons {α : Type} [DecidableEq α] (d : α) (i : Nat) (v : α) (vs : List α) :
    newCells d i (v :: vs) = (if v = d then [] else [(i, v)]) ++ newCells d (i + 1) vs := by
  by_cases hv : v = d <;> simp [newCells, List.zipIdx_cons, hv]

theorem sget_newCells {α : Type} [DecidableEq α] {d : α} (i : Nat) (vs : List α) {k : Nat} (h : k < vs.length) :
    sget d (newCells d i vs) (i + k) = vs.getD k d := by
  induction vs generalizing i k with
  | nil => cases h
  | cons v r ih =>
    rw [newCells_cons]
    cases k with
    | zero =>
      by_cases hv : v = d
      · simpa [hv] using sget_of_lt (newCells_wf (i + 1) r).1 (Nat.lt_succ_self i)
      · simp [hv, sget]
    | succ k =>
      have hne : ∀ c ∈ if v = d then [] else [(i, v)], c.1 ≠ i + (k + 1) := by
        intro c hc
        split at hc
        · cases hc
        · cases List.mem_singleton.1 hc
          show i ≠ i + (k + 1)
          omega
      rw [sget_append _ hne, show i + (k + 1) = i + 1 + k by omega, ih (i + 1) (by simpa using h)]
      simp

/-- A bulk write holds its values inside its range. -/
theorem sget_sbulk_same {α : Type} [DecidableEq α] {d : α} {m : List (Nat × α)} (i : Nat) (vs : List α) {k : Nat}
    (h : k < vs.length) : sget d (sbulk d m i vs) (i + k) = vs.getD k d := by
  have low : ∀ c ∈ m.filter fun c => decide (c.1 < i), c.1 ≠ i + k := fun c hc => by
    have := (List.mem_filter.1 hc).2
    simp only [decide_eq_true_eq] at this
    omega
  have high : ∀ c ∈ m.filter fun c => decide (i + vs.length ≤ c.1), c.1 ≠ i + k := fun c hc => by
    have := (List.mem_filter.1 hc).2
    simp only [decide_eq_true_eq] at this
    omega
  show sget d ((m.filter fun c => decide (c.1 < i)) ++ newCells d i vs ++
    m.filter fun c => decide (i + vs.length ≤ c.1)) (i + k) = _
  rw [sget_append_right _ high, sget_append _ low, sget_newCells i vs h]

/-! ## Commands under way -/

theorem State.launch_sameBut (f : Flight) (s : State) : SameBut [.host] s (s.launch f) :=
  SameBut.ite (SameBut.refl _ s) (sameBut_host s _)

theorem sameBut_flash (s : State) (x : List (Nat × Byte)) : SameBut [.flash] s { s with flash := x } := by
  intro p hp; cases p <;> simp_all [Part.Same]

theorem sameBut_boot (s : State) (x : Boot) : SameBut [.boot] s { s with boot := x } := by
  intro p hp; cases p <;> simp_all [Part.Same]

theorem State.flashJob_sameBut (f : Flight) (r0 : Nat) (s : State) : SameBut [.boot, .host] s (s.flashJob f r0) :=
  ((s.launch_sameBut f).mono (by simp)).trans ((sameBut_boot (s.launch f) _).mono (by simp))

theorem State.flashJob_flashJobs (f : Flight) (r0 : Nat) (s : State) :
    (s.flashJob f r0).boot.flashJobs = s.boot.flashJobs ++ [{ flight := f.id, r0 := r0 }] := by
  have h : (s.launch f).boot = s.boot := s.launch_sameBut f .boot (by simp)
  rw [State.flashJob, h]

/-! ## EPH_INFO -/

theorem ephInfoOf_sequence {b : List Byte} (h : headerHolds b = true) : (ephInfoOf b).1 % 2 ^ 32 = uAt b 0x0C 4 := by
  have hlt : uAt b 0x0C 4 < 2 ^ 32 := uAt_lt b 0x0C 4
  rw [ephInfoOf, if_pos h]
  show (uAt b 0x0C 4 + containerLen b * 2 ^ 32) % 2 ^ 32 = _
  omega

theorem ephInfoOf_none {b : List Byte} (h : headerHolds b = false) : ephInfoOf b = (0, 0, List.replicate 64 0) := by
  rw [ephInfoOf, if_neg (by simp [h])]

/-- The container that EPH_INFO of `w` tells of. -/
def State.infoContainer (s : State) (w : Nat) : List Byte :=
  if w < 4 then s.slotContainer w else if w = 0x10 then s.eph.staging else s.eph.container

theorem exec_ephInfo {e : Entry} {s t : State} {f : Flight} (h : Dispatched 0x0100 e s f t)
    (hz : (e.zeroFrom 0x19 39).1 = false) (hw : e.u 0x18 1 < 4 ∨ e.u 0x18 1 = 0x10 ∨ e.u 0x18 1 = 0x11)
    (hlen : e.bufLen = 0 ∨ e.bufLen = 64) (hgood : e.u 0x18 1 = 0x10 → t.eph.stagingBad = false) :
    exec (.ephInfo e) s = .next (t.ok f (ephInfoOf (t.infoContainer (e.u 0x18 1))).1
      (ephInfoOf (t.infoContainer (e.u 0x18 1))).2.1
      (if e.bufLen = 64 ∨ e.inline then (ephInfoOf (t.infoContainer (e.u 0x18 1))).2.2 else [])) := by
  refine (command_of_dispatched h _).trans (congrArg Host.Outcome.next (checked_of_none ?_ _ t))
  rw [firstBad_eq_none]
  simp only [List.forall_mem_cons, List.not_mem_nil, false_imp_iff, implies_true, and_true]
  refine ⟨hz, ?_, ?_, ?_⟩
  · rcases hw with h | h | h <;> simp [h]
  · rcases hlen with h | h <;> simp [h]
  · simpa using hgood

/-! ## EPH_STORE -/

/-- Flash with `n` bytes of `d` stored at offset `o` of slot `i`, which an OFFSET of 0 erases first (R74). -/
def State.stored (i o : Nat) (d : List Byte) (s : State) : State :=
  (if o = 0 then s.flashErase (ephOfs i) ephSlotBytes else s).flashWrite (ephOfs i + o) d

theorem State.stored_sameBut (i o : Nat) (d : List Byte) (s : State) : SameBut [.flash] s (s.stored i o d) :=
  (SameBut.ite (sameBut_flash s _) (SameBut.refl _ s)).trans (sameBut_flash _ _)

theorem State.stored_data (i o : Nat) (d : List Byte) (s : State) {k : Nat} (h : k < d.length) :
    sget flashErased (s.stored i o d).flash (ephOfs i + o + k) = d.getD k flashErased :=
  sget_sbulk_same _ d h

/-- Behind the data of a first store, the slot is erased. -/
theorem State.stored_erased (i : Nat) (d : List Byte) (s : State) {k : Nat} (h : d.length ≤ k)
    (hk : k < ephSlotBytes) : sget flashErased (s.stored i 0 d).flash (ephOfs i + k) = flashErased := by
  rw [State.stored, if_pos rfl]
  refine (sget_sbulk_other _ _ d (.inr (by omega))).trans ?_
  rw [State.flashErase, sget_serase, if_pos (by omega)]

theorem State.stored_other (i o : Nat) (d : List Byte) (s : State) {a : Nat}
    (h : a < ephOfs i + o ∨ ephOfs i + o + d.length ≤ a)
    (ho : o ≠ 0 ∨ a < ephOfs i ∨ ephOfs i + ephSlotBytes ≤ a) :
    sget flashErased (s.stored i o d).flash a = sget flashErased s.flash a := by
  refine (sget_sbulk_other _ _ d h).trans ?_
  split
  case isTrue h0 =>
    rw [State.flashErase, sget_serase, if_neg]
    rcases ho with ho | ho
    · exact absurd h0 ho
    · omega
  case isFalse => rfl

theorem exec_ephStore {e : Entry} {s t : State} {f : Flight} {i o n : Nat} (hi : i = e.u 0x18 1) (ho : o = e.u 0x1C 4)
    (hn : n = e.u 0x20 4) (h : Dispatched 0x0140 e s f t) (hz : (e.zeroFrom 0x19 3).1 = false)
    (hz' : (e.zeroFrom 0x24 28).1 = false) (hi4 : i < 4) (ho8 : o % 8 = 0) (hn8 : n % 8 = 0) (hlo : 8 ≤ n)
    (htop : n ≤ (if e.inline then 1344 else 65536)) (hfit : o + n ≤ ephSlotBytes) (hlen : e.dataLen = n)
    (hnv : t.power.nvOpen = true) (hcopy : ∀ c ∈ t.eph.copying, c.2 ≠ some i) :
    exec (.ephStore e) s = .next ((t.stored i o (slice e.data 0 n)).flashJob f (o + n)) := by
  subst hi ho hn
  refine (command_of_dispatched h _).trans (congrArg Host.Outcome.next (checked_of_none ?_ _ t))
  rw [firstBad_eq_none]
  simp only [List.forall_mem_cons, List.not_mem_nil, false_imp_iff, implies_true, and_true]
  refine ⟨hz, hz', ?_, ?_, ?_, ?_, ?_, ?_⟩
  · simpa using Nat.le_of_lt_succ hi4
  · simpa using ho8
  · rw [decide_eq_false_iff_not]
    omega
  · simpa using hlen
  · simpa using hnv
  · simpa using hcopy

/-! ## EPH_SET_BOOT -/

/-- The boot slot that EPH_SET_BOOT of `i` selects. -/
def bootChoice (i : Nat) : Option (BitVec 2) := if i = 0xFF then none else some (BitVec.ofNat 2 i)

/-- The boot slot selected, in the boot header and for BOOT_EPH_STATUS (R73). -/
def State.bootSet (i : Nat) (s : State) : State :=
  let t := s.writeHeader fun h => { h with ephBoot := bootChoice i }
  { t with eph := { t.eph with bootSlot := (bootChoice i).getD 0, bootNone := (bootChoice i).isNone } }

theorem State.writeHeader_sameBut (f : BootHeader → BootHeader) (s : State) : SameBut [.flash] s (s.writeHeader f) :=
  (sameBut_flash s _).trans (sameBut_flash _ _)

theorem State.bootSet_sameBut (i : Nat) (s : State) : SameBut [.flash, .eph] s (s.bootSet i) :=
  ((s.writeHeader_sameBut _).mono (by simp)).trans ((sameBut_eph (s.writeHeader _) _).mono (by simp))

theorem exec_ephSetBoot {e : Entry} {s t : State} {f : Flight} {i : Nat} (hi : i = e.u 0x18 1)
    (h : Dispatched 0x0141 e s f t) (hz : (e.zeroFrom 0x19 39).1 = false) (hi4 : i < 4 ∨ i = 0xFF)
    (hnv : t.power.nvOpen = true) : exec (.ephSetBoot e) s = .next ((t.bootSet i).flashJob f 0) := by
  subst hi
  refine (command_of_dispatched h _).trans (congrArg Host.Outcome.next (checked_of_none ?_ _ t))
  rw [firstBad_cons_of_pass hz, firstBad_cons_of_pass ?_, firstBad_cons_of_pass (by simp [hnv])]
  · rfl
  · rcases hi4 with h | h
    · simp [Nat.not_lt.2 (Nat.le_of_lt_succ h)]
    · simp [h]

/-! ## FLASH_WRITE_DONE -/

theorem exec_flashWriteDone {s : State} {j : FlashJob} {r : List FlashJob} (h : s.boot.flashJobs = j :: r) :
    exec .flashWriteDone s = .next (({ s with boot := { s.boot with flashJobs := r } } : State).finishId j.flight 0
      (BitVec.ofNat 64 j.r0) 0 false []) := by
  show execFlashWriteDone s = _
  simp only [execFlashWriteDone, h]

/-- Settles O21, from the equation of each command and what `State.stored` leaves in flash. -/
theorem ephemerisStorageIsWrittenInFlash : Obligations.EphemerisStorageIsWrittenInFlash := by
  intro e s t f
  refine ⟨fun h hz hw hlen hgood => ⟨t.infoContainer (e.u 0x18 1), ⟨fun h4 => if_pos h4, fun h10 => ?_, fun h11 => ?_⟩,
      exec_ephInfo h hz hw hlen hgood, ephInfoOf_sequence, ephInfoOf_none⟩,
    fun i o n hi ho hn h hz hz' hi4 ho8 hn8 hlo htop hfit hlen hnv hcopy _ => ?store,
    fun i hi h hz hi4 hnv => ?setBoot, fun j r => exec_flashWriteDone⟩
  · simp [State.infoContainer, h10]
  · simp [State.infoContainer, h11]
  case store =>
    have job := State.flashJob_sameBut f (o + n) (t.stored i o (slice e.data 0 n))
    have stored := t.stored_sameBut i o (slice e.data 0 n)
    have hflash : ((t.stored i o (slice e.data 0 n)).flashJob f (o + n)).flash = (t.stored i o (slice e.data 0 n)).flash :=
      job .flash (by simp)
    have hlen' : (slice e.data 0 n).length = n := length_slice _ _ _
    refine ⟨_, exec_ephStore hi ho hn h hz hz' hi4 ho8 hn8 hlo htop hfit hlen hnv hcopy, fun k hk => ?data,
      fun h0 k hn hk => ?erased, fun a ha h0 => ?other, ?jobs, ?frame⟩
    case data =>
      rw [hflash, State.stored_data _ _ _ _ (hlen'.symm ▸ hk), ← getD_slice e.data hk]
      simp [List.getD_eq_getElem?_getD, hlen', hk]
    case erased => rw [hflash, h0]; exact t.stored_erased i _ (hlen'.symm ▸ hn) hk
    case other => rw [hflash]; exact t.stored_other i o _ (hlen'.symm ▸ ha) h0
    case jobs => rw [State.flashJob_flashJobs, stored .boot (by simp)]
    case frame => exact (stored.mono (by simp)).trans (job.mono (by simp))
  case setBoot =>
    have job := State.flashJob_sameBut f 0 (t.bootSet i)
    have boot := t.bootSet_sameBut i
    have heph : ((t.bootSet i).flashJob f 0).eph = (t.bootSet i).eph := job .eph (by simp)
    refine ⟨_, exec_ephSetBoot hi h hz hi4 hnv, ?none, fun h4 => ?slot, job .flash (by simp), ?jobs, ?frame⟩
    case none =>
      rw [heph]
      by_cases hff : i = 0xFF <;> simp [State.bootSet, bootChoice, hff]
    case slot =>
      rw [heph]
      have hff : i ≠ 0xFF := by omega
      simp [State.bootSet, bootChoice, hff]
    case jobs => rw [State.flashJob_flashJobs, boot .boot (by simp)]
    case frame => exact (boot.mono (by simp)).trans (job.mono (by simp))

end Sys2Proof.Machine
end

section
/-!
Staging, validation and commit of a container (R76–R86).
-/

namespace Sys2Proof.Machine

/-! ## What the dispatcher keeps -/

/-- A frame that is taken, answered or dropped changes the host part, the clock of the MGMT domain and the outbox. -/
theorem State.takeFrameAt_sameBut (addr : Nat) (h : FrameHdr) (s : State) :
    SameBut [.host, .power, .outbox] s (s.takeFrameAt addr h).2 := by
  have clock : SameBut [.host, .power, .outbox] s s.clockMgmt := (sameBut_power s _).mono (by simp)
  have refused (c : Code) : SameBut [.host, .power, .outbox] s (s.clockMgmt.refuseFrame addr h c) :=
    (clock.trans ((State.refuse_sameBut _ _ _ _ _).mono (by simp))).trans ((State.send_sameBut _ _).mono (by simp))
  unfold State.takeFrameAt
  dsimp only
  split
  · exact refused _
  · split
    · exact refused _
    · split
      · exact refused _
      · rw [apply_ite Prod.snd]
        refine SameBut.ite (clock.trans ((State.modSlot_sameBut _ _ _).mono (by simp))) ?_
        split
        · exact clock.trans ((State.send_sameBut _ _).mono (by simp))
        · exact clock

theorem Taken.sameBut {e : Entry} {s t : State} {f : Flight} (h : Taken e s f t) :
    SameBut [.host, .power, .outbox] s t := by
  unfold Taken at h
  split at h
  case h_1 q _ =>
    obtain ⟨_, _, _, _, hft⟩ := h
    cases hft
    exact (sameBut_host s _).mono (by simp)
  case h_2 hd _ =>
    obtain ⟨_, _, _, _, _, hft⟩ := h
    cases hft
    refine (State.takeFrameAt_sameBut 0 hd s).trans (SameBut.trans ?_ ((sameBut_host _ _).mono (by simp)))
    exact SameBut.ite ((sameBut_host _ _).mono (by simp)) (SameBut.refl _ _)

theorem Dispatched.taken {op : W16} {e : Entry} {s t : State} {f : Flight} (h : Dispatched op e s f t) : Taken e s f t :=
  h.2.2.2.2

theorem State.flights_launch_congr {s t : State} (f : Flight) (h : t.host = s.host) :
    (t.launch f).host.flights = (s.launch f).host.flights := by
  unfold State.launch
  rw [h]
  split
  · rw [h]
  · rfl

theorem State.launch_eph (f : Flight) (s : State) : (s.launch f).eph = s.eph := s.launch_sameBut f .eph (by simp)

theorem State.finalNow_congr {s t : State} (h : t.job = s.job) : t.finalNow = s.finalNow := by
  unfold State.finalNow
  rw [h]

theorem State.firstLayer_congr {s t : State} (h : t.job = s.job) (n : Nat) : t.firstLayer n = s.firstLayer n := by
  unfold State.firstLayer
  rw [h, State.finalNow_congr h]

/-! ## Commands that a validation may hold (R77) -/

theorem State.ephGate_of_free {s : State} (h : s.eph.committing = none) (f : Flight) (e : Entry) :
    s.ephGate f e = s.ephRun f e := by
  simp [State.ephGate, h]

theorem State.ephGate_of_committing {s : State} {j : EphJob} (h : s.eph.committing = some j) (f : Flight) (e : Entry) :
    s.ephGate f e = { s.launch f with host := { (s.launch f).host with
      ephWaits := (s.launch f).host.ephWaits ++ [(f, e)] } } := by
  simp [State.ephGate, h]

/-- What the command with opcode `op` does once nothing holds it. -/
def State.ephRunAs (op : Nat) (f : Flight) (e : Entry) (s : State) : State :=
  match op with
  | 0x0142 => s.ephStage f e
  | 0x0143 => s.ephValidate f e
  | 0x0144 => s.ephCommit f e
  | _ => s.ephCancel f e

theorem State.ephRun_eq (f : Flight) (e : Entry) (s : State) : s.ephRun f e = s.ephRunAs e.opcode.toNat f e := rfl

/-- The rows that a validation may hold, with their opcodes. -/
def EphHeld (e : Entry) (op : W16) (c : Instr) : Prop :=
  op = 0x0142 ∧ c = .ephStage e ∨ op = 0x0143 ∧ c = .ephValidate e ∨ op = 0x0144 ∧ c = .ephCommit e ∨
    op = 0x0145 ∧ c = .ephCancel e

section
variable {op : W16} {c : Instr} {e : Entry} {s t : State} {f : Flight}

theorem exec_eph_gate (hc : EphHeld e op c) (h : Dispatched op e s f t) : exec c s = .next (t.ephGate f e) := by
  rcases hc with ⟨rfl, rfl⟩ | ⟨rfl, rfl⟩ | ⟨rfl, rfl⟩ | ⟨rfl, rfl⟩ <;> exact command_of_dispatched h _

theorem exec_eph_runs (hc : EphHeld e op c) (h : Dispatched op e s f t) (hfree : t.eph.committing = none) :
    exec c s = .next (t.ephRunAs op.toNat f e) := by
  rw [exec_eph_gate hc h, State.ephGate_of_free hfree, State.ephRun_eq, h.1]

/-- While an EPH_COMMIT validates, the command waits behind those that came before it. -/
theorem exec_eph_waits {j : EphJob} (hj : s.eph.committing = some j) (hc : EphHeld e op c)
    (h : Dispatched op e s f t) : exec c s = .next { t.launch f with host := { (t.launch f).host with
      ephWaits := (t.launch f).host.ephWaits ++ [(f, e)] } } := by
  have heph : t.eph = s.eph := h.taken.sameBut .eph (by simp)
  rw [exec_eph_gate hc h, State.ephGate_of_committing (heph ▸ hj)]

theorem exec_ephStage (h : Dispatched 0x0142 e s f t) (hfree : t.eph.committing = none) :
    exec (.ephStage e) s = .next (t.ephStage f e) :=
  exec_eph_runs (.inl ⟨rfl, rfl⟩) h hfree

theorem exec_ephValidate (h : Dispatched 0x0143 e s f t) (hfree : t.eph.committing = none) :
    exec (.ephValidate e) s = .next (t.ephValidate f e) :=
  exec_eph_runs (.inr (.inl ⟨rfl, rfl⟩)) h hfree

theorem exec_ephCommit (h : Dispatched 0x0144 e s f t) (hfree : t.eph.committing = none) :
    exec (.ephCommit e) s = .next (t.ephCommit f e) :=
  exec_eph_runs (.inr (.inr (.inl ⟨rfl, rfl⟩))) h hfree

theorem exec_ephCancel (h : Dispatched 0x0145 e s f t) (hfree : t.eph.committing = none) :
    exec (.ephCancel e) s = .next (t.ephCancel f e) :=
  exec_eph_runs (.inr (.inr (.inr ⟨rfl, rfl⟩))) h hfree

end

/-! ## Staging (R76, R77) -/

/-- A copy of `d` into the staging area runs for command `f`; it reads flash slot `src`, if any. -/
def State.copyStarted (f : Flight) (n : Nat) (d : List Byte) (src : Option Nat) (s : State) : State :=
  let t := (s.restage n d .loading).launch f
  { t with eph := { t.eph with copying := t.eph.copying ++ [({ flight := f.id, slot := f.slot }, src)] } }

theorem State.copyStarted_eph (f : Flight) (n : Nat) (d : List Byte) (src : Option Nat) (s : State) :
    (s.copyStarted f n d src).eph = { (s.restage n d .loading).eph with
      copying := s.eph.copying ++ [({ flight := f.id, slot := f.slot }, src)] } := by
  simp only [State.copyStarted, State.launch_eph]
  rfl

theorem State.copyStarted_sameBut (f : Flight) (n : Nat) (d : List Byte) (src : Option Nat) (s : State) :
    SameBut [.eph, .host] s (s.copyStarted f n d src) :=
  (((sameBut_eph s (s.restage n d .loading).eph).mono (by simp)).trans
    ((State.launch_sameBut f (s.restage n d .loading)).mono (by simp))).trans
      ((sameBut_eph ((s.restage n d .loading).launch f) _).mono (by simp))

theorem State.ephStage_copy {e : Entry} {s : State} {f : Flight} (hz : (e.zeroFrom 0x19 3).1 = false)
    (hz' : (e.zeroFrom 0x20 32).1 = false) (hlo : 64 ≤ e.u 0x1C 4) (hhi : e.u 0x1C 4 ≤ ephSlotBytes)
    (hp : s.eph.pendingSlot = none)
    (hsrc : e.u 0x18 1 < 4 ∧ e.bufLen = 0 ∨ e.u 0x18 1 = 0x10 ∧ e.inline = false ∧ e.bufLen.toNat = e.u 0x1C 4) :
    s.ephStage f e = s.copyStarted f (e.u 0x1C 4)
      (if e.u 0x18 1 < 4 then s.flashRead (ephOfs (e.u 0x18 1)) (e.u 0x1C 4) else slice e.data 0 (e.u 0x1C 4))
      (if e.u 0x18 1 < 4 then some (e.u 0x18 1) else none) := by
  have hchunk : (e.u 0x18 1 == 0x11) = false := by
    rw [beq_eq_false_iff_ne]
    omega
  have hsize : decide (e.u 0x1C 4 < 64 ∨ ephSlotBytes < e.u 0x1C 4) = false := decide_eq_false (by omega)
  unfold State.ephStage
  simp only [hchunk, Bool.false_eq_true, if_false]
  refine checked_of_none ?_ _ s
  rw [firstBad_eq_none]
  rcases hsrc with ⟨hi, hb⟩ | ⟨hi, hin, hb⟩
  · have h10 : e.u 0x18 1 ≠ 0x10 := by omega
    simp [hz, hz', hi, hb, hp, hsize, h10]
  · simp [hz, hz', hi, hin, hb, hp, hsize]

/-- The staging area after an inline chunk at offset `o` of `n` bytes (R77). -/
def State.chunkStaged (o n : Nat) (d : List Byte) (s : State) : State :=
  { s with eph := { s.eph with
    staging := if o = 0 then d else s.eph.staging ++ d, stageLen := n, validated := none
    stage := if o + d.length = n then .loaded else .loading
    stagingBad := s.eph.stagingBad && decide (o ≠ 0) } }

theorem State.ephStage_chunk {e : Entry} {s : State} {f : Flight} (hsrc : e.u 0x18 1 = 0x11) (hin : e.inline = true)
    (hz : (e.zeroFrom 0x19 3).1 = false) (hz' : (e.zeroFrom 0x24 28).1 = false) (hlo : 64 ≤ e.u 0x1C 4)
    (hhi : e.u 0x1C 4 ≤ ephSlotBytes) (hp : s.eph.pendingSlot = none)
    (hnext : e.u 0x20 4 ≠ 0 →
      s.eph.stage = .loading ∧ s.eph.stageLen = e.u 0x1C 4 ∧ s.eph.staging.length = e.u 0x20 4)
    (hfit : e.u 0x20 4 + e.data.length ≤ e.u 0x1C 4) :
    s.ephStage f e =
      (s.chunkStaged (e.u 0x20 4) (e.u 0x1C 4) e.data).ok f (e.u 0x20 4 + e.data.length) 0 [] := by
  have hsize : decide (e.u 0x1C 4 < 64 ∨ ephSlotBytes < e.u 0x1C 4) = false := decide_eq_false (by omega)
  have hlen : (if e.u 0x20 4 = 0 then e.data else s.eph.staging ++ e.data).length = e.u 0x20 4 + e.data.length := by
    split
    case isTrue h => omega
    case isFalse h => rw [List.length_append, (hnext h).2.2]
  have hpass : ∀ c ∈ s.chunkBad e, c.1 = false := by
    by_cases ho : e.u 0x20 4 = 0
    · simpa [State.chunkBad, ho] using hfit
    · obtain ⟨hst, hn, hl⟩ := hnext ho
      simpa [State.chunkBad, hst, hn, hl] using hfit
  unfold State.ephStage
  simp only [hsrc, beq_self_eq_true, if_true]
  rw [checked_of_none]
  · rw [hlen]
    rfl
  · rw [firstBad_eq_none, List.forall_mem_append]
    refine ⟨?_, hpass⟩
    simp [hz, hz', hin, hp, hsize]

theorem exec_ephStageLoaded {t : State} {c : EphJob × Option Nat} {r : List (EphJob × Option Nat)} {f : Flight}
    (hc : t.eph.copying = c :: r) (hst : t.eph.stage = .loading) (hf : t.flight? c.1.flight = some f) :
    exec .ephStageLoaded t = .next (({ t with eph := { t.eph with
      copying := r
      stage := if r = [] ∧ t.eph.staging.length = t.eph.stageLen then .loaded else .loading } } : State).finish f
      0 0 0 false []) := by
  show execEphStageLoaded t = _
  simp only [execEphStageLoaded, hc, hst]
  refine congrArg Host.Outcome.next ((State.finishId_of_flight (by exact hf) ..).trans ?_)
  simp

/-! ## Validation (R78, R79) -/

theorem State.nothingStaged_of_ne {s : State} (h : s.eph.stage ≠ .empty) (h' : s.eph.stage ≠ .loading) :
    s.nothingStaged = false := by
  simp [State.nothingStaged, h, h']

theorem State.rejectId_of_flight {s : State} {id : Nat} {f : Flight} (h : s.flight? id = some f) (b : Bad) :
    s.rejectId id b = s.reject f b := by
  simp only [State.rejectId, h]

/-- The EPH_VALIDATE with number `id` ends with result `v`. -/
def State.validationEnds (id : Nat) (v : Except EphFail Eph) (s : State) : State :=
  match v with
  | .ok _ => (s.noteValidation v).finishId id 0 0 0 false []
  | .error x => (s.noteValidation v).rejectId id x.bad

theorem exec_ephValidateDone {t : State} {j : EphJob} {r : List EphJob} {v : Except EphFail Eph}
    (hj : t.eph.validating = j :: r) (hst : t.eph.stage = .validating) (hbad : t.eph.stagingBad = false)
    (hv : t.validateStaged = v) : exec .ephValidateDone t =
      .next (State.validationEnds j.flight v { t with eph := { t.eph with validating := r } }) := by
  subst hv
  show execEphValidateDone t = _
  unfold execEphValidateDone
  rw [hj]
  exact congrArg Host.Outcome.next ((if_neg (by simp [State.nothingStaged, hst])).trans (if_neg (by simp [hbad])))

/-- A validation runs for command `f`. -/
def State.validationStarted (f : Flight) (s : State) : State :=
  { s.launch f with eph := { s.eph with
    stage := .validating, validated := if s.eph.pendingSlot.isSome then s.eph.validated else none
    validating := s.eph.validating ++ [{ flight := f.id, slot := f.slot }] } }

theorem State.ephValidate_runs {e : Entry} {s : State} (f : Flight) (hz : (e.zeroFrom 0x18 40).1 = false)
    (h : s.eph.stage ≠ .empty) (h' : s.eph.stage ≠ .loading) : s.ephValidate f e = s.validationStarted f := by
  unfold State.ephValidate
  rw [checked_of_none]
  · simp only [State.launch_eph]
    rfl
  · rw [firstBad_cons_of_pass hz, firstBad_cons_of_pass (State.nothingStaged_of_ne h h')]
    rfl

/-- A command of the ephemeris that is under way changes the two parts alone. -/
theorem State.launch_withEph_sameBut (f : Flight) (x : EphState) (s : State) :
    SameBut [.eph, .host] s { s.launch f with eph := x } :=
  ((s.launch_sameBut f).mono (by simp)).trans ((sameBut_eph (s.launch f) x).mono (by simp))

/-! ## Commit (R81–R86) -/

section
variable {s : State} {f : Flight} {x : Eph}

theorem State.decideCommit_deferred (hp : (s.slot f.slot).held &&& rolePilot ≠ 0)
    (h10 : s.stage10 x s.eph.staging = none) (hd : s.planes.data ≠ .idle) :
    s.decideCommit f x = ({ s with eph := { s.eph with
      commit := .pending, pendingSlot := some f.slot, atEnd := s.finalNow } } : State).finish f 0x0A00
        (s.firstLayer 4) 0 false [] := by
  simp only [State.decideCommit, if_neg hp, h10, if_neg hd]
  rfl

theorem State.decideCommit_adopts (hp : (s.slot f.slot).held &&& rolePilot ≠ 0)
    (h10 : s.stage10 x s.eph.staging = none) (hd : s.planes.data = .idle) (hb : s.adoptBroken = false) :
    s.decideCommit f x = (s.adopt .commit x s.eph.staging).ok f
      (s.adopt .commit x s.eph.staging).eph.adoptIx.toNat 0 [] := by
  simp only [State.decideCommit, if_neg hp, h10, if_pos hd, hb, Bool.false_eq_true, if_false]

theorem State.decideCommit_fails (hp : (s.slot f.slot).held &&& rolePilot ≠ 0)
    (h10 : s.stage10 x s.eph.staging = none) (hd : s.planes.data = .idle) (hb : s.adoptBroken = true) :
    s.decideCommit f x = (s.adoptFails x adoptFault).finish f adoptFault.code 0 0 true [] := by
  simp only [State.decideCommit, if_neg hp, h10, if_pos hd, hb, if_true]

end

/-- The checks of EPH_COMMIT pass for a staged container while no commit is pending. -/
theorem State.ephCommit_checked {e : Entry} {s : State} {f : Flight} (hz : (e.zeroFrom 0x18 40).1 = false)
    (hp : s.eph.pendingSlot = none) (h : s.eph.stage ≠ .empty) (h' : s.eph.stage ≠ .loading) (k : State → State) :
    s.checked f [e.zeroFrom 0x18 40, (s.nothingStaged, { code := 0x0503 }),
      (s.eph.pendingSlot.isSome, { code := 0x0401 })] k = k s := by
  refine checked_of_none ?_ k s
  rw [firstBad_cons_of_pass hz, firstBad_cons_of_pass (State.nothingStaged_of_ne h h'),
    firstBad_cons_of_pass (by simp [hp])]
  rfl

/-- A container that has not been validated is validated first (R81). -/
theorem State.ephCommit_validates {e : Entry} {s : State} (f : Flight) (hz : (e.zeroFrom 0x18 40).1 = false)
    (hp : s.eph.pendingSlot = none)
    (h : s.eph.stage = .loaded ∨ s.eph.stage = .rejected ∨ s.eph.stage = .validating) :
    s.ephCommit f e = { s.launch f with eph := { s.eph with
      stage := .validating, validated := none, committing := some { flight := f.id, slot := f.slot } } } := by
  unfold State.ephCommit
  rcases h with h | h | h <;>
    · rw [State.ephCommit_checked hz hp (by simp [h]) (by simp [h])]
      simp only [h, State.launch_eph]

theorem State.ephCommit_decides {e : Entry} {s : State} {x : Eph} (f : Flight) (hz : (e.zeroFrom 0x18 40).1 = false)
    (hp : s.eph.pendingSlot = none) (h : s.eph.stage = .valid) (hx : s.eph.validated = some x) :
    s.ephCommit f e = (s.launch f).decideCommit f x := by
  unfold State.ephCommit
  rw [State.ephCommit_checked hz hp (by simp [h]) (by simp [h])]
  simp only [h, hx]

theorem State.ephCancel_cancels {e : Entry} {s : State} {i : Nat} (f : Flight) (hz : (e.zeroFrom 0x18 40).1 = false)
    (hp : s.eph.pendingSlot = some i) : s.ephCancel f e = (s.cancelCommit 0).ok f 0 0 [] := by
  refine checked_of_none ?_ _ s
  rw [firstBad_cons_of_pass hz, firstBad_cons_of_pass (by simp [hp])]
  rfl

/-- The validation of the EPH_COMMIT `f` ends with result `v`. -/
def State.commitJudged (f : Option Flight) (v : Except EphFail Eph) (s : State) : State :=
  match v, f with
  | .ok e, some f => (s.noteValidation v).decideCommit f e
  | .error x, some f => (s.noteValidation v).reject f x.bad
  | _, none => s.noteValidation v

/-- When the validation of an EPH_COMMIT ends, the commit is decided, and what waited for it runs. -/
theorem exec_ephCommitValidated {s : State} {j : EphJob} (hj : s.eph.committing = some j)
    (hbad : s.eph.stagingBad = false) : exec .ephCommitValidated s = .next
      (let u := State.commitJudged (s.flight? j.flight)
        ({ s with eph := { s.eph with committing := none } } : State).validateStaged
        { s with eph := { s.eph with committing := none } }
      State.ephResume u.host.ephWaits u) := by
  have judged (v : Except EphFail Eph) (t : State) : (t.noteValidation v).flight? j.flight = t.flight? j.flight := by
    cases v <;> rfl
  show execEphCommitValidated s = _
  unfold execEphCommitValidated
  rw [hj]
  refine congrArg (fun u : State => Host.Outcome.next (State.ephResume u.host.ephWaits u))
    ((if_neg (by simp [hbad])).trans ?_)
  simp only [judged]
  rfl

/-- Settles O22, from the equation of each command and of each event that ends one. -/
theorem containersAreStagedValidatedAndCommitted : Obligations.ContainersAreStagedValidatedAndCommitted := by
  intro e s t f hfree
  refine ⟨fun n i hn hi h hz hz' hlo hhi hp hsrc => ?copy, fun n o hn ho h hsrc hin hz hz' hlo hhi hp hnext hfit => ?chunk,
    fun c r => exec_ephStageLoaded, fun h hz he hl => ?validate,
    fun j r x hj hst hbad hv hf => (exec_ephValidateDone hj hst hbad hv).trans
      (congrArg _ (State.finishId_of_flight (by exact hf) ..)),
    fun j r x hj hst hbad hv hf => (exec_ephValidateDone hj hst hbad hv).trans
      (congrArg _ (State.rejectId_of_flight (by exact hf) _)), fun h hz hp hst => ?validates,
    fun x v hv h hz hp hst hx hpilot h10 => ?commit, fun i h hz hp => ?cancel,
    fun j x v hv hj hbad hval hf hpilot h10 => ?validated, fun j c op hj hc g v h => exec_eph_waits hj hc h⟩
  case copy =>
    subst hn hi
    have heph := t.copyStarted_eph f
    refine ⟨_, (exec_ephStage h hfree).trans (congrArg _ (State.ephStage_copy hz hz' hlo hhi hp hsrc)), ?_, ?_, ?_,
      State.flights_launch_congr f rfl, ?_, t.copyStarted_sameBut _ _ _ _⟩
    all_goals rw [heph]
    all_goals rfl
  case chunk =>
    subst hn ho
    exact ⟨_, (exec_ephStage h hfree).trans (congrArg _ (State.ephStage_chunk hsrc hin hz hz' hlo hhi hp hnext hfit)),
      sameBut_eph t _, rfl⟩
  case validate =>
    exact ⟨_, (exec_ephValidate h hfree).trans (congrArg _ (State.ephValidate_runs f hz he hl)), rfl, rfl, rfl, rfl,
      t.launch_withEph_sameBut f _⟩
  case validates =>
    exact ⟨_, (exec_ephCommit h hfree).trans (congrArg _ (State.ephCommit_validates f hz hp hst)), rfl, rfl, rfl,
      t.launch_withEph_sameBut f _⟩
  case commit =>
    subst hv
    have heph := t.launch_eph f
    have hjob : (t.launch f).job = t.job := t.launch_sameBut f .job (by simp)
    have hdata : (t.launch f).planes = t.planes := t.launch_sameBut f .planes (by simp)
    have hrun := (exec_ephCommit h hfree).trans (congrArg _ (State.ephCommit_decides f hz hp hst hx))
    rw [← heph] at h10
    rw [hrun, ← hdata, ← State.finalNow_congr hjob, ← State.firstLayer_congr hjob, ← heph]
    exact ⟨fun hd => congrArg _ (State.decideCommit_deferred hpilot h10 hd),
      fun hd hb => congrArg _ (State.decideCommit_adopts hpilot h10 hd hb),
      fun hd hb => congrArg _ (State.decideCommit_fails hpilot h10 hd hb)⟩
  case cancel =>
    rw [State.cancelCommit_eph hp]
    exact ⟨(exec_ephCancel h hfree).trans (congrArg _ (State.ephCancel_cancels f hz hp)), rfl, rfl⟩
  case validated =>
    have hjob : v.job = s.job := by rw [hv]
    have hplanes : v.planes = s.planes := by rw [hv]
    have hstaging : v.eph.staging = s.eph.staging := by rw [hv]
    have hslot : v.slot f.slot = s.slot f.slot := by rw [hv]; rfl
    have hrun : exec .ephCommitValidated s =
        .next (State.ephResume (v.decideCommit f x).host.ephWaits (v.decideCommit f x)) := by
      have h := exec_ephCommitValidated hj hbad
      rw [hval, hf] at h
      rw [hv]
      exact h
    rw [← hslot] at hpilot
    rw [← hstaging] at h10
    rw [← hplanes, ← State.finalNow_congr hjob, ← State.firstLayer_congr hjob, ← hstaging]
    exact ⟨fun hd => ⟨_, State.decideCommit_deferred hpilot h10 hd, hrun⟩,
      fun hd hb => ⟨_, State.decideCommit_adopts hpilot h10 hd hb, hrun⟩⟩

end Sys2Proof.Machine
end

section
/-!
The Tide engine (R260–R274): an update from the loop's inputs to what it delivers, and the trip.
-/

namespace Sys2Proof.Machine

/-! ## The arithmetic of an update keeps the loop's entry -/

theorem applyMode_entry (l : TideLoop) : (applyMode l).entry = l.entry := by
  unfold applyMode
  split
  · rfl
  · split
    · rfl
    · split <;> rfl

/-- The judgement of the following error keeps the entry, and one that trips leaves the loop in manual (R273, R274). -/
theorem judgeFe_entry_trip (x : TideIn) (e : Int) (l : TideLoop) : (judgeFe x e l).1.entry = l.entry ∧
    ((judgeFe x e l).2 = true → (judgeFe x e l).1.feTrip = true ∧ (judgeFe x e l).1.auto = false) := by
  unfold judgeFe
  split
  · exact ⟨rfl, fun h => by cases h⟩
  · dsimp only
    generalize (if x.valid = false ∨ l.entry.feLimit < absI e then l.feCount + 1 else 0) = n
    split
    · exact ⟨rfl, fun _ => ⟨rfl, rfl⟩⟩
    · exact ⟨rfl, fun h => by cases h⟩

/-- What one update of R263 does before the following error is judged. -/
def tideBody (c : CoefSet) (x : TideIn) (l : TideLoop) : TideLoop × TideVals :=
  if l.auto = false then (manualUpdate c x l, { e := sat32 (x.sp - x.pv) })
  else if x.valid = false ∨ x.opened = true then (frozenUpdate x l, { e := sat32 (x.sp - x.pv), frozen := true })
  else closedUpdate c l.setChanged x l

theorem tideBody_entry (c : CoefSet) (x : TideIn) (l : TideLoop) : (tideBody c x l).1.entry = l.entry := by
  unfold tideBody
  split
  · rfl
  · split <;> rfl

theorem tideUpdate_eq (c : CoefSet) (x : TideIn) (l : TideLoop) : ∃ m : TideLoop, m.entry = l.entry ∧
    tideUpdate c x l = ((judgeFe x (sat32 (x.sp - x.pv)) (tideBody c x m).1).1,
      { (tideBody c x m).2 with trip := (judgeFe x (sat32 (x.sp - x.pv)) (tideBody c x m).1).2 }) :=
  ⟨applyMode { l with pv := x.pv, sp := x.sp, measInvalid := !x.valid, opened := x.opened, started := true },
    applyMode_entry _, rfl⟩

theorem tideUpdate_entry (c : CoefSet) (x : TideIn) (l : TideLoop) : (tideUpdate c x l).1.entry = l.entry := by
  obtain ⟨m, hm, h⟩ := tideUpdate_eq c x l
  rw [h, (judgeFe_entry_trip _ _ _).1, tideBody_entry, hm]

theorem tideUpdate_trip {c : CoefSet} {x : TideIn} {l : TideLoop} (h : (tideUpdate c x l).2.trip = true) :
    (tideUpdate c x l).1.feTrip = true ∧ (tideUpdate c x l).1.auto = false := by
  obtain ⟨m, _, hu⟩ := tideUpdate_eq c x l
  rw [hu] at h ⊢
  exact (judgeFe_entry_trip _ _ _).2 h

theorem chooseSet_entry (sets : List (Nat × CoefSet)) (c : Nat) (l : TideLoop) : (chooseSet sets c l).1.entry = l.entry :=
  rfl

theorem chooseSet_of_filled {sets : List (Nat × CoefSet)} {c : Nat} (h : (sget {} sets c).isEmpty = false) (l : TideLoop) :
    (chooseSet sets c l).1.set = c ∧ (chooseSet sets c l).1.vals = sget {} sets c := by
  simp [chooseSet, h]

theorem chooseSet_of_empty {sets : List (Nat × CoefSet)} {c : Nat} (h : (sget {} sets c).isEmpty = true) (l : TideLoop) :
    (chooseSet sets c l).1.set = l.set ∧ (chooseSet sets c l).1.setEmpty = true := by
  simp [chooseSet, h]

/-! ## What an update latches (R260, R261, R266) -/

/-- The head whose laser a loop drives, for a power loop. -/
def State.powerHead? (s : State) (l : TideLoop) : Option Nat := if l.entry.kind == 1 then s.loopHead? l else none

/-- The word that a power loop's update belongs to. -/
def State.loopWord? (s : State) (l : TideLoop) : Option AtlasEntry :=
  (s.powerHead? l).bind fun n => s.wordEntry? n (s.ix + 3)

/-- The setpoint before injection. -/
def State.loopSp (s : State) (slot : Nat) (l : TideLoop) : Int :=
  match s.sink? 2 slot 0 with
  | some x => if x.2 then x.1 else l.sp
  | none => if l.entry.kind == 1 then (s.loopWord? l).elim l.sp (·.setpoint) else l.spReg

/-- The feed-forward. -/
def State.loopFf (s : State) (slot : Nat) : Int :=
  match s.sink? 3 slot 0 with
  | some (y, true) => y
  | _ => 0

/-- The inputs of an update whose measurement is `pv`, valid or not. -/
def State.tideIn (s : State) (slot : Nat) (l : TideLoop) (pv : Int) (v : Bool) : TideIn :=
  { sp := s.loopSp slot l + s.tide.injected slot 0, pv := pv, f := s.loopFf slot, valid := v
    opened := (s.powerHead? l).any fun n => !(s.engine n).sr.loop }

/-- The loop with the set that the update works from. -/
def State.loopChosen (s : State) (l : TideLoop) : TideLoop × Bool :=
  chooseSet s.tide.sets (if l.entry.kind == 1 then (s.loopWord? l).elim l.chosen (·.set) else l.setSel) l

/-- The update itself: steps 3 to 5 of R263. -/
def State.loopUpdate (s : State) (slot : Nat) (l : TideLoop) (pv : Int) (v : Bool) : TideLoop × TideVals :=
  tideUpdate (s.loopChosen l).1.vals (s.tideIn slot l pv v) (s.loopChosen l).1

/-- What the update delivers. -/
def State.delivered (s : State) (slot : Nat) (l : TideLoop) (pv : Int) (v : Bool) : Int :=
  let c := (s.loopChosen l).1.vals
  let r := s.loopUpdate slot l pv v
  if s.tide.injecting slot 1 then clampInt c.outMin c.outMax (r.1.y + s.tide.injected slot 1) else r.1.y

/-- The loop after the update. -/
def State.loopAfter (s : State) (slot : Nat) (l : TideLoop) (pv : Int) (v : Bool) : TideLoop :=
  { (s.loopUpdate slot l pv v).1 with out := s.delivered slot l pv v, sp := s.loopSp slot l }

/-! ## TIDE_UPDATE -/

/-- The scope of a trip: the channel of a power loop, or every channel (R274). -/
def tripScope (head : Option Nat) (n : Nat) : Bool :=
  match head with
  | some h => n == h
  | none => true

/-- The counts of a power loop's engine after an update. -/
def State.loopCounted (head : Option Nat) (r : TideVals) (s : State) : State :=
  match head with
  | some h => s.modEngine h fun e =>
    { e with loopSwaps := e.loopSwaps + b1 r.swap, loopTrips := e.loopTrips + b1 r.trip }
  | none => s

/-- A trip brings its scope into Eclipse. -/
def State.tripped (head : Option Nat) (trip : Bool) (s : State) : State :=
  if trip then s.trigger (tripScope head) 2 0x0B06 else s

/-- What the update hands to a capture (R278). -/
def State.loopRow (s : State) (slot : Nat) (l : TideLoop) (pv : Int) (v : Bool) : CapRow :=
  { loop := { s.loopAfter slot l pv v with sp := s.loopSp slot l + s.tide.injected slot 0 }
    vals := (s.loopUpdate slot l pv v).2, inj := s.tide.injected slot 0 + s.tide.injected slot 1, f := s.loopFf slot }

/-- The Tide engine's captures, outputs on their way and counts after the update. -/
def State.tideCounted (s : State) (slot : Nat) (l : TideLoop) (pv : Int) (v : Bool) : Tide :=
  let r := (s.loopUpdate slot l pv v).2
  let mine := s.tide.outs.filter fun o => o.1 == slot
  { s.tide with
    caps := s.tide.caps.map fun u => u.map fun u =>
      if u.cfg.slot = slot then u.record s.ix (s.loopRow slot l pv v) else u
    outs := if l.entry.kind == 1 then (s.tide.outs.filter fun o => o.1 != slot) ++ (mine.drop (mine.length - 3)) ++
        [(slot, (s.ix + 3, s.delivered slot l pv v))]
      else s.tide.outs
    swap := s.tide.swap.add (b1 r.swap), satSwap := s.tide.satSwap.add (b1 r.satSwap)
    feTripCnt := s.tide.feTripCnt.add (b1 r.trip), setEmptyCnt := s.tide.setEmptyCnt.add (b1 (s.loopChosen l).2) }

/-- The state after the update of a loop whose measurement is `pv`, before a trip acts. -/
def State.loopStepped (s : State) (slot : Nat) (l : TideLoop) (pv : Int) (v : Bool) : State :=
  State.loopCounted (s.powerHead? l) (s.loopUpdate slot l pv v).2
    (State.modLoop slot (fun _ => s.loopAfter slot l pv v) { s with tide := s.tideCounted slot l pv v })

/-- An update with a measurement in hand. -/
theorem exec_tideUpdate {s : State} {slot : Nat} {l : TideLoop} {pv : Int} {v : Bool} (hl : s.loop? slot = some l)
    (hix : s.ix ≠ 0) (htick : s.tickAt l.entry.period = true) (hpv : s.sink? 1 slot 0 = some (pv, v)) :
    exec (.tideUpdate slot) s = .next
      ((s.loopStepped slot l pv v).tripped (s.powerHead? l) (s.loopUpdate slot l pv v).2.trip) := by
  have hrun : ¬ (s.tickAt l.entry.period = false ∨ s.ix = 0) := by simp [htick, hix]
  show execTideUpdate slot s = _
  unfold execTideUpdate
  rw [hl, hpv]
  exact (if_neg hrun).trans rfl

/-- Between updates, and before the epoch's first sample has passed, nothing happens. -/
theorem exec_tideUpdate_between {s : State} {slot : Nat} {l : TideLoop} (hl : s.loop? slot = some l)
    (htick : s.tickAt l.entry.period = false) : exec (.tideUpdate slot) s = .next s := by
  show execTideUpdate slot s = _
  unfold execTideUpdate
  rw [hl]
  exact if_pos (.inl htick)

/-- Without a measurement route the measurement is a free value; the update runs all the same. -/
theorem exec_tideUpdate_total (s : State) (slot : Nat) : ∃ t, exec (.tideUpdate slot) s = .next t := by
  show ∃ t, execTideUpdate slot s = _
  unfold execTideUpdate
  split
  · exact ⟨_, rfl⟩
  · split
    · exact ⟨_, rfl⟩
    · exact ⟨_, rfl⟩

/-! ## What the update changes -/

theorem State.loop?_modLoop {slot : Nat} {f : TideLoop → TideLoop} (hf : ∀ m, m.entry.slot = slot → (f m).entry.slot = slot)
    (s : State) : (s.modLoop slot f).loop? slot = (s.loop? slot).map f := by
  unfold State.loop? State.modLoop
  dsimp only
  rw [List.find?_map]
  have hp : ((fun l : TideLoop => l.entry.slot == slot) ∘ fun l => if l.entry.slot = slot then f l else l) =
      fun l => l.entry.slot == slot := by
    funext m
    by_cases h : m.entry.slot = slot <;> simp [h, hf]
  rw [hp]
  cases h : s.tide.loops.find? fun l => l.entry.slot == slot with
  | none => rfl
  | some m =>
    have : m.entry.slot = slot := by simpa using List.find?_some h
    simp [this]

theorem State.loopAfter_entry (s : State) (slot : Nat) (l : TideLoop) (pv : Int) (v : Bool) :
    (s.loopAfter slot l pv v).entry = l.entry :=
  tideUpdate_entry _ _ _

theorem State.loopCounted_sameBut (head : Option Nat) (r : TideVals) (s : State) :
    SameBut [.engines] s (s.loopCounted head r) := by
  cases head with
  | none => exact SameBut.refl _ s
  | some h => exact sameBut_engines s _

theorem State.loopStepped_sameBut (s : State) (slot : Nat) (l : TideLoop) (pv : Int) (v : Bool) :
    SameBut [.tide, .engines] s (s.loopStepped slot l pv v) :=
  (((sameBut_tide s (s.tideCounted slot l pv v)).trans (sameBut_tide _ _)).mono (by simp)).trans
    ((State.loopCounted_sameBut _ _ _).mono (by simp))

theorem State.loopStepped_engines {s : State} {l : TideLoop} (h : s.powerHead? l = none) (slot : Nat) (pv : Int)
    (v : Bool) : (s.loopStepped slot l pv v).engines = s.engines := by
  rw [State.loopStepped, h]
  rfl

theorem State.loopStepped_loop? {s : State} {slot : Nat} {l : TideLoop} (hl : s.loop? slot = some l) (pv : Int)
    (v : Bool) : (s.loopStepped slot l pv v).loop? slot = some (s.loopAfter slot l pv v) := by
  have hslot : l.entry.slot = slot := by simpa using List.find?_some hl
  have htide := State.loopCounted_sameBut (s.powerHead? l) (s.loopUpdate slot l pv v).2
    (State.modLoop slot (fun _ => s.loopAfter slot l pv v) { s with tide := s.tideCounted slot l pv v }) .tide (by simp)
  have hkeep := State.loop?_modLoop (slot := slot) (f := fun _ => s.loopAfter slot l pv v)
    (fun _ _ => by rw [s.loopAfter_entry, hslot]) { s with tide := s.tideCounted slot l pv v }
  rw [State.loop?, State.loopStepped, htide]
  refine hkeep.trans ?_
  rw [show ({ s with tide := s.tideCounted slot l pv v } : State).loop? slot = some l from hl]
  rfl

/-! ## The trip -/

/-- What a trigger may change. -/
theorem State.trigger_sameBut (scope : Nat → Bool) (bit : Nat) (code : Code) (s : State) :
    SameBut [.eclipse, .engines, .arb, .tail, .mem, .job, .recoat, .host, .outbox] s (s.trigger scope bit code) := by
  obtain ⟨x, entered, added, _, h⟩ := s.triggerAt_eq s.ix (s.ix + 1) scope bit code
  have stops : SameBut [.engines, .arb, .tail, .mem, .job] s (s.stopEntering s.ix (s.ix + 1) scope) :=
    State.stopEngines_sameBut _ _ _ s
  rw [State.trigger, h]
  exact ((stops.mono (by simp)).trans ((sameBut_eclipse _ x).mono (by simp))).trans
    ((State.announce_sameBut entered added bit code _).mono (by simp))

theorem State.tripped_tide (head : Option Nat) (trip : Bool) (s : State) : (s.tripped head trip).tide = s.tide := by
  cases trip with
  | false => rfl
  | true => exact State.trigger_sameBut _ _ _ s .tide (by simp)

theorem State.declared_congr {s t : State} (h : t.eph = s.eph) (n : Nat) : t.declared n = s.declared n := by
  simp only [State.declared, State.head?, h]

/-- A trip brings the channel of a power loop, or every declared channel, into Eclipse. -/
theorem State.tripped_eclipsed {s : State} {head : Option Nat} {n : Nat} (hn : n < 32) (hd : s.declared n = true)
    (hh : ∀ h, head = some h → n = h) : (s.tripped head true).eclipsed n = true := by
  refine State.trigger_eclipsed 2 0x0B06 hn hd ?_
  cases head with
  | none => rfl
  | some h => exact beq_iff_eq.2 (hh h rfl)

/-- A loop at a multiple of its period: it is stepped once, and a trip brings its channels into Eclipse. -/
theorem tideUpdate_steps {s : State} {slot : Nat} {l : TideLoop} {pv : Int} {v : Bool} (hl : s.loop? slot = some l)
    (hix : s.ix ≠ 0) (htick : s.tickAt l.entry.period = true) (hpv : s.sink? 1 slot 0 = some (pv, v)) :
    ∃ t, exec (.tideUpdate slot) s = .next t ∧ t.loop? slot = some (s.loopAfter slot l pv v) ∧
      ((s.loopUpdate slot l pv v).2.trip = false →
        SameBut [.tide, .engines] s t ∧ (s.powerHead? l = none → t.engines = s.engines)) ∧
      ((s.loopUpdate slot l pv v).2.trip = true →
        (s.loopUpdate slot l pv v).1.feTrip = true ∧ (s.loopUpdate slot l pv v).1.auto = false ∧
        ∀ n, n < 32 → s.declared n = true → (∀ h, s.powerHead? l = some h → n = h) → t.eclipsed n = true) := by
  have stepped := s.loopStepped_sameBut slot l pv v
  refine ⟨_, exec_tideUpdate hl hix htick hpv, ?_, fun hno => ?_, fun htrip => ?_⟩
  · rw [State.loop?, State.tripped_tide]
    exact State.loopStepped_loop? hl pv v
  · rw [hno]
    exact ⟨stepped, fun hnone => State.loopStepped_engines hnone slot pv v⟩
  · obtain ⟨hfe, hauto⟩ := tideUpdate_trip htrip
    refine ⟨hfe, hauto, fun n hn hd hh => ?_⟩
    rw [htrip]
    exact State.tripped_eclipsed hn ((State.declared_congr (stepped .eph (by simp)) n).trans hd) hh

/-- Settles O34, from `tideUpdate_steps`, whose terms are the statement's with their names written out. -/
theorem loopsUpdateAndTrip : Obligations.LoopsUpdateAndTrip := by
  refine ⟨fun s slot l pv v head hl hix htick hpv hhead => ?update,
    fun sets c l => ⟨fun h => chooseSet_of_filled h l, fun h => chooseSet_of_empty h l⟩,
    fun s slot _ _ _ _ _ => exec_tideUpdate_total s slot, fun s slot l => exec_tideUpdate_between⟩
  have key := tideUpdate_steps hl hix htick hpv
  simp only [State.loopAfter, State.delivered, State.loopUpdate, State.tideIn, State.loopChosen, State.loopSp,
    State.loopWord?, State.powerHead?, beq_iff_eq, ← hhead] at key
  exact key

end Sys2Proof.Machine
end

section
/-!
Calibration (R446–R457): what the start and the end of runs keep, and what CAL_RUN and CAL_GRID_LOAD do.
-/

namespace Sys2Proof.Machine

/-! ## Folds that touch each index once -/

/-- A fold over distinct indices in which one index brings `P` to `Q`, and every other index keeps both. -/
theorem foldl_once {β : Type} {f : β → Nat → β} {P Q : β → Prop} {i : Nat} (hP : ∀ b j, j ≠ i → P b → P (f b j))
    (hi : ∀ b, P b → Q (f b i)) (hQ : ∀ b j, j ≠ i → Q b → Q (f b j)) {l : List Nat} (hl : l.Nodup) (hm : i ∈ l)
    {b : β} (hb : P b) : Q (l.foldl f b) := by
  induction l generalizing b with
  | nil => cases hm
  | cons k r ih =>
    obtain ⟨hk, hr⟩ := List.nodup_cons.1 hl
    rw [List.foldl_cons]
    by_cases hki : k = i
    · subst hki
      exact List.foldlRecOn r f (hi b hb) fun c hc j hj => hQ c j (fun h => hk (h ▸ hj)) hc
    · exact ih hr ((List.mem_cons.1 hm).resolve_left (Ne.symm hki)) (hP b k hki hb)

theorem map_upd {α γ : Type} {n : Nat} {f : α → α} {g : α → γ} (h : ∀ a, g (f a) = g a) (t : Vector α n) (i : Nat) :
    (upd t i f).map g = t.map g := by
  unfold upd
  split
  · rename_i a ha
    ext j hj
    rw [Vector.getElem_map, Vector.getElem_map, Vector.getElem_setIfInBounds hj]
    split
    · rename_i hij
      subst hij
      rw [h, ← Vector.getElem?_eq_some_iff.1 ha |>.2]
    · rfl
  · rfl

theorem nth_map {α γ : Type} {n i : Nat} (d : α) (e : γ) (g : α → γ) (t : Vector α n) (h : i < n) :
    nth e (t.map g) i = g (nth d t i) := by
  simp [nth, h]

/-! ## What a run's start and end keep -/

/-- A subject without its requests and runs. -/
def CalSubject.still (c : CalSubject) : CalSubject := { c with requested := false, atEnd := false, running := false }

/-- The calibration unit without its requests, runs and armed ports. -/
def Cal.still (c : Cal) : Cal :=
  { c with subj := c.subj.map CalSubject.still, armed := Vector.replicate 2 false, flights := [] }

/-- Results, values and counts are no matter of requests, runs and armed ports. -/
theorem Cal.of_still {x y : Cal} (h : x.still = y.still) : x.count = y.count ∧ x.reject = y.reject ∧ x.taps = y.taps ∧
    x.phases = y.phases ∧ x.ratios = y.ratios ∧ x.analog = y.analog ∧ x.laneNext = y.laneNext := by
  have get {α : Type} (g : Cal → α) : g x.still = g y.still := congrArg g h
  exact ⟨get Cal.count, get Cal.reject, get Cal.taps, get Cal.phases, get Cal.ratios, get Cal.analog, get Cal.laneNext⟩

theorem CalSubject.of_still {x y : CalSubject} (h : x.still = y.still) : x.lastResult = y.lastResult ∧
    x.streak = y.streak ∧ x.factory = y.factory ∧ x.due = y.due := by
  have get {α : Type} (g : CalSubject → α) : g x.still = g y.still := congrArg g h
  exact ⟨get CalSubject.lastResult, get CalSubject.streak, get CalSubject.factory, get CalSubject.due⟩

/-- A step that starts or ends runs: it completes commands, and leaves results, values and settings. -/
structure CalStep (s t : State) : Prop where
  frame : SameBut [.cal, .host, .outbox] s t
  still : t.cal.still = s.cal.still

theorem CalStep.refl (s : State) : CalStep s s := ⟨SameBut.refl _ s, rfl⟩

theorem CalStep.trans {s t u : State} (h : CalStep s t) (k : CalStep t u) : CalStep s u :=
  ⟨h.frame.trans k.frame, k.still.trans h.still⟩

theorem CalStep.ite {s t u : State} {c : Prop} [Decidable c] (h : CalStep s t) (k : CalStep s u) :
    CalStep s (if c then t else u) := by
  split <;> assumption

theorem CalStep.foldl {α : Type} {f : State → α → State} (h : ∀ s a, CalStep s (f s a)) (l : List α) (s : State) :
    CalStep s (l.foldl f s) :=
  List.foldlRecOn l f (CalStep.refl s) fun t ht a _ => ht.trans (h t a)

theorem CalStep.of_cal {s : State} {x : Cal} (h : x.still = s.cal.still) : CalStep s { s with cal := x } :=
  ⟨(sameBut_cal s x).mono (by simp), h⟩

/-- What completes commands leaves calibration alone. -/
theorem CalStep.of_sameBut {s t : State} (h : SameBut [.host, .outbox] s t) : CalStep s t :=
  ⟨h.mono (by simp), congrArg Cal.still (h .cal (by simp))⟩

theorem CalStep.subj {s t : State} (h : CalStep s t) {i : Nat} (hi : i < 5) : (t.calSubj i).still = (s.calSubj i).still := by
  have hs := congrArg (fun c : Cal => nth {} c.subj i) h.still
  simp only [Cal.still, nth_map {} {} CalSubject.still _ hi] at hs
  exact hs

theorem State.modCal_step {f : CalSubject → CalSubject} (hf : ∀ c, (f c).still = c.still) (i : Nat) (s : State) :
    CalStep s (s.modCal i f) :=
  .of_cal (by simp only [Cal.still, map_upd hf])

/-- A subject that ends leaves the list of waiting commands, and completes some of them. -/
theorem State.calEnded_eq (i how : Nat) (s : State) : ∃ fs : List CalFlight,
    SameBut [.host, .outbox] { s with cal := { s.cal with flights := fs } } (s.calEnded i how) :=
  ⟨_, SameBut.foldl (fun s (x : CalFlight) => s.finishId_sameBut x.flight _ _ _ _ _) _ _⟩

theorem State.calEnded_step (i how : Nat) (s : State) : CalStep s (s.calEnded i how) := by
  obtain ⟨fs, h⟩ := s.calEnded_eq i how
  exact (CalStep.of_cal (by rfl)).trans (.of_sameBut h)

theorem State.calEnded_subj_armed (i how : Nat) (s : State) :
    (s.calEnded i how).cal.subj = s.cal.subj ∧ (s.calEnded i how).cal.armed = s.cal.armed := by
  obtain ⟨fs, h⟩ := s.calEnded_eq i how
  rw [h .cal (by simp)]
  exact ⟨rfl, rfl⟩

theorem State.calSubj_modCal_same {i : Nat} (hi : i < 5) (f : CalSubject → CalSubject) (s : State) :
    (s.modCal i f).calSubj i = f (s.calSubj i) :=
  nth_upd_same _ _ _ hi

theorem State.calSubj_modCal_other {i j : Nat} (h : j ≠ i) (f : CalSubject → CalSubject) (s : State) :
    (s.modCal i f).calSubj j = s.calSubj j :=
  nth_upd_other _ _ _ h

/-- What a subject that starts is first made of: its request is served, where it may be. -/
def State.calServed (i : Nat) (s : State) : State :=
  if s.mayApply (s.calSubj i).atEnd then s.modCal i fun c => { c with requested := false, atEnd := false } else s

/-- Subject `i` may start (R451, R452). -/
def State.calMayStart (step : Bool) (i : Nat) (s : State) : Bool :=
  s.calOpen step && s.calOn i && !((s.calSubj i).running && !(i == 2 && (s.calSubj i).requested)) &&
    ((s.calSubj i).due || ((s.calSubj i).requested && s.mayApply (s.calSubj i).atEnd))

/-- The ports of subject 2 are armed. -/
def State.calArm (s : State) : State :=
  State.calEnded 2 2 (State.modCal 2 (fun c => { c with running := s.fastPort 0 || s.fastPort 1 })
    { s with cal := { s.cal with armed := updAll s.cal.armed fun p a => a || s.fastPort p } })

theorem State.calStartOne_eq (step : Bool) (i : Nat) (s : State) : s.calStartOne step i =
    if s.calMayStart step i then
      if i = 2 then (s.calServed i).calArm else (s.calServed i).modCal i fun c => { c with running := true }
    else s := by
  have guard (a b p q : Bool) : (!a || !b || p || !q) = !(a && b && !p && q) := by
    cases a <;> cases b <;> cases p <;> rfl
  unfold State.calStartOne
  dsimp only
  rw [guard, ← State.calMayStart]
  cases s.calMayStart step i <;> rfl

theorem State.calServed_step (i : Nat) (s : State) : CalStep s (s.calServed i) :=
  CalStep.ite (State.modCal_step (fun _ => by rfl) i s) (CalStep.refl s)

theorem State.calArm_step (s : State) : CalStep s s.calArm :=
  ((CalStep.of_cal (by rfl)).trans (State.modCal_step (fun _ => by rfl) 2 _)).trans (State.calEnded_step 2 2 _)

theorem State.calStartOne_step (step : Bool) (i : Nat) (s : State) : CalStep s (s.calStartOne step i) := by
  rw [State.calStartOne_eq]
  have served := s.calServed_step i
  exact CalStep.ite (CalStep.ite (served.trans (State.calArm_step _)) (served.trans (State.modCal_step (fun _ => by rfl) i _)))
    (CalStep.refl s)

theorem State.calStart_step (s : State) : CalStep s s.calStart :=
  CalStep.foldl (fun s i => s.calStartOne_step false i) _ s

theorem State.calEnded_calStart_step (i how : Nat) (s : State) : CalStep s (s.calEnded i how).calStart :=
  (s.calEnded_step i how).trans (State.calStart_step _)

/-- Outside a calibration opportunity nothing starts. -/
theorem State.calStart_of_closed {s : State} (h : s.calOpen false = false) : s.calStart = s :=
  List.foldlRecOn (motive := (· = s)) _ _ rfl fun t ht i _ => by
    rw [ht, State.calStartOne_eq, State.calMayStart, h]
    rfl

/-! ## Which subjects start -/

/-- A start changes its own subject alone. -/
theorem State.calStartOne_other {i j : Nat} (h : j ≠ i) (step : Bool) (s : State) :
    (s.calStartOne step i).calSubj j = s.calSubj j := by
  have served : (s.calServed i).calSubj j = s.calSubj j := by
    unfold State.calServed
    split
    · exact State.calSubj_modCal_other h _ s
    · rfl
  have arm (hi : i = 2) (t : State) : t.calArm.calSubj j = t.calSubj j := by
    rw [State.calArm, State.calSubj, (State.calEnded_subj_armed 2 2 _).1]
    exact State.calSubj_modCal_other (hi ▸ h) _ _
  rw [State.calStartOne_eq]
  split
  · split
    · rw [arm ‹_›, served]
    · rw [State.calSubj_modCal_other h, served]
  · rfl

/-- Neither results nor records open or close a calibration opportunity. -/
theorem SameBut.calOpen {s t : State} (h : SameBut [.cal, .host, .outbox, .mem, .tail] s t) (step : Bool) :
    t.calOpen step = s.calOpen step := by
  rw [State.calOpen, State.calOpen, h .power (by simp), h .planes (by simp), h .job (by simp)]

theorem CalStep.calOpen {s t : State} (h : CalStep s t) (step : Bool) : t.calOpen step = s.calOpen step :=
  (h.frame.mono (by simp)).calOpen step

theorem CalStep.calOn {s t : State} (h : CalStep s t) (i : Nat) : t.calOn i = s.calOn i := by
  have h := congrArg (fun c : Cal => !c.cleis && c.enabled.getLsbD i) h.still
  exact h

theorem CalStep.mayApply {s t : State} (h : CalStep s t) (atEnd : Bool) : t.mayApply atEnd = s.mayApply atEnd := by
  rw [State.mayApply, State.mayApply, h.frame .planes (by simp)]

/-- A requested subject that may start runs; a run under way leaves its request standing. -/
theorem State.calStartOne_requested {s : State} {i : Nat} (hi : i < 5) (h2 : i ≠ 2) (hopen : s.calOpen false = true)
    (hon : s.calOn i = true) (hreq : (s.calSubj i).requested = true) (hmay : s.mayApply (s.calSubj i).atEnd = true) :
    ((s.calStartOne false i).calSubj i).running = true ∧
      ((s.calStartOne false i).calSubj i).requested = (s.calSubj i).running := by
  have hstart : s.calMayStart false i = !(s.calSubj i).running := by
    simp [State.calMayStart, hopen, hon, hreq, hmay, h2]
  rw [State.calStartOne_eq, hstart]
  cases hrun : (s.calSubj i).running with
  | true => exact ⟨hrun, hreq⟩
  | false =>
    rw [Bool.not_false, if_pos rfl, if_neg h2, State.calSubj_modCal_same hi, State.calServed, if_pos hmay,
      State.calSubj_modCal_same hi]
    exact ⟨rfl, rfl⟩

theorem State.calStart_requested {s : State} {i : Nat} (hi : i < 5) (h2 : i ≠ 2) (hopen : s.calOpen false = true)
    (hon : s.calOn i = true) (hreq : (s.calSubj i).requested = true) (hmay : s.mayApply (s.calSubj i).atEnd = true) :
    (s.calStart.calSubj i).running = true ∧ (s.calStart.calSubj i).requested = (s.calSubj i).running := by
  have fold := foldl_once (f := fun s i => s.calStartOne false i) (P := fun b => CalStep s b ∧ b.calSubj i = s.calSubj i)
    (Q := fun b => (b.calSubj i).running = true ∧ (b.calSubj i).requested = (s.calSubj i).running)
    (fun b j hj hb => ⟨hb.1.trans (b.calStartOne_step false j), (State.calStartOne_other hj.symm false b).trans hb.2⟩)
    (fun b hb => by
      obtain ⟨hstep, hsame⟩ := hb
      rw [← hsame] at hreq hmay ⊢
      exact State.calStartOne_requested hi h2 ((hstep.calOpen false).trans hopen) ((hstep.calOn i).trans hon) hreq
        ((hstep.mayApply _).trans hmay))
    (fun b j hj hb => by rw [State.calStartOne_other hj.symm]; exact hb)
    List.nodup_range (List.mem_range.2 hi) (b := s) ⟨CalStep.refl s, rfl⟩
  exact fold

/-! ## CAL_RUN (R453) -/

/-- The request of a subject by CAL_RUN. -/
def CalSubject.request (final : Bool) (c : CalSubject) : CalSubject :=
  { c with requested := true, atEnd := final && (c.atEnd || !c.requested) }

/-- The subjects of mask `w` requested. -/
def State.calRequested (w : W32) (s : State) : State :=
  (bitsSet w 5).foldl (fun s i => s.modCal i (CalSubject.request s.finalNow)) s

theorem State.calRequested_sameBut (w : W32) (s : State) : SameBut [.cal] s (s.calRequested w) :=
  SameBut.foldl (fun s _ => sameBut_cal s _) _ s

theorem State.calRequested_step (w : W32) (s : State) : CalStep s (s.calRequested w) :=
  CalStep.foldl (fun s i => s.modCal_step (fun _ => by rfl) i) _ s

theorem State.calRequested_calSubj {w : W32} {i : Nat} (hi : i < 5) (s : State) : (s.calRequested w).calSubj i =
    if w.getLsbD i then (s.calSubj i).request s.finalNow else s.calSubj i := by
  split
  case isTrue hw =>
    have fold := foldl_once (f := fun s i => s.modCal i (CalSubject.request s.finalNow))
      (P := fun b => SameBut [.cal] s b ∧ b.calSubj i = s.calSubj i)
      (Q := fun b => b.calSubj i = (s.calSubj i).request s.finalNow)
      (fun b j hj hb => ⟨hb.1.trans (sameBut_cal b _), (State.calSubj_modCal_other hj.symm _ b).trans hb.2⟩)
      (fun b hb => by rw [State.calSubj_modCal_same hi, hb.2, State.finalNow_congr (hb.1 .job (by simp))])
      (fun b j hj hb => (State.calSubj_modCal_other hj.symm _ b).trans hb)
      (List.nodup_range.filter _) (List.mem_filter.2 ⟨List.mem_range.2 hi, hw⟩) (b := s) ⟨SameBut.refl _ s, rfl⟩
    exact fold
  case isFalse hw =>
    refine List.foldlRecOn (motive := fun b : State => b.calSubj i = s.calSubj i) _ _ rfl fun b hb j hj => ?_
    have hne : i ≠ j := fun h => hw (h ▸ (List.mem_filter.1 hj).2)
    exact (State.calSubj_modCal_other hne _ b).trans hb

/-- The command under way that waits for the subjects of mask `w`. -/
def State.calFlight (f : Flight) (w : W32) (s : State) : CalFlight :=
  { flight := f.id, waits := w, accepted := 0, rejected := 0, armed := 0
    late := maskOf 5 fun i => w.getLsbD i && decide (i ≠ 2) && (s.calSubj i).running }

/-- The command waits for its subjects. -/
def State.calWaiting (f : Flight) (w : W32) (s : State) : State :=
  { s.launch f with cal := { (s.launch f).cal with flights := (s.launch f).cal.flights ++ [s.calFlight f w] } }

theorem State.calWaiting_step (f : Flight) (w : W32) (s : State) : CalStep s (s.calWaiting f w) :=
  (CalStep.of_sameBut ((s.launch_sameBut f).mono (by simp))).trans (.of_cal rfl)

theorem State.calWaiting_calSubj (f : Flight) (w : W32) (s : State) (i : Nat) :
    (s.calWaiting f w).calSubj i = s.calSubj i := by
  have h : (s.launch f).cal = s.cal := s.launch_sameBut f .cal (by simp)
  rw [State.calWaiting, State.calSubj, h]
  rfl

theorem exec_calRun {e : Entry} {s t : State} {f : Flight} {m : Nat} (hm : m = e.u 0x18 1) (h : Dispatched 0x0441 e s f t)
    (h0 : 0 < m) (h32 : m < 32) (hen : BitVec.ofNat 32 m &&& t.cal.enabled = BitVec.ofNat 32 m)
    (hcleis : t.cal.cleis = false) (hz : (e.zeroFrom 0x19 0x27).1 = false) :
    exec (.calRun e) s = .next (
      if t.planes.data == .idle then ((t.calRequested (BitVec.ofNat 32 m)).calWaiting f (BitVec.ofNat 32 m)).calStart
      else (t.calRequested (BitVec.ofNat 32 m)).finish f 0x0A00 (t.firstLayer 4) 0 false []) := by
  subst hm
  have req := t.calRequested_sameBut (BitVec.ofNat 32 (e.u 0x18 1))
  rw [← (show (t.calRequested (BitVec.ofNat 32 (e.u 0x18 1))).planes = t.planes from req .planes (by simp)),
    ← State.firstLayer_congr (req .job (by simp))]
  refine (command_of_dispatched h _).trans (congrArg Host.Outcome.next (checked_of_none ?_ _ t))
  rw [firstBad_cons_of_pass ?_, firstBad_cons_of_pass hcleis, firstBad_cons_of_pass hz]
  · rfl
  · simp [hen, Nat.ne_of_gt h0, h32]

theorem exec_calRun_build {e : Entry} {s t : State} {f : Flight} {m : Nat} (hm : m = e.u 0x18 1)
    (h : Dispatched 0x0441 e s f t) (h0 : 0 < m) (h32 : m < 32)
    (hen : BitVec.ofNat 32 m &&& t.cal.enabled = BitVec.ofNat 32 m) (hcleis : t.cal.cleis = false)
    (hz : (e.zeroFrom 0x19 0x27).1 = false) (hdata : t.planes.data ≠ .idle) :
    exec (.calRun e) s =
      .next ((t.calRequested (BitVec.ofNat 32 m)).finish f 0x0A00 (t.firstLayer 4) 0 false []) :=
  (exec_calRun hm h h0 h32 hen hcleis hz).trans (congrArg _ (if_neg (by simp [hdata])))

/-- In DATA_STATE 1 with the core die awake, a requested subject that is enabled runs at once. -/
theorem State.calRun_starts {t : State} {w : W32} {i : Nat} (f : Flight) (hi : i < 5) (h2 : i ≠ 2)
    (hw : w.getLsbD i = true) (hen : t.cal.enabled.getLsbD i = true) (hcleis : t.cal.cleis = false)
    (hdata : t.planes.data = .idle) (humbra : t.power.umbra = .awake) (hcore : t.power.core = true) :
    (((t.calRequested w).calWaiting f w).calStart.calSubj i).running = true ∧
      (((t.calRequested w).calWaiting f w).calStart.calSubj i).requested = (t.calSubj i).running := by
  have step : CalStep t ((t.calRequested w).calWaiting f w) :=
    (t.calRequested_step w).trans (State.calWaiting_step f w _)
  have hsubj : ((t.calRequested w).calWaiting f w).calSubj i = (t.calSubj i).request t.finalNow := by
    rw [State.calWaiting_calSubj, State.calRequested_calSubj hi, if_pos hw]
  have hopen : t.calOpen false = true := by simp [State.calOpen, hdata, humbra, hcore]
  have hon : t.calOn i = true := by simp [State.calOn, hcleis, hen]
  have hmay (b : Bool) : t.mayApply b = true := by simp [State.mayApply, hdata]
  obtain ⟨hrun, hreq⟩ := State.calStart_requested hi h2 ((step.calOpen false).trans hopen) ((step.calOn i).trans hon)
    (by rw [hsubj]; rfl) ((step.mayApply _).trans (hmay _))
  exact ⟨hrun, hreq.trans (by rw [hsubj]; rfl)⟩

end Sys2Proof.Machine
end

section
/-!
Calibration results (R446–R454): how the runs of a subject are judged and applied, grids, deskew sequences and process
inputs.
-/

namespace Sys2Proof.Machine

/-! ## Rejection and acceptance (R449) -/

theorem State.calReject_eq (i why channel : Nat) (a b : List Int) (s : State) : SameBut [.tail, .mem]
    { s with cal := { s.cal with
      reject := s.cal.reject.inc
      subj := upd s.cal.subj i fun c =>
        { c with lastResult := why, streak := min 15 (c.streak + 1), due := true, running := false } } }
    (s.calReject i why channel a b) :=
  State.record_sameBut _ _ _ _

theorem State.calReject_sameBut (i why channel : Nat) (a b : List Int) (s : State) :
    SameBut [.cal, .mem, .tail] s (s.calReject i why channel a b) :=
  ((sameBut_cal s _).mono (by simp)).trans ((s.calReject_eq i why channel a b).mono (by simp))

theorem State.calReject_cal (i why channel : Nat) (a b : List Int) (s : State) :
    (s.calReject i why channel a b).cal = { s.cal with
      reject := s.cal.reject.inc
      subj := upd s.cal.subj i fun c =>
        { c with lastResult := why, streak := min 15 (c.streak + 1), due := true, running := false } } :=
  s.calReject_eq i why channel a b .cal (by simp)

/-- What stands after a rejected result: no value has changed, and the subject is due. -/
theorem CalStep.after_reject {i why channel : Nat} {a b : List Int} {s t : State} (hi : i < 5)
    (h : CalStep (s.calReject i why channel a b) t) : SameBut [.cal, .host, .outbox, .mem, .tail] s t ∧
      (t.cal.count = s.cal.count ∧ t.cal.reject = s.cal.reject.inc ∧ t.cal.taps = s.cal.taps ∧
        t.cal.phases = s.cal.phases ∧ t.cal.ratios = s.cal.ratios ∧ t.cal.analog = s.cal.analog ∧
        t.cal.laneNext = s.cal.laneNext) ∧
      (t.calSubj i).lastResult = why ∧ (t.calSubj i).streak = min 15 ((s.calSubj i).streak + 1) ∧
      (t.calSubj i).due = true := by
  have hcal := s.calReject_cal i why channel a b
  obtain ⟨hcount, hreject, htaps, hphases, hratios, hanalog, hnext⟩ := Cal.of_still h.still
  obtain ⟨hlast, hstreak, _, hdue⟩ := CalSubject.of_still (h.subj hi)
  rw [hcal] at hcount hreject htaps hphases hratios hanalog hnext
  have hsubj := nth_upd_same ({} : CalSubject) s.cal.subj
    (fun c => { c with lastResult := why, streak := min 15 (c.streak + 1), due := true, running := false }) hi
  rw [State.calSubj.eq_def (State.calReject ..), hcal, hsubj] at hlast hstreak hdue
  exact ⟨((s.calReject_sameBut i why channel a b).mono (by simp)).trans (h.frame.mono (by simp)),
    ⟨hcount, hreject, htaps, hphases, hratios, hanalog, hnext⟩, hlast, hstreak, hdue⟩

theorem State.calAccept_sameBut (i : Nat) (s : State) : SameBut [.cal] s (s.calAccept i) :=
  (sameBut_cal s _).trans (sameBut_cal _ _)

/-- What stands after an accepted result, beside the values that it gave. -/
theorem CalStep.after_accept {i : Nat} {s t : State} (hi : i < 5) (h : CalStep (s.calAccept i) t) :
    SameBut [.cal, .host, .outbox] s t ∧ t.cal.count = s.cal.count.inc ∧ t.cal.reject = s.cal.reject ∧
      (t.calSubj i).lastResult = 1 ∧ (t.calSubj i).streak = 0 ∧ (t.calSubj i).factory = false := by
  obtain ⟨hcount, hreject, _⟩ := Cal.of_still h.still
  obtain ⟨hlast, hstreak, hfactory, _⟩ := CalSubject.of_still (h.subj hi)
  have hsubj := State.calSubj_modCal_same hi
    (fun c => { c with lastResult := 1, streak := 0, factory := false, refs := s.calReadings i, due := false
                       running := false }) s
  rw [show (s.calAccept i).calSubj i = _ from hsubj] at hlast hstreak hfactory
  exact ⟨((s.calAccept_sameBut i).mono (by simp)).trans h.frame, hcount, hreject, hlast, hstreak, hfactory⟩

/-! ## The judgement of a subject's channels -/

/-- The verdict on channel `n` of subject `i`. -/
def calVerdict (i : Nat) (run1 run2 : List (List Int)) (n : Nat) : CalVerdict :=
  if i = 0 then judgeDelay (run1.getD n []) (run2.getD n []) else judgeRuns i (run1.getD n []) (run2.getD n [])

/-- The failure of a channel, as a record gives it. -/
def CalVerdict.failAt (n : Nat) : CalVerdict → Option (Nat × Nat × List Int × List Int)
  | .good _ => none
  | .bad why a b => some (why, n, a, b)

/-- A verdict applied: a good one gives the channel its values. -/
def State.calTake (i : Nat) (v : Nat → CalVerdict) (s : State) (n : Nat) : State :=
  match v n with
  | .good l => s.calApply i n l
  | .bad _ _ _ => s

/-- What the end of both runs leaves: the first failure rejects, and without one every result is applied (R449). -/
def State.calJudged (i : Nat) (v : Nat → CalVerdict) (s : State) : List (Nat × Nat × List Int × List Int) → State
  | (why, n, a, b) :: _ => ((s.calReject i why n a b).calEnded i 1).calStart
  | [] => ((((s.calChannels i).foldl (State.calTake i v) s).calAccept i).calEnded i 0).calStart

theorem State.calRunDone_running {i : Nat} {s : State} (h2 : i ≠ 2) (hrun : (s.calSubj i).running = true)
    (run1 run2 : List (List Int)) : s.calRunDone i run1 run2 = s.calJudged i (calVerdict i run1 run2)
      ((s.calChannels i).filterMap fun n => (calVerdict i run1 run2 n).failAt n) :=
  if_neg (by simp [h2, hrun])

theorem State.calRunDone_idle {i : Nat} {s : State} (h : i = 2 ∨ (s.calSubj i).running = false)
    (run1 run2 : List (List Int)) : s.calRunDone i run1 run2 = s :=
  if_pos (by simpa using h)

/-- The first element of an ascending list for which `f` has a value comes first in the filtered list. -/
theorem filterMap_eq_cons_of_first {β : Type} {f : Nat → Option β} {x : β} {n : Nat} {l : List Nat}
    (hl : l.Pairwise (· < ·)) (hn : n ∈ l) (hx : f n = some x) (hbefore : ∀ k ∈ l, k < n → f k = none) :
    ∃ r, l.filterMap f = x :: r := by
  induction l with
  | nil => cases hn
  | cons k r ih =>
    obtain ⟨hk, hr⟩ := List.pairwise_cons.1 hl
    rcases List.mem_cons.1 hn with rfl | hn
    · exact ⟨_, List.filterMap_cons_some hx⟩
    · rw [List.filterMap_cons_none (hbefore k List.mem_cons_self (hk n hn))]
      exact ih hr hn fun j hj => hbefore j (List.mem_cons_of_mem k hj)

/-- The channels of a subject, in ascending order. -/
theorem State.calChannels_ascending (s : State) (i : Nat) : (s.calChannels i).Pairwise (· < ·) := by
  unfold State.calChannels
  split
  case h_2 => exact List.pairwise_lt_range.filter _
  all_goals exact List.pairwise_lt_range

theorem State.calRunDone_fails {i n why : Nat} {a b : List Int} {s : State} {run1 run2 : List (List Int)} (h2 : i ≠ 2)
    (hrun : (s.calSubj i).running = true) (hn : n ∈ s.calChannels i) (hbad : calVerdict i run1 run2 n = .bad why a b)
    (hfirst : ∀ k ∈ s.calChannels i, k < n → ∃ l, calVerdict i run1 run2 k = .good l) :
    s.calRunDone i run1 run2 = ((s.calReject i why n a b).calEnded i 1).calStart := by
  obtain ⟨r, hr⟩ := filterMap_eq_cons_of_first (f := fun n => (calVerdict i run1 run2 n).failAt n)
    (s.calChannels_ascending i) hn (by rw [hbad]; rfl) fun k hk hkn => by
      obtain ⟨l, hl⟩ := hfirst k hk hkn
      rw [hl]
      rfl
  rw [State.calRunDone_running h2 hrun, hr]
  rfl

theorem State.calRunDone_agrees {i : Nat} {s : State} {run1 run2 : List (List Int)} (h2 : i ≠ 2)
    (hrun : (s.calSubj i).running = true)
    (hgood : ∀ n ∈ s.calChannels i, ∃ l, calVerdict i run1 run2 n = .good l) : s.calRunDone i run1 run2 =
      ((((s.calChannels i).foldl (State.calTake i (calVerdict i run1 run2)) s).calAccept i).calEnded i 0).calStart := by
  have hnone : ((s.calChannels i).filterMap fun n => (calVerdict i run1 run2 n).failAt n) = [] :=
    List.filterMap_eq_nil_iff.2 fun n hn => by
      obtain ⟨l, hl⟩ := hgood n hn
      rw [hl]
      rfl
  rw [State.calRunDone_running h2 hrun, hnone]
  rfl

/-! ## Results applied -/

/-- The unit without the values that results give. -/
def Cal.unvalued (c : Cal) : Cal :=
  { c with
    taps := Vector.replicate 32 (0, 0, 0), phases := Vector.replicate 32 0, ratios := Vector.replicate 16 0
    analog := Vector.replicate 8 {} }

theorem Cal.of_unvalued {x y : Cal} (h : x.unvalued = y.unvalued) : x.count = y.count ∧ x.reject = y.reject := by
  have get {α : Type} (g : Cal → α) : g x.unvalued = g y.unvalued := congrArg g h
  exact ⟨get Cal.count, get Cal.reject⟩

theorem State.calApply_unvalued (i n : Nat) (v : List Int) (s : State) :
    SameBut [.cal] s (s.calApply i n v) ∧ (s.calApply i n v).cal.unvalued = s.cal.unvalued := by
  unfold State.calApply
  split <;> exact ⟨sameBut_cal s _, rfl⟩

theorem State.calTaken_unvalued (i : Nat) (v : Nat → CalVerdict) (l : List Nat) (s : State) :
    SameBut [.cal] s (l.foldl (State.calTake i v) s) ∧ (l.foldl (State.calTake i v) s).cal.unvalued = s.cal.unvalued :=
  List.foldlRecOn (motive := fun t : State => SameBut [.cal] s t ∧ t.cal.unvalued = s.cal.unvalued) _ _
    ⟨SameBut.refl _ s, rfl⟩ fun t ht n _ => by
      unfold State.calTake
      split
      · obtain ⟨hsame, hval⟩ := t.calApply_unvalued i n ‹_›
        exact ⟨ht.1.trans hsame, hval.trans ht.2⟩
      · exact ht

/-- Channel `n` of subject `i` has the values of result `l`. -/
def CalHolds (i n : Nat) (l : List Int) (c : Cal) : Prop :=
  (i = 0 → nth (0, 0, 0) c.taps n = ((l.getD 0 0).toNat, (l.getD 1 0).toNat, (l.getD 2 0).toNat)) ∧
  (i = 1 → nth 0 c.phases n = l.getD 0 0) ∧ (i = 3 → nth 0 c.ratios n = l.getD 0 0) ∧
  (i = 4 → (nth {} c.analog n).ofs = l.getD 0 0 ∧ (nth {} c.analog n).scale = l.getD 1 0)

theorem CalStep.holds {i j n : Nat} {l : List Int} {s t : State} (h : CalStep (s.calAccept j) t)
    (hs : CalHolds i n l s.cal) : CalHolds i n l t.cal := by
  obtain ⟨_, _, htaps, hphases, hratios, hanalog, _⟩ := Cal.of_still h.still
  rw [CalHolds, htaps, hphases, hratios, hanalog]
  exact hs

/-- A result applied to a channel of its subject stands there. -/
theorem State.calApply_holds {i n : Nat} {u : State} (hi : i < 5) (h2 : i ≠ 2) (hn : n ∈ u.calChannels i) (l : List Int)
    (s : State) : CalHolds i n l (s.calApply i n l).cal := by
  have hcase : i = 0 ∨ i = 1 ∨ i = 3 ∨ i = 4 := by omega
  rcases hcase with rfl | rfl | rfl | rfl
  · exact ⟨fun _ => nth_upd_same _ _ _ (List.mem_range.1 hn), by simp⟩
  · exact ⟨by simp, fun _ => nth_upd_same _ _ _ (List.mem_range.1 (List.mem_filter.1 hn).1), by simp⟩
  · exact ⟨by simp, by simp, fun _ => nth_upd_same _ _ _ (List.mem_range.1 hn), by simp⟩
  · have h := nth_upd_same ({} : ProcInput) s.cal.analog (fun a => { a with ofs := l.getD 0 0, scale := l.getD 1 0 })
      (List.mem_range.1 hn)
    exact ⟨by simp, by simp, by simp, fun _ => ⟨congrArg ProcInput.ofs h, congrArg ProcInput.scale h⟩⟩

/-- A result applied to another channel leaves it. -/
theorem State.calApply_holds_other {i n m : Nat} (hi : i < 5) (h2 : i ≠ 2) (hmn : m ≠ n) (l l' : List Int) {s : State}
    (h : CalHolds i n l s.cal) : CalHolds i n l (s.calApply i m l').cal := by
  obtain ⟨h0, h1, h3, h4⟩ := h
  have hcase : i = 0 ∨ i = 1 ∨ i = 3 ∨ i = 4 := by omega
  rcases hcase with rfl | rfl | rfl | rfl
  · exact ⟨fun _ => (nth_upd_other _ _ _ hmn.symm).trans (h0 rfl), by simp⟩
  · exact ⟨by simp, fun _ => (nth_upd_other _ _ _ hmn.symm).trans (h1 rfl), by simp⟩
  · exact ⟨by simp, by simp, fun _ => (nth_upd_other _ _ _ hmn.symm).trans (h3 rfl), by simp⟩
  · have h := nth_upd_other ({} : ProcInput) s.cal.analog (fun a => { a with ofs := l'.getD 0 0, scale := l'.getD 1 0 })
      hmn.symm
    exact ⟨by simp, by simp, by simp, fun _ => ⟨(congrArg ProcInput.ofs h).trans (h4 rfl).1,
      (congrArg ProcInput.scale h).trans (h4 rfl).2⟩⟩

theorem State.calTaken_holds {i n : Nat} {v : Nat → CalVerdict} {l : List Int} {s : State} (hi : i < 5) (h2 : i ≠ 2)
    (hn : n ∈ s.calChannels i) (hv : v n = .good l) :
    CalHolds i n l ((s.calChannels i).foldl (State.calTake i v) s).cal :=
  foldl_once (f := State.calTake i v) (P := fun _ => True) (Q := fun t => CalHolds i n l t.cal)
    (fun _ _ _ _ => trivial)
    (fun t _ => by simp only [State.calTake, hv]; exact State.calApply_holds hi h2 hn l t)
    (fun t m hm ht => by
      unfold State.calTake
      split
      · exact State.calApply_holds_other hi h2 hm l _ ht
      · exact ht)
    ((s.calChannels_ascending i).imp Nat.ne_of_lt) hn trivial

/-- What stands after all channels agree: every result applied, the calibration counted, and the subject off its
factory values. -/
theorem CalStep.after_taken {i : Nat} {v : Nat → CalVerdict} {s t : State} (hi : i < 5) (h2 : i ≠ 2)
    (h : CalStep (((s.calChannels i).foldl (State.calTake i v) s).calAccept i) t) :
    SameBut [.cal, .host, .outbox] s t ∧ t.cal.count = s.cal.count.inc ∧ t.cal.reject = s.cal.reject ∧
      (t.calSubj i).lastResult = 1 ∧ (t.calSubj i).streak = 0 ∧ (t.calSubj i).factory = false ∧
      ∀ n ∈ s.calChannels i, ∀ l, v n = .good l → CalHolds i n l t.cal := by
  obtain ⟨hsame, hval⟩ := State.calTaken_unvalued i v (s.calChannels i) s
  obtain ⟨hcount', hreject'⟩ := Cal.of_unvalued hval
  obtain ⟨hframe, hcount, hreject, hlast, hstreak, hfactory⟩ := h.after_accept hi
  exact ⟨(hsame.mono (by simp)).trans hframe, hcount.trans (congrArg Counter.inc hcount'), hreject.trans hreject', hlast,
    hstreak, hfactory, fun n hn l hl => h.holds (State.calTaken_holds hi h2 hn hl)⟩

/-! ## CAL_GRID_LOAD (R454) -/

theorem State.setGrid_sameBut (h : Nat) (b : List Byte) (s : State) : SameBut [.mem, .engines] s (s.setGrid h b) :=
  ((sameBut_mem s _).mono (by simp)).trans ((sameBut_engines _ _).mono (by simp))

theorem State.setGrid_tiles {h : Nat} (hh : h < 32) (b : List Byte) (s : State) : ((s.setGrid h b).engine h).tiles = [] :=
  congrArg Engine.tiles (State.engine_modEngine_same hh _ _)

theorem State.setGrid_grid (h : Nat) (b : List Byte) (s : State) :
    (s.setGrid h b).mem.grids.find? (fun p => p.1 == h) = some (h, { bytes := b.toArray, crc := crc32c b }) := by
  have hkept : (s.mem.grids.filter fun p => p.1 != h).find? (fun p => p.1 == h) = none := by simp
  show ((s.mem.grids.filter fun p => p.1 != h) ++ [(h, ({ bytes := b.toArray, crc := crc32c b } : GridImage))]).find?
    (fun p => p.1 == h) = _
  rw [List.find?_append, hkept]
  simp

/-- A grid waits for step 4 (R454). -/
def State.gridWaiting (h : Nat) (b : List Byte) (s : State) : State :=
  { s with cal := { s.cal with gridLoads := s.cal.gridLoads ++ [{ head := h, bytes := b, atEnd := s.finalNow }] } }

theorem exec_calGridLoad {e : Entry} {s t : State} {f : Flight} {h : Nat} (hh : h = e.u 0x18 1)
    (hd : Dispatched 0x0442 e s f t) (hin : e.inline = false) (hz : (e.zeroFrom 0x19 0x27).1 = false)
    (heph : t.eph.eph.isSome = true) (h31 : h ≤ 31) (hdecl : t.declared h = true) (hlen : e.bufLen.toNat = 792588)
    (hnew : ∀ g ∈ t.cal.gridLoads, g.head ≠ h) (hgood : gridBad 0 e.data = none) :
    exec (.calGridLoad e) s = .next (
      if t.planes.data == .idle then (t.setGrid h e.data).finish f 0 0 ((crc32c e.data).setWidth 64) false []
      else (t.gridWaiting h e.data).finish f 0x0A00 (t.firstLayer 4) ((crc32c e.data).setWidth 64) false []) := by
  subst hh
  refine (command_of_dispatched hd _).trans (congrArg Host.Outcome.next (checked_of_none ?_ _ t))
  rw [firstBad_eq_none]
  simp only [List.forall_mem_cons, List.not_mem_nil, false_imp_iff, implies_true, and_true]
  refine ⟨hin, hz, ?_, ?_, ?_, ?_, ?_, ?_⟩
  · simpa [Option.isSome_iff_ne_none] using heph
  · simpa using h31
  · simpa using hdecl
  · simpa using hlen
  · simpa using hnew
  · simp [hgood]

/-! ## Deskew sequences (R452) -/

/-- The port is no longer armed. -/
def State.disarm (p : Nat) (s : State) : State :=
  { s with cal := { s.cal with armed := upd s.cal.armed p fun _ => false } }

/-- After a sequence of port `p` has been judged, giving `u`: subject 2 runs on while a port is armed. -/
def State.deskewEnd (p : Nat) (s u : State) : State :=
  State.calStart (u.modCal 2 fun c => { c with
    running := nth false (s.disarm p).cal.armed 0 || nth false (s.disarm p).cal.armed 1 })

theorem State.deskewEnd_step (p : Nat) (s u : State) : CalStep u (s.deskewEnd p u) :=
  (State.modCal_step (fun _ => by rfl) 2 u).trans (State.calStart_step _)

/-- Outside a calibration opportunity the port stays disarmed. -/
theorem State.deskewEnd_disarmed {p : Nat} (hp : p < 2) {s u : State} (hu : SameBut [.cal, .host, .outbox, .mem, .tail] s u)
    (harmed : u.cal.armed = (s.disarm p).cal.armed) (hclosed : s.calOpen false = false) :
    nth false (s.deskewEnd p u).cal.armed p = false := by
  refine (congrArg (fun x : State => nth false x.cal.armed p)
    (State.calStart_of_closed (by exact (hu.calOpen false).trans hclosed))).trans ?_
  show nth false u.cal.armed p = false
  rw [harmed]
  exact nth_upd_same _ _ _ hp

/-- How far the halves of lane `k` lie apart. -/
def lanesApart (a b : List Nat) (k : Nat) : Nat := ((a.getD k 0 : Int) - b.getD k 0).natAbs

/-- The taps that a sequence gives. -/
def deskewTaps (a b : List Nat) : List Nat :=
  (List.range (max a.length b.length)).map fun k => (meanOf (a.getD k 0 : Nat) (b.getD k 0 : Nat)).toNat

/-- The taps wait for the next frame start of the port. -/
def State.lanesWaiting (p : Nat) (taps : List Nat) (s : State) : State :=
  { s with cal := { s.cal with laneNext := upd s.cal.laneNext p fun _ => some taps } }

theorem exec_deskewSequence_ignored {p ui : Nat} {s : State} (h : nth false s.cal.armed p = false ∨ ui < 8192)
    (a b : List Nat) : exec (.deskewSequence p ui a b) s = .next s :=
  if_pos (by simpa using h)

/-- A sequence judged: the first lane whose halves are apart rejects it. -/
def State.deskewJudged (p : Nat) (a b : List Nat) (s : State) : Option Nat → State
  | some k => s.calReject 2 2 (8 * p + k) [(a.getD k 0 : Int)] [(b.getD k 0 : Int)]
  | none => (s.lanesWaiting p (deskewTaps a b)).calAccept 2

theorem exec_deskewSequence {p ui : Nat} {s : State} (harmed : nth false s.cal.armed p = true) (hui : 8192 ≤ ui)
    (a b : List Nat) : exec (.deskewSequence p ui a b) s = .next (s.deskewEnd p ((s.disarm p).deskewJudged p a b
      ((List.range (max a.length b.length)).find? fun k => decide (1 < lanesApart a b k)))) :=
  if_neg (by simp [harmed, hui])

/-- An accepted sequence: counted, with its taps waiting. -/
theorem State.deskew_accepted {p : Nat} (hp : p < 2) (taps : List Nat) {s t : State}
    (ht : t = s.deskewEnd p (((s.disarm p).lanesWaiting p taps).calAccept 2)) :
    SameBut [.cal, .host, .outbox] s t ∧ (s.calOpen false = false → nth false t.cal.armed p = false) ∧
      t.cal.count = s.cal.count.inc ∧ nth none t.cal.laneNext p = some taps := by
  subst ht
  have waiting : SameBut [.cal] s ((s.disarm p).lanesWaiting p taps) := (sameBut_cal s _).trans (sameBut_cal _ _)
  have step := s.deskewEnd_step p (((s.disarm p).lanesWaiting p taps).calAccept 2)
  obtain ⟨hsame, hcount, _⟩ := step.after_accept (by decide)
  obtain ⟨_, _, _, _, _, _, hnext⟩ := Cal.of_still step.still
  refine ⟨(waiting.mono (by simp)).trans hsame,
    State.deskewEnd_disarmed hp ((waiting.trans (State.calAccept_sameBut 2 _)).mono (by simp)) rfl, hcount, ?_⟩
  rw [hnext]
  exact nth_upd_same _ _ _ hp

/-- A rejected sequence: counted as one, with the taps as they were. -/
theorem State.deskew_rejected {p : Nat} (hp : p < 2) (channel : Nat) (x y : List Int) {s t : State}
    (ht : t = s.deskewEnd p ((s.disarm p).calReject 2 2 channel x y)) :
    SameBut [.cal, .host, .outbox, .mem, .tail] s t ∧ (s.calOpen false = false → nth false t.cal.armed p = false) ∧
      t.cal.reject = s.cal.reject.inc ∧ t.cal.count = s.cal.count ∧ (t.calSubj 2).lastResult = 2 ∧
      t.cal.laneNext = s.cal.laneNext := by
  subst ht
  have disarmed : SameBut [.cal] s (s.disarm p) := sameBut_cal s _
  have reject := State.calReject_sameBut 2 2 channel x y (s.disarm p)
  obtain ⟨hframe, ⟨hcount, hreject, _, _, _, _, hnext⟩, hlast, _, _⟩ :=
    CalStep.after_reject (i := 2) (by decide) (s.deskewEnd_step p ((s.disarm p).calReject 2 2 channel x y))
  refine ⟨(disarmed.mono (by simp)).trans hframe, State.deskewEnd_disarmed hp
    ((disarmed.mono (by simp)).trans (reject.mono (by simp))) ?_, hreject, hcount, hlast, hnext⟩
  rw [State.calReject_cal]

/-! ## Process inputs (R93, R446) -/

theorem State.source_sameBut (ty index : Nat) (fields : List (Nat × Int)) (s : State) :
    SameBut [.eph] s (s.source ty index fields) :=
  sameBut_eph s _

theorem exec_pulseInputEdge {i : Nat} (hi : i < 8) (fr du : Int) (s : State) :
    ∃ t, exec (.pulseInputEdge i fr du) s = .next t ∧ SameBut [.cal, .eph] s t ∧
      nth {} t.cal.pulse i = { nth {} s.cal.pulse i with
        v0 := fr, v1 := du, v2 := (nth {} s.cal.pulse i).v2 + 1, valid := true } :=
  ⟨_, if_neg (Nat.not_le.2 hi), ((sameBut_cal s _).mono (by simp)).trans ((State.source_sameBut _ _ _ _).mono (by simp)),
    nth_upd_same _ _ _ hi⟩

/-- While subject 4 measures, an input publishes its last value again (R451). -/
theorem exec_analogInputSample_measured {i : Nat} (hi : i < 8) (hz : Int) {s : State}
    (hrun : (s.calSubj 4).running = true) : ∃ t, exec (.analogInputSample i hz) s = .next t ∧ SameBut [.eph] s t :=
  ⟨_, (if_neg (Nat.not_le.2 hi)).trans (if_pos hrun), SameBut.ite (State.source_sameBut _ _ _ _) (SameBut.refl _ s)⟩

/-- The scaled value of an analog input in Hz; with a scale of 0 a value the spec leaves open (R446). -/
def State.analogValue (i : Nat) (hz : Int) (s : State) : Int :=
  if (nth {} s.cal.analog i).scale = 0 then signedOf 32 (s.draw (2 ^ 32)).1
  else roundHalfAway ((((hz - (nth {} s.cal.analog i).ofs : Int) : Rat) * 65536) / ((nth {} s.cal.analog i).scale : Rat))

theorem exec_analogInputSample {i : Nat} (hi : i < 8) (hz : Int) {s : State} (hrun : (s.calSubj 4).running = false) :
    ∃ t, exec (.analogInputSample i hz) s = .next t ∧ SameBut [.cal, .eph, .freeCtr] s t ∧
      nth {} t.cal.analog i = { nth {} s.cal.analog i with v0 := s.analogValue i hz, v1 := hz, valid := true } := by
  have drawn : SameBut [.freeCtr] s (if (nth {} s.cal.analog i).scale = 0 then (s.draw (2 ^ 32)).2 else s) :=
    SameBut.ite (s.draw_sameBut _) (SameBut.refl _ s)
  refine ⟨_, (if_neg (Nat.not_le.2 hi)).trans (if_neg (by simp [hrun])), ((drawn.mono (by simp)).trans
    ((sameBut_cal _ _).mono (by simp))).trans ((State.source_sameBut _ _ _ _).mono (by simp)), ?_⟩
  refine (nth_upd_same _ _ _ hi).trans ?_
  rw [drawn .cal (by simp)]
  rfl

/-! ## The obligation -/

/-- Settles O55, part by part: `exec_calRun`, `exec_calGridLoad`, `State.calRunDone_agrees`, `State.calRunDone_fails`,
`exec_deskewSequence` and the process inputs. -/
theorem calibrationsRunAndApply : Obligations.CalibrationsRunAndApply := by
  refine ⟨fun e s t f => ⟨fun m hm h h0 h32 hen hcleis hz => ?calRun, fun n hn h hin hz heph h31 hdecl hlen hnew hgood => ?grid⟩,
    fun s i run1 run2 hi => ⟨rfl, fun h => State.calRunDone_idle h run1 run2, fun h2 hrun hgood => ?agrees,
      fun n hn why a b h2 hrun hbad hfirst => ?fails⟩,
    fun s p ui a b hp => ⟨fun h => exec_deskewSequence_ignored h a b, fun harmed hui => ⟨fun h => ?accepted, fun h => ?rejected⟩⟩,
    fun s i hi => ⟨fun fr du => exec_pulseInputEdge hi fr du s,
      fun hz hrun => exec_analogInputSample_measured hi hz hrun, fun hz hrun => ?analog⟩⟩
  case calRun =>
    have hbit (i : Nat) (hi : i < 5) : (BitVec.ofNat 32 m).getLsbD i = m.testBit i := by
      rw [BitVec.getLsbD_ofNat, decide_eq_true (by omega), Bool.true_and]
    refine ⟨fun hdata => ⟨_, exec_calRun_build hm h h0 h32 hen hcleis hz hdata, t.calRequested_sameBut _, fun i hi => ?_⟩,
      fun hdata humbra hcore => ⟨_, (exec_calRun hm h h0 h32 hen hcleis hz).trans (congrArg _ (if_pos (by simp [hdata]))),
        (((t.calRequested_step _).trans (State.calWaiting_step f _ _)).trans (State.calStart_step _)).frame,
        fun i hi h2 hmi => ?_⟩⟩
    · rw [State.calRequested_calSubj hi, hbit i hi]
      rfl
    · have hw := (hbit i hi).trans hmi
      have hi' : t.cal.enabled.getLsbD i = true := by
        have := congrArg (BitVec.getLsbD · i) hen
        simpa only [BitVec.getLsbD_and, hw, Bool.true_and] using this
      exact State.calRun_starts f hi h2 hw hi' hcleis hdata humbra hcore
  case grid =>
    have hrun := exec_calGridLoad hn h hin hz heph h31 hdecl hlen hnew hgood
    exact ⟨fun hdata => ⟨_, hrun.trans (congrArg _ (if_pos (by simp [hdata]))), t.setGrid_sameBut n e.data,
        State.setGrid_tiles (by omega) e.data t, t.setGrid_grid n e.data⟩,
      fun hdata => ⟨_, hrun.trans (congrArg _ (if_neg (by simp [hdata]))), sameBut_cal t _, rfl⟩⟩
  case agrees =>
    rw [State.calRunDone_agrees h2 hrun hgood]
    exact (State.calEnded_calStart_step i 0 _).after_taken hi h2
  case fails =>
    rw [State.calRunDone_fails h2 hrun hn hbad hfirst]
    obtain ⟨hframe, ⟨hcount, hreject, htaps, hphases, hratios, hanalog, _⟩, hjudged⟩ :=
      CalStep.after_reject hi (State.calEnded_calStart_step i 1 _)
    exact ⟨hframe, hcount, hreject, htaps, hphases, hratios, hanalog, hjudged⟩
  case accepted =>
    have hnone : ((List.range (max a.length b.length)).find? fun k => decide (1 < lanesApart a b k)) = none := by
      simpa [lanesApart] using h
    have hrun := exec_deskewSequence harmed hui a b
    rw [hnone] at hrun
    exact ⟨_, hrun, State.deskew_accepted hp (deskewTaps a b) rfl⟩
  case rejected =>
    obtain ⟨k, hk⟩ : ∃ k, ((List.range (max a.length b.length)).find? fun k => decide (1 < lanesApart a b k)) = some k := by
      rw [← Option.isSome_iff_exists, List.find?_isSome]
      simpa [lanesApart] using h
    have hrun := exec_deskewSequence harmed hui a b
    rw [hk] at hrun
    exact ⟨_, hrun, State.deskew_rejected hp _ _ _ rfl⟩
  case analog =>
    obtain ⟨t, hrun', hsame, hval⟩ := exec_analogInputSample hi hz hrun
    exact ⟨t, _, hrun', hsame, hval, fun h0 => if_neg h0⟩

end Sys2Proof.Machine
end

section
/-!
Hosts: what posts and events leave of the slots and the links, and what a port that goes down takes from its slots
(R105, R106).
-/

namespace Sys2Proof.Machine

/-! ## What posts and events leave alone -/

/-- A slot without its count of dropped events (R123), the one thing of a slot that an event changes. -/
def Slot.still (x : Slot) : Slot := { x with dropped := 0 }

/-- What posts and events leave as it was: the slots, but for that count, and the links of the ports. -/
def State.standing (s : State) : List Slot × (Nat → Bool) :=
  (s.host.slots.map Slot.still, fun p => (s.port p).linkUp)

theorem State.standing_of_host {s t : State} (h : t.host = s.host) : t.standing = s.standing := by
  simp only [State.standing, State.port, h]

theorem State.still_of_standing {s t : State} (h : t.standing = s.standing) (j : Nat) :
    (t.slot j).still = (s.slot j).still := by
  have hslots (u : State) : (u.slot j).still = u.standing.1[j]?.getD Slot.empty := by
    simp only [State.slot, State.standing, List.getElem?_map]
    cases u.host.slots[j]? <;> rfl
  rw [hslots, hslots, h]

theorem State.held_of_standing {s t : State} (h : t.standing = s.standing) (j : Nat) :
    (t.slot j).held = (s.slot j).held :=
  (congrArg Slot.held (State.still_of_standing h j) :)

theorem State.linkUp_modPort {p : Nat} {f : Port → Port} (hf : ∀ q, (f q).linkUp = q.linkUp) (k : Nat) (s : State) :
    ((s.modPort p f).port k).linkUp = (s.port k).linkUp := by
  by_cases hk : k = p
  · subst hk
    by_cases h3 : k < 3
    · rw [State.port_modPort_same h3, hf]
    · simp [State.port, State.modPort, nth, h3]
  · exact congrArg Port.linkUp (nth_upd_other _ _ _ hk)

theorem State.modPort_standing {f : Port → Port} (hf : ∀ q, (f q).linkUp = q.linkUp) (p : Nat) (s : State) :
    (s.modPort p f).standing = s.standing :=
  congrArg (Prod.mk (s.host.slots.map Slot.still)) (funext fun k => State.linkUp_modPort hf k s)

/-- A map over a list of which one entry is changed, where map and change agree. -/
theorem map_modify {α β : Type} {e : α → β} {f : α → α} {g : β → β} (h : ∀ x, e (f x) = g (e x)) (l : List α)
    (i : Nat) : (l.modify i f).map e = (l.map e).modify i g := by
  apply List.ext_getElem?
  intro j
  simp only [List.getElem?_map, List.getElem?_modify]
  cases l[j]? with
  | none => rfl
  | some x => by_cases hj : i = j <;> simp [hj, h]

/-- A change of a slot that leaves its count of dropped events. -/
theorem State.modSlot_standing {f : Slot → Slot} (hf : ∀ x, (f x).still = f x.still) (i : Nat) (s : State) :
    (s.modSlot i f).standing = (s.standing.1.modify i f, s.standing.2) :=
  congrArg (·, s.standing.2) (map_modify hf s.host.slots i)

/-- A change of that count alone. -/
theorem State.modSlot_standing_dropped (i : Nat) (n : Slot → W32) (s : State) :
    (s.modSlot i fun x => { x with dropped := n x }).standing = s.standing := by
  have hsame := map_modify (e := Slot.still) (f := fun x => { x with dropped := n x }) (g := id) (fun _ => by rfl)
    s.host.slots i
  rw [List.modify_id] at hsame
  exact congrArg (·, s.standing.2) hsame

theorem State.raiseVector_standing (port vector : Nat) (s : State) :
    (s.raiseVector port vector).standing = s.standing := by
  unfold State.raiseVector
  split
  · rfl
  · exact State.modPort_standing (fun _ => by rfl) port s

theorem State.postCq_standing (qn port : Nat) (c : Cpl) (irq : Bool) (s : State) :
    (s.postCq qn port c irq).standing = s.standing := by
  unfold State.postCq
  dsimp only
  split
  · exact State.raiseVector_standing _ _ _
  · rfl

theorem State.eventTo_standing (i type : Nat) (status : Code) (r1 : W64) (s : State) :
    (s.eventTo i type status r1).standing = s.standing := by
  have count (n : Slot → W32) (t : State) := State.modSlot_standing_dropped i n t
  unfold State.eventTo
  dsimp only
  split
  · rfl
  · split
    · split
      · exact (count _ _).trans (State.postCq_standing _ _ _ _ _)
      · exact count _ _
    · split
      · exact count _ _
      · exact count _ _

theorem State.eventBut_standing (skip : Nat → Bool) (type : Nat) (status : Code) (r1 : W64) (s : State) :
    (s.eventBut skip type status r1).standing = s.standing := by
  refine foldl_keep State.standing _ (fun t i => ?_) _ s
  split
  · rfl
  · exact State.eventTo_standing i type status r1 t

theorem State.record_standing (type : Nat) (plane : Plane) (payload : List Byte) (s : State) :
    (s.record type plane payload).standing = s.standing :=
  State.standing_of_host (s.record_sameBut type plane payload .host (by simp))

theorem State.pilotLost_standing (i : Nat) (s : State) : (s.pilotLost i).standing = s.standing := by
  unfold State.pilotLost
  split
  · unfold State.cancelCommit
    split
    · exact State.record_standing _ _ _ s
    · exact (State.eventBut_standing _ _ _ _ _).trans (State.record_standing 0x0011 .management [] s)
  · rfl

/-! ## A slot whose port goes down (R106) -/

/-- What is left of a slot when its port goes down: it holds no role, and its session has ended. -/
def Slot.down (x : Slot) : Slot := { x with held := 0, session := none }

theorem State.dropRoles_standing (i : Nat) (m : BitVec 4) (s : State) :
    (s.dropRoles i m).standing =
      (s.standing.1.modify i (fun x => { x with held := x.held &&& ~~~m }), s.standing.2) := by
  have hdrop := State.modSlot_standing (f := fun x => { x with held := x.held &&& ~~~m }) (fun _ => by rfl) i s
  unfold State.dropRoles
  dsimp only
  split
  · exact (State.pilotLost_standing i _).trans hdrop
  · exact hdrop

theorem State.inFlight_standing (fs : List Flight) (hs : List Held) (s : State) :
    ({ s with host := { s.host with flights := fs, held := hs } } : State).standing = s.standing := rfl

theorem State.stopQueues_standing (qs : List Nat) (s : State) :
    (qs.foldl (fun s q => s.modQueue q (Queue.restart false)) s).standing = s.standing :=
  foldl_keep State.standing _ (fun _ _ => by rfl) qs s

/-- A port that goes down for a slot takes its roles and its session; the other slots and the links stay. -/
theorem State.slotDown_standing (i : Nat) (s : State) :
    (s.slotDown i).standing = (s.standing.1.modify i Slot.down, s.standing.2) := by
  have hdown : (fun x : Slot => { x with session := none }) ∘
      (fun x => { x with held := x.held &&& ~~~(0xF : BitVec 4) }) = Slot.down := by
    funext x
    simp [Slot.down]
  unfold State.slotDown
  dsimp only
  rw [State.eventBut_standing, State.record_standing, State.modSlot_standing (fun _ => by rfl),
    State.inFlight_standing, State.modPort_standing (fun _ => by rfl), State.stopQueues_standing,
    State.dropRoles_standing, List.modify_modify_eq, hdown]

theorem State.still_slotDown_same (i : Nat) (s : State) :
    ((s.slotDown i).slot i).still = (s.slot i).still.down := by
  have h := (State.slotDown_standing i s).trans (State.modSlot_standing (f := Slot.down) (fun _ => by rfl) i s).symm
  rw [State.still_of_standing h]
  simp only [State.slot, State.modSlot, List.getElem?_modify_eq]
  cases s.host.slots[i]? <;> rfl

theorem State.held_slotDown_same (i : Nat) (s : State) : ((s.slotDown i).slot i).held = 0 :=
  congrArg Slot.held (State.still_slotDown_same i s)

theorem State.session_slotDown_same (i : Nat) (s : State) : ((s.slotDown i).slot i).session = none :=
  congrArg Slot.session (State.still_slotDown_same i s)

theorem State.held_slotDown_other {i j : Nat} (h : j ≠ i) (s : State) :
    ((s.slotDown i).slot j).held = (s.slot j).held := by
  have hst := (State.slotDown_standing i s).trans (State.modSlot_standing (f := Slot.down) (fun _ => by rfl) i s).symm
  exact (State.held_of_standing hst j).trans (congrArg Slot.held (State.slot_modSlot_other h Slot.down s))

theorem State.linkUp_slotDown (i p : Nat) (s : State) : ((s.slotDown i).port p).linkUp = (s.port p).linkUp :=
  congrFun (congrArg Prod.snd (State.slotDown_standing i s)) p

/-! ## A PCIe port that goes down -/

/-- Ports that go down slot by slot take the roles of those slots, and of no others. -/
theorem State.held_slotsDown (l : List Nat) (j : Nat) (s : State) :
    ((l.foldl (fun s i => s.slotDown i) s).slot j).held = if j ∈ l then 0 else (s.slot j).held := by
  induction l generalizing s with
  | nil => rfl
  | cons i r ih =>
    rw [List.foldl_cons, ih]
    by_cases hr : j ∈ r
    · simp [hr]
    · by_cases hi : j = i
      · subst hi
        simp [hr, State.held_slotDown_same]
      · simp [hr, hi, State.held_slotDown_other hi]

theorem State.linkUp_slotsDown (l : List Nat) (p : Nat) (s : State) :
    ((l.foldl (fun s i => s.slotDown i) s).port p).linkUp = (s.port p).linkUp :=
  foldl_keep (fun t : State => (t.port p).linkUp) _ (fun t i => State.linkUp_slotDown i p t) l s

/-- The slots bound to port `p`, which its going down concerns (R106). -/
def State.boundTo (s : State) (p : Nat) : List Nat := (List.range 8).filter fun i => s.portOf i == p

theorem State.mem_boundTo {s : State} {p i : Nat} : i ∈ s.boundTo p ↔ i < 8 ∧ s.portOf i = p := by
  simp [State.boundTo]

/-- A port with its link down and its MSI-X table at reset. -/
def State.unlink (p : Nat) (s : State) : State := s.modPort p fun q => { q with linkUp := false, msix := [], pba := 0 }

theorem State.portDown_eq (p : Nat) (s : State) : s.portDown p =
    if (s.port p).linkUp then (s.boundTo p).foldl (fun s i => s.slotDown i) (s.unlink p) else s.unlink p := rfl

theorem State.linkUp_unlink {p : Nat} (h : p < 3) (s : State) : ((s.unlink p).port p).linkUp = false :=
  congrArg Port.linkUp (State.port_modPort_same h _ s)

theorem State.linkUp_portDown {p : Nat} (h : p < 3) (s : State) : ((s.portDown p).port p).linkUp = false := by
  rw [State.portDown_eq]
  split
  · rw [State.linkUp_slotsDown, State.linkUp_unlink h]
  · exact State.linkUp_unlink h s

/-- Where the link was up, the slots bound to the port hold no role. -/
theorem State.held_portDown_bound {p i : Nat} {s : State} (hup : (s.port p).linkUp = true) (hi : i < 8)
    (hp : s.portOf i = p) : ((s.portDown p).slot i).held = 0 := by
  rw [State.portDown_eq, if_pos hup, State.held_slotsDown, if_pos (State.mem_boundTo.2 ⟨hi, hp⟩)]

/-- The slots of other ports keep their roles. -/
theorem State.held_portDown_other {p i : Nat} {s : State} (hp : s.portOf i ≠ p) :
    ((s.portDown p).slot i).held = (s.slot i).held := by
  rw [State.portDown_eq]
  split
  · rw [State.held_slotsDown, if_neg fun h => hp (State.mem_boundTo.1 h).2]
    rfl
  · rfl

/-! ## Link events (R97, R99) -/

/-- What the loss of a link, PERST# and a hot reset do to the roles and the link of port `p`. -/
structure LinkLost (p : Nat) (s t : State) : Prop where
  bound : (s.port p).linkUp = true → ∀ i, i < 8 → s.portOf i = p → (t.slot i).held = 0
  other : ∀ i, i < 8 → s.portOf i ≠ p → (t.slot i).held = (s.slot i).held

theorem linkLost_portDown (p : Nat) (f : Port → Port) (s : State) : LinkLost p s ((s.portDown p).modPort p f) :=
  ⟨fun hup _ hi hp => State.held_portDown_bound hup hi hp, fun _ _ hp => State.held_portDown_other hp⟩

/-- A wake of the endpoint leaves its link. -/
theorem State.linkUp_wakePort (p : Nat) (s : State) : ((s.wakePort p).port p).linkUp = (s.port p).linkUp :=
  State.linkUp_modPort (fun _ => by rfl) p s

theorem State.linkUp_lost (b : Bool) (s : State) :
    (((s.portDown (b1 b)).wakePort (b1 b)).port (b1 b)).linkUp = false :=
  (State.linkUp_wakePort _ _).trans (State.linkUp_portDown (b1_lt_three b) s)

/-- What every link event that takes the link down answers. -/
theorem exec_linkLost {b : Bool} {c : Instr}
    (h : c = .pcieLinkDown b ∨ c = .perstAssert b ∨ c = .hotReset b) (s : State) :
    ∃ t, exec c s = .next t ∧ (t.port (b1 b)).linkUp = false ∧ LinkLost (b1 b) s t := by
  rcases h with rfl | rfl | rfl
  case inl => exact ⟨_, rfl, State.linkUp_lost b s, linkLost_portDown _ _ s⟩
  case inr.inl =>
    let u : State := { s with power := { s.power with perst := upd s.power.perst (b1 b) fun _ => true } }
    have hlost := linkLost_portDown (b1 b) (fun q => { q with d3hot := false }) u
    exact ⟨_, rfl, State.linkUp_lost b u, hlost.bound, hlost.other⟩
  case inr.inr => exact ⟨_, rfl, State.linkUp_lost b s, linkLost_portDown _ _ s⟩

/-- FUNCTION_LEVEL_RESET takes the roles and leaves the link up. -/
theorem exec_functionLevelReset {b : Bool} {s : State} (hup : (s.port (b1 b)).linkUp = true) :
    ∃ t, exec (.functionLevelReset b) s = .next t ∧ (t.port (b1 b)).linkUp = true ∧ LinkLost (b1 b) s t := by
  have hlost := linkLost_portDown (b1 b) (fun q => { q with d3hot := false }) s
  refine ⟨_, congrArg Host.Outcome.next (if_pos hup), ?_, hlost.bound, hlost.other⟩
  exact congrArg Port.linkUp (State.port_modPort_same (b1_lt_three b) _ _)

/-- A link trains while the core die runs, no Umbra is under way and PERST# is released. -/
theorem exec_pcieLinkUp {b : Bool} {s : State} (hcore : s.power.core = true) (hmode : s.companionMode = false)
    (hperst : nth false s.power.perst (b1 b) = false) :
    exec (.pcieLinkUp b) s = .next (s.modPort (b1 b) fun q => { q with linkUp := true, d3hot := false }) := by
  show execPcieLinkUp b s = _
  simp only [execPcieLinkUp, hcore, hmode, hperst, Bool.not_true, Bool.or_self, Bool.false_eq_true, if_false]

theorem exec_d3hotEntry {b : Bool} {s : State} (hup : (s.port (b1 b)).linkUp = true) :
    exec (.d3hotEntry b) s = .next (s.modPort (b1 b) fun q => { q with d3hot := true }) :=
  congrArg Host.Outcome.next (if_pos hup)

/-! ## ARP and ICMP (R100) -/

theorem State.addressed_own {s : State} (h : s.planes.mgmt = .running ∨ s.planes.mgmt = .nadir) :
    s.addressed s.boot.ipv4.toNat = true := by
  rcases h with h | h <;> simp [State.addressed, h]

/-- What the management domain answers is sent, and its clock runs. -/
theorem State.answered_sameBut (o : Out) (s : State) : SameBut [.outbox, .power] s (s.clockMgmt.send o) :=
  ((sameBut_power s _).mono (by simp)).trans ((sameBut_outbox s.clockMgmt _).mono (by simp))

/-- Settles O18, from what a port that goes down takes (`State.slotDown_standing`) and the equation of each event. -/
theorem portsGoUpAndDown : Obligations.PortsGoUpAndDown := by
  intro b s _
  refine ⟨fun c hc => ?lost, fun hup => ?reset, fun hcore hmode hperst => ?up, fun hup => ?d3,
    fun e mac d hrun => ?answers⟩
  case lost =>
    obtain ⟨t, hrun, hdown, hlost⟩ := exec_linkLost hc s
    exact ⟨t, hrun, hdown, hlost.bound, hlost.other⟩
  case reset =>
    obtain ⟨t, hrun, hstays, hlost⟩ := exec_functionLevelReset hup
    exact ⟨t, hrun, hstays, hlost.bound hup, hlost.other⟩
  case up =>
    exact ⟨_, exec_pcieLinkUp hcore hmode hperst,
      congrArg Port.linkUp (State.port_modPort_same (b1_lt_three b) _ s), sameBut_host s _⟩
  case d3 =>
    exact ⟨_, exec_d3hotEntry hup, congrArg Port.d3hot (State.port_modPort_same (b1_lt_three b) _ s), sameBut_host s _⟩
  case answers =>
    have hto := State.addressed_own hrun
    exact ⟨⟨_, congrArg Host.Outcome.next (if_pos hto), rfl, State.answered_sameBut _ s⟩,
      ⟨_, congrArg Host.Outcome.next (if_pos hto), rfl, State.answered_sameBut _ s⟩⟩

end Sys2Proof.Machine
end

section
/-!
Management sessions (R106, R126–R129): what a frame meets, how a session opens, is kept and ends, and what bad and
repeated frames get.
-/

namespace Sys2Proof.Machine

/-! ## Frames of a session -/

/-- A frame that is taken is one of an open session of its sender; its SEQ is noted there. -/
theorem State.takeFrameAt_taken {addr : Nat} {h : FrameHdr} {s : State} (ht : (s.takeFrameAt addr h).1 = true) :
    ∃ ss, (s.slot h.slot).session = some ss ∧ (s.takeFrameAt addr h).2 =
      s.clockMgmt.modSlot h.slot fun x => { x with session := some (ss.take h.seq) } := by
  have hslot : s.clockMgmt.slot h.slot = s.slot h.slot := rfl
  unfold State.takeFrameAt at ht ⊢
  simp only [hslot] at ht ⊢
  cases hm : s.clockMgmt.mgmtSlot h.slot with
  | false => simp [hm] at ht
  | true =>
    cases hss : (s.slot h.slot).session with
    | none => simp [hm, hss] at ht
    | some ss =>
      refine ⟨ss, rfl, ?_⟩
      simp only [hm, hss, Bool.not_true, Bool.false_eq_true, if_false] at ht ⊢
      split at ht
      · cases ht
      · rw [if_neg ‹_›]
        cases hhi : ss.highest with
        | none => rfl
        | some hi =>
          by_cases hnew : 0 < seqDiff 32 h.seq.toNat hi.toNat
          · simp only [hnew, decide_true, if_true]
          · simp only [hhi, hnew, decide_false, Bool.false_eq_true, if_false] at ht
            split at ht <;> cases ht

/-- A frame of the session that is not later than the highest SEQ seen gets the reply that its SEQ had, if that is
held, and runs nothing. -/
theorem State.takeFrameAt_repeated {addr : Nat} {h : FrameHdr} {s : State} {ss : Session} {hi : W32}
    (hm : s.mgmtSlot h.slot = true) (hss : (s.slot h.slot).session = some ss) (hsender : ss.sender = h.sender)
    (hhi : ss.highest = some hi) (hold : ¬ 0 < seqDiff 32 h.seq.toNat hi.toNat) :
    s.takeFrameAt addr h = (false, ((ss.replies.find? fun r => r.1 == h.seq).bind (·.2)).elim s.clockMgmt
      fun b => s.clockMgmt.send (.reply h b)) := by
  have hslot : s.clockMgmt.slot h.slot = s.slot h.slot := rfl
  have hbound : s.clockMgmt.mgmtSlot h.slot = true := hm
  simp only [State.takeFrameAt, hslot, hbound, hss, hsender, hhi, hold, Bool.not_true, Bool.false_eq_true, ne_eq,
    not_true_eq_false, if_false, decide_false]
  split
  next hb => rw [hb]; rfl
  next hb => rw [hb]; rfl

/-- A slot with a session is one of the slots that stand. -/
theorem State.lt_of_session {s : State} {i : Nat} {ss : Session} (h : (s.slot i).session = some ss) :
    i < s.host.slots.length := by
  by_contra hi
  rw [State.slot, List.getElem?_eq_none (Nat.not_lt.1 hi)] at h
  cases h

/-! ## Replies -/

theorem State.session_modSlot {f : Slot → Slot} {i : Nat} {k : Option Session → Option Session}
    (hf : ∀ x, (f x).session = k x.session) (hk : k none = none) (s : State) :
    ((s.modSlot i f).slot i).session = k (s.slot i).session := by
  simp only [State.slot, State.modSlot, List.getElem?_modify_eq]
  cases s.host.slots[i]? with
  | none => exact hk.symm
  | some x => exact hf x

/-- A reply is kept in the session it belongs to. -/
theorem State.session_reply (h : FrameHdr) (b : ReplyBody) (s : State) :
    ((s.reply h b).slot h.slot).session = (s.slot h.slot).session.map (Session.keep h.seq b) :=
  State.session_modSlot (k := Option.map (Session.keep h.seq b)) (fun _ => by rfl) rfl s

/-- A reply leaves the roles. -/
theorem State.reply_sameRoles (h : FrameHdr) (b : ReplyBody) (s : State) : SameRoles s (s.reply h b) :=
  (s.modSlot_sameRoles h.slot fun _ => by rfl).trans (.of_slots rfl)

/-! ## Sessions that open, are kept and end -/

/-- The session that a SESSION_OPEN opens. -/
def FrameHdr.opened (h : FrameHdr) : Session := ({ sender := h.sender } : Session).take h.seq

theorem exec_sessionOpen {h : FrameHdr} {s : State} (hans : s.answersFrames = true) (hm : s.mgmtSlot h.slot = true)
    (hnone : (s.slot h.slot).session = none) : exec (.sessionOpen h) s =
      .next ((s.clockMgmt.modSlot h.slot fun x => { x with session := some h.opened }).accepted h) := by
  have hslot : s.clockMgmt.slot h.slot = s.slot h.slot := rfl
  have hbound : s.clockMgmt.mgmtSlot h.slot = true := hm
  show execSessionOpen h s = _
  simp only [execSessionOpen, hans, hslot, hbound, hnone, Bool.not_true, Bool.false_eq_true, if_false]
  rfl

theorem exec_sessionOpen_busy {h : FrameHdr} {s : State} {ss : Session} (hans : s.answersFrames = true)
    (hm : s.mgmtSlot h.slot = true) (hss : (s.slot h.slot).session = some ss) (hne : ss.sender ≠ h.sender) :
    exec (.sessionOpen h) s = .next (s.clockMgmt.refuseFrame 0 h 0x0408) := by
  have hslot : s.clockMgmt.slot h.slot = s.slot h.slot := rfl
  have hbound : s.clockMgmt.mgmtSlot h.slot = true := hm
  show execSessionOpen h s = _
  simp only [execSessionOpen, hans, hslot, hbound, hss, hne, Bool.not_true, Bool.false_eq_true, if_false, ne_eq,
    not_false_eq_true, if_true]

theorem exec_sessionOpen_foreign {h : FrameHdr} {s : State} (hans : s.answersFrames = true)
    (hm : s.mgmtSlot h.slot = false) : exec (.sessionOpen h) s = .next (s.clockMgmt.refuseFrame 0 h 0x0304) := by
  have hbound : s.clockMgmt.mgmtSlot h.slot = false := hm
  show execSessionOpen h s = _
  simp only [execSessionOpen, hans, hbound, Bool.not_true, Bool.not_false, Bool.false_eq_true, if_false, if_true]

theorem exec_keepalive {h : FrameHdr} {s : State} (hans : s.answersFrames = true) (ht : (s.takeFrame h).1 = true) :
    exec (.keepalive h) s = .next ((s.takeFrame h).2.accepted h) := by
  show execKeepalive h s = _
  simp only [execKeepalive, hans, ht, Bool.not_true, Bool.false_eq_true, if_false, if_true]

theorem exec_sessionClose {h : FrameHdr} {s : State} (hans : s.answersFrames = true) (ht : (s.takeFrame h).1 = true) :
    exec (.sessionClose h) s = .next (((s.takeFrame h).2.slotDown h.slot).accepted h) := by
  show execSessionClose h s = _
  simp only [execSessionClose, hans, ht, Bool.not_true, Bool.false_eq_true, if_false, if_true]

/-- A slot bound to the management port is one of the slots that stand. -/
theorem State.lt_of_mgmtSlot {s : State} {i : Nat} (h : s.mgmtSlot i = true) (hlen : s.host.slots.length = 8) :
    i < s.host.slots.length := by
  simp only [State.mgmtSlot, Bool.and_eq_true, decide_eq_true_eq] at h
  exact hlen ▸ h.1

/-- The session that opens is the sender's, with its SEQ as the highest, and the open is answered. -/
theorem sessionOpen_opens {h : FrameHdr} {s : State} (hans : s.answersFrames = true) (hlen : s.host.slots.length = 8)
    (hm : s.mgmtSlot h.slot = true) (hnone : (s.slot h.slot).session = none) :
    ∃ t, exec (.sessionOpen h) s = .next t ∧ (t.slot h.slot).session.map (·.sender) = some h.sender ∧
      (t.slot h.slot).session.bind (·.highest) = some h.seq ∧ t.outbox.head? = some (.reply h (.code 0)) := by
  let u := s.clockMgmt.modSlot h.slot fun x => { x with session := some h.opened }
  have hu : (u.slot h.slot).session = some h.opened :=
    congrArg Slot.session (State.slot_modSlot_same (s := s.clockMgmt) (State.lt_of_mgmtSlot hm hlen) _)
  have ht : ((u.accepted h).slot h.slot).session = _ := State.session_reply h (.code 0) u
  refine ⟨u.accepted h, exec_sessionOpen hans hm hnone, ?_, ?_, rfl⟩ <;> rw [ht, hu] <;> rfl

/-- A frame that is taken leaves its session open, and the reply to it as well. -/
theorem keepalive_keeps {h : FrameHdr} {s : State} (hans : s.answersFrames = true) (ht : (s.takeFrame h).1 = true) :
    ∃ t, exec (.keepalive h) s = .next t ∧ t.outbox.head? = some (.reply h (.code 0)) ∧
      (t.slot h.slot).session.isSome = true := by
  obtain ⟨ss, hss, htaken⟩ := State.takeFrameAt_taken ht
  have hopen : ((s.takeFrame h).2.slot h.slot).session = some (ss.take h.seq) :=
    (congrArg (fun u => (State.slot u h.slot).session) htaken).trans
      (congrArg Slot.session (State.slot_modSlot_same (s := s.clockMgmt) (State.lt_of_session hss) _))
  refine ⟨_, exec_keepalive hans ht, rfl, ?_⟩
  rw [State.accepted, State.session_reply, hopen]
  rfl

/-- A session that closes leaves its slot without session and roles. -/
theorem sessionClose_closes {h : FrameHdr} {s : State} (hans : s.answersFrames = true)
    (ht : (s.takeFrame h).1 = true) :
    ∃ t, exec (.sessionClose h) s = .next t ∧ (t.slot h.slot).session = none ∧ (t.slot h.slot).held = 0 := by
  let u := (s.takeFrame h).2.slotDown h.slot
  refine ⟨u.accepted h, exec_sessionClose hans ht, ?_, ?_⟩
  · exact (State.session_reply h (.code 0) u).trans (by rw [State.session_slotDown_same]; rfl)
  · exact (State.reply_sameRoles h (.code 0) u h.slot).trans (State.held_slotDown_same _ _)

/-! ## Bad frames (R127) -/

theorem exec_jcsFrameBad_crc {who : Sender} {b : List Byte} {s : State} (hans : s.answersFrames = true)
    (hcrc : frameCrcOk b = false) : exec (.jcsFrameBad who b) s =
      .next { s.clockMgmt with host := { s.clockMgmt.host with badFrames := s.host.badFrames + 1 } } := by
  show execJcsFrameBad who b s = _
  simp only [execJcsFrameBad, hans, hcrc, Bool.not_true, Bool.not_false, Bool.false_eq_true, if_false, if_true]

theorem exec_jcsFrameBad_header {who : Sender} {b : List Byte} {s : State} {c : Code} (hans : s.answersFrames = true)
    (hcrc : frameCrcOk b = true) (hbad : frameBad b = some c) :
    exec (.jcsFrameBad who b) s = .next (s.clockMgmt.refuseFrame 0 (frameHdr who b) c) := by
  show execJcsFrameBad who b s = _
  simp only [execJcsFrameBad, hans, hcrc, hbad, Bool.not_true, Bool.false_eq_true, if_false]

/-- The checks of a header, in the order of R127. -/
theorem frameBad_order (b : List Byte) :
    (slice b 0 4 ≠ [0x4A#8, 0x43#8, 0x53#8, 0x46#8] ∨ uAt b 4 1 ≠ 1 → frameBad b = some 0x0103) ∧
    (slice b 0 4 = [0x4A#8, 0x43#8, 0x53#8, 0x46#8] → uAt b 4 1 = 1 →
      (uAt b 7 1 ≠ 0 ∨ uAt b 0x0E 2 ≠ 0 → frameBad b = some 0x0205) ∧
      (uAt b 7 1 = 0 → uAt b 0x0E 2 = 0 → 1408 < uAt b 0x0C 2 ∨ uAt b 0x0C 2 + 20 ≠ b.length →
        frameBad b = some 0x0206)) := by
  refine ⟨fun h => if_pos h, fun hmagic hver => ?_⟩
  have hown : ¬(slice b 0 4 ≠ [0x4A#8, 0x43#8, 0x53#8, 0x46#8] ∨ uAt b 4 1 ≠ 1) := by simp [hmagic, hver]
  refine ⟨fun h => ?_, fun h7 h14 h => ?_⟩
  · exact (if_neg hown).trans (if_pos h)
  · have hzero : ¬(uAt b 7 1 ≠ 0 ∨ uAt b 0x0E 2 ≠ 0) := by simp [h7, h14]
    exact (if_neg hown).trans ((if_neg hzero).trans (if_pos (h.elim .inl fun h => .inr (.inl h))))

/-! ## Repeated frames (R129) -/

theorem exec_jcsFrameReplay {h : FrameHdr} {s t : State} (hans : s.answersFrames = true)
    (ht : s.takeFrame h = (false, t)) : exec (.jcsFrameReplay h) s = .next t := by
  show execJcsFrameReplay h s = _
  simp only [execJcsFrameReplay, hans, ht, Bool.not_true, Bool.false_eq_true, if_false]

/-- Settles O17, from what a frame meets (`State.takeFrameAt_taken`, `State.takeFrameAt_repeated`) and what a slot
keeps when its port goes down. -/
theorem sessionsBindASlotToItsSender : Obligations.SessionsBindASlotToItsSender := by
  intro h s hans hlen
  refine ⟨sessionOpen_opens hans hlen, fun ss hm hss hne => ?busy, fun hm => ?foreign,
    fun ht => ⟨keepalive_keeps hans ht, sessionClose_closes hans ht⟩, fun hm hopen => ?timeout,
    fun b who => ⟨fun hcrc => ?crc, fun c hcrc hbad => ?header, frameBad_order b⟩,
    fun ss hm hss hsender ⟨hi, hhi, hold⟩ => ?replay⟩
  case busy => exact ⟨_, exec_sessionOpen_busy hans hm hss hne, rfl, fun _ => rfl⟩
  case foreign => exact ⟨_, exec_sessionOpen_foreign hans hm, rfl, fun _ => rfl⟩
  case timeout =>
    exact ⟨_, congrArg Host.Outcome.next (if_pos ⟨hm, hopen⟩), State.session_slotDown_same _ s,
      State.held_slotDown_same _ s⟩
  case crc =>
    exact ⟨_, exec_jcsFrameBad_crc hans hcrc, rfl, rfl,
      ((sameBut_power s _).mono (by simp)).trans ((sameBut_host s.clockMgmt _).mono (by simp))⟩
  case header => exact ⟨_, exec_jcsFrameBad_header hans hcrc hbad, rfl, fun _ => rfl⟩
  case replay =>
    have htake (b : Option ReplyBody) (hb : (ss.replies.find? fun r => r.1 == h.seq).bind (·.2) = b) :
        s.takeFrame h = (false, b.elim s.clockMgmt fun b => s.clockMgmt.send (.reply h b)) :=
      hb ▸ State.takeFrameAt_repeated hm hss hsender hhi hold
    exact ⟨fun b hb => exec_jcsFrameReplay hans (htake (some b) (by rw [hb]; rfl)),
      fun hb => exec_jcsFrameReplay hans (htake none hb)⟩

end Sys2Proof.Machine
end

section
/-!
Slots and queue pairs: claims of roles (R102), and what the registers and doorbells of a queue pair store (R116, R122,
R550).
-/

namespace Sys2Proof.Machine

/-! ## The row of a register that the port reaches -/

/-- The row of a register that an aligned access reaches is a write of it. -/
theorem State.writeRow_of_reached {a : RegAccess} {s u : State} {x : RegPlace} {i : Nat} (h : Reaches a s u)
    (hn : a.narrow = false) (hr : u.reach a.origin.port a.addr = .ok (x, i)) :
    s.writeRow x.reg a = .next (u.writeReg a) := by
  have hreg : (regAt (a.addr / 4 * 4)).map (fun x => x.1.reg) = some x.reg := by
    rw [RegAccess.word_of_aligned hn, State.regAt_of_reach hr, Option.map_some]
  rw [State.writeRow, if_pos hreg, State.access_of_reaches h]

theorem State.refuse_sameRoles (p : Nat) (slot : Option Nat) (c : Code) (addr : Nat) (s : State) :
    SameRoles s (s.refuse p slot c addr) := by
  unfold State.refuse
  cases slot with
  | none => exact .of_slots rfl
  | some i => exact (SameRoles.of_slots (by rfl)).trans (State.modSlot_sameRoles i (fun _ => by rfl) _)

/-- A refused write leaves the roles. -/
theorem State.writeReg_refused_sameRoles {a : RegAccess} {c : Code} {s : State}
    (h : s.judgeWrite a.origin.port a = .error c) : SameRoles s (s.writeReg a) := by
  simp only [State.writeReg, h]
  exact (State.refuse_sameRoles _ _ _ _ s).trans (State.answerWrite_sameRoles a c _)

/-! ## HOST_ROLE_CLAIM -/

/-- The claim registers of the slot pages (R109). -/
def claimPlace : RegPlace := ⟨.hostRoleClaim, 0x1004, 0x1000, 8, false, some 0xFFFFFFF0, 0⟩

theorem filter_regMap_claim : (regMap.filter fun x => x.reg == .hostRoleClaim) = [claimPlace] := by decide +kernel

/-- Where a register stands, its row of the map stands there. -/
theorem place_of_regAt {a i : Nat} {x : RegPlace} (h : regAt a = some (x, i)) : x ∈ regMap ∧ x.at? a = some i := by
  obtain ⟨y, hy, hyx⟩ := List.exists_of_findSome?_eq_some h
  obtain ⟨j, hj, hji⟩ := Option.map_eq_some_iff.1 hyx
  cases hji
  exact ⟨hy, hj⟩

/-- A row that repeats stands at no more places than it counts. -/
theorem RegPlace.lt_of_at? {x : RegPlace} {a i : Nat} (hs : x.stride ≠ 0) (h : x.at? a = some i) : i < x.count := by
  unfold RegPlace.at? at h
  split at h
  · cases h
  · dsimp only at h
    split at h
    · split at h
      · cases h
      · cases h
        omega
    · cases h

theorem claimPlace_of_regAt {a i : Nat} {x : RegPlace} (h : regAt a = some (x, i)) (hx : x.reg = .hostRoleClaim) :
    x = claimPlace ∧ i < 8 := by
  obtain ⟨hmem, hat⟩ := place_of_regAt h
  have hplace : x = claimPlace := by
    have hf : x ∈ regMap.filter fun x => x.reg == .hostRoleClaim := List.mem_filter.2 ⟨hmem, by simp [hx]⟩
    simpa [filter_regMap_claim] using hf
  refine ⟨hplace, ?_⟩
  subst hplace
  exact RegPlace.lt_of_at? (by decide) hat

/-- What a claim that reaches its register, with no reserved bit set, still has to pass is R102. -/
theorem State.judgeWrite_claim {s : State} {p i : Nat} {a : RegAccess} {x : RegPlace} (hn : a.narrow = false)
    (hr : s.reach p a.addr = .ok (x, i)) (hx : x.reg = .hostRoleClaim) (hv : a.value &&& 0xFFFFFFF0 = 0) :
    s.judgeWrite p a = (s.claimBad i a.value).elim (.ok (.hostRoleClaim, i)) .error := by
  obtain ⟨rfl, -⟩ := claimPlace_of_regAt (State.regAt_of_reach hr) hx
  rw [State.judgeWrite_of_reached hn hr rfl, State.writeBad_of_own rfl hv]
  rfl

/-- No other slot holds role `r`. -/
def State.RoleFree (s : State) (i : Nat) (r : BitVec 4) : Prop := ∀ j, j < 8 → j ≠ i → (s.slot j).held &&& r = 0

theorem State.heldElsewhere_eq_false {s : State} {i : Nat} {r : BitVec 4} :
    s.heldElsewhere i r = false ↔ s.RoleFree i r := by
  simp [State.heldElsewhere, State.RoleFree]

theorem State.heldElsewhere_eq_true {s : State} {i : Nat} {r : BitVec 4} :
    s.heldElsewhere i r = true ↔ ¬ s.RoleFree i r := by
  rw [← State.heldElsewhere_eq_false, Bool.not_eq_false]

/-- A role that no other slot holds, or that is not asked for, does not stand in the way. -/
theorem State.not_taken_elsewhere {s : State} {i : Nat} {m r : BitVec 4} (h : m &&& r = 0 ∨ s.RoleFree i r) :
    ¬(m &&& r ≠ 0 ∧ s.heldElsewhere i r = true) := by
  rw [State.heldElsewhere_eq_true]
  tauto

section
variable {s : State} {i : Nat} {w : W32}

theorem State.claimBad_roles (h : w.setWidth 4 &&& ~~~(s.slot i).cfg.roles ≠ 0) : s.claimBad i w = some 0x0303 :=
  if_pos h

theorem State.claimBad_pilot (h : w.setWidth 4 &&& ~~~(s.slot i).cfg.roles = 0)
    (hp : w.setWidth 4 &&& rolePilot ≠ 0) (hheld : ¬ s.RoleFree i rolePilot) : s.claimBad i w = some 0x0406 :=
  (if_neg (not_not.2 h)).trans (if_pos ⟨hp, State.heldElsewhere_eq_true.2 hheld⟩)

theorem State.claimBad_service (h : w.setWidth 4 &&& ~~~(s.slot i).cfg.roles = 0)
    (hp : w.setWidth 4 &&& rolePilot = 0 ∨ s.RoleFree i rolePilot) (hs : w.setWidth 4 &&& roleService ≠ 0)
    (hheld : ¬ s.RoleFree i roleService) : s.claimBad i w = some 0x0407 :=
  (if_neg (not_not.2 h)).trans ((if_neg (State.not_taken_elsewhere hp)).trans
    (if_pos ⟨hs, State.heldElsewhere_eq_true.2 hheld⟩))

theorem State.claimBad_none (h : w.setWidth 4 &&& ~~~(s.slot i).cfg.roles = 0)
    (hp : w.setWidth 4 &&& rolePilot = 0 ∨ s.RoleFree i rolePilot)
    (hs : w.setWidth 4 &&& roleService = 0 ∨ s.RoleFree i roleService) : s.claimBad i w = none :=
  (if_neg (not_not.2 h)).trans ((if_neg (State.not_taken_elsewhere hp)).trans
    (if_neg (State.not_taken_elsewhere hs)))

end

/-- A claim that is granted gives every role asked for to its slot, and nothing to the others. -/
theorem exec_hostRoleClaim {a : RegAccess} {s u : State} {i : Nat} (h : Accepted a s u .hostRoleClaim i)
    (hi : i < u.host.slots.length) :
    ∃ t, exec (.hostRoleClaim a) s = .next t ∧ (t.slot i).held = (u.slot i).held ||| a.value.setWidth 4 ∧
      (∀ j, j ≠ i → (t.slot j).held = (u.slot j).held) := by
  have hroles := State.answerWrite_sameRoles a 0 (u.claim i a.value)
  refine ⟨_, acceptedWritesTakeEffect.1 _ _ _ _ _ _ rfl h, (hroles i).trans ?_, fun j hj => (hroles j).trans ?_⟩
  · exact (congrArg Slot.held (State.slot_modSlot_same hi _) :)
  · exact (congrArg Slot.held (State.slot_modSlot_other hj _ u) :)

/-- Settles O14: what R102 refuses is `State.claimBad`, and a claim that passes it is accepted. -/
theorem roleClaimsAreAllOrNothing : Obligations.RoleClaimsAreAllOrNothing := by
  intro a s u i x hreach hn hr hx hv hlen m free
  have hjudge := State.judgeWrite_claim hn hr hx hv
  obtain ⟨-, hi⟩ := claimPlace_of_regAt (State.regAt_of_reach hr) hx
  refine ⟨fun h => ?_, fun h hp hheld => ?_, fun h hp hs hheld => ?_, fun h hp hs => ?_, fun c hc => ?_⟩
  · rw [hjudge, State.claimBad_roles h]; rfl
  · rw [hjudge, State.claimBad_pilot h hp hheld]; rfl
  · rw [hjudge, State.claimBad_service h hp hs hheld]; rfl
  · refine exec_hostRoleClaim ⟨hreach, ?_⟩ (hlen ▸ hi)
    rw [hjudge, State.claimBad_none h hp hs]; rfl
  · have hrun := State.writeRow_of_reached hreach hn hr
    rw [hx] at hrun
    exact ⟨_, hrun, State.writeReg_refused_sameRoles hc⟩

/-! ## Queues after a change -/

theorem State.queue_modQueue_same {s : State} (hw : swf {} s.host.queues = true) (q : Nat) (f : Queue → Queue) :
    (s.modQueue q f).queue q = f (s.queue q) :=
  sget_sset_same q _ hw

theorem State.queue_modQueue_other {q k : Nat} (h : k ≠ q) (f : Queue → Queue) (s : State) :
    (s.modQueue q f).queue k = s.queue k :=
  sget_sset_other q k _ h

/-- The answer to a frame leaves the queues. -/
theorem State.queue_answerWrite (a : RegAccess) (c : Code) (s : State) (k : Nat) :
    (s.answerWrite a c).queue k = s.queue k := by
  unfold State.answerWrite
  split <;> rfl

/-- An accepted write that changes queue `q` alone answers a state in which that queue is changed and no other. -/
theorem exec_modQueue {c : Instr} {a : RegAccess} {r : Reg} {s u : State} {i q : Nat} {f : Queue → Queue}
    (hrow : writeRow? c = some (a, r)) (h : Accepted a s u r i)
    (hstore : u.regStore a.origin.port i a.value r = u.modQueue q f) (hw : swf {} u.host.queues = true) :
    ∃ t, exec c s = .next t ∧ t.queue q = f (u.queue q) ∧ ∀ k, k ≠ q → t.queue k = u.queue k := by
  refine ⟨_, acceptedWritesTakeEffect.1 _ _ _ _ _ _ hrow h, ?_, fun k hk => ?_⟩
  · rw [State.queue_answerWrite, hstore, State.queue_modQueue_same hw]
  · rw [State.queue_answerWrite, hstore, State.queue_modQueue_other hk]

/-! ## HOST_QP_CTRL (R122) -/

/-- Where ENABLE changes, the queue is at head and tail 0 with phase 1 and ERROR clear. -/
theorem Queue.writeCtrl_toggle {w : W32} {q : Queue} (h : bitOf w 0 ≠ q.enable) : q.writeCtrl w =
    { q with vector := fieldOf w 21 16, weight := fieldOf w 11 8, enable := bitOf w 0, sqHead := 0, sqTail := 0,
             cqWrite := 0, cqHead := 0, phase := true, error := false, waiting := [] } :=
  if_neg h

/-- Where it does not, the queue takes the vector and the weight alone. -/
theorem Queue.writeCtrl_keep {w : W32} {q : Queue} (h : bitOf w 0 = q.enable) : q.writeCtrl w =
    { q with vector := fieldOf w 21 16, weight := fieldOf w 11 8 } :=
  if_pos h

theorem Queue.writeCtrl_fields (w : W32) (q : Queue) : (q.writeCtrl w).vector = fieldOf w 21 16 ∧
    (q.writeCtrl w).weight = fieldOf w 11 8 ∧ (q.writeCtrl w).enable = bitOf w 0 := by
  by_cases h : bitOf w 0 = q.enable
  · rw [Queue.writeCtrl_keep h]
    exact ⟨rfl, rfl, h.symm⟩
  · rw [Queue.writeCtrl_toggle h]
    exact ⟨rfl, rfl, rfl⟩

/-- With no completion waiting, HOST_DB_CQ_HEAD moves the head and posts nothing. -/
theorem State.writeCqHead_of_none_waiting {s : State} {q : Nat} (hw : swf {} s.host.queues = true)
    (hnone : (s.queue q).waiting = []) (port : Nat) (w : W32) :
    s.writeCqHead q port w = s.modQueue q fun x => { x with cqHead := fieldOf w 15 0 } := by
  have hempty : ((s.modQueue q fun x => { x with cqHead := fieldOf w 15 0 }).queue q).waiting = [] := by
    rw [State.queue_modQueue_same hw]
    exact hnone
  rw [State.writeCqHead, hempty]
  rfl

/-! ## Queue registers that name no queue (R550) -/

section
variable {s : State} {i : Nat} (h : (s.slot i).cfg.owns (s.slot i).qpSelect = false)
include h

theorem State.qpWord_of_unowned (f : Queue → W32) : s.qpWord i f = 0 := by
  simp only [State.qpWord, h, Bool.false_eq_true, if_false]

theorem State.qpBad_of_unowned (k : Queue → Option Code) :
    s.qpBad i k = some (if (s.slot i).cfg.qCount = 0 then 0x0506 else 0x0208) := by
  simp only [State.qpBad, h, Bool.false_eq_true, if_false]
  split <;> rfl

theorem State.qpCtrlBad_of_unowned (w : W32) :
    s.qpCtrlBad i w = some (if (s.slot i).cfg.qCount = 0 then 0x0506 else 0x0208) := by
  unfold State.qpCtrlBad
  exact State.qpBad_of_unowned h _

theorem State.qpSizeBad_of_unowned (w : W32) :
    s.qpSizeBad i w = some (if (s.slot i).cfg.qCount = 0 then 0x0506 else 0x0208) := by
  unfold State.qpSizeBad
  exact State.qpBad_of_unowned h _

theorem State.qpBaseBad_of_unowned : s.qpBaseBad i = some (if (s.slot i).cfg.qCount = 0 then 0x0506 else 0x0208) := by
  unfold State.qpBaseBad
  exact State.qpBad_of_unowned h _

/-- The registers of the pair read zero and refuse a write while QP names no queue of the slot. -/
theorem State.qpRegs_of_unowned (p : Nat) (w : W32) {r : Reg}
    (hr : r ∈ [Reg.hostQpCtrl, .hostQpSize, .hostQpSqBaseLo, .hostQpSqBaseHi, .hostQpCqBaseLo, .hostQpCqBaseHi]) :
    s.regValue p i r = 0 ∧ s.regBad i w r = some (if (s.slot i).cfg.qCount = 0 then 0x0506 else 0x0208) := by
  simp only [List.mem_cons, List.not_mem_nil, or_false] at hr
  constructor
  · rcases hr with rfl | rfl | rfl | rfl | rfl | rfl <;>
      (unfold State.regValue; exact State.qpWord_of_unowned h _)
  · rcases hr with rfl | rfl | rfl | rfl | rfl | rfl
    · exact State.qpCtrlBad_of_unowned h w
    · exact State.qpSizeBad_of_unowned h w
    all_goals exact State.qpBaseBad_of_unowned h

theorem State.qpStatus_of_unowned (p : Nat) : s.regValue p i .hostQpStatus = 0 := by
  unfold State.regValue
  exact State.qpWord_of_unowned h _

end

/-- Settles O16, from the queue that each store changes and what names no queue. -/
theorem queuesStartAndStopWithEnable : Obligations.QueuesStartAndStopWithEnable := by
  refine ⟨fun a s u i hacc hw => ?ctrl, fun a s u q hacc hw => ?tail, fun a s u q hacc hw hnone => ?head,
    fun s i p w r hun hr => ?unowned, fun s q w => ⟨rfl, rfl⟩⟩
  case ctrl =>
    obtain ⟨t, hrun, hq, hother⟩ := exec_modQueue (c := .qpEnable a) (q := (u.slot i).qpSelect)
      (f := Queue.writeCtrl a.value) rfl hacc rfl hw
    obtain ⟨hvec, hweight, hen⟩ := Queue.writeCtrl_fields a.value (u.queue (u.slot i).qpSelect)
    refine ⟨t, hrun, hother, ?_⟩
    dsimp only
    rw [hq]
    refine ⟨hvec, hweight, hen, fun hne => ?_, fun heq => ?_⟩
    · rw [Queue.writeCtrl_toggle hne]
      exact ⟨rfl, rfl, rfl, rfl, rfl, rfl⟩
    · rw [Queue.writeCtrl_keep heq]
  case tail => exact exec_modQueue (f := fun x => { x with sqTail := fieldOf a.value 15 0 }) rfl hacc rfl hw
  case head => exact exec_modQueue rfl hacc (State.writeCqHead_of_none_waiting hw hnone _ _) hw
  case unowned =>
    obtain ⟨hval, hbad⟩ := State.qpRegs_of_unowned hun p w hr
    exact ⟨hval, State.qpStatus_of_unowned hun p, hbad⟩

end Sys2Proof.Machine
end

section
/-!
Completions (R106, R116, R118, R119, R477): what a finished command posts, where it waits, and when it counts as lost.
-/

namespace Sys2Proof.Machine

/-! ## A message and an entry of the ring -/

/-- A vector that is raised sends its message, and nothing while its table entry masks it. -/
theorem State.raiseVector_outbox (port vector : Nat) (s : State) :
    (s.raiseVector port vector).outbox = s.msixOut port vector ++ s.outbox := by
  have hm : s.msixOut port vector = [] ∨ ∃ o, s.msixOut port vector = [o] := by
    unfold State.msixOut
    dsimp only
    split
    · exact .inl rfl
    · exact .inr ⟨_, rfl⟩
  unfold State.raiseVector
  rcases hm with hm | ⟨o, hm⟩ <;> rw [hm] <;> rfl

/-- It touches no queue and no command. -/
theorem State.raiseVector_queues (port vector : Nat) (s : State) :
    (s.raiseVector port vector).host.queues = s.host.queues ∧
      (s.raiseVector port vector).host.flights = s.host.flights := by
  unfold State.raiseVector
  split <;> exact ⟨rfl, rfl⟩

/-- The entry that `c` becomes in the ring of queue `q` (R118). -/
def State.ringEntry (s : State) (q : Nat) (c : Cpl) : Cpl :=
  { c with phase := (s.queue q).phase, sqHead := BitVec.ofNat 16 (s.queue q).sqHead, sqId := q }

/-- A queue after an entry has been written: the phase turns where the index wraps (R116). -/
def Queue.written (q : Queue) : Queue :=
  { q with cqWrite := (q.cqWrite + 1) % (q.cqM1 + 1),
           phase := if (q.cqWrite + 1) % (q.cqM1 + 1) = 0 then !q.phase else q.phase }

/-- An entry that is posted goes out, and after it the message that its command asked for. -/
theorem State.postCq_outbox (q port : Nat) (c : Cpl) (irq : Bool) (s : State) :
    (s.postCq q port c irq).outbox = (if irq then s.msixOut port (s.queue q).vector else []) ++
      [Out.completion q (s.ringEntry q c)] ++ s.outbox := by
  cases irq with
  | false => rfl
  | true =>
    rw [List.append_assoc]
    exact State.raiseVector_outbox _ _ _

theorem State.postCq_queues (q port : Nat) (c : Cpl) (irq : Bool) (s : State) :
    (s.postCq q port c irq).host.queues = (s.modQueue q Queue.written).host.queues ∧
      (s.postCq q port c irq).host.flights = s.host.flights := by
  cases irq with
  | false => exact ⟨rfl, rfl⟩
  | true => exact State.raiseVector_queues _ _ _

theorem State.queue_postCq_same {s : State} {q : Nat} (hw : swf {} s.host.queues = true) (port : Nat) (c : Cpl)
    (irq : Bool) : (s.postCq q port c irq).queue q = (s.queue q).written := by
  rw [← State.queue_modQueue_same hw q Queue.written, State.queue, State.queue, (State.postCq_queues q port c irq s).1]

/-! ## A command that finishes -/

/-- The commands under way without `f`. -/
def State.landed (f : Flight) (s : State) : State :=
  { s with host := { s.host with flights := s.host.flights.filter fun g => g.id != f.id } }

theorem State.landed_flights (f : Flight) (s : State) : f ∉ (s.landed f).host.flights := fun h => by
  simpa using (List.mem_filter.1 h).2

/-- The completion of a command, before it has a place in a ring. -/
def Flight.cpl (f : Flight) (status : Code) (r0 r1 : W64) (sample : W32) (late : Bool) : Cpl :=
  { r0 := r0, r1 := r1, sqHead := 0, sqId := 0, cmdId := f.cmdId, status := status, sample := sample, late := late }

section
variable {s : State} {f : Flight} {q : Nat} {c : Code} {r0 r1 : W64} {x : W32} {late : Bool}

/-- A command whose port has gone down counts as lost. -/
theorem State.post_of_lost (hl : f.lost = true) (data : List Byte) : s.post f c r0 r1 x late data =
    (s.landed f).modPort f.port fun p => { p with lostCpl := satAdd p.lostCpl 1 } := by
  simp only [State.post, hl, if_true, State.landed]

theorem State.post_to_queue (hl : f.lost = false) (ho : f.origin = .queue q) : s.post f c r0 r1 x late [] =
    if ((s.queue q).cqFull || !(s.queue q).waiting.isEmpty) = true
      then (s.landed f).modQueue q fun y => { y with waiting := y.waiting ++ [(f.cpl c r0 r1 x late, f.irq)] }
      else (s.landed f).postCq q f.port (f.cpl c r0 r1 x late) f.irq := by
  simp only [State.post, hl, ho, Bool.false_eq_true, if_false]
  rfl

/-- While the ring is full or completions wait, the completion joins those that wait. -/
theorem State.post_waits (hl : f.lost = false) (ho : f.origin = .queue q)
    (h : (s.queue q).cqFull = true ∨ (s.queue q).waiting ≠ []) : s.post f c r0 r1 x late [] =
      (s.landed f).modQueue q fun y => { y with waiting := y.waiting ++ [(f.cpl c r0 r1 x late, f.irq)] } := by
  rw [State.post_to_queue hl ho, if_pos]
  simpa using h

/-- While the ring has room and none waits, the completion is posted. -/
theorem State.post_written (hl : f.lost = false) (ho : f.origin = .queue q) (hfull : (s.queue q).cqFull = false)
    (hnone : (s.queue q).waiting = []) : s.post f c r0 r1 x late [] =
      (s.landed f).postCq q f.port (f.cpl c r0 r1 x late) f.irq := by
  rw [State.post_to_queue hl ho, if_neg]
  simp [hfull, hnone]

end

/-- A command under way is the one that its number finds. -/
theorem State.find_flight {s : State} {f : Flight} (hf : f ∈ s.host.flights)
    (huniq : ∀ g ∈ s.host.flights, g.id = f.id → g = f) :
    (s.host.flights.find? fun g => g.id == f.id) = some f := by
  have hsome : (s.host.flights.find? fun g => g.id == f.id).isSome = true :=
    List.find?_isSome.2 ⟨f, hf, beq_self_eq_true f.id⟩
  obtain ⟨g, hg⟩ := Option.isSome_iff_exists.1 hsome
  rw [hg, huniq g (List.mem_of_find?_eq_some hg) (by simpa using List.find?_some hg)]

section
variable {s : State} {f : Flight} (hf : (s.host.flights.find? fun g => g.id == f.id) = some f)
  (c : Code) (r0 r1 : W64) (late : Bool) (data : List Byte)
include hf

theorem State.finish_posts (hctl : s.planes.ctl ≠ .pause) :
    s.finish f c r0 r1 late data = s.post f c r0 r1 s.sample (lateOf c late) data := by
  simp only [State.finish, hf, Option.getD_some, hctl, if_false]

/-- In a Transit pause the post is held, with the results that it had. -/
theorem State.finish_held (hctl : s.planes.ctl = .pause) : s.finish f c r0 r1 late data =
    { s with host := { s.host with held := s.host.held ++ [.post {
      flight := f, status := c, r0 := r0, r1 := r1, sample := s.sample, late := lateOf c late,
      data := data }] } } := by
  simp only [State.finish, hf, Option.getD_some, hctl, if_true]

end

/-- Settles O20, from where a finished command's post goes: `State.post_written`, `State.post_waits`,
`State.post_of_lost` and `State.finish_held`. -/
theorem completionsArePostedInTheRing : Obligations.CompletionsArePostedInTheRing := by
  intro s f q c r0 r1 late ho hmem huniq hw
  have hf := State.find_flight hmem huniq
  refine ⟨fun hctl hl hfull hnone => ?written, fun hctl hl hwait => ?waits, fun hctl hl hp => ?lost,
    State.finish_held hf c r0 r1 late []⟩
  case written =>
    rw [State.finish_posts hf c r0 r1 late [] hctl, State.post_written hl ho hfull hnone]
    let v := s.landed f
    have hwv : swf {} v.host.queues = true := hw
    refine ⟨_, rfl, ((sameBut_host s v.host).mono (by simp)).trans (v.postCq_sameBut _ _ _ _), ?_, ?_, ?_,
      State.postCq_outbox q f.port _ f.irq v⟩
    · rw [(State.postCq_queues _ _ _ _ _).2]
      exact State.landed_flights f s
    all_goals rw [State.queue_postCq_same hwv]; rfl
  case waits =>
    dsimp only
    rw [State.finish_posts hf c r0 r1 late [] hctl, State.post_waits hl ho hwait]
    have hq := State.queue_modQueue_same (s := s.landed f) hw q
    refine ⟨rfl, ?_, ?_, sameBut_host s _⟩
    · rw [hq, List.length_append]; rfl
    · rw [hq]; rfl
  case lost =>
    dsimp only
    rw [State.finish_posts hf c r0 r1 late [] hctl, State.post_of_lost hl]
    exact ⟨rfl, rfl, congrArg Port.lostCpl (State.port_modPort_same hp _ (s.landed f))⟩

end Sys2Proof.Machine
end

section
/-!
The dispatcher (R104, R117, R121–R134): what an entry that is taken meets, what a rejection records, and the step that
runs the front command.
-/

namespace Sys2Proof.Machine

/-! ## The judgement of an entry -/

section
variable {e : Entry} {s : State} {f : Flight}

/-- The companion die, dispatching alone, does not cover the entry (R104, R125). -/
def State.ClosedTo (s : State) (e : Entry) : Prop :=
  s.companionMode = true ∧ ¬(e.inline = true ∧ companionOpcodes.contains e.opcode.toNat = true)

theorem State.closedTo_iff : (s.companionMode && (!e.inline || !companionOpcodes.contains e.opcode.toNat)) = true ↔
    s.ClosedTo e := by
  rw [Bool.and_eq_true, ← Bool.not_and, Bool.not_eq_true', ← Bool.not_eq_true, Bool.and_eq_true]
  rfl

variable (body : Flight → State → State)

theorem State.judge_of_bad {b : Bad} (h : e.bad = some b) : s.judge f e body = s.reject f b := by
  simp only [State.judge, h]

theorem State.judge_of_closed (h : e.bad = none) (hc : s.ClosedTo e) :
    s.judge f e body = s.reject f { code := 0x0508 } := by
  simp only [State.judge, h, State.closedTo_iff.2 hc, if_true]

theorem State.judge_of_open (h : e.bad = none) (hc : ¬ s.ClosedTo e) : s.judge f e body =
    (s.roleBad f.slot e.opcode.toNat).elim (body f s) fun c =>
      (s.noteRefused e.opcode.toNat).reject f { code := c } := by
  simp only [State.judge, h, mt State.closedTo_iff.1 hc, Bool.false_eq_true, if_false]
  cases s.roleBad f.slot e.opcode.toNat <;> rfl

end

/-- An opcode that no command has fails the first check of R117 for its group, or the second (R133). -/
theorem Entry.bad_of_unknown {e : Entry} (h : knownOpcodes.contains e.opcode.toNat = false) : e.bad = some
    { code := if e.opcode.toNat / 256 = 0 ∨ 0x0F < e.opcode.toNat / 256 then 0x0101 else 0x0102 } := by
  have hgroup (b : Bool) (x y : Bad) (r : List (Bool × Bad)) :
      firstBad ((b, x) :: (true, y) :: r) = some (if b then x else y) := by cases b <;> rfl
  simp only [Entry.bad, h, Bool.not_false, hgroup, Bool.or_eq_true, decide_eq_true_eq]
  split <;> rfl

/-! ## Roles (R131, R132) -/

section
variable {s : State} {i op : Nat}

theorem State.roleBad_of_none (h : (s.slot i).held = 0) : s.roleBad i op = some 0x0306 := if_pos h

theorem State.roleBad_of_query (h : (s.slot i).held ≠ 0) (hop : op % 256 < 0x40) : s.roleBad i op = none :=
  (if_neg h).trans (if_pos hop)

theorem State.roleBad_of_unpermitted (h : (s.slot i).held ≠ 0) (hop : 0x40 ≤ op % 256)
    (hr : (s.slot i).held &&& actionRoles op = 0) : s.roleBad i op = some 0x0302 :=
  (if_neg h).trans ((if_neg (Nat.not_lt.2 hop)).trans (if_pos hr))

theorem State.roleBad_of_permitted (hop : 0x40 ≤ op % 256) (hr : (s.slot i).held &&& actionRoles op ≠ 0) :
    s.roleBad i op = if (op / 256 = 5 ∨ op / 256 = 6) ∧ (s.slot i).held &&& rolePilot = 0 ∧ s.inBuild = true
      then some 0x0403 else none := by
  have hheld : (s.slot i).held ≠ 0 := fun h => hr (by simp [h])
  exact (if_neg hheld).trans ((if_neg (Nat.not_lt.2 hop)).trans (if_neg hr))

end

/-! ## What a rejection leaves of the queues -/

theorem State.swf_modQueue {s : State} (hw : swf {} s.host.queues = true) (q : Nat) (f : Queue → Queue) :
    swf {} (s.modQueue q f).host.queues = true :=
  swf_sset q _ hw

/-- An entry that is taken moves the head of its queue. -/
theorem State.swf_takeEntry {s : State} (hw : swf {} s.host.queues = true) (q : Nat) :
    swf {} (s.takeEntry q).host.queues = true :=
  swf_sset q _ hw

theorem State.queues_refuse (p : Nat) (slot : Option Nat) (c : Code) (addr : Nat) (s : State) :
    (s.refuse p slot c addr).host.queues = s.host.queues := by
  cases slot <;> rfl

/-- A post keeps the table of queues canonical. -/
theorem State.swf_post {s : State} (hw : swf {} s.host.queues = true) (f : Flight) (c : Code) (r0 r1 : W64) (x : W32)
    (late : Bool) : swf {} (s.post f c r0 r1 x late []).host.queues = true := by
  have hv : swf {} (s.landed f).host.queues = true := hw
  cases hl : f.lost with
  | true =>
    rw [State.post_of_lost hl]
    exact hw
  | false =>
    cases ho : f.origin with
    | queue q =>
      rw [State.post_to_queue hl ho]
      split
      · exact State.swf_modQueue hv _ _
      · rw [(State.postCq_queues _ _ _ _ _).1]
        exact State.swf_modQueue hv _ _
    | frame h =>
      simp only [State.post, hl, ho, Bool.false_eq_true, if_false]
      exact hw

theorem State.swf_reject {s : State} (hw : swf {} s.host.queues = true) (f : Flight) (b : Bad) :
    swf {} (s.reject f b).host.queues = true := by
  have hr : swf {} (s.refuse f.port (some f.slot) b.code f.origin.sqId).host.queues = true := by
    rw [State.queues_refuse]
    exact hw
  unfold State.reject State.finish
  dsimp only
  split
  · exact hr
  · exact State.swf_post hr _ _ _ _ _ _

/-! ## Buffers that cannot be read, and frames that name one -/

/-- A queue whose buffer cannot be read stops with ERROR (R122). -/
theorem State.dmaFailed_error {s : State} {f : Flight} {q : Nat} (hw : swf {} s.host.queues = true)
    (ho : f.origin = .queue q) : ((s.dmaFailed f).queue q).error = true := by
  simp only [State.dmaFailed, ho]
  rw [State.queue_modQueue_same (State.swf_reject hw f _)]

theorem State.submit_unreadable {op : W16} {e : Entry} {s : State} {q i : Nat} (ho : e.origin = .queue q)
    (hi : s.queueSlot? q = some i) (hmay : s.mayTake i q e = true) (hdma : e.dmaOk = false) (hop : op ≠ 0x0242)
    (body : Flight → State → State) : s.submit op e body =
      ((s.takeEntry q).newFlight i e).2.dmaFailed ((s.takeEntry q).newFlight i e).1 := by
  have hread : (e.dmaOk || op == 0x0242) = false := by
    rw [hdma, Bool.false_or]
    exact beq_eq_false_iff_ne.2 hop
  simp only [State.submit, ho, hi, hmay, hread, Bool.not_true, Bool.false_eq_true, if_false]

/-- A frame that names a buffer is rejected (R126). -/
theorem State.submit_of_named_buffer {op : W16} {e : Entry} {s : State} {h : FrameHdr} (ho : e.origin = .frame h)
    (hans : s.answersFrames = true) (hdisp : s.dispatches = true) (hturn : s.sessionTurn h.slot = true)
    (ht : (s.takeCommand h).1 = true) (hbuf : e.bufAddr ≠ 0) (body : Flight → State → State) :
    let r := (s.takeCommand h).2.newFlight h.slot e
    s.submit op e body = r.2.reject r.1 { code := 0x0104 } := by
  have hnamed : (e.bufAddr != 0) = true := bne_iff_ne.2 hbuf
  simp only [State.submit, ho, hans, hdisp, hturn, ht, hnamed, Bool.not_true, Bool.or_self, Bool.false_eq_true,
    if_false, if_true]

theorem exec_unknownCommand {e : Entry} (h : knownOpcodes.contains e.opcode.toNat = false) (s : State) :
    exec (.unknownCommand e) s = .next (s.submit e.opcode e fun f s => s.reject f { code := 0x0102 }) := by
  show execUnknownCommand e s = _
  simp only [execUnknownCommand, h, Bool.false_eq_true, if_false]

/-! ## What a rejection records (R112, R134) -/

/-- The code and the queue number stand in ERR_LAST of the slot's port, and the slot's counter has advanced. -/
theorem State.refuse_records {f : Flight} {s : State} (hlen : s.host.slots.length = 8) (hslot : f.slot < 8)
    (hp : f.port < 3) (c : Code) : let u := s.refuse f.port (some f.slot) c f.origin.sqId
    (u.port f.port).errCode = c ∧ (u.port f.port).errSlot = f.slot ∧
      (u.port f.port).errAddr = f.origin.sqId % 2 ^ 20 ∧ (u.slot f.slot).reject = (s.slot f.slot).reject.inc := by
  dsimp only
  rw [State.port_refuse hp]
  exact ⟨rfl, rfl, rfl, State.reject_refuse (hlen ▸ hslot) _ _ _⟩

/-- Settles O19, from the judgement of a taken entry, the roles of R131 and R132, and what a rejection records. -/
theorem dispatchedEntriesRunAndOthersAreJudged : Obligations.DispatchedEntriesRunAndOthersAreJudged := by
  refine ⟨fun e s t f body htaken => ?judged, fun op e s q i body ho hi hmay hdma hop hw => ?unreadable,
    fun e s t f htaken hop => ?unknown, fun e s h ho hans hdisp hturn ht hbuf hop => ?named, fun s i op => ?roles,
    fun s f b hlen hslot hp => ?recorded⟩
  case judged =>
    dsimp only
    rw [submit_of_taken htaken]
    refine ⟨fun b hb => State.judge_of_bad body hb, fun hn hc => State.judge_of_closed body hn hc,
      fun c hn hc hr => ?_, fun hn hc hr => ?_⟩
    all_goals rw [State.judge_of_open body hn hc, hr]; rfl
  case unreadable =>
    rw [State.submit_unreadable ho hi hmay hdma hop]
    exact State.dmaFailed_error (State.swf_takeEntry hw q) ho
  case unknown =>
    rw [exec_unknownCommand hop, submit_of_taken htaken, State.judge_of_bad _ (Entry.bad_of_unknown hop)]
  case named =>
    rw [exec_unknownCommand hop, State.submit_of_named_buffer ho hans hdisp hturn ht hbuf]
  case roles =>
    exact ⟨State.roleBad_of_none, State.roleBad_of_query, State.roleBad_of_unpermitted, State.roleBad_of_permitted⟩
  case recorded =>
    obtain ⟨hcode, hs, haddr, hcount⟩ := State.refuse_records hlen hslot hp b.code
    exact ⟨_, rfl, hcode, hs, haddr, hcount, State.refuse_sameBut _ _ _ _ s⟩

/-! ## The step -/

/-- Settles O1: the step takes the front of the queue, if there is one. -/
theorem stepRunsTheFrontCommand : Obligations.StepRunsTheFrontCommand := by
  refine ⟨fun c s => rfl, fun s hempty => ?_⟩
  simp only [step, hempty]

end Sys2Proof.Machine
end

section
/-!
The atlas (R155–R158): the checks of both commands, the switch sample of a write, and ATLAS_SWITCH.
-/

namespace Sys2Proof.Machine

/-! ## The checks of both commands (R156) -/

theorem atlasChecks_pass {e : Entry} {write : Bool} (hone : 1 ≤ e.u 0x1A 2)
    (hmost : e.u 0x1A 2 ≤ if e.inline then 21 else 1024) (hlast : e.u 0x18 2 + e.u 0x1A 2 ≤ 16384)
    (hz : (e.zeroFrom 0x1C 36).1 = false)
    (hlen : e.dataLen = if e.inline ∧ write = false then 0 else 64 * e.u 0x1A 2) :
    firstBad (State.atlasChecks e write) = none := by
  have count : ¬ (e.u 0x1A 2 = 0 ∨ (if e.inline then 21 else 1024) < e.u 0x1A 2) := by omega
  rw [firstBad_eq_none]
  simp only [State.atlasChecks, List.forall_mem_cons, List.not_mem_nil, false_implies, implies_true, and_true]
  exact ⟨decide_eq_false count, decide_eq_false (Nat.not_lt.2 hlast), hz, decide_eq_false (not_not.2 hlen)⟩

theorem exec_paramAtlasRead {e : Entry} {s t : State} {f : Flight} (h : Dispatched 0x0300 e s f t)
    (hone : 1 ≤ e.u 0x1A 2) (hmost : e.u 0x1A 2 ≤ if e.inline then 21 else 1024)
    (hlast : e.u 0x18 2 + e.u 0x1A 2 ≤ 16384) (hz : (e.zeroFrom 0x1C 36).1 = false)
    (hlen : e.dataLen = if e.inline then 0 else 64 * e.u 0x1A 2) :
    exec (.paramAtlasRead e) s = .next (t.ok f 0 0
      ((List.range (e.u 0x1A 2)).flatMap fun k => (t.atlasNow (e.u 0x18 2 + k)).bytes)) :=
  (command_of_dispatched h _).trans
    (congrArg Host.Outcome.next (checked_of_none (atlasChecks_pass hone hmost hlast hz (by simpa using hlen)) _ t))

/-! ## A write and its switch sample (R157) -/

/-- The entries of a write from its data, 64 bytes for each. -/
def atlasEntries (data : List Byte) (first n : Nat) : List (Nat × AtlasEntry) :=
  (List.range n).map fun k => (first + k, AtlasEntry.ofBytes (slice data (64 * k) 64))

/-- The first switch sample that a write may get: after the present one, and not before that of an earlier write. -/
def State.atlasFrom (s : State) : Nat :=
  max (s.ix + 1) (s.job.atlasSwitches.foldl (fun m w => max m w.at_) 0)

/-- The switch sample of a write that is dispatched now. -/
def State.atlasSample (s : State) : Nat := (s.drawIn s.atlasFrom (s.ix + 256)).1

/-- One write more waits, and its switch sample has been drawn. -/
def State.awaitAtlas (w : AtlasSwitch) (s : State) : State :=
  { (s.drawIn s.atlasFrom (s.ix + 256)).2 with job := { s.job with atlasSwitches := s.job.atlasSwitches ++ [w] } }

/-- Every engine plans with the values that hold from sample `at_` on. -/
def State.replanAll (at_ : Nat) (s : State) : State :=
  { s with engines := updAll s.engines fun n g => g.replan (s.planEnv n) (s.ix + 1) at_ }

theorem foldl_max_at_le {l : List AtlasSwitch} {a b : Nat} :
    l.foldl (fun m w => max m w.at_) a ≤ b ↔ a ≤ b ∧ ∀ w ∈ l, w.at_ ≤ b := by
  induction l generalizing a with
  | nil => simp
  | cons w r ih => simp [ih, and_assoc]

theorem State.atlasFrom_le {s : State} {b : Nat} :
    s.atlasFrom ≤ b ↔ s.ix < b ∧ ∀ w ∈ s.job.atlasSwitches, w.at_ ≤ b := by
  simp [State.atlasFrom, foldl_max_at_le]

theorem State.le_drawIn (lo hi : Nat) (s : State) : lo ≤ (s.drawIn lo hi).1 := Nat.le_add_right _ _

theorem State.drawIn_sameBut (lo hi : Nat) (s : State) : SameBut [.freeCtr] s (s.drawIn lo hi).2 :=
  s.draw_sameBut (hi + 1 - lo)

theorem State.awaitAtlas_sameBut (w : AtlasSwitch) (s : State) : SameBut [.job, .freeCtr] s (s.awaitAtlas w) :=
  ((s.drawIn_sameBut s.atlasFrom (s.ix + 256)).mono (by simp)).trans ((sameBut_job _ _).mono (by simp))

theorem State.replanAll_sameBut (at_ : Nat) (s : State) : SameBut [.engines] s (s.replanAll at_) :=
  sameBut_engines s _

/-- The entries as the command numbers them. -/
theorem map_zipIdx_atlasEntries (data : List Byte) (first n : Nat) :
    (((List.range n).map fun k => slice data (64 * k) 64).zipIdx.map fun p =>
      (first + p.2, AtlasEntry.ofBytes p.1)) = atlasEntries data first n := by
  apply List.ext_getElem <;> simp [atlasEntries]

theorem exec_paramAtlasWrite {e : Entry} {s t : State} {f : Flight} (h : Dispatched 0x0340 e s f t)
    (hone : 1 ≤ e.u 0x1A 2) (hmost : e.u 0x1A 2 ≤ if e.inline then 21 else 1024)
    (hlast : e.u 0x18 2 + e.u 0x1A 2 ≤ 16384) (hz : (e.zeroFrom 0x1C 36).1 = false)
    (hlen : e.dataLen = 64 * e.u 0x1A 2)
    (hok : t.atlasRefused (e.u 0x18 2) ((List.range (e.u 0x1A 2)).map fun k => slice e.data (64 * k) 64) = none) :
    exec (.paramAtlasWrite e) s = .next (((t.awaitAtlas
      { at_ := t.atlasSample, flight := f.id, entries := atlasEntries e.data (e.u 0x18 2) (e.u 0x1A 2) }).replanAll
        t.atlasSample).launch f) := by
  refine (command_of_dispatched h _).trans (congrArg Host.Outcome.next
    ((checked_of_none (atlasChecks_pass hone hmost hlast hz (by simpa using hlen)) _ t).trans ?_))
  simp only [hok, map_zipIdx_atlasEntries]
  rfl

/-! ## ATLAS_SWITCH -/

theorem exec_atlasSwitch {s : State} {w : AtlasSwitch} {r : List AtlasSwitch} {f : Flight}
    (hs : s.job.atlasSwitches = w :: r) (hw : w.at_ ≤ s.ix) (hr : ∀ x ∈ r, s.ix < x.at_)
    (hf : s.flight? w.flight = some f) :
    exec .atlasSwitch s = .next (({ s with job := { s.job with
      atlas := atlasPut w.entries s.job.atlas, atlasSwitches := r } } : State).finish f 0
        (BitVec.ofNat 64 w.at_) 0 false []) := by
  have due : (w :: r).filter (fun x => decide (x.at_ ≤ s.ix)) = [w] := by
    simpa [hw] using hr
  have left : (w :: r).filter (fun x => !decide (x.at_ ≤ s.ix)) = r := by
    simpa [hw] using hr
  have flight (j : JobState) : ({ s with job := j } : State).flight? w.flight = some f := hf
  show execAtlasSwitch s = _
  simp only [execAtlasSwitch, hs, due, left, List.foldl_cons, List.foldl_nil, State.finishId_of_flight (flight _)]

/-- Before its switch sample no write takes effect. -/
theorem exec_atlasSwitch_early {s : State} (h : ∀ w ∈ s.job.atlasSwitches, s.ix < w.at_) :
    exec .atlasSwitch s = .next s := by
  have due : s.job.atlasSwitches.filter (fun x => decide (x.at_ ≤ s.ix)) = [] := by simpa using h
  have left : s.job.atlasSwitches.filter (fun x => !decide (x.at_ ≤ s.ix)) = s.job.atlasSwitches := by simpa using h
  show execAtlasSwitch s = _
  simp only [execAtlasSwitch, due, left, List.foldl_nil]

/-- Settles O24, from the equation of each row and the bounds of a drawn value. -/
theorem atlasWritesSwitchAsOne : Obligations.AtlasWritesSwitchAsOne := by
  rintro e s t f first n rfl rfl
  refine ⟨exec_paramAtlasRead, fun h hone hmost hlast hz hlen hok => ?write,
    fun w r hs hw hr hf => exec_atlasSwitch hs hw hr hf, exec_atlasSwitch_early⟩
  have from_ : t.ix < t.atlasSample ∧ ∀ w ∈ t.job.atlasSwitches, w.at_ ≤ t.atlasSample :=
    State.atlasFrom_le.1 (t.le_drawIn _ _)
  let w : AtlasSwitch :=
    { at_ := t.atlasSample, flight := f.id, entries := atlasEntries e.data (e.u 0x18 2) (e.u 0x1A 2) }
  have same : SameBut [.engines, .host] (t.awaitAtlas w) (((t.awaitAtlas w).replanAll t.atlasSample).launch f) :=
    ((State.replanAll_sameBut _ _).mono (by simp)).trans ((State.launch_sameBut f _).mono (by simp))
  have job : (((t.awaitAtlas w).replanAll t.atlasSample).launch f).job =
      { t.job with atlasSwitches := t.job.atlasSwitches ++ [w] } := same .job (by simp)
  refine ⟨_, t.atlasSample, exec_paramAtlasWrite h hone hmost hlast hz hlen hok, (congrArg JobState.atlas job :), from_.1,
    from_.2, fun hnear => ?_, (congrArg JobState.atlasSwitches job :), ?_⟩
  · exact (t.drawIn_bounds (State.atlasFrom_le.2 ⟨by omega, hnear⟩)).2
  · exact ((t.awaitAtlas_sameBut w).mono (by simp)).trans (same.mono (by simp))

end Sys2Proof.Machine
end

section
/-!
Layers (R159–R166, R409): JOB_STATUS, JOB_LAYER_OPEN and JOB_LAYER_CLOSE, JOB_ABORT, and the end of a layer.
-/

namespace Sys2Proof.Machine

/-! ## JOB_STATUS (R166) -/

theorem State.poolBad_pass {s : State} {num : Nat} {p : Pool} (hnum : num < 32 ∨ 0x100 ≤ num ∧ num < 0x200)
    (hp : s.pool? num = some p) (o : Nat) : ∀ c ∈ s.poolBad num o, c.1 = false := by
  have number : (decide (num < 32) || (decide (0x100 ≤ num) && decide (num < 0x200))) = true := by simpa using hnum
  simp [State.poolBad, number, hp]

theorem exec_jobStatus_pool {e : Entry} {s t : State} {f : Flight} {p : Pool} (h : Dispatched 0x0200 e s f t)
    (hz : (e.zeroFrom 0x1A 38).1 = false) (hnum : e.u 0x18 2 < 32 ∨ 0x100 ≤ e.u 0x18 2 ∧ e.u 0x18 2 < 0x200)
    (hp : t.pool? (e.u 0x18 2) = some p) :
    exec (.jobStatus e) s = .next (t.ok f (p.queue.length + p.vseq.toNat * 2 ^ 32) t.layerWord []) := by
  have one : e.u 0x18 2 ≠ 0xFFFF := by omega
  have pass : firstBad (e.zeroFrom 0x1A 38 :: t.poolBad (e.u 0x18 2) 0x18) = none := by
    rw [firstBad_cons_of_pass hz, firstBad_eq_none]
    exact State.poolBad_pass hnum hp 0x18
  refine (command_of_dispatched h _).trans (congrArg Host.Outcome.next ?_)
  simp only [one, decide_false, Bool.false_eq_true, if_false, checked_of_none pass, hp]

theorem exec_jobStatus_all {e : Entry} {s t : State} {f : Flight} (h : Dispatched 0x0200 e s f t)
    (hz : (e.zeroFrom 0x1A 38).1 = false) (hnum : e.u 0x18 2 = 0xFFFF) :
    exec (.jobStatus e) s = .next (t.ok f 0 t.layerWord []) := by
  have pass : firstBad [e.zeroFrom 0x1A 38] = none := by rw [firstBad_cons_of_pass hz, firstBad]
  refine (command_of_dispatched h _).trans (congrArg Host.Outcome.next ?_)
  simp only [hnum, decide_true, if_true, checked_of_none pass]
  cases t.pool? 0xFFFF <;> rfl

/-- The low half of RESULT1 names the layer that runs, is waited for or is being prepared. -/
theorem State.layerWord_mod {s : State} {l : W32} (h : s.job.running = some l ∨
      s.job.running = none ∧ s.job.syzygy = .waitOpen ∧ s.job.lastOpened.map (· + 1) = some l ∨
      s.job.running = none ∧ s.job.syzygy ≠ .waitOpen ∧ s.job.layers.head?.map (·.num) = some l) :
    s.layerWord % 2 ^ 32 = l.toNat := by
  have lt := l.isLt
  rcases h with hr | ⟨hr, hw, hl⟩ | ⟨hr, hw, hl⟩
  · simp only [State.layerWord, hr]
    omega
  · simp only [State.layerWord, hr, hw, if_true, hl]
    omega
  · simp only [State.layerWord, hr, hw, if_false, hl]
    omega

/-! ## A layer's sequence begins (R162, R322) -/

theorem State.recoatFail_sameBut (axis cause : Nat) (s : State) :
    SameBut [.recoat, .axes, .tail, .mem] s (s.recoatFail axis cause) :=
  ((sameBut_recoat s _).mono (by simp)).trans ((State.record_sameBut _ _ _ _).mono (by simp))

theorem State.recoatMoves_sameBut (st : RecoatState) (ms : List RecoatMove) (t : Nat) (s : State) :
    SameBut [.recoat, .axes, .tail, .mem] s (s.recoatMoves st ms t) := by
  have recoat (s : State) (r : Recoat) : SameBut [.recoat, .axes, .tail, .mem] s { s with recoat := r } :=
    (sameBut_recoat s r).mono (by simp)
  unfold State.recoatMoves
  dsimp only
  split
  · exact ((recoat s _).trans (recoat _ _)).trans (State.recoatFail_sameBut _ _ _)
  · exact ((recoat s _).trans (recoat _ _)).trans (SameBut.foldl (fun s m => (sameBut_axes s _).mono (by simp)) _ _)

theorem State.recoatStart_sameBut (drop t0 : Nat) (s : State) :
    SameBut [.recoat, .axes, .tail, .mem] s (s.recoatStart drop t0) := by
  have recoat (s : State) (r : Recoat) : SameBut [.recoat, .axes, .tail, .mem] s { s with recoat := r } :=
    (sameBut_recoat s r).mono (by simp)
  unfold State.recoatStart
  dsimp only
  split
  · exact ((recoat s _).trans (recoat _ _)).trans (State.recoatFail_sameBut _ _ _)
  · exact (recoat s _).trans (State.recoatMoves_sameBut _ _ _ _)

theorem State.recoats_congr {s t : State} (h : t.eph = s.eph) (l : Layer) : t.recoats l = s.recoats l := by
  simp only [State.recoats, State.roleAxis?, h]

/-- The sequence of a layer with a recoat begins with it. -/
theorem State.enterRecoat_of_recoats {s : State} {l : Layer} (h : s.recoats l = true) (k : Nat) :
    (s.enterRecoat k l).planes = { s.planes with data := .syzygy } ∧
    (s.enterRecoat k l).job = { s.job with
      imageLeft := if l.image then s.imageSensors else [], imageOpen := [], syzygy := .recoat, stepEnd := k } := by
  unfold State.enterRecoat
  dsimp only
  rw [if_pos ((State.recoats_congr (by rfl) l).trans h)]
  exact ⟨State.recoatStart_sameBut l.drop k _ .planes (by simp), State.recoatStart_sameBut l.drop k _ .job (by simp)⟩

/-! ## Opening a layer (R160, R163) -/

/-- Layer `l` after its command `f` has completed: the last one opened. -/
def State.opened (f : Nat) (l : Layer) (s : State) : State :=
  let s := s.finishId f 0 0 0 false []
  { s with job := { s.job with layers := s.job.layers ++ [l], lastOpened := some l.num, finalOpened := l.final } }

/-- An opened layer is on the list, and besides it only the host part and the outbox change. -/
theorem State.opened_parts (f : Nat) (l : Layer) (s : State) : (s.opened f l).planes = s.planes ∧
    (s.opened f l).eph = s.eph ∧ (s.opened f l).job =
      { s.job with layers := s.job.layers ++ [l], lastOpened := some l.num, finalOpened := l.final } := by
  have same := s.finishId_sameBut f 0 0 0 false []
  have job : (s.finishId f 0 0 0 false []).job = s.job := same .job (by simp)
  refine ⟨same .planes (by simp), same .eph (by simp), ?_⟩
  simp only [State.opened, job]

/-- In a build whose sequence does not wait for it, the layer is put on the list. -/
theorem State.openLayer_of_busy {s : State} {l : Layer} (f : Nat) (hfirst : l.first = false)
    (hw : s.job.syzygy ≠ .waitOpen) : s.openLayer f l = s.opened f l := by
  obtain ⟨-, -, job⟩ := s.opened_parts f l
  have hw' : (s.opened f l).job.syzygy ≠ .waitOpen := by rw [job]; exact hw
  unfold State.openLayer
  dsimp only
  rw [hfirst, if_neg Bool.false_ne_true]
  exact if_neg hw'

/-- A build that waits for the layer begins its sequence. -/
theorem State.openLayer_of_waiting {s : State} {l : Layer} (f : Nat) (hfirst : l.first = false)
    (hw : s.job.syzygy = .waitOpen) : s.openLayer f l = (s.opened f l).enterRecoat (s.opened f l).ix l := by
  obtain ⟨-, -, job⟩ := s.opened_parts f l
  have hw' : (s.opened f l).job.syzygy = .waitOpen := by rw [job]; exact hw
  unfold State.openLayer
  dsimp only
  rw [hfirst, if_neg Bool.false_ne_true]
  exact if_pos hw'

/-- A build that starts. -/
def State.inNewBuild (s : State) : State := { s with job := { s.job with building := true } }

/-- A FIRST layer starts a build with its sequence. -/
theorem State.openLayer_of_first {l : Layer} (f : Nat) (hfirst : l.first = true) (s : State) :
    s.openLayer f l = (s.opened f l).inNewBuild.enterRecoat (s.opened f l).ix l := by
  unfold State.openLayer
  dsimp only
  rw [if_pos hfirst]
  rfl

theorem State.openLayer_recoats_of_waiting {s : State} {l : Layer} (f : Nat) (hfirst : l.first = false)
    (hw : s.job.syzygy = .waitOpen) (hr : s.recoats l = true) :
    (s.openLayer f l).planes.data = .syzygy ∧ (s.openLayer f l).job.syzygy = .recoat ∧
      (s.openLayer f l).job.layers = s.job.layers ++ [l] ∧ (s.openLayer f l).job.lastOpened = some l.num := by
  obtain ⟨-, eph, job⟩ := s.opened_parts f l
  obtain ⟨hplanes, hjob⟩ := State.enterRecoat_of_recoats ((State.recoats_congr eph l).trans hr) (s.opened f l).ix
  rw [State.openLayer_of_waiting f hfirst hw, hplanes, hjob, job]
  exact ⟨rfl, rfl, rfl, rfl⟩

theorem State.openLayer_recoats_of_first {s : State} {l : Layer} (f : Nat) (hfirst : l.first = true)
    (hr : s.recoats l = true) :
    (s.openLayer f l).planes.data = .syzygy ∧ (s.openLayer f l).job.building = true ∧
      (s.openLayer f l).job.layers = s.job.layers ++ [l] ∧ (s.openLayer f l).job.lastOpened = some l.num := by
  obtain ⟨-, eph, job⟩ := s.opened_parts f l
  obtain ⟨hplanes, hjob⟩ := State.enterRecoat_of_recoats (s := (s.opened f l).inNewBuild)
    ((State.recoats_congr eph l).trans hr) (s.opened f l).ix
  rw [State.openLayer_of_first f hfirst, hplanes, hjob]
  refine ⟨rfl, rfl, ?_, ?_⟩ <;> simp only [State.inNewBuild, job]

/-! ## JOB_LAYER_OPEN -/

/-- The layer that an entry opens. -/
def Entry.layer (e : Entry) : Layer :=
  { num := BitVec.ofNat 32 (e.u 0x18 4), first := (e.u 0x1C 2).testBit 0, final := (e.u 0x1C 2).testBit 1
    recoat := (e.u 0x1C 2).testBit 2, image := (e.u 0x1C 2).testBit 3, drop := e.u 0x20 4 }

theorem State.launch_job (f : Flight) (s : State) : (s.launch f).job = s.job := s.launch_sameBut f .job (by simp)

section
variable {e : Entry} {s t : State} {f : Flight} (h : Dispatched 0x0240 e s f t) (heph : t.eph.eph.isSome = true)
  (hfl : e.u 0x1C 2 < 16) (hz : (e.zeroFrom 0x1E 2).1 = false) (hz' : (e.zeroFrom 0x24 28).1 = false)
  (hdrop : e.u 0x20 4 ≤ 1000000)
include h heph hfl hz hz' hdrop

/-- In a build, the layer after the last one opened is opened at once. -/
theorem exec_jobLayerOpen_next (hfirst : e.layer.first = false) (hdata : t.planes.data ≠ .idle)
    (hend : t.job.ending = false) (hfinal : t.job.finalOpened = false) (hlen : t.job.layers.length < 2)
    (hlast : t.job.lastOpened.map (· + 1) = some e.layer.num) :
    exec (.jobLayerOpen e) s = .next ((t.launch f).openLayer f.id e.layer) := by
  have hfirst' : (e.u 0x1C 2).testBit 0 = false := hfirst
  obtain ⟨last, hlast, hnum⟩ := Option.map_eq_some_iff.1 hlast
  refine (command_of_dispatched h _).trans (congrArg Host.Outcome.next ((checked_of_none ?_ _ t).trans ?_))
  · rw [firstBad_eq_none]
    simp [heph, hfl, hz, hz', hdrop, hfirst', hdata, hend, hfinal,
      hlen, hlast]
    exact hnum
  · simp only [hfirst', Bool.false_eq_true, if_false]
    rw [Entry.layer, hfirst']

/-- A FIRST layer in DATA_STATE 1 waits for memory tests and for DRAM at RATE. -/
theorem exec_jobLayerOpen_first (hfirst : e.layer.first = true) (hdata : t.planes.data = .idle)
    (hwait : t.job.waitingOpen = none) : exec (.jobLayerOpen e) s =
      .next ({ t.launch f with job := { t.job with waitingOpen := some (f.id, e.layer) } } : State).tryOpen := by
  have hfirst' : (e.u 0x1C 2).testBit 0 = true := hfirst
  refine (command_of_dispatched h _).trans (congrArg Host.Outcome.next ((checked_of_none ?_ _ t).trans ?_))
  · rw [firstBad_eq_none]
    simp [heph, hfl, hz, hz', hdrop, hfirst', hdata, hwait]
  · simp only [hfirst', if_true, State.launch_job]
    rw [Entry.layer, hfirst']

end

/-- While a memory test runs, a waiting layer does not open. -/
theorem State.tryOpen_of_tests {s : State} {g : Nat} {l : Layer} (hw : s.job.waitingOpen = some (g, l))
    (ht : s.mem.tests ≠ []) : s.tryOpen = s := by
  simp [State.tryOpen, hw, ht]

/-- Channels 0–1 that are not at RATE are not there at once. -/
theorem State.fspUp_not_atRate {s : State} (h : s.mem.fsp ≠ .atRate) : s.fspUp.mem.fsp ≠ .atRate := by
  unfold State.fspUp
  split
  · simp [State.startFsp]
  · split <;> exact h

/-- A layer that waits for DRAM asks for RATE. -/
theorem State.tryOpen_of_slow {s : State} {g : Nat} {l : Layer} (hw : s.job.waitingOpen = some (g, l))
    (ht : s.mem.tests = []) (hr : s.mem.fsp ≠ .atRate) : s.tryOpen = s.fspUp := by
  simp [State.tryOpen, hw, ht, State.fspUp_not_atRate hr]

/-! ## JOB_LAYER_CLOSE and JOB_ABORT (R160, R165) -/

/-- Layer `l` closed. -/
def State.closeLayer (l : W32) (s : State) : State :=
  { s with job := { s.job with layers := s.job.layers.map fun x => if x.num = l then { x with closed := true } else x } }

theorem exec_jobLayerClose {e : Entry} {s t : State} {f : Flight} (h : Dispatched 0x0241 e s f t)
    (heph : t.eph.eph.isSome = true) (hz : (e.zeroFrom 0x1C 36).1 = false)
    (hopen : ∃ x ∈ t.job.layers, x.num = BitVec.ofNat 32 (e.u 0x18 4) ∧ x.closed = false) :
    exec (.jobLayerClose e) s = .next ((t.closeLayer (BitVec.ofNat 32 (e.u 0x18 4))).ok f 0 0 []) := by
  have open_ : (t.job.layers.any fun x => x.num == BitVec.ofNat 32 (e.u 0x18 4) && !x.closed) = true := by
    simpa using hopen
  refine (command_of_dispatched h _).trans (congrArg Host.Outcome.next ((checked_of_none ?_ _ t).trans rfl))
  rw [firstBad_eq_none]
  simp [heph, hz, open_]

theorem exec_jobAbort {e : Entry} {s t : State} {f : Flight} (h : Dispatched 0x0243 e s f t)
    (heph : t.eph.eph.isSome = true) (hz : (e.zeroFrom 0x18 40).1 = false) :
    exec (.jobAbort e) s = .next ((t.ok f 0 0 []).trigger allCh 1 0x0B02) := by
  refine (command_of_dispatched h _).trans (congrArg Host.Outcome.next ((checked_of_none ?_ _ t).trans rfl))
  rw [firstBad_eq_none]
  simp [heph, hz]

/-! ## LAYER_END (R161, R163, R164) -/

theorem sameBut_planes (s : State) (x : Planes) : SameBut [.planes] s { s with planes := x } := by
  intro p hp; cases p <;> simp_all [Part.Same]

theorem State.summarize_sameBut (l : W32) (s : State) : SameBut [.tail, .mem] s (s.summarize l) :=
  SameBut.ite (SameBut.refl _ s) ((State.recordAt_sameBut _ _ _ _ _ s).trans (State.recordAt_sameBut _ _ _ _ _ _))

/-- The first non-OK code among the descriptors of layer `l`, or 0. -/
def State.layerCode (s : State) (l : W32) : Code := ((s.job.layerStatus.find? fun x => x.1 == l).map (·.2)).getD 0

/-- LAYER_DONE of layer `l` is posted and its summary written. -/
def State.layerDone (l : W32) (s : State) : State := (s.event 6 (s.layerCode l) (l.setWidth 64)).summarize l

/-- Layer `l` is removed, and DATA_STATE is 3. -/
def State.removeLayer (l : W32) (s : State) : State :=
  { s with
    planes := { s.planes with data := .syzygy }
    job := { s.job with
      running := none, layers := s.job.layers.filter fun x => x.num != l
      layerStatus := s.job.layerStatus.filter fun x => x.1 != l } }

/-- What follows a layer: the end of the build, the next sequence, or the wait for JOB_LAYER_OPEN. -/
def State.afterLayer (final : Bool) (s : State) : State :=
  if final then s.buildOver
  else match s.job.layers.head? with
    | some n => s.enterRecoat s.ix n
    | none => { s with job := { s.job with syzygy := .waitOpen } }

theorem State.afterLayer_of_final (s : State) : s.afterLayer true = s.buildOver := if_pos rfl

theorem State.afterLayer_of_next {s : State} {n : Layer} (h : s.job.layers.head? = some n) :
    s.afterLayer false = s.enterRecoat s.ix n := by
  simp only [State.afterLayer, h, Bool.false_eq_true, if_false]

theorem State.afterLayer_of_none {s : State} (h : s.job.layers = []) :
    s.afterLayer false = { s with job := { s.job with syzygy := .waitOpen } } := by
  simp only [State.afterLayer, h, List.head?_nil, Bool.false_eq_true, if_false]

theorem State.layerDone_sameBut (l : W32) (s : State) : SameBut [.host, .outbox, .tail, .mem] s (s.layerDone l) :=
  ((s.event_sameBut 6 (s.layerCode l) (l.setWidth 64)).mono (by simp)).trans
    ((State.summarize_sameBut l _).mono (by simp))

theorem State.removeLayer_sameBut (l : W32) (s : State) : SameBut [.planes, .job] s (s.removeLayer l) :=
  (sameBut_planes s { s.planes with data := .syzygy }).comp (sameBut_job _ _)

theorem State.removeLayer_job {s t : State} (h : t.job = s.job) (l : W32) : (t.removeLayer l).job = { s.job with
    running := none, layers := s.job.layers.filter fun x => x.num != l
    layerStatus := s.job.layerStatus.filter fun x => x.1 != l } := by
  simp only [State.removeLayer, h]

theorem exec_layerEnd {s : State} {l : W32} (hrun : s.job.running = some l) (hover : s.layerOver l = true)
    (hend : s.job.ending = false) : exec .layerEnd s =
      .next (((s.layerDone l).removeLayer l).afterLayer (s.job.layers.any fun x => x.num == l && x.final)) := by
  show execLayerEnd s = _
  simp only [execLayerEnd, hrun, hover, hend, Bool.true_eq_false, Bool.false_eq_true, or_self, if_false,
    State.layerDone, State.layerCode]
  generalize State.summarize l _ = x
  rfl

/-- Settles O25, from the equation of each command, `State.enterRecoat_of_recoats` and `exec_layerEnd`. -/
theorem layersOpenCloseAndEnd : Obligations.LayersOpenCloseAndEnd := by
  rintro e s t f num fl rfl rfl
  refine ⟨fun h hz => ⟨fun p => exec_jobStatus_pool h hz, exec_jobStatus_all h hz⟩, fun l => State.layerWord_mod,
    fun h heph hfl hz hz' hdrop => ⟨fun hfirst hdata hend hfinal hlen hlast => ?next, fun hfirst hdata hwait => ?first⟩,
    fun h heph hz hopen => ?close, exec_jobAbort, fun l hrun hover hend => ?ends⟩
  case next =>
    have run := exec_jobLayerOpen_next h heph hfl hz hz' hdrop hfirst hdata hend hfinal hlen hlast
    have job := t.launch_job f
    refine ⟨run, fun hw => ⟨_, run, ?_⟩, fun hw hr => ⟨_, run, ?_⟩⟩
    · obtain ⟨hplanes, -, hjob⟩ := (t.launch f).opened_parts f.id e.layer
      rw [State.openLayer_of_busy f.id hfirst (by rw [job]; exact hw), hplanes, hjob, job]
      exact ⟨t.launch_sameBut f .planes (by simp), rfl⟩
    · rw [← job]
      exact State.openLayer_recoats_of_waiting f.id hfirst (by rw [job]; exact hw)
        ((State.recoats_congr (t.launch_eph f) _).trans hr)
  case first =>
    rintro v rfl
    have run := exec_jobLayerOpen_first h heph hfl hz hz' hdrop hfirst hdata hwait
    have mem : (t.launch f).mem = t.mem := t.launch_sameBut f .mem (by simp)
    refine ⟨fun ht => run.trans (congrArg _ (State.tryOpen_of_tests rfl (by rwa [mem]))),
      fun ht hr => run.trans (congrArg _ (State.tryOpen_of_slow rfl (by rwa [mem]) (by rwa [mem]))), fun ht hr => ?_⟩
    rw [State.tryOpen_of_ready rfl (by rwa [mem]) (by rwa [mem])] at run
    exact ⟨run, fun hrec => ⟨_, run, State.openLayer_recoats_of_first f.id hfirst
      ((State.recoats_congr (t.launch_eph f) _).trans hrec)⟩⟩
  case close =>
    refine ⟨_, exec_jobLayerClose h heph hz hopen, sameBut_job t _, fun x hx hnum => ?_, ?_⟩
    · obtain ⟨y, -, rfl⟩ := List.mem_map.1 hx
      split_ifs at hnum ⊢ with hy
      · rfl
      · exact absurd hnum hy
    · show ((t.job.layers.map _).map _) = _
      rw [List.map_map]
      exact List.map_congr_left fun x _ => by simp only [Function.comp]; split <;> rfl
  case ends =>
    have run := exec_layerEnd hrun hover hend
    have same : SameBut [.host, .outbox, .tail, .planes, .job, .mem] s ((s.layerDone l).removeLayer l) :=
      ((s.layerDone_sameBut l).mono (by simp)).trans ((State.removeLayer_sameBut l _).mono (by simp))
    have time := same .time (by simp)
    refine ⟨_, same, rfl, State.removeLayer_job (s.layerDone_sameBut l .job (by simp)) l, fun hfinal => ?final, fun hnot => ?goesOn⟩
    case final =>
      have final : (s.job.layers.any fun x => x.num == l && x.final) = true := by simpa using hfinal
      rw [run, final, State.afterLayer_of_final]
    case goesOn =>
      have final : (s.job.layers.any fun x => x.num == l && x.final) = false := by simpa using hnot
      rw [run, final]
      refine ⟨fun n hn => ?_, fun hnone => by rw [State.afterLayer_of_none hnone]⟩
      rw [State.afterLayer_of_next hn, State.ix, time, State.ix]

end Sys2Proof.Machine
end

section
/-!
Pools and plans after a change: a pool and its descriptors, what an engine's plan is given, and what it gives back.
-/

namespace Sys2Proof.Machine

/-! ## One pool changed -/

/-- A pool changed is found where it was. -/
theorem State.pool?_modPool {f : Pool → Pool} (hf : ∀ p, (f p).num = p.num) (num : Nat) (s : State) :
    (s.modPool num f).pool? num = (s.pool? num).map f := by
  have number : ((fun p : Pool => p.num == num) ∘ fun p => if p.num = num then f p else p) = fun p => p.num == num := by
    funext p
    by_cases h : p.num = num <;> simp [h, hf]
  simp only [State.pool?, State.modPool, List.find?_map, number]
  cases h : s.job.pools.find? fun p => p.num == num with
  | none => rfl
  | some p =>
    have hp : p.num = num := by simpa using List.find?_some h
    simp [hp]

theorem State.pool?_modDesc (num id : Nat) (f : Desc → Desc) (s : State) : (s.modDesc num id f).pool? num =
    (s.pool? num).map (Pool.modDescs fun d => if d.flight = id then f d else d) := by
  refine State.pool?_modPool ?_ num s
  exact fun _ => rfl

theorem State.pool?_of_job {s t : State} (h : t.job = s.job) (num : Nat) : t.pool? num = s.pool? num := by
  simp only [State.pool?, h]

/-- A descriptor of a pool in which one command's descriptors were changed. -/
theorem mem_modDescs {f : Desc → Desc} {id : Nat} {p : Pool} {x : Desc}
    (h : x ∈ (p.modDescs fun d => if d.flight = id then f d else d).queue) :
    (∃ d ∈ p.queue, d.flight = id ∧ x = f d) ∨ x ∈ p.queue ∧ x.flight ≠ id := by
  obtain ⟨d, hd, rfl⟩ := List.mem_map.1 h
  by_cases hid : d.flight = id
  · exact .inl ⟨d, hd, hid, if_pos hid⟩
  · rw [if_neg hid]
    exact .inr ⟨hd, hid⟩

/-! ## One engine changed -/

theorem State.engine_congr {s t : State} (h : t.engines = s.engines) (n : Nat) : t.engine n = s.engine n := by
  simp only [State.engine, h]

/-- What an engine waits for, the words of its plan, and the highest SYNC TAG that it has reached. -/
def Engine.plan (e : Engine) : EngWait × List Item × Option W32 := (e.wait, e.queue, e.syncTag)

/-- A change that leaves the plan of an engine alone leaves those of all engines alone. -/
theorem State.plan_modEngine {f : Engine → Engine} (hf : ∀ e, (f e).plan = e.plan) (n m : Nat) (s : State) :
    ((s.modEngine n f).engine m).plan = (s.engine m).plan := by
  by_cases hm : m = n
  · subst hm
    by_cases hlt : m < 32
    · rw [State.engine_modEngine_same hlt, hf]
    · simp [State.engine, State.modEngine, nth, hlt]
  · rw [State.engine_modEngine_other hm]

/-! ## A word that is done (R141, R142, R150) -/

theorem State.wordDone_sameBut (n : Nat) (it : Item) (last : Nat) (s : State) :
    SameBut [.engines, .job] s (s.wordDone n it last) :=
  SameBut.ite (SameBut.refl _ s) (((sameBut_job s _).mono (by simp)).trans ((sameBut_engines _ _).mono (by simp)))

/-- A word that is done is counted, and no plan changes. -/
theorem State.wordDone_plan (n : Nat) (it : Item) (last m : Nat) (s : State) :
    ((s.wordDone n it last).engine m).plan = (s.engine m).plan := by
  unfold State.wordDone
  split
  · rfl
  · refine State.plan_modEngine ?_ n m _
    exact fun _ => rfl

theorem State.wordDone_engine_other {n m : Nat} (h : m ≠ n) (it : Item) (last : Nat) (s : State) :
    (s.wordDone n it last).engine m = s.engine m := by
  unfold State.wordDone
  split
  · rfl
  · exact State.engine_modEngine_other h _ _

section
variable {s : State} {n : Nat} {it : Item} {r : List Item} (hq : (s.engine n).queue = it :: r)
include hq

/-- The control word at the front of a plan leaves it, and the words behind it stay. -/
theorem State.dropControl_plan (hn : n < 32) (k : Nat) : ((s.dropControl n k).engine n).plan =
    (.none, r, if it.word.ty = .sync then some it.word.w2 else (s.engine n).syncTag) := by
  unfold State.dropControl
  rw [hq]
  dsimp only
  rw [State.wordDone_plan, State.engine_modEngine_same hn]
  cases it.word.ty <;> rfl

theorem State.dropControl_sameBut (k : Nat) : SameBut [.engines, .job] s (s.dropControl n k) := by
  unfold State.dropControl
  rw [hq]
  exact ((sameBut_engines s _).mono (by simp)).trans (State.wordDone_sameBut _ _ _ _)

theorem State.dropControl_engine_other {m : Nat} (hm : m ≠ n) (k : Nat) :
    (s.dropControl n k).engine m = s.engine m := by
  unfold State.dropControl
  rw [hq]
  exact (State.wordDone_engine_other hm _ _ _).trans (State.engine_modEngine_other hm _ _)

end

theorem State.settleDescs_engine (n : Nat) (s : State) : s.settleDescs.engine n = s.engine n :=
  State.engine_congr (s.settleDescs_sameBut .engines (by simp)) n

/-! ## What a pool gives to a plan (R144, R203) -/

/-- Words may have come to the end of engine `n`'s plan, and descriptors may have completed. -/
structure PlanGrows (n : Nat) (s t : State) : Prop where
  same : SameBut [.engines, .job, .host, .outbox] s t
  wait : (t.engine n).wait = (s.engine n).wait
  queue : (s.engine n).queue <+: (t.engine n).queue
  tag : (t.engine n).syncTag = (s.engine n).syncTag

theorem PlanGrows.of_plan {n : Nat} {s t : State} (same : SameBut [.engines, .job, .host, .outbox] s t)
    (h : (t.engine n).plan = (s.engine n).plan) : PlanGrows n s t := by
  simp only [Engine.plan, Prod.mk.injEq] at h
  obtain ⟨wait, queue, tag⟩ := h
  exact ⟨same, wait, queue ▸ List.prefix_refl _, tag⟩

theorem PlanGrows.of_sameBut {n : Nat} {s t : State} (h : SameBut [.job, .host, .outbox] s t) : PlanGrows n s t :=
  .of_plan (h.mono (by simp)) (by rw [State.engine_congr (h .engines (by simp))])

theorem PlanGrows.refl (n : Nat) (s : State) : PlanGrows n s s := .of_plan (SameBut.refl _ s) rfl

theorem PlanGrows.trans {n : Nat} {s t u : State} (h : PlanGrows n s t) (k : PlanGrows n t u) : PlanGrows n s u :=
  ⟨h.same.trans k.same, k.wait.trans h.wait, h.queue.trans k.queue, k.tag.trans h.tag⟩

theorem State.addWords_grows {n : Nat} (hn : n < 32) (l : List Item) (s : State) :
    PlanGrows n s (s.modEngine n fun e => { e with queue := e.queue ++ l }) := by
  have engine := State.engine_modEngine_same hn (fun e => { e with queue := e.queue ++ l }) s
  exact ⟨(sameBut_engines s _).mono (by simp), by rw [engine], by rw [engine]; exact List.prefix_append _ _,
    by rw [engine]⟩

theorem State.feedOne_grows {n : Nat} {s t : State} (hn : n < 32) (h : s.feedOne n = some t) : PlanGrows n s t := by
  have job {s t : State} (h : SameBut [.job] s t) : PlanGrows n s t := .of_sameBut (h.mono (by simp))
  unfold State.feedOne at h
  split at h
  · cases h
  · split at h
    · cases h
      exact (job (s.modDesc_sameBut _ _ _)).trans (.of_sameBut (State.settleDescs_sameBut _))
    · split at h
      · cases h
      · cases h
        exact (((job (sameBut_job s _)).trans (job (State.modDesc_sameBut _ _ _ _))).trans
          (State.addWords_grows hn _ _)).trans (.of_sameBut (State.settleDescs_sameBut _))

theorem State.feed_grows {n : Nat} (hn : n < 32) (k fuel : Nat) (s : State) : PlanGrows n s (s.feed n k fuel) := by
  induction fuel generalizing s with
  | zero => exact .refl n s
  | succ fuel ih =>
    unfold State.feed
    split
    · split
      next hfed => exact (State.feedOne_grows hn hfed).trans (ih _)
      next => exact .refl n s
    · exact .refl n s

/-! ## Marks of holds (R215) -/

theorem State.markOne_sameBut (k : Nat) (acc : State × List Stroke) (x : Stroke) :
    SameBut [.engines] acc.1 (State.markOne k acc x).1 := by
  unfold State.markOne
  dsimp only
  split
  · exact SameBut.refl _ _
  · split
    · exact SameBut.refl _ _
    · exact sameBut_engines _ _

theorem State.markOne_plan (k n : Nat) (acc : State × List Stroke) (x : Stroke) :
    ((State.markOne k acc x).1.engine n).plan = (acc.1.engine n).plan := by
  unfold State.markOne
  dsimp only
  split
  · rfl
  · split
    · rfl
    · refine State.plan_modEngine ?_ x.eng n acc.1
      exact fun _ => rfl

/-- Holds are marked on engines, and no plan changes. -/
theorem holdMarks_grows {n : Nat} (hn : n < 32) (which : Nat → Bool) (k : Nat) (acc : State × List Stroke) :
    PlanGrows n acc.1 (holdMarks which k acc).1 := by
  have marks (l : List Stroke) (acc : State × List Stroke) : PlanGrows n acc.1 (l.foldl (State.markOne k) acc).1 := by
    induction l generalizing acc with
    | nil => exact .refl n acc.1
    | cons x r ih =>
      exact (PlanGrows.of_plan ((State.markOne_sameBut k acc x).mono (by simp)) (State.markOne_plan k n acc x)).trans
        (ih _)
  refine PlanGrows.trans (t := { acc.1 with
    engines := updAll acc.1.engines fun n e => if which n then { e with pend := none } else e })
    (.of_plan ((sameBut_engines acc.1 _).mono (by simp)) ?_) (marks _ (_, _))
  rw [State.engine, nth_updAll _ _ _ hn]
  split <;> rfl

end Sys2Proof.Machine
end

section
/-!
Engines (R141, R142, R194, R205, R219, R225): waits, SYNC words, starved strokes, parking and escalations.
-/

namespace Sys2Proof.Machine

theorem exec_vectorStart {s : State} {n : Nat} (hrun : s.mayRun n = true) (hwait : (s.engine n).wait = .starved)
    (hrest : (s.engine n).cur = none) (htiles : s.tilesReady n (s.ix + 1) = true) :
    exec (.vectorStart n) s = .next (s.modEngine n fun e => { e with wait := .none }) :=
  congrArg Host.Outcome.next (if_pos ⟨hrun, hwait, hrest, htiles⟩)

theorem exec_waitEnd {s : State} {n u : Nat} (hwait : (s.engine n).wait = .wait u) (hu : u ≤ s.ix + 1) :
    exec (.waitEnd n) s = .next (s.dropControl n s.ix).settleDescs := by
  show execWaitEnd n s = _
  simp only [execWaitEnd, hwait, hu, if_true]

/-- The plan of engine `n` grows again, and its hold is decided anew. -/
def State.goOn (n : Nat) (s : State) : State :=
  let t := s.feed n (s.ix + 1) planFuel
  (holdMarks (· == n) t.ix (t, t.published t.ix)).1

theorem State.goOn_grows {n : Nat} (hn : n < 32) (s : State) : PlanGrows n s (s.goOn n) :=
  (State.feed_grows hn (s.ix + 1) planFuel s).trans (holdMarks_grows hn (· == n) _ (_, _))

theorem exec_syncRelease {s : State} {n : Nat} {m tag : W32} (hwait : (s.engine n).wait = .sync m tag)
    (hfree : s.syncFree m tag = true) :
    exec (.syncRelease n) s = .next ((s.dropControl n s.ix).settleDescs.goOn n) := by
  show execSyncRelease n s = _
  simp only [execSyncRelease, hwait, hfree, if_true]
  rfl

theorem exec_engineParked {s : State} {n : Nat} (hd : s.declared n = true) (he : s.eclipsed n = true)
    (hrest : (s.engine n).cur = none) (hpark : (s.engine n).parked = false) :
    exec (.engineParked n) s = .next ((s.modEngine n fun e => { e with parked := true }).endIfParked) :=
  congrArg Host.Outcome.next (if_pos ⟨hd, he, hrest, hpark⟩)

/-- Parking ends nothing but a build that Eclipse has ended. -/
theorem State.endIfParked_of_not_ending {s : State} (h : s.job.ending = false) : s.endIfParked = s :=
  if_neg (by simp [h])

theorem exec_holdEscalation {s : State} {n : Nat} {h : HoldSt} (hheld : (s.engine n).held = some h)
    (hage : h.start + 40000 ≤ s.ix + 1) (hnot : (s.engine n).escalated = false) :
    exec (.holdEscalation n) s = .next { s.modEngine n fun e => { e with escalated := true } with
      arb := { s.arb with escalate := s.arb.escalate.inc } } := by
  show execHoldEscalation n s = _
  simp only [execHoldEscalation, hheld, hage, hnot, and_self, if_true]
  rfl

theorem exec_takeEscalation {s : State} {z : Nat} {p : Pool} (hp : s.pool? (overlapPool z) = some p)
    (hage : 40000 ≤ p.headAge + 1) :
    exec (.takeEscalation z) s = .next (s.modPool (overlapPool z) fun p => { p with escalated := true }) := by
  show execTakeEscalation z s = _
  simp only [execTakeEscalation, hp, hage, if_true]

/-- Settles O27, from the equation of each event, `State.dropControl_plan` and `State.feed_grows`. -/
theorem enginesWaitStartAndEscalate : Obligations.EnginesWaitStartAndEscalate := by
  intro s n hn
  refine ⟨fun hrun hwait hrest htiles => ?starts, fun u it r hwait hu hq => ?waits,
    fun m tag it r hwait hfree hq hty => ?syncs, fun hd he hrest hpark => ?parks, fun h hheld hage hnot => ?holds,
    fun z p hp hage => ?takes⟩
  case starts =>
    exact ⟨_, exec_vectorStart hrun hwait hrest htiles, State.engine_modEngine_same hn _ s,
      fun m hm => State.engine_modEngine_other hm _ s, sameBut_engines s _⟩
  case waits =>
    have plan := State.dropControl_plan hq hn s.ix
    simp only [Engine.plan, Prod.mk.injEq] at plan
    obtain ⟨hnone, hr, -⟩ := plan
    refine ⟨_, exec_waitEnd hwait hu, ?_, ?_, fun m hm => ?_,
      ((State.dropControl_sameBut hq s.ix).mono (by simp)).trans ((State.settleDescs_sameBut _).mono (by simp))⟩
    · rw [State.settleDescs_engine, hnone]
    · rw [State.settleDescs_engine, hr]
    · rw [State.settleDescs_engine, State.dropControl_engine_other hq hm]
  case syncs =>
    have plan := State.dropControl_plan hq hn s.ix
    simp only [Engine.plan, Prod.mk.injEq, hty, if_true] at plan
    obtain ⟨hnone, hr, htag⟩ := plan
    have grows := (PlanGrows.of_sameBut (n := n) (State.settleDescs_sameBut (s.dropControl n s.ix))).trans
      (State.goOn_grows hn _)
    exact ⟨_, exec_syncRelease hwait hfree, grows.wait.trans hnone, hr ▸ grows.queue, grows.tag.trans htag,
      ((State.dropControl_sameBut hq s.ix).mono (by simp)).trans grows.same⟩
  case parks =>
    have run := exec_engineParked hd he hrest hpark
    refine ⟨run, fun hend => ⟨_, run.trans (congrArg _ (State.endIfParked_of_not_ending hend)), ?_,
      sameBut_engines s _⟩⟩
    rw [State.engine_modEngine_same hn]
  case holds =>
    exact ⟨_, exec_holdEscalation hheld hage hnot, State.engine_modEngine_same hn _ s,
      fun m hm => State.engine_modEngine_other hm _ s, rfl, (sameBut_engines s _).comp (sameBut_arb _ _)⟩
  case takes =>
    refine ⟨_, exec_takeEscalation hp hage, ?_, sameBut_job s _⟩
    rw [State.pool?_modPool (by exact fun _ => rfl), hp]
    rfl

end Sys2Proof.Machine
end

section
/-!
What work on descriptors leaves alone: the numbers, next DSEQs and end points of pools, and every part of the state but
jobs and engines.
-/

namespace Sys2Proof.Machine

/-! ## What work on descriptors leaves of a pool -/

/-- A pool's number, the next DSEQ that it takes, and its end point. -/
def Pool.stem (p : Pool) : Nat × W32 × Option (Int × Int) := (p.num, p.expect, p.endPt)

def State.stems (s : State) : List (Nat × W32 × Option (Int × Int)) := s.job.pools.map Pool.stem

theorem State.stem_pool?_congr {s t : State} (h : t.stems = s.stems) (num : Nat) :
    (t.pool? num).map Pool.stem = (s.pool? num).map Pool.stem := by
  have find (s : State) : (s.pool? num).map Pool.stem = s.stems.find? fun x => x.1 == num := by
    rw [State.stems, List.find?_map]
    rfl
  rw [find, find, h]

theorem State.stems_of_job {s t : State} (h : t.job = s.job) : t.stems = s.stems := by
  simp only [State.stems, h]

theorem State.modPool_stems {f : Pool → Pool} (hf : ∀ p, (f p).stem = p.stem) (num : Nat) (s : State) :
    (s.modPool num f).stems = s.stems := by
  rw [State.stems, State.modPool, List.map_map]
  refine List.map_congr_left fun p _ => ?_
  rw [Function.comp_apply, apply_ite Pool.stem, hf, ite_self]

theorem State.modDesc_stems (num id : Nat) (f : Desc → Desc) (s : State) : (s.modDesc num id f).stems = s.stems := by
  refine State.modPool_stems ?_ num s
  exact fun _ => rfl

theorem State.discardDescs_stems (num : Nat) (code : Code) (q : Desc → Bool) (s : State) :
    (s.discardDescs num code q).stems = s.stems := by
  refine State.modPool_stems ?_ num s
  exact fun _ => rfl

theorem State.dropZones_stems (s : State) : s.dropZones.stems = s.stems := by
  unfold State.dropZones
  split
  · rfl
  · refine foldl_keep State.stems _ (fun s z => ?_) _ s
    split
    · exact s.discardDescs_stems _ _ _
    · rfl

theorem State.completeDesc_stems (d : Desc) (s : State) : (s.completeDesc d).stems = s.stems := by
  unfold State.completeDesc
  split
  · exact State.stems_of_job (s.finishId_sameBut _ _ _ _ _ _ .job (by simp))
  · exact (State.stems_of_job (State.finishId_sameBut _ _ _ _ _ _ _ .job (by simp))).trans rfl

theorem State.settleDescs_stems (s : State) : s.settleDescs.stems = s.stems := by
  refine (foldl_keep State.stems _ (fun s d => s.completeDesc_stems d) _ _).trans ?_
  rw [State.stems, List.map_map]
  rfl

/-- Words that go back to their descriptors. -/
theorem State.giveBack_stems (l : List (Nat × Nat)) (f : Nat × Nat → Desc → Desc) (s : State) :
    (l.foldl (fun s k => s.modDesc k.1 k.2 (f k)) s).stems = s.stems :=
  foldl_keep State.stems _ (fun s _ => s.modDesc_stems _ _ _) l s

theorem State.returnTakes_stems (n : Nat) (s : State) : (s.returnTakes n).stems = s.stems := by
  refine (State.stems_of_job rfl).trans (foldl_keep State.stems _ (fun s _ => ?_) _ s)
  refine (State.modPool_stems ?_ _ _).trans (s.modDesc_stems _ _ _)
  exact fun _ => rfl

theorem State.returnOwn_stems (n : Nat) (s : State) : (s.returnOwn n).stems = s.stems :=
  (State.stems_of_job rfl).trans (foldl_keep State.stems _ (fun s _ => s.modDesc_stems _ _ _) _ s)

theorem State.returnBad_stems (bad : Item → Bool) (n : Nat) (s : State) : (s.returnBad bad n).stems = s.stems := by
  unfold State.returnBad
  dsimp only
  split
  · rfl
  · exact (State.stems_of_job rfl).trans (State.giveBack_stems _ _ s)

theorem State.refusePool_stems (n : Nat) (s : State) : (s.refusePool n).stems = s.stems := by
  have pool (s : State) (c : Code) : (s.modPool n fun p => { p with queue := refuseFront c p.queue }).stems = s.stems := by
    refine State.modPool_stems ?_ n s
    exact fun _ => rfl
  unfold State.refusePool
  split
  · rfl
  · split
    · refine (State.modPool_stems ?_ n _).trans ?_
      · intro p
        split <;> rfl
      · split
        · exact (State.stems_of_job rfl).trans (s.returnBad_stems _ n)
        · rfl
    · exact (pool _ _).trans ((State.returnOwn_stems n _).trans (s.returnTakes_stems n))

theorem State.refusePools_stems (s : State) : s.refusePools.stems = s.stems := by
  refine foldl_keep State.stems _ (fun s n => ?_) _ s
  split
  · exact s.refusePool_stems n
  · rfl

/-! ## What heads without a grid give back (R45, R297, R398) -/

theorem State.returnBad_sameBut (bad : Item → Bool) (n : Nat) (s : State) :
    SameBut [.job, .engines] s (s.returnBad bad n) := by
  have give (l : List (Nat × Nat)) (f : Nat × Nat → Desc → Desc) :
      SameBut [.job, .engines] s (l.foldl (fun s k => s.modDesc k.1 k.2 (f k)) s) :=
    SameBut.foldl (fun s _ => (s.modDesc_sameBut _ _ _).mono (by simp)) l s
  exact SameBut.ite (SameBut.refl _ s) ((give _ _).trans ((sameBut_engines _ _).mono (by simp)))

theorem State.returnTakes_sameBut (n : Nat) (s : State) : SameBut [.job, .engines] s (s.returnTakes n) := by
  have give (l : List (Nat × Nat)) (f : Nat × Nat → Desc → Desc) (g : Pool → Pool) :
      SameBut [.job, .engines] s (l.foldl (fun s k => (s.modDesc k.1 k.2 (f k)).modPool k.1 g) s) :=
    SameBut.foldl (fun s _ => ((s.modDesc_sameBut _ _ _).trans (sameBut_job _ _)).mono (by simp)) l s
  exact (give _ _ _).trans ((sameBut_engines _ _).mono (by simp))

theorem State.returnOwn_sameBut (n : Nat) (s : State) : SameBut [.job, .engines] s (s.returnOwn n) := by
  have give (l : List Nat) (f : Nat → Desc → Desc) :
      SameBut [.job, .engines] s (l.foldl (fun s d => s.modDesc n d (f d)) s) :=
    SameBut.foldl (fun s _ => (s.modDesc_sameBut _ _ _).mono (by simp)) l s
  exact (give _ _).trans ((sameBut_engines _ _).mono (by simp))

theorem State.refusePool_sameBut (n : Nat) (s : State) : SameBut [.job, .engines] s (s.refusePool n) := by
  have pool (s : State) (f : Pool → Pool) : SameBut [.job, .engines] s (s.modPool n f) :=
    (sameBut_job s _).mono (by simp)
  unfold State.refusePool
  split
  · exact SameBut.refl _ s
  · split
    · exact (SameBut.ite ((s.returnBad_sameBut _ n).trans ((sameBut_engines _ _).mono (by simp)))
        (SameBut.refl _ s)).trans (pool _ _)
    · exact ((s.returnTakes_sameBut n).trans (State.returnOwn_sameBut n _)).trans (pool _ _)

theorem State.refusePools_sameBut (s : State) : SameBut [.job, .engines] s s.refusePools :=
  SameBut.foldl (fun s n => SameBut.ite (s.refusePool_sameBut n) (SameBut.refl _ s)) _ s

theorem State.refusedAndSettled_mem (s : State) : s.refusePools.settleDescs.mem = s.mem := by
  have refused : s.refusePools.mem = s.mem := s.refusePools_sameBut .mem (by simp)
  have settled : s.refusePools.settleDescs.mem = s.refusePools.mem :=
    State.settleDescs_sameBut s.refusePools .mem (by simp)
  rw [settled, refused]

theorem State.spoilWords_sameBut (bad : Item → Bool) (s : State) : SameBut [.job, .engines] s (s.spoilWords bad) :=
  (SameBut.foldl (fun s n => s.returnBad_sameBut bad n) _ s).trans ((sameBut_job _ _).mono (by simp))

end Sys2Proof.Machine
end

section
/-!
Blocks (R147–R154, R193, R398): JOB_SUBMIT, staging, and tiles.
-/

namespace Sys2Proof.Machine

/-! ## JOB_SUBMIT (R148) -/

/-- The layer of the block that an entry brings. -/
def Entry.blockLayer (e : Entry) : W32 := BitVec.ofNat 32 (e.u 0x18 4)

/-- Its words: UNITS 16-byte units. -/
def Entry.blockData (e : Entry) : List Byte := e.data.take (16 * e.u 0x24 4)

/-- The check value of its words, seeded with its layer, its pool and its DSEQ (R147). -/
def Entry.blockCrc (e : Entry) : W32 :=
  (checkReg 0 (checkSeed 0 0xFFFFFFFF (BitVec.ofNat 64 (e.blockLayer.toNat * 2 ^ 32 + e.u 0x1C 2))
    (BitVec.ofNat 32 (e.u 0x20 4))) e.blockData).setWidth 32 ^^^ 0xFFFFFFFF

/-- The premises of checks 1 to 13 of R148 for a block of pool `p`, with a buffer that can be read. -/
structure BlockFits (e : Entry) (s : State) (p : Pool) : Prop where
  eph : s.eph.eph.isSome = true
  build : s.inBuild = true
  ending : s.job.ending = false
  zero : (e.zeroFrom 0x1E 2).1 = false
  zero' : (e.zeroFrom 0x30 16).1 = false
  number : e.u 0x1C 2 < 32 ∨ 0x100 ≤ e.u 0x1C 2 ∧ e.u 0x1C 2 < 0x200
  pool : s.pool? (e.u 0x1C 2) = some p
  grid : e.u 0x1C 2 < 32 → s.gridOk (e.u 0x1C 2) = true
  layer : ∃ x ∈ s.job.layers, x.num = e.blockLayer ∧ x.closed = false
  light : e.u 0x1C 2 < 32 → s.job.running = some e.blockLayer → s.eclipsed (e.u 0x1C 2) = false
  nonempty : 1 ≤ e.u 0x24 4
  most : e.u 0x24 4 ≤ 4096
  length : e.dataLen = 16 * e.u 0x24 4
  inline : e.inline = true → e.u 0x24 4 ≤ 84
  dseq : BitVec.ofNat 32 (e.u 0x20 4) = p.expect
  room : p.queue.length < 64
  dma : e.dmaOk = true

/-- The scan of the block's words. -/
def State.scanBlock (s : State) (f : Flight) (e : Entry) (p : Pool) : Except Nat BlockScan :=
  (s.blockEnv (e.u 0x1C 2) f.id).scan (e.u 0x24 4 + 1) (e.u 0x24 4) 0 e.blockData (p.blockScan e.blockLayer)

/-- A block whose words have been read: its check value, its words and its vectors are judged in this order. -/
def State.judgeBlock (f : Flight) (e : Entry) (p : Pool) (s : State) : State :=
  if e.blockCrc.toNat ≠ e.u 0x28 4 then s.reject f { code := 0x0706, ofs := 0x28 }
  else match s.scanBlock f e p with
    | .error o => s.reject f { code := 0x0204, ofs := o }
    | .ok c =>
      if c.vectors ≠ e.u 0x2C 4 then s.reject f { code := 0x0204, ofs := 0x2C }
      else s.queueBlock f (e.u 0x1C 2) e.blockLayer (BitVec.ofNat 32 (e.u 0x20 4)) c

theorem exec_jobSubmit {e : Entry} {s t : State} {f : Flight} {p : Pool} (h : Dispatched 0x0242 e s f t)
    (hb : BlockFits e t p) : exec (.jobSubmit e) s = .next ((t.checkUsed e.dataLen).judgeBlock f e p) := by
  refine (command_of_dispatched h _).trans (congrArg Host.Outcome.next ((checked_of_none ?_ _ t).trans ?_))
  · have build : (!t.inBuild || t.job.ending) = false := by simp [hb.build, hb.ending]
    have grid : (decide (e.u 0x1C 2 < 32) && !t.gridOk (e.u 0x1C 2)) = false := by simpa using hb.grid
    have layer : (t.job.layers.any fun x => x.num == BitVec.ofNat 32 (e.u 0x18 4) && !x.closed) = true := by
      simpa [Entry.blockLayer] using hb.layer
    have light : (decide (e.u 0x1C 2 < 32) && t.job.running == some (BitVec.ofNat 32 (e.u 0x18 4)) &&
        t.eclipsed (e.u 0x1C 2)) = false := by
      simpa [Entry.blockLayer] using hb.light
    have units : (decide (e.u 0x24 4 = 0 ∨ 4096 < e.u 0x24 4 ∨ e.dataLen ≠ 16 * e.u 0x24 4) ||
        (e.inline && decide (84 < e.u 0x24 4))) = false := by
      have bounds : ¬ (e.u 0x24 4 = 0 ∨ 4096 < e.u 0x24 4 ∨ e.dataLen ≠ 16 * e.u 0x24 4) := by
        have := hb.nonempty
        have := hb.most
        have := hb.length
        omega
      simpa [bounds] using hb.inline
    rw [firstBad_eq_none]
    simp only [List.forall_mem_append, List.forall_mem_cons, List.not_mem_nil, false_implies, implies_true, and_true,
      hb.pool, Option.getD_some]
    exact ⟨⟨⟨by simpa using hb.eph, build, hb.zero, hb.zero'⟩, State.poolBad_pass hb.number hb.pool 0x1C⟩, grid,
      by rw [layer]; rfl, light, units, by simpa using hb.dseq, by simpa using hb.room⟩
  · simp only [hb.dma, if_true, hb.pool, Option.getD_some]
    rfl

section
variable {f : Flight} {e : Entry} {p : Pool} {s : State}

theorem State.judgeBlock_of_crc (h : e.blockCrc.toNat ≠ e.u 0x28 4) :
    s.judgeBlock f e p = s.reject f { code := 0x0706, ofs := 0x28 } := if_pos h

theorem State.judgeBlock_of_word {o : Nat} (h : e.blockCrc.toNat = e.u 0x28 4) (hs : s.scanBlock f e p = .error o) :
    s.judgeBlock f e p = s.reject f { code := 0x0204, ofs := o } := by
  rw [State.judgeBlock, if_neg (not_not.2 h), hs]

theorem State.judgeBlock_of_vectors {c : BlockScan} (h : e.blockCrc.toNat = e.u 0x28 4)
    (hs : s.scanBlock f e p = .ok c) (hv : c.vectors ≠ e.u 0x2C 4) :
    s.judgeBlock f e p = s.reject f { code := 0x0204, ofs := 0x2C } := by
  rw [State.judgeBlock, if_neg (not_not.2 h), hs]
  exact if_pos hv

theorem State.judgeBlock_of_good {c : BlockScan} (h : e.blockCrc.toNat = e.u 0x28 4)
    (hs : s.scanBlock f e p = .ok c) (hv : c.vectors = e.u 0x2C 4) :
    s.judgeBlock f e p = s.queueBlock f (e.u 0x1C 2) e.blockLayer (BitVec.ofNat 32 (e.u 0x20 4)) c := by
  rw [State.judgeBlock, if_neg (not_not.2 h), hs]
  exact if_neg (not_not.2 hv)

end

/-- A queued block advances its pool's next DSEQ, and the pool ends where the block does. -/
theorem State.queueBlock_pool {s : State} {num : Nat} {p : Pool} (hp : s.pool? num = some p) (f : Flight)
    (l dseq : W32) (c : BlockScan) :
    ∃ q, (s.queueBlock f num l dseq c).pool? num = some q ∧ q.expect = p.expect + 1 ∧ q.endPt = c.pos := by
  have launched : (s.launch f).pool? num = some p := (State.pool?_of_job (s.launch_job f) num).trans hp
  have settled (t : State) : t.dropZones.refusePools.settleDescs.stems = t.stems := by
    rw [State.settleDescs_stems, State.refusePools_stems, State.dropZones_stems]
  have stem : ((s.queueBlock f num l dseq c).pool? num).map Pool.stem = some (p.num, p.expect + 1, c.pos) := by
    unfold State.queueBlock
    dsimp only
    rw [State.stem_pool?_congr (settled _), State.pool?_modPool (by exact fun _ => rfl), launched]
    rfl
  obtain ⟨q, hq, hstem⟩ := Option.map_eq_some_iff.1 stem
  simp only [Pool.stem, Prod.mk.injEq] at hstem
  exact ⟨q, hq, hstem.2⟩

/-! ## Memory errors (R398) -/

/-- An uncorrectable line is counted, and its address kept. -/
theorem State.dramError_mem (l : LineUe) (s : State) : (s.dramError l).mem.dramUe = s.mem.dramUe.inc ∧
    (s.dramError l).mem.ueAddr = BitVec.ofNat 32 l.addr := by
  unfold State.dramError
  dsimp only
  generalize hm : Memory.mk .. = m
  obtain ⟨n, hn⟩ := State.record_mem 0x00B1 .control [] { s with mem := m }
  rw [hn, ← hm]
  exact ⟨rfl, rfl⟩

theorem State.dramError_sameBut (l : LineUe) (s : State) : SameBut [.mem, .tail] s (s.dramError l) :=
  ((sameBut_mem s _).mono (by simp)).trans ((State.record_sameBut _ _ _ _).mono (by simp))

/-! ## Staging (R152–R154) -/

/-- The mover has met an uncorrectable error, which is recorded. -/
def State.stageError (u : StageUe) (s : State) : State := (s.dramError u.line).record 0x0060 .control []

theorem State.stageError_sameBut (u : StageUe) (s : State) : SameBut [.mem, .tail] s (s.stageError u) :=
  (s.dramError_sameBut u.line).trans ((State.record_sameBut _ _ _ _).mono (by simp))

theorem State.stageError_dramUe (u : StageUe) (s : State) : (s.stageError u).mem.dramUe = s.mem.dramUe.inc := by
  obtain ⟨n, hn⟩ := (s.dramError u.line).record_mem 0x0060 .control []
  rw [State.stageError, hn]
  exact (s.dramError_mem u.line).1

/-- The words at or after the error do not start. -/
theorem Desc.spoil_bad {d : Desc} {unit : Nat} {i : Item} (h : i ∈ (d.spoil unit).items)
    (hi : unit < i.ofs / 16 + i.word.units) : i.bad = true := by
  obtain ⟨j, -, rfl⟩ := List.mem_map.1 h
  by_cases hj : unit < j.ofs / 16 + j.word.units
  · rw [if_pos hj]
  · rw [if_neg hj] at hi
    exact absurd hi hj

theorem exec_blockStaged_exclusive {s : State} {n : Nat} {d : Desc} {p : Pool} (hn : n < 32)
    (hp : s.pool? n = some p) (hd : s.stageNext? n p = some d) (hdecl : s.declared n = true) :
    exec (.blockStaged n n d.dseq none) s = .next (s.modDesc n d.flight fun d => { d with staged := true }) ∧
    ∀ u : StageUe, exec (.blockStaged n n d.dseq (some u)) s = .next
      (((s.stageError u).modDesc n d.flight (Desc.spoil u.unit)).modDesc n d.flight
        fun d => { d with staged := true }) := by
  have chosen : (s.stageNext? n p).filter (fun x => x.dseq == d.dseq) = some d := by rw [hd]; simp [Option.filter]
  have mine : (!s.declared n || (decide (n < 32) && n != n) ||
      (decide (0x100 ≤ n) && !(s.zoneMask (n - 0x100)).testBit n)) = false := by
    have : ¬ 0x100 ≤ n := by omega
    simp [hdecl, this]
  constructor
  · show execBlockStaged n n d.dseq none s = _
    simp only [execBlockStaged, hp, if_pos hn, chosen, mine, Bool.false_eq_true, if_false]
  · intro u
    show execBlockStaged n n d.dseq (some u) s = _
    simp only [execBlockStaged, hp, if_pos hn, chosen, mine, Bool.false_eq_true, if_false, State.stageError]

/-- The window of engine `n` on an overlap pool, as far as the pool goes. -/
def Pool.windowOf (n units : Nat) (p : Pool) : Pool :=
  { p with windows := (p.windows.filter fun w => w.1 != n) ++ [(n, min 256 units)] }

theorem exec_blockStaged_overlap {s : State} {n z : Nat} {dseq : W32} {p : Pool} (hp : s.pool? (0x100 + z) = some p)
    (hd : ∃ d ∈ p.queue, d.dseq = dseq) (hdecl : s.declared n = true) (hz : (s.zoneMask z).testBit n = true) :
    exec (.blockStaged n (0x100 + z) dseq none) s =
      .next (s.modPool (0x100 + z) fun p => p.windowOf n p.unitsLeft) := by
  obtain ⟨d, hfind⟩ : ∃ d, p.queue.find? (fun d => d.dseq == dseq) = some d :=
    Option.isSome_iff_exists.1 (List.find?_isSome.2 (by simpa using hd))
  have number : ¬ 0x100 + z < 32 := by omega
  show execBlockStaged n (0x100 + z) dseq none s = _
  simp only [execBlockStaged, hp, number, if_false, hfind, hdecl, hz, Nat.add_sub_cancel_left, decide_false,
    Bool.not_true, Bool.false_and, Bool.and_false, Bool.or_self, Bool.false_eq_true]
  rfl

/-! ## Tiles (R193, R398) -/

/-- A requested tile has arrived, and an inner wait ends that waited for it. -/
def State.tileIn (n : Nat) (c : Nat × Nat) (s : State) : State :=
  let t := s.modEngine n (Engine.addTile c)
  if (t.engine n).wait = .inner ∧ (t.engine n).cur = none ∧ t.tilesReady n (t.ix + 1) then
    t.modEngine n fun e => { e with wait := .none }
  else t

theorem exec_tileResident {s : State} {n i j : Nat} (hd : s.declared n = true)
    (hreq : (i, j) ∈ (s.engine n).requested) :
    exec (.tileResident n i j none) s = .next (s.tileIn n (i, j)) ∧
    ∀ l, exec (.tileResident n i j (some l)) s =
      .next ((s.dramError l).unloadGrid n (i, j)).refusePools.settleDescs := by
  have asked : (!s.declared n || !(s.engine n).requested.contains (i, j)) = false := by simp [hd, hreq]
  constructor
  · show execTileResident n i j none s = _
    simp only [execTileResident, asked, Bool.false_eq_true, if_false]
    rfl
  · intro l
    show execTileResident n i j (some l) s = _
    simp only [execTileResident, asked, Bool.false_eq_true, if_false]

theorem State.tileIn_sameBut (n : Nat) (c : Nat × Nat) (s : State) : SameBut [.engines] s (s.tileIn n c) :=
  SameBut.ite ((sameBut_engines s _).trans (sameBut_engines _ _)) (sameBut_engines s _)

theorem State.tileIn_engine_other {n m : Nat} (h : m ≠ n) (c : Nat × Nat) (s : State) :
    (s.tileIn n c).engine m = s.engine m := by
  unfold State.tileIn
  dsimp only
  split
  · rw [State.engine_modEngine_other h, State.engine_modEngine_other h]
  · rw [State.engine_modEngine_other h]

theorem State.tileIn_tiles {s : State} {n : Nat} {c : Nat × Nat} (hn : n < 32) (h : c ∈ (s.engine n).requested) :
    c ∈ ((s.tileIn n c).engine n).tiles := by
  have added : c ∈ ((s.engine n).addTile c).tiles := by simp [Engine.addTile, h]
  unfold State.tileIn
  dsimp only
  split
  · rw [State.engine_modEngine_same hn, State.engine_modEngine_same hn]
    exact added
  · rw [State.engine_modEngine_same hn]
    exact added

/-- The grid of head `n` is unloaded, and those of other heads stand as before. -/
def unloaded (n : Nat) (g : Nat × GridImage) : Nat × GridImage :=
  if g.1 = n then (n, { g.2 with stand := .unloaded }) else g

theorem State.unloadGrid_mem (n : Nat) (t : Nat × Nat) (s : State) :
    (s.unloadGrid n t).mem = { s.mem with grids := s.mem.grids.map (unloaded n) } :=
  State.spoilWords_sameBut _ _ .mem (by simp)

theorem State.gridOk_of_unloaded {s : State} {n : Nat} {l : List (Nat × GridImage)}
    (h : s.mem.grids = l.map (unloaded n)) : s.gridOk n = false := by
  have stands {g : GridImage} (hg : s.grid? n = some g) : g.stand = .unloaded := by
    obtain ⟨x, hx, rfl⟩ := Option.map_eq_some_iff.1 hg
    rw [h] at hx
    obtain ⟨y, -, rfl⟩ := List.mem_map.1 (List.mem_of_find?_eq_some hx)
    have hy : (unloaded n y).1 = n := by simpa using List.find?_some hx
    unfold unloaded at hy ⊢
    split_ifs at hy ⊢ with hn
    · rfl
    · exact absurd hy hn
  unfold State.gridOk
  split
  next g _ hg => simp [stands hg]
  next => rfl

/-- Settles O26, from `exec_jobSubmit`, the equations of staging and tiles, and what each leaves of pools and grids. -/
theorem blocksAreCheckedQueuedAndStaged : Obligations.BlocksAreCheckedQueuedAndStaged := by
  refine ⟨?submit, fun s n d p hn hp hd hdecl => ?exclusive, fun s n z dseq p hp hd hdecl hz => ?overlap,
    fun s n i j hn hd hreq => ?tile, fun s n i j l hd hreq => ?lost⟩
  case submit =>
    rintro e s t f _ _ _ _ p rfl rfl rfl rfl h heph hbuild hz hz' hnum hp hgrid hlayer hlight hsome hmost hend hlen
      hinl hdseq hroom hdma data seed crc v scan
    have run := exec_jobSubmit h
      { eph := heph, build := hbuild, ending := hend, zero := hz, zero' := hz', number := hnum, pool := hp, grid := hgrid
        layer := hlayer, light := hlight, nonempty := hsome, most := hmost, length := hlen, inline := hinl, dseq := hdseq
        room := hroom, dma := hdma }
    have hcrc : e.blockCrc = crc := rfl
    have hscan : v.scanBlock f e p = scan := rfl
    rw [← hcrc, ← hscan]
    refine ⟨fun hc => ?_, fun o hc hs => ?_, fun c hc hs hv => ?_, fun c hc hs hv => ?_⟩
    · rw [run, State.judgeBlock_of_crc hc]
    · rw [run, State.judgeBlock_of_word hc hs]
    · rw [run, State.judgeBlock_of_vectors hc hs hv]
    · rw [State.judgeBlock_of_good hc hs hv] at run
      exact ⟨_, run, rfl, State.queueBlock_pool (s := v) hp f _ _ c⟩
  case exclusive =>
    obtain ⟨good, bad⟩ := exec_blockStaged_exclusive hn hp hd hdecl
    refine ⟨⟨_, _, good, s.modDesc_sameBut _ _ _, by rw [State.pool?_modDesc, hp]; rfl, fun x hx hf => ?_, ?_⟩,
      fun u => ?_⟩
    · rcases mem_modDescs hx with ⟨y, -, -, rfl⟩ | ⟨-, hne⟩
      · rfl
      · exact absurd hf hne
    · exact List.length_map _
    · have same := s.stageError_sameBut u
      have hp' : (s.stageError u).pool? n = some p := (State.pool?_of_job (same .job (by simp)) n).trans hp
      refine ⟨_, _, bad u, ((same.mono (by simp)).trans ((State.modDesc_sameBut n d.flight _ _).mono (by simp))).trans
        ((State.modDesc_sameBut n d.flight _ _).mono (by simp)),
        by rw [State.pool?_modDesc, State.pool?_modDesc, hp']; rfl, s.stageError_dramUe u, fun x hx hf => ?_⟩
      rcases mem_modDescs hx with ⟨y, hy, hyf, rfl⟩ | ⟨-, hne⟩
      · rcases mem_modDescs hy with ⟨y, -, -, rfl⟩ | ⟨-, hne⟩
        · exact ⟨rfl, fun i => y.spoil_bad⟩
        · exact absurd hyf hne
      · exact absurd hf hne
  case overlap =>
    refine ⟨_, p.windowOf n p.unitsLeft, exec_blockStaged_overlap hp hd hdecl hz, sameBut_job s _, ?_,
      by simp [Pool.windowOf], rfl⟩
    rw [State.pool?_modPool (by exact fun _ => rfl), hp]
    rfl
  case tile =>
    exact ⟨_, (exec_tileResident hd hreq).1, State.tileIn_tiles hn hreq, s.tileIn_sameBut n _,
      fun m hm => State.tileIn_engine_other hm _ s⟩
  case lost =>
    have mem : ((s.dramError l).unloadGrid n (i, j)).refusePools.settleDescs.mem =
        { (s.dramError l).mem with grids := (s.dramError l).mem.grids.map (unloaded n) } :=
      (State.refusedAndSettled_mem _).trans (State.unloadGrid_mem n (i, j) _)
    obtain ⟨count, addr⟩ := s.dramError_mem l
    refine ⟨_, (exec_tileResident hd hreq).2 l, State.gridOk_of_unloaded (by rw [mem]), ?_, ?_⟩
    · rw [mem]
      exact addr
    · rw [mem]
      exact count

end Sys2Proof.Machine
end

section
/-!
What a CLEAR bit leaves its registers reading (R501). The registers under most control registers are the control
register itself with its SAT flags, its counters, and the halves of its 64-bit statistics (`countWords`).
-/

namespace Sys2Proof.Machine

/-! ## The registers under a control register -/

/-- What listed registers read through port `q`. -/
def State.words (s : State) (q : Nat) (l : List (Reg × Nat)) : List W32 := l.map fun x => s.regValue q x.2 x.1

/-- The listed registers read zero through port `q`. -/
def State.ReadZero (s : State) (q : Nat) (l : List (Reg × Nat)) : Prop := ∀ x ∈ l, s.regValue q x.2 x.1 = 0

/-- A control register, its counters and the halves of its statistics. -/
def countWords (cs : List Counter) (ws : List W64) : List W32 :=
  satWord cs :: cs.map (·.count) ++ ws.flatMap fun w => [lo64 w, hi64 w]

theorem satWord_of_unsaturated {cs : List Counter} (h : ∀ c ∈ cs, c.sat = false) : satWord cs = 0 := by
  have pack (l : List (Counter × Nat)) (hl : ∀ c ∈ l, c.1.sat = false) :
      packWord (l.map fun c => (b1 c.1.sat, 16 + c.2)) = 0 := by
    induction l with
    | nil => rfl
    | cons c l ih =>
      obtain ⟨hc, hl⟩ := List.forall_mem_cons.1 hl
      rw [List.map_cons, packWord, hc, ih hl]
      simp [b1]
  exact pack _ fun c hc => h c.1 (List.fst_mem_of_mem_zipIdx hc)

theorem countWords_cleared (m k : Nat) : ∀ v ∈ countWords (List.replicate m {}) (List.replicate k 0), v = 0 := by
  intro v hv
  rcases List.mem_append.1 hv with hcount | hstat
  · rcases List.mem_cons.1 hcount with rfl | hcount
    · exact satWord_of_unsaturated fun c hc => by rw [List.eq_of_mem_replicate hc]
    · obtain ⟨c, hc, rfl⟩ := List.mem_map.1 hcount
      rw [List.eq_of_mem_replicate hc]
  · obtain ⟨w, hw, hv⟩ := List.mem_flatMap.1 hstat
    rw [List.eq_of_mem_replicate hw] at hv
    exact List.eq_of_mem_replicate (n := 2) hv

namespace State.ReadZero

variable {s : State} {q : Nat} {l l' : List (Reg × Nat)}

theorem of_words {ws : List W32} (h : s.words q l = ws) (hz : ∀ v ∈ ws, v = 0) : s.ReadZero q l :=
  fun _ hx => hz _ (h ▸ List.mem_map_of_mem hx)

/-- `m` cleared counters and `k` cleared statistics. -/
theorem of_counts (m k : Nat) (h : s.words q l = countWords (List.replicate m {}) (List.replicate k 0)) :
    s.ReadZero q l :=
  of_words h (countWords_cleared m k)

theorem of_zeros (n : Nat) (h : s.words q l = List.replicate n 0) : s.ReadZero q l :=
  of_words h fun _ => List.eq_of_mem_replicate

theorem append (h : s.ReadZero q l) (h' : s.ReadZero q l') : s.ReadZero q (l ++ l') :=
  List.forall_mem_append.2 ⟨h, h'⟩

theorem flatMap {ns : List Nat} {f : Nat → List (Reg × Nat)} (h : ∀ n, s.ReadZero q (f n)) :
    s.ReadZero q (ns.flatMap f) := by
  intro x hx
  obtain ⟨n, -, hx⟩ := List.mem_flatMap.1 hx
  exact h n x hx

theorem onBit {f : State → State} {w : W32} {j : Nat} (hw : bitOf w j = true) (h : (f s).ReadZero q l) :
    (s.onBit w j f).ReadZero q l := by
  rw [State.onBit, if_pos hw]
  exact h

end State.ReadZero

/-! ## Entries of tables, also beyond their end -/

theorem nth_upd_of_fixed {α : Type} {n : Nat} {d : α} {f : α → α} (h : f d = d) (t : Vector α n) (i : Nat) :
    nth d (upd t i f) i = f (nth d t i) := by
  by_cases hi : i < n
  · exact nth_upd_same d t f hi
  · simp [nth, hi, h]

theorem nth_map_of_fixed {α : Type} {n : Nat} {d : α} {g : α → α} (h : g d = d) (t : Vector α n) (i : Nat) :
    nth d (t.map g) i = g (nth d t i) := by
  by_cases hi : i < n
  · exact nth_map d d g t hi
  · simp [nth, hi, h]

/-! ## What the registers read -/

section
variable (s : State) (q i : Nat)

theorem State.words_seCntCtl : s.words q (clearedBy i .seCntCtl) =
    countWords [(s.engine i).starve, (s.engine i).innerWait, (s.engine i).skyShort, (s.engine i).gridClamp,
      (s.engine i).noPulse, (s.engine i).speedClamp]
      [(s.engine i).vectors, (s.engine i).gateOn, (s.engine i).starveTime, (s.engine i).syncWait] := rfl

theorem State.words_mpCntCtl : s.words q (clearedBy i .mpCntCtl) =
    countWords [(s.meltCh i).frames, (s.meltCh i).crc, (s.meltCh i).late, (s.meltCh i).ratioHeldCnt] [] := rfl

theorem State.words_mlCntCtl : s.words q (clearedBy i .mlCntCtl) =
    countWords [(s.link i).upCrc, (s.link i).upMiss, (s.link i).dnErr, (s.link i).bulkErr, (s.link i).loss,
      (s.link i).retrain, (s.link i).testErr] [(s.link i).testBits] := rfl

theorem State.words_orbPpCntCtl : s.words q (clearedBy i .orbPpCntCtl) =
    countWords [(s.ringPort i).fcs, (s.ringPort i).dup, (s.ringPort i).drop, (s.ringPort i).prbsErr]
      [(s.ringPort i).prbsBits] := rfl

/-- The registers of AX_CNT_CTL, read of an axis. -/
def axisCounts : List (Axis → W32) :=
  [fun x => satWord [x.chatter, x.limitStop, x.devStop, x.quadErr, x.ssiErr, x.kept, x.softClamp], (·.chatter.count),
    (·.limitStop.count), (·.devStop.count), (·.quadErr.count), (·.ssiErr.count), (·.kept.count), (·.softClamp.count),
    fun x => lo64 x.steps, fun x => hi64 x.steps]

theorem State.words_axCntCtl : s.words q (clearedBy i .axCntCtl) = axisCounts.map (s.axisWord i) := rfl

theorem axisCounts_cleared (x : Axis) : ∀ f ∈ axisCounts, f x.clearCounters = 0 :=
  fun _ hf => countWords_cleared 7 1 _ (List.mem_map_of_mem (f := fun g : Axis → W32 => g x.clearCounters) hf)

/-- The registers of CAM_S_CNT_CTL, read of a sensor. -/
def sensorCounts : List (Sensor → W32) :=
  [fun x => satWord [x.shortCnt, x.longCnt, x.missingCnt, x.skipCnt, x.overrunCnt], (·.shortCnt.count),
    (·.longCnt.count), (·.missingCnt.count), (·.skipCnt.count), (·.overrunCnt.count)]

theorem State.words_camSCntCtl : s.words q (clearedBy i .camSCntCtl) = sensorCounts.map (s.sensorWord i) := rfl

theorem sensorCounts_cleared (x : Sensor) : ∀ f ∈ sensorCounts, f x.clearCounters = 0 :=
  fun _ hf => countWords_cleared 5 0 _ (List.mem_map_of_mem (f := fun g : Sensor → W32 => g x.clearCounters) hf)

end

/-! ## Blocks with counters per channel, link, axis, sensor or ring port -/

section
variable {s : State} {q i : Nat}

theorem State.readZero_seCntCtl {e : Engine} (h : s.engine i = e.clearCounters) :
    s.ReadZero q (clearedBy i .seCntCtl) :=
  .of_counts 6 4 (by rw [State.words_seCntCtl, h]; rfl)

theorem State.readZero_mpCntCtl {c : MeltCh} (h : s.meltCh i = c.clearCounters) :
    s.ReadZero q (clearedBy i .mpCntCtl) :=
  .of_counts 4 0 (by rw [State.words_mpCntCtl, h]; rfl)

theorem State.readZero_mlCntCtl {l : Link} (h : s.link i = l.clearCounters) :
    s.ReadZero q (clearedBy i .mlCntCtl) :=
  .of_counts 7 1 (by rw [State.words_mlCntCtl, h]; rfl)

theorem State.readZero_orbPpCntCtl {x : RingPort} (h : s.ringPort i = x.clearCounters) :
    s.ReadZero q (clearedBy i .orbPpCntCtl) :=
  .of_counts 4 1 (by rw [State.words_orbPpCntCtl, h]; rfl)

/-- An axis that is not declared reads zero too (R325). -/
theorem State.readZero_axCntCtl {x : Axis} (h : s.axis i = x.clearCounters) :
    s.ReadZero q (clearedBy i .axCntCtl) := by
  refine .of_words (s.words_axCntCtl q i) (List.forall_mem_map.2 fun f hf => ?_)
  rw [State.axisWord, h]
  split
  · exact axisCounts_cleared x f hf
  · rfl

/-- A sensor that is not declared reads zero too (R348). -/
theorem State.readZero_camSCntCtl {x : Sensor} (h : s.sensor i = x.clearCounters) :
    s.ReadZero q (clearedBy i .camSCntCtl) := by
  refine .of_words (s.words_camSCntCtl q i) (List.forall_mem_map.2 fun f hf => ?_)
  rw [State.sensorWord, h]
  split
  · exact sensorCounts_cleared x f hf
  · rfl

end

/-! ## Blocks whose CLEAR reaches every entry of a table, and slots -/

section
variable (s : State) (q i : Nat)

theorem State.words_arbEngine : s.words q ([.arbEngHoldStart, .arbEngHoldMax, .arbEngHolds, .arbEngHoldTimeLo,
      .arbEngHoldTimeHi, .arbEngTakesLo, .arbEngTakesHi].map (·, i)) =
    [(s.engine i).holdStart, (s.engine i).holdMax.count, (s.engine i).holds.count, lo64 (s.engine i).holdTime,
      hi64 (s.engine i).holdTime, lo64 (s.engine i).takes, hi64 (s.engine i).takes] := rfl

theorem State.words_camera : s.words q [(.camCntCtl, 0), (.camBufPeak, 0)] =
    [satWord ((s.camPort 0).counters ++ (s.camPort 1).counters), low32 s.camera.bufPeak] := rfl

theorem State.words_camPort :
    s.words q ([.camPortCrcCnt, .camPortHdrCnt, .camPortEccFixCnt, .camPortUnexpCnt].map (·, i)) =
      (s.camPort i).counters.map (·.count) := rfl

theorem State.words_thermal : s.words q ([.thmSBreachCnt, .thmSMaxmin].map (·, i)) = [(s.thm i).breach.count,
    (s.thm i).maxmin.elim 0 fun m => packWord [(unsignedOf 16 m.1, 16), (unsignedOf 16 m.2, 0)]] := rfl

theorem State.words_hostSlotCtl : s.words q (clearedBy i .hostSlotCtl) = [(s.slot i).reject.count] := rfl

theorem State.readZero_arbCntCtl : (s.keepSummary State.clearArb).ReadZero q (clearedBy i .arbCntCtl) := by
  have engine (n : Nat) : (s.keepSummary State.clearArb).engine n = (s.engine n).clearArb :=
    nth_map_of_fixed rfl s.engines n
  refine .append (.of_counts 7 2 rfl) (.flatMap fun n => .of_words (State.words_arbEngine _ q n) ?_)
  rw [engine]
  simp [Engine.clearArb, lo64, hi64]

theorem State.readZero_camCntCtl : s.clearCam.ReadZero q (clearedBy i .camCntCtl) := by
  have port (p : Nat) : s.clearCam.camPort p = {} := nth_map_of_fixed (d := ({} : CamPort)) rfl s.camera.ports p
  refine .append (.of_zeros 2 ?_) (.flatMap fun p => .of_zeros 4 ?_)
  · rw [State.words_camera, port, port]; rfl
  · rw [State.words_camPort, port]; rfl

theorem State.readZero_thmCntCtl :
    ({ s with power := s.power.clearThm } : State).ReadZero q (clearedBy i .thmCntCtl) := by
  have entry (k : Nat) : ({ s with power := s.power.clearThm } : State).thm k =
      { s.thm k with breach := {}, maxmin := none } :=
    nth_map_of_fixed (g := fun t : ThmEntry => { t with breach := {}, maxmin := none }) rfl s.power.thm k
  exact .flatMap fun k => .of_zeros 2 (by rw [State.words_thermal, entry]; rfl)

variable {s i} in
theorem State.readZero_slotCtl {w : W32} (hw : bitOf w 0 = true) (hi : i < s.host.slots.length) :
    (s.slotCtl i w).ReadZero q (clearedBy i .hostSlotCtl) :=
  .of_zeros 1 (by rw [State.words_hostSlotCtl, State.slotCtl, State.slot_modSlot_same hi, hw]; rfl)

end

/-! ## Every control register -/

theorem State.regStore_clear_readZero {s : State} {i : Nat} {w : W32} (hw : bitOf w 0 = true)
    (hi : i < s.host.slots.length) (p q : Nat) (r : Reg) : (s.regStore p i w r).ReadZero q (clearedBy i r) := by
  cases r
  case seCntCtl => exact .onBit hw (State.readZero_seCntCtl (nth_upd_of_fixed rfl s.engines i))
  case arbCntCtl => exact .onBit hw (s.readZero_arbCntCtl q i)
  case mpCntCtl => exact .onBit hw (State.readZero_mpCntCtl (nth_upd_of_fixed rfl s.melt i))
  case mlCntCtl => exact .onBit hw (State.readZero_mlCntCtl (nth_upd_of_fixed rfl s.links i))
  case axCntCtl => exact .onBit hw (State.readZero_axCntCtl (nth_upd_of_fixed rfl s.axes i))
  case camCntCtl => exact .onBit hw (s.readZero_camCntCtl q i)
  case camSCntCtl => exact .onBit hw (State.readZero_camSCntCtl (nth_upd_of_fixed rfl s.camera.sensors i))
  case orbPpCntCtl => exact .onBit hw (State.readZero_orbPpCntCtl (nth_upd_of_fixed rfl s.time.ports i))
  case thmCntCtl => exact .onBit hw (s.readZero_thmCntCtl q i)
  case hostSlotCtl => exact State.readZero_slotCtl q hw hi
  case eclipseCtl => exact .onBit hw (.of_counts 1 0 rfl)
  case periCntCtl => exact .onBit hw (.of_counts 2 2 rfl)
  case sramCntCtl | pwrCntCtl | tailCntCtl => exact .onBit hw (.of_counts 3 0 rfl)
  case tideCntCtl | haloCntCtl | ptpCntCtl | dispCntCtl => exact .onBit hw (.of_counts 4 0 rfl)
  case dramCntCtl => exact .onBit hw (.of_counts 5 1 rfl)
  case crcCntCtl => exact .onBit hw (.of_words (ws := [lo64 0, hi64 0]) rfl (by simp [lo64, hi64]))
  case calCntCtl => exact .onBit hw (.of_zeros 1 rfl)
  -- for any other register nothing is listed
  all_goals exact List.forall_mem_nil _

/-- Settles O8, from `State.regStore_clear_readZero`: of the bounds, only the slot's is needed, since an entry beyond
its table reads as a cleared one. -/
theorem clearBitsZeroTheirCounters : Obligations.ClearBitsZeroTheirCounters :=
  fun r _ p _ q _ _ hslots hi hw x hx _ =>
    State.regStore_clear_readZero hw (hslots ▸ hi) p q r x hx

end Sys2Proof.Machine
end

section
/-!
Melt-pool channels (R237–R245, R298): the sums and the ratio that a period leaves, and how the oldest closed ROI frame is
judged.
-/

namespace Sys2Proof.Machine

theorem State.modMelt_sameBut (n : Nat) (f : MeltCh → MeltCh) (s : State) : SameBut [.melt] s (s.modMelt n f) :=
  sameBut_melt s _

theorem State.nth_modMelt {n : Nat} (hn : n < 32) (f : MeltCh → MeltCh) (s : State) :
    nth {} (s.modMelt n f).melt n = f (nth {} s.melt n) :=
  nth_upd_same _ _ _ hn

theorem State.sourceLost_sameBut (ty index : Nat) (field : Nat → Bool) (s : State) :
    SameBut [.eph] s (s.sourceLost ty index field) :=
  sameBut_eph s _

/-! ## Periods of the photodiodes (R237–R239) -/

/-- S1 and S2 of the period of channel `n` that has ended. -/
def State.periodSums (s : State) (n : Nat) : Nat × Nat := (nth {} s.melt n).sums (s.ix / 4 - 1)

/-- S2 of that period reaches RATIO_MIN as it stood at the period's start. -/
def State.ratioReached (s : State) (n : Nat) : Bool := decide ((nth {} s.melt n).ratioMinPast ≤ (s.periodSums n).2)

/-- RATIO after that period, and the state that has drawn it where the spec states no ratio. -/
def State.periodRatio (s : State) (n : Nat) : Nat × State :=
  if s.ratioReached n && (s.periodSums n).2 == 0 then s.draw 65536
  else (if s.ratioReached n then
      min 0xFFFF (roundHalfAway (((256 * (s.periodSums n).1 : Nat) : Rat) / ((s.periodSums n).2 : Rat))).toNat
    else (nth {} s.melt n).ratio, s)

/-- Channel `n` after a period that leaves `ratio` in RATIO. -/
def State.afterPeriod (s : State) (n ratio : Nat) : MeltCh :=
  let c := nth {} s.melt n
  { c with
    s1 := (s.periodSums n).1, s2 := (s.periodSums n).2, ratio := ratio, ratioHeld := !s.ratioReached n
    ratioHeldCnt := if s.ratioReached n then c.ratioHeldCnt else c.ratioHeldCnt.inc }

/-- Channel `n` becomes `c` and publishes its sums and its ratio. -/
def State.publishPeriod (n : Nat) (c : MeltCh) (s : State) : State :=
  (s.modMelt n fun _ => c).source 2 n [(8, c.s1), (9, c.s2), (10, c.ratio)]

theorem State.publishPeriod_sameBut (n : Nat) (c : MeltCh) (s : State) : SameBut [.melt, .eph] s (s.publishPeriod n c) :=
  (s.modMelt_sameBut n _).comp (State.source_sameBut _ _ _ _)

theorem State.nth_publishPeriod {n : Nat} (hn : n < 32) (c : MeltCh) (s : State) :
    nth {} (s.publishPeriod n c).melt n = c :=
  s.nth_modMelt hn _

theorem exec_powerPeriodEnd {s : State} {n : Nat} (hdecl : s.declared n = true) (hix : 4 ≤ s.ix) :
    exec (.powerPeriodEnd n) s =
      .next ((s.periodRatio n).2.publishPeriod n (s.afterPeriod n (s.periodRatio n).1)) :=
  if_neg (by simp [hdecl, hix])

section
variable {s : State} {n : Nat}

/-- An S2 that reaches RATIO_MIN and is not 0 gives a ratio. -/
theorem State.periodRatio_of_reached (h : s.ratioReached n = true) (h0 : (s.periodSums n).2 ≠ 0) : s.periodRatio n =
    (min 0xFFFF (roundHalfAway (((256 * (s.periodSums n).1 : Nat) : Rat) / ((s.periodSums n).2 : Rat))).toNat, s) := by
  rw [State.periodRatio, if_neg (by simp [h0]), if_pos h]

/-- The ratio over an S2 of 0 is a free value. -/
theorem State.periodRatio_of_zero (h : s.ratioReached n = true) (h0 : (s.periodSums n).2 = 0) :
    s.periodRatio n = s.draw 65536 :=
  if_pos (by simp [h, h0])

/-- An S2 below RATIO_MIN leaves the last ratio. -/
theorem State.periodRatio_of_below (h : s.ratioReached n = false) : s.periodRatio n = ((nth {} s.melt n).ratio, s) := by
  simp [State.periodRatio, h]

theorem State.afterPeriod_of_reached (h : s.ratioReached n = true) (ratio : Nat) : s.afterPeriod n ratio =
    { nth {} s.melt n with
      s1 := (s.periodSums n).1, s2 := (s.periodSums n).2, ratio := ratio, ratioHeld := false } := by
  simp only [State.afterPeriod, h]
  rfl

theorem State.afterPeriod_of_below (h : s.ratioReached n = false) (ratio : Nat) : s.afterPeriod n ratio =
    { nth {} s.melt n with
      s1 := (s.periodSums n).1, s2 := (s.periodSums n).2, ratio := ratio, ratioHeld := true
      ratioHeldCnt := (nth {} s.melt n).ratioHeldCnt.inc } := by
  simp only [State.afterPeriod, h]
  rfl

end

/-! ## Metrics of a frame (R243, R244) -/

theorem sameBut_freeCtr (s : State) (x : Nat) : SameBut [.freeCtr] s { s with freeCtr := x } := by
  intro p hp; cases p <;> simp_all [Part.Same]

/-- The metrics draw at most four free values. -/
theorem roiMetrics_sameBut (cfg : RoiCfg) (size : Nat) (px : List Nat) (dir : Option Nat) (s : State) :
    SameBut [.freeCtr] s (roiMetrics cfg size px dir s).2 := by
  unfold roiMetrics
  dsimp only
  split
  · exact SameBut.refl _ s
  · exact sameBut_freeCtr s _

theorem State.roiGood_sameBut (n : Nat) (f : RoiIn) (s : State) : SameBut [.melt, .eph, .freeCtr] s (s.roiGood n f) :=
  (((roiMetrics_sameBut _ _ _ _ s).mono (by simp)).trans ((State.modMelt_sameBut _ _ _).mono (by simp))).trans
    ((State.source_sameBut _ _ _ _).mono (by simp))

/-- A good frame counts, names its exposure sample and makes the metrics valid. -/
theorem State.nth_roiGood {n : Nat} (hn : n < 32) (f : RoiIn) (s : State) :
    ∃ m noDir dark, nth {} (s.roiGood n f).melt n = { nth {} s.melt n with
      metrics := m, roiValid := true, noDir := noDir, dark := dark, frameSample := f.expSample
      frames := (nth {} s.melt n).frames.inc } := by
  unfold State.roiGood
  dsimp only
  generalize hr : roiMetrics f.cfg f.size _ _ s = r
  have hmelt : r.2.melt = s.melt := by
    rw [← hr]
    exact roiMetrics_sameBut _ _ _ _ s .melt (by simp)
  rw [← hmelt]
  exact ⟨_, _, _, State.nth_modMelt hn _ r.2⟩

/-! ## ROI_FRAME_END and ROI_LATE (R245, R298) -/

theorem State.roiDamaged_sameBut (n : Nat) (s : State) : SameBut [.melt, .links] s (s.roiDamaged n) :=
  ((sameBut_links s _).mono (by simp)).trans ((State.modMelt_sameBut n _ _).mono (by simp))

theorem State.nth_roiDamaged {n : Nat} (hn : n < 32) (s : State) :
    nth {} (s.roiDamaged n).melt n = { nth {} s.melt n with crc := (nth {} s.melt n).crc.inc } :=
  State.nth_modMelt hn _ _

/-- A damaged frame counts in its link's bulk errors. -/
theorem State.roiDamaged_bulkErr {n : Nat} {s : State} (hlink : s.linkOf n < 32) :
    ((s.roiDamaged n).link (s.linkOf n)).bulkErr = (s.link (s.linkOf n)).bulkErr.inc :=
  congrArg Link.bulkErr (nth_upd_same ({} : Link) s.links _ hlink)

/-- Channel `n` keeps the closed frames `r`. -/
def State.dropRoi (n : Nat) (r : List RoiIn) (s : State) : State := s.modMelt n fun c => { c with ended := r }

/-- The oldest frame that is closed, when ROI_END's block is its own, is judged. -/
theorem exec_roiFrameEnd {s : State} {n : Nat} {f : RoiIn} {r : List RoiIn} (h : (nth {} s.melt n).ended = f :: r) :
    exec (.roiFrameEnd n f.endBytes) s =
      .next (if f.whole then (s.dropRoi n r).roiGood n f else (s.dropRoi n r).roiDamaged n) := by
  show execRoiFrameEnd n f.endBytes s = _
  simp only [execRoiFrameEnd, h, ne_eq, not_true_eq_false, if_false]
  rfl

theorem exec_roiFrameEnd_other {s : State} {n : Nat} {block : List Byte}
    (h : ∀ f r, (nth {} s.melt n).ended = f :: r → f.endBytes ≠ block) : exec (.roiFrameEnd n block) s = .next s := by
  show execRoiFrameEnd n block s = _
  unfold execRoiFrameEnd
  split
  case h_1 => rfl
  case h_2 f r hended => rw [if_pos (h f r hended)]

/-- A frame is whole when it is undamaged, its CRC is good and its length is that of its size. -/
theorem RoiIn.whole_iff {f : RoiIn} : f.whole = true ↔ f.bad = false ∧
    uAt f.endBytes 1 4 = (crc32c (f.start ++ f.blocks.flatMap fun b => leBytes 8 b.toNat)).toNat ∧
    f.blocks.length * 64 = f.size * f.size * 10 := by
  simp [RoiIn.whole, and_assoc]

theorem exec_roiLate_of_head {s : State} {n : Nat} {h : EphHead} (hh : s.head? n = some h) :
    exec (.roiLate n) s = .next (if h.roiSize = 0 then s
      else (s.modMelt n fun c => { c with late := c.late.inc, roiValid := false }).sourceLost 2 n (· < 8)) := by
  show execRoiLate n s = _
  simp only [execRoiLate, hh, Option.elim_some]

/-! ## The obligation -/

/-- Settles O31, from the equation of each event and what a judged frame leaves of its channel
(`State.nth_roiGood`, `State.nth_roiDamaged`). -/
theorem meltPoolChannelsMeasure : Obligations.MeltPoolChannelsMeasure := by
  refine ⟨fun s n hn hdecl => ⟨fun hix hmin h0 => ?ratio, fun hix hmin h0 => ?free, fun hix hmin => ?held,
    fun f r hf hbad hcrc hlen => ?whole, fun f r hf hbad => ?damaged, fun block => exec_roiFrameEnd_other,
    fun h hh hsize => ?late, fun h hh hsize => (exec_roiLate_of_head hh).trans (congrArg _ (if_pos hsize))⟩,
    fun c => rfl⟩
  case ratio =>
    have hr : s.ratioReached n = true := decide_eq_true hmin
    have hrun := exec_powerPeriodEnd hdecl hix
    rw [State.periodRatio_of_reached hr h0, State.afterPeriod_of_reached hr] at hrun
    exact ⟨_, hrun, s.publishPeriod_sameBut n _, s.nth_publishPeriod hn _⟩
  case free =>
    have hr : s.ratioReached n = true := decide_eq_true (hmin.le.trans (Nat.zero_le _))
    have hrun := exec_powerPeriodEnd hdecl hix
    rw [State.periodRatio_of_zero hr h0, State.afterPeriod_of_reached hr, State.periodSums, h0] at hrun
    exact ⟨_, (s.draw 65536).1, hrun,
      ((s.draw_sameBut _).mono (by simp)).trans ((State.publishPeriod_sameBut n _ _).mono (by simp)),
      Nat.mod_lt _ (by decide), State.nth_publishPeriod hn _ _⟩
  case held =>
    have hr : s.ratioReached n = false := decide_eq_false (Nat.not_le.2 hmin)
    have hrun := exec_powerPeriodEnd hdecl hix
    rw [State.periodRatio_of_below hr, State.afterPeriod_of_below hr] at hrun
    exact ⟨_, hrun, s.publishPeriod_sameBut n _, s.nth_publishPeriod hn _⟩
  case whole =>
    obtain ⟨m, noDir, dark, hch⟩ := (s.dropRoi n r).nth_roiGood hn f
    have hdrop : nth {} (s.dropRoi n r).melt n = { nth {} s.melt n with ended := r } := s.nth_modMelt hn _
    refine ⟨_, (exec_roiFrameEnd hf).trans (congrArg _ (if_pos (RoiIn.whole_iff.2 ⟨hbad, hcrc, hlen⟩))),
      ((s.modMelt_sameBut n _).mono (by simp)).trans (State.roiGood_sameBut n f _), ?_⟩
    rw [hch, hdrop]
    exact ⟨rfl, rfl, rfl, rfl⟩
  case damaged =>
    have hwhole : ¬ f.whole = true := by
      rw [RoiIn.whole_iff]
      rintro ⟨hgood, hcrc, hlen⟩
      simp [hgood, hcrc, hlen] at hbad
    have hdrop : nth {} (s.dropRoi n r).melt n = { nth {} s.melt n with ended := r } := s.nth_modMelt hn _
    have hch := (s.dropRoi n r).nth_roiDamaged hn
    rw [hdrop] at hch
    refine ⟨_, (exec_roiFrameEnd hf).trans (congrArg _ (if_neg hwhole)),
      ((s.modMelt_sameBut n _).mono (by simp)).trans (State.roiDamaged_sameBut n _), ?_⟩
    rw [hch]
    exact ⟨rfl, rfl, rfl, State.roiDamaged_bulkErr (s := s.dropRoi n r)⟩
  case late =>
    refine ⟨_, (exec_roiLate_of_head hh).trans (congrArg _ (if_neg hsize)),
      (s.modMelt_sameBut n _).comp (State.sourceLost_sameBut _ _ _ _), s.nth_modMelt hn _⟩

end Sys2Proof.Machine
end

section
/-!
Perihelion (R246, R249–R254): the cells of the grid, how diffusion and transition passes begin and end, and the grid
commands.
-/

namespace Sys2Proof.Machine

/-! ## Cells -/

theorem sget_sset {α : Type} [DecidableEq α] {d : α} {m : List (Nat × α)} (w : swf d m = true) (i j : Nat) (v : α) :
    sget d (sset d m i v) j = if j = i then v else sget d m j := by
  split
  case isTrue h => rw [h, sget_sset_same i v w]
  case isFalse h => exact sget_sset_other i j v h

section
variable {p : Peri}

theorem Peri.cell_of_idle (h : p.pass = none) (i : Nat) : p.cell i = sget p.base p.cells i := by
  simp only [Peri.cell, h]

/-- A pass leaves two tables: the rows that it has written, and those that it has yet to write. -/
theorem Peri.cell_of_pass {q : DiffPass} (h : p.pass = some q) (i : Nat) :
    p.cell i = if q.wrote (i / 2048) = true then sget q.newBase q.done i else sget p.base p.cells i := by
  simp only [Peri.cell, h]

theorem Peri.set_of_idle (h : p.pass = none) (i v : Nat) :
    p.set i v = { p with cells := sset p.base p.cells i v } := by
  simp only [Peri.set, h]

theorem Peri.set_of_written {q : DiffPass} (h : p.pass = some q) {i : Nat} (hi : q.wrote (i / 2048) = true) (v : Nat) :
    p.set i v = { p with pass := some { q with done := sset q.newBase q.done i v } } := by
  simp only [Peri.set, h, hi, if_true]

theorem Peri.set_of_unwritten {q : DiffPass} (h : p.pass = some q) {i : Nat} (hi : ¬ q.wrote (i / 2048) = true)
    (v : Nat) : p.set i v = { p with cells := sset p.base p.cells i v } := by
  simp only [Peri.set, h, if_neg hi]

/-- A cell that is set reads the value, and no other cell changes. -/
theorem Peri.cell_set (hw : swf p.base p.cells = true) (hq : ∀ q, p.pass = some q → swf q.newBase q.done = true)
    (i j v : Nat) : (p.set i v).cell j = if j = i then v else p.cell j := by
  cases hp : p.pass with
  | none => rw [Peri.cell_of_idle hp, Peri.set_of_idle hp, Peri.cell_of_idle (by exact hp), sget_sset hw]
  | some q =>
    rw [Peri.cell_of_pass hp]
    by_cases hi : q.wrote (i / 2048) = true
    · rw [Peri.set_of_written hp hi, Peri.cell_of_pass rfl, sget_sset (hq q hp)]
      by_cases hj : j = i
      · rw [if_pos hj, if_pos hj, if_pos (by rw [hj]; exact hi)]
      · rw [if_neg hj, if_neg hj]
        rfl
    · rw [Peri.set_of_unwritten hp hi, Peri.cell_of_pass (by exact hp), sget_sset hw]
      by_cases hj : j = i
      · rw [if_pos hj, if_pos hj, if_neg (by rw [hj]; exact hi)]
      · rw [if_neg hj, if_neg hj]

/-! ## Passes that begin (R249, R252) -/

/-- A pass starts with the constants of its tick, before its first row. -/
theorem State.startPass_eq (e : EphPeri) (tick : Nat) (s : State) : ∃ q : DiffPass,
    s.startPass e tick = { s with peri := { s.peri with pass := some q } } ∧
      q.tick = tick ∧ q.started = s.ix ∧ q.alpha = e.alpha ∧ q.bias = e.biasComp ∧ q.rowsRead = 0 :=
  ⟨_, rfl, rfl, rfl, rfl, rfl, rfl⟩

theorem exec_diffusionTick {s : State} {e : EphPeri} (he : s.peri? = some e) (hcore : s.power.core = true)
    (htick : s.tickAt 4096 = true) (hp : s.peri.pass = none) : exec .diffusionTick s =
      .next (if s.peri.transition then { s with peri := { s.peri with tickWaits := some s.ix } }
        else s.startPass e s.ix) := by
  show execDiffusionTick s = _
  simp only [execDiffusionTick, he, htick, hcore, hp]
  rfl

/-! ## The rows of a pass -/

/-- The rows that a pass reads change, besides the pass, only the count of saturations; its base stays. -/
theorem Peri.readRow_eq (q : DiffPass) (p : Peri) :
    ∃ c q', p.readRow q = ({ p with satCnt := c }, q') ∧ q'.newBase = q.newBase := by
  unfold Peri.readRow
  dsimp only
  split
  · exact ⟨p.satCnt, q, rfl, rfl⟩
  · split <;> exact ⟨_, _, rfl, rfl⟩

theorem Peri.readRows_eq {q : DiffPass} (h : p.pass = some q) (n : Nat) :
    ∃ c q', p.readRows n = { p with satCnt := c, pass := some q' } ∧ q'.newBase = q.newBase := by
  induction n generalizing p q with
  | zero => exact ⟨p.satCnt, q, by rw [← h]; rfl, rfl⟩
  | succ n ih =>
    simp only [Peri.readRows, h]
    split
    · exact ⟨p.satCnt, q, by rw [← h], rfl⟩
    · obtain ⟨c, q', hrow, hbase⟩ := p.readRow_eq q
      obtain ⟨c', q'', hrows, hbase'⟩ := ih (p := { (p.readRow q).1 with pass := some (p.readRow q).2 }) rfl
      rw [hrow] at hrows hbase'
      exact ⟨c', q'', by rw [hrow]; exact hrows, hbase'.trans hbase⟩

/-- The grid after pass `q` writes its last row at sample `ix`. -/
def Peri.passOver (ix : Nat) (q : DiffPass) (p : Peri) : Peri :=
  let w := p.writeRow 2047 (some q.prev2) q.prev1 none q
  { w.1 with
    base := q.newBase, cells := w.2.done, pass := none, steps := stat w.1.steps 1
    passMax := Counter.max (ix - q.started) w.1.passMax }

/-- A pass that ends reads its rows and stores the new grid; then the commands that wait for it are served. -/
theorem exec_diffusionPassEnd {s : State} {q : DiffPass} (h : s.peri.pass = some q) (hq : q.suspended = false) :
    ∃ c q', exec .diffusionPassEnd s = .next (({ s with
      peri := Peri.passOver s.ix q' { s.peri with satCnt := c, pass := some q' } } : State).servePass q'.tick) ∧
      q'.newBase = q.newBase := by
  obtain ⟨c, q', hrows, hbase⟩ := Peri.readRows_eq h 2048
  refine ⟨c, q', ?_, hbase⟩
  show execDiffusionPassEnd s = _
  simp only [execDiffusionPassEnd, h, hq, hrows, Bool.false_eq_true, if_false]
  rfl

/-! ## What waits for a pass (R254) -/

theorem Peri.loadCells_of_idle (l : PeriLoad) (h : p.pass = none) : ∃ cells, p.loadCells l = { p with cells := cells } := by
  unfold Peri.loadCells
  generalize l.rect.cells.zip l.cells = cs
  induction cs generalizing p with
  | nil => exact ⟨p.cells, rfl⟩
  | cons c r ih =>
    rw [List.foldl_cons, Peri.set_of_idle h]
    obtain ⟨cells, hr⟩ := ih (p := { p with cells := sset p.base p.cells c.1 c.2 }) h
    exact ⟨cells, hr⟩

end

/-- The grid after the load that waits for a pass, when it is not deferred. -/
def Peri.loaded (p : Peri) : Peri :=
  match p.load with
  | some l => if l.deferred then p else { p.loadCells l with load := none }
  | none => p

/-- Between two passes a load changes cells alone; none that waits for a pass is left. -/
theorem Peri.loaded_of_idle {p : Peri} (h : p.pass = none) : ∃ cells load,
    p.loaded = { p with cells := cells, load := load } ∧ ∀ l, load = some l → l.deferred = true := by
  unfold Peri.loaded
  split
  case h_1 l hl =>
    split
    case isTrue hd => exact ⟨p.cells, p.load, rfl, fun l' h' => by rw [hl] at h'; cases h'; exact hd⟩
    case isFalse =>
      obtain ⟨cells, hcells⟩ := Peri.loadCells_of_idle l h
      exact ⟨cells, none, by rw [hcells], fun _ h' => nomatch h'⟩
  case h_2 hl => exact ⟨p.cells, p.load, rfl, fun l' h' => by rw [hl] at h'; cases h'⟩

/-- The load that waits for a pass takes effect and completes. -/
def State.serveLoad (tick : Nat) (s : State) : State :=
  match s.peri.load with
  | some l =>
    if l.deferred then s
    else ({ s with peri := { s.peri.loadCells l with load := none } } : State).finishId l.flight 0 (BitVec.ofNat 64 tick)
      0 false []
  | none => s

/-- The reads `rs` complete with the cells of their rectangles. -/
def State.serveReads (tick : Nat) (rs : List (Nat × PeriRect)) (s : State) : State :=
  rs.foldl (fun s r => s.finishId r.1 0 (BitVec.ofNat 64 tick) 0 false
    (r.2.cells.flatMap fun i => leBytes 2 (s.peri.cell i))) s

theorem State.servePass_eq (tick : Nat) (s : State) : s.servePass tick =
    State.serveReads tick (s.serveLoad tick).peri.reads
      { s.serveLoad tick with peri := { (s.serveLoad tick).peri with reads := [] } } := rfl

theorem State.serveLoad_sameBut (tick : Nat) (s : State) : SameBut [.peri, .host, .outbox] s (s.serveLoad tick) := by
  unfold State.serveLoad
  split
  case h_1 =>
    exact SameBut.ite (SameBut.refl _ s) ((sameBut_peri s _).comp (State.finishId_sameBut _ _ _ _ _ _ _))
  case h_2 => exact SameBut.refl _ s

theorem State.serveLoad_peri (tick : Nat) (s : State) : (s.serveLoad tick).peri = s.peri.loaded := by
  unfold State.serveLoad Peri.loaded
  split
  case h_1 =>
    split
    · rfl
    · exact State.finishId_sameBut _ _ _ _ _ _ _ .peri (by simp)
  case h_2 => rfl

theorem State.serveReads_sameBut (tick : Nat) (rs : List (Nat × PeriRect)) (s : State) :
    SameBut [.host, .outbox] s (s.serveReads tick rs) :=
  SameBut.foldl (fun s _ => s.finishId_sameBut _ _ _ _ _ _) rs s

theorem State.servePass_sameBut (tick : Nat) (s : State) : SameBut [.peri, .host, .outbox] s (s.servePass tick) :=
  ((s.serveLoad_sameBut tick).trans ((sameBut_peri _ _).mono (by simp))).trans
    ((State.serveReads_sameBut tick _ _).mono (by simp))

theorem State.servePass_peri (tick : Nat) (s : State) : (s.servePass tick).peri = { s.peri.loaded with reads := [] } := by
  rw [State.servePass_eq, ← s.serveLoad_peri tick]
  exact State.serveReads_sameBut tick _ _ .peri (by simp)

/-! ## Transitions that end (R252) -/

/-- The grid after a transition: a suspended pass goes on. -/
def Peri.transitionOver (len : Nat) (p : Peri) : Peri :=
  { p with
    transition := false, tickWaits := none, passMax := Counter.max len p.passMax
    pass := p.pass.map fun q => { q with suspended := false } }

/-- The transition of the layer has ended. -/
def State.transitionOver (s : State) : State :=
  { s with peri := s.peri.transitionOver (s.ix - (s.job.stepEnd - 2000)) }

section
variable {s : State} (h : s.peri.transition = true)
include h

/-- A tick that fell in the transition starts its pass. -/
theorem exec_transitionPassEnd_starts {k : Nat} {e : EphPeri} (hp : s.peri.pass = none)
    (hk : s.peri.tickWaits = some k) (he : s.peri? = some e) :
    exec .transitionPassEnd s = .next (s.transitionOver.startPass e k) := by
  show execTransitionPassEnd s = _
  simp only [execTransitionPassEnd, h, hk, he, hp]
  rfl

/-- Without such a tick, no pass starts. -/
theorem exec_transitionPassEnd_resumes
    (hidle : ∀ k e, s.peri.pass = none → s.peri.tickWaits = some k → s.peri? ≠ some e) :
    exec .transitionPassEnd s = .next s.transitionOver := by
  refine (if_neg (by simp [h])).trans (congrArg Host.Outcome.next ?_)
  dsimp only
  split
  case h_1 k e hk he =>
    have hp : s.peri.pass ≠ none := fun hp => hidle k e hp hk he
    exact if_neg (by simpa using hp)
  case h_2 => rfl

end

/-! ## The grid commands (R254) -/

/-- The rectangle is not empty and lies in the grid. -/
def PeriRect.Fits (r : PeriRect) : Prop :=
  1 ≤ r.w ∧ r.w ≤ 2048 ∧ 1 ≤ r.h ∧ r.h ≤ 2048 ∧ r.cx + r.w ≤ 2048 ∧ r.cy + r.h ≤ 2048

theorem Entry.periChecks_pass {e : Entry} (hr : e.periRect.Fits) (hz : (e.zeroFrom 0x20 32).1 = false) :
    ∀ c ∈ e.periChecks, c.1 = false := by
  obtain ⟨hw, hw', hh, hh', hx, hy⟩ := hr
  simp only [Entry.periRect] at hw hw' hh hh' hx hy
  simp only [Entry.periChecks, List.forall_mem_cons, List.not_mem_nil, false_imp_iff, implies_true, and_true]
  refine ⟨?_, ?_, hz, ?_, ?_⟩ <;> simp <;> omega

theorem State.fspUp_sameBut (s : State) : SameBut [.mem] s s.fspUp :=
  SameBut.ite (sameBut_mem s _) (SameBut.ite (sameBut_mem s _) (SameBut.refl _ s))

/-- The read `r` of command `id` waits for the next pass. -/
def Peri.awaitRead (id : Nat) (r : PeriRect) (p : Peri) : Peri := { p with reads := p.reads ++ [(id, r)] }

/-- The load that a dispatched PARAM_PERI_LOAD leaves waiting. -/
def State.loadOf (s : State) (f : Flight) (e : Entry) : PeriLoad :=
  { flight := f.id, rect := e.periRect, cells := (List.range (e.periRect.w * e.periRect.h)).map fun i => e.d (2 * i) 2
    deferred := decide (s.planes.data ≠ .idle), atEnd := s.finalNow }

/-- The load `l` waits. -/
def State.awaitLoad (l : PeriLoad) (s : State) : State := { s with peri := { s.peri with load := some l } }

section
variable {e : Entry} {s t : State} {f : Flight} (hr : e.periRect.Fits) (hz : (e.zeroFrom 0x20 32).1 = false)
  (hp : t.peri?.isSome = true)
include hr hz hp

theorem exec_paramPeriRead (h : Dispatched 0x0301 e s f t)
    (hin : e.inline = true → 2 * e.periRect.w * e.periRect.h ≤ 1344)
    (hlen : e.inline = false → e.bufLen.toNat = 2 * e.periRect.w * e.periRect.h) : exec (.paramPeriRead e) s =
      .next { t.fspUp.launch f with peri := t.peri.awaitRead f.id e.periRect } := by
  have hpart : (t.fspUp.launch f).peri = t.peri :=
    Eq.trans (t.fspUp.launch_sameBut f .peri (by simp)) (t.fspUp_sameBut .peri (by simp))
  rw [← hpart]
  refine (command_of_dispatched h _).trans (congrArg Host.Outcome.next (checked_of_none ?_ _ t))
  rw [firstBad_eq_none, List.forall_mem_append]
  refine ⟨Entry.periChecks_pass hr hz, ?_⟩
  simp only [List.forall_mem_cons, List.not_mem_nil, false_imp_iff, implies_true, and_true]
  refine ⟨?_, by simpa using hp⟩
  cases hi : e.inline with
  | true => simpa [Entry.periRect] using hin hi
  | false => simpa [Entry.periRect] using hlen hi

theorem exec_paramPeriLoad (h : Dispatched 0x0341 e s f t)
    (hin : e.inline = true → 2 * e.periRect.w * e.periRect.h ≤ 1344)
    (hlen : e.dataLen = 2 * e.periRect.w * e.periRect.h) (hfree : t.peri.load = none) : exec (.paramPeriLoad e) s =
      .next (if t.planes.data = .idle then (t.awaitLoad (t.loadOf f e)).launch f
        else (t.awaitLoad (t.loadOf f e)).finish f 0x0A00 (t.firstLayer 3) 0 false []) := by
  refine (command_of_dispatched h _).trans (congrArg Host.Outcome.next ((checked_of_none ?_ _ t).trans ?_))
  · rw [firstBad_eq_none, List.forall_mem_append]
    refine ⟨Entry.periChecks_pass hr hz, ?_⟩
    simp only [List.forall_mem_cons, List.not_mem_nil, false_imp_iff, implies_true, and_true]
    refine ⟨?_, by simpa using hp, by simp [hfree]⟩
    simpa [hlen, Entry.periRect] using hin
  · by_cases hdata : t.planes.data = .idle
    · simp [hdata, State.awaitLoad, State.loadOf]
    · have hidle : (t.planes.data == .idle) = false := beq_eq_false_iff_ne.2 hdata
      have hlayer : (t.awaitLoad (t.loadOf f e)).firstLayer 3 = t.firstLayer 3 := State.firstLayer_congr rfl 3
      rw [if_neg hdata, ← hlayer]
      simp [hidle, hdata, State.awaitLoad, State.loadOf]

end

/-! ## The obligation -/

/-- Settles O32, from the equation of each event and command, `State.servePass_peri` and `Peri.cell_set`. -/
theorem perihelionPassesAndGridCommands : Obligations.PerihelionPassesAndGridCommands := by
  refine ⟨fun s e he hcore htick hp => ?tick, fun s q h hq => ?passEnd, fun s h => ?transitionEnd,
    fun e s t f w h hw hh hw1 hw2 hh1 hh2 hz hx hy hp => ?commands, fun p i j v hw hq => p.cell_set hw hq i j v⟩
  case tick =>
    have hrun := exec_diffusionTick he hcore htick hp
    refine ⟨fun ht => ?_, fun ht => hrun.trans (congrArg _ (if_pos ht))⟩
    obtain ⟨q, hstart, htick, hstarted, halpha, hbias, hrows⟩ := s.startPass_eq e s.ix
    rw [ht, if_neg Bool.false_ne_true, hstart] at hrun
    exact ⟨_, q, hrun, rfl, htick, hstarted, halpha, hbias, hrows, sameBut_peri s _⟩
  case passEnd =>
    obtain ⟨c, q', hrun, hbase⟩ := exec_diffusionPassEnd h hq
    obtain ⟨cells, load, hloaded, hload⟩ := Peri.loaded_of_idle
      (p := Peri.passOver s.ix q' { s.peri with satCnt := c, pass := some q' }) rfl
    refine ⟨_, hrun, ?_⟩
    rw [State.servePass_peri, hloaded]
    exact ⟨rfl, rfl, hbase, rfl, hload, ((sameBut_peri s _).mono (by simp)).trans (State.servePass_sameBut _ _)⟩
  case transitionEnd =>
    by_cases hs : ∃ k e, s.peri.pass = none ∧ s.peri.tickWaits = some k ∧ s.peri? = some e
    · obtain ⟨k, e, hp, hk, he⟩ := hs
      obtain ⟨q, hstart, htick, -, halpha, -⟩ := s.transitionOver.startPass_eq e k
      have hrun := exec_transitionPassEnd_starts h hp hk he
      rw [hstart] at hrun
      refine ⟨_, hrun, rfl, rfl, fun q' hq' => ?_, fun k' e' _ hk' he' => ?_, fun _ hk' => ?_,
        (sameBut_peri s _).trans (sameBut_peri _ _)⟩
      · rw [hp] at hq'
        cases hq'
      · rw [hk] at hk'
        rw [he] at he'
        cases hk'
        cases he'
        exact ⟨q, rfl, htick, halpha⟩
      · rw [hk] at hk'
        cases hk'
    · push Not at hs
      refine ⟨_, exec_transitionPassEnd_resumes h hs, rfl, rfl, fun q hq => ?_,
        fun k e hp hk he => (hs k e hp hk he).elim, fun hp _ => ?_, sameBut_peri s _⟩
      · show s.peri.pass.map _ = _
        rw [hq]
        rfl
      · show s.peri.pass.map _ = _
        rw [hp]
        rfl
  case commands =>
    subst hw hh
    have hr : e.periRect.Fits := ⟨hw1, hw2, hh1, hh2, hx, hy⟩
    refine ⟨fun hd hin hlen => ⟨_, exec_paramPeriRead hr hz hp hd hin hlen, ?_, rfl⟩, fun hd hin hlen hfree => ?_⟩
    · exact ((t.fspUp_sameBut.mono (by simp)).trans ((t.fspUp.launch_sameBut f).mono (by simp))).trans
        ((sameBut_peri _ _).mono (by simp))
    · have hrun := exec_paramPeriLoad hr hz hp hd hin hlen hfree
      refine ⟨fun hdata => ⟨_, hrun.trans (congrArg _ (if_pos hdata)),
        (sameBut_peri t _).comp (State.launch_sameBut f _), State.launch_sameBut f _ .peri (by simp)⟩,
        fun hdata => hrun.trans (congrArg _ (if_neg hdata))⟩

end Sys2Proof.Machine
end

section
/-!
The output of a Tide update (R262–R264, R269, R274): within the bounds of the set in force, and no further than its
slew limit from the output before.
-/

namespace Sys2Proof.Machine

/-! ## Clamp and slew limit -/

theorem clampInt_bounds {lo hi : Int} (h : lo ≤ hi) (z : Int) : lo ≤ clampInt lo hi z ∧ clampInt lo hi z ≤ hi := by
  unfold clampInt
  split
  · omega
  · split <;> omega

theorem add_clampInt_bounds {lo hi : Int} (h : lo ≤ hi) (a z : Int) :
    lo ≤ a + clampInt (lo - a) (hi - a) z ∧ a + clampInt (lo - a) (hi - a) z ≤ hi := by
  have hclamp := clampInt_bounds (sub_le_sub_right h a) z
  omega

/-- A slewed output arrives, or it moves by the whole limit towards its goal. -/
theorem slewTo_course {slew y u : Int} (h : 0 ≤ slew) :
    (slewTo slew y u).1 = u ∧ (slew ≠ 0 → absI (u - y) ≤ slew) ∨
    (slewTo slew y u).1 = y + slew ∧ slew < u - y ∨ (slewTo slew y u).1 = y - slew ∧ slew < y - u := by
  unfold slewTo
  split
  case isTrue hlim =>
    obtain ⟨_, hfar⟩ := hlim
    rcases lt_trichotomy u y with hlt | rfl | hgt
    · have hneg : u - y < 0 := by omega
      simp only [absI, sgn, if_pos hneg] at hfar ⊢
      omega
    · simp only [absI, sub_self, lt_self_iff_false, if_false] at hfar
      omega
    · have hneg : ¬ u - y < 0 := by omega
      have hpos : 0 < u - y := by omega
      simp only [absI, sgn, if_neg hneg, if_pos hpos] at hfar ⊢
      omega
  case isFalse hnear =>
    push Not at hnear
    exact .inl ⟨rfl, hnear⟩

/-! ## What a set allows -/

/-- With set `c`, an output `y` may be followed by `z`: both bounds and the slew limit hold. -/
def CoefSet.Allows (c : CoefSet) (y z : Int) : Prop :=
  (c.outMin ≤ y → y ≤ c.outMax → c.outMin ≤ z ∧ z ≤ c.outMax) ∧ (c.outSlew ≠ 0 → absI (z - y) ≤ c.outSlew)

section
variable {c : CoefSet} (hs : 0 ≤ c.outSlew)
include hs

theorem CoefSet.allows_self (y : Int) : c.Allows y y :=
  ⟨fun hlo hhi => ⟨hlo, hhi⟩, fun _ => by simpa [absI] using hs⟩

theorem CoefSet.allows_slewTo {u : Int} (hu : c.outMin ≤ u ∧ u ≤ c.outMax) (y : Int) :
    c.Allows y (slewTo c.outSlew y u).1 := by
  obtain ⟨hlo, hhi⟩ := hu
  unfold CoefSet.Allows
  rcases slewTo_course (y := y) (u := u) hs with ⟨heq, hnear⟩ | ⟨heq, hfar⟩ | ⟨heq, hfar⟩
  · rw [heq]
    exact ⟨fun _ _ => ⟨hlo, hhi⟩, hnear⟩
  · rw [heq, add_sub_cancel_left, absI, if_neg (by omega)]
    omega
  · rw [heq, sub_sub_cancel_left, absI]
    split <;> omega

/-- What a closed update aims at is within the bounds, as its integrator is clamped (R262). -/
theorem closedUpdate_allows (hc : c.outMin ≤ c.outMax) (swap : Bool) (x : TideIn) (l : TideLoop) :
    c.Allows l.y (closedUpdate c swap x l).1.y :=
  c.allows_slewTo hs (add_clampInt_bounds hc _ _) l.y

theorem tideBody_allows (hc : c.outMin ≤ c.outMax) (x : TideIn) (l : TideLoop) :
    c.Allows l.y (tideBody c x l).1.y := by
  unfold tideBody
  split
  case isTrue => exact c.allows_slewTo hs (clampInt_bounds hc l.man) l.y
  case isFalse =>
    split
    case isTrue => exact c.allows_self hs l.y
    case isFalse => exact closedUpdate_allows hs hc l.setChanged x l

end

/-! ## The steps of an update (R263) -/

theorem applyMode_y (l : TideLoop) : (applyMode l).y = l.y := by
  unfold applyMode
  split
  · rfl
  · split
    · rfl
    · split <;> rfl

theorem applyMode_of_none {l : TideLoop} (h : l.modeReq = none) : applyMode l = l := by
  simp only [applyMode, h]

/-- The judgement of the following error leaves the output, also when it trips (R274). -/
theorem judgeFe_y (x : TideIn) (e : Int) (l : TideLoop) : (judgeFe x e l).1.y = l.y := by
  unfold judgeFe
  split
  · rfl
  · dsimp only
    rw [apply_ite Prod.fst, apply_ite TideLoop.y]
    exact ite_self _

theorem judgeFe_of_manual {l : TideLoop} (h : l.auto = false) (x : TideIn) (e : Int) : judgeFe x e l = (l, false) := by
  rw [judgeFe, if_pos (.inl h)]

/-- The loop as an update begins: the inputs are latched, and a mode that was written is in force. -/
def TideLoop.latched (x : TideIn) (l : TideLoop) : TideLoop :=
  applyMode { l with pv := x.pv, sp := x.sp, measInvalid := !x.valid, opened := x.opened, started := true }

theorem TideLoop.latched_y (x : TideIn) (l : TideLoop) : (l.latched x).y = l.y := applyMode_y _

theorem TideLoop.latched_of_none {l : TideLoop} (h : l.modeReq = none) (x : TideIn) : l.latched x =
    { l with pv := x.pv, sp := x.sp, measInvalid := !x.valid, opened := x.opened, started := true } :=
  applyMode_of_none h

theorem tideUpdate_loop (c : CoefSet) (x : TideIn) (l : TideLoop) :
    (tideUpdate c x l).1 = (judgeFe x (sat32 (x.sp - x.pv)) (tideBody c x (l.latched x)).1).1 := rfl

theorem tideUpdate_y (c : CoefSet) (x : TideIn) (l : TideLoop) :
    (tideUpdate c x l).1.y = (tideBody c x (l.latched x)).1.y := by
  rw [tideUpdate_loop, judgeFe_y]

theorem tideUpdate_allows {c : CoefSet} (hs : 0 ≤ c.outSlew) (hc : c.outMin ≤ c.outMax) (x : TideIn) (l : TideLoop) :
    c.Allows l.y (tideUpdate c x l).1.y := by
  rw [tideUpdate_y, ← l.latched_y x]
  exact tideBody_allows hs hc x (l.latched x)

theorem tideUpdate_frozen_y {c : CoefSet} {x : TideIn} {l : TideLoop} (hauto : l.auto = true) (hmode : l.modeReq = none)
    (hx : x.valid = false ∨ x.opened = true) : (tideUpdate c x l).1.y = l.y := by
  rw [tideUpdate_y, l.latched_of_none hmode, tideBody, if_neg (by simp [hauto]), if_pos hx]
  rfl

theorem tideUpdate_manual {c : CoefSet} {x : TideIn} {l : TideLoop} (hauto : l.auto = false) (hmode : l.modeReq = none) :
    (tideUpdate c x l).1 = manualUpdate c x (l.latched x) := by
  have hman : (l.latched x).auto = false := by rw [l.latched_of_none hmode, hauto]
  rw [tideUpdate_loop, tideBody, if_pos hman, judgeFe_of_manual]
  exact hman

/-- Settles O35: what every kind of update allows is `tideUpdate_allows`; a frozen one and one in manual are followed
through their steps. -/
theorem loopOutputsStayInTheirBounds : Obligations.LoopOutputsStayInTheirBounds := by
  intro c x l hc hs
  have hlt : c.outMin < c.outMax := by simpa [CoefSet.isEmpty] using hc
  obtain ⟨hbounds, hslew⟩ := tideUpdate_allows hs hlt.le x l
  refine ⟨hbounds, hslew, tideUpdate_frozen_y, fun hauto hmode => ?_⟩
  rw [tideUpdate_manual hauto hmode, l.latched_of_none hmode]
  exact ⟨hauto, rfl, rfl⟩

end Sys2Proof.Machine
end

section
/-!
The LOOP commands (R265, R275–R280): status, coefficient sets and their switch, and captures.
-/

namespace Sys2Proof.Machine

/-! ## LOOP_STATUS and the set commands (R275, R276) -/

theorem exec_loopStatus {e : Entry} {s t : State} {f : Flight} {l : TideLoop} (h : Dispatched 0x0500 e s f t)
    (hl : t.loop? (e.u 0x18 1) = some l) (hz : (e.zeroFrom 0x19 39).1 = false) :
    exec (.loopStatus e) s = .next (t.ok f (unsignedOf 32 l.y + l.status.toNat * 2 ^ 32)
      (unsignedOf 32 l.pv + unsignedOf 32 l.sp * 2 ^ 32) []) := by
  refine (command_of_dispatched h _).trans (congrArg Host.Outcome.next ?_)
  simp only [hl]
  exact checked_of_none (firstBad_cons_of_pass hz) _ t

/-- The switch sample of a write that is dispatched now: one to four samples on, and not before that of a write that
waits. -/
def State.setSample (s : State) : Nat :=
  min (s.ix + 4) ((s.tide.setSwitches.map (·.at_)).foldl max (s.ix + (s.drawIn 1 4).1))

theorem State.setSample_bounds (s : State) : s.ix < s.setSample ∧ s.setSample ≤ s.ix + 4 := by
  have hdraw := (s.drawIn_bounds (lo := 1) (hi := 4) (by decide)).1
  unfold State.setSample
  rw [List.foldl_max]
  omega

/-- The write that a dispatched LOOP_SET_WRITE leaves waiting. -/
def State.setSwitchOf (s : State) (e : Entry) : SetSwitch :=
  { at_ := s.setSample, first := e.u 0x18 1, sets := (List.range (e.u 0x1A 2)).map e.setAt }

/-- One write more waits, and its switch sample has been drawn. -/
def State.awaitSets (w : SetSwitch) (s : State) : State :=
  { (s.drawIn 1 4).2 with tide := { s.tide with setSwitches := s.tide.setSwitches ++ [w] } }

theorem State.awaitSets_sameBut (w : SetSwitch) (s : State) : SameBut [.tide, .freeCtr] s (s.awaitSets w) :=
  ((s.drawIn_sameBut 1 4).mono (by simp)).trans ((sameBut_tide (s.drawIn 1 4).2 _).mono (by simp))

/-- Position `i` of the data of a write names its set, with reserved bytes zero and OUT_SLEW not negative. -/
def Entry.SetFits (e : Entry) (i : Nat) : Prop :=
  e.d (32 * i) 1 = e.u 0x18 1 + i ∧ e.d (32 * i + 1) 3 = 0 ∧ 0 ≤ e.ds (32 * i + 28) 4

section
variable {e : Entry} {s t : State} {f : Flight} (hone : 1 ≤ e.u 0x1A 2)
  (hmost : e.u 0x1A 2 ≤ if e.inline then 42 else 256) (hlast : e.u 0x18 1 + e.u 0x1A 2 ≤ 256)
  (hz : (e.zeroFrom 0x19 1).1 = false) (hz' : (e.zeroFrom 0x1C 36).1 = false)
include hone hmost hlast hz hz'

theorem Entry.setChecks_pass {write : Bool} (hlen : e.inline = false ∨ write = true → e.dataLen = 32 * e.u 0x1A 2) :
    ∀ c ∈ e.setChecks write, c.1 = false := by
  have hcount : e.u 0x1A 2 ≠ 0 := by omega
  simp only [Entry.setChecks, List.forall_mem_cons, List.not_mem_nil, false_imp_iff, implies_true, and_true]
  refine ⟨?_, hz, hz', ?_, ?_⟩
  · simpa [hcount] using hmost
  · simpa using hlast
  · simpa using hlen

theorem exec_loopSetRead (h : Dispatched 0x0501 e s f t) (hlen : e.inline = false → e.dataLen = 32 * e.u 0x1A 2) :
    exec (.loopSetRead e) s = .next (t.ok f 0 0
      ((List.range (e.u 0x1A 2)).flatMap fun i => (t.coefSet (e.u 0x18 1 + i)).bytes (e.u 0x18 1 + i))) :=
  (command_of_dispatched h _).trans (congrArg Host.Outcome.next (checked_of_none
    (firstBad_eq_none.2 (Entry.setChecks_pass hone hmost hlast hz hz' (by simpa using hlen))) _ t))

theorem exec_loopSetWrite (h : Dispatched 0x0540 e s f t) (hlen : e.dataLen = 32 * e.u 0x1A 2)
    (hsets : ∀ i, i < e.u 0x1A 2 → e.SetFits i) :
    exec (.loopSetWrite e) s = .next ((t.awaitSets (t.setSwitchOf e)).ok f t.setSample 0 []) := by
  refine (command_of_dispatched h _).trans (congrArg Host.Outcome.next (checked_of_none ?_ _ t))
  rw [firstBad_eq_none, List.forall_mem_append]
  refine ⟨Entry.setChecks_pass hone hmost hlast hz hz' fun _ => hlen, ?_⟩
  simp only [List.forall_mem_flatMap, List.mem_range]
  intro i hi
  obtain ⟨hset, hzero, hslew⟩ := hsets i hi
  simp [hset, hzero, hslew]

end

/-! ## SET_SWITCH (R265, R276) -/

/-- The sets once write `w` is in force. -/
def State.setsWith (s : State) (w : SetSwitch) : List (Nat × CoefSet) :=
  (w.sets.zipIdx w.first).foldl (fun t p => sset {} t p.2 p.1) s.tide.sets

/-- Write `w` empties the set that is chosen for the loop. -/
def State.empties (s : State) (w : SetSwitch) (l : TideLoop) : Bool :=
  !(sget {} s.tide.sets l.choice).isEmpty && (sget {} (s.setsWith w) l.choice).isEmpty

/-- The loop as write `w` leaves it. -/
def State.loopSwitched (s : State) (w : SetSwitch) (l : TideLoop) : TideLoop :=
  { l with setEmpty := l.setEmpty || s.empties w l, chosen := if s.empties w l then l.choice else l.chosen
           setChanged := l.setChanged || sget {} s.tide.sets l.set != sget {} (s.setsWith w) l.set }

/-- The state once write `w` is in force. -/
def State.setsSwitched (w : SetSwitch) (s : State) : State :=
  { s with tide := { s.tide with
      sets := s.setsWith w, setSwitches := s.tide.setSwitches.erase w, loops := s.tide.loops.map (s.loopSwitched w)
      setEmptyCnt := s.tide.setEmptyCnt.add (s.tide.loops.filter (s.empties w)).length } }

theorem exec_setSwitch {s : State} {w : SetSwitch}
    (h : (s.tide.setSwitches.find? fun w => decide (w.at_ ≤ s.ix + 1)) = some w) :
    exec .setSwitch s = .next (s.setsSwitched w) := by
  show execSetSwitch s = _
  simp only [execSetSwitch, h]
  rfl

/-- The set that is chosen stays chosen. -/
theorem State.loopSwitched_choice (s : State) (w : SetSwitch) (l : TideLoop) :
    (s.loopSwitched w l).choice = l.choice := by
  by_cases hk : l.entry.kind = 1 <;> simp [State.loopSwitched, TideLoop.choice, hk]

theorem State.setsSwitched_setEmpty {s : State} {w : SetSwitch} {l : TideLoop} (hl : l ∈ (s.setsSwitched w).tide.loops)
    (hold : (s.coefSet l.choice).isEmpty = false) (hnew : ((s.setsSwitched w).coefSet l.choice).isEmpty = true) :
    l.setEmpty = true := by
  obtain ⟨m, _, rfl⟩ := List.mem_map.1 hl
  rw [State.loopSwitched_choice] at hold hnew
  have hempties : s.empties w m = true := Bool.and_eq_true_iff.2 ⟨congrArg not hold, hnew⟩
  show (m.setEmpty || s.empties w m) = true
  rw [hempties, Bool.or_true]

/-! ## Capture units (R277–R280) -/

/-- Capture unit `i` changed. -/
def State.modCapture (i : Nat) (g : Option CapUnit → Option CapUnit) (s : State) : State :=
  { s with tide := { s.tide with caps := upd s.tide.caps i g } }

theorem State.modCapture_sameBut (i : Nat) (g : Option CapUnit → Option CapUnit) (s : State) :
    SameBut [.tide] s (s.modCapture i g) := sameBut_tide s _

theorem State.nth_modCapture {i : Nat} (hi : i < 2) (g : Option CapUnit → Option CapUnit) (s : State) :
    nth none (s.modCapture i g).tide.caps i = g (nth none s.tide.caps i) := nth_upd_same none s.tide.caps g hi

theorem lt_two_of_captured {caps : Vector (Option CapUnit) 2} {i : Nat} {c : CapUnit} (h : nth none caps i = some c) :
    i < 2 := by
  by_contra hi
  simp [nth, hi] at h

/-- Unit `i` is the first that is free. -/
def Tide.FirstFree (t : Tide) (i : Nat) : Prop :=
  i = 0 ∧ nth none t.caps 0 = none ∨ i = 1 ∧ nth none t.caps 0 ≠ none ∧ nth none t.caps 1 = none

theorem Tide.FirstFree.lt_two {t : Tide} {i : Nat} (h : t.FirstFree i) : i < 2 := by
  rcases h with ⟨rfl, _⟩ | ⟨rfl, _⟩ <;> decide

theorem Tide.FirstFree.find {t : Tide} {i : Nat} (h : t.FirstFree i) :
    ((List.range 2).find? fun j => (nth none t.caps j).isNone) = some i := by
  rw [show List.range 2 = [0, 1] from rfl]
  rcases h with ⟨rfl, h0⟩ | ⟨rfl, h0, h1⟩
  · simp [h0]
  · simp [Option.isNone_iff_eq_none, h0, h1]

/-- The parameters of a capture lie in the ranges of R277. -/
structure CapCfg.Fits (c : CapCfg) : Prop where
  trigger : c.trigger ≤ 3
  wave : c.wave ≤ 3
  point : c.point ≤ 1
  signals : ∀ x ∈ c.signals, x ≤ 9
  rows_pos : 1 ≤ c.rows
  rows_le : c.rows ≤ 65536
  pre : c.pre < c.rows
  decim : c.decim ≠ 0
  trigArg : c.trigger = 0 ∨ c.trigger = 3 → c.trigArg = 0
  amp : c.wave = 0 → c.amp = 0
  half_zero : c.wave < 2 → c.half = 0
  half : 2 ≤ c.wave → 1 ≤ c.half ∧ c.half ≤ 65535

theorem CapCfg.Fits.half_pass {c : CapCfg} (h : c.Fits) :
    (if c.wave < 2 then c.half != 0 else c.half = 0 || decide (65535 < c.half)) = false := by
  split
  case isTrue hw => simp [h.half_zero hw]
  case isFalse hw =>
    obtain ⟨hlo, hhi⟩ := h.half (Nat.le_of_not_lt hw)
    simp [Nat.ne_of_gt hlo, hhi]

theorem CapCfg.Fits.signal_le {c : CapCfg} (h : c.Fits) (i : Nat) : c.signals.getD i 0 ≤ 9 := by
  rw [List.getD_eq_getElem?_getD]
  cases hx : c.signals[i]? with
  | none => exact Nat.zero_le 9
  | some x => exact h.signals x (List.mem_of_getElem? hx)

theorem exec_loopCaptureStart {e : Entry} {s t : State} {f : Flight} {i : Nat} (h : Dispatched 0x0543 e s f t)
    (hslot : (t.loop? e.capCfg.slot).isSome = true) (hc : e.capCfg.Fits) (hz : (e.zeroFrom 0x2A 2).1 = false)
    (hz' : (e.zeroFrom 0x38 8).1 = false) (hfree : t.tide.FirstFree i) :
    exec (.loopCaptureStart e) s =
      .next ((t.modCapture i fun _ => some { cfg := e.capCfg, state := 1 }).ok f i 0 []) := by
  have hrows : e.capCfg.rows ≠ 0 := Nat.ne_of_gt hc.rows_pos
  refine (command_of_dispatched h _).trans (congrArg Host.Outcome.next ((checked_of_none ?_ _ t).trans ?_))
  · rw [firstBad_eq_none]
    simp only [List.forall_mem_append, List.forall_mem_cons, List.not_mem_nil, false_imp_iff, implies_true, and_true,
      List.forall_mem_map]
    refine ⟨⟨⟨by simpa [Option.isSome_iff_ne_none] using hslot, ?_, ?_, ?_⟩, fun j _ => ?_⟩, ?_, ?_, ?_, hz, ?_, ?_,
      hc.half_pass, hz'⟩
    · simpa using hc.trigger
    · simpa using hc.wave
    · simpa using hc.point
    · simpa using hc.signal_le j
    · simpa [hrows] using hc.rows_le
    · simpa using hc.pre
    · simpa using hc.decim
    · simpa using hc.trigArg
    · simpa using hc.amp
  · simp only [hfree.find]
    rfl

/-- A unit as LOOP_CAPTURE_STOP leaves it: freed with FLAGS 1, else done with its rows. -/
def captureStopped (flags : Nat) (u : Option CapUnit) : Option CapUnit :=
  if flags = 1 then none else u.map fun u => { u with state := 3, injecting := false }

theorem exec_loopCaptureStop {e : Entry} {s t : State} {f : Flight} {c : CapUnit} (h : Dispatched 0x0544 e s f t)
    (hc : nth none t.tide.caps (e.u 0x18 1) = some c) (hz : (e.zeroFrom 0x1A 38).1 = false) (hflags : e.u 0x19 1 ≤ 1) :
    exec (.loopCaptureStop e) s =
      .next ((t.modCapture (e.u 0x18 1) (captureStopped (e.u 0x19 1))).ok f 0 0 []) := by
  refine (command_of_dispatched h _).trans (congrArg Host.Outcome.next (checked_of_none ?_ _ t))
  rw [firstBad_eq_none]
  simp [hc, hz, hflags]

theorem exec_loopCaptureRead {e : Entry} {s t : State} {f : Flight} {c : CapUnit} (h : Dispatched 0x0502 e s f t)
    (hc : nth none t.tide.caps (e.u 0x18 1) = some c) (hone : 1 ≤ e.u 0x20 4)
    (hmost : e.u 0x20 4 ≤ if e.inline then 84 else 65536) (hz : (e.zeroFrom 0x19 3).1 = false)
    (hz' : (e.zeroFrom 0x24 28).1 = false) (hrows : e.u 0x1C 4 + e.u 0x20 4 ≤ c.rows.length)
    (hlen : e.inline = false → e.bufLen.toNat = 16 * e.u 0x20 4) (hbad : c.bad = []) :
    exec (.loopCaptureRead e) s = .next (t.ok f 0 0
      (((c.rows.drop (e.u 0x1C 4)).take (e.u 0x20 4)).flatMap fun r => r.flatMap fun w => leBytes 4 w.toNat)) := by
  have hcount : e.u 0x20 4 ≠ 0 := Nat.ne_of_gt hone
  refine (command_of_dispatched h _).trans (congrArg Host.Outcome.next ((checked_of_none ?_ _ t).trans ?_))
  · rw [firstBad_eq_none]
    simp only [List.forall_mem_cons, List.not_mem_nil, false_imp_iff, implies_true, and_true, hc]
    refine ⟨?_, hz, hz', rfl, ?_, ?_⟩
    · simpa [hcount] using hmost
    · exact decide_eq_false (Nat.not_lt.2 hrows)
    · simpa using hlen
  · simp only [hc, Option.elim_some, hbad, List.find?_nil]

/-! ## The obligation -/

/-- Settles O33, from the equation of each command and of SET_SWITCH. -/
theorem loopCommandsReadWriteAndCapture : Obligations.LoopCommandsReadWriteAndCapture := by
  refine ⟨fun e s t f => ⟨fun l => exec_loopStatus, ?sets, ?start, ?stop, ?read⟩, fun s w h => ?switch⟩
  case sets =>
    rintro first n rfl rfl hone hmost hlast hz hz'
    refine ⟨exec_loopSetRead hone hmost hlast hz hz', fun h hlen hsets => ?_⟩
    obtain ⟨hlo, hhi⟩ := t.setSample_bounds
    exact ⟨_, _, hlo, hhi, exec_loopSetWrite hone hmost hlast hz hz' h hlen hsets, rfl, t.awaitSets_sameBut _⟩
  case start =>
    rintro c i rfl h hslot htrigger hwave hpoint hsignals hrows hrows' hpre hdecim hz harg hamp hhalf hhalf' hz' hfree
    have hfree : t.tide.FirstFree i := hfree
    exact ⟨_, exec_loopCaptureStart h hslot
      ⟨htrigger, hwave, hpoint, hsignals, hrows, hrows', hpre, hdecim, harg, hamp, hhalf, hhalf'⟩ hz hz' hfree,
      t.modCapture_sameBut i _, t.nth_modCapture hfree.lt_two _⟩
  case stop =>
    rintro i c rfl h hc hz hflags
    refine ⟨_, exec_loopCaptureStop h hc hz hflags, t.modCapture_sameBut _ _, ?_⟩
    rw [t.nth_modCapture (lt_two_of_captured hc), hc]
    rfl
  case read =>
    rintro c first n h hc rfl rfl hone hmost hz hz' hrows hlen hbad
    exact exec_loopCaptureRead h hc hone hmost hz hz' hrows hlen hbad
  case switch =>
    exact ⟨_, exec_setSwitch h, sameBut_tide s _, rfl, rfl, fun l => s.setsSwitched_setEmpty⟩

end Sys2Proof.Machine
end

section
/-!
Moonlinks come up (R289–R296): what an event changes in one link, and what a CAPS message makes of it.
-/

namespace Sys2Proof.Machine

/-! ## One link changed -/

theorem State.link_modLink_same {n : Nat} (hn : n < 32) (f : Link → Link) (s : State) :
    (s.modLink n f).link n = f (s.link n) :=
  nth_upd_same ({} : Link) s.links f hn

theorem State.link_modLink_other {m n : Nat} (h : m ≠ n) (f : Link → Link) (s : State) :
    (s.modLink n f).link m = s.link m :=
  nth_upd_other ({} : Link) s.links f h

theorem State.link_congr {s t : State} (h : t.links = s.links) (n : Nat) : t.link n = s.link n := by
  simp only [State.link, h]

theorem State.modLink_sameBut (n : Nat) (f : Link → Link) (s : State) : SameBut [.links] s (s.modLink n f) :=
  sameBut_links s _

/-- Link `n` becomes `l`; no other link changes, and of the parts only those in `w`. -/
def LinkBecomes (w : List Part) (n : Nat) (l : Link) (s t : State) : Prop :=
  (∀ m, m ≠ n → t.link m = s.link m) ∧ SameBut w s t ∧ t.link n = l

section
variable {v w : List Part} {n : Nat} {l : Link} {s t u : State}

theorem LinkBecomes.mono (h : LinkBecomes v n l s t) (hv : v ⊆ w) : LinkBecomes w n l s t :=
  ⟨h.1, h.2.1.mono hv, h.2.2⟩

theorem LinkBecomes.modLink (h : LinkBecomes v n l s t) (hn : n < 32) (f : Link → Link) :
    LinkBecomes (v ++ [.links]) n (f l) s (t.modLink n f) := by
  obtain ⟨hother, hsame, hlink⟩ := h
  refine ⟨fun m hm => (State.link_modLink_other hm f t).trans (hother m hm), hsame.comp (t.modLink_sameBut n f), ?_⟩
  rw [State.link_modLink_same hn, hlink]

/-- What follows and leaves the links alone. -/
theorem LinkBecomes.sameBut (h : LinkBecomes v n l s t) (k : SameBut w t u) (hw : .links ∉ w) :
    LinkBecomes (v ++ w) n l s u := by
  obtain ⟨hother, hsame, hlink⟩ := h
  have hlinks : u.links = t.links := k .links hw
  exact ⟨fun m hm => (State.link_congr hlinks m).trans (hother m hm), hsame.comp k,
    (State.link_congr hlinks n).trans hlink⟩

end

theorem State.modLink_becomes {n : Nat} (hn : n < 32) (f : Link → Link) (s : State) :
    LinkBecomes [.links] n (f (s.link n)) s (s.modLink n f) :=
  ⟨fun _ hm => State.link_modLink_other hm f s, s.modLink_sameBut n f, State.link_modLink_same hn f s⟩

/-! ## Bring-up (R290–R292) -/

section
variable {s : State} {n : Nat} {st : LinkState}

theorem State.linkFrom_of_state (h : (s.link n).state = st) (f : Link → Link) :
    s.linkFrom n st f = .next (s.modLink n f) :=
  congrArg Host.Outcome.next (if_pos h)

theorem State.linkFrom_of_other (h : (s.link n).state ≠ st) (f : Link → Link) : s.linkFrom n st f = .next s :=
  congrArg Host.Outcome.next (if_neg h)

/-- An event of state `st` finds the link in it. -/
theorem State.linkFrom_becomes (hn : n < 32) (h : (s.link n).state = st) (f : Link → Link) :
    ∃ t, s.linkFrom n st f = .next t ∧ LinkBecomes [.links] n (f (s.link n)) s t :=
  ⟨_, State.linkFrom_of_state h f, s.modLink_becomes hn f⟩

theorem exec_detectTimeout_of_forced (h : (s.linkHead? n).any (·.forceDetect) = true) :
    exec (.detectTimeout n) s = .next s :=
  if_pos h

theorem exec_detectTimeout_of_unforced (h : (s.linkHead? n).any (·.forceDetect) = false) :
    exec (.detectTimeout n) s = s.linkFrom n .detect Link.failTry :=
  if_neg (by simp [h])

/-- Outside DETECT a DETECT_TIMEOUT does nothing, with or without FORCE_DETECT. -/
theorem exec_detectTimeout_of_other (h : (s.link n).state ≠ .detect) : exec (.detectTimeout n) s = .next s := by
  cases hforce : (s.linkHead? n).any (·.forceDetect) with
  | true => exact exec_detectTimeout_of_forced hforce
  | false => exact (exec_detectTimeout_of_unforced hforce).trans (State.linkFrom_of_other h _)

theorem State.phaseHome_of_train (h : (s.link n).state = .train) :
    s.phaseHome n = { s with cal := { s.cal with phases := upd s.cal.phases n fun _ => 0 } } :=
  if_pos h

theorem State.phaseHome_of_other (h : (s.link n).state ≠ .train) : s.phaseHome n = s :=
  if_neg h

theorem exec_phaseFound_of_other (h : (s.link n).state ≠ .train) : exec (.phaseFound n) s = .next s := by
  change (s.phaseHome n).linkFrom n .train _ = _
  rw [State.phaseHome_of_other h, State.linkFrom_of_other h]

theorem exec_phaseFound_of_train (hn : n < 32) (h : (s.link n).state = .train) :
    ∃ t, exec (.phaseFound n) s = .next t ∧
      LinkBecomes [.links, .cal] n { s.link n with state := .lock, phaseOk := true } s t ∧
      nth 0 t.cal.phases n = 0 := by
  have hexec : exec (.phaseFound n) s =
      .next ((s.phaseHome n).modLink n fun l => { l with state := .lock, phaseOk := true }) :=
    State.linkFrom_of_state (by rw [State.phaseHome_of_train h]; exact h) _
  rw [State.phaseHome_of_train h] at hexec
  exact ⟨_, hexec, (s.modLink_becomes hn _).sameBut (sameBut_cal _ _) (by simp), nth_upd_same 0 s.cal.phases _ hn⟩

theorem exec_blockLockGained_of_deaf
    (h : (s.link n).state = .off ∨ (s.link n).state = .detect ∨ (s.link n).state = .backoff) :
    exec (.blockLockGained n) s = .next s :=
  congrArg Host.Outcome.next (if_pos h)

theorem exec_blockLockGained
    (h : ¬ ((s.link n).state = .off ∨ (s.link n).state = .detect ∨ (s.link n).state = .backoff)) :
    exec (.blockLockGained n) s = .next (s.modLink n fun l => { l with blockLock := true }) :=
  congrArg Host.Outcome.next (if_neg h)

theorem exec_frameLock {r : Nat} {q : W16} (h : (s.link n).state = .lock) (hb : (s.link n).blockLock = true) :
    exec (.frameLock n r q) s = .next (s.modLink n fun l => { l with
      state := .caps, frameLock := true, lastSeq := some q, headReady := false, powerZeroed := false
      d := roundHalfAway (((r : Rat) / 64 - ((s.link n).caps.turnaround : Rat)) / 2) }) :=
  congrArg Host.Outcome.next (if_pos ⟨h, hb⟩)

theorem exec_frameLock_of_unready {r : Nat} {q : W16} (h : (s.link n).state ≠ .lock ∨ (s.link n).blockLock = false) :
    exec (.frameLock n r q) s = .next s :=
  congrArg Host.Outcome.next (if_neg (by rcases h with h | h <;> simp [h]))

end

/-! ## A CAPS message (R293–R295) -/

/-- CAPS message `msg` stands in the registers. -/
def Link.noteCaps (msg : List Byte) (l : Link) : Link := { l with caps := parseCaps msg, sideIn := none }

/-- CAPS_ACK with the setup of head `h` and the delay `d`, sent by a link that becomes ACTIVE. -/
def Link.passCaps (h : EphHead) (d : Int) (l : Link) : Link :=
  Link.say (leBytes 1 2 ++ [0] ++ leBytes 1 h.roiSize ++ leBytes 1 h.roiKfps ++ leBytes 2 (unsignedOf 16 d))
    { l with state := .active, reason := 0, attempts := 0, badRun := 0, dnErrRun := 0 }

/-- CAPS_ACK with REASON `r`, sent by a link whose head is held out. -/
def Link.failCaps (r : Nat) (l : Link) : Link :=
  Link.say (leBytes 1 2 ++ leBytes 1 r) { l with state := .heldOut, reason := r }

/-- A head held out is recorded and reported. -/
def State.reportCaps (h : EphHead) (r : Nat) (c : CapsMsg) (s : State) : State :=
  (s.record 0x0050 .data (u32s [r, c.vendor, c.model, c.fw, c.caps.toNat])).event 2 0x0901
    (BitVec.ofNat 64 (2 ^ h.head))

theorem State.reportCaps_sameBut (h : EphHead) (r : Nat) (c : CapsMsg) (s : State) :
    SameBut [.host, .outbox, .mem, .tail] s (s.reportCaps h r c) :=
  ((State.record_sameBut _ _ _ s).mono (by simp)).trans ((State.event_sameBut _ _ _ _).mono (by simp))

theorem exec_caps_of_unheard {s : State} {n : Nat} {msg : List Byte}
    (h : (s.link n).sideIn ≠ some msg ∨ sideOk 1 msg = false) : exec (.caps n msg) s = .next s :=
  if_pos h

section
variable {s : State} {n : Nat} {msg : List Byte} {h : EphHead} (hheard : (s.link n).sideIn = some msg)
  (hok : sideOk 1 msg = true)
include hheard hok

/-- Without a head, or in another STATE, a CAPS message is noted only. -/
theorem exec_caps_of_unjudged (hno : (s.link n).state ≠ .caps ∨ s.linkHead? n = none) :
    exec (.caps n msg) s = .next (s.modLink n (Link.noteCaps msg)) := by
  refine (if_neg (by simp [hheard, hok])).trans ?_
  cases hh : s.linkHead? n with
  | none =>
    rw [show (s.modLink n _).linkHead? n = none from hh]
    rfl
  | some h =>
    have hstate : (s.link n).state ≠ .caps := hno.resolve_right (by simp [hh])
    rw [show (s.modLink n _).linkHead? n = some h from hh]
    exact if_pos hstate

/-- In CAPS a message that passes makes the link ACTIVE and gives the engine its focus gain. -/
theorem exec_caps_of_pass (hstate : (s.link n).state = .caps) (hh : s.linkHead? n = some h)
    (hpass : capsReason h (s.link n).d (parseCaps msg) = 0) : exec (.caps n msg) s = .next
      (((s.modLink n (Link.noteCaps msg)).modLink n (Link.passCaps h (s.link n).d)).modEngine h.head fun e =>
        { e with focusGain := (parseCaps msg).focusGain }) := by
  refine (if_neg (by simp [hheard, hok])).trans ?_
  rw [show (s.modLink n _).linkHead? n = some h from hh]
  exact (if_neg (not_not.2 hstate)).trans (if_pos hpass)

/-- In CAPS a message that fails a check holds the head out. -/
theorem exec_caps_of_fail {r : Nat} (hstate : (s.link n).state = .caps) (hh : s.linkHead? n = some h)
    (hr : capsReason h (s.link n).d (parseCaps msg) = r) (hfail : r ≠ 0) : exec (.caps n msg) s = .next
      (((s.modLink n (Link.noteCaps msg)).modLink n (Link.failCaps r)).reportCaps h r (parseCaps msg)) := by
  subst hr
  refine (if_neg (by simp [hheard, hok])).trans ?_
  rw [show (s.modLink n _).linkHead? n = some h from hh]
  exact (if_neg (not_not.2 hstate)).trans (if_neg hfail)

end

/-- Settles O36, from the equation of each event and `exec_caps_of_judged`. -/
theorem linksComeUpStepByStep : Obligations.LinksComeUpStepByStep := by
  intro s n hn
  refine ⟨fun h => State.linkFrom_becomes hn h _,
    fun h => ⟨State.linkFrom_of_other h _, exec_detectTimeout_of_other h⟩, fun h hforce => ?detectTimeout,
    exec_detectTimeout_of_forced, fun h => ?phaseFound, fun h => State.linkFrom_becomes hn h _,
    fun h => ⟨exec_phaseFound_of_other h, State.linkFrom_of_other h _⟩, fun h => State.linkFrom_becomes hn h _,
    fun h => State.linkFrom_of_other h _, fun hoff hdetect hbackoff => ?blockLock, exec_blockLockGained_of_deaf,
    fun r q h hb => ⟨_, exec_frameLock h hb, s.modLink_becomes hn _⟩, fun r q h => exec_frameLock_of_unready h,
    fun h => State.linkFrom_becomes hn h _, fun h => State.linkFrom_of_other h _,
    fun h => State.linkFrom_becomes hn h _, fun h => State.linkFrom_of_other h _,
    fun h => State.linkFrom_becomes hn h _, fun h => State.linkFrom_of_other h _,
    fun msg => exec_caps_of_unheard,
    fun msg hheard hok => ⟨fun hno => ⟨_, exec_caps_of_unjudged hheard hok hno, s.modLink_becomes hn _⟩,
      fun h hstate hh => ⟨fun hpass => ?pass, fun hfail => ?fail⟩⟩⟩
  case detectTimeout =>
    rw [exec_detectTimeout_of_unforced hforce]
    exact State.linkFrom_becomes hn h _
  case phaseFound =>
    obtain ⟨t, hexec, ⟨hother, hsame, hlink⟩, hphase⟩ := exec_phaseFound_of_train hn h
    exact ⟨t, hexec, hother, hsame, hlink, hphase⟩
  case blockLock => exact ⟨_, exec_blockLockGained (by simp [hoff, hdetect, hbackoff]), s.modLink_becomes hn _⟩
  case pass =>
    have hlink := (s.modLink_becomes hn (Link.noteCaps msg)).modLink hn (Link.passCaps h (s.link n).d)
    obtain ⟨hother, hsame, hbecomes⟩ := hlink.sameBut (sameBut_engines _ _) (by simp)
    refine ⟨_, exec_caps_of_pass hheard hok hstate hh hpass, hother, hsame.mono (by simp), hbecomes, fun hhead => ?_⟩
    rw [State.engine_modEngine_same hhead]
  case fail =>
    have hlink := (s.modLink_becomes hn (Link.noteCaps msg)).modLink hn
      (Link.failCaps (capsReason h (s.link n).d (parseCaps msg)))
    exact ⟨_, exec_caps_of_fail hheard hok hstate hh rfl hfail,
      (hlink.sameBut (State.reportCaps_sameBut _ _ _ _) (by simp)).mono (by simp)⟩

end Sys2Proof.Machine
end

section
/-!
Uplink frames and link loss (R288, R291, R299, R300): what a frame makes of its link, and when the link is lost; and the
far-end loopback (R303).
-/

namespace Sys2Proof.Machine

/-! ## Heads of the committed ephemeris -/

theorem State.linkHead?_congr {s t : State} (h : t.eph.eph = s.eph.eph) (n : Nat) : t.linkHead? n = s.linkHead? n := by
  simp only [State.linkHead?, h]

theorem State.declared_of_eph {s t : State} (h : t.eph.eph = s.eph.eph) (n : Nat) : t.declared n = s.declared n := by
  simp only [State.declared, State.head?, h]

theorem State.eclipsed_congr {s t : State} (h : t.eclipse = s.eclipse) (n : Nat) : t.eclipsed n = s.eclipsed n := by
  simp only [State.eclipsed, h]

/-! ## Link loss (R300) -/

/-- From `s` to `t` link `n` is lost: it backs off with a new count of attempts, its head's channel in Eclipse. -/
def MoonlinkLost (s : State) (n : Nat) (t : State) : Prop :=
  (t.link n).state = .backoff ∧ (t.link n).loss = (s.link n).loss.inc ∧ (t.link n).attempts = 0 ∧
  (t.link n).frameLock = false ∧
  ∀ h, s.linkHead? n = some h → h.head < 32 → s.declared h.head = true → t.eclipsed h.head = true

/-- What came before the loss left the heads and the count of losses alone. -/
theorem MoonlinkLost.of_before {r s t : State} {n : Nat} (h : MoonlinkLost s n t) (heph : s.eph.eph = r.eph.eph)
    (hloss : (s.link n).loss = (r.link n).loss) : MoonlinkLost r n t := by
  obtain ⟨hstate, hcount, hattempts, hlock, heclipse⟩ := h
  refine ⟨hstate, hloss ▸ hcount, hattempts, hlock, fun e he hlt hd => heclipse e ?_ hlt ?_⟩
  · rw [State.linkHead?_congr heph, he]
  · rw [State.declared_of_eph heph, hd]

theorem State.link_toState {n : Nat} (hn : n < 32) (f : Link → Link) (s : State) :
    (s.toState n f).link n = f (s.link n) := by
  have keep : (s.toState n f).links = (s.modLink n f).links := by
    unfold State.toState
    dsimp only
    split
    · exact State.linkSourcesLost_sameBut n _ .links (by simp)
    · rfl
  rw [State.link_congr keep, State.link_modLink_same hn]

/-- A lost link. -/
def Link.lost (l : Link) : Link :=
  { l.unlock with state := .backoff, attempts := 0, lastTry := false, loss := l.loss.inc }

theorem State.link_linkLoss {n : Nat} (hn : n < 32) (s : State) : (s.linkLoss n).link n = (s.link n).lost := by
  have told (type : Nat) (p : List Byte) (u : State) : (u.record type .data p).link n = u.link n :=
    State.link_congr (State.record_sameBut type .data p u .links (by simp)) n
  have triggered : (s.trigger (fun k => k == s.linkChannel n) 4 0x0B04).link n = s.link n :=
    State.link_congr (State.trigger_sameBut _ _ _ s .links (by simp)) n
  unfold State.linkLoss
  dsimp only
  rw [State.link_toState hn, told, State.link_modLink_same hn, triggered]
  rfl

theorem State.linkLoss_eclipsed (n m : Nat) (s : State) :
    (s.linkLoss n).eclipsed m = (s.trigger (fun k => k == s.linkChannel n) 4 0x0B04).eclipsed m := by
  have moved (f : Link → Link) (u : State) : (u.toState n f).eclipsed m = u.eclipsed m :=
    State.eclipsed_congr (State.toState_sameBut n f u .eclipse (by simp)) m
  have told (type : Nat) (p : List Byte) (u : State) : (u.record type .data p).eclipsed m = u.eclipsed m :=
    State.eclipsed_congr (State.record_sameBut type .data p u .eclipse (by simp)) m
  unfold State.linkLoss
  dsimp only
  rw [moved, told]
  rfl

theorem State.linkLoss_lost {n : Nat} (hn : n < 32) (s : State) : MoonlinkLost s n (s.linkLoss n) := by
  unfold MoonlinkLost
  rw [State.link_linkLoss hn]
  refine ⟨rfl, rfl, rfl, rfl, fun h hh hlt hd => ?_⟩
  rw [State.linkLoss_eclipsed]
  exact State.trigger_eclipsed 4 0x0B04 hlt hd (by simp [State.linkChannel, hh])

section
variable {n : Nat} {s : State}

theorem State.judgeLink_of_held
    (h : (s.link n).state ≠ .active ∨ (s.link n).badRun < 8 ∧ (s.link n).dnErrRun < 8) : s.judgeLink n = s := by
  refine if_neg fun ⟨hactive, hrun⟩ => ?_
  obtain ⟨hbad, herr⟩ := h.resolve_left (not_not.2 hactive)
  omega

theorem State.judgeLink_of_due (hactive : (s.link n).state = .active)
    (h : 8 ≤ (s.link n).badRun ∨ 8 ≤ (s.link n).dnErrRun) : s.judgeLink n = s.linkLoss n :=
  if_pos ⟨hactive, h⟩

/-- Lost or not, the counts of bad frames stay. -/
theorem State.judgeLink_counts (hn : n < 32) : ((s.judgeLink n).link n).upCrc = (s.link n).upCrc ∧
    ((s.judgeLink n).link n).upMiss = (s.link n).upMiss := by
  unfold State.judgeLink
  dsimp only
  split
  · rw [State.link_linkLoss hn]
    exact ⟨rfl, rfl⟩
  · exact ⟨rfl, rfl⟩

end

/-! ## Bad frames (R299) -/

/-- A link after `k` bad frames: damaged ones or missing ones. -/
def Link.spoilt (damaged : Bool) (k : Nat) (l : Link) : Link :=
  { l with
    upCrc := if damaged then l.upCrc.inc else l.upCrc
    upMiss := if damaged then l.upMiss else l.upMiss.add k
    badRun := l.badRun + k, dnErrRun := 0 }

section
variable {n k : Nat} {damaged : Bool} {s : State}

theorem State.badFrame_sameBut (n : Nat) (damaged : Bool) (k : Nat) (s : State) :
    SameBut [.links, .melt] s (s.badFrame n damaged k) :=
  (s.modLink_sameBut n _).comp (State.modMelt_sameBut _ _ _)

theorem State.link_badFrame (hn : n < 32) : (s.badFrame n damaged k).link n = (s.link n).spoilt damaged k :=
  State.link_modLink_same hn _ s

theorem State.badFrame_eph : (s.badFrame n damaged k).eph = s.eph := State.badFrame_sameBut n damaged k s .eph (by simp)

/-- A run below eight, or a link that is not ACTIVE, is not lost. -/
theorem State.judgeLink_badFrame_of_held (hn : n < 32)
    (h : (s.link n).badRun + k < 8 ∨ (s.link n).state ≠ .active) :
    (s.badFrame n damaged k).judgeLink n = s.badFrame n damaged k := by
  refine State.judgeLink_of_held ?_
  rw [State.link_badFrame hn]
  exact h.symm.imp id fun hrun => ⟨hrun, Nat.zero_lt_succ 7⟩

/-- A run of eight or more loses an ACTIVE link. -/
theorem State.judgeLink_badFrame_of_due (hn : n < 32) (hrun : 8 ≤ (s.link n).badRun + k)
    (hactive : (s.link n).state = .active) :
    (s.badFrame n damaged k).judgeLink n = (s.badFrame n damaged k).linkLoss n := by
  refine State.judgeLink_of_due ?_ (.inl ?_) <;> rw [State.link_badFrame hn]
  · exact hactive
  · exact hrun

theorem State.linkLoss_badFrame_lost (hn : n < 32) : MoonlinkLost s n ((s.badFrame n damaged k).linkLoss n) :=
  (State.linkLoss_lost hn _).of_before (congrArg EphState.eph State.badFrame_eph) (by rw [State.link_badFrame hn]; rfl)

/-- One bad frame is judged: it counts, and with the eighth in a row an ACTIVE link is lost. -/
theorem State.judgeLink_badFrame_one (hn : n < 32) {t : State} (ht : t = (s.badFrame n damaged 1).judgeLink n) :
    (t.link n).upCrc = (if damaged then (s.link n).upCrc.inc else (s.link n).upCrc) ∧
    (t.link n).upMiss = (if damaged then (s.link n).upMiss else (s.link n).upMiss.add 1) ∧
    ((s.link n).badRun < 7 ∨ (s.link n).state ≠ .active →
      (t.link n).badRun = (s.link n).badRun + 1 ∧ SameBut [.links, .melt] s t) ∧
    (7 ≤ (s.link n).badRun → (s.link n).state = .active → MoonlinkLost s n t) := by
  subst ht
  obtain ⟨hcrc, hmiss⟩ := State.judgeLink_counts (s := s.badFrame n damaged 1) hn
  rw [hcrc, hmiss, State.link_badFrame hn]
  refine ⟨rfl, rfl, fun hheld => ?_, fun hrun hactive => ?_⟩
  · rw [State.judgeLink_badFrame_of_held hn (hheld.imp_left Nat.succ_lt_succ), State.link_badFrame hn]
    exact ⟨rfl, State.badFrame_sameBut n damaged 1 s⟩
  · rw [State.judgeLink_badFrame_of_due hn (Nat.succ_le_succ hrun) hactive]
    exact State.linkLoss_badFrame_lost hn

end

/-! ## Good frames (R288) -/

/-- A link that has taken the fields of a good frame, but for its side channel. -/
def Link.taken (f : UplinkFrame) (l : Link) : Link :=
  let stat := uAt f.bytes 7 1
  { l with
    lastSeq := some (BitVec.ofNat 16 (uAt f.bytes 1 2)), badRun := 0
    headReady := stat.testBit 0, powerZeroed := stat.testBit 2
    dnErr := if stat.testBit 1 then l.dnErr.inc else l.dnErr
    dnErrRun := if stat.testBit 1 then l.dnErrRun + 1 else 0
    pd1a := uAt f.bytes 3 2, pd1b := uAt f.bytes 5 2, pd2a := uAt f.bytes 8 2, pd2b := uAt f.bytes 10 2
    temp := sAt f.bytes 12 2
    actX := sAt f.bytes 16 3, actY := sAt f.bytes 19 3
    actZ := signedOf 24 (uAt f.bytes 22 2 + 65536 * uAt f.bytes 24 1) }

/-- Hearing the side channel changes nothing but the message under way and the last one. -/
theorem Link.hear_eq (seq : Nat) (b : List Byte) (l : Link) :
    ∃ rx last, l.hear seq b = { l with sideRx := rx, sideIn := last } := by
  unfold Link.hear
  dsimp only
  split_ifs <;> exact ⟨_, _, rfl⟩

/-- Between `s` and `t` the heads stay, and link `n` but for its count of bulk errors. -/
def OnlyBulkErr (n : Nat) (s t : State) : Prop :=
  t.eph.eph = s.eph.eph ∧ ∃ c, t.link n = { s.link n with bulkErr := c }

section
variable {n : Nat} {s t u : State}

theorem OnlyBulkErr.of_eq (heph : t.eph.eph = s.eph.eph) (hlinks : t.links = s.links) : OnlyBulkErr n s t :=
  ⟨heph, (s.link n).bulkErr, State.link_congr hlinks n⟩

theorem OnlyBulkErr.trans (h : OnlyBulkErr n s t) (k : OnlyBulkErr n t u) : OnlyBulkErr n s u := by
  obtain ⟨heph, c, hlink⟩ := h
  obtain ⟨keph, d, klink⟩ := k
  exact ⟨keph.trans heph, d, by rw [klink, hlink]⟩

end

theorem State.roiDamaged_onlyBulkErr {n : Nat} (hn : n < 32) (k : Nat) (s : State) :
    OnlyBulkErr n s (s.roiDamaged k) := by
  refine ⟨rfl, ?_⟩
  by_cases h : n = s.linkOf k
  · subst h
    exact ⟨_, State.link_modLink_same hn _ s⟩
  · exact ⟨(s.link n).bulkErr, State.link_modLink_other h _ s⟩

theorem State.bulkBlocks_onlyBulkErr {n : Nat} (hn : n < 32) (k : Nat) (bs : List BulkBlock) (s : State) :
    OnlyBulkErr n s (s.bulkBlocks k bs) := by
  refine List.foldlRecOn (motive := OnlyBulkErr n s) bs _ (.of_eq rfl rfl) fun t ht b _ => ht.trans ?_
  have melt (c : MeltCh) : OnlyBulkErr n t (t.modMelt k fun _ => c) := .of_eq rfl rfl
  dsimp only
  split
  · exact (melt _).trans (State.roiDamaged_onlyBulkErr hn k _)
  · exact melt _

/-- A good frame gives its fields; what else it does for an ACTIVE link counts bulk errors at most. -/
theorem State.goodFrame_onlyBulkErr {n : Nat} (hn : n < 32) (f : UplinkFrame) (s : State) : OnlyBulkErr n
    (s.modLink n fun _ => ((s.link n).taken f).hear (BitVec.ofNat 16 (uAt f.bytes 1 2)).toNat (slice f.bytes 14 2))
    (s.goodFrame n f) := by
  unfold State.goodFrame
  dsimp only
  split
  · exact .of_eq rfl rfl
  · refine OnlyBulkErr.trans (.of_eq ?_ ?_) (State.bulkBlocks_onlyBulkErr hn _ f.bulk _) <;> rfl

theorem State.goodFrame_eph {n : Nat} (hn : n < 32) (f : UplinkFrame) (s : State) :
    (s.goodFrame n f).eph.eph = s.eph.eph :=
  (State.goodFrame_onlyBulkErr hn f s).1

theorem State.link_goodFrame {n : Nat} (hn : n < 32) (f : UplinkFrame) (s : State) : ∃ rx last c,
    (s.goodFrame n f).link n = { (s.link n).taken f with sideRx := rx, sideIn := last, bulkErr := c } := by
  obtain ⟨_, c, hlink⟩ := State.goodFrame_onlyBulkErr hn f s
  obtain ⟨rx, last, hhear⟩ :=
    ((s.link n).taken f).hear_eq (BitVec.ofNat 16 (uAt f.bytes 1 2)).toNat (slice f.bytes 14 2)
  rw [State.link_modLink_same hn, hhear] at hlink
  exact ⟨rx, last, c, hlink⟩

/-- A good frame that does not show the eighth DN_ERR in a row leaves the link up. -/
theorem State.judgeLink_goodFrame_of_held {n : Nat} (hn : n < 32) {f : UplinkFrame} {s : State}
    (h : (uAt f.bytes 7 1).testBit 1 = false ∨ (s.link n).dnErrRun < 7 ∨ (s.link n).state ≠ .active) :
    (s.goodFrame n f).judgeLink n = s.goodFrame n f := by
  obtain ⟨rx, last, c, hlink⟩ := State.link_goodFrame hn f s
  refine State.judgeLink_of_held ?_
  rw [hlink]
  rcases h with h | h | h
  · exact .inr ⟨Nat.zero_lt_succ 7, by simp [Link.taken, h]⟩
  · refine .inr ⟨Nat.zero_lt_succ 7, ?_⟩
    simp only [Link.taken]
    split <;> omega
  · exact .inl h

/-- The eighth good frame in a row that shows DN_ERR loses an ACTIVE link. -/
theorem State.judgeLink_goodFrame_of_due {n : Nat} (hn : n < 32) {f : UplinkFrame} {s : State}
    (herr : (uAt f.bytes 7 1).testBit 1 = true) (hrun : 7 ≤ (s.link n).dnErrRun)
    (hactive : (s.link n).state = .active) : MoonlinkLost s n ((s.goodFrame n f).judgeLink n) := by
  obtain ⟨rx, last, c, hlink⟩ := State.link_goodFrame hn f s
  have hdue : 8 ≤ ((s.goodFrame n f).link n).dnErrRun := by
    rw [hlink]
    simp only [Link.taken, herr, if_true]
    omega
  rw [State.judgeLink_of_due (by rw [hlink]; exact hactive) (.inr hdue)]
  exact (State.linkLoss_lost hn _).of_before (State.goodFrame_eph hn f s) (by rw [hlink]; rfl)

/-! ## UPLINK_FRAME under frame lock (R299) -/

/-- How far the SEQ of a frame lies ahead of the one expected; 0 before the first frame. -/
def Link.ahead (f : UplinkFrame) (l : Link) : Int :=
  l.lastSeq.elim 0 fun p => seqDiff 16 (uAt f.bytes 1 2) (p.toNat + 1)

theorem seqDiff_next (q : W16) : seqDiff 16 q.toNat ((q - 1).toNat + 1) = 0 := by
  have hq := q.isLt
  have hnext : ((q - 1).toNat + 1) % 2 ^ 16 = q.toNat := by
    rw [BitVec.toNat_sub, show (1 : W16).toNat = 1 from rfl]
    omega
  rw [seqDiff, hnext, Nat.add_sub_cancel_left]
  decide

/-- SEQ of a frame fits its field. -/
theorem toNat_seq (f : UplinkFrame) : (BitVec.ofNat 16 (uAt f.bytes 1 2)).toNat = uAt f.bytes 1 2 :=
  (BitVec.toNat_ofNat ..).trans (Nat.mod_eq_of_lt (uAt_lt f.bytes 1 2))

theorem Link.ahead_of_last {f : UplinkFrame} {l : Link} {p : W16} (h : l.lastSeq = some p) :
    l.ahead f = seqDiff 16 (BitVec.ofNat 16 (uAt f.bytes 1 2)).toNat (p.toNat + 1) := by
  rw [Link.ahead, h, toNat_seq]
  rfl

theorem Link.ahead_of_expected {f : UplinkFrame} {l : Link}
    (h : l.lastSeq = none ∨ l.lastSeq = some (BitVec.ofNat 16 (uAt f.bytes 1 2) - 1)) : l.ahead f = 0 := by
  rcases h with h | h
  · rw [Link.ahead, h]
    rfl
  · rw [Link.ahead_of_last h, seqDiff_next]

/-- A sound frame is taken after `gone` frames that count as missing, unless they lose the link. -/
def State.takeAfter (n : Nat) (f : UplinkFrame) (gone : Nat) (s : State) : State :=
  let t := if gone = 0 then s else (s.badFrame n false gone).judgeLink n
  if (t.link n).frameLock then (t.goodFrame n f).judgeLink n else t

section
variable {n : Nat} {f : UplinkFrame} {s : State}

section
variable (hlock : (s.link n).frameLock = true) (htest : (s.link n).state ≠ .test)
include hlock htest

theorem exec_uplinkFrame_of_bad (h : frameSound f = false ∨ (s.link n).ahead f < 0) :
    exec (.uplinkFrame n f) s = .next ((s.badFrame n true 1).judgeLink n) := by
  refine (if_neg htest).trans ((if_neg (by simp [hlock])).trans ?_)
  cases hsound : frameSound f with
  | false => exact if_pos rfl
  | true =>
    have hback : (s.link n).ahead f < 0 := h.resolve_left (by simp [hsound])
    refine (if_neg (by simp)).trans ?_
    unfold Link.ahead at hback
    cases hlast : (s.link n).lastSeq with
    | none =>
      rw [hlast] at hback
      exact absurd hback (lt_irrefl 0)
    | some p =>
      rw [hlast] at hback
      exact if_pos hback

theorem exec_uplinkFrame_of_sound {k : Nat} (hsound : frameSound f = true) (h : (s.link n).ahead f = k) :
    exec (.uplinkFrame n f) s = .next (s.takeAfter n f (k - (s.link n).badRun)) := by
  refine (if_neg htest).trans ((if_neg (by simp [hlock])).trans ((if_neg (by simp [hsound])).trans ?_))
  have hahead : ¬ ((s.link n).ahead f < 0) := by omega
  have hk : k = ((s.link n).ahead f).toNat := by omega
  subst hk
  unfold Link.ahead at hahead ⊢
  cases hlast : (s.link n).lastSeq with
  | none => rfl
  | some p =>
    rw [hlast] at hahead
    exact if_neg hahead

end

theorem State.takeAfter_zero (hlock : (s.link n).frameLock = true) :
    s.takeAfter n f 0 = (s.goodFrame n f).judgeLink n :=
  if_pos hlock

/-- The missing frames do not lose the link: the frame is taken after them. -/
theorem State.takeAfter_of_held {gone : Nat} (hn : n < 32) (hlock : (s.link n).frameLock = true) (hgone : gone ≠ 0)
    (h : (s.link n).badRun + gone < 8 ∨ (s.link n).state ≠ .active) :
    s.takeAfter n f gone = ((s.badFrame n false gone).goodFrame n f).judgeLink n := by
  unfold State.takeAfter
  rw [if_neg hgone, State.judgeLink_badFrame_of_held hn h]
  exact if_pos (by rw [State.link_badFrame hn]; exact hlock)

/-- The missing frames lose the link: the frame is not taken. -/
theorem State.takeAfter_of_due {gone : Nat} (hn : n < 32) (hgone : gone ≠ 0) (hrun : 8 ≤ (s.link n).badRun + gone)
    (hactive : (s.link n).state = .active) : s.takeAfter n f gone = (s.badFrame n false gone).linkLoss n := by
  unfold State.takeAfter
  rw [if_neg hgone, State.judgeLink_badFrame_of_due hn hrun hactive]
  refine if_neg ?_
  rw [State.link_linkLoss hn]
  simp [Link.lost, Link.unlock]

/-- A good frame, lost by it or not, leaves the counts of bad frames. -/
theorem State.judgeLink_goodFrame_counts (hn : n < 32) :
    (((s.goodFrame n f).judgeLink n).link n).upCrc = (s.link n).upCrc ∧
      (((s.goodFrame n f).judgeLink n).link n).upMiss = (s.link n).upMiss := by
  obtain ⟨hcrc, hmiss⟩ := State.judgeLink_counts (s := s.goodFrame n f) hn
  obtain ⟨rx, last, c, hlink⟩ := State.link_goodFrame hn f s
  rw [hcrc, hmiss, hlink]
  exact ⟨rfl, rfl⟩

/-- The frames that count as missing, and no others, count in UP_MISS. -/
theorem State.takeAfter_counts (hn : n < 32) (hlock : (s.link n).frameLock = true) (gone : Nat) :
    ((s.takeAfter n f gone).link n).upCrc = (s.link n).upCrc ∧
      ((s.takeAfter n f gone).link n).upMiss =
        if gone = 0 then (s.link n).upMiss else (s.link n).upMiss.add gone := by
  by_cases hgone : gone = 0
  · subst hgone
    rw [State.takeAfter_zero hlock]
    exact State.judgeLink_goodFrame_counts hn
  rw [if_neg hgone]
  by_cases hdue : 8 ≤ (s.link n).badRun + gone ∧ (s.link n).state = .active
  · obtain ⟨hrun, hactive⟩ := hdue
    rw [State.takeAfter_of_due hn hgone hrun hactive, State.link_linkLoss hn, State.link_badFrame hn]
    exact ⟨rfl, rfl⟩
  · have hheld : (s.link n).badRun + gone < 8 ∨ (s.link n).state ≠ .active := by
      rw [← not_le, ← not_and_or]
      exact hdue
    obtain ⟨hcrc, hmiss⟩ := State.judgeLink_goodFrame_counts (s := s.badFrame n false gone) (f := f) hn
    rw [State.takeAfter_of_held hn hlock hgone hheld, hcrc, hmiss, State.link_badFrame hn]
    exact ⟨rfl, rfl⟩

/-- A link that is not ACTIVE is not lost: it takes the frame, however many were missing. -/
theorem State.takeAfter_of_inactive (hn : n < 32) (hlock : (s.link n).frameLock = true)
    (h : (s.link n).state ≠ .active) (gone : Nat) :
    ((s.takeAfter n f gone).link n).lastSeq = some (BitVec.ofNat 16 (uAt f.bytes 1 2)) ∧
      ((s.takeAfter n f gone).link n).badRun = 0 := by
  have taken (t : State) (ht : (t.link n).state ≠ .active) :
      (((t.goodFrame n f).judgeLink n).link n).lastSeq = some (BitVec.ofNat 16 (uAt f.bytes 1 2)) ∧
        (((t.goodFrame n f).judgeLink n).link n).badRun = 0 := by
    obtain ⟨rx, last, c, hlink⟩ := State.link_goodFrame hn f t
    rw [State.judgeLink_goodFrame_of_held hn (.inr (.inr ht)), hlink]
    exact ⟨rfl, rfl⟩
  by_cases hgone : gone = 0
  · subst hgone
    rw [State.takeAfter_zero hlock]
    exact taken s h
  · rw [State.takeAfter_of_held hn hlock hgone (.inr h)]
    exact taken _ (by rw [State.link_badFrame hn]; exact h)

/-! ## Frames without frame lock, and in TEST (R291, R303) -/

theorem exec_uplinkFrame_of_unlocked (hlock : (s.link n).frameLock = false) (htest : (s.link n).state ≠ .test) :
    exec (.uplinkFrame n f) s = .next (s.modLink n (Link.seekFrames f)) :=
  (if_neg htest).trans (if_pos (by simp [hlock]))

theorem Link.seekFrames_state (f : UplinkFrame) (l : Link) : (l.seekFrames f).state = l.state := by
  unfold Link.seekFrames
  dsimp only
  split_ifs <;> rfl

/-- The search gains frame lock exactly with the fourth start block in a row whose SEQ rises by 1. -/
theorem Link.seekFrames_frameLock {l : Link} (h : l.frameLock = false) : (l.seekFrames f).frameLock = true ↔
    l.state.framed = true ∧ l.blockLock = true ∧ f.syncOk = true ∧ uAt f.bytes 0 1 = 0x4B ∧ 3 ≤ l.lockRun ∧
      BitVec.ofNat 16 (uAt f.bytes 1 2) = l.lockSeq + 1 := by
  unfold Link.seekFrames
  dsimp only
  by_cases hdeaf : l.state.framed = false ∨ l.blockLock = false
  · rw [if_pos hdeaf]
    refine iff_of_false (by simp [h]) fun ⟨hframed, hblock, _⟩ => ?_
    simp [hframed, hblock] at hdeaf
  rw [if_neg hdeaf]
  obtain ⟨hframed, hblock⟩ : l.state.framed = true ∧ l.blockLock = true := by simpa using hdeaf
  by_cases hstart : f.syncOk = true ∧ uAt f.bytes 0 1 = 0x4B
  · obtain ⟨hsync, hbyte⟩ := hstart
    rw [if_neg (by simp [hsync, hbyte])]
    by_cases hrise : l.lockRun ≠ 0 ∧ BitVec.ofNat 16 (uAt f.bytes 1 2) = l.lockSeq + 1
    · rw [if_pos hrise]
      by_cases hfew : l.lockRun + 1 < 4
      · rw [if_pos hfew]
        exact iff_of_false (by simp [h]) fun ⟨_, _, _, _, hrun, _⟩ => by omega
      · rw [if_neg hfew]
        exact iff_of_true rfl ⟨hframed, hblock, hsync, hbyte, by omega, hrise.2⟩
    · rw [if_neg hrise]
      exact iff_of_false (by simp [h]) fun ⟨_, _, _, _, hrun, hseq⟩ => hrise ⟨by omega, hseq⟩
  · rw [if_pos (by simpa [imp_iff_not_or] using hstart)]
    exact iff_of_false (by simp [h]) fun ⟨_, _, hsync, hbyte, _⟩ => hstart ⟨hsync, hbyte⟩

theorem exec_uplinkFrame_of_test (htest : (s.link n).state = .test) : exec (.uplinkFrame n f) s =
    .next (if (s.link n).test = 3 then s.modLink n fun l =>
      (unpackBits (f.bytes.drop 8 ++ f.bulk.flatMap (·.bytes))).foldl Link.checkBit l else s) :=
  if_pos htest

end

/-! ## Missing frames and a lost block lock (R291, R299, R300) -/

section
variable {n : Nat} {s : State}

theorem exec_uplinkFrameMissing_of_locked (hlock : (s.link n).frameLock = true) (htest : (s.link n).state ≠ .test) :
    exec (.uplinkFrameMissing n) s = .next ((s.badFrame n false 1).judgeLink n) :=
  congrArg Host.Outcome.next ((if_neg htest).trans (if_pos hlock))

theorem exec_uplinkFrameMissing_of_test (htest : (s.link n).state = .test) :
    exec (.uplinkFrameMissing n) s = .next (s.modLink n fun l => { l with chkLen := 0 }) :=
  congrArg Host.Outcome.next (if_pos htest)

theorem exec_uplinkFrameMissing_of_unlocked (hlock : (s.link n).frameLock = false) (htest : (s.link n).state ≠ .test) :
    exec (.uplinkFrameMissing n) s = .next (s.modLink n fun l => { l with lockRun := 0 }) :=
  congrArg Host.Outcome.next ((if_neg htest).trans (if_neg (by simp [hlock])))

/-- A link without block lock. -/
def Link.blockLost (l : Link) : Link := { l with blockLock := false, frameLock := false, lockRun := 0 }

theorem exec_blockLockLoss_of_active (hn : n < 32) (h : (s.link n).state = .active) :
    exec (.blockLockLoss n) s = .next ((s.modLink n Link.blockLost).linkLoss n) :=
  congrArg Host.Outcome.next (if_pos (by rw [State.link_modLink_same hn]; exact h))

theorem exec_blockLockLoss_of_inactive (hn : n < 32) (h : (s.link n).state ≠ .active) :
    exec (.blockLockLoss n) s = .next (s.modLink n Link.blockLost) :=
  congrArg Host.Outcome.next (if_neg (by rw [State.link_modLink_same hn]; exact h))

/-! ## The far-end loopback (R303) -/

variable {msg : List Byte}

theorem exec_loopAck_of_unheard (h : (s.link n).sideIn ≠ some msg ∨ sideOk 4 msg = false) :
    exec (.loopAck n msg) s = .next s :=
  congrArg Host.Outcome.next (if_pos h)

theorem exec_loopAck_of_accept (hheard : (s.link n).sideIn = some msg) (hok : sideOk 4 msg = true)
    (hwait : (s.link n).loopWait = true) (haccept : uAt msg 1 1 = 1) : exec (.loopAck n msg) s = .next
      (s.toState n fun l => { l with state := .test, test := 3, loopWait := false, sideIn := none, chkLen := 0 }) :=
  congrArg Host.Outcome.next ((if_neg (by simp [hheard, hok])).trans (if_pos ⟨hwait, haccept⟩))

theorem exec_loopAck_of_refused (hheard : (s.link n).sideIn = some msg) (hok : sideOk 4 msg = true)
    (h : (s.link n).loopWait = false ∨ uAt msg 1 1 ≠ 1) :
    exec (.loopAck n msg) s = .next (s.modLink n fun l => { l with sideIn := none }) :=
  congrArg Host.Outcome.next ((if_neg (by simp [hheard, hok])).trans
    (if_neg (by rcases h with h | h <;> simp [h])))

end

/-! ## The obligation -/

/-- Settles O37, from the equation of each event, `State.judgeLink_badFrame_one`, `State.link_goodFrame` and what
missing frames make of the next one (`State.takeAfter_counts`, `State.takeAfter_of_due`). -/
theorem uplinkFramesAndLinkLoss : Obligations.UplinkFramesAndLinkLoss := by
  intro s n hn
  refine ⟨?locked, fun f hlock htest => ?search, fun f htest => ?test, fun hlock htest => ?missing, fun h => ?unlocked,
    fun h => ?lost, fun h => ?blockLost, fun msg hheard hok hwait haccept => ?accept, fun msg hheard hok h => ?refused,
    fun msg => exec_loopAck_of_unheard, ?timeout⟩
  case locked =>
    rintro f q rfl hlock htest
    refine ⟨fun hsound hseq => ?expected, fun hbad => ?bad, fun p k hsound hlast hahead => ?skipped⟩
    case expected =>
      have hexec := exec_uplinkFrame_of_sound (k := 0) hlock htest hsound (Link.ahead_of_expected hseq)
      rw [Nat.zero_sub, State.takeAfter_zero hlock] at hexec
      refine ⟨_, hexec, fun hheld => ?_, fun herr hrun => State.judgeLink_goodFrame_of_due hn herr hrun⟩
      obtain ⟨rx, last, c, hlink⟩ := State.link_goodFrame hn f s
      rw [State.judgeLink_goodFrame_of_held hn hheld, hlink]
      exact ⟨rfl, rfl, rfl, rfl, rfl, rfl, rfl, rfl, rfl⟩
    case bad =>
      have hback : frameSound f = false ∨ (s.link n).ahead f < 0 :=
        hbad.imp_right fun ⟨p, hlast, hp⟩ => (Link.ahead_of_last hlast).symm ▸ hp
      exact ⟨_, exec_uplinkFrame_of_bad hlock htest hback, State.judgeLink_badFrame_one hn rfl⟩
    case skipped =>
      have hk : (s.link n).ahead f = (k + 1 : Nat) := (Link.ahead_of_last hlast).trans hahead
      obtain ⟨hcrc, hmiss⟩ := State.takeAfter_counts (f := f) hn hlock (k + 1 - (s.link n).badRun)
      refine ⟨_, exec_uplinkFrame_of_sound hlock htest hsound hk, hcrc, ?_,
        fun h => State.takeAfter_of_inactive hn hlock h _, fun hactive hrun hmany => ?_⟩
      · rw [hmiss]
        exact if_congr Nat.sub_eq_zero_iff_le rfl rfl
      · rw [State.takeAfter_of_due hn (by omega) (by omega) hactive]
        exact State.linkLoss_badFrame_lost hn
  case search =>
    obtain ⟨_, hsame, hlink⟩ := s.modLink_becomes hn (Link.seekFrames f)
    refine ⟨_, exec_uplinkFrame_of_unlocked hlock htest, hsame, ?_⟩
    rw [hlink]
    refine ⟨Link.seekFrames_state f _, fun hframed hblock hsync hbyte hrun hseq => ?_, fun hno => ?_⟩
    · exact (Link.seekFrames_frameLock hlock).2 ⟨hframed, hblock, hsync, hbyte, hrun.ge, hseq⟩
    · refine Bool.eq_false_iff.2 fun hgained => ?_
      obtain ⟨hframed, hblock, hsync, hbyte, hrun, hseq⟩ := (Link.seekFrames_frameLock hlock).1 hgained
      simp only [hframed, hblock, hsync, hbyte, hseq, ne_eq, not_true_eq_false, or_false, false_or,
        Bool.true_eq_false] at hno
      omega
  case test =>
    refine ⟨_, exec_uplinkFrame_of_test htest, SameBut.ite (s.modLink_sameBut n _) (SameBut.refl _ s), ?_⟩
    split
    · exact State.link_modLink_same hn _ s
    · rfl
  case missing => exact ⟨_, exec_uplinkFrameMissing_of_locked hlock htest, (State.judgeLink_badFrame_one hn rfl).2⟩
  case unlocked =>
    by_cases htest : (s.link n).state = .test
    · rw [exec_uplinkFrameMissing_of_test htest, if_pos htest]
      exact ⟨_, rfl, (s.modLink_becomes hn _).2⟩
    · rw [exec_uplinkFrameMissing_of_unlocked (h.resolve_right htest) htest, if_neg htest]
      exact ⟨_, rfl, (s.modLink_becomes hn _).2⟩
  case lost =>
    exact ⟨_, exec_blockLockLoss_of_active hn h, (State.linkLoss_lost hn _).of_before rfl
      (by rw [State.link_modLink_same hn]; rfl)⟩
  case blockLost => exact ⟨_, exec_blockLockLoss_of_inactive hn h, (s.modLink_becomes hn _).2⟩
  case accept =>
    refine ⟨_, exec_loopAck_of_accept hheard hok hwait haccept, State.toState_sameBut n _ s, ?_⟩
    rw [State.link_toState hn]
    exact ⟨rfl, rfl, rfl⟩
  case refused => exact ⟨_, exec_loopAck_of_refused hheard hok h, (s.modLink_becomes hn _).2⟩
  case timeout => exact ⟨_, rfl, State.link_modLink_same hn _ s, s.modLink_sameBut n _⟩

end Sys2Proof.Machine
end

section
/-!
Motion axes: one axis changed, and the commanded position of a servo tick (R309, R310).
-/

namespace Sys2Proof.Machine

/-! ## One axis changed -/

theorem State.axis_modAxis_same {a : Nat} (ha : a < 8) (f : Axis → Axis) (s : State) :
    (s.modAxis a f).axis a = f (s.axis a) :=
  nth_upd_same ({} : Axis) s.axes f ha

theorem State.axis_modAxis_other {a b : Nat} (h : b ≠ a) (f : Axis → Axis) (s : State) :
    (s.modAxis a f).axis b = s.axis b :=
  nth_upd_other ({} : Axis) s.axes f h

theorem State.axis_congr {s t : State} (h : t.axes = s.axes) (a : Nat) : t.axis a = s.axis a := by
  simp only [State.axis, h]

theorem State.modAxis_sameBut (a : Nat) (f : Axis → Axis) (s : State) : SameBut [.axes] s (s.modAxis a f) :=
  sameBut_axes s _

/-- A change of axis `a` changes no other axis and no other part. -/
theorem State.modAxis_becomes {a : Nat} (ha : a < 8) (f : Axis → Axis) (s : State) :
    (s.modAxis a f).axis a = f (s.axis a) ∧ (∀ b, b ≠ a → (s.modAxis a f).axis b = s.axis b) ∧
      SameBut [.axes] s (s.modAxis a f) :=
  ⟨State.axis_modAxis_same ha f s, fun _ hb => State.axis_modAxis_other hb f s, s.modAxis_sameBut a f⟩

/-- A change of an axis is told by what it makes of the axis as it is. -/
theorem State.modAxis_congr {a : Nat} {f g : Axis → Axis} {s : State} (h : f (s.axis a) = g (s.axis a)) :
    s.modAxis a f = s.modAxis a g := by
  unfold State.modAxis upd
  split
  next x hx =>
    have hax : s.axis a = x := by rw [State.axis, nth, hx, Option.getD_some]
    rw [← hax, h]
  next => rfl

/-! ## The soft limits -/

/-- A position held between the soft limits. -/
def EphAxis.soft (e : EphAxis) (q : Rat) : Rat :=
  if q < e.softMin then e.softMin else if (e.softMax : Rat) < q then e.softMax else q

theorem EphAxis.soft_bounds {e : EphAxis} (h : e.softMin ≤ e.softMax) (q : Rat) :
    (e.softMin : Rat) ≤ e.soft q ∧ e.soft q ≤ e.softMax := by
  have hlim : (e.softMin : Rat) ≤ e.softMax := Int.cast_le.2 h
  unfold EphAxis.soft
  split
  case isTrue => exact ⟨le_rfl, hlim⟩
  case isFalse hlo =>
    split
    case isTrue => exact ⟨hlim, le_rfl⟩
    case isFalse hhi => exact ⟨not_lt.1 hlo, not_lt.1 hhi⟩

/-! ## The commanded position -/

section
variable {e : EphAxis} {feed offset : Int} {k : Nat} {x : Axis}

/-- The position that profile, feed and OFFSET ask for at the end of the tick from `k`, before the clamp. -/
def Axis.asked (feed offset : Int) (k : Nat) (x : Axis) : Rat :=
  round32 ((x.planAt (k + tickLen)).p) + (x.pAdd + round32 ((feed : Rat) / 50000)) + (offset : Rat)

theorem Axis.drive_of_disabled (h : x.mode = .disabled) :
    x.drive e feed offset k = { x with p := x.pNext, pAt := k, vel := 0 } :=
  if_pos h

/-- The clamp acts on a homed axis whose asked position lies beyond a soft limit. -/
def Axis.clamps (e : EphAxis) (q : Rat) (x : Axis) : Bool := x.homed && e.soft q != q

theorem Axis.drive_of_enabled (h : x.mode ≠ .disabled) :
    let q := x.asked feed offset k
    let y := x.drive e feed offset k
    y.pNext = (if x.clamps e q then e.soft q else q) ∧ y.p = x.pNext ∧ y.homed = x.homed ∧
      y.softClamp = if x.clamps e q then x.softClamp.inc else x.softClamp := by
  intro q y
  have hy : y = _ := if_neg h
  rw [hy]
  exact ⟨rfl, rfl, rfl, rfl⟩

/-- A homed axis is commanded to the clamped position, and a tick in which the clamp moves it is counted. -/
theorem Axis.drive_of_homed (h : x.mode ≠ .disabled) (hhomed : x.homed = true) :
    let q := x.asked feed offset k
    let y := x.drive e feed offset k
    y.pNext = e.soft q ∧ y.softClamp = if e.soft q = q then x.softClamp else x.softClamp.inc := by
  intro q y
  obtain ⟨hnext, _, _, hcount⟩ := Axis.drive_of_enabled (e := e) (feed := feed) (offset := offset) (k := k) h
  by_cases hq : e.soft q = q
  · have hact : x.clamps e q = false := by simp [Axis.clamps, hq]
    exact ⟨hnext.trans (by rw [hact, if_neg Bool.false_ne_true, hq]),
      hcount.trans (by rw [hact, if_neg Bool.false_ne_true, if_pos hq])⟩
  · have hact : x.clamps e q = true := by simp [Axis.clamps, hq, hhomed]
    exact ⟨hnext.trans (if_pos hact), hcount.trans (by rw [if_pos hact, if_neg hq])⟩

end

/-! ## SERVO_TICK -/

theorem exec_servoTick_of_due {s : State} (hcore : s.power.core = true) (htick : s.tickAt tickLen = true) :
    exec .servoTick s =
      .next ((((s.axesTick s.ix).recoatTick s.ix).axesDrive s.ix).syzygyGo s.ix).endIfParked :=
  congrArg Host.Outcome.next (if_neg (by simp [hcore, htick]))

theorem exec_servoTick_of_idle {s : State} (h : s.power.core = false ∨ s.tickAt tickLen = false) :
    exec .servoTick s = .next s :=
  congrArg Host.Outcome.next (if_pos h)

/-! ## The obligation -/

/-- Settles O43: the commanded position of a homed axis is the clamped one (`Axis.drive_of_homed`), and a clamped
position lies within the soft limits. -/
theorem homedAxesStayWithinTheirSoftLimits : Obligations.HomedAxesStayWithinTheirSoftLimits := by
  refine ⟨fun h feed offset k x hsoft hhomed hmode => ?clamped, fun h feed offset k x hmode => ?disabled,
    fun s => exec_servoTick_of_due, fun s => exec_servoTick_of_idle⟩
  case clamped =>
    obtain ⟨_, hp, hhomed', _⟩ := Axis.drive_of_enabled (e := h) (feed := feed) (offset := offset) (k := k) hmode
    obtain ⟨hnext, hcount⟩ := Axis.drive_of_homed (e := h) (feed := feed) (offset := offset) (k := k) hmode hhomed
    obtain ⟨hlo, hhi⟩ := EphAxis.soft_bounds hsoft (x.asked feed offset k)
    refine ⟨hnext ▸ hlo, hnext ▸ hhi, hp, hhomed'.trans hhomed, ?_⟩
    rw [hcount]
    split
    · exact .inl rfl
    · exact .inr rfl
  case disabled =>
    rw [Axis.drive_of_disabled hmode]
    exact ⟨rfl, rfl⟩

end Sys2Proof.Machine
end

section
/-!
Inputs of an axis: limits and home switches (R314–R317), step inputs (R318) and encoders (R319, R320).
-/

namespace Sys2Proof.Machine

/-! ## One switch changed -/

section
variable (n : SwitchName) (w : Switch) (x : Axis)

@[simp] theorem Axis.switch_setSwitch_same : (x.setSwitch n w).switch n = w := by cases n <;> rfl
@[simp] theorem Axis.setSwitch_mode : (x.setSwitch n w).mode = x.mode := by cases n <;> rfl
@[simp] theorem Axis.setSwitch_plan : (x.setSwitch n w).plan = x.plan := by cases n <;> rfl
@[simp] theorem Axis.setSwitch_homed : (x.setSwitch n w).homed = x.homed := by cases n <;> rfl
@[simp] theorem Axis.setSwitch_endCause : (x.setSwitch n w).endCause = x.endCause := by cases n <;> rfl
@[simp] theorem Axis.setSwitch_limitStop : (x.setSwitch n w).limitStop = x.limitStop := by cases n <;> rfl
@[simp] theorem Axis.setSwitch_homeStage : (x.setSwitch n w).homeStage = x.homeStage := by cases n <;> rfl
@[simp] theorem Axis.setSwitch_latched : (x.setSwitch n w).latched = x.latched := by cases n <;> rfl
@[simp] theorem Axis.setSwitch_homeLatch : (x.setSwitch n w).homeLatch = x.homeLatch := by cases n <;> rfl
@[simp] theorem Axis.setSwitch_count : (x.setSwitch n w).count = x.count := by cases n <;> rfl

@[simp] theorem Axis.setSwitch_homeTarget (e : EphAxis) : (x.setSwitch n w).homeTarget e = x.homeTarget e := by
  cases n <;> rfl

@[simp] theorem Axis.setSwitch_towards (up : Bool) : (x.setSwitch n w).towards up = x.towards up := by
  cases n <;> rfl

/-- The steps emitted by an instant do not depend on the switches. -/
@[simp] theorem Axis.setSwitch_emit_pos (ns : Nat) : ((x.setSwitch n w).emit ns).pos = (x.emit ns).pos := by
  have hdue : (x.setSwitch n w).due = x.due := by cases n <;> rfl
  have hpos : (x.setSwitch n w).pos = x.pos := by cases n <;> rfl
  unfold Axis.emit
  rw [hdue]
  dsimp only
  split
  · exact hpos
  · rw [hpos]

end

/-! ## A window closes (R314, R316) -/

section
variable {e : EphAxis} {n : SwitchName} {t : Nat} {x : Axis}

/-- Outside HOMING a qualified level is noted and nothing else. -/
theorem Axis.qualify_of_free (h : x.mode ≠ .homing) : x.qualify e n t =
    x.setSwitch n { x.switch n with window := false, qualified := (x.switch n).raw } :=
  if_pos (.inl (by rwa [Axis.setSwitch_mode]))

theorem Axis.switch_qualify : (x.qualify e n t).switch n =
    { x.switch n with window := false, qualified := (x.switch n).raw } := by
  -- what follows the new level changes the latch, the plan and the stage only
  have keeps (y : Axis) (l : Option (Int × Int)) (p : List AxPhase) (g : HomeStage) :
      ({ y with latched := l, plan := p, homeStage := g } : Axis).switch n = y.switch n := by cases n <;> rfl
  unfold Axis.qualify
  dsimp only
  split
  · exact Axis.switch_setSwitch_same n _ x
  split
  · split
    · exact (keeps _ none _ _).trans (Axis.switch_setSwitch_same n _ x)
    · exact Axis.switch_setSwitch_same n _ x
  split
  · exact (keeps _ _ _ .awayRest).trans (Axis.switch_setSwitch_same n _ x)
  split
  · exact (keeps _ _ _ .rest).trans (Axis.switch_setSwitch_same n _ x)
  · exact Axis.switch_setSwitch_same n _ x

/-- A level that qualifies keeps the latch (R316). -/
theorem Axis.qualify_latch_of_changed (h : (x.switch n).raw ≠ (x.switch n).qualified) :
    (x.qualify e n t).latched = x.latched ∧ (x.qualify e n t).homeLatch = x.homeLatch := by
  have hchanged : (!((x.switch n).raw != (x.switch n).qualified)) = false := by simpa using h
  have kept (w : Switch) : (x.setSwitch n w).latched = x.latched ∧ (x.setSwitch n w).homeLatch = x.homeLatch :=
    ⟨Axis.setSwitch_latched n w x, Axis.setSwitch_homeLatch n w x⟩
  unfold Axis.qualify
  dsimp only
  rw [hchanged, if_neg Bool.false_ne_true]
  split
  · exact kept _
  split
  · exact kept _
  split
  · exact kept _
  · exact kept _

end

/-! ## Stops at A_STOP (R315) -/

theorem Axis.hardStop_stops (e : EphAxis) (t : Nat) (x : Axis) :
    (x.hardStop e t).mode = .stopping ∧ (x.hardStop e t).homed = x.homed := by
  unfold Axis.hardStop
  dsimp only
  split <;> exact ⟨rfl, rfl⟩

theorem Axis.looseHome_eq (e : EphAxis) (x : Axis) : x.looseHome e = { x with homed := x.homed && e.encoder } := by
  unfold Axis.looseHome
  cases e.encoder <;> simp

/-! ## A raw edge (R314–R317) -/

/-- A first active edge of switch `n`: it opens a window. -/
def Axis.firstEdge (e : EphAxis) (n : SwitchName) (level : Bool) (x : Axis) : Prop :=
  (x.switch n).raw = false ∧ (x.switch n).window = false ∧ e.active n level = true

/-- The axis with the window of switch `n` open and its raw level active. -/
def Axis.opened (n : SwitchName) (x : Axis) : Axis :=
  x.setSwitch n { x.switch n with raw := true, window := true }

/-- Without debouncing the window of an edge closes at once (R314). -/
def Axis.settled (e : EphAxis) (n : SwitchName) (k : Nat) (x : Axis) : Axis :=
  if e.debounce = 0 then x.qualify e n (nextTick k) else x

/-- The axis that a limit stops. -/
def Axis.limited (e : EphAxis) (t : Nat) (x : Axis) : Axis :=
  { ((x.hardStop e t).looseHome e) with endCause := 3, causeAtRest := 3, limitStop := x.limitStop.inc }

/-- The axis whose homing a limit aborts. -/
def Axis.homingAborted (e : EphAxis) (t : Nat) (x : Axis) : Axis :=
  { (x.hardStop e t) with endCause := 4, causeAtRest := 4, homed := false }

/-- The axis with the position and the count of the homing edge latched. -/
def Axis.latchedAt (ns : Nat) (x : Axis) : Axis :=
  { x with latched := some ((x.emit ns).pos, x.count), homeLatch := (x.emit ns).pos }

/-- What a first active edge of switch `n` leads to once its window is open. -/
def Axis.answer (e : EphAxis) (n : SwitchName) (k ns : Nat) (x : Axis) : Axis :=
  if x.mode = .homing ∧ n = x.homeTarget e then (if x.homeStage = .approach then x.latchedAt ns else x)
  else if n = .home then x
  else if x.mode = .homing then x.homingAborted e (k + 1)
  else if x.towards (n == .limPos) then x.limited e (k + 1)
  else x

section
variable {e : EphAxis} {n : SwitchName} {level up : Bool} {k ns : Nat} {x : Axis}

/-- An edge to the level a switch has does nothing; one within a window is chatter. -/
theorem Axis.edge_quiet : (e.active n level = (x.switch n).raw → (x.edge e n level k ns).1 = x) ∧
    (e.active n level ≠ (x.switch n).raw → (x.switch n).window = true →
      (x.edge e n level k ns).1.chatter = x.chatter.inc ∧ (x.edge e n level k ns).1.mode = x.mode ∧
        (x.edge e n level k ns).1.plan = x.plan) := by
  refine ⟨fun h => congrArg Prod.fst (if_pos h), fun h hw => ?_⟩
  have hedge : x.edge e n level k ns = _ := (if_neg h).trans (if_pos hw)
  rw [hedge]
  exact ⟨rfl, Axis.setSwitch_mode n _ x, Axis.setSwitch_plan n _ x⟩

theorem Axis.edge_of_first (h : x.firstEdge e n level) :
    (x.edge e n level k ns).1 = ((x.opened n).answer e n k ns).settled e n k := by
  obtain ⟨hraw, hwin, hact⟩ := h
  have hedge : x.edge e n level k ns = _ :=
    (if_neg (by rw [hact, hraw]; decide)).trans (if_neg (by rw [hwin]; decide))
  rw [hedge, hact]
  simp only [apply_ite Prod.fst, Bool.not_true, Bool.false_eq_true, if_false, Bool.and_eq_true, beq_iff_eq]
  rfl

theorem Axis.settled_of_free (h : x.mode ≠ .homing) : ∃ w, x.settled e n k = x.setSwitch n w := by
  unfold Axis.settled
  split
  · exact ⟨_, Axis.qualify_of_free h⟩
  · exact ⟨x.switch n, by cases n <;> rfl⟩

/-- A limit that p moves towards stops the axis, and one that it does not move towards leaves it (R315). -/
theorem Axis.answer_of_limit (hmode : x.mode ≠ .homing) : x.answer e (limitOf up) k ns =
    if x.towards up then x.limited e (k + 1) else x := by
  have hside : (limitOf up == .limPos) = up := by cases up <;> rfl
  have hhome : limitOf up ≠ .home := by cases up <;> decide
  unfold Axis.answer
  rw [if_neg fun h => hmode h.1, if_neg hhome, if_neg hmode, hside]

/-- In HOMING a limit that is not the target aborts (R317). -/
theorem Axis.answer_of_homing (hmode : x.mode = .homing) (h : x.homeTarget e ≠ limitOf up) :
    x.answer e (limitOf up) k ns = x.homingAborted e (k + 1) := by
  have hhome : limitOf up ≠ .home := by cases up <;> decide
  unfold Axis.answer
  rw [if_neg fun hn => h hn.2.symm, if_neg hhome, if_pos hmode]

/-- The target's edge in the approach is latched (R316). -/
theorem Axis.answer_of_target (hmode : x.mode = .homing) (hstage : x.homeStage = .approach) (h : n = x.homeTarget e) :
    x.answer e n k ns = x.latchedAt ns :=
  (if_pos ⟨hmode, h⟩).trans (if_pos hstage)

/-- The latch stands also when the edge qualifies at once. -/
theorem Axis.settled_latch (h : (x.switch n).raw ≠ (x.switch n).qualified) :
    (x.settled e n k).latched = x.latched ∧ (x.settled e n k).homeLatch = x.homeLatch := by
  unfold Axis.settled
  split
  · exact Axis.qualify_latch_of_changed h
  · exact ⟨rfl, rfl⟩

/-- A first active edge of a limit that p moves towards stops the axis (R315). -/
theorem Axis.edge_of_towards (h : x.firstEdge e (limitOf up) level) (hmode : x.mode ≠ .homing)
    (htow : x.towards up = true) :
    (x.edge e (limitOf up) level k ns).1.mode = .stopping ∧ (x.edge e (limitOf up) level k ns).1.endCause = 3 ∧
      (x.edge e (limitOf up) level k ns).1.limitStop = x.limitStop.inc ∧
      (x.edge e (limitOf up) level k ns).1.homed = (x.homed && e.encoder) := by
  have hopen : (x.opened (limitOf up)).answer e (limitOf up) k ns = (x.opened (limitOf up)).limited e (k + 1) := by
    rw [Axis.answer_of_limit (by simpa [Axis.opened] using hmode), if_pos (by simpa [Axis.opened] using htow)]
  obtain ⟨hstop, hhomed⟩ := Axis.hardStop_stops e (k + 1) (x.opened (limitOf up))
  have hmode' : ((x.opened (limitOf up)).limited e (k + 1)).mode = .stopping := by
    rw [Axis.limited, Axis.looseHome_eq]
    exact hstop
  obtain ⟨w, hset⟩ := Axis.settled_of_free (e := e) (n := limitOf up) (k := k)
    (x := (x.opened (limitOf up)).limited e (k + 1)) (by rw [hmode']; decide)
  rw [Axis.edge_of_first h, hopen, hset, Axis.setSwitch_mode, Axis.setSwitch_endCause, Axis.setSwitch_limitStop,
    Axis.setSwitch_homed]
  refine ⟨hmode', rfl, by simp [Axis.limited, Axis.opened], ?_⟩
  rw [Axis.limited, Axis.looseHome_eq]
  exact congrArg (· && e.encoder) (hhomed.trans (Axis.setSwitch_homed _ _ x))

theorem Axis.edge_of_not_towards (h : x.firstEdge e (limitOf up) level) (hmode : x.mode ≠ .homing)
    (htow : x.towards up = false) :
    (x.edge e (limitOf up) level k ns).1.mode = x.mode ∧ (x.edge e (limitOf up) level k ns).1.plan = x.plan := by
  have hmode' : (x.opened (limitOf up)).mode ≠ .homing := by simpa [Axis.opened] using hmode
  obtain ⟨w, hset⟩ := Axis.settled_of_free (e := e) (n := limitOf up) (k := k) hmode'
  rw [Axis.edge_of_first h, Axis.answer_of_limit hmode', if_neg (by simp [Axis.opened, htow]), hset]
  simp [Axis.opened]

theorem Axis.edge_of_abort (h : x.firstEdge e (limitOf up) level) (hmode : x.mode = .homing)
    (htarget : x.homeTarget e ≠ limitOf up) :
    (x.edge e (limitOf up) level k ns).1.mode = .stopping ∧ (x.edge e (limitOf up) level k ns).1.endCause = 4 ∧
      (x.edge e (limitOf up) level k ns).1.homed = false := by
  have hmode' : ((x.opened (limitOf up)).homingAborted e (k + 1)).mode = .stopping :=
    (Axis.hardStop_stops e (k + 1) (x.opened (limitOf up))).1
  obtain ⟨w, hset⟩ := Axis.settled_of_free (e := e) (n := limitOf up) (k := k)
    (x := (x.opened (limitOf up)).homingAborted e (k + 1)) (by rw [hmode']; decide)
  rw [Axis.edge_of_first h, Axis.answer_of_homing (by simpa [Axis.opened] using hmode)
    (by simpa [Axis.opened] using htarget), hset, Axis.setSwitch_mode, Axis.setSwitch_endCause, Axis.setSwitch_homed]
  exact ⟨hmode', rfl, rfl⟩

theorem Axis.edge_of_target (h : x.firstEdge e n level) (hqual : (x.switch n).qualified = false)
    (hmode : x.mode = .homing) (hstage : x.homeStage = .approach) (htarget : n = x.homeTarget e) :
    (x.edge e n level k ns).1.latched = some ((x.emit ns).pos, x.count) ∧
      (x.edge e n level k ns).1.homeLatch = (x.emit ns).pos := by
  have hswitch : ((x.opened n).latchedAt ns).switch n = { x.switch n with raw := true, window := true } :=
    (show _ = (x.opened n).switch n by cases n <;> rfl).trans (Axis.switch_setSwitch_same n _ x)
  obtain ⟨hlatch, hhome⟩ := Axis.settled_latch (e := e) (n := n) (k := k) (x := (x.opened n).latchedAt ns)
    (by simp [hswitch, hqual])
  rw [Axis.edge_of_first h, Axis.answer_of_target (by simpa [Axis.opened] using hmode)
    (by simpa [Axis.opened] using hstage) (by simpa [Axis.opened] using htarget), hlatch, hhome]
  simp [Axis.latchedAt, Axis.opened]

end

/-! ## The events of switches -/

section
variable {s : State} {a ns : Nat} {h : EphAxis} {n : SwitchName} {level : Bool}

theorem State.axisEdge_sameBut (a : Nat) (n : SwitchName) (level : Bool) (ns : Nat) (s : State) :
    SameBut [.axes, .mem, .tail] s (s.axisEdge a n level ns) := by
  have axis (x : Axis) : SameBut [.axes, .mem, .tail] s (s.modAxis a fun _ => x) :=
    (s.modAxis_sameBut a _).mono (by simp)
  have noted (ty : Nat) (p : List Byte) (u : State) : SameBut [.axes, .mem, .tail] u (u.record ty .data p) :=
    (State.record_sameBut ty .data p u).mono (by simp)
  unfold State.axisEdge
  split
  · exact SameBut.refl _ s
  · dsimp only
    split
    · exact axis _
    · exact (axis _).trans (noted _ _ _)
    · exact (axis _).trans (noted _ _ _)

theorem State.axis_record (ty : Nat) (p : List Byte) (b : Nat) (s : State) :
    (s.record ty .data p).axis b = s.axis b :=
  State.axis_congr (State.record_sameBut ty .data p s .axes (by simp)) b

theorem State.axis_axisEdge (ha : a < 8) (hh : s.axisEntry? a = some h) :
    (s.axisEdge a n level ns).axis a = ((s.axis a).edge h n level s.ix ns).1 := by
  have axis (x : Axis) : (s.modAxis a fun _ => x).axis a = x := State.axis_modAxis_same ha _ s
  unfold State.axisEdge
  simp only [hh]
  split
  · exact axis _
  · exact (State.axis_record _ _ a _).trans (axis _)
  · exact (State.axis_record _ _ a _).trans (axis _)

theorem exec_switchQualify (hh : s.axisEntry? a = some h) : exec (.switchQualify a n) s =
    .next (s.modAxis a fun x => if (x.switch n).window then x.qualify h n (nextTick s.ix) else x) := by
  show execSwitchQualify a n s = _
  simp only [execSwitchQualify, hh]

/-! ## Following (R318) -/

/-- An edge of STEP_IN counts by DIR_IN in FOLLOW, whatever rate it gives, and does nothing in another mode. -/
theorem exec_stepInEdge (hh : s.axisEntry? a = some h) (d : Bool) (ns : Nat) :
    ∃ g, exec (.stepInEdge a d ns) s = .next (s.modAxis a g) ∧ ∀ x : Axis, (x.mode ≠ .follow → g x = x) ∧
      (x.mode = .follow → (g x).followN = x.followN + (if d then 1 else -1) ∧ (g x).edge0 = some ns ∧
        (g x).mode = .follow) := by
  refine ⟨_, congrArg Host.Outcome.next (if_neg (by simp [hh])), fun x => ⟨fun hmode => if_pos hmode, fun hmode => ?_⟩⟩
  rw [if_neg (not_not.2 hmode)]
  exact ⟨rfl, rfl, hmode⟩

end

theorem Axis.planAt_of_single {f : AxPhase} {t : Nat} (h : f.at_ ≤ t) (x : Axis) :
    ({ x with plan := [f] } : Axis).planAt t = f.eval t := by
  simp [Axis.planAt, phaseAt, h]

/-- The way of a tick in FOLLOW over which T lies `d` ahead: at most `way`, and no further than T. -/
def followStep (way d : Rat) : Rat := if absQ d ≤ way then d else if d < 0 then -way else way

theorem followStep_le {way d : Rat} (hd : 0 ≤ d) : followStep way d ≤ d := by
  have habs : absQ d = d := if_neg (not_lt.2 hd)
  unfold followStep
  rw [habs, if_neg (not_lt.2 hd)]
  split
  case isTrue => exact le_rfl
  case isFalse hfar => exact (not_le.1 hfar).le

section
variable {x : Axis} {k : Nat} (hmode : x.mode = .follow) (hfrom : x.followFrom ≤ k)
include hmode hfrom

theorem Axis.followTick_planAt : ((x.followTick k).planAt (k + tickLen)).p =
    (x.planAt k).p + followStep (x.followRate * (tickLen : Nat)) (x.followT - (x.planAt k).p) := by
  have hrun : ¬ (x.mode ≠ .follow ∨ k < x.followFrom) := by simp [hmode, hfrom]
  unfold Axis.followTick
  rw [if_neg hrun]
  dsimp only
  rw [Axis.planAt_of_single (Nat.le_add_right k tickLen)]
  simp only [AxPhase.eval, Nat.add_sub_cancel_left, followStep, tickLen]
  ring

/-- An axis in FOLLOW that has not reached T does not pass it in a tick. -/
theorem Axis.followTick_le (h : (x.planAt k).p ≤ x.followT) :
    ((x.followTick k).planAt (k + tickLen)).p ≤ x.followT := by
  have hstep := followStep_le (way := x.followRate * (tickLen : Nat)) (sub_nonneg.2 h)
  rw [Axis.followTick_planAt hmode hfrom]
  linarith

end

/-! ## Quadrature and Z (R319) -/

/-- The place of levels A and B in the cycle in which A leads B. -/
def quadPlace (ab : Nat) : Nat := if ab = 0 then 0 else if ab = 2 then 1 else if ab = 3 then 2 else 3

/-- The places from levels `old` on to levels `new`. -/
def quadSteps (old new : Nat) : Nat := (quadPlace (new % 4) + 4 - quadPlace old) % 4

/-- The axis after a transition to levels `ab`. -/
def Axis.quadTo (ab : Nat) (x : Axis) : Axis :=
  let y := { x with ab := ab % 4 }
  if quadSteps x.ab ab = 0 then y
  else if quadSteps x.ab ab = 2 then { y with quadErr := x.quadErr.inc }
  else { y with count := signedOf 32 (unsignedOf 32 (x.count + if quadSteps x.ab ab = 1 then 1 else -1)) }

theorem quadSteps_of_eq {old new : Nat} (h : old = new) (hn : new < 4) : quadSteps old new = 0 := by
  have all : ∀ ab < 4, quadSteps ab ab = 0 := by decide
  exact h ▸ all new hn

theorem quadSteps_up : ∀ p ∈ [(0, 2), (2, 3), (3, 1), (1, 0)], quadSteps p.1 p.2 = 1 := by decide

theorem quadSteps_down : ∀ p ∈ [(2, 0), (3, 2), (1, 3), (0, 1)], quadSteps p.1 p.2 = 3 := by decide

theorem quadSteps_both : ∀ p ∈ [(0, 3), (3, 0), (1, 2), (2, 1)], quadSteps p.1 p.2 = 2 := by decide

section
variable {ab : Nat} {x : Axis}

theorem Axis.quadTo_ab (h : ab < 4) : (x.quadTo ab).ab = ab := by
  have hab : ab % 4 = ab := Nat.mod_eq_of_lt h
  unfold Axis.quadTo
  dsimp only
  split
  · exact hab
  split
  · exact hab
  · exact hab

theorem Axis.quadTo_of_none (h : quadSteps x.ab ab = 0) :
    (x.quadTo ab).count = x.count ∧ (x.quadTo ab).quadErr = x.quadErr := by
  simp [Axis.quadTo, h]

theorem Axis.quadTo_of_both (h : quadSteps x.ab ab = 2) :
    (x.quadTo ab).count = x.count ∧ (x.quadTo ab).quadErr = x.quadErr.inc := by
  simp [Axis.quadTo, h]

theorem Axis.quadTo_of_up (h : quadSteps x.ab ab = 1) :
    (x.quadTo ab).count = signedOf 32 (unsignedOf 32 (x.count + 1)) ∧ (x.quadTo ab).quadErr = x.quadErr := by
  simp [Axis.quadTo, h]

theorem Axis.quadTo_of_down (h : quadSteps x.ab ab = 3) :
    (x.quadTo ab).count = signedOf 32 (unsignedOf 32 (x.count - 1)) ∧ (x.quadTo ab).quadErr = x.quadErr := by
  simp [Axis.quadTo, h, sub_eq_add_neg]

end

section
variable {s : State} {a ab : Nat} {h : EphAxis} (hh : s.axisEntry? a = some h)
include hh

theorem exec_quadTransition : exec (.quadTransition a ab) s =
    .next (if h.quad then s.modAxis a (Axis.quadTo ab) else s) := by
  show execQuadTransition a ab s = _
  simp only [execQuadTransition, hh]
  cases h.quad <;> rfl

theorem exec_encoderZEdge : exec (.encoderZEdge a) s =
    .next (if h.quad then s.modAxis a fun x => { x with encZ := x.count } else s) := by
  show execEncoderZEdge a s = _
  simp only [execEncoderZEdge, hh, Option.any_some]

end

/-! ## SSI frames (R320) -/

/-- The value of an SSI frame. -/
def Axis.ssiValue (e : EphAxis) (bits : Nat) (x : Axis) : Nat :=
  if bitOf x.cfg 16 then grayOf e.ssiBits (bits % 2 ^ e.ssiBits) else bits % 2 ^ e.ssiBits

/-- The axis when the frame that runs ends: with a good line it offers its value. -/
def Axis.ssiEnd (e : EphAxis) (bits : Nat) (good : Bool) (x : Axis) : Axis :=
  if !x.ssiRun then x
  else if good then { x with ssiRun := false, ssiNew := some (some (x.ssiValue e bits)) }
  else { x with ssiRun := false, ssiNew := some none, ssiErr := x.ssiErr.inc }

section
variable {e : EphAxis} {bits : Nat} {x : Axis}

theorem Axis.ssiEnd_of_idle (h : x.ssiRun = false) (good : Bool) : x.ssiEnd e bits good = x :=
  if_pos (by rw [h]; rfl)

theorem Axis.ssiEnd_of_good (h : x.ssiRun = true) :
    x.ssiEnd e bits true = { x with ssiRun := false, ssiNew := some (some (x.ssiValue e bits)) } := by
  rw [Axis.ssiEnd, if_neg (by simp [h]), if_pos rfl]

theorem Axis.ssiEnd_of_bad (h : x.ssiRun = true) :
    x.ssiEnd e bits false = { x with ssiRun := false, ssiNew := some none, ssiErr := x.ssiErr.inc } := by
  rw [Axis.ssiEnd, if_neg (by simp [h]), if_neg Bool.false_ne_true]

/-- The end of a frame that runs: a value on a good line, an error on a bad one. -/
theorem Axis.ssiEnd_of_run (h : x.ssiRun = true) (before after : Bool) :
    let y := x.ssiEnd e bits (before && after)
    y.ssiRun = false ∧
      (before = true → after = true → y.ssiErr = x.ssiErr ∧ y.ssiNew = some (some (x.ssiValue e bits))) ∧
      (before = false ∨ after = false → y.ssiNew = some none ∧ y.ssiErr = x.ssiErr.inc) := by
  intro y
  cases hgood : before && after with
  | true =>
    have hy : y = _ := (congrArg (x.ssiEnd e bits) hgood).trans (Axis.ssiEnd_of_good h)
    obtain ⟨hb, ha⟩ := Bool.and_eq_true_iff.1 hgood
    rw [hy]
    exact ⟨rfl, fun _ _ => ⟨rfl, rfl⟩, fun hbad => by simp [hb, ha] at hbad⟩
  | false =>
    have hy : y = _ := (congrArg (x.ssiEnd e bits) hgood).trans (Axis.ssiEnd_of_bad h)
    rw [hy]
    exact ⟨rfl, fun hb ha => by simp [hb, ha] at hgood, fun _ => ⟨rfl, rfl⟩⟩

end

theorem exec_ssiFrameEnd {s : State} {a : Nat} {h : EphAxis} (hh : s.axisEntry? a = some h) (bits : Nat)
    (before after : Bool) : exec (.ssiFrameEnd a bits before after) s =
      .next (if h.ssi then s.modAxis a (Axis.ssiEnd h bits (before && after)) else s) := by
  show execSsiFrameEnd a bits before after s = _
  simp only [execSsiFrameEnd, hh]
  cases h.ssi <;> rfl

/-! ## The obligation -/

/-- An event that changes axis `a` at most. -/
theorem State.modAxis_if {a : Nat} (ha : a < 8) (c : Bool) (g : Axis → Axis) (s : State) :
    SameBut [.axes] s (if c then s.modAxis a g else s) ∧
      (if c then s.modAxis a g else s).axis a = if c then g (s.axis a) else s.axis a := by
  cases c
  · exact ⟨SameBut.refl _ s, rfl⟩
  · exact ⟨s.modAxis_sameBut a g, State.axis_modAxis_same ha g s⟩

/-- Settles O42: an edge of a switch by the cases of `Axis.edge` (`Axis.edge_quiet`, `Axis.edge_of_first`), a tick of
FOLLOW by `Axis.followTick_le`, and an encoder's event by what it makes of the axis. -/
theorem axisInputsStopLatchAndCount : Obligations.AxisInputsStopLatchAndCount := by
  intro s a h ha hh x quiet first
  have hedge (n : SwitchName) (level : Bool) (ns : Nat) :
      (s.axisEdge a n level ns).axis a = (x.edge h n level s.ix ns).1 := State.axis_axisEdge ha hh
  have hquiet (n : SwitchName) (level : Bool) (ns : Nat) : quiet n level (s.axisEdge a n level ns) := by
    dsimp only [quiet]
    rw [hedge]
    exact Axis.edge_quiet
  refine ⟨fun up level => ⟨_, rfl, s.axisEdge_sameBut _ _ _ _, hquiet _ _ _, fun hfirst hmode => ?limit⟩,
    fun up level ns => ⟨_, rfl, s.axisEdge_sameBut _ _ _ _, hquiet _ _ _, fun hfirst hmode htarget => ?homing⟩,
    fun n level ns => ⟨_, rfl, s.axisEdge_sameBut _ _ _ _, hquiet _ _ _,
      fun hfirst hqual hmode hstage htarget => ?home⟩,
    fun n => ⟨_, exec_switchQualify hh, s.modAxis_sameBut a _, ?qualify⟩, fun d ns => ?step, rfl,
    fun k hmode hfrom _ hle => Axis.followTick_le hmode hfrom hle, fun ab hab => ?quad, ?z,
    fun bits before after => ?ssi⟩
  case limit =>
    rw [hedge]
    exact ⟨Axis.edge_of_towards hfirst hmode, Axis.edge_of_not_towards hfirst hmode⟩
  case homing =>
    rw [hedge]
    exact Axis.edge_of_abort hfirst hmode htarget
  case home =>
    rw [hedge]
    exact Axis.edge_of_target hfirst hqual hmode hstage htarget
  case qualify =>
    rw [State.axis_modAxis_same ha]
    refine ⟨fun hwin => ?_, fun hwin => if_neg (by simp [x, hwin])⟩
    rw [if_pos hwin]
    exact Axis.switch_qualify
  case step =>
    obtain ⟨g, hexec, hg⟩ := exec_stepInEdge hh d ns
    refine ⟨_, hexec, s.modAxis_sameBut a g, ?_⟩
    rw [State.axis_modAxis_same ha]
    exact (hg x).symm
  case quad =>
    obtain ⟨hsame, haxis⟩ := State.modAxis_if ha h.quad (Axis.quadTo ab) s
    refine ⟨_, exec_quadTransition hh, hsame, ?_⟩
    rw [haxis]
    refine ⟨fun hquad => if_neg (by simp [hquad]), fun hquad => ?_⟩
    rw [if_pos hquad]
    exact ⟨Axis.quadTo_ab hab, fun heq => Axis.quadTo_of_none (quadSteps_of_eq heq hab),
      fun hmem => Axis.quadTo_of_up (quadSteps_up _ hmem), fun hmem => Axis.quadTo_of_down (quadSteps_down _ hmem),
      fun hmem => Axis.quadTo_of_both (quadSteps_both _ hmem)⟩
  case z =>
    obtain ⟨hsame, haxis⟩ := State.modAxis_if ha h.quad (fun x => { x with encZ := x.count }) s
    exact ⟨_, exec_encoderZEdge hh, hsame, haxis⟩
  case ssi =>
    obtain ⟨hsame, haxis⟩ := State.modAxis_if ha h.ssi (Axis.ssiEnd h bits (before && after)) s
    refine ⟨_, exec_ssiFrameEnd hh bits before after, hsame, ?_⟩
    rw [haxis]
    refine ⟨fun hidle => ?_, fun hssi hrun => ?_⟩
    · rcases hidle with hssi | hrun
      · exact if_neg (by simp [hssi])
      · exact (congrArg (fun y => if h.ssi = true then y else x) (Axis.ssiEnd_of_idle hrun _)).trans (ite_self x)
    · rw [if_pos hssi]
      exact Axis.ssiEnd_of_run hrun before after

end Sys2Proof.Machine
end

section
/-!
AXIS commands (R307, R308): what each of them leaves to the next tick; what the actions do there (R306, R310, R311,
R313, R316, R318); and AXIS_RECOAT_RESUME (R323).
-/

namespace Sys2Proof.Machine

/-! ## The commands -/

/-- The dispatcher changes nothing of the recoat sequence. -/
theorem Dispatched.recoatDrives {op : W16} {e : Entry} {s t : State} {f : Flight} (hd : Dispatched op e s f t)
    (a : Nat) : s.recoatDrives a = t.recoatDrives a := by
  have hrecoat : t.recoat = s.recoat := hd.taken.sameBut .recoat (by simp)
  unfold State.recoatDrives
  rw [hrecoat]

section
variable {e : Entry} {s t : State} {f : Flight} {h : EphAxis}

/-- An axis that is enabled and that the recoat sequence does not drive takes an action (R308). -/
theorem Dispatched.axisBusy_pass {op : W16} {x : Axis} (hd : Dispatched op e s f t)
    (hfree : t.recoatDrives (e.u 0x18 1) = false) (hmode : x.mode ≠ .disabled) : ∀ c ∈ s.axisBusy e x, c.1 = false := by
  simp [State.axisBusy, axBad, hd.recoatDrives, hfree, hmode]

variable (hh : t.axisEntry? (e.u 0x18 1) = some h)
include hh

/-- An AXIS command whose checks pass runs on the entry of its axis. -/
theorem axisCommand_of_dispatched {op : W16} (hd : Dispatched op e s f t)
    {checks : Nat → EphAxis → Axis → List (Bool × Bad)}
    (hpass : ∀ c ∈ checks (nextTick t.ix) h (t.axis (e.u 0x18 1)), c.1 = false)
    (run : Flight → EphAxis → Nat → State → State) :
    s.axisCommand op e checks run = .next (run f h (nextTick t.ix) t) := by
  refine (command_of_dispatched hd _).trans (congrArg Host.Outcome.next ?_)
  simp only [hh]
  exact checked_of_none (firstBad_eq_none.2 hpass) _ t

theorem exec_axisStatus (hd : Dispatched 0x0600 e s f t) (hz : (e.zeroFrom 0x19 39).1 = false) :
    exec (.axisStatus e) s = .next (t.ok f
      ((t.axis (e.u 0x18 1)).stateWord.toNat + unsignedOf 32 (t.axis (e.u 0x18 1)).pos * 2 ^ 32)
      (unsignedOf 32 (t.axis (e.u 0x18 1)).count + unsignedOf 32 (t.axis (e.u 0x18 1)).dev * 2 ^ 32) []) := by
  show execAxisStatus e s = _
  rw [execAxisStatus, axisCommand_of_dispatched hh hd]
  simpa using hz

theorem exec_axisEnable (hd : Dispatched 0x0640 e s f t) (hon : e.u 0x19 1 ≤ 1) (hz : (e.zeroFrom 0x1A 38).1 = false)
    (hfree : t.recoatDrives (e.u 0x18 1) = false)
    (hmoves : e.u 0x19 1 = 0 → (t.axis (e.u 0x18 1)).mode.moves = false) :
    exec (.axisEnable e) s = .next ((t.modAxis (e.u 0x18 1) (Axis.await (.enable (e.u 0x19 1 == 1)))).ok f
      (nextTick t.ix) 0 []) := by
  show execAxisEnable e s = _
  rw [execAxisEnable, axisCommand_of_dispatched hh hd]
  simpa [axBad, hz, hd.recoatDrives, hfree] using ⟨hon, hmoves⟩

theorem exec_axisHome (hd : Dispatched 0x0641 e s f t) (hz : (e.zeroFrom 0x19 39).1 = false)
    (hfree : t.recoatDrives (e.u 0x18 1) = false) (hmode : (t.axis (e.u 0x18 1)).mode ≠ .disabled) :
    exec (.axisHome e) s = .next ((t.modAxis (e.u 0x18 1) (Axis.await .home)).ok f (nextTick t.ix) 0 []) := by
  show execAxisHome e s = _
  rw [execAxisHome, axisCommand_of_dispatched hh hd]
  exact List.forall_mem_cons.2 ⟨hz, hd.axisBusy_pass hfree hmode⟩

theorem exec_axisMove {g : Int} (hd : Dispatched 0x0642 e s f t)
    (hg : g = if e.u 0x19 1 = 1 then (t.axis (e.u 0x18 1)).planPos (nextTick t.ix) + e.s 0x1C 4 else e.s 0x1C 4)
    (hrel : e.u 0x19 1 ≤ 1) (hz : (e.zeroFrom 0x1A 2).1 = false) (hz' : (e.zeroFrom 0x20 32).1 = false)
    (hfree : t.recoatDrives (e.u 0x18 1) = false) (hmode : (t.axis (e.u 0x18 1)).mode ≠ .disabled)
    (hmin : h.softMin ≤ g) (hmax : g ≤ h.softMax)
    (hup : (t.axis (e.u 0x18 1)).planPos (nextTick t.ix) < g → (t.axis (e.u 0x18 1)).limPos.qualified = false)
    (hdown : g < (t.axis (e.u 0x18 1)).planPos (nextTick t.ix) → (t.axis (e.u 0x18 1)).limNeg.qualified = false)
    (hhomed : (t.axis (e.u 0x18 1)).homed = true) :
    let u := t.modAxis (e.u 0x18 1) (Axis.await (.move g))
    exec (.axisMove e) s = .next (u.ok f (nextTick t.ix)
      (((u.axis (e.u 0x18 1)).acts h (nextTick t.ix)).planEnd (nextTick t.ix)) []) := by
  intro u
  have hu : u = t.modAxis (e.u 0x18 1) fun x => x.await (.move
      (if e.u 0x19 1 = 1 then x.planPos (nextTick t.ix) + e.s 0x1C 4 else e.s 0x1C 4)) :=
    State.modAxis_congr (congrArg (fun g => Axis.await (.move g) _) hg)
  rw [hu]
  show execAxisMove e s = _
  rw [execAxisMove, axisCommand_of_dispatched hh hd]
  simp only [← hg, List.forall_mem_append, List.forall_mem_cons]
  refine ⟨⟨⟨by simpa using hrel, hz, hz', by simp⟩, hd.axisBusy_pass hfree hmode⟩, ?_⟩
  simpa [axBad, Axis.blocked, hhomed] using ⟨⟨hmin, hmax⟩, hup, hdown⟩

theorem exec_axisJog (hd : Dispatched 0x0643 e s f t) (hz : (e.zeroFrom 0x19 3).1 = false)
    (hz' : (e.zeroFrom 0x20 32).1 = false) (hvel : e.s 0x1C 4 ≠ 0) (hfree : t.recoatDrives (e.u 0x18 1) = false)
    (hmode : (t.axis (e.u 0x18 1)).mode ≠ .disabled)
    (hup : 0 < e.s 0x1C 4 → (t.axis (e.u 0x18 1)).limPos.qualified = false)
    (hdown : e.s 0x1C 4 < 0 → (t.axis (e.u 0x18 1)).limNeg.qualified = false)
    (hmax : absI (e.s 0x1C 4) ≤ ((t.axis (e.u 0x18 1)).freshDyn.v : Int))
    (hslow : (t.axis (e.u 0x18 1)).homed = false → absI (e.s 0x1C 4) ≤ ((t.axis (e.u 0x18 1)).homeV.toNat : Int)) :
    exec (.axisJog e) s = .next ((t.modAxis (e.u 0x18 1) (Axis.await (.jog (e.s 0x1C 4)))).ok f
      (nextTick t.ix) 0 []) := by
  have hblocked : (t.axis (e.u 0x18 1)).blocked (decide (0 < e.s 0x1C 4)) = false := by
    by_cases hpos : 0 < e.s 0x1C 4
    · simpa [Axis.blocked, hpos] using hup hpos
    · simpa [Axis.blocked, hpos] using hdown (by omega)
  show execAxisJog e s = _
  rw [execAxisJog, axisCommand_of_dispatched hh hd]
  simp only [List.forall_mem_append, List.forall_mem_cons]
  refine ⟨⟨⟨hz, by simpa [axBad] using hvel, hz', by simp⟩, hd.axisBusy_pass hfree hmode⟩, hblocked, ?_, by simp⟩
  simpa [axBad] using ⟨hmax, hslow⟩

theorem exec_axisFollow (hd : Dispatched 0x0644 e s f t) (hz : (e.zeroFrom 0x19 39).1 = false)
    (hfree : t.recoatDrives (e.u 0x18 1) = false) (hmode : (t.axis (e.u 0x18 1)).mode ≠ .disabled)
    (hstep : h.stepIn = true) :
    exec (.axisFollow e) s = .next ((t.modAxis (e.u 0x18 1) (Axis.await .follow)).ok f (nextTick t.ix) 0 []) := by
  show execAxisFollow e s = _
  rw [execAxisFollow, axisCommand_of_dispatched hh hd]
  simp only [List.forall_mem_append, List.forall_mem_singleton]
  exact ⟨⟨hz, hd.axisBusy_pass hfree hmode⟩, by simp [axBad, hstep]⟩

theorem exec_axisStop (hd : Dispatched 0x0645 e s f t) (hz : (e.zeroFrom 0x1A 38).1 = false) (hfast : e.u 0x19 1 ≤ 1) :
    exec (.axisStop e) s = .next ((t.modAxis (e.u 0x18 1) (Axis.await (.stop (e.u 0x19 1 == 1)))).ok f
      (nextTick t.ix) 0 []) := by
  show execAxisStop e s = _
  rw [execAxisStop, axisCommand_of_dispatched hh hd]
  simpa [hz] using hfast

/-- A profile that the motion cannot take waits for the next one, noted and counted (R313). -/
def Axis.keepDyn (v acc : Nat) (x : Axis) : Axis :=
  { x.await (.dyn v acc true) with profileKept := true, kept := x.kept.inc }

theorem exec_axisSetDyn {v acc : Nat} (hd : Dispatched 0x0646 e s f t) (hv : v = e.u 0x1C 4) (hacc : acc = e.u 0x20 4)
    (hz : (e.zeroFrom 0x19 3).1 = false) (hz' : (e.zeroFrom 0x24 28).1 = false) (hv1 : 1 ≤ v) (hvMax : v ≤ h.vMax)
    (hacc1 : 1 ≤ acc) (haMax : acc ≤ h.aMax) : exec (.axisSetDyn e) s = .next
      (if ((t.axis (e.u 0x18 1)).acts h (nextTick t.ix)).dynFits h (axDyn v acc h.jMax) (nextTick t.ix) then
        (t.modAxis (e.u 0x18 1) (Axis.await (.dyn v acc false))).ok f (nextTick t.ix) 0 []
      else (t.modAxis (e.u 0x18 1) (Axis.keepDyn v acc)).finish f 0x0A01 (BitVec.ofNat 64 (nextTick t.ix)) 0 false
        []) := by
  subst hv hacc
  show execAxisSetDyn e s = _
  rw [execAxisSetDyn, axisCommand_of_dispatched hh hd]
  · rfl
  · simp only [List.forall_mem_cons]
    refine ⟨hz, ?_, ?_, hz', by simp⟩
    · simpa [axBad, Nat.ne_of_gt hv1] using hvMax
    · simpa [axBad, Nat.ne_of_gt hacc1] using haMax

end

/-! ## Actions at their tick -/

section
variable (e : EphAxis) (k : Nat) (x : Axis)

/-- A new motion takes V and A, and changes nothing else. -/
theorem Axis.freshDyn_eq : ∃ v a, x.freshDyn = { x with v := v, a := a, nextDyn := none } := by
  unfold Axis.freshDyn
  split
  · exact ⟨_, _, rfl⟩
  next hnone => exact ⟨x.v, x.a, by rw [← hnone]⟩

@[simp] theorem Axis.freshDyn_todo : x.freshDyn.todo = x.todo := by
  obtain ⟨v, a, heq⟩ := x.freshDyn_eq
  rw [heq]

theorem Axis.looseHome_todo : (x.looseHome e).todo = x.todo := by rw [Axis.looseHome_eq]

theorem Axis.act_todo (c : AxAction) : (x.act e k c).todo = x.todo := by
  cases c with
  | enable on =>
    show (x.actEnable on).todo = _
    unfold Axis.actEnable
    split
    · rfl
    · split <;> rfl
  | home =>
    show (x.actHome e k).todo = _
    unfold Axis.actHome
    dsimp only
    split
    · exact x.freshDyn_todo
    · split <;> exact x.freshDyn_todo
  | move g => exact x.freshDyn_todo
  | recoat g => exact x.freshDyn_todo
  | jog v => exact x.freshDyn_todo
  | follow => exact x.freshDyn_todo
  | stop fast =>
    show (x.actStop e fast k).todo = _
    unfold Axis.actStop
    dsimp only
    split
    · rfl
    · split
      · exact Axis.looseHome_todo e _
      · rfl
  | dyn v a keep =>
    show (x.actDyn e v a keep k).todo = _
    unfold Axis.actDyn
    dsimp only
    split
    · rfl
    · split
      · split <;> rfl
      all_goals rfl

theorem Axis.foldl_act_todo (l : List AxAction) : (l.foldl (fun x c => x.act e k c) x).todo = x.todo := by
  induction l generalizing x with
  | nil => rfl
  | cons c r ih => exact (ih (x.act e k c)).trans (x.act_todo e k c)

theorem Axis.acts_todo : (x.acts e k).todo = [] := Axis.foldl_act_todo e k _ x.todo

theorem Axis.act_enable (h : x.mode = .disabled) : x.act e k (.enable true) =
    { x with mode := .idle, plan := [], rest := x.pNext - x.offset, pAdd := 0, fed := true } :=
  if_pos h

/-- The axis as a homing run begins: p_add has gone into the profile (R310). -/
def Axis.homingStart (x : Axis) : Axis :=
  { x.freshDyn with
    mode := .homing, causeAtRest := 0, latched := none, rest := x.rest + x.pAdd
    plan := x.plan.map fun q => { q with p := q.p + x.pAdd }, pAdd := 0, fed := true }

theorem Axis.homingStart_qualified :
    (x.homingStart.switch (x.homingStart.homeTarget e)).qualified = (x.switch (x.homeTarget e)).qualified := by
  obtain ⟨v, a, hfresh⟩ := x.freshDyn_eq
  rw [Axis.homingStart, hfresh]
  rfl

/-- Homing starts with p_add 0: for SSI at rest, away from an active target, else towards it (R316). -/
theorem Axis.act_home : (x.act e k .home).mode = .homing ∧ (x.act e k .home).pAdd = 0 ∧
    (x.act e k .home).latched = none ∧ (x.act e k .home).homeStage =
      if e.ssi = true then .ssi else if (x.switch (x.homeTarget e)).qualified = true then .away else .approach := by
  rw [← Axis.homingStart_qualified e x]
  by_cases hssi : e.ssi = true
  · have hact : x.act e k .home = _ := if_pos hssi
    rw [hact, if_pos hssi]
    exact ⟨rfl, rfl, rfl, rfl⟩
  rw [if_neg hssi]
  by_cases hqual : (x.homingStart.switch (x.homingStart.homeTarget e)).qualified = true
  · have hact : x.act e k .home = _ := (if_neg hssi).trans (if_pos hqual)
    rw [hact, if_pos hqual]
    exact ⟨rfl, rfl, rfl, rfl⟩
  · have hact : x.act e k .home = _ := (if_neg hssi).trans (if_neg hqual)
    rw [hact, if_neg hqual]
    exact ⟨rfl, rfl, rfl, rfl⟩

end

section
variable (e : EphAxis) {k : Nat} {x : Axis}

/-- A stop of a moving axis: at A_STOP HOMED is lost without an encoder (R315). -/
theorem Axis.act_stop_of_moves (h : x.mode.moves = true) (fast : Bool) :
    (x.act e k (.stop fast)).mode = .stopping ∧
      (x.act e k (.stop fast)).homed = (x.homed && !(fast && !e.encoder)) ∧
      (x.mode ≠ .stopping → (x.act e k (.stop fast)).causeAtRest = 2) := by
  have hact : x.act e k (.stop fast) = _ := if_neg (by simp [h])
  rw [hact]
  cases fast with
  | false => exact ⟨rfl, by simp [Axis.stopFrom, Axis.replan], fun hmode => if_neg hmode⟩
  | true =>
    simp only [if_true, Axis.looseHome_eq]
    exact ⟨rfl, by simp [Axis.stopFrom, Axis.replan], fun hmode => if_neg hmode⟩

theorem Axis.act_stop_of_rest (h : x.mode.moves = false) (fast : Bool) : x.act e k (.stop fast) = x :=
  if_pos (by simp [h])

theorem Axis.act_dyn_of_idle (h : x.mode = .idle) (v acc : Nat) :
    x.act e k (.dyn v acc false) = { x with nextDyn := some (v, acc) } := by
  show x.actDyn e v acc false k = _
  simp [Axis.actDyn, h]

theorem Axis.act_dyn_of_move (h : x.mode = .move ∨ x.mode = .recoat) (v acc : Nat) :
    (x.act e k (.dyn v acc false)).v = v ∧ (x.act e k (.dyn v acc false)).a = acc ∧
      (x.act e k (.dyn v acc false)).mode = x.mode ∧ (x.act e k (.dyn v acc false)).target = x.target := by
  show (x.actDyn e v acc false k).v = v ∧ (x.actDyn e v acc false k).a = acc ∧
    (x.actDyn e v acc false k).mode = x.mode ∧ (x.actDyn e v acc false k).target = x.target
  rcases h with h | h <;> simp [Axis.actDyn, h, Axis.replan]

end

/-! ## AXIS_RECOAT_RESUME (R323) -/

section
variable {s t : State} {ms : List RecoatMove} {st : RecoatState} {k : Nat}

/-- The moves of the recoat sequence that are not at their targets at tick `k`. -/
def State.recoatRuns (k : Nat) (ms : List RecoatMove) (s : State) : List RecoatMove :=
  ms.filter fun m => (s.axis m.axis).planPos k != m.target

/-- Moves wait on their axes for the next tick. -/
def State.awaitMoves (ms : List RecoatMove) (s : State) : State :=
  ms.foldl (fun s m => s.modAxis m.axis (Axis.await (.recoat m.target))) s

theorem State.awaitMoves_sameBut (ms : List RecoatMove) (s : State) : SameBut [.axes] s (s.awaitMoves ms) :=
  SameBut.foldl (fun s (m : RecoatMove) => s.modAxis_sameBut m.axis (Axis.await (.recoat m.target))) ms s

/-- Moves of axes that can move run, those that are not at their targets. -/
theorem State.recoatMoves_of_ready
    (h : ∀ m ∈ ms, (s.axis m.axis).mode ≠ .disabled ∧ (s.axis m.axis).homed = true) :
    s.recoatMoves st ms k = ({ s with recoat := { s.recoat with
      state := st, failed := [], running := s.recoat.running ++ s.recoatRuns k ms } } : State).awaitMoves
        (s.recoatRuns k ms) := by
  unfold State.recoatMoves
  dsimp only
  split
  next m hm =>
    obtain ⟨hmode, hhomed⟩ := h m (List.mem_of_find?_eq_some hm)
    have hfound := List.find?_some hm
    have hunable : ((s.axis m.axis).mode == .disabled || !(s.axis m.axis).homed) = true := hfound
    simp [hmode, hhomed] at hunable
  next => rfl

/-- A move of an axis that is disabled or not homed fails the sequence with cause 9 before any of them runs. -/
theorem State.recoatMoves_of_unready
    (h : ∃ m ∈ ms, (s.axis m.axis).mode = .disabled ∨ (s.axis m.axis).homed = false) :
    ∃ a, s.recoatMoves st ms k =
      ({ s with recoat := { s.recoat with state := st, failed := ms } } : State).recoatFail a 9 := by
  obtain ⟨m, hm, hunable⟩ := h
  unfold State.recoatMoves
  dsimp only
  split
  next m' _ => exact ⟨m'.axis, rfl⟩
  next hnone =>
    have hable : ¬ ((s.axis m.axis).mode == .disabled || !(s.axis m.axis).homed) = true :=
      List.find?_eq_none.1 hnone m hm
    rcases hunable with hmode | hhomed
    · simp [hmode] at hable
    · simp [hhomed] at hable

/-- A failure is recorded, and moves no axis. -/
theorem State.recoatFail_frame (axis cause : Nat) (s : State) :
    SameBut [.recoat, .mem, .tail] s (s.recoatFail axis cause) ∧ (s.recoatFail axis cause).recoat.state = .failed ∧
      (s.recoatFail axis cause).recoat.failCause = cause ∧
      (s.recoatFail axis cause).recoat.failed = s.recoat.failed := by
  have hrecoat : (s.recoatFail axis cause).recoat = _ := State.record_sameBut _ _ _ _ .recoat (by simp)
  refine ⟨((sameBut_recoat s _).mono (by simp)).trans ((State.record_sameBut _ _ _ _).mono (by simp)), ?_⟩
  rw [hrecoat]
  exact ⟨rfl, rfl, rfl⟩

end

theorem exec_axisRecoatResume {e : Entry} {s t : State} {f : Flight} (hd : Dispatched 0x0647 e s f t)
    (hz : (e.zeroFrom 0x18 40).1 = false) (hpilot : (t.slot f.slot).held &&& rolePilot ≠ 0)
    (hfailed : t.recoat.state = .failed) : exec (.axisRecoatResume e) s =
      .next ((t.recoatMoves t.recoat.failState t.recoat.failed (nextTick t.ix)).ok f (nextTick t.ix) 0 []) := by
  refine (command_of_dispatched hd _).trans (congrArg Host.Outcome.next (checked_of_none ?_ _ t))
  rw [firstBad_eq_none]
  simpa [hz, hfailed] using hpilot

/-! ## The obligation -/

/-- Settles O41, from the equation of each command, what each action makes of its axis, and the two outcomes of
`State.recoatMoves`. -/
theorem axisCommandsActAtTheNextTick : Obligations.AxisCommandsActAtTheNextTick := by
  refine ⟨fun e s t f a h hea ha hh => ?commands, fun h k x => ?actions, fun e s t f hd hz hpilot hfailed => ?resume⟩
  case commands =>
    subst hea
    intro x now idleOk waits
    have becomes (c : AxAction) : waits (t.modAxis (e.u 0x18 1) (Axis.await c)) c := State.modAxis_becomes ha _ t
    refine ⟨exec_axisStatus hh, fun hd hon hz hfree hmoves => ?enable, fun hd hz ⟨hfree, hmode⟩ => ?home,
      fun g hd hg hrel hz hz' ⟨hfree, hmode⟩ hmin hmax hup hdown hhomed => ?move,
      fun hd hz hz' hvel ⟨hfree, hmode⟩ hup hdown hmax hslow => ?jog, fun hd hz ⟨hfree, hmode⟩ hstep => ?follow,
      fun hd hz hfast => ?stop, fun v acc hd hv hacc hz hz' hv1 hvMax hacc1 haMax => ?setDyn⟩
    case enable => exact ⟨_, exec_axisEnable hh hd hon hz hfree hmoves, becomes _⟩
    case home => exact ⟨_, exec_axisHome hh hd hz hfree hmode, becomes _⟩
    case move => exact ⟨_, exec_axisMove hh hd hg hrel hz hz' hfree hmode hmin hmax hup hdown hhomed, becomes _⟩
    case jog => exact ⟨_, exec_axisJog hh hd hz hz' hvel hfree hmode hup hdown hmax hslow, becomes _⟩
    case follow => exact ⟨_, exec_axisFollow hh hd hz hfree hmode hstep, becomes _⟩
    case stop => exact ⟨_, exec_axisStop hh hd hz hfast, becomes _⟩
    case setDyn =>
      have hexec := exec_axisSetDyn hh hd hv hacc hz hz' hv1 hvMax hacc1 haMax
      refine ⟨fun hfits => ⟨_, hexec.trans (congrArg Host.Outcome.next (if_pos hfits)), becomes _⟩, fun hfits => ?_⟩
      obtain ⟨haxis, hother, hsame⟩ := State.modAxis_becomes ha (Axis.keepDyn v acc) t
      exact ⟨_, hexec.trans (congrArg Host.Outcome.next (if_neg (by rw [hfits]; exact Bool.false_ne_true))), hsame,
        hother, haxis⟩
  case actions =>
    exact ⟨Axis.acts_todo h k x, rfl, Axis.act_enable h k x, Axis.act_home h k x, fun g => ⟨rfl, rfl, rfl, rfl, rfl⟩,
      fun v => ⟨rfl, rfl⟩, ⟨rfl, rfl, rfl⟩,
      fun fast => ⟨fun hmoves => Axis.act_stop_of_moves h hmoves fast, fun hrest => Axis.act_stop_of_rest h hrest fast⟩,
      fun v acc => ⟨fun hidle => Axis.act_dyn_of_idle h hidle v acc, fun hmove => Axis.act_dyn_of_move h hmove v acc⟩⟩
  case resume =>
    have hexec := exec_axisRecoatResume hd hz hpilot hfailed
    refine ⟨fun hready => ?ready, fun hunready => ?unready⟩
    case ready =>
      rw [State.recoatMoves_of_ready hready] at hexec
      exact ⟨_, hexec, ((sameBut_recoat t _).mono (by simp)).trans ((State.awaitMoves_sameBut _ _).mono (by simp)),
        State.awaitMoves_sameBut _ _ .recoat (by simp)⟩
    case unready =>
      obtain ⟨a, hmoves⟩ := State.recoatMoves_of_unready (st := t.recoat.failState) (k := nextTick t.ix) hunready
      obtain ⟨hsame, hstate, hcause, hkept⟩ := State.recoatFail_frame a 9
        { t with recoat := { t.recoat with state := t.recoat.failState, failed := t.recoat.failed } }
      rw [hmoves] at hexec
      exact ⟨_, hexec, ((sameBut_recoat t _).mono (by simp)).trans hsame, hstate, hcause, hkept⟩

end Sys2Proof.Machine
end

section
/-!
The record of a camera frame (R335), field by field, and the sample numbers that its fields hold (R28).
-/

namespace Sys2Proof.Machine

/-! ## Fields of a record -/

@[simp] theorem length_leBytes (k v : Nat) : (leBytes k v).length = k := by
  induction k generalizing v with
  | zero => rfl
  | succ k ih => simp [leBytes, ih]

theorem leNat_leBytes (k v : Nat) : leNat (leBytes k v) = v % 256 ^ k := by
  induction k generalizing v with
  | zero => rw [pow_zero, Nat.mod_one]; rfl
  | succ k ih => rw [leBytes, leNat, ih, pow_succ', Nat.mod_mul, BitVec.toNat_ofNat]

/-- The first field of a record. -/
theorem uAt_leBytes_append (k v : Nat) (r : List Byte) : uAt (leBytes k v ++ r) 0 k = v % 256 ^ k := by
  simp [uAt, slice, leNat_leBytes]

theorem uAt_leBytes (k v : Nat) : uAt (leBytes k v) 0 k = v % 256 ^ k := by
  simpa using uAt_leBytes_append k v []

/-- A field after the first one. -/
theorem uAt_leBytes_append_of_le {k o : Nat} (h : k ≤ o) (v n : Nat) (r : List Byte) :
    uAt (leBytes k v ++ r) o n = uAt r (o - k) n := by
  simp [uAt, slice, List.drop_append, List.drop_of_length_le, h]

/-! ## STATUS -/

theorem testBit_b1_add_zero (b : Bool) (n : Nat) : (b1 b + 2 * n).testBit 0 = b := by
  cases b <;> simp [b1, Nat.testBit_zero]

theorem testBit_b1_add_succ (b : Bool) (n i : Nat) : (b1 b + 2 * n).testBit (i + 1) = n.testBit i := by
  have hhalf : (b1 b + 2 * n) / 2 = n := by cases b <;> simp [b1]; omega
  rw [Nat.testBit_succ, hhalf]

/-- STATUS, bit by bit from bit 0 on. -/
theorem CamFrame.status_eq (f : CamFrame) : f.status = b1 f.short + 2 * (b1 f.long + 2 * (b1 f.crcErr + 2 *
    (b1 f.overrun + 2 * (b1 f.missing + 2 * (b1 f.noSlot + 2 * (b1 f.hdrErr + 2 * (b1 f.wcErr + 2 * 0))))))) := by
  unfold CamFrame.status
  ring

theorem CamFrame.status_lt (f : CamFrame) : f.status < 256 := by
  have le (b : Bool) : b1 b ≤ 1 := by cases b <;> decide
  have := le f.short
  have := le f.long
  have := le f.crcErr
  have := le f.overrun
  have := le f.missing
  have := le f.noSlot
  have := le f.hdrErr
  have := le f.wcErr
  unfold CamFrame.status
  omega

theorem CamFrame.testBit_status (f : CamFrame) :
    f.status.testBit 0 = f.short ∧ f.status.testBit 1 = f.long ∧ f.status.testBit 2 = f.crcErr ∧
    f.status.testBit 3 = f.overrun ∧ f.status.testBit 4 = f.missing ∧ f.status.testBit 5 = f.noSlot ∧
    f.status.testBit 6 = f.hdrErr ∧ f.status.testBit 7 = f.wcErr := by
  simp only [f.status_eq, testBit_b1_add_zero, testBit_b1_add_succ, and_self]

/-! ## Sample numbers -/

/-- The difference of two sample numbers less than 2^31 apart, from their low 32 bits (R28). -/
theorem seqDiff_samples {a b : Nat} (hlt : (a : Int) - b < 2 ^ 31) (hge : -(2 ^ 31) ≤ (a : Int) - b) :
    seqDiff 32 (a % 2 ^ 32) (b % 2 ^ 32) = (a : Int) - b := by
  simp only [seqDiff, signedOf]
  norm_num at hlt hge ⊢
  split <;> omega

/-! ## The record (R335) -/

/-- The fields of a record that stand in it whole. -/
theorem CamFrame.uAt_record (f : CamFrame) (i : Nat) :
    (f.record i).length = 32 ∧ uAt (f.record i) 0x00 4 = f.number % 2 ^ 32 ∧ uAt (f.record i) 0x04 1 = i % 2 ^ 8 ∧
    uAt (f.record i) 0x05 1 = f.ctx % 2 ^ 8 ∧ uAt (f.record i) 0x06 2 = f.gen.toNat ∧ uAt (f.record i) 0x08 2 = f.status ∧
    uAt (f.record i) 0x0A 2 = f.lines.length % 2 ^ 16 ∧ uAt (f.record i) 0x0C 2 = f.extra % 2 ^ 16 ∧
    uAt (f.record i) 0x0E 1 = f.emb.length % 2 ^ 8 ∧ uAt (f.record i) 0x0F 1 = 0 ∧
    uAt (f.record i) 0x10 4 = f.trig % 2 ^ 32 ∧
    uAt (f.record i) 0x14 4 = (if f.missing = true then 0 else f.fs) % 2 ^ 32 ∧
    uAt (f.record i) 0x18 4 = f.fe % 2 ^ 32 ∧ uAt (f.record i) 0x1C 4 = f.expUs % 2 ^ 32 := by
  have reserved : ([0] : List Byte) = leBytes 1 0 := rfl
  have hgen := f.gen.isLt
  have hstatus := f.status_lt
  unfold CamFrame.record
  rw [reserved]
  simp [uAt_leBytes_append, uAt_leBytes_append_of_le, uAt_leBytes]
  omega

/-- Settles O46, from `CamFrame.uAt_record`, `CamFrame.testBit_status` and `seqDiff_samples`. -/
theorem frameRecordsHaveTheirLayout : Obligations.FrameRecordsHaveTheirLayout := by
  refine ⟨fun f i hi hctx hnumber hlines hextra hemb hexp => ?_, fun a b => seqDiff_samples⟩
  have hstatus := f.status_lt
  obtain ⟨hlen, h0, h4, h5, h6, h8, ha, hc, he, hf, h10, h14, h18, h1c⟩ := f.uAt_record i
  obtain ⟨b0, b1, b2, b3, b4, b5, b6, b7⟩ := f.testBit_status
  simp only [hlen, h0, h4, h5, h6, h8, ha, hc, he, hf, h10, h14, h18, h1c, b0, b1, b2, b3, b4, b5, b6, b7, true_and]
  refine ⟨Nat.mod_eq_of_lt hnumber, Nat.mod_eq_of_lt hi, Nat.mod_eq_of_lt hctx, hstatus, Nat.mod_eq_of_lt hlines,
    Nat.mod_eq_of_lt hextra, Nat.mod_eq_of_lt hemb, ?_, Nat.mod_eq_of_lt hexp⟩
  split <;> rfl

end Sys2Proof.Machine
end

section
/-!
What the operations on cameras leave of a sensor, a port and the rest of the machine: one rule for each of them.
-/

namespace Sys2Proof.Machine

/-! ## One sensor, port or context changed -/

theorem State.modSensor_sameBut (i : Nat) (f : Sensor → Sensor) (s : State) : SameBut [.camera] s (s.modSensor i f) :=
  sameBut_camera s _

theorem State.modCamPort_sameBut (p : Nat) (f : CamPort → CamPort) (s : State) :
    SameBut [.camera] s (s.modCamPort p f) :=
  sameBut_camera s _

theorem State.modCamCtx_sameBut (c : Nat) (f : CamContext → CamContext) (s : State) :
    SameBut [.camera] s (s.modCamCtx c f) :=
  sameBut_camera s _

theorem State.sensor_modSensor_same {i : Nat} (h : i < 8) (f : Sensor → Sensor) (s : State) :
    (s.modSensor i f).sensor i = f (s.sensor i) :=
  nth_upd_same _ _ _ h

theorem State.sensor_modSensor_other {i k : Nat} (h : k ≠ i) (f : Sensor → Sensor) (s : State) :
    (s.modSensor i f).sensor k = s.sensor k :=
  nth_upd_other _ _ _ h

theorem State.nth_modCamPort {p : Nat} (h : p < 2) (f : CamPort → CamPort) (s : State) :
    nth {} (s.modCamPort p f).camera.ports p = f (nth {} s.camera.ports p) :=
  nth_upd_same _ _ _ h

theorem State.camCtx_modCamCtx_same {c : Nat} (h : c < 8) (f : CamContext → CamContext) (s : State) :
    (s.modCamCtx c f).camCtx c = f (s.camCtx c) :=
  nth_upd_same _ _ _ h

theorem State.camCtx_modCamCtx_other {c d : Nat} (h : d ≠ c) (f : CamContext → CamContext) (s : State) :
    (s.modCamCtx c f).camCtx d = s.camCtx d :=
  nth_upd_other _ _ _ h

theorem State.sensor_congr {s t : State} (h : t.camera.sensors = s.camera.sensors) (i : Nat) :
    t.sensor i = s.sensor i := by
  rw [State.sensor, h, State.sensor]

theorem State.sensorEntry?_congr {s t : State} (h : t.eph = s.eph) (i : Nat) : t.sensorEntry? i = s.sensorEntry? i := by
  rw [State.sensorEntry?, h, State.sensorEntry?]

/-! ## What closing a frame and writing a set keep -/

/-- The outstanding frame of a sensor, its counts of closed frames, and CCI_ERR. -/
def Sensor.tally (x : Sensor) : Option CamFrame × Counter × Counter × Counter × Bool :=
  (x.cur, x.shortCnt, x.longCnt, x.missingCnt, x.cciErr)

theorem State.tally_modSensor {f : Sensor → Sensor} (h : ∀ x, (f x).tally = x.tally) (i j : Nat) (s : State) :
    ((s.modSensor i f).sensor j).tally = (s.sensor j).tally := by
  by_cases hj : j = i
  · subst hj
    by_cases h8 : j < 8
    · rw [State.sensor_modSensor_same h8, h]
    · simp [State.sensor, State.modSensor, nth, h8]
  · rw [State.sensor_modSensor_other hj]

/-! ## The pipeline (R339) -/

/-- Taking a unit touches the pipeline's unit and its context. -/
theorem State.takeUnit_eq (s : State) :
    ∃ u c, s.takeUnit = { s with camera := { s.camera with unit := u, pipeCtx := c } } := by
  unfold State.takeUnit
  dsimp only
  split
  · exact ⟨_, _, rfl⟩
  · split <;> exact ⟨_, _, rfl⟩

theorem State.takeUnit_sameBut (s : State) : SameBut [.camera] s s.takeUnit := by
  obtain ⟨u, c, h⟩ := s.takeUnit_eq
  rw [h]
  exact sameBut_camera s _

theorem State.takeUnit_sensors (s : State) : s.takeUnit.camera.sensors = s.camera.sensors := by
  obtain ⟨u, c, h⟩ := s.takeUnit_eq
  rw [h]

theorem State.takeUnit_ports (s : State) : s.takeUnit.camera.ports = s.camera.ports := by
  obtain ⟨u, c, h⟩ := s.takeUnit_eq
  rw [h]

@[simp] theorem State.sensor_takeUnit (s : State) (i : Nat) : s.takeUnit.sensor i = s.sensor i :=
  State.sensor_congr s.takeUnit_sensors i

/-! ## Delivery (R334, R338, R344) -/

/-- Frame `f` is delivered as `d`, in front of those `kept` of the frames delivered before. -/
def Sensor.keep (f : CamFrame) (d : CamStored) (kept : Sensor → List CamStored) (x : Sensor) : Sensor :=
  { x with
    stored := d :: kept x, delivered := f.number, deliveredGen := f.gen
    closing := x.closing.filter fun g => g.number != f.number, zonesValid := !f.missing }

/-- A delivery keeps the frame with its statistics, and the routes of the sensor's zones take their values. -/
theorem State.deliver_eq (e : EphSensor) (f : CamFrame) (s : State) :
    ∃ (d : CamStored) (kept : Sensor → List CamStored) (v : EphState),
      s.deliver e f = { s.modSensor e.sensor (Sensor.keep f d kept) with eph := v } ∧
      d.frame = { f with noSlot := (s.sensor e.sensor).slots != 0 && (s.sensor e.sensor).slotFor.isNone } ∧
      d.hist = histOf (f.stage4 e) := by
  have hslot : ((s.sensor e.sensor).slots != 0 &&
      (if (s.sensor e.sensor).slots = 0 then none else (s.sensor e.sensor).slotFor).isNone) =
      ((s.sensor e.sensor).slots != 0 && (s.sensor e.sensor).slotFor.isNone) := by
    by_cases hslots : (s.sensor e.sensor).slots = 0 <;> simp [hslots]
  unfold State.deliver
  rw [← hslot]
  dsimp only
  split
  · exact ⟨_, _, _, rfl, rfl, rfl⟩
  · exact ⟨_, _, _, rfl, rfl, rfl⟩

theorem State.deliver_sameBut (e : EphSensor) (f : CamFrame) (s : State) :
    SameBut [.camera, .eph] s (s.deliver e f) := by
  obtain ⟨d, kept, v, h, -⟩ := s.deliver_eq e f
  rw [h]
  exact (State.modSensor_sameBut _ _ s).comp (sameBut_eph _ _)

theorem State.tally_deliver (e : EphSensor) (f : CamFrame) (s : State) (j : Nat) :
    ((s.deliver e f).sensor j).tally = (s.sensor j).tally := by
  obtain ⟨d, kept, v, h, -⟩ := s.deliver_eq e f
  rw [h]
  exact State.tally_modSensor (f := Sensor.keep f d kept) (fun _ => rfl) e.sensor j s

theorem State.deliverDone_sameBut (e : EphSensor) (s : State) : SameBut [.camera, .eph] s (s.deliverDone e) := by
  unfold State.deliverDone
  split
  · exact s.deliver_sameBut e _
  · exact SameBut.refl _ s

theorem State.tally_deliverDone (e : EphSensor) (s : State) (j : Nat) :
    ((s.deliverDone e).sensor j).tally = (s.sensor j).tally := by
  unfold State.deliverDone
  split
  · exact s.tally_deliver e _ j
  · rfl

theorem State.deliverDone_of_none {e : EphSensor} {s : State} (h : (s.sensor e.sensor).closing = []) :
    s.deliverDone e = s := by
  simp [State.deliverDone, h]

theorem State.deliverDone_of_passed {e : EphSensor} {f : CamFrame} {s : State} (hc : (s.sensor e.sensor).closing = [f])
    (hdone : f.done = f.lines.length) (hfree : s.camera.unit = none) : s.deliverDone e = s.deliver e f := by
  simp [State.deliverDone, hc, hdone, State.inPipe, hfree]

/-! ## Exposure sets (R342, R343) -/

theorem State.cciWrites_sameBut (i : Nat) (ws : List W32) (s : State) : SameBut [.outbox] s (s.cciWrites i ws) :=
  SameBut.foldl (fun s _ => sameBut_outbox s _) ws s

theorem State.camera_cciWrites (i : Nat) (ws : List W32) (s : State) : (s.cciWrites i ws).camera = s.camera :=
  s.cciWrites_sameBut i ws .camera (by simp)

/-- A generation more, without the outstanding frame or its counts touched. -/
theorem State.tally_newGen (i : Nat) (v : ExpSet) (s : State) (j : Nat) :
    ((s.newGen i v).sensor j).tally = (s.sensor j).tally := by
  refine State.tally_modSensor (h := fun _ => ?_) i j s
  rfl

theorem State.startWrites_of_idle {i : Nat} {s : State} (h : (s.sensor i).pending = none) : s.startWrites i = s := by
  simp [State.startWrites, h]

theorem State.startWrites_sameBut (i : Nat) (s : State) : SameBut [.camera, .outbox] s (s.startWrites i) := by
  unfold State.startWrites
  dsimp only
  split
  · exact ((State.modSensor_sameBut i _ s).comp (State.cciWrites_sameBut _ _ _)).trans
      ((SameBut.ite (State.modSensor_sameBut i _ _) (SameBut.refl _ _)).mono (by simp))
  · exact SameBut.refl _ s

theorem State.tally_startWrites (i : Nat) (s : State) (j : Nat) :
    ((s.startWrites i).sensor j).tally = (s.sensor j).tally := by
  unfold State.startWrites
  dsimp only
  split
  next v _ _ _ =>
    have begun : (((s.modSensor i fun x => { x with pending := none, writing := some v, retried := [] }).cciWrites i
        v.writes).sensor j).tally = (s.sensor j).tally := by
      rw [State.sensor_congr (congrArg Camera.sensors (State.camera_cciWrites i v.writes _))]
      refine State.tally_modSensor (h := fun _ => ?_) i j s
      rfl
    split
    · rw [State.tally_newGen, begun]
    · exact begun
  next => rfl

/-! ## Frames that close (R331–R333) -/

theorem State.closeFrame_sameBut (e : EphSensor) (short missing : Bool) (s : State) :
    SameBut [.camera, .eph, .outbox] s (s.closeFrame e short missing) := by
  unfold State.closeFrame
  dsimp only
  split
  · exact SameBut.refl _ s
  · exact ((((State.modSensor_sameBut _ _ s).mono (by simp)).trans ((State.deliverDone_sameBut e _).mono (by simp))).trans
      ((State.takeUnit_sameBut _).mono (by simp))).trans ((State.startWrites_sameBut _ _).mono (by simp))

/-- A frame that closes is no longer outstanding, and counts as what it closes as. -/
theorem State.tally_closeFrame {e : EphSensor} {f : CamFrame} {s : State} (hi : e.sensor < 8)
    (hf : (s.sensor e.sensor).cur = some f) (short missing : Bool) :
    let x := s.sensor e.sensor
    ((s.closeFrame e short missing).sensor e.sensor).tally = (none,
      (if !missing && (short || decide (f.lines.length < e.height)) then x.shortCnt.inc else x.shortCnt),
      (if f.long then x.longCnt.inc else x.longCnt), (if missing then x.missingCnt.inc else x.missingCnt), x.cciErr) := by
  unfold State.closeFrame
  simp only [hf]
  rw [State.tally_startWrites, State.sensor_takeUnit, State.tally_deliverDone, State.sensor_modSensor_same hi]
  rfl

end Sys2Proof.Machine
end

section
/-!
Triggers (R328, R329): what an edge makes of its sensor, and the edges of a CAM_TRIGGER taken one after another.
-/

namespace Sys2Proof.Machine

/-! ## Masks -/

theorem packWord_append (a b : List (Nat × Nat)) : packWord (a ++ b) = packWord a ||| packWord b := by
  induction a with
  | nil => simp [packWord]
  | cons c r ih =>
    obtain ⟨v, sh⟩ := c
    rw [List.cons_append, packWord, packWord, ih, BitVec.or_assoc]

/-- A mask is the sum of its bits. -/
theorem toNat_maskOf {n : Nat} (h : n ≤ 32) (f : Nat → Bool) :
    (maskOf n f).toNat = ((List.range n).map fun k => b1 (f k) * 2 ^ k).sum ∧ (maskOf n f).toNat < 2 ^ n := by
  induction n with
  | zero => exact ⟨rfl, Nat.one_pos⟩
  | succ n ih =>
    obtain ⟨hsum, hlt⟩ := ih (by omega)
    have hpow : 2 ^ (n + 1) ≤ 2 ^ 32 := Nat.pow_le_pow_right (by decide) h
    have hbit : b1 (f n) * 2 ^ n ≤ 2 ^ n := by cases f n <;> simp [b1]
    have hstep : maskOf (n + 1) f = maskOf n f ||| BitVec.ofNat 32 (b1 (f n) * 2 ^ n) := by
      simp [maskOf, List.range_succ, packWord_append, packWord]
    have hval : (maskOf (n + 1) f).toNat = b1 (f n) * 2 ^ n + (maskOf n f).toNat := by
      rw [hstep, BitVec.toNat_or, BitVec.toNat_ofNat, Nat.mod_eq_of_lt (by omega), Nat.or_comm, Nat.mul_comm,
        ← Nat.two_pow_add_eq_or_of_lt hlt]
    rw [hval, List.range_succ, List.map_append, List.sum_append, ← hsum]
    simp only [List.map_cons, List.map_nil, List.sum_cons, List.sum_nil]
    omega

theorem sum_bits_filter (q g : Nat → Bool) (l : List Nat) :
    ((l.filter q).map fun k => b1 (g k) * 2 ^ k).sum = (l.map fun k => b1 (q k && g k) * 2 ^ k).sum := by
  induction l with
  | nil => rfl
  | cons k r ih => cases hq : q k <;> simp [hq, ih, show b1 false = 0 from rfl]

/-! ## One trigger -/

theorem State.trigOrSkip_of_free {i : Nat} {s : State} (h : (s.sensor i).cur = none) (t : Nat) :
    s.trigOrSkip i t = (true, s.trigSensor i t) := by
  simp [State.trigOrSkip, h]

theorem State.trigOrSkip_of_busy {i : Nat} {s : State} (h : (s.sensor i).cur.isSome = true) (t : Nat) :
    s.trigOrSkip i t = (false, s.modSensor i fun x => { x with skipCnt := x.skipCnt.inc }) := by
  simp [State.trigOrSkip, h]

theorem State.sensor_skipped {i : Nat} (hi : i < 8) {s : State} (h : (s.sensor i).cur.isSome = true) (t : Nat) :
    (s.trigOrSkip i t).2.sensor i = { s.sensor i with skipCnt := (s.sensor i).skipCnt.inc } := by
  rw [State.trigOrSkip_of_busy h]
  exact State.sensor_modSensor_same hi _ s

/-- The outstanding frame of a sensor triggered at sample `t`: its number, its edge and its exposure window. -/
theorem State.sensor_triggered {i : Nat} (hi : i < 8) {s : State} (h : (s.sensor i).cur = none) (t : Nat) :
    ((s.trigOrSkip i t).2.sensor i).lastFrame = (s.sensor i).lastFrame + 1 ∧
    ∃ g, ((s.trigOrSkip i t).2.sensor i).cur = some g ∧ g.number = (s.sensor i).lastFrame + 1 ∧ g.trig = t ∧
      g.winStart = g.trig + (s.sensor i).delay ∧ g.winEnd = g.winStart + 4 * g.expUs ∧ g.opened = false := by
  rw [State.trigOrSkip_of_free h]
  unfold State.trigSensor
  rw [State.sensor_modSensor_same hi]
  exact ⟨rfl, _, rfl, rfl, rfl, rfl, rfl, rfl⟩

theorem State.sensor_trigOrSkip_other {i k : Nat} (h : k ≠ i) (t : Nat) (s : State) :
    (s.trigOrSkip i t).2.sensor k = s.sensor k := by
  unfold State.trigOrSkip State.trigSensor
  split
  · exact State.sensor_modSensor_other h _ s
  · exact State.sensor_modSensor_other h _ s.clockImg

/-- What a trigger makes of its sensor depends on the sensor and its entry. -/
theorem State.sensor_trigOrSkip_congr {i : Nat} (hi : i < 8) {s u : State} (hsensor : u.sensor i = s.sensor i)
    (heph : u.eph = s.eph) (t : Nat) : (u.trigOrSkip i t).2.sensor i = (s.trigOrSkip i t).2.sensor i := by
  have hclock : u.clockImg.sensor i = s.clockImg.sensor i := hsensor
  unfold State.trigOrSkip State.trigSensor
  rw [hsensor]
  split
  · rw [State.sensor_modSensor_same hi, State.sensor_modSensor_same hi, hsensor]
  · rw [State.sensor_modSensor_same hi, State.sensor_modSensor_same hi, hclock, State.sensorEntry?_congr heph]

theorem State.trigOrSkip_waiting (i t : Nat) (s : State) :
    (s.trigOrSkip i t).2.camera.waiting = s.camera.waiting := by
  unfold State.trigOrSkip
  split <;> rfl

/-! ## The edges of a CAM_TRIGGER (R329, R345) -/

/-- The sample of sensor `k`'s edge. -/
def State.edgeAt (s : State) (k : Nat) : Nat := s.ix + (240 - (s.sensor k).delay)

/-- The edge of sensor `k` is still to come: before the epoch none comes (R373). -/
def State.edgeLater (s : State) (k : Nat) : Bool := s.time.preEpoch || decide ((s.sensor k).delay < 240)

/-- The edge of sensor `k` comes now and triggers it. -/
def State.edgeHits (s : State) (k : Nat) : Bool := !s.edgeLater k && (s.sensor k).cur.isNone

/-- Sensor `k` once its edge has been looked at. -/
def State.afterEdge (s : State) (k : Nat) : Sensor :=
  if s.edgeLater k then s.sensor k else (s.trigOrSkip k s.ix).2.sensor k

/-- The edges of the sensors `P` have been looked at, of a CAM_TRIGGER of flight `id` that state `t` judges. -/
structure CamProgress (t : State) (id : Nat) (P : List Nat) (r : CamWait × State) : Prop where
  frame : SameBut [.camera, .power] t r.2
  waiting : r.2.camera.waiting = t.camera.waiting
  flight : r.1.flight = id
  edges : r.1.edges = (P.filter t.edgeLater).map fun k => (k, t.edgeAt k)
  mask : r.1.mask = (P.map fun k => b1 (t.edgeHits k) * 2 ^ k).sum
  at_ : r.1.at_ = if r.1.mask = 0 then 0 else t.ix
  sensor : ∀ k, k < 8 → r.2.sensor k = if k ∈ P then t.afterEdge k else t.sensor k

theorem CamProgress.start (t : State) (id : Nat) : CamProgress t id [] ({ flight := id, edges := [] }, t) where
  frame := SameBut.refl _ t
  waiting := rfl
  flight := rfl
  edges := rfl
  mask := rfl
  at_ := rfl
  sensor k _ := by simp

/-- Before the epoch every edge waits. -/
theorem CamProgress.waits {t : State} (hpre : t.time.preEpoch = true) (id : Nat) (P : List Nat) :
    CamProgress t id P ({ flight := id, edges := P.map fun k => (k, t.edgeAt k) }, t) where
  frame := SameBut.refl _ t
  waiting := rfl
  flight := rfl
  edges := by
    have all : P.filter t.edgeLater = P := List.filter_eq_self.2 fun k _ => by simp [State.edgeLater, hpre]
    rw [all]
  mask := by
    have none (k : Nat) : b1 (t.edgeHits k) * 2 ^ k = 0 := by simp [State.edgeHits, State.edgeLater, hpre, b1]
    simp [none]
  at_ := rfl
  sensor k _ := by simp [State.afterEdge, State.edgeLater, hpre]

/-- An edge is still to come, as R28 judges it, when its sensor's delay is less than 60 µs. -/
theorem State.edge_to_come_iff (s : State) (k : Nat) :
    0 < seqDiff 32 (s.edgeAt k % 2 ^ 32) (s.ix % 2 ^ 32) ↔ (s.sensor k).delay < 240 := by
  unfold State.edgeAt
  rw [seqDiff_samples (by omega) (by omega)]
  omega

section
variable {t : State} {id k : Nat} {P : List Nat} {r : CamWait × State} (h : CamProgress t id P r) (hk : k < 8)
  (hP : k ∉ P) (hpre : t.time.preEpoch = false)
include h hk hP hpre

theorem CamProgress.edge_later (hlater : t.edgeLater k = true) :
    CamProgress t id (P ++ [k]) (CamWait.edge t.ix r (k, t.edgeAt k)) := by
  have hcome : 0 < seqDiff 32 (t.edgeAt k % 2 ^ 32) (t.ix % 2 ^ 32) :=
    (t.edge_to_come_iff k).2 (by simpa [State.edgeLater, hpre] using hlater)
  have hrun : CamWait.edge t.ix r (k, t.edgeAt k) =
      ({ r.1 with edges := r.1.edges ++ [(k, t.edgeAt k)] }, r.2) := if_pos hcome
  rw [hrun]
  exact {
    frame := h.frame
    waiting := h.waiting
    flight := h.flight
    edges := by simp [h.edges, hlater]
    mask := by simp [h.mask, State.edgeHits, hlater, b1]
    at_ := h.at_
    sensor := fun j hj => by
      by_cases hjk : j = k
      · subst hjk
        simp [h.sensor j hj, hP, State.afterEdge, hlater]
      · simp [h.sensor j hj, hjk] }

/-- An edge that has come triggers its sensor, or only counts a skip. -/
theorem CamProgress.edge_now (hdecl : (t.sensorEntry? k).isSome = true) (hnow : t.edgeLater k = false) :
    CamProgress t id (P ++ [k]) (CamWait.edge t.ix r (k, t.edgeAt k)) := by
  have hdelay : ¬ (t.sensor k).delay < 240 := by simpa [State.edgeLater, hpre] using hnow
  have hat : t.edgeAt k = t.ix := by
    unfold State.edgeAt
    omega
  have heph : r.2.eph = t.eph := h.frame .eph (by simp)
  have hentry : (r.2.sensorEntry? k).isNone = false := by
    rw [State.sensorEntry?_congr heph]
    cases hs : t.sensorEntry? k <;> simp_all
  have hsensor : r.2.sensor k = t.sensor k := by simp [h.sensor k hk, hP]
  have hrun : CamWait.edge t.ix r (k, t.edgeAt k) =
      (if (r.2.trigOrSkip k t.ix).1 then
        { r.1 with mask := r.1.mask + 2 ^ k, at_ := if r.1.mask = 0 then t.ix else r.1.at_ } else r.1,
        (r.2.trigOrSkip k t.ix).2) := by
    refine (if_neg (fun hcome => hdelay ((t.edge_to_come_iff k).1 hcome))).trans ?_
    rw [hentry, hat]
    rfl
  have hhit : (r.2.trigOrSkip k t.ix).1 = t.edgeHits k := by
    rw [State.trigOrSkip_fst, hsensor, State.edgeHits, hnow]
    rfl
  rw [hrun, hhit]
  exact {
    frame := h.frame.trans ((State.trigOrSkip_sameBut k t.ix r.2).mono (by simp))
    waiting := (State.trigOrSkip_waiting k t.ix r.2).trans h.waiting
    flight := by cases t.edgeHits k <;> exact h.flight
    edges := by cases t.edgeHits k <;> simp [h.edges, hnow]
    mask := by cases hh : t.edgeHits k <;> simp [h.mask, hh, b1]
    at_ := by cases t.edgeHits k <;> by_cases hm : r.1.mask = 0 <;> simp [h.at_, hm]
    sensor := fun j hj => by
      by_cases hjk : j = k
      · subst hjk
        simp [State.afterEdge, hnow, State.sensor_trigOrSkip_congr hj hsensor heph]
      · simp [State.sensor_trigOrSkip_other hjk, h.sensor j hj, hjk] }

end

/-- After the epoch the edges are looked at one after another. -/
theorem CamProgress.looks {t : State} (hpre : t.time.preEpoch = false) (id : Nat) (P : List Nat) (hnodup : P.Nodup)
    (hP : ∀ k ∈ P, k < 8 ∧ (t.sensorEntry? k).isSome = true) :
    CamProgress t id P ((P.map fun k => (k, t.edgeAt k)).foldl (CamWait.edge t.ix) ({ flight := id, edges := [] }, t)) := by
  induction P using List.reverseRecOn with
  | nil => exact CamProgress.start t id
  | append_singleton P k ih =>
    obtain ⟨hnew, hbefore⟩ := (List.nodup_concat P k).1 (by simpa using hnodup)
    obtain ⟨hk, hdecl⟩ := hP k (by simp)
    have hprogress := ih hbefore fun j hj => hP j (by simp [hj])
    rw [List.map_append, List.foldl_append, List.map_singleton, List.foldl_cons, List.foldl_nil]
    cases hlater : t.edgeLater k with
    | true => exact hprogress.edge_later hk hnew hpre hlater
    | false => exact hprogress.edge_now hk hnew hpre hdecl hlater

end Sys2Proof.Machine
end

section
/-!
The CAM commands (R335, R345): what each returns, triggers or loads.
-/

namespace Sys2Proof.Machine

/-! ## Reads of delivered frames -/

theorem State.meetsPoison_of_none {which : Nat → Bool} {s : State} (h : (s.mem.poison.filter fun p => which p.1) = []) :
    s.meetsPoison which = (none, s) :=
  if_pos h

section
variable {e : Entry} {s t : State} {f : Flight} {c : CamStored} (hsensor : (t.sensorEntry? (e.u 0x18 1)).isSome = true)
  (hc : t.camStored? e = some c)
include hsensor hc

theorem State.camReadChecks_pass {len : Nat} (hroom : len ≤ e.room) : ∀ x ∈ t.camReadChecks e len, x.1 = false := by
  obtain ⟨h, hh⟩ := Option.isSome_iff_exists.1 hsensor
  simp [State.camReadChecks, hh, hc, hroom]

section
variable (hz : (e.zeroFrom 0x19 3).1 = false) (hz' : (e.zeroFrom 0x20 32).1 = false)
include hz hz'

/-- A read whose checks pass completes with what it takes of the kept frame. -/
theorem State.camRead_answers {len : Nat} (hroom : len ≤ e.room) (data : CamStored → List Byte) :
    (t.checked f ([e.zeroFrom 0x19 3, e.zeroFrom 0x20 32] ++ t.camReadChecks e len) fun s =>
      s.ok f 0 0 ((s.camStored? e).elim [] data)) = t.ok f 0 0 (data c) := by
  rw [checked_of_none, hc, Option.elim_some]
  rw [firstBad_eq_none, List.forall_mem_append]
  exact ⟨by simp [hz, hz'], State.camReadChecks_pass hsensor hc hroom⟩

theorem exec_camFrameInfo (h : Dispatched 0x0700 e s f t) (hroom : 32 ≤ e.room) :
    exec (.camFrameInfo e) s = .next (t.ok f 0 0 (c.frame.record (e.u 0x18 1))) :=
  (command_of_dispatched h _).trans (congrArg Host.Outcome.next (State.camRead_answers hsensor hc hz hz' hroom _))

theorem exec_camHistRead (h : Dispatched 0x0701 e s f t) (hroom : 1024 ≤ e.room) :
    exec (.camHistRead e) s = .next (t.ok f 0 0 (c.hist.flatMap (leBytes 4))) :=
  (command_of_dispatched h _).trans (congrArg Host.Outcome.next (State.camRead_answers hsensor hc hz hz' hroom _))

theorem exec_camZoneRead (h : Dispatched 0x0703 e s f t) (hroom : 512 ≤ e.room) :
    exec (.camZoneRead e) s = .next (t.ok f 0 0 (c.zones.flatMap fun z => leBytes 2 (z.getD 0))) :=
  (command_of_dispatched h _).trans (congrArg Host.Outcome.next (State.camRead_answers hsensor hc hz hz' hroom _))

end

/-! ## CAM_FRAME_READ (R332, R344) -/

/-- The rows of a kept frame that a CAM_FRAME_READ may name: embedded lines with EMB, and else pixels. -/
def CamStored.rows (c : CamStored) (px : List (List Nat)) (emb : Nat) : List (List Byte) :=
  if emb = 1 then c.frame.emb else px.map fun r => r.flatMap (leBytes 2)

/-- A frame counts as being copied. -/
def Sensor.copies (ns : List Nat) (x : Sensor) : Sensor := { x with copying := x.copying ++ ns }

theorem exec_camFrameRead {px : List (List Nat)} (h : Dispatched 0x0702 e s f t) (hemb : e.u 0x19 1 ≤ 1)
    (hz : (e.zeroFrom 0x1A 2).1 = false) (hz' : (e.zeroFrom 0x24 28).1 = false) (hn : e.u 0x22 2 ≠ 0)
    (hpx : c.pixels = some px) (hrows : e.u 0x20 2 + e.u 0x22 2 ≤ (c.rows px (e.u 0x19 1)).length)
    (hroom : (((c.rows px (e.u 0x19 1)).drop (e.u 0x20 2)).take (e.u 0x22 2)).flatten.length ≤ e.room)
    (hpoison : (t.mem.poison.filter fun p => decide (2 ≤ p.1)) = []) :
    exec (.camFrameRead e) s = .next ((t.modSensor (e.u 0x18 1)
        (Sensor.copies (if e.u 0x19 1 = 1 then [] else [c.frame.number]))).ok f 0 0
      (((c.rows px (e.u 0x19 1)).drop (e.u 0x20 2)).take (e.u 0x22 2)).flatten) := by
  have hlines : ((t.camStored? e).elim [] fun c => if e.u 0x19 1 = 1 then (if c.pixels.isSome then c.frame.emb else [])
      else c.pixels.elim [] fun p => p.map fun r => r.flatMap (leBytes 2)) = c.rows px (e.u 0x19 1) := by
    simp [hc, hpx, CamStored.rows]
  refine (command_of_dispatched h _).trans (congrArg Host.Outcome.next ?_)
  dsimp only
  rw [hlines, checked_of_none]
  · rw [State.meetsPoison_of_none (which := fun ch => decide (2 ≤ ch)) hpoison, hc]
    rfl
  · rw [firstBad_eq_none, List.forall_mem_append, List.forall_mem_append]
    refine ⟨⟨by simp [hemb, hz, hz', hn], State.camReadChecks_pass hsensor hc (Nat.zero_le _)⟩, ?_⟩
    simpa [hc, hpx, hrows] using hroom

end

/-! ## Loads of tables (R341) -/

/-- The defects that a CAM_DEFECT_LOAD of `m` entries gives: rows and columns. -/
def Entry.defectList (e : Entry) (m : Nat) : List (Nat × Nat) :=
  (List.range m).map fun j => (e.d (4 * j) 4 / 65536, e.d (4 * j) 4 % 65536)

theorem exec_camDefectLoad {e : Entry} {s t : State} {f : Flight} (h : Dispatched 0x0741 e s f t)
    (hz : (e.zeroFrom 0x19 1).1 = false) (hz' : (e.zeroFrom 0x1C 36).1 = false) (hm : e.u 0x1A 2 ≤ 4096)
    (hctx : t.ctxDeclared (e.u 0x18 1) = true) (hlen : e.dataLen = 4 * e.u 0x1A 2)
    (hin : e.inline = true → 4 * e.u 0x1A 2 ≤ 1344)
    (hrise : ∀ j, j + 1 < e.u 0x1A 2 → e.d (4 * j) 4 < e.d (4 * (j + 1)) 4) :
    exec (.camDefectLoad e) s =
      .next ((t.modCamCtx (e.u 0x18 1) fun c => { c with defects := e.defectList (e.u 0x1A 2) }).ok f 0 0 []) := by
  refine (command_of_dispatched h _).trans (congrArg Host.Outcome.next ((checked_of_none ?_ _ t).trans rfl))
  rw [firstBad_eq_none, List.forall_mem_append]
  refine ⟨by simpa [hz, hz', hm, hctx, hlen] using hin, fun x hx => ?_⟩
  obtain ⟨j, hj, rfl⟩ := List.mem_map.1 hx
  have hj' : j + 1 < e.u 0x1A 2 := by
    have := List.mem_range.1 hj
    omega
  simpa [execCamDefectLoad.axOrder] using hrise j hj'

theorem exec_camShadingLoad {e : Entry} {s t : State} {f : Flight} (h : Dispatched 0x0742 e s f t)
    (hz : (e.zeroFrom 0x19 39).1 = false) (hctx : t.ctxDeclared (e.u 0x18 1) = true) (hlen : e.dataLen = 578) :
    exec (.camShadingLoad e) s = .next ((t.modCamCtx (e.u 0x18 1) fun c =>
      { c with gains := (List.range 289).map fun j => e.d (2 * j) 2 }).ok f 0 0 []) := by
  refine (command_of_dispatched h _).trans (congrArg Host.Outcome.next (checked_of_none ?_ _ t))
  rw [firstBad_eq_none]
  simp [hz, hctx, hlen]

/-! ## CAM_TRIGGER (R329, R345) -/

/-- The CAM_TRIGGER `w` waits for its edges. -/
def State.awaitEdges (w : CamWait) (s : State) : State :=
  { s with camera := { s.camera with waiting := s.camera.waiting ++ [w] } }

/-- The sensors that a CAM_TRIGGER names. -/
def Entry.camMask (e : Entry) : List Nat := bitsSet (BitVec.ofNat 32 (e.u 0x18 1)) 8

theorem Entry.mem_camMask {e : Entry} {k : Nat} : k ∈ e.camMask ↔ k < 8 ∧ (e.u 0x18 1).testBit k = true := by
  simp only [Entry.camMask, bitsSet, List.mem_filter, List.mem_range]
  refine and_congr_right fun hk => ?_
  rw [BitVec.getLsbD_ofNat, decide_eq_true (by omega), Bool.true_and]

theorem Entry.nodup_camMask (e : Entry) : e.camMask.Nodup := List.nodup_range.filter _

/-- A CAM_TRIGGER of flight `id` on the sensors `P`, before its edges are looked at. -/
def State.camWait (s : State) (id : Nat) (P : List Nat) : CamWait :=
  { flight := id, edges := P.map fun k => (k, s.edgeAt k) }

/-- The edges of a CAM_TRIGGER are looked at; none comes before the epoch (R373). -/
def State.camLook (s : State) (w : CamWait) : CamWait × State :=
  if s.time.preEpoch then (w, s) else s.camEdges s.ix w

theorem State.camLook_progress {t : State} {P : List Nat} (hnodup : P.Nodup)
    (hP : ∀ k ∈ P, k < 8 ∧ (t.sensorEntry? k).isSome = true) (id : Nat) :
    CamProgress t id P (t.camLook (t.camWait id P)) := by
  unfold State.camLook
  cases hpre : t.time.preEpoch with
  | true => exact CamProgress.waits hpre id P
  | false => exact CamProgress.looks hpre id P hnodup hP

/-- A CAM_TRIGGER completes when no edge of its sensors is left to come. -/
theorem exec_camTrigger {e : Entry} {s t : State} {f : Flight} (h : Dispatched 0x0740 e s f t)
    (hz : (e.zeroFrom 0x19 39).1 = false) (hdecl : ∀ k ∈ e.camMask, (t.sensorEntry? k).isSome = true) :
    let r := t.camLook (t.camWait f.id e.camMask)
    exec (.camTrigger e) s =
      .next (if r.1.edges = [] then r.2.ok f r.1.mask r.1.at_ [] else (r.2.launch f).awaitEdges r.1) := by
  refine (command_of_dispatched h _).trans (congrArg Host.Outcome.next ((checked_of_none ?_ _ t).trans rfl))
  rw [firstBad_eq_none]
  simp only [List.forall_mem_cons, List.not_mem_nil, false_imp_iff, implies_true, and_true, hz]
  exact List.any_eq_false.2 fun k hk => by simpa [Option.isSome_iff_ne_none] using hdecl k hk

/-- Sensors that a CAM_TRIGGER triggers: those of its mask whose edge comes now and finds no frame outstanding. -/
theorem CamProgress.mask_eq {e : Entry} {t : State} {id : Nat} {r : CamWait × State} (h : CamProgress t id e.camMask r) :
    r.1.mask = (maskOf 8 fun k => (e.u 0x18 1).testBit k && t.edgeHits k).toNat := by
  rw [h.mask, (toNat_maskOf (by decide) _).1, Entry.camMask, bitsSet, sum_bits_filter]
  refine congrArg List.sum (List.map_congr_left fun k hk => ?_)
  have hk' : k < 32 := by
    have := List.mem_range.1 hk
    omega
  rw [BitVec.getLsbD_ofNat, decide_eq_true hk', Bool.true_and]

/-- RESULT1: the edge of the first sensor triggered. -/
theorem CamProgress.at_eq {e : Entry} {t : State} {id : Nat} {r : CamWait × State} (h : CamProgress t id e.camMask r) :
    r.1.at_ = if (maskOf 8 fun k => (e.u 0x18 1).testBit k && t.edgeHits k) = 0 then 0 else t.ix := by
  rw [h.at_, h.mask_eq]
  simp only [BitVec.toNat_eq]
  rfl

theorem CamProgress.mem_edges {e : Entry} {t : State} {id : Nat} {r : CamWait × State}
    (h : CamProgress t id e.camMask r) (k at_ : Nat) : (k, at_) ∈ r.1.edges ↔
      k < 8 ∧ ((e.u 0x18 1).testBit k && t.edgeLater k) = true ∧ at_ = t.edgeAt k := by
  rw [h.edges]
  simp only [List.mem_map, List.mem_filter, Entry.mem_camMask, Prod.mk.injEq, Bool.and_eq_true]
  constructor
  · rintro ⟨j, ⟨⟨hj, hbit⟩, hlater⟩, rfl, rfl⟩
    exact ⟨hj, ⟨hbit, hlater⟩, rfl⟩
  · rintro ⟨hj, ⟨hbit, hlater⟩, rfl⟩
    exact ⟨k, ⟨⟨hj, hbit⟩, hlater⟩, rfl, rfl⟩

/-- What a CAM_TRIGGER makes of its sensors: triggers, skips, and nothing where the edge is still to come. -/
theorem CamProgress.acted {e : Entry} {t : State} {id : Nat} {r : CamWait × State} (h : CamProgress t id e.camMask r)
    {k : Nat} (hk : k < 8) :
    (((e.u 0x18 1).testBit k && t.edgeHits k) = true → (r.2.sensor k).lastFrame = (t.sensor k).lastFrame + 1 ∧
      ∃ g, (r.2.sensor k).cur = some g ∧ g.number = (t.sensor k).lastFrame + 1 ∧ g.trig = t.ix ∧
        g.winStart = g.trig + (t.sensor k).delay ∧ g.winEnd = g.winStart + 4 * g.expUs ∧ g.opened = false) ∧
    (((e.u 0x18 1).testBit k && !t.edgeLater k) = true → (t.sensor k).cur.isSome = true →
      r.2.sensor k = { t.sensor k with skipCnt := (t.sensor k).skipCnt.inc }) ∧
    (((e.u 0x18 1).testBit k && !t.edgeLater k) = false → r.2.sensor k = t.sensor k) := by
  rw [h.sensor k hk]
  simp only [Entry.mem_camMask, hk, true_and, State.afterEdge, State.edgeHits]
  cases (e.u 0x18 1).testBit k <;> cases t.edgeLater k <;> simp
  case true.false => exact ⟨fun hfree => State.sensor_triggered hk hfree t.ix, fun hbusy => State.sensor_skipped hk hbusy t.ix⟩

/-! ## The obligation -/

/-- Settles O44, from the equation of each command and what `CamProgress` says of a CAM_TRIGGER's edges. -/
theorem cameraCommandsReadTriggerAndLoad : Obligations.CameraCommandsReadTriggerAndLoad := by
  intro e s t f i n hi hi8 hn
  subst hi hn
  refine ⟨fun c hsensor hc => ⟨fun hz hz' => ⟨exec_camFrameInfo hsensor hc hz hz', exec_camHistRead hsensor hc hz hz',
    exec_camZoneRead hsensor hc hz hz'⟩, fun px data hd hemb hz hz' hrows hpx hpixels hlines hroom hpoison => ?frameRead⟩,
    fun hd hz hdecl => ?trigger, fun m hm hd hz hz' hmax hctx hlen hin hrise => ?defects, fun hd hz hctx hlen => ?shading⟩
  case frameRead =>
    have hc' : t.camStored? e = some c := hc
    obtain ⟨hfit, hdata⟩ : e.u 0x20 2 + e.u 0x22 2 ≤ (c.rows px (e.u 0x19 1)).length ∧
        data = (((c.rows px (e.u 0x19 1)).drop (e.u 0x20 2)).take (e.u 0x22 2)).flatten := by
      rcases Nat.le_one_iff_eq_zero_or_eq_one.1 hemb with hzero | hone
      · obtain ⟨hfit, hdata⟩ := hpixels hzero
        simp [CamStored.rows, hzero, hfit, hdata, List.flatMap, List.map_drop, List.map_take]
      · obtain ⟨hfit, hdata⟩ := hlines hone
        simp [CamStored.rows, hone, hfit, hdata]
    rw [hdata] at hroom ⊢
    refine ⟨_, exec_camFrameRead hsensor hc' hd hemb hz hz' hrows hpx hfit hroom hpoison, State.modSensor_sameBut _ _ t,
      State.sensor_modSensor_same hi8 _ t, fun k hk => State.sensor_modSensor_other hk _ t, rfl⟩
  case trigger =>
    intro dly later now hit acted
    have hlater (k : Nat) : later k = ((e.u 0x18 1).testBit k && t.edgeLater k) := rfl
    have hnow (k : Nat) : now k = ((e.u 0x18 1).testBit k && !t.edgeLater k) := by
      show ((e.u 0x18 1).testBit k && !later k) = _
      rw [hlater]
      cases (e.u 0x18 1).testBit k <;> simp
    have hhit : hit = fun k => (e.u 0x18 1).testBit k && t.edgeHits k := by
      funext k
      show (now k && (t.sensor k).cur.isNone) = _
      rw [hnow, State.edgeHits, Bool.and_assoc]
    have hnamed : ∀ k ∈ e.camMask, k < 8 ∧ (t.sensorEntry? k).isSome = true := fun k hk =>
      have hbit := Entry.mem_camMask.1 hk
      ⟨hbit.1, hdecl k hbit.1 hbit.2⟩
    have hrun := exec_camTrigger hd hz fun k hk => (hnamed k hk).2
    have hprogress := State.camLook_progress e.nodup_camMask hnamed f.id
    generalize t.camLook (t.camWait f.id e.camMask) = r at hrun hprogress
    have hmask : r.1.mask = (maskOf 8 hit).toNat := by rw [hhit, hprogress.mask_eq]
    have hat : r.1.at_ = if maskOf 8 hit = 0 then 0 else t.ix := by rw [hhit, hprogress.at_eq]
    have hacted {u : State} (hu : ∀ k, u.sensor k = r.2.sensor k) : acted u := fun k hk => by
      obtain ⟨htrig, hskip, hkeep⟩ := hprogress.acted hk
      rw [hhit, hnow, hu]
      exact ⟨htrig, hskip, hkeep⟩
    refine ⟨fun hnone => ⟨r.2, ?_, hprogress.frame, hacted fun _ => rfl⟩, fun hsome => ?_⟩
    · have hover : r.1.edges = [] := List.eq_nil_iff_forall_not_mem.2 fun x hx => by
        obtain ⟨hk, hcome, -⟩ := (hprogress.mem_edges x.1 x.2).1 hx
        rw [← hlater, hnone x.1 hk] at hcome
        cases hcome
      rw [hrun, if_pos hover, hmask, hat]
    · obtain ⟨k, hk, hcome⟩ := hsome
      have hleft : r.1.edges ≠ [] := List.ne_nil_of_mem ((hprogress.mem_edges k _).2 ⟨hk, hcome, rfl⟩)
      have hcam : (r.2.launch f).camera = r.2.camera := r.2.launch_sameBut f .camera (by simp)
      refine ⟨_, r.1, hrun.trans (congrArg _ (if_neg hleft)), ?_, hacted fun j => ?_, ?_, hprogress.flight, hmask,
        fun j at_ => hprogress.mem_edges j at_⟩
      · exact ((hprogress.frame.mono (by simp)).trans ((r.2.launch_sameBut f).mono (by simp))).trans
          ((sameBut_camera _ _).mono (by simp))
      · exact State.sensor_congr (congrArg Camera.sensors hcam) j
      · show (r.2.launch f).camera.waiting ++ [r.1] = _
        rw [hcam, hprogress.waiting]
  case defects =>
    subst hm
    exact ⟨_, exec_camDefectLoad hd hz hz' hmax hctx hlen hin hrise, State.modCamCtx_sameBut _ _ t,
      State.camCtx_modCamCtx_same hi8 _ t, fun c hc => State.camCtx_modCamCtx_other hc _ t, rfl⟩
  case shading =>
    exact ⟨_, exec_camShadingLoad hd hz hctx hlen, State.modCamCtx_sameBut _ _ t,
      State.camCtx_modCamCtx_same hi8 _ t, fun c hc => State.camCtx_modCamCtx_other hc _ t, rfl⟩

end Sys2Proof.Machine
end

section
/-!
The packets of a camera port (R326, R327, R331–R334): which are only counted, what opens and closes a frame, and what
becomes of its lines.
-/

namespace Sys2Proof.Machine

/-! ## What comes before a packet's own work -/

/-- Nothing but counts of corrected headers and the lane taps differs. -/
def HeaderRead (port : Nat) (s u : State) : Prop :=
  ∃ x c, u = { s with camera := { s.camera with ports := x }, cal := c } ∧
    (nth {} x port).unexp = (nth {} s.camera.ports port).unexp ∧ (nth {} x port).crc = (nth {} s.camera.ports port).crc

theorem State.eccFix_read {port : Nat} (hp : port < 2) (ecc : Bool) (s : State) : HeaderRead port s (s.eccFix port ecc) := by
  unfold State.eccFix
  split
  · refine ⟨_, _, rfl, ?_⟩
    rw [nth_upd_same _ _ _ hp]
    exact ⟨rfl, rfl⟩
  · exact ⟨_, _, rfl, rfl, rfl⟩

theorem State.eccFix_sameBut (port : Nat) (ecc : Bool) (s : State) : SameBut [.camera] s (s.eccFix port ecc) :=
  SameBut.ite (State.modCamPort_sameBut _ _ s) (SameBut.refl _ s)

theorem State.applyTaps_eq (port : Nat) (s : State) : ∃ c, s.applyTaps port = { s with cal := c } := by
  unfold State.applyTaps
  split
  · exact ⟨_, rfl⟩
  · exact ⟨_, rfl⟩

theorem State.applyTaps_read {port : Nat} (hp : port < 2) (ecc : Bool) (s : State) :
    HeaderRead port s ((s.eccFix port ecc).applyTaps port) := by
  obtain ⟨x, c, h, hunexp, hcrc⟩ := s.eccFix_read hp ecc
  obtain ⟨c', h'⟩ := (s.eccFix port ecc).applyTaps_eq port
  rw [h', h]
  exact ⟨x, c', rfl, hunexp, hcrc⟩

theorem State.applyTaps_sameBut (port : Nat) (ecc : Bool) (s : State) :
    SameBut [.camera, .cal] s ((s.eccFix port ecc).applyTaps port) := by
  obtain ⟨c, h⟩ := (s.eccFix port ecc).applyTaps_eq port
  rw [h]
  exact (s.eccFix_sameBut port ecc).comp (sameBut_cal _ c)

section
variable {port : Nat} {s u : State} (h : HeaderRead port s u)
include h

theorem HeaderRead.vcSensor? (vc : Nat) : u.vcSensor? port vc = s.vcSensor? port vc := by
  obtain ⟨x, c, rfl, -⟩ := h
  rfl

theorem HeaderRead.sensor (i : Nat) : u.sensor i = s.sensor i := by
  obtain ⟨x, c, rfl, -⟩ := h
  rfl

theorem HeaderRead.camCtx (i : Nat) : u.camCtx i = s.camCtx i := by
  obtain ⟨x, c, rfl, -⟩ := h
  rfl

theorem HeaderRead.ix : u.ix = s.ix := by
  obtain ⟨x, c, rfl, -⟩ := h
  rfl

theorem HeaderRead.blocksUsed : u.blocksUsed = s.blocksUsed := by
  obtain ⟨x, c, rfl, -⟩ := h
  rfl

theorem HeaderRead.crc : (nth {} u.camera.ports port).crc = (nth {} s.camera.ports port).crc := by
  obtain ⟨x, c, rfl, -, hcrc⟩ := h
  exact hcrc

end

/-! ## Packets that are only counted (R327, R331) -/

/-- The port counts an unexpected packet, and no sensor changes. -/
def PacketCounted (port : Nat) (s t : State) : Prop :=
  (nth {} t.camera.ports port).unexp = (nth {} s.camera.ports port).unexp.inc ∧ t.camera.sensors = s.camera.sensors

theorem HeaderRead.counted {port : Nat} (hp : port < 2) {s u : State} (h : HeaderRead port s u) :
    PacketCounted port s (u.unexpected port) := by
  obtain ⟨x, c, rfl, hunexp, -⟩ := h
  refine ⟨?_, rfl⟩
  rw [State.unexpected, State.nth_modCamPort hp]
  exact congrArg Counter.inc hunexp

theorem PacketCounted.sensor {port : Nat} {s t : State} (h : PacketCounted port s t) (i : Nat) :
    t.sensor i = s.sensor i :=
  State.sensor_congr h.2 i

section
variable {port vc : Nat} {s : State} (hp : port < 2)
include hp

/-- A frame start that no trigger awaits. -/
theorem csiFrameStart_counted (ecc : Bool) (h : ∀ e, s.vcSensor? port vc = some e → (s.sensor e.sensor).cur = none) :
    ∃ t, exec (.csiFrameStart port vc ecc) s = .next t ∧ SameBut [.camera, .cal] s t ∧ PacketCounted port s t := by
  have hread := s.applyTaps_read hp ecc
  refine ⟨_, ?_, (s.applyTaps_sameBut port ecc).trans ((State.modCamPort_sameBut _ _ _).mono (by simp)),
    hread.counted hp⟩
  show execCsiFrameStart port vc ecc s = _
  unfold execCsiFrameStart
  dsimp only
  rw [hread.vcSensor? vc]
  split
  · rfl
  next e he =>
    rw [hread.sensor e.sensor, h e he]
    rfl

/-- A frame end of no open frame. -/
theorem csiFrameEnd_counted (ecc : Bool)
    (h : ∀ e, s.vcSensor? port vc = some e → (s.sensor e.sensor).cur.any (·.opened) = false) :
    ∃ t, exec (.csiFrameEnd port vc ecc) s = .next t ∧ SameBut [.camera] s t ∧ PacketCounted port s t := by
  have hread := s.eccFix_read hp ecc
  refine ⟨_, ?_, (s.eccFix_sameBut port ecc).trans (State.modCamPort_sameBut _ _ _), hread.counted hp⟩
  show execCsiFrameEnd port vc ecc s = _
  unfold execCsiFrameEnd
  dsimp only
  rw [hread.vcSensor? vc]
  split
  · rfl
  next e he =>
    rw [hread.sensor e.sensor, h e he]
    rfl

/-- A long packet for no open frame, or of another type. -/
theorem csiLongPacket_counted {p : CsiPacket} (h : ∀ e, s.vcSensor? port p.vc = some e →
      (s.sensor e.sensor).cur.any (·.opened) = false ∨ (p.dt ≠ e.dataType ∧ p.dt ≠ 0x12)) :
    ∃ t, exec (.csiLongPacket port p) s = .next t ∧ SameBut [.camera] s t ∧ PacketCounted port s t := by
  have hread := s.eccFix_read hp p.ecc
  refine ⟨_, ?_, (s.eccFix_sameBut port p.ecc).trans (State.modCamPort_sameBut _ _ _), hread.counted hp⟩
  show execCsiLongPacket port p s = _
  unfold execCsiLongPacket
  dsimp only
  rw [hread.vcSensor? p.vc]
  split
  · rfl
  next e he =>
    rw [hread.sensor e.sensor]
    split
    next f hf =>
      refine congrArg Host.Outcome.next (if_pos ?_)
      rcases h e he with hclosed | ⟨hdt, hemb⟩
      · simp [hf] at hclosed
        simp [hclosed]
      · simp [hdt, hemb]
    next => rfl

end

/-! ## Headers that cannot be corrected (R327) -/

/-- The open frame of a sensor is marked HDR_ERR. -/
def Sensor.headerLost (x : Sensor) : Sensor :=
  { x with cur := x.cur.map fun f => if f.opened then { f with hdrErr := true } else f }

theorem exec_csiHeaderError (port vc : Nat) (s : State) : exec (.csiHeaderError port vc) s =
    .next ((s.vcSensor? port vc).elim (s.modCamPort port fun p => { p with hdr := p.hdr.inc }) fun e =>
      (s.modCamPort port fun p => { p with hdr := p.hdr.inc }).modSensor e.sensor Sensor.headerLost) := by
  show execCsiHeaderError port vc s = _
  have hvc : (s.modCamPort port fun p => { p with hdr := p.hdr.inc }).vcSensor? port vc = s.vcSensor? port vc := rfl
  unfold execCsiHeaderError
  dsimp only
  rw [hvc]
  cases s.vcSensor? port vc <;> rfl

/-! ## Frame starts and ends (R331–R333) -/

/-- The frame that a frame start opens, with the values and tables of its context (R331, R341). -/
def State.openedFrame (e : EphSensor) (f : CamFrame) (s : State) : CamFrame :=
  { f with
    opened := true, fs := s.ix, order := s.camera.order, ctx := e.context, vals := (s.camCtx e.context).live
    defects := (s.camCtx e.context).defects, gains := (s.camCtx e.context).gains }

/-- The frame `f` stands open at its sensor, one more arrival is counted, and the pipeline looks for work. -/
def State.openFrame (e : EphSensor) (f : CamFrame) (s : State) : State :=
  let t := s.modSensor e.sensor fun x => { x with cur := some (s.openedFrame e f) }
  ({ t with camera := { t.camera with order := s.camera.order + 1 } }).takeUnit

theorem State.openFrame_sameBut (e : EphSensor) (f : CamFrame) (s : State) : SameBut [.camera] s (s.openFrame e f) :=
  ((State.modSensor_sameBut _ _ s).trans (sameBut_camera _ _)).trans (State.takeUnit_sameBut _)

theorem State.sensor_openFrame {e : EphSensor} (hi : e.sensor < 8) (f : CamFrame) (s : State) :
    (s.openFrame e f).sensor e.sensor = { s.sensor e.sensor with cur := some (s.openedFrame e f) } :=
  (State.sensor_takeUnit _ _).trans (State.sensor_modSensor_same hi _ s)

section
variable {port vc : Nat} {s : State} {e : EphSensor} {f : CamFrame} (hp : port < 2)
  (hv : s.vcSensor? port vc = some e) (hf : (s.sensor e.sensor).cur = some f)
include hp hv hf

/-- A frame start opens the outstanding frame; a second one closes it. -/
theorem exec_csiFrameStart (ecc : Bool) : exec (.csiFrameStart port vc ecc) s =
    .next (if f.opened then ((s.eccFix port ecc).applyTaps port).closeFrame e true false
      else ((s.eccFix port ecc).applyTaps port).openFrame e f) := by
  have hread := s.applyTaps_read hp ecc
  show execCsiFrameStart port vc ecc s = _
  unfold execCsiFrameStart
  dsimp only
  rw [hread.vcSensor? vc, hv]
  dsimp only
  rw [hread.sensor e.sensor, hf]
  exact (apply_ite _ _ _ _).symm

theorem exec_csiFrameEnd_of_open (ho : f.opened = true) (ecc : Bool) : exec (.csiFrameEnd port vc ecc) s =
    .next ((s.eccFix port ecc).closeFrame e false false) := by
  have hread := s.eccFix_read hp ecc
  show execCsiFrameEnd port vc ecc s = _
  unfold execCsiFrameEnd
  dsimp only
  rw [hread.vcSensor? vc, hv]
  dsimp only
  rw [hread.sensor e.sensor, hf]
  exact congrArg Host.Outcome.next (if_pos ho)

theorem exec_csiLongPacket_of_open {p : CsiPacket} (hvc : p.vc = vc) (ho : f.opened = true)
    (hdt : p.dt = e.dataType ∨ p.dt = 0x12) :
    exec (.csiLongPacket port p) s = .next ((s.eccFix port p.ecc).camLine e p f) := by
  subst hvc
  have hread := s.eccFix_read hp p.ecc
  show execCsiLongPacket port p s = _
  unfold execCsiLongPacket
  dsimp only
  rw [hread.vcSensor? p.vc, hv]
  dsimp only
  rw [hread.sensor e.sensor, hf]
  exact congrArg Host.Outcome.next (if_neg (by rcases hdt with h | h <;> simp [ho, h]))

end

end Sys2Proof.Machine
end

section
/-!
The lines of an open frame (R333, R334, R340): kept, embedded, beyond HEIGHT, without room, or of a wrong length.
-/

namespace Sys2Proof.Machine

/-! ## What every line does -/

/-- A bad payload CRC counts at the port. -/
def State.countCrc (e : EphSensor) (p : CsiPacket) (s : State) : State :=
  if p.crcOk then s else s.modCamPort e.port fun q => { q with crc := q.crc.inc }

/-- A bad payload CRC marks the frame. -/
def CamFrame.checked (p : CsiPacket) (f : CamFrame) : CamFrame := { f with crcErr := f.crcErr || !p.crcOk }

/-- `g` stands open at sensor `i`. -/
def State.putFrame (i : Nat) (g : CamFrame) (s : State) : State := s.modSensor i fun x => { x with cur := some g }

theorem State.sensor_putFrame {i : Nat} (hi : i < 8) (g : CamFrame) (s : State) :
    (s.putFrame i g).sensor i = { s.sensor i with cur := some g } :=
  State.sensor_modSensor_same hi _ s

/-- A line's CRC has been counted, and nothing but the cameras changed. -/
structure CrcCounted (e : EphSensor) (p : CsiPacket) (s t : State) : Prop where
  frame : SameBut [.camera] s t
  crc : (nth {} t.camera.ports e.port).crc =
    if p.crcOk = true then (nth {} s.camera.ports e.port).crc else (nth {} s.camera.ports e.port).crc.inc

/-- Work on the sensors leaves the count of the port. -/
theorem CrcCounted.trans {e : EphSensor} {p : CsiPacket} {s t u : State} (h : CrcCounted e p s t)
    (hsame : SameBut [.camera] t u) (hports : u.camera.ports = t.camera.ports) : CrcCounted e p s u where
  frame := h.frame.trans hsame
  crc := by rw [hports, h.crc]

section
variable {e : EphSensor} {p : CsiPacket} {s : State}

theorem State.sensor_countCrc (i : Nat) : (s.countCrc e p).sensor i = s.sensor i := by
  unfold State.countCrc
  split <;> rfl

theorem State.blocksUsed_countCrc : (s.countCrc e p).blocksUsed = s.blocksUsed := by
  unfold State.countCrc
  split <;> rfl

theorem State.countCrc_counted (hport : e.port < 2) : CrcCounted e p s (s.countCrc e p) where
  frame := SameBut.ite (SameBut.refl _ s) (State.modCamPort_sameBut _ _ s)
  crc := by
    unfold State.countCrc
    split
    · rfl
    · rw [State.nth_modCamPort hport]

theorem State.putFrame_counted (hport : e.port < 2) (g : CamFrame) :
    CrcCounted e p s ((s.countCrc e p).putFrame e.sensor g) :=
  (State.countCrc_counted hport).trans (State.modSensor_sameBut _ _ _) rfl

end

/-! ## The five kinds of line -/

section
variable {e : EphSensor} {p : CsiPacket} {f : CamFrame} {s : State}

/-- A frame more that lost a line for want of a block. -/
def Sensor.overran (x : Sensor) : Sensor := { x with overrunCnt := x.overrunCnt.inc }

/-- Frame `f` with the line `p`, which came as number `n` in the order of arrival (R339). -/
def CamFrame.taken (e : EphSensor) (p : CsiPacket) (n : Nat) (f : CamFrame) : CamFrame :=
  { f.checked p with
    lines := f.lines ++ [unpackRaw e.dataType e.width p.payload], stamps := f.stamps ++ [n] }

/-- The line of number `n` stands in the stripe buffer, and the pipeline looks for work. -/
def State.arrived (n peak : Nat) (s : State) : State :=
  ({ s with camera := { s.camera with order := n + 1, bufPeak := peak } } : State).takeUnit

theorem State.arrived_sameBut (n peak : Nat) (s : State) : SameBut [.camera] s (s.arrived n peak) :=
  (sameBut_camera s _).trans (State.takeUnit_sameBut _)

theorem State.arrived_ports (n peak : Nat) (s : State) : (s.arrived n peak).camera.ports = s.camera.ports :=
  State.takeUnit_ports _

theorem State.sensor_arrived (n peak : Nat) (s : State) (i : Nat) : (s.arrived n peak).sensor i = s.sensor i :=
  State.sensor_takeUnit _ i

/-- The word count of a line is the sensor's (R333). -/
def LineFits (e : EphSensor) (p : CsiPacket) : Prop :=
  p.payload.length = e.width * State.camLine.bitsPerPixelOf e.dataType / 8

theorem State.camLine_of_misfit (h : ¬ LineFits e p) :
    s.camLine e p f = (s.countCrc e p).putFrame e.sensor { f.checked p with wcErr := true } :=
  if_pos h

theorem State.camLine_of_embedded (h : LineFits e p) (hemb : p.dt = 0x12) : s.camLine e p f =
    (s.countCrc e p).putFrame e.sensor (if f.emb.length < e.embLines then { f.checked p with emb := f.emb ++ [p.payload] }
      else f.checked p) :=
  (if_neg (not_not_intro h)).trans (if_pos hemb)

section
variable (h : LineFits e p) (hdt : p.dt ≠ 0x12)
include h hdt

theorem State.camLine_of_extra (hfull : e.height ≤ f.lines.length) : s.camLine e p f =
    (s.countCrc e p).putFrame e.sensor { f.checked p with long := true, extra := min 0xFFFF (f.extra + 1) } :=
  ((if_neg (not_not_intro h)).trans (if_neg hdt)).trans (if_pos hfull)

theorem State.camLine_of_overrun (hshort : f.lines.length < e.height)
    (hfull : 2048 < s.blocksUsed + e.lineBlocks) : s.camLine e p f =
    (if f.overrun then s.countCrc e p else (s.countCrc e p).modSensor e.sensor Sensor.overran).putFrame e.sensor
      { f.checked p with overrun := true } := by
  rw [← State.blocksUsed_countCrc (e := e) (p := p)] at hfull
  exact (((if_neg (not_not_intro h)).trans (if_neg hdt)).trans (if_neg (Nat.not_le.2 hshort))).trans (if_pos hfull)

/-- A line with a free block is kept. -/
theorem State.camLine_of_kept (hshort : f.lines.length < e.height) (hfree : s.blocksUsed + e.lineBlocks ≤ 2048) :
    ∃ n peak, s.camLine e p f = ((s.countCrc e p).putFrame e.sensor (f.taken e p n)).arrived n peak := by
  rw [← State.blocksUsed_countCrc (e := e) (p := p)] at hfree
  exact ⟨_, _, (((if_neg (not_not_intro h)).trans (if_neg hdt)).trans (if_neg (Nat.not_le.2 hshort))).trans
    (if_neg (Nat.not_lt.2 hfree))⟩

end

variable (hport : e.port < 2) (hi : e.sensor < 8)
include hport hi

/-- What the open frame `f` becomes with a line, and what the line changes beside it. -/
def LineRead (e : EphSensor) (p : CsiPacket) (f : CamFrame) (s t : State) (g : CamFrame) : Prop :=
  CrcCounted e p s t ∧ (t.sensor e.sensor).cur = some g ∧ g.crcErr = (f.crcErr || !p.crcOk)

theorem LineRead.put {g : CamFrame} (hg : g.crcErr = (f.crcErr || !p.crcOk)) :
    LineRead e p f s ((s.countCrc e p).putFrame e.sensor g) g :=
  ⟨State.putFrame_counted hport g, congrArg Sensor.cur (State.sensor_putFrame hi g _), hg⟩

theorem State.camLine_misfit (h : ¬ LineFits e p) : ∃ g, LineRead e p f s (s.camLine e p f) g ∧
    g.wcErr = true ∧ g.lines = f.lines := by
  rw [State.camLine_of_misfit h]
  exact ⟨_, LineRead.put hport hi rfl, rfl, rfl⟩

theorem State.camLine_embedded (h : LineFits e p) (hemb : p.dt = 0x12) : ∃ g, LineRead e p f s (s.camLine e p f) g ∧
    g.lines = f.lines ∧ g.emb = if f.emb.length < e.embLines then f.emb ++ [p.payload] else f.emb := by
  rw [State.camLine_of_embedded h hemb]
  split
  · exact ⟨_, LineRead.put hport hi rfl, rfl, rfl⟩
  · exact ⟨_, LineRead.put hport hi rfl, rfl, rfl⟩

section
variable (h : LineFits e p) (hdt : p.dt ≠ 0x12)
include h hdt

theorem State.camLine_extra (hfull : e.height ≤ f.lines.length) : ∃ g, LineRead e p f s (s.camLine e p f) g ∧
    g.long = true ∧ g.extra = min 0xFFFF (f.extra + 1) ∧ g.lines = f.lines := by
  rw [State.camLine_of_extra h hdt hfull]
  exact ⟨_, LineRead.put hport hi rfl, rfl, rfl, rfl⟩

theorem State.camLine_overrun (hshort : f.lines.length < e.height) (hfull : 2048 < s.blocksUsed + e.lineBlocks) :
    ∃ g, LineRead e p f s (s.camLine e p f) g ∧ g.overrun = true ∧ g.lines = f.lines ∧
      ((s.camLine e p f).sensor e.sensor).overrunCnt =
        if f.overrun = true then (s.sensor e.sensor).overrunCnt else (s.sensor e.sensor).overrunCnt.inc := by
  have hcrc := State.countCrc_counted (p := p) (s := s) hport
  rw [State.camLine_of_overrun h hdt hshort hfull]
  refine ⟨{ f.checked p with overrun := true }, ⟨CrcCounted.trans ?_ (State.modSensor_sameBut _ _ _) rfl, ?_, rfl⟩, rfl,
    rfl, ?_⟩
  · split
    · exact hcrc
    · exact hcrc.trans (State.modSensor_sameBut _ _ _) rfl
  · rw [State.sensor_putFrame hi]
  · rw [State.sensor_putFrame hi]
    split
    · rw [State.sensor_countCrc]
    · rw [State.sensor_modSensor_same hi, State.sensor_countCrc]
      rfl

theorem State.camLine_kept (hshort : f.lines.length < e.height) (hfree : s.blocksUsed + e.lineBlocks ≤ 2048) :
    ∃ g, LineRead e p f s (s.camLine e p f) g ∧
      g.lines = f.lines ++ [unpackRaw e.dataType e.width p.payload] ∧ g.overrun = f.overrun ∧
      ((s.camLine e p f).sensor e.sensor).overrunCnt = (s.sensor e.sensor).overrunCnt := by
  obtain ⟨n, peak, hrun⟩ := State.camLine_of_kept h hdt hshort hfree
  have hsensor : (s.camLine e p f).sensor e.sensor = { s.sensor e.sensor with cur := some (f.taken e p n) } := by
    rw [hrun, State.sensor_arrived, State.sensor_putFrame hi, State.sensor_countCrc]
  have hcrc : CrcCounted e p s (s.camLine e p f) := by
    rw [hrun]
    exact (State.putFrame_counted hport _).trans (State.arrived_sameBut _ _ _) (State.arrived_ports _ _ _)
  refine ⟨f.taken e p n, ⟨hcrc, ?_, rfl⟩, rfl, rfl, ?_⟩
  · rw [hsensor]
  · rw [hsensor]

end

end

end Sys2Proof.Machine
end

section
/-!
Exposure windows that end (R328, R353): what the strobe wires and the open checks leave alone.
-/

namespace Sys2Proof.Machine

/-! ## Records of the management plane -/

/-- A record of the management plane takes no check value of the control plane (R407). -/
theorem State.record_management_sameBut (type : Nat) (payload : List Byte) (s : State) :
    SameBut [.tail] s (s.record type .management payload) := by
  unfold State.record State.recordIn State.recordAt
  exact SameBut.ite (sameBut_tail s _) (SameBut.ite (SameBut.ite (sameBut_tail s _) (sameBut_tail s _))
    (SameBut.ite (sameBut_tail s _) (sameBut_tail s _)))

/-! ## The strobe's end (R353–R355) -/

/-- The sensors that expose and those whose strobe wires are high. -/
def State.wires (s : State) : W32 × W32 := (s.halo.exposing, s.halo.strobing)

/-- Nothing but the channels of Halo and the recorder differs. -/
def SinksOnly (s t : State) : Prop := SameBut [.halo, .tail] s t ∧ t.wires = s.wires

theorem SinksOnly.refl (s : State) : SinksOnly s s := ⟨SameBut.refl _ s, rfl⟩

theorem SinksOnly.trans {s t u : State} (h : SinksOnly s t) (k : SinksOnly t u) : SinksOnly s u :=
  ⟨h.1.trans k.1, k.2.trans h.2⟩

theorem SinksOnly.ite {s t u : State} {c : Prop} [Decidable c] (h : SinksOnly s t) (k : SinksOnly s u) :
    SinksOnly s (if c then t else u) := by
  split <;> assumption

theorem SinksOnly.foldl {α : Type} {f : State → α → State} (h : ∀ s a, SinksOnly s (f s a)) (l : List α) (s : State) :
    SinksOnly s (l.foldl f s) :=
  ⟨SameBut.foldl (fun s a => (h s a).1) l s, foldl_keep State.wires f (fun s a => (h s a).2) l s⟩

theorem State.withHalo_sinks (s : State) {h : Halo} (he : h.exposing = s.halo.exposing)
    (hs : h.strobing = s.halo.strobing) : SinksOnly s { s with halo := h } :=
  ⟨(sameBut_halo s h).mono (by simp), Prod.ext he hs⟩

theorem State.modHalo_sinks (c : Nat) (f : HaloCh → HaloCh) (s : State) : SinksOnly s (s.modHalo c f) :=
  s.withHalo_sinks rfl rfl

theorem State.record_sinks (type : Nat) (payload : List Byte) (s : State) :
    SinksOnly s (s.record type .management payload) := by
  have h := s.record_management_sameBut type payload
  refine ⟨h.mono (by simp), ?_⟩
  have hhalo : (s.record type .management payload).halo = s.halo := h .halo (by simp)
  rw [State.wires, hhalo, State.wires]

/-- One open channel more (R355). -/
def State.countOpen (s : State) : State := { s with halo := { s.halo with openCnt := s.halo.openCnt.inc } }

theorem State.countOpen_sinks (s : State) : SinksOnly s s.countOpen := s.withHalo_sinks rfl rfl

theorem State.checkPulse_sinks (c : Nat) (m : SinkReading) (s : State) : SinksOnly s (s.checkPulse c m) := by
  have opened (f : HaloCh → HaloCh) : SinksOnly s ((s.modHalo c f).countOpen.record 0x0090 .management []) :=
    ((s.modHalo_sinks c f).trans (State.countOpen_sinks _)).trans (State.record_sinks _ _ _)
  exact SinksOnly.ite (opened _) (s.modHalo_sinks c _)

theorem State.noteSink_sinks (c : Nat) (m : SinkReading) (s : State) : SinksOnly s (s.noteSink c m) :=
  (s.modHalo_sinks c _).trans (State.withHalo_sinks _ rfl rfl)

/-- The strobe of a channel is over at sample `k`, and its on-time is counted (R354). -/
def HaloCh.endStrobe (k : Nat) (h : HaloCh) : HaloCh :=
  { (h.countStrobe k).settle false (10 * k) with lastStrobe := some k, wireSince := none }

theorem State.strobeOff_sinks (k : Nat) (ms : List (Nat × SinkReading)) (c : Nat) (s : State) :
    SinksOnly s (s.strobeOff k ms c) := by
  unfold State.strobeOff
  dsimp only
  refine SinksOnly.trans (t := s.modHalo c (HaloCh.endStrobe k)) (s.modHalo_sinks c _) ?_
  split
  · exact SinksOnly.ite ((State.noteSink_sinks _ _ _).trans (SinksOnly.ite (State.checkPulse_sinks _ _ _)
      (SinksOnly.refl _))) (SinksOnly.refl _)
  · exact SinksOnly.refl _

/-- The wires of sensor `i` have fallen. -/
def State.wiresDown (i : Nat) (s : State) : State :=
  { s with halo := { s.halo with
    exposing := s.halo.exposing &&& ~~~BitVec.ofNat 32 (2 ^ i)
    strobing := s.halo.strobing &&& ~~~BitVec.ofNat 32 (2 ^ i) } }

theorem State.strobeEnd_sinks (i : Nat) (ms : List (Nat × SinkReading)) (s : State) :
    SinksOnly (s.wiresDown i) (s.strobeEnd i ms) :=
  SinksOnly.ite (SinksOnly.refl _) (SinksOnly.foldl (fun s c => SinksOnly.ite (SinksOnly.refl s)
    (s.strobeOff_sinks _ ms c)) _ _)

theorem State.strobeEnd_sameBut (i : Nat) (ms : List (Nat × SinkReading)) (s : State) :
    SameBut [.halo, .tail] s (s.strobeEnd i ms) :=
  ((sameBut_halo s _).mono (by simp)).trans (s.strobeEnd_sinks i ms).1

theorem bitOf_and_not_self {i : Nat} (hi : i < 32) (w : W32) : bitOf (w &&& ~~~BitVec.ofNat 32 (2 ^ i)) i = false := by
  rw [bitOf, BitVec.getLsbD_and, BitVec.getLsbD_not, BitVec.getLsbD_ofNat, Nat.testBit_two_pow_self]
  simp [hi]

/-- A sensor whose strobe has ended neither exposes nor strobes. -/
theorem State.wires_strobeEnd {i : Nat} (hi : i < 32) (ms : List (Nat × SinkReading)) (s : State) :
    bitOf (s.strobeEnd i ms).halo.exposing i = false ∧ bitOf (s.strobeEnd i ms).halo.strobing i = false := by
  obtain ⟨hexp, hstr⟩ := Prod.mk.inj (s.strobeEnd_sinks i ms).2
  rw [hexp, hstr]
  exact ⟨bitOf_and_not_self hi _, bitOf_and_not_self hi _⟩

/-! ## The window's end (R328, R353) -/

/-- The windows of sensor `i` that end by the next sample. -/
def State.endedWins (s : State) (i : Nat) : List CamWin := (s.sensor i).wins.filter fun w => decide (w.fin ≤ s.ix + 1)

/-- Those windows are over, and the image step waits for them no more. -/
def State.winsOver (i : Nat) (s : State) : State :=
  let t := s.modSensor i fun x => { x with wins := x.wins.filter fun w => decide (s.ix + 1 < w.fin) }
  { t with job := { t.job with
    imageOpen := t.job.imageOpen.filter fun o => !(o.1 == i && (s.endedWins i).any fun w => w.frame == o.2) } }

theorem State.winsOver_sameBut (i : Nat) (s : State) : SameBut [.camera, .job] s (s.winsOver i) :=
  (State.modSensor_sameBut i _ s).comp (sameBut_job _ _)

theorem State.closeWindow_eq (i : Nat) (ms : List (Nat × SinkReading)) (s : State) : s.closeWindow i ms =
    if s.endedWins i = [] then s
    else if (s.winsOver i).windowNear i (s.ix + 1) 4 then s.winsOver i else (s.winsOver i).strobeEnd i ms := rfl

theorem State.endedWins_eq_nil {i : Nat} {s : State} :
    s.endedWins i = [] ↔ ∀ w ∈ (s.sensor i).wins, s.ix + 1 < w.fin := by
  simp [State.endedWins, List.filter_eq_nil_iff]

theorem State.closeWindow_sameBut (i : Nat) (ms : List (Nat × SinkReading)) (s : State) :
    SameBut [.camera, .halo, .job, .tail] s (s.closeWindow i ms) := by
  have hover : SameBut [.camera, .halo, .job, .tail] s (s.winsOver i) := (s.winsOver_sameBut i).mono (by simp)
  rw [State.closeWindow_eq]
  exact SameBut.ite (SameBut.refl _ s)
    (SameBut.ite hover (hover.trans ((State.strobeEnd_sameBut i ms _).mono (by simp))))

theorem State.sensor_closeWindow {i : Nat} (hi : i < 8) (ms : List (Nat × SinkReading)) (s : State) :
    (s.closeWindow i ms).sensor i =
      { s.sensor i with wins := (s.sensor i).wins.filter fun w => decide (s.ix + 1 < w.fin) } := by
  have hover : (s.winsOver i).sensor i =
      { s.sensor i with wins := (s.sensor i).wins.filter fun w => decide (s.ix + 1 < w.fin) } :=
    State.sensor_modSensor_same hi _ s
  have hend : ((s.winsOver i).strobeEnd i ms).sensor i = (s.winsOver i).sensor i :=
    State.sensor_congr (congrArg Camera.sensors ((s.winsOver i).strobeEnd_sameBut i ms .camera (by simp))) i
  rw [State.closeWindow_eq]
  split
  next hnone =>
    have hall : (s.sensor i).wins.filter (fun w => decide (s.ix + 1 < w.fin)) = (s.sensor i).wins :=
      List.filter_eq_self.2 fun w hw => decide_eq_true (State.endedWins_eq_nil.1 hnone w hw)
    rw [hall]
  next => split <;> [exact hover; exact hend.trans hover]

/-- With no other window near, the wires fall with the last window that ends. -/
theorem State.wires_closeWindow {i : Nat} (hi : i < 8) {ms : List (Nat × SinkReading)} {s : State}
    (hended : ∃ w ∈ (s.sensor i).wins, w.fin ≤ s.ix + 1)
    (hfar : (s.closeWindow i ms).windowNear i (s.ix + 1) 4 = false) :
    bitOf (s.closeWindow i ms).halo.exposing i = false ∧ bitOf (s.closeWindow i ms).halo.strobing i = false := by
  have hsome : s.endedWins i ≠ [] := fun hnone => by
    obtain ⟨w, hw, hfin⟩ := hended
    exact absurd (State.endedWins_eq_nil.1 hnone w hw) (Nat.not_lt.2 hfin)
  rw [State.closeWindow_eq, if_neg hsome] at hfar ⊢
  split at hfar
  next hnear =>
    rw [hnear] at hfar
    cases hfar
  next hnear =>
    rw [if_neg hnear]
    exact State.wires_strobeEnd (by omega) ms _

end Sys2Proof.Machine
end

section
/-!
What else happens to a sensor's frames: timeouts (R331), periodic triggers (R329), the pipeline's units (R339) and
the generations of exposure sets (R342, R343).
-/

namespace Sys2Proof.Machine

/-! ## Timeouts and periodic triggers -/

theorem exec_frameTimeout_of_none {i : Nat} {s : State} (h : (s.sensor i).cur = none) :
    exec (.frameTimeout i) s = .next s := by
  show execFrameTimeout i s = _
  unfold execFrameTimeout
  dsimp only
  rw [h]
  cases s.sensorEntry? i <;> rfl

theorem exec_frameTimeout {i : Nat} {s : State} {e : EphSensor} {f : CamFrame} (he : s.sensorEntry? i = some e)
    (hf : (s.sensor i).cur = some f) : exec (.frameTimeout i) s =
    .next (if f.opened then
        (if f.fs + 4000 * fieldOf (s.sensor i).trig 27 16 ≤ s.ix + 1 then s.closeFrame e true false else s)
      else if f.winEnd + 4000 * fieldOf (s.sensor i).trig 27 16 ≤ s.ix + 1 then s.closeFrame e false true else s) := by
  show execFrameTimeout i s = _
  unfold execFrameTimeout
  dsimp only
  rw [he, hf]

theorem exec_periodicTrigger {i : Nat} {s : State} (he : (s.sensorEntry? i).isSome = true) :
    exec (.periodicTrigger i) s =
      .next (if bitOf (s.sensor i).trig 30 = true ∧ s.tickAt (s.sensor i).period.toNat = true then
        (s.trigOrSkip i s.ix).2 else s) := by
  show execPeriodicTrigger i s = _
  unfold execPeriodicTrigger
  simp [he]

/-! ## Units of the pipeline (R339) -/

theorem exec_pipelineUnitDone_of_none {s : State} (h : s.camera.unit = none) : exec .pipelineUnitDone s = .next s := by
  show execPipelineUnitDone s = _
  unfold execPipelineUnitDone
  rw [h]

/-- The unit `u` has passed, `n` lines of its frame in all. -/
def State.unitPassed (u : CamUnit) (n : Nat) (s : State) : State :=
  let t := s.modSensor u.sensor (Sensor.modFrame u.frame fun f => { f with done := n })
  { t with camera := { t.camera with unit := none } }

theorem State.unitPassed_sameBut (u : CamUnit) (n : Nat) (s : State) : SameBut [.camera] s (s.unitPassed u n) :=
  (State.modSensor_sameBut _ _ s).trans (sameBut_camera _ _)

theorem State.sensor_unitPassed {u : CamUnit} (hi : u.sensor < 8) (n : Nat) (s : State) :
    (s.unitPassed u n).sensor u.sensor =
      (s.sensor u.sensor).modFrame u.frame fun f => { f with done := n } :=
  State.sensor_modSensor_same hi _ s

theorem exec_pipelineUnitDone {s : State} {u : CamUnit} {e : EphSensor} {f : CamFrame} (hu : s.camera.unit = some u)
    (he : s.sensorEntry? u.sensor = some e)
    (hf : (s.sensor u.sensor).frames.find? (fun f => f.number == u.frame) = some f)
    (hmode : ¬ (e.mode = 0 ∧ (!f.closed) = true)) : exec .pipelineUnitDone s =
    .next ((s.unitPassed u (if e.mode = 0 then f.lines.length else f.done + u.lines)).deliverDone e).takeUnit := by
  show execPipelineUnitDone s = _
  unfold execPipelineUnitDone
  simp only [hu, he, hf]
  rw [if_neg hmode]
  rfl

section
variable {s : State} {i : Nat} {u : CamUnit} {e : EphSensor} {f : CamFrame} (hi : i < 8)
  (he : s.sensorEntry? i = some e) (hei : e.sensor = i) (hu : s.camera.unit = some u) (hui : u.sensor = i)
  (hn : u.frame = f.number)
include hi he hei hu hui hn

/-- A stripe of the open frame passes, and the frame goes on. -/
theorem pipelineUnitDone_passes (hc : (s.sensor i).closing = []) (hf : (s.sensor i).cur = some f)
    (ho : f.opened = true) (hmode : e.mode ≠ 0) :
    ∃ t, exec .pipelineUnitDone s = .next t ∧ SameBut [.camera] s t ∧
      (t.sensor i).cur = some { f with done := f.done + u.lines } := by
  subst hui
  have hfind : (s.sensor u.sensor).frames.find? (fun f => f.number == u.frame) = some f := by
    simp [Sensor.frames, hc, hf, ho, hn, Option.filter]
  have hsensor := s.sensor_unitPassed hi (f.done + u.lines)
  have hidle : (s.unitPassed u (f.done + u.lines)).deliverDone e = s.unitPassed u (f.done + u.lines) :=
    State.deliverDone_of_none (by rw [hei, hsensor]; simp [Sensor.modFrame, hc])
  have hrun := exec_pipelineUnitDone hu he hfind fun h => hmode h.1
  rw [if_neg hmode, hidle] at hrun
  refine ⟨_, hrun, (s.unitPassed_sameBut u _).trans (State.takeUnit_sameBut _), ?_⟩
  rw [State.sensor_takeUnit, hsensor]
  simp [Sensor.modFrame, hf, hn]

/-- The last lines of a closed frame pass, and it is delivered. -/
theorem pipelineUnitDone_delivers (hc : (s.sensor i).closing = [f]) (hclosed : f.closed = true)
    (hlast : e.mode = 0 ∨ f.done + u.lines = f.lines.length) :
    ∃ t, exec .pipelineUnitDone s = .next t ∧ SameBut [.camera, .eph] s t ∧ (t.sensor i).closing = [] ∧
      (t.sensor i).delivered = f.number ∧
      ∃ c, (t.sensor i).stored.head? = some c ∧ c.frame = { f with
          done := f.lines.length, noSlot := (s.sensor i).slots != 0 && (s.sensor i).slotFor.isNone } ∧
        c.hist = histOf (f.stage4 e) := by
  subst hui
  have hfind : (s.sensor u.sensor).frames.find? (fun f => f.number == u.frame) = some f := by
    simp [Sensor.frames, hc, hn]
  have hlines : (if e.mode = 0 then f.lines.length else f.done + u.lines) = f.lines.length := by
    split
    · rfl
    · exact hlast.resolve_left ‹_›
  have hrun := exec_pipelineUnitDone hu he hfind fun h => by simp [hclosed] at h
  have hsensor := s.sensor_unitPassed hi f.lines.length
  have hpassed : ((s.unitPassed u f.lines.length).sensor e.sensor).closing = [{ f with done := f.lines.length }] := by
    rw [hei, hsensor]
    simp [Sensor.modFrame, hc, hn]
  rw [hlines, State.deliverDone_of_passed hpassed rfl rfl] at hrun
  obtain ⟨d, kept, v, hdeliver, hframe, hhist⟩ :=
    (s.unitPassed u f.lines.length).deliver_eq e { f with done := f.lines.length }
  have hkept : ((s.unitPassed u f.lines.length).deliver e { f with done := f.lines.length }).takeUnit.sensor u.sensor =
      Sensor.keep { f with done := f.lines.length } d kept ((s.unitPassed u f.lines.length).sensor u.sensor) := by
    rw [State.sensor_takeUnit, hdeliver, ← hei]
    exact State.sensor_modSensor_same (by omega) _ _
  refine ⟨_, hrun, (((s.unitPassed_sameBut u _).mono (by simp)).trans (State.deliver_sameBut e _ _)).trans
    ((State.takeUnit_sameBut _).mono (by simp)), ?_, ?_, d, ?_, ?_, hhist⟩
  · rw [hkept, hsensor]
    simp [Sensor.keep, Sensor.modFrame, hc, hn]
  · rw [hkept]
    rfl
  · rw [hkept]
    rfl
  · rw [hframe, hei, hsensor]
    rfl

end

/-! ## Generations (R342, R343) -/

theorem exec_cciWritesDone (i : Nat) (s : State) : exec (.cciWritesDone i) s =
    .next ((s.sensor i).writing.elim s fun v => (s.newGen i v).startWrites i) := by
  show execCciWritesDone i s = _
  unfold execCciWritesDone
  cases (s.sensor i).writing <;> rfl

theorem State.newGen_sameBut (i : Nat) (v : ExpSet) (s : State) : SameBut [.camera] s (s.newGen i v) :=
  State.modSensor_sameBut _ _ s

/-- The writes of the set under way that go to register `reg`. -/
def ExpSet.writesTo (v : ExpSet) (reg : Nat) : List W32 := v.writes.filter fun w => fieldOf w 31 16 == reg

theorem ExpSet.writesTo_eq_nil {v : ExpSet} {reg : Nat} :
    v.writesTo reg = [] ↔ reg ∉ v.writes.map (fieldOf · 31 16) := by
  simp [ExpSet.writesTo, List.filter_eq_nil_iff]

/-- A set is abandoned (R343). -/
def Sensor.abandon (x : Sensor) : Sensor := { x with writing := none, retried := [], cciErr := true }

/-- The set before is written back, a record is made, and a pending set may begin. -/
def State.cciAbandon (i reg : Nat) (s : State) : State :=
  (((s.modSensor i Sensor.abandon).cciWrites i (s.sensor i).inForce.writes).record 0x0080 .management
    (u32s [i, reg])).startWrites i

theorem exec_cciNak_of_none {i : Nat} {s : State} (h : (s.sensor i).writing = none) (reg : Nat) :
    exec (.cciNak i reg) s = .next s := by
  show execCciNak i reg s = _
  simp only [execCciNak, h]

theorem exec_cciNak {i : Nat} {s : State} {v : ExpSet} (h : (s.sensor i).writing = some v) (reg : Nat) :
    exec (.cciNak i reg) s = if v.writesTo reg = [] then .next s
      else if !(s.sensor i).retried.contains reg then
        .next ((s.modSensor i fun x => { x with retried := x.retried ++ [reg] }).cciWrites i (v.writesTo reg))
      else .next (s.cciAbandon i reg) := by
  show execCciNak i reg s = _
  simp only [execCciNak, h]
  rfl

theorem State.sensor_cciWrites (i : Nat) (ws : List W32) (s : State) (j : Nat) :
    (s.cciWrites i ws).sensor j = s.sensor j :=
  State.sensor_congr (congrArg Camera.sensors (s.camera_cciWrites i ws)) j

theorem State.cciAbandon_sameBut (i reg : Nat) (s : State) :
    SameBut [.camera, .outbox, .tail] s (s.cciAbandon i reg) :=
  ((((State.modSensor_sameBut i _ s).mono (by simp)).trans ((State.cciWrites_sameBut i _ _).mono (by simp))).trans
    ((State.record_management_sameBut _ _ _).mono (by simp))).trans ((State.startWrites_sameBut i _).mono (by simp))

end Sys2Proof.Machine
end

section
/-!
Frames open, fill and close: the statement on the packets and events of a sensor, put together.
-/

namespace Sys2Proof.Machine

/-! ## Frames that close -/

/-- What closing the outstanding frame makes of its sensor's counts. -/
theorem State.sensor_closeFrame {e : EphSensor} {f : CamFrame} {s : State} (hi : e.sensor < 8)
    (hf : (s.sensor e.sensor).cur = some f) (short missing : Bool) :
    let x := s.sensor e.sensor
    let y := (s.closeFrame e short missing).sensor e.sensor
    y.cur = none ∧
    y.shortCnt = (if !missing && (short || decide (f.lines.length < e.height)) then x.shortCnt.inc else x.shortCnt) ∧
    y.longCnt = (if f.long = true then x.longCnt.inc else x.longCnt) ∧
    y.missingCnt = (if missing = true then x.missingCnt.inc else x.missingCnt) := by
  have h := State.tally_closeFrame hi hf short missing
  simp only [Sensor.tally, Prod.mk.injEq] at h
  obtain ⟨hcur, hshort, hlong, hmissing, -⟩ := h
  exact ⟨hcur, hshort, hlong, hmissing⟩

section
variable {port vc : Nat} {s : State} {e : EphSensor} {f : CamFrame} (hp : port < 2) (hi : e.sensor < 8)
  (hv : s.vcSensor? port vc = some e) (hf : (s.sensor e.sensor).cur = some f)
include hp hi hv hf

theorem csiFrameStart_opens (ho : f.opened = false) (ecc : Bool) :
    ∃ t, exec (.csiFrameStart port vc ecc) s = .next t ∧ SameBut [.camera, .cal] s t ∧
      ∃ g, (t.sensor e.sensor).cur = some g ∧ g.opened = true ∧ g.fs = s.ix ∧ g.number = f.number ∧ g.lines = f.lines ∧
        g.ctx = e.context ∧ g.vals = (s.camCtx e.context).live := by
  have hread := s.applyTaps_read hp ecc
  have hrun := exec_csiFrameStart hp hv hf ecc
  rw [ho, if_neg Bool.false_ne_true] at hrun
  refine ⟨_, hrun, (s.applyTaps_sameBut port ecc).trans ((State.openFrame_sameBut e f _).mono (by simp)),
    _, congrArg Sensor.cur (State.sensor_openFrame hi f _), rfl, hread.ix, rfl, rfl, rfl, ?_⟩
  exact congrArg CamContext.live (hread.camCtx e.context)

theorem csiFrameStart_closes (ho : f.opened = true) (ecc : Bool) :
    ∃ t, exec (.csiFrameStart port vc ecc) s = .next t ∧ SameBut [.camera, .cal, .eph, .outbox] s t ∧
      (t.sensor e.sensor).cur = none ∧ (t.sensor e.sensor).shortCnt = (s.sensor e.sensor).shortCnt.inc := by
  have hread := s.applyTaps_read hp ecc
  have hrun := exec_csiFrameStart hp hv hf ecc
  rw [if_pos ho] at hrun
  obtain ⟨hcur, hshort, -⟩ :=
    State.sensor_closeFrame hi ((congrArg Sensor.cur (hread.sensor e.sensor)).trans hf) true false
  rw [hread.sensor] at hshort
  exact ⟨_, hrun, ((s.applyTaps_sameBut port ecc).mono (by simp)).trans
    ((State.closeFrame_sameBut e _ _ _).mono (by simp)), hcur, hshort⟩

theorem csiFrameEnd_closes (ho : f.opened = true) (ecc : Bool) :
    let x := s.sensor e.sensor
    ∃ t, exec (.csiFrameEnd port vc ecc) s = .next t ∧ SameBut [.camera, .eph, .outbox] s t ∧
      (t.sensor e.sensor).cur = none ∧
      (t.sensor e.sensor).shortCnt = (if f.lines.length < e.height then x.shortCnt.inc else x.shortCnt) ∧
      (t.sensor e.sensor).longCnt = (if f.long = true then x.longCnt.inc else x.longCnt) ∧
      (t.sensor e.sensor).missingCnt = x.missingCnt := by
  have hread := s.eccFix_read hp ecc
  obtain ⟨hcur, hshort, hlong, hmissing⟩ :=
    State.sensor_closeFrame hi ((congrArg Sensor.cur (hread.sensor e.sensor)).trans hf) false false
  rw [hread.sensor] at hshort hlong hmissing
  refine ⟨_, exec_csiFrameEnd_of_open hp hv hf ho ecc,
    ((s.eccFix_sameBut port ecc).mono (by simp)).trans (State.closeFrame_sameBut e _ _ _), hcur, ?_, hlong, hmissing⟩
  rw [hshort]
  simp

end

/-! ## Lines of the open frame -/

theorem State.port_of_vcSensor {port vc : Nat} {s : State} {e : EphSensor} (h : s.vcSensor? port vc = some e) :
    e.port = port := by
  have hfound := List.find?_some h
  simp only [Bool.and_eq_true, beq_iff_eq] at hfound
  exact hfound.1

/-- A long packet of the open frame is read as its line. -/
theorem csiLongPacket_reads {port vc : Nat} {s : State} {e : EphSensor} {f : CamFrame} {p : CsiPacket} (hp : port < 2)
    (hv : s.vcSensor? port vc = some e) (hf : (s.sensor e.sensor).cur = some f) (ho : f.opened = true) (hvc : p.vc = vc)
    (hdt : p.dt = e.dataType ∨ p.dt = 0x12) {g : CamFrame}
    (h : LineRead e p f (s.eccFix port p.ecc) ((s.eccFix port p.ecc).camLine e p f) g) :
    ∃ t, exec (.csiLongPacket port p) s = .next t ∧ t = (s.eccFix port p.ecc).camLine e p f ∧ SameBut [.camera] s t ∧
      (t.sensor e.sensor).cur = some g ∧ g.crcErr = (f.crcErr || !p.crcOk) ∧
      (nth {} t.camera.ports port).crc =
        if p.crcOk = true then (nth {} s.camera.ports port).crc else (nth {} s.camera.ports port).crc.inc := by
  obtain ⟨⟨hsame, hcrc⟩, hcur, hmark⟩ := h
  rw [State.port_of_vcSensor hv, (s.eccFix_read hp p.ecc).crc] at hcrc
  exact ⟨_, exec_csiLongPacket_of_open hp hv hf hvc ho hdt, rfl, (s.eccFix_sameBut port p.ecc).trans hsame, hcur, hmark,
    hcrc⟩

/-- A long packet of the open frame: what its line makes of the frame, by its length, its type and the room there is. -/
theorem csiLongPacket_line {port vc : Nat} {s : State} {e : EphSensor} {f : CamFrame} {p : CsiPacket} (hp : port < 2)
    (hi : e.sensor < 8) (hv : s.vcSensor? port vc = some e) (hf : (s.sensor e.sensor).cur = some f)
    (ho : f.opened = true) (hvc : p.vc = vc) (hdt : p.dt = e.dataType ∨ p.dt = 0x12) (hraw : e.dataType ≠ 0x12) :
    let x := s.sensor e.sensor
    ∃ (t : State) (g : CamFrame), exec (.csiLongPacket port p) s = .next t ∧ SameBut [.camera] s t ∧
      (t.sensor e.sensor).cur = some g ∧ g.crcErr = (f.crcErr || !p.crcOk) ∧
      (nth {} t.camera.ports port).crc =
        (if p.crcOk = true then (nth {} s.camera.ports port).crc else (nth {} s.camera.ports port).crc.inc) ∧
      (¬ LineFits e p → g.wcErr = true ∧ g.lines = f.lines) ∧
      (LineFits e p → p.dt = 0x12 → g.lines = f.lines ∧
        g.emb = if f.emb.length < e.embLines then f.emb ++ [p.payload] else f.emb) ∧
      (LineFits e p → p.dt = e.dataType →
        (e.height ≤ f.lines.length → g.long = true ∧ g.extra = min 0xFFFF (f.extra + 1) ∧ g.lines = f.lines) ∧
        (f.lines.length < e.height → 2048 < s.blocksUsed + e.lineBlocks → g.overrun = true ∧ g.lines = f.lines ∧
          (t.sensor e.sensor).overrunCnt = (if f.overrun = true then x.overrunCnt else x.overrunCnt.inc)) ∧
        (f.lines.length < e.height → s.blocksUsed + e.lineBlocks ≤ 2048 →
          g.lines = f.lines ++ [unpackRaw e.dataType e.width p.payload] ∧ g.overrun = f.overrun ∧
          (t.sensor e.sensor).overrunCnt = x.overrunCnt)) := by
  intro x
  have hread := s.eccFix_read hp p.ecc
  have hport : e.port < 2 := by rwa [State.port_of_vcSensor hv]
  have hx : (s.eccFix port p.ecc).sensor e.sensor = x := hread.sensor e.sensor
  by_cases hfit : LineFits e p
  case neg =>
    obtain ⟨g, hline, hwc, hlines⟩ := State.camLine_misfit hport hi hfit
    obtain ⟨t, hrun, -, hsame, hcur, hmark, hcrc⟩ := csiLongPacket_reads hp hv hf ho hvc hdt hline
    exact ⟨t, g, hrun, hsame, hcur, hmark, hcrc, fun _ => ⟨hwc, hlines⟩, fun h => absurd h hfit, fun h => absurd h hfit⟩
  by_cases hemb : p.dt = 0x12
  case pos =>
    obtain ⟨g, hline, hlines, hkept⟩ := State.camLine_embedded hport hi hfit hemb
    obtain ⟨t, hrun, -, hsame, hcur, hmark, hcrc⟩ := csiLongPacket_reads hp hv hf ho hvc hdt hline
    exact ⟨t, g, hrun, hsame, hcur, hmark, hcrc, fun h => absurd hfit h, fun _ _ => ⟨hlines, hkept⟩,
      fun _ h => absurd (h.symm.trans hemb) hraw⟩
  have noEmb {q : Prop} : LineFits e p → p.dt = 0x12 → q := fun _ h => absurd h hemb
  by_cases hfull : e.height ≤ f.lines.length
  case pos =>
    obtain ⟨g, hline, hlong⟩ := State.camLine_extra hport hi hfit hemb hfull
    obtain ⟨t, hrun, -, hsame, hcur, hmark, hcrc⟩ := csiLongPacket_reads hp hv hf ho hvc hdt hline
    exact ⟨t, g, hrun, hsame, hcur, hmark, hcrc, fun h => absurd hfit h, noEmb, fun _ _ =>
      ⟨fun _ => hlong, fun h => absurd hfull (Nat.not_le.2 h), fun h => absurd hfull (Nat.not_le.2 h)⟩⟩
  have hshort := Nat.not_le.1 hfull
  by_cases hroom : s.blocksUsed + e.lineBlocks ≤ 2048
  case neg =>
    obtain ⟨g, hline, hover, hlines, hcount⟩ := State.camLine_overrun (s := s.eccFix port p.ecc) hport hi hfit hemb
      hshort (by rw [hread.blocksUsed]; exact Nat.not_le.1 hroom)
    obtain ⟨t, hrun, ht, hsame, hcur, hmark, hcrc⟩ := csiLongPacket_reads hp hv hf ho hvc hdt hline
    rw [← ht, hx] at hcount
    exact ⟨t, g, hrun, hsame, hcur, hmark, hcrc, fun h => absurd hfit h, noEmb, fun _ _ =>
      ⟨fun h => absurd h hfull, fun _ _ => ⟨hover, hlines, hcount⟩, fun _ h => absurd h hroom⟩⟩
  case pos =>
    obtain ⟨g, hline, hlines, hover, hcount⟩ := State.camLine_kept (s := s.eccFix port p.ecc) hport hi hfit hemb
      hshort (by rwa [hread.blocksUsed])
    obtain ⟨t, hrun, ht, hsame, hcur, hmark, hcrc⟩ := csiLongPacket_reads hp hv hf ho hvc hdt hline
    rw [← ht, hx] at hcount
    exact ⟨t, g, hrun, hsame, hcur, hmark, hcrc, fun h => absurd hfit h, noEmb, fun _ _ =>
      ⟨fun h => absurd h hfull, fun _ h => absurd hroom (Nat.not_le.2 h), fun _ _ => ⟨hlines, hover, hcount⟩⟩⟩

/-! ## Timeouts and sets -/

theorem frameTimeout_closes {s : State} {i : Nat} {e : EphSensor} {f : CamFrame} (hi : i < 8)
    (he : s.sensorEntry? i = some e) (hei : e.sensor = i) (hf : (s.sensor i).cur = some f) :
    let x := s.sensor i
    let tmo := 4000 * fieldOf x.trig 27 16
    ((f.opened = true → s.ix + 1 < f.fs + tmo) → (f.opened = false → s.ix + 1 < f.winEnd + tmo) →
      exec (.frameTimeout i) s = .next s) ∧
    (f.opened = true → f.fs + tmo ≤ s.ix + 1 → ∃ t, exec (.frameTimeout i) s = .next t ∧ (t.sensor i).cur = none ∧
      (t.sensor i).shortCnt = x.shortCnt.inc ∧ SameBut [.camera, .eph, .outbox] s t) ∧
    (f.opened = false → f.winEnd + tmo ≤ s.ix + 1 → ∃ t, exec (.frameTimeout i) s = .next t ∧ (t.sensor i).cur = none ∧
      (t.sensor i).missingCnt = x.missingCnt.inc ∧ (t.sensor i).shortCnt = x.shortCnt ∧
      SameBut [.camera, .eph, .outbox] s t) := by
  subst hei
  have hrun := exec_frameTimeout he hf
  refine ⟨fun hopen hwait => ?_, fun ho hdue => ?_, fun ho hdue => ?_⟩
  · rw [hrun]
    cases ho : f.opened with
    | true => rw [if_pos rfl, if_neg (Nat.not_le.2 (hopen ho))]
    | false => rw [if_neg Bool.false_ne_true, if_neg (Nat.not_le.2 (hwait ho))]
  · rw [if_pos ho, if_pos hdue] at hrun
    obtain ⟨hcur, hshort, -, -⟩ := State.sensor_closeFrame hi hf true false
    exact ⟨_, hrun, hcur, hshort, State.closeFrame_sameBut e _ _ s⟩
  · rw [ho, if_neg Bool.false_ne_true, if_pos hdue] at hrun
    obtain ⟨hcur, hshort, -, hmissing⟩ := State.sensor_closeFrame hi hf false true
    exact ⟨_, hrun, hcur, hmissing, hshort, State.closeFrame_sameBut e _ _ s⟩

/-- The sensor with the set `v` in force, as its next generation (R342). -/
def Sensor.nextGen (v : ExpSet) (x : Sensor) : Sensor :=
  { x with
    writing := none, retried := [], inForce := v, genLast := x.genLast + 1, genFrame := none
    gens := x.gens ++ [{ gen := x.genLast + 1, time := v.time, first := none }] }

theorem State.sensor_newGen {i : Nat} (hi : i < 8) (v : ExpSet) (s : State) :
    (s.newGen i v).sensor i = (s.sensor i).nextGen v :=
  State.sensor_modSensor_same hi _ s

theorem cciWritesDone_becomes {s : State} {i : Nat} {v : ExpSet} (hi : i < 8) (hw : (s.sensor i).writing = some v) :
    let x := s.sensor i
    ∃ t, exec (.cciWritesDone i) s = .next t ∧ SameBut [.camera, .outbox] s t ∧ (x.pending = none →
      (t.sensor i).writing = none ∧ (t.sensor i).inForce = v ∧ (t.sensor i).genLast = x.genLast + 1 ∧
      (t.sensor i).gens = x.gens ++ [{ gen := x.genLast + 1, time := v.time, first := none }]) := by
  have hrun := exec_cciWritesDone i s
  rw [hw, Option.elim_some] at hrun
  refine ⟨_, hrun, ((s.newGen_sameBut i v).mono (by simp)).trans (State.startWrites_sameBut i _), fun hidle => ?_⟩
  have hgen := s.sensor_newGen hi v
  have hpending : ((s.newGen i v).sensor i).pending = none := (congrArg Sensor.pending hgen).trans hidle
  rw [State.startWrites_of_idle hpending, hgen]
  exact ⟨rfl, rfl, rfl, rfl⟩

section
variable {s : State} {i r : Nat} {v : ExpSet} (hi : i < 8) (hw : (s.sensor i).writing = some v)
include hw

theorem exec_cciNak_of_other (hr : r ∉ v.writes.map (fieldOf · 31 16)) : exec (.cciNak i r) s = .next s :=
  (exec_cciNak hw r).trans (if_pos (ExpSet.writesTo_eq_nil.2 hr))

include hi

/-- The first refusal of a register's write retries it. -/
theorem cciNak_retries (hr : r ∈ v.writes.map (fieldOf · 31 16)) (hnew : r ∉ (s.sensor i).retried) :
    ∃ t, exec (.cciNak i r) s = .next t ∧ SameBut [.camera, .outbox] s t ∧
      t.sensor i = { s.sensor i with retried := (s.sensor i).retried ++ [r] } := by
  have hsome : v.writesTo r ≠ [] := fun h => ExpSet.writesTo_eq_nil.1 h hr
  refine ⟨_, (exec_cciNak hw r).trans ((if_neg hsome).trans (if_pos (by simpa using hnew))),
    (State.modSensor_sameBut i _ s).comp (State.cciWrites_sameBut i _ _), ?_⟩
  rw [State.sensor_cciWrites, State.sensor_modSensor_same hi]

/-- A second refusal abandons the set. -/
theorem cciNak_abandons (hr : r ∈ v.writes.map (fieldOf · 31 16)) (hold : r ∈ (s.sensor i).retried) :
    ∃ t, exec (.cciNak i r) s = .next t ∧ SameBut [.camera, .outbox, .tail] s t ∧ (t.sensor i).cciErr = true ∧
      ((s.sensor i).pending = none → t.sensor i = { s.sensor i with writing := none, retried := [], cciErr := true }) := by
  have hsome : v.writesTo r ≠ [] := fun h => ExpSet.writesTo_eq_nil.1 h hr
  have hrun := (exec_cciNak hw r).trans ((if_neg hsome).trans (if_neg (by simpa using hold)))
  have hcam : (((s.modSensor i Sensor.abandon).cciWrites i (s.sensor i).inForce.writes).record 0x0080 .management
      (u32s [i, r])).sensor i = (s.sensor i).abandon := by
    have hrec := State.record_management_sameBut 0x0080 (u32s [i, r])
      ((s.modSensor i Sensor.abandon).cciWrites i (s.sensor i).inForce.writes) .camera (by simp)
    rw [State.sensor_congr (congrArg Camera.sensors hrec), State.sensor_cciWrites, State.sensor_modSensor_same hi]
  refine ⟨_, hrun, s.cciAbandon_sameBut i r, ?_, fun hidle => ?_⟩
  · have htally := State.tally_startWrites i (((s.modSensor i Sensor.abandon).cciWrites i
      (s.sensor i).inForce.writes).record 0x0080 .management (u32s [i, r])) i
    rw [hcam] at htally
    exact congrArg (fun x => x.2.2.2.2) htally
  · rw [State.cciAbandon, State.startWrites_of_idle ((congrArg Sensor.pending hcam).trans hidle), hcam]
    rfl

end

/-! ## The obligation -/

/-- Settles O45, from what each packet and event makes of a sensor. -/
theorem framesOpenFillAndClose : Obligations.FramesOpenFillAndClose := by
  refine ⟨fun s port vc ecc hp hv => ?undeclared, fun s port vc i e hp hv hie hi => ?packets,
    fun s i e hi he hei => ?events⟩
  case undeclared =>
    have none {q : EphSensor → Prop} (w : Nat) (hw : w = vc) : ∀ e, s.vcSensor? port w = some e → q e := fun e he => by
      rw [hw, hv] at he
      cases he
    refine ⟨csiFrameStart_counted hp ecc (none vc rfl), csiFrameEnd_counted hp ecc (none vc rfl),
      fun p hvc => csiLongPacket_counted hp (none p.vc hvc), ?_⟩
    have hrun := exec_csiHeaderError port vc s
    rw [hv, Option.elim_none] at hrun
    exact ⟨_, hrun, State.modCamPort_sameBut _ _ s, congrArg CamPort.hdr (State.nth_modCamPort hp _ s), rfl⟩
  case packets =>
    subst hie
    intro x
    have only {q : EphSensor → Prop} (h : q e) (w : Nat) (hw : w = vc) : ∀ c, s.vcSensor? port w = some c → q c :=
      fun c hc => by
        rw [hw, hv] at hc
        cases hc
        exact h
    refine ⟨fun ecc hcur => ?start, fun ecc hcur => ?fin, fun p hvc hcur => ?long, ?header, fun f hf =>
      ⟨fun ecc => ⟨fun ho => csiFrameStart_opens hp hi hv hf ho ecc, fun ho => csiFrameStart_closes hp hi hv hf ho ecc,
        fun ho => csiFrameEnd_closes hp hi hv hf ho ecc⟩, fun p bits ho hvc hdt hraw hbits => ?line⟩⟩
    case start =>
      obtain ⟨t, hrun, hsame, hcount⟩ := csiFrameStart_counted hp ecc (only hcur vc rfl)
      exact ⟨t, hrun, hsame, hcount.1, hcount.sensor e.sensor⟩
    case fin =>
      obtain ⟨t, hrun, hsame, hcount⟩ := csiFrameEnd_counted hp ecc (only hcur vc rfl)
      exact ⟨t, hrun, hsame, hcount.1, hcount.sensor e.sensor⟩
    case long =>
      obtain ⟨t, hrun, hsame, hcount⟩ := csiLongPacket_counted hp (only hcur p.vc hvc)
      exact ⟨t, hrun, hsame, hcount.1, hcount.sensor e.sensor⟩
    case header =>
      have hrun := exec_csiHeaderError port vc s
      rw [hv, Option.elim_some] at hrun
      exact ⟨_, hrun, (State.modCamPort_sameBut _ _ s).trans (State.modSensor_sameBut _ _ _),
        congrArg CamPort.hdr (State.nth_modCamPort hp _ s), State.sensor_modSensor_same hi _ _⟩
    case line =>
      subst hbits
      exact csiLongPacket_line hp hi hv hf ho hvc hdt hraw
  case events =>
    intro x tmo
    have hdecl : (s.sensorEntry? i).isSome = true := by rw [he]; rfl
    have hperiodic := exec_periodicTrigger hdecl
    refine ⟨fun hno => ?early, exec_frameTimeout_of_none, fun hon hdue hfree => ?trigger, fun hon hdue hbusy => ?skip,
      fun ms => ⟨rfl, s.closeWindow_sameBut i ms, s.sensor_closeWindow hi ms, State.wires_closeWindow hi, fun hlater =>
        (s.closeWindow_eq i ms).trans (if_pos (State.endedWins_eq_nil.2 hlater))⟩,
      fun f hf => frameTimeout_closes hi he hei hf, exec_pipelineUnitDone_of_none,
      fun u f hu hui hn => ⟨fun hc hf ho _ hmode => pipelineUnitDone_passes hi he hei hu hui hn hc hf ho hmode,
        fun hc hclosed hlast => pipelineUnitDone_delivers hi he hei hu hui hn hc hclosed hlast⟩,
      fun r hw => ⟨?noWrites, exec_cciNak_of_none hw r⟩, fun v hw => ⟨cciWritesDone_becomes hi hw,
        fun r => exec_cciNak_of_other hw, fun r => cciNak_retries hi hw, fun r => cciNak_abandons hi hw⟩⟩
    case early =>
      rw [hperiodic, if_neg]
      rintro ⟨hon, hdue⟩
      rcases hno with h | h
      · exact Bool.false_ne_true (h.symm.trans hon)
      · exact Bool.false_ne_true (h.symm.trans hdue)
    case trigger =>
      rw [if_pos ⟨hon, hdue⟩] at hperiodic
      obtain ⟨hlast, g, hcur, hnumber, htrig, hstart, hend, -⟩ := State.sensor_triggered hi hfree s.ix
      rw [htrig] at hstart
      exact ⟨_, hperiodic, (State.trigOrSkip_sameBut i s.ix s).mono (by simp), hlast, g, hcur, hnumber, htrig, hstart, hend⟩
    case skip =>
      rw [if_pos ⟨hon, hdue⟩] at hperiodic
      refine ⟨_, hperiodic, ?_, State.sensor_skipped hi hbusy s.ix⟩
      rw [State.trigOrSkip_of_busy hbusy]
      exact State.modSensor_sameBut _ _ s
    case noWrites =>
      rw [exec_cciWritesDone, hw, Option.elim_none]

end Sys2Proof.Machine
end

section
/-!
The canonical form of flash: every command keeps it (the laws of the operations stand in Laws/Flash and Laws/FlashOk).
-/

namespace Sys2Proof.Machine

/-- At reset no memory lists an entry. -/
theorem memory_wf_reset : Memory.wf State.reset := ⟨rfl, rfl, rfl⟩

/-- Settles O3: each of the three memories is empty. -/
theorem flashIsCanonicalAfterReset : Obligations.FlashIsCanonicalAfterReset := memory_wf_reset

/-! ## Outcomes whose flash holds the canonical form -/

/-- The next state, if there is one, holds flash in its canonical form. -/
def NextFlashOk (o : Host.Outcome State Fault Refusal) : Prop :=
  ∀ t, o = .next t → swf flashErased t.flash = true

theorem NextFlashOk.next {u : State} (h : swf flashErased u.flash = true) : NextFlashOk (.next u) := by
  rintro _ ⟨⟩
  exact h

theorem NextFlashOk.fault (x : Fault) : NextFlashOk (.fault x) := by rintro _ ⟨⟩

theorem NextFlashOk.ite {c : Prop} [Decidable c] {a b : Host.Outcome State Fault Refusal} (ha : NextFlashOk a)
    (hb : NextFlashOk b) : NextFlashOk (if c then a else b) := by
  split <;> assumption

/-- Any state that an outcome keeps the form through. -/
theorem NextFlashOk.of_eq {s u : State} (hs : swf flashErased s.flash = true) (h : u.flash = s.flash) :
    NextFlashOk (.next u) :=
  .next (h ▸ hs)

section
variable {s : State} (hs : swf flashErased s.flash = true)
include hs

/-! ## Register accesses -/

/-- An access whose work leaves flash alone. -/
theorem State.access_flashOk (held : HeldFrame) (a : RegAccess) {k : State → State} (hk : ∀ u, (k u).flash = u.flash) :
    NextFlashOk (s.access held a k) := by
  unfold State.access
  split
  · split
    · exact .fault _
    · exact .of_eq hs (by split <;> simp [hk])
  · exact .next hs
  · refine .of_eq hs ?_
    dsimp only
    (repeat' split) <;> simp [hk]

theorem State.bar2Access_flashOk (a : RegAccess) (b : Bool) {k : State → State} (hk : ∀ u, (k u).flash = u.flash) :
    NextFlashOk (s.bar2Access a b k) := by
  unfold State.bar2Access
  split
  · exact .fault _
  · exact .of_eq hs (by split <;> simp [hk])

theorem State.writeRow_flashOk (r : Reg) (a : RegAccess) : NextFlashOk (s.writeRow r a) :=
  .ite (State.access_flashOk hs _ a (State.writeReg_flash a)) (.next hs)

theorem execRegisterWrite_flashOk (a : RegAccess) : NextFlashOk (execRegisterWrite a s) := by
  unfold execRegisterWrite
  split
  · exact State.bar2Access_flashOk hs a _ (State.bar2Write_flash _ _ _)
  · exact State.access_flashOk hs _ a (State.writeReg_flash a)

theorem execLatchingRead_flashOk (a : RegAccess) : NextFlashOk (execLatchingRead a s) := by
  unfold execLatchingRead
  split
  · exact State.bar2Access_flashOk hs a _ fun _ => rfl
  · exact .ite (.next hs) (State.access_flashOk hs _ a (State.readReg_flash a))

/-- A row that is a register access: neither a store nor a read writes flash. -/
theorem exec_flashOk_of_access {c : Instr} {a : RegAccess} (h : c.access? = some a) : NextFlashOk (exec c s) := by
  have hread : NextFlashOk (s.access (.read a) a (State.readReg a)) :=
    State.access_flashOk hs _ a (State.readReg_flash a)
  cases c <;> cases h
  case registerWrite => exact execRegisterWrite_flashOk hs a
  case refusedRead => exact .ite hread (.next hs)
  case latchingRead => exact execLatchingRead_flashOk hs a
  case tailStatusRead => exact .ite hread (.next hs)
  all_goals exact State.writeRow_flashOk hs _ a

/-! ## Command rows -/

theorem State.command_flashOk (op : W16) (e : Entry) {body : Flight → State → State}
    (h : ∀ g u, swf flashErased u.flash = true → swf flashErased (body g u).flash = true) :
    NextFlashOk (s.command op e body) :=
  .next (ite_ok (State.submit_ok op e body s h hs) hs)

theorem execHaloSet_flashOk (e : Entry) : NextFlashOk (execHaloSet e s) := by
  refine State.command_flashOk hs _ e fun f u hu => State.checked_ok f _ _ u (fun v hv => ?_) hu
  rw [State.ok_flash, foldl_flash _ _ fun t c => State.modHalo_flash c _ t]
  exact hv

theorem execPowerWake_flashOk (e : Entry) (env : BootEnv) : NextFlashOk (execPowerWake e env s) := by
  refine .ite (.of_eq hs (State.holdFrame_flash _ s)) ?_
  refine State.command_flashOk hs _ e fun f u hu => State.checked_ok f _ _ u (fun v hv => ?_) hu
  dsimp only
  split <;> simp [hv]

theorem execUnknownCommand_flashOk (e : Entry) : NextFlashOk (execUnknownCommand e s) := by
  refine .next (ite_ok hs (State.submit_ok _ e _ s (fun f u hu => ?_) hs))
  rw [State.reject_flash]
  exact hu

/-- A command row: the dispatcher's part is `State.submit_ok`, what is left is the command's own checks and effect. -/
theorem exec_flashOk_of_entry {c : Instr} {e : Entry} (h : c.entry? = some e) : NextFlashOk (exec c s) := by
  cases c <;> cases h
  case unknownCommand => exact execUnknownCommand_flashOk hs e
  case haloSet => exact execHaloSet_flashOk hs e
  case powerWake env => exact execPowerWake_flashOk hs e env
  all_goals
    simp only [exec, State.axisCommand,
      execEphInfo, execEphStore, execEphSetBoot, execEphStage, execEphValidate, execEphCommit,
      execEphCancel, execEphRouteSet, execJobStatus, execJobLayerOpen, execJobLayerClose, execJobSubmit, execJobAbort,
      execParamAtlasRead, execParamAtlasWrite, execParamPeriRead, execParamPeriLoad, execLoopStatus, execLoopSetRead,
      execLoopCaptureRead, execLoopSetWrite, execLoopCaptureStart, execLoopCaptureStop, execAxisStatus, execAxisEnable,
      execAxisHome, execAxisMove, execAxisJog, execAxisFollow, execAxisStop, execAxisSetDyn, execAxisRecoatResume,
      execCamFrameInfo, execCamHistRead, execCamFrameRead, execCamZoneRead, execCamTrigger, execCamDefectLoad,
      execCamShadingLoad, execHaloStatus, execHaloNtest, execTimeStatus, execTimeSet, execDiagCrc, execDiagMemTest,
      execPowerStatus, execPowerUmbra, execCalRun, execCalGridLoad, execTrustQuote, execTrustCert, execTrustExtend,
      execUpdStatus, execUpdWrite, execUpdVerify, execUpdActivate, execUpdMgmtAddr, execUpdNadir, execTailStatus,
      execTailFreeze, execTailNote, execTailClear]
    refine State.command_flashOk hs _ e fun f u hu => ?_
    try split
    all_goals try refine State.checked_ok f _ _ u (fun v hv => ?_) hu
    all_goals try dsimp only
    all_goals repeat' split
    all_goals simp [*]

/-! ## Frames held over a restart of the management core -/

/-- The command rows that a held frame may carry are commands of the table. -/
theorem commandRows_flashOk : ∀ r ∈ commandRows, ∀ e, NextFlashOk (r.2 e s) := by
  have row (c : Entry → Instr) (hc : ∀ e, (c e).entry? = some e) (e : Entry) : NextFlashOk (exec (c e) s) :=
    exec_flashOk_of_entry hs (hc e)
  simp only [commandRows, List.cons_append, List.nil_append, List.forall_mem_cons, List.not_mem_nil, false_imp_iff,
    implies_true, and_true]
  exact ⟨row .ephInfo fun _ => rfl, row .ephStore fun _ => rfl, row .ephSetBoot fun _ => rfl,
    row .ephStage fun _ => rfl, row .ephValidate fun _ => rfl, row .ephCommit fun _ => rfl,
    row .ephCancel fun _ => rfl, row .ephRouteSet fun _ => rfl, row .jobStatus fun _ => rfl,
    row .jobLayerOpen fun _ => rfl, row .jobLayerClose fun _ => rfl, row .jobSubmit fun _ => rfl,
    row .jobAbort fun _ => rfl, row .paramAtlasRead fun _ => rfl, row .paramPeriRead fun _ => rfl,
    row .paramAtlasWrite fun _ => rfl, row .paramPeriLoad fun _ => rfl, row .calRun fun _ => rfl,
    row .calGridLoad fun _ => rfl, row .loopStatus fun _ => rfl, row .loopSetRead fun _ => rfl,
    row .loopCaptureRead fun _ => rfl, row .loopSetWrite fun _ => rfl, row .loopCaptureStart fun _ => rfl,
    row .loopCaptureStop fun _ => rfl, row .axisStatus fun _ => rfl, row .axisEnable fun _ => rfl,
    row .axisHome fun _ => rfl, row .axisMove fun _ => rfl, row .axisJog fun _ => rfl,
    row .axisFollow fun _ => rfl, row .axisStop fun _ => rfl, row .axisSetDyn fun _ => rfl,
    row .axisRecoatResume fun _ => rfl, row .camFrameInfo fun _ => rfl, row .camHistRead fun _ => rfl,
    row .camFrameRead fun _ => rfl, row .camZoneRead fun _ => rfl, row .camTrigger fun _ => rfl,
    row .camDefectLoad fun _ => rfl, row .camShadingLoad fun _ => rfl, row .haloStatus fun _ => rfl,
    row .haloSet fun _ => rfl, row .haloNtest fun _ => rfl, row .timeStatus fun _ => rfl,
    row .timeSet fun _ => rfl, row .tailStatus fun _ => rfl, row .tailFreeze fun _ => rfl,
    row .tailNote fun _ => rfl, row .tailClear fun _ => rfl, row .trustQuote fun _ => rfl,
    row .trustCert fun _ => rfl, row .trustExtend fun _ => rfl, row .updStatus fun _ => rfl,
    row .updWrite fun _ => rfl, row .updVerify fun _ => rfl, row .updActivate fun _ => rfl,
    row .updMgmtAddr fun _ => rfl, row .updNadir fun _ => rfl, row .powerStatus fun _ => rfl,
    row .powerUmbra fun _ => rfl, row .diagCrc fun _ => rfl, row .diagMemTest fun _ => rfl⟩


/-! ## Events -/

theorem execTideUpdate_flashOk (slot : Nat) : NextFlashOk (execTideUpdate slot s) := by
  unfold execTideUpdate
  split
  · exact .next hs
  · refine .ite (.next hs) (.of_eq hs ?_)
    dsimp only
    rw [ite_flash, State.trigger_flash, ite_self]
    (repeat' split) <;> simp

theorem execQuadTransition_flashOk (a ab : Nat) : NextFlashOk (execQuadTransition a ab s) := by
  unfold execQuadTransition
  split
  · exact .next hs
  · exact .of_eq hs (by rw [ite_flash, State.modAxis_flash, ite_self])

theorem execStepInEdge_flashOk (a : Nat) (dirIn : Bool) (ns : Nat) : NextFlashOk (execStepInEdge a dirIn ns s) :=
  .of_eq hs (by rw [ite_flash, State.modAxis_flash, ite_self])

theorem execPwmPeriod_flashOk (ch : Nat) (m : SinkReading) : NextFlashOk (execPwmPeriod ch m s) := by
  unfold execPwmPeriod
  refine .ite (.next hs) ?_
  dsimp only
  refine .ite (.of_eq hs (by simp)) (.ite (.of_eq hs ?_) (.of_eq hs ?_)) <;> simp [ite_flash]

theorem execRingFrame_flashOk (port : Nat) (f : RingFrame) : NextFlashOk (execRingFrame port f s) := by
  refine .of_eq hs ?_
  simp

theorem execPdelayTimer_flashOk : NextFlashOk (execPdelayTimer s) := by
  refine .of_eq hs ?_
  rw [State.ringOwn_flash, foldl_flash _ _ fun t p => State.modRing_flash p _ t]

theorem execSramScrubPass_flashOk (errs : List SramErr) : NextFlashOk (execSramScrubPass errs s) := by
  refine .next (ite_ok hs ?_)
  rw [State.settleDescs_flash, State.sramPassOver_flash]
  exact foldl_ok _ _ (fun t r ht => State.sramErr_ok r t ht) s hs

theorem execDiagMemTestDone_flashOk (defect : Option (Nat × Nat)) : NextFlashOk (execDiagMemTestDone defect s) := by
  unfold execDiagMemTestDone
  split
  · exact .next hs
  · refine .next (State.tryOpen_ok _ ?_)
    cases defect <;> simp [hs]

theorem execCalRunDone_flashOk (i : Nat) (run1 run2 : List (List Int)) : NextFlashOk (execCalRunDone i run1 run2 s) :=
  .next (State.syzygyGo_ok _ _ (by rw [State.calRunDone_flash]; exact hs))

/-- A Nadir frame whose operation keeps the form. -/
theorem State.nadirFrame_flashOk (op : Nat) (f : NadirFrame) (bad : List (Bool × Code))
    {k : State → State × Code × W32 × List Byte} (hk : swf flashErased (k s).1.flash = true) :
    NextFlashOk (s.nadirFrame op f bad k) := by
  unfold State.nadirFrame
  refine .next (ite_ok hs (ite_ok ?_ ?_))
  · split <;> simp [hs]
  · dsimp only
    rw [State.nadirReply_flash]
    split <;> assumption

theorem execNadirVerify_flashOk (f : NadirFrame) : NextFlashOk (execNadirVerify f s) := by
  refine State.nadirFrame_flashOk hs 3 f _ ?_
  dsimp only
  split <;> exact hs

theorem execNadirProgram_flashOk (f : NadirFrame) : NextFlashOk (execNadirProgram f s) := by
  refine State.nadirFrame_flashOk hs 4 f _ ?_
  dsimp only
  exact State.writeHeader_ok _ _ (State.flashWrite_ok _ _ _ (State.flashErase_ok _ _ s hs))

theorem execNadirReboot_flashOk (f : NadirFrame) (env : BootEnv) : NextFlashOk (execNadirReboot f env s) := by
  have hframe := State.nadirFrame_flashOk hs 7 f (nadirPlain f) (k := fun s => (s, 0, f.arg, [])) hs
  unfold execNadirReboot
  dsimp only
  split
  · next t ht =>
    refine .next (ite_ok (hframe t ht) (State.bootFrom2_ok env _ ?_))
    dsimp only
    rw [State.powerReset_flash]
    exact hframe t ht
  · exact hframe

theorem execNadirStatus_flashOk (f : NadirFrame) : NextFlashOk (execNadirStatus f s) := by
  unfold execNadirStatus
  exact State.nadirFrame_flashOk hs 1 f _ hs

theorem execNadirLoad_flashOk (f : NadirFrame) : NextFlashOk (execNadirLoad f s) := by
  unfold execNadirLoad
  exact State.nadirFrame_flashOk hs 2 f _ hs

theorem execNadirMemtest_flashOk (f : NadirFrame) (defect : Option Nat) : NextFlashOk (execNadirMemtest f defect s) := by
  unfold execNadirMemtest
  exact State.nadirFrame_flashOk hs 5 f _ hs

theorem execNadirTailRead_flashOk (f : NadirFrame) : NextFlashOk (execNadirTailRead f s) := by
  unfold execNadirTailRead
  exact State.nadirFrame_flashOk hs 6 f _ hs

/-- An event on one part of the block: in each of its branches every operation has a law of its own (Laws/Flash and
Laws/FlashOk); those whose branches lie inside a part are proved above. -/
theorem exec_flashOk_of_indexed {c : Instr} (ha : c.access? = none) (he : c.entry? = none) (hi : c.indices ≠ []) :
    NextFlashOk (exec c s) := by
  cases c <;> cases ha <;> cases he <;> try cases hi rfl
  case tideUpdate slot => exact execTideUpdate_flashOk hs slot
  case quadTransition a ab => exact execQuadTransition_flashOk hs a ab
  case stepInEdge a dirIn ns => exact execStepInEdge_flashOk hs a dirIn ns
  case pwmPeriod ch m => exact execPwmPeriod_flashOk hs ch m
  case ringFrame port f => exact execRingFrame_flashOk hs port f
  case calRunDone i run1 run2 => exact execCalRunDone_flashOk hs i run1 run2
  all_goals
    simp only [exec, State.linkFrom,
      execSessionOpen, execSessionClose, execKeepalive, execSessionTimeout, execJcsFrameBad, execJcsFrameReplay,
      execRouteSwitch, execBlockStaged, execTileResident, execVectorStart, execSyzygyTrigger, execWaitEnd,
      execSyncRelease, execEngineParked, execHoldEscalation, execTakeEscalation, execPowerPeriodEnd, execRoiFrameEnd,
      execRoiLate, execUplinkFrame, execUplinkFrameMissing, execBlockLockLoss, execReceiverDetect, execDetectTimeout,
      execPhaseFound, execTrainTimeout, execFrameLock, execLockTimeout, execCaps, execCapsTimeout, execBackoffEnd,
      execHeadReady, execLoopAck, execLoopAckTimeout, execLimitEdge, execSwitchQualify, execHomeEdge,
      execHomingLimit, execInterpTimeout, execEncoderZEdge, execSsiFrameEnd, execPeriodicTrigger, execStrobeStart,
      execExposureEnd, execCsiFrameStart, execCsiFrameEnd, execCsiLongPacket, execCsiHeaderError, execFrameTimeout,
      execCciWritesDone, execCciNak, execDeskewSequence, execFadeStep, execVerifyExpiry, execBudgetCut,
      execStretchDue, execHaloShort, execSync, execFollowUp, execAnnounce, execAnnounceTimeout, execPdelayReq,
      execPdelayResp, execDomainLost, execRingBlockLock, execRailFault, execJunctionTrip, execCompanionOvertemp,
      execSensorConversion, execWindowLoadDone, execBlockLockGained, execDomainClockStop, execPulseInputEdge,
      execAnalogInputSample]
    repeat' split
    all_goals refine .next ?_
    all_goals simp [hs]

/-- An event on the whole block, likewise. -/
theorem exec_flashOk_of_unindexed {c : Instr} (ha : c.access? = none) (he : c.entry? = none) (hi : c.indices = [])
    (hm : c ≠ .mgmtRestartDone) : NextFlashOk (exec c s) := by
  cases c <;> cases ha <;> cases he <;> cases hi
  case mgmtRestartDone => exact absurd rfl hm
  case pdelayTimer => exact execPdelayTimer_flashOk hs
  case sramScrubPass errs => exact execSramScrubPass_flashOk hs errs
  case diagMemTestDone defect => exact execDiagMemTestDone_flashOk hs defect
  case nadirStatus f => exact execNadirStatus_flashOk hs f
  case nadirLoad f => exact execNadirLoad_flashOk hs f
  case nadirVerify f => exact execNadirVerify_flashOk hs f
  case nadirProgram f => exact execNadirProgram_flashOk hs f
  case nadirMemtest f defect => exact execNadirMemtest_flashOk hs f defect
  case nadirTailRead f => exact execNadirTailRead_flashOk hs f
  case nadirReboot f env => exact execNadirReboot_flashOk hs f env
  all_goals
    simp only [exec,
      execPcieLinkDown, execPcieLinkUp, execPerstAssert, execHotReset, execFunctionLevelReset, execD3hotEntry,
      execEphCommitValidated, execLayerEnd, execRecoatDwellEnd, execTransitionStepEnd, execCommonStart,
      execSampleTick, execAtlasSwitch, execDiffusionTick, execDiffusionPassEnd, execSetSwitch, execServoTick,
      execPipelineUnitDone, execAccountingInterval, execNtestStart, execNtestComplete, execSupervisionTimer,
      execHoldoverExpiry, execRefresh, execMr4Poll, execDramScrubPass, execFspSwitchDown, execFspSwitchDone,
      execDispSyncEdge, execSyncTimeout, execHpdAssert, execHpdIrq, execHpdLoss, execLinkTrainingDone, execPowerUp,
      execBootFallback, execVinLow, execPwrResetAssert, execPwrResetRelease, execClockFault, execCompanionCooled,
      execXtal32Lost, execDieLinkLoss, execPwrWakeL, execPerstRelease, execWakeTimer, execUmbraExitDone,
      execRiseEvaluation, execQuoteSigned, execStandbyReady, execTransitPauseEnd, execHealthWindowEnd,
      execHealthFailure, execTailFlush, execTailEraseDone, execEclipseInRequest, execEclipseInRelease,
      execEclipseLeaveEffect, execWatchdog, execCtlFault, execMgmtFault, execHpdWaitTimeout, execArpRequest,
      execIcmpEchoRequest, execTransitionPassEnd, execEpochReached, execEphStageLoaded, execEphValidateDone,
      execFlashWriteDone, execUpdChecksDone, execUmbraEntryDone, execControlRestartDone, execActiveAreaEnd]
    repeat' split
    all_goals refine .next ?_
    all_goals simp [hs]

theorem exec_flashOk_of_event {c : Instr} (ha : c.access? = none) (he : c.entry? = none)
    (hm : c ≠ .mgmtRestartDone) : NextFlashOk (exec c s) := by
  by_cases hi : c.indices = []
  · exact exec_flashOk_of_unindexed hs ha he hi hm
  · exact exec_flashOk_of_indexed hs ha he hi

theorem runHeld_flashOk (x : HeldFrame) : NextFlashOk (runHeld x s) := by
  cases x with
  | entry e =>
    simp only [runHeld, runEntry]
    cases hr : commandRows.find? fun r => r.1 == e.opcode.toNat with
    | none => exact execUnknownCommand_flashOk hs e
    | some r => exact commandRows_flashOk hs r (List.mem_of_find?_eq_some hr) e
  | wake e env => exact execPowerWake_flashOk hs e env
  | write a => exact execRegisterWrite_flashOk hs a
  | read a => exact State.access_flashOk hs _ a (State.readReg_flash a)
  | sessionOpen h => exact exec_flashOk_of_event (c := .sessionOpen h) hs rfl rfl nofun
  | sessionClose h => exact exec_flashOk_of_event (c := .sessionClose h) hs rfl rfl nofun
  | keepalive h => exact exec_flashOk_of_event (c := .keepalive h) hs rfl rfl nofun
  | replay h => exact exec_flashOk_of_event (c := .jcsFrameReplay h) hs rfl rfl nofun
  | bad p b => exact exec_flashOk_of_event (c := .jcsFrameBad p b) hs rfl rfl nofun
  | arp p mac target => exact exec_flashOk_of_event (c := .arpRequest p mac target) hs rfl rfl nofun
  | icmp p target d => exact exec_flashOk_of_event (c := .icmpEchoRequest p target d) hs rfl rfl nofun

theorem State.giveHeld_ok (x : HeldFrame) : swf flashErased (s.giveHeld x).flash = true := by
  have h := runHeld_flashOk (s := { s with host := { s.host with rrSessions := [] } }) hs x
  unfold State.giveHeld
  split
  · next t ht => exact h t ht
  · exact hs
  · exact hs

theorem execMgmtRestartDone_flashOk : NextFlashOk (execMgmtRestartDone s) := by
  refine .next (ite_ok hs (foldl_ok _ _ (fun t x ht => State.giveHeld_ok ht x) _ ?_))
  dsimp only
  rw [State.mgmtBack_flash]
  exact hs

/-! ## Every command -/

theorem exec_flashOk (c : Instr) : NextFlashOk (exec c s) := by
  cases ha : c.access? with
  | some a => exact exec_flashOk_of_access hs ha
  | none =>
    cases he : c.entry? with
    | some e => exact exec_flashOk_of_entry hs he
    | none =>
      by_cases hm : c = .mgmtRestartDone
      · subst hm
        exact execMgmtRestartDone_flashOk hs
      · exact exec_flashOk_of_event hs ha he hm

end

/-- Settles O4: a step is the front command on the rest of the queue, and every command keeps the form. -/
theorem flashStaysCanonical : Obligations.FlashStaysCanonical := by
  intro s t hs hstep
  unfold step at hstep
  split at hstep
  · cases hstep
    exact hs
  · next c rest _ => exact exec_flashOk (s := { s with pending := rest }) hs c t hstep

end Sys2Proof.Machine
end

section
/-!
The channels of Halo: what each operation makes of a channel, and what of it the operations leave alone (ch. 13).
-/

namespace Sys2Proof.Machine

/-! ## One channel -/

theorem State.haloCh_modHalo_same {c : Nat} (hc : c < 24) (f : HaloCh → HaloCh) (s : State) :
    (s.modHalo c f).haloCh c = f (s.haloCh c) :=
  nth_upd_same _ _ f hc

theorem State.haloCh_modHalo_other {c d : Nat} (h : d ≠ c) (f : HaloCh → HaloCh) (s : State) :
    (s.modHalo c f).haloCh d = s.haloCh d :=
  nth_upd_other _ _ f h

theorem State.haloCh_congr {s t : State} (h : t.halo = s.halo) (c : Nat) : t.haloCh c = s.haloCh c :=
  congrArg (fun x : Halo => nth ({} : HaloCh) x.ch c) h

theorem State.modHalo_sameBut (c : Nat) (f : HaloCh → HaloCh) (s : State) : SameBut [.halo] s (s.modHalo c f) :=
  sameBut_halo s _

theorem State.haloCh_foldl_modHalo {l : List Nat} (hl : l.Nodup) (f : HaloCh → HaloCh) {c : Nat} (hc : c < 24) (s : State) :
    (l.foldl (fun s c => s.modHalo c f) s).haloCh c = if c ∈ l then f (s.haloCh c) else s.haloCh c := by
  induction l generalizing s with
  | nil => rfl
  | cons k r ih =>
    obtain ⟨hk, hr⟩ := List.nodup_cons.1 hl
    rw [List.foldl_cons, ih hr]
    by_cases hck : c = k
    · subst hck
      rw [if_neg hk, if_pos (List.mem_cons_self ..), State.haloCh_modHalo_same hc]
    · simp only [State.haloCh_modHalo_other hck, List.mem_cons, hck, false_or]

theorem mem_bitsSet {m : W32} {n i : Nat} : i ∈ bitsSet m n ↔ i < n ∧ bitOf m i = true := by
  simp [bitsSet, bitOf]

theorem nodup_bitsSet (m : W32) (n : Nat) : (bitsSet m n).Nodup := List.nodup_range.filter _

/-! ## On-time (R353, R354) -/

theorem HaloCh.countStrobe_eq (k : Nat) (h : HaloCh) :
    h.countStrobe k = { h with onTime := (h.countStrobe k).onTime, strobeSince := none } := by
  unfold HaloCh.countStrobe
  split
  · rfl
  · next hnone => rw [← hnone]

/-- Counting pulses changes their list and the on-time alone. -/
theorem HaloCh.settle_eq (drove : Bool) (k : Nat) (h : HaloCh) :
    h.settle drove k = { h with onTime := (h.settle drove k).onTime, pulses := (h.settle drove k).pulses } := rfl

/-- A strobe that begins on some channel touches nothing but a channel's `strobeSince`. -/
theorem State.haloCh_strobeOn (k c d : Nat) (s : State) :
    ∃ x, (s.strobeOn k c).haloCh d = { s.haloCh d with strobeSince := x } := by
  unfold State.strobeOn
  split
  · exact ⟨_, rfl⟩
  · by_cases hd : d = c
    · subst hd
      by_cases hc : d < 24
      · rw [State.haloCh_modHalo_same hc]
        split
        · exact ⟨_, rfl⟩
        · exact ⟨_, rfl⟩
      · have hbeyond : ∀ v : Vector HaloCh 24, nth {} v d = {} := fun v => by simp [nth, hc]
        exact ⟨none, (hbeyond _).trans (by rw [State.haloCh, hbeyond])⟩
    · exact ⟨_, State.haloCh_modHalo_other hd _ s⟩

theorem State.haloCh_strobesOn (k d : Nat) (s : State) :
    ∃ x, (s.strobesOn k).haloCh d = { s.haloCh d with strobeSince := x } := by
  refine List.foldlRecOn (motive := fun t : State => ∃ x, t.haloCh d = { s.haloCh d with strobeSince := x }) _ _
    ⟨_, rfl⟩ fun t ht c _ => ?_
  obtain ⟨x, hx⟩ := ht
  obtain ⟨y, hy⟩ := State.haloCh_strobeOn k c d t
  exact ⟨y, by rw [hy, hx]⟩

/-- The neighbour test's own fields. -/
def State.ntest (s : State) : Bool × Bool × W32 := (s.halo.ntestRun, s.halo.ntestValid, s.halo.shorted)

theorem State.strobesOn_ntest (k : Nat) (s : State) : (s.strobesOn k).ntest = s.ntest :=
  foldl_keep State.ntest _ (fun t c => by unfold State.strobeOn; split <;> rfl) _ s

theorem State.settleHalos_sameBut (k : Nat) (s : State) : SameBut [.halo] s (s.settleHalos k) :=
  SameBut.foldl (fun t c => t.modHalo_sameBut c _) _ s

theorem State.record_management_halo (type : Nat) (payload : List Byte) (s : State) :
    (s.record type .management payload).halo = s.halo :=
  s.record_management_sameBut type payload .halo (by simp)

end Sys2Proof.Machine
end

section
/-!
The commands and events of Halo (R349–R358).
-/

namespace Sys2Proof.Machine

/-! ## Commands (R351, R352) -/

section
variable {e : Entry} {s t : State} {f : Flight}

theorem exec_haloStatus (h : Dispatched 0x0800 e s f t) (hc : e.u 0x18 1 ≤ 23) (hz : (e.zeroFrom 0x19 39).1 = false) :
    exec (.haloStatus e) s = .next (t.ok f
      ((t.haloStatusWord (e.u 0x18 1)).toNat + (t.haloCh (e.u 0x18 1)).levelWord.toNat * 2 ^ 32) 0 []) :=
  (command_of_dispatched h _).trans (congrArg Host.Outcome.next (checked_of_none (by
    rw [firstBad_cons_of_pass (decide_eq_false (Nat.not_lt.2 hc)), firstBad_cons_of_pass hz]
    rfl) _ t))

/-- What HALO_SET makes of a channel that it names. -/
def Entry.haloSet (e : Entry) (h : HaloCh) : HaloCh :=
  let keep := (e.u 0x1F 1).testBit 1
  let h := { h with duty := e.u 0x1C 2, nextDuty := none, fade := none }
  if e.u 0x20 2 = 0 then
    { h with nextDuty := some (e.u 0x1C 2), nextCurrent := if keep then h.nextCurrent else some (e.u 0x1E 1) }
  else
    { h with fade := some { d0 := h.dutyNow, d1 := e.u 0x1C 2, k := e.u 0x20 2, step := 0, exp := (e.u 0x1F 1).testBit 0,
                            current := if keep then none else some (e.u 0x1E 1) } }

/-- The channels that HALO_SET names. -/
def Entry.haloChs (e : Entry) : List Nat := bitsSet (BitVec.ofNat 32 (e.u 0x18 4)) 24

theorem Entry.haloSet_duty (e : Entry) (h : HaloCh) :
    (e.haloSet h).duty = e.u 0x1C 2 ∧ (e.haloSet h).dutyNow = h.dutyNow ∧
    (e.u 0x20 2 = 0 → (e.haloSet h).nextDuty = some (e.u 0x1C 2) ∧ (e.haloSet h).fade = none) ∧
    (e.u 0x20 2 ≠ 0 → ∃ x, (e.haloSet h).fade = some x ∧ x.d0 = h.dutyNow ∧ x.d1 = e.u 0x1C 2 ∧ x.k = e.u 0x20 2) := by
  unfold Entry.haloSet
  by_cases hk : e.u 0x20 2 = 0
  · rw [if_pos hk]
    exact ⟨rfl, rfl, fun _ => ⟨rfl, rfl⟩, fun h => absurd hk h⟩
  · rw [if_neg hk]
    exact ⟨rfl, rfl, fun h => absurd h hk, fun _ => ⟨_, rfl, rfl, rfl, rfl⟩⟩

theorem exec_haloSet (h : Dispatched 0x0840 e s f t) (hfl : e.u 0x1F 1 ≤ 3) (hz : (e.zeroFrom 0x22 30).1 = false)
    (hm : (BitVec.ofNat 32 (e.u 0x18 4)).toNat < 2 ^ 24)
    (hch : ∀ c ∈ e.haloChs, ∃ h, t.haloEntry? c = some h ∧ e.u 0x1C 2 ≤ h.dutyMax)
    (hpow : (e.u 0x1F 1).testBit 1 = false →
      t.haloOver (fun c => if e.haloChs.contains c then some (e.u 0x1E 1) else none) = false) :
    exec (.haloSet e) s = .next ((e.haloChs.foldl (fun s c => s.modHalo c e.haloSet) t).ok f 0 0 []) := by
  refine (command_of_dispatched h _).trans (congrArg Host.Outcome.next (checked_of_none (firstBad_eq_none.2 ?_) _ t))
  have hpower : (!(e.u 0x1F 1).testBit 1 &&
      t.haloOver fun c => if e.haloChs.contains c then some (e.u 0x1E 1) else none) = false := by
    cases hkeep : (e.u 0x1F 1).testBit 1 with
    | false => exact hpow hkeep
    | true => rfl
  simp only [List.forall_mem_cons, List.not_mem_nil, false_imp_iff, implies_true, and_true, decide_eq_false_iff_not,
    Nat.not_lt, Nat.not_le]
  refine ⟨hfl, hz, hm, List.any_eq_false.2 fun c hc => ?_, List.any_eq_false.2 fun c hc => ?_, hpower⟩
  all_goals
    obtain ⟨h, hsome, hduty⟩ := hch c hc
    rw [hsome]
    simp [hduty]

theorem exec_haloNtest (h : Dispatched 0x0841 e s f t) (hz : (e.zeroFrom 0x18 40).1 = false) (hb : t.inBuild = false) :
    exec (.haloNtest e) s = .next (t.dueNtest.ok f 0 0 []) :=
  (command_of_dispatched h _).trans (congrArg Host.Outcome.next (checked_of_none (by
    rw [firstBad_cons_of_pass hz, firstBad_cons_of_pass hb]
    rfl) _ t))

/-- HALO_SET of channels that it may set. -/
theorem haloSet_sets (h : Dispatched 0x0840 e s f t) (hfl : e.u 0x1F 1 ≤ 3) (hz : (e.zeroFrom 0x22 30).1 = false)
    (hm : (BitVec.ofNat 32 (e.u 0x18 4)).toNat < 2 ^ 24)
    (hch : ∀ c, c < 24 → bitOf (BitVec.ofNat 32 (e.u 0x18 4)) c = true → ∃ h, t.haloEntry? c = some h ∧ e.u 0x1C 2 ≤ h.dutyMax)
    (hpow : (e.u 0x1F 1).testBit 1 = false →
      t.haloOver (fun c => if e.haloChs.contains c then some (e.u 0x1E 1) else none) = false) :
    ∃ u : State, exec (.haloSet e) s = .next (u.ok f 0 0 []) ∧ SameBut [.halo] t u ∧
      ∀ c, c < 24 → u.haloCh c =
        if bitOf (BitVec.ofNat 32 (e.u 0x18 4)) c = true then e.haloSet (t.haloCh c) else t.haloCh c := by
  refine ⟨_, exec_haloSet h hfl hz hm (fun c hc => ?_) hpow, SameBut.foldl (fun s c => s.modHalo_sameBut c _) _ t,
    fun c hc => ?_⟩
  · obtain ⟨hc, hb⟩ := mem_bitsSet.1 hc
    exact hch c hc hb
  · rw [Entry.haloChs, State.haloCh_foldl_modHalo (nodup_bitsSet _ _) _ hc]
    simp only [mem_bitsSet, hc, true_and]
end

/-! ## The neighbour test (R358) -/

theorem State.tryNtest_of_free {s : State} (hp : s.halo.ntestPending = true) (hd : s.planes.data = .idle)
    (he : s.halo.exposing = 0) (hr : s.halo.ntestRun = false) :
    SameBut [.halo] s s.tryNtest ∧ s.tryNtest.halo.ntestPending = false ∧ s.tryNtest.halo.ntestRun = true := by
  have hgo : s.halo.ntestPending = true ∧ s.planes.data = .idle ∧ s.halo.exposing = 0 ∧ (!s.halo.ntestRun) = true :=
    ⟨hp, hd, he, by rw [hr]; rfl⟩
  rw [State.tryNtest, if_pos hgo]
  exact ⟨(s.settleHalos_sameBut _).trans (sameBut_halo _ _), rfl, rfl⟩

theorem State.tryNtest_of_busy {s : State} (h : s.halo.ntestPending = false ∨ s.planes.data ≠ .idle ∨
    s.halo.exposing ≠ 0 ∨ s.halo.ntestRun = true) : s.tryNtest = s := by
  refine if_neg fun ⟨hp, hd, he, hr⟩ => ?_
  rcases h with h | h | h | h
  · exact Bool.false_ne_true (h.symm.trans hp)
  · exact h hd
  · exact h he
  · rw [h] at hr
    cases hr

/-- A channel of a shorted pair: off, with its fault latched. -/
def HaloCh.latchNshort (h : HaloCh) : HaloCh := { h with fault := .nshort, off := true }

/-- Both channels of pair `n` latch the fault, with a record. -/
def State.latchPair (s : State) (n : Nat) : State :=
  ((s.modHalo n HaloCh.latchNshort).modHalo (n + 1) HaloCh.latchNshort).record 0x0092 .management []

/-- Channel `c` is off with the fault of a shorted pair. -/
def State.nshort (s : State) (c : Nat) : Prop := (s.haloCh c).fault = .nshort ∧ (s.haloCh c).off = true

theorem State.nshort_modHalo_latch {s : State} {c : Nat} (d : Nat) (h : s.nshort c) :
    (s.modHalo d HaloCh.latchNshort).nshort c := by
  unfold State.nshort
  by_cases hcd : c = d
  · subst hcd
    by_cases hc : c < 24
    · rw [State.haloCh_modHalo_same hc]
      exact ⟨rfl, rfl⟩
    · have hdef : s.haloCh c = {} := by simp [State.haloCh, nth, hc]
      rw [State.nshort, hdef] at h
      exact absurd h.2 Bool.false_ne_true
  · rw [State.haloCh_modHalo_other hcd]
    exact h

theorem State.nshort_latchPair_keeps {s : State} {c : Nat} (n : Nat) (h : s.nshort c) : (s.latchPair n).nshort c := by
  have hheld := State.nshort_modHalo_latch (n + 1) (State.nshort_modHalo_latch n h)
  rwa [State.nshort, ← State.haloCh_congr (State.record_management_halo 0x0092 [] _)] at hheld

theorem State.nshort_latchPair {s : State} {n : Nat} (hn : n < 23) :
    (s.latchPair n).nshort n ∧ (s.latchPair n).nshort (n + 1) := by
  have hhalo := State.record_management_halo 0x0092 [] ((s.modHalo n HaloCh.latchNshort).modHalo (n + 1) HaloCh.latchNshort)
  have hfirst : (s.modHalo n HaloCh.latchNshort).nshort n := by
    rw [State.nshort, State.haloCh_modHalo_same (by omega)]
    exact ⟨rfl, rfl⟩
  constructor
  · have hkept := State.nshort_modHalo_latch (n + 1) hfirst
    rwa [State.nshort, ← State.haloCh_congr hhalo] at hkept
  · rw [State.nshort, State.latchPair, State.haloCh_congr hhalo, State.haloCh_modHalo_same (by omega)]
    exact ⟨rfl, rfl⟩

/-- A neighbour test has ended and found the pairs in `bad` shorted. -/
def State.ntestOver (s : State) (bad : W32) : State :=
  { s.settleHalos (s.ix + 1) with
    halo := { (s.settleHalos (s.ix + 1)).halo with ntestRun := false, ntestValid := true, shorted := bad } }

theorem exec_ntestComplete {s : State} (h : s.halo.ntestRun = true) (p : W32) :
    exec (.ntestComplete p) s = .next (((bitsSet (p &&& 0x7FF7FF) 23).foldl State.latchPair
      (s.ntestOver (p &&& 0x7FF7FF))).strobesOn ((s.ntestOver (p &&& 0x7FF7FF)).ix + 1)) :=
  congrArg Host.Outcome.next (if_neg (by rw [h]; simp))

theorem State.latchPair_sinks (s : State) (n : Nat) : SinksOnly s (s.latchPair n) :=
  ((s.modHalo_sinks n _).trans (State.modHalo_sinks _ _ _)).trans (State.record_sinks _ _ _)

theorem State.latchPair_ntest (s : State) (n : Nat) : (s.latchPair n).ntest = s.ntest := by
  rw [State.ntest, State.latchPair, State.record_management_halo]
  rfl

theorem State.nshort_strobesOn {s : State} {c : Nat} (k : Nat) (h : s.nshort c) : (s.strobesOn k).nshort c := by
  obtain ⟨x, hx⟩ := State.haloCh_strobesOn k c s
  rw [State.nshort, hx]
  exact h

theorem State.nshort_latched {m : W32} {n c : Nat} (hn : n < 23) (hb : bitOf m n = true) (hc : c = n ∨ c = n + 1)
    (s : State) : ((bitsSet m 23).foldl State.latchPair s).nshort c := by
  refine foldl_once (P := fun _ => True) (Q := fun t : State => t.nshort c) (fun _ _ _ _ => trivial) (fun t _ => ?_)
    (fun t j _ ht => State.nshort_latchPair_keeps j ht) (nodup_bitsSet m 23) (mem_bitsSet.2 ⟨hn, hb⟩) trivial
  obtain ⟨hlow, hhigh⟩ := State.nshort_latchPair (s := t) hn
  rcases hc with rfl | rfl <;> assumption

/-- The shorted pairs of this stepping: all but pair 11 (D-02). -/
theorem bitOf_shorted {p : W32} {n : Nat} (hn : n < 23) (h11 : n ≠ 11) (hb : bitOf p n = true) :
    bitOf (p &&& 0x7FF7FF) n = true := by
  have hmask : ∀ i, i < 23 → i ≠ 11 → (0x7FF7FF : W32).getLsbD i = true := by decide
  rw [bitOf, BitVec.getLsbD_and, hmask n hn h11, Bool.and_true]
  exact hb

theorem ntestComplete_latches {s : State} (h : s.halo.ntestRun = true) (p : W32) :
    ∃ t, exec (.ntestComplete p) s = .next t ∧ t.halo.ntestRun = false ∧ t.halo.ntestValid = true ∧
      t.halo.shorted = p &&& 0x7FF7FF ∧
      (∀ n, n < 23 → n ≠ 11 → bitOf p n = true → t.nshort n ∧ t.nshort (n + 1)) ∧ SameBut [.halo, .tail] s t := by
  have hntest := (State.strobesOn_ntest ((s.ntestOver (p &&& 0x7FF7FF)).ix + 1) _).trans
    (foldl_keep State.ntest State.latchPair State.latchPair_ntest (bitsSet (p &&& 0x7FF7FF) 23)
      (s.ntestOver (p &&& 0x7FF7FF)))
  obtain ⟨hrun, hvalid, hshorted⟩ : _ = false ∧ _ = true ∧ _ = p &&& 0x7FF7FF := by
    simpa only [State.ntest, State.ntestOver, Prod.mk.injEq] using hntest
  refine ⟨_, exec_ntestComplete h p, hrun, hvalid, hshorted, fun n hn h11 hb => ?_, ?_⟩
  · have hbad := bitOf_shorted hn h11 hb
    exact ⟨State.nshort_strobesOn _ (State.nshort_latched hn hbad (.inl rfl) _),
      State.nshort_strobesOn _ (State.nshort_latched hn hbad (.inr rfl) _)⟩
  · have hover : SameBut [.halo] s (s.ntestOver (p &&& 0x7FF7FF)) := (s.settleHalos_sameBut _).trans (sameBut_halo _ _)
    exact ((hover.mono (by simp)).trans (SinksOnly.foldl State.latchPair_sinks _ _).1).trans
      ((State.strobesOn_sameBut _ _).mono (by simp))

/-! ## Fades, budgets and shorts (R352, R354–R357) -/

section
variable {c : Nat} (hc : c < 24)
include hc

/-- What FADE_STEP makes of a channel in fade `x`. -/
def HaloCh.fadeStep (x : HaloFade) (h : HaloCh) : HaloCh :=
  { h with
    dutyNow := x.at (x.step + 1)
    nextCurrent := if x.step + 1 = 1 then (match x.current with | some i => some i | none => h.nextCurrent) else h.nextCurrent
    fade := if x.k ≤ x.step + 1 then none else some { x with step := x.step + 1 } }

theorem fadeStep_steps (s : State) : ∃ t, exec (.fadeStep c) s = .next t ∧ SameBut [.halo] s t ∧
    (∀ d, d ≠ c → t.haloCh d = s.haloCh d) ∧ ((s.haloCh c).fade = none → t.haloCh c = s.haloCh c) ∧
    ∀ x, (s.haloCh c).fade = some x → t.haloCh c = (s.haloCh c).fadeStep x := by
  refine ⟨_, rfl, s.modHalo_sameBut c _, fun d hd => State.haloCh_modHalo_other hd _ s, fun h => ?_, fun x h => ?_⟩
  · rw [State.haloCh_modHalo_same hc, h]
  · rw [State.haloCh_modHalo_same hc, h]
    rfl

theorem verifyExpiry_expires (s : State) : ∃ t, exec (.verifyExpiry c) s = .next t ∧ SameBut [.halo] s t ∧
    ∀ k, (s.haloCh c).lastPass = some k → (t.haloCh c).lastPass = if k + 80000000 ≤ s.ix + 1 then none else some k := by
  refine ⟨_, rfl, s.modHalo_sameBut c _, fun k hk => ?_⟩
  rw [State.haloCh_modHalo_same hc, hk]
  show (if (!decide (k + 80000000 ≤ s.ix + 1)) = true then some k else none) = _
  by_cases hold : k + 80000000 ≤ s.ix + 1
  · rw [if_pos hold, decide_eq_true hold]
    rfl
  · rw [if_neg hold, decide_eq_false hold]
    rfl

omit hc in
theorem exec_budgetCut_of_none {s : State} (h : s.haloEntry? c = none) : exec (.budgetCut c) s = .next s := by
  show execBudgetCut c s = _
  rw [execBudgetCut, h]

/-- The channel has used its duty of the interval up to the next sample. -/
def State.dutyUsed (s : State) (c : Nat) (e : EphHaloCh) : Prop :=
  e.dutyMax * 4000000 ≤ (((s.settleHalo (s.ix + 1) c).haloCh c).countStrobe (s.ix + 1)).onTime * 65536

/-- The channel is cut at sample `k`, and the cut counted. -/
def State.cutAt (s : State) (c k : Nat) : State :=
  let t := s.modHalo c fun h => { h.countStrobe k with budget := true, strobeCut := h.strobeCut || s.wireHigh c }
  { t with halo := { t.halo with budgetCnt := t.halo.budgetCnt.inc } }

theorem exec_budgetCut_of_used {s : State} {e : EphHaloCh} (h : s.haloEntry? c = some e)
    (hb : (s.haloCh c).budget = false) (hu : s.dutyUsed c e) :
    exec (.budgetCut c) s = .next ((s.settleHalo (s.ix + 1) c).cutAt c (s.ix + 1)) := by
  have hsettled : (s.settleHalo (s.ix + 1) c).haloCh c = _ := State.haloCh_modHalo_same hc _ s
  show execBudgetCut c s = _
  rw [execBudgetCut, h]
  refine congrArg Host.Outcome.next (if_neg ?_)
  rintro (hcut | hless)
  · rw [hsettled] at hcut
    exact Bool.false_ne_true (hb.symm.trans hcut)
  · exact absurd hu (Nat.not_le.2 hless)

theorem exec_budgetCut_of_kept {s : State} {e : EphHaloCh} (h : s.haloEntry? c = some e)
    (hb : (s.haloCh c).budget = true ∨ ¬ s.dutyUsed c e) :
    exec (.budgetCut c) s = .next (s.settleHalo (s.ix + 1) c) := by
  have hsettled : (s.settleHalo (s.ix + 1) c).haloCh c = _ := State.haloCh_modHalo_same hc _ s
  show execBudgetCut c s = _
  rw [execBudgetCut, h]
  refine congrArg Host.Outcome.next (if_pos (hb.imp (fun hcut => ?_) Nat.not_le.1))
  rw [hsettled]
  exact hcut

theorem State.haloCh_cutAt (s : State) (k : Nat) : (s.cutAt c k).haloCh c =
    { (s.haloCh c).countStrobe k with budget := true, strobeCut := (s.haloCh c).strobeCut || s.wireHigh c } :=
  State.haloCh_modHalo_same hc _ s

omit hc in
/-- Every channel's account is cleared. -/
def State.accountsCleared (s : State) : State :=
  { s with halo := { s.halo with ch := updAll s.halo.ch fun _ h => { h with onTime := 0, budget := false, strobeSince := none } } }

omit hc in
theorem accountingInterval_clears {s : State} (h : s.tickAt 400000 = true) :
    ∃ t, exec .accountingInterval s = .next t ∧ SameBut [.halo] s t ∧ ∀ c, c < 24 →
      (t.haloCh c).onTime = 0 ∧ (t.haloCh c).budget = false := by
  have hrun : exec .accountingInterval s =
      .next ((s.settleHalos s.ix).accountsCleared.strobesOn (s.settleHalos s.ix).accountsCleared.ix) :=
    congrArg Host.Outcome.next (if_neg (by rw [h]; simp))
  refine ⟨_, hrun, ((s.settleHalos_sameBut _).trans (sameBut_halo _ _)).trans (State.strobesOn_sameBut _ _), fun d hd => ?_⟩
  obtain ⟨x, hx⟩ := State.haloCh_strobesOn (s.settleHalos s.ix).accountsCleared.ix d (s.settleHalos s.ix).accountsCleared
  have hcleared : (s.settleHalos s.ix).accountsCleared.haloCh d = _ := nth_updAll _ _ _ hd
  rw [hx, hcleared]
  exact ⟨rfl, rfl⟩

theorem stretchDue_marks (s : State) : ∃ t, exec (.stretchDue c) s = .next t ∧ SameBut [.halo] s t ∧ t.haloCh c =
    if (s.haloEntry? c).isSome = true ∧ s.haloSect?.any (·.stretchOn) = true ∧ (s.haloCh c).dutyNow ≠ 0 ∧
      s.onCounts (s.haloCh c).dutyNow < 80 then { s.haloCh c with stretchDue := true } else s.haloCh c := by
  refine ⟨_, rfl, .ite (s.modHalo_sameBut c _) (.refl _ s), ?_⟩
  split
  · exact State.haloCh_modHalo_same hc _ s
  · rfl

/-- A shorted channel before its record: measured, off and counted. -/
def State.shortFound (s : State) (c : Nat) (m : SinkReading) : State :=
  let t := ((s.settleHalo (s.ix + 1) c).noteSink c m).modHalo c fun h =>
    { h.countStrobe (s.ix + 1) with off := true, fault := .shortSupply }
  { t with halo := { t.halo with shortCnt := t.halo.shortCnt.inc } }

theorem haloShort_cuts {s : State} {m : SinkReading} (hd : s.heldDark c = false) (hm : m.vled < m.mv + 500) :
    ∃ t, exec (.haloShort c m) s = .next t ∧ (t.haloCh c).off = true ∧ (t.haloCh c).fault = .shortSupply ∧
      (t.haloCh c).vsink = BitVec.ofNat 16 m.mv ∧ t.halo.shortCnt = s.halo.shortCnt.inc ∧ SameBut [.halo, .tail] s t := by
  have hrun : exec (.haloShort c m) s = .next ((s.shortFound c m).record 0x0091 .management []) :=
    congrArg Host.Outcome.next (if_neg (by rw [hd]; simpa using hm))
  have hfound : SinksOnly s (s.shortFound c m) :=
    ((s.modHalo_sinks c _).trans (State.noteSink_sinks c m _)).trans
      ((State.modHalo_sinks c _ _).trans (State.withHalo_sinks _ rfl rfl))
  have hhalo := State.record_management_halo 0x0091 [] (s.shortFound c m)
  have hch : (s.shortFound c m).haloCh c = _ := State.haloCh_modHalo_same hc _ _
  have hnoted : ((s.settleHalo (s.ix + 1) c).noteSink c m).haloCh c = _ := State.haloCh_modHalo_same hc _ _
  refine ⟨_, hrun, ?_, ?_, ?_, by rw [hhalo]; rfl, (hfound.trans (State.record_sinks _ _ _)).1⟩
  · rw [State.haloCh_congr hhalo, hch]
  · rw [State.haloCh_congr hhalo, hch]
  · rw [State.haloCh_congr hhalo, hch, HaloCh.countStrobe_eq, hnoted]

end

/-- Settles O38, from the equation of each command and what each event makes of its channel. -/
theorem haloChannelsLightFadeAndFault : Obligations.HaloChannelsLightFadeAndFault := by
  refine ⟨fun e s t f => ⟨fun c hc h hle hz => hc ▸ exec_haloStatus h (hc ▸ hle) hz, fun m hm h hfl hz hlt hch hpow => ?set,
      exec_haloNtest⟩,
    fun s => ⟨fun hp hd he hr => ⟨_, rfl, State.tryNtest_of_free hp hd he hr⟩,
      fun h => congrArg Host.Outcome.next (State.tryNtest_of_busy h)⟩,
    fun s p => ⟨fun h => ?ntest, fun h => congrArg Host.Outcome.next (if_pos (by rw [h]; rfl))⟩,
    fun s c hc => ?fade, fun s c hc => verifyExpiry_expires hc s,
    fun s c hc => ⟨exec_budgetCut_of_none, fun e he => ?budget⟩,
    fun s => ⟨accountingInterval_clears, fun h => congrArg Host.Outcome.next (if_pos h)⟩,
    fun s c hc => stretchDue_marks hc s,
    fun s c m hc => ⟨haloShort_cuts hc, fun h => congrArg Host.Outcome.next (if_pos ?short)⟩⟩
  case set =>
    subst hm
    obtain ⟨u, hrun, hsame, hu⟩ := haloSet_sets h hfl hz hlt hch hpow
    refine ⟨u, hrun, hsame, fun c hc hb => ?_, fun c hc hb => ?_⟩
    · rw [hu c hc, if_pos hb]
      exact e.haloSet_duty (t.haloCh c)
    · rw [hu c hc, hb, if_neg Bool.false_ne_true]
  case ntest =>
    obtain ⟨t, hrun, hr, hv, hs, hlatch, hsame⟩ := ntestComplete_latches h p
    refine ⟨t, hrun, hr, hv, hs, fun n hn h11 hb => ?_, hsame⟩
    obtain ⟨⟨hf, ho⟩, hf', ho'⟩ := hlatch n hn h11 hb
    exact ⟨hf, ho, hf', ho'⟩
  case fade =>
    obtain ⟨t, hrun, hsame, hother, hnone, hstep⟩ := fadeStep_steps hc s
    refine ⟨t, hrun, hsame, hother, hnone, fun x hx => ?_⟩
    rw [hstep x hx]
    refine ⟨rfl, rfl, fun h0 i hi => ?_⟩
    rw [HaloCh.fadeStep, h0, hi]
    rfl
  case budget =>
    have hsettled : (s.settleHalo (s.ix + 1) c).haloCh c = _ := State.haloCh_modHalo_same hc _ s
    by_cases hgo : (s.haloCh c).budget = false ∧ s.dutyUsed c e
    · refine ⟨_, exec_budgetCut_of_used hc he hgo.1 hgo.2, (s.modHalo_sameBut c _).trans
        ((State.modHalo_sameBut c _ _).trans (sameBut_halo _ _)), ?_⟩
      refine (if_pos hgo).mpr ?_
      rw [State.haloCh_cutAt hc, hsettled]
      exact ⟨rfl, rfl, rfl⟩
    · refine ⟨_, exec_budgetCut_of_kept hc he ?_, s.modHalo_sameBut c _, ?_⟩
      · cases hb : (s.haloCh c).budget with
        | true => exact .inl rfl
        | false => exact .inr fun hu => hgo ⟨hb, hu⟩
      · refine (if_neg hgo).mpr ?_
        rw [hsettled]
        exact ⟨rfl, rfl, rfl⟩
  case short =>
    rcases h with h | h
    · rw [h]
      rfl
    · rw [decide_eq_true h, Bool.or_true]

end Sys2Proof.Machine
end

section
/-!
PWM periods and strobes (R349, R350, R353, R355, R356).
-/

namespace Sys2Proof.Machine

/-! ## The start of a period -/

/-- The duty and the current that wait apply. -/
def HaloCh.takeWaiting (h : HaloCh) : HaloCh :=
  { h with dutyNow := h.nextDuty.getD h.dutyNow, nextDuty := none, current := h.nextCurrent.getD h.current, nextCurrent := none }

/-- A period of channel `c` begins: its pulses so far are counted, and what waits applies. -/
def State.pwmBegins (c : Nat) (s : State) : State := (s.settleHalo s.ix c).modHalo c HaloCh.takeWaiting

/-- A short pulse that is due to be stretched, with no exposure. -/
def State.stretches (c : Nat) (s : State) : Bool :=
  (s.haloCh c).stretchDue && s.halo.exposing == 0 && (s.haloCh c).dutyNow != 0 &&
    decide (s.onCounts (s.haloCh c).dutyNow < 80)

/-- The length of the pulse of this period. -/
def State.pulseCounts (c : Nat) (s : State) : Nat := if s.stretches c then 80 else s.onCounts (s.haloCh c).dutyNow

/-- A stretched pulse is counted, once. -/
def State.countStretch (c : Nat) (s : State) : State :=
  let t := s.modHalo c fun h => { h with stretchDue := false }
  { t with halo := { t.halo with stretchCnt := t.halo.stretchCnt.inc } }

/-- A pulse of `n` counts is set in this period. -/
def State.setPulse (c n : Nat) (s : State) : State :=
  s.modHalo c fun h => { h with pulses := h.pulses ++ [(10 * s.ix + s.pulseStart c, 10 * s.ix + s.pulseStart c + n)] }

/-- The reading of a strobe, which is on throughout the period. -/
def State.noteStrobe (c : Nat) (m : SinkReading) (s : State) : State := if s.wireHigh c then s.noteSink c m else s

/-- The reading of a pulse of `n` counts, outside a strobe (`lit`). -/
def State.readPulse (lit : Bool) (c n : Nat) (m : SinkReading) (s : State) : State :=
  if lit then s else if 80 ≤ n then (s.noteSink c m).checkPulse c m else s.noteSink c m

/-- The stretch of a pulse that is due. -/
def State.takeStretch (c : Nat) (s : State) : State := if s.stretches c then s.countStretch c else s

/-- The pulse of a channel that may draw, in a strobe (`lit`) or outside one. -/
def State.pwmPulse (lit : Bool) (c : Nat) (m : SinkReading) (s : State) : State :=
  if s.pulseCounts c = 0 then s.takeStretch c
  else ((s.takeStretch c).setPulse c (s.pulseCounts c)).readPulse lit c (s.pulseCounts c) m

section
variable {s : State} {c : Nat} (hc : c < 24)
include hc

theorem State.haloCh_pwmBegins : (s.pwmBegins c).haloCh c = ((s.settleHalo s.ix c).haloCh c).takeWaiting :=
  State.haloCh_modHalo_same hc _ _

theorem State.heldDark_pwmBegins : (s.pwmBegins c).heldDark c = s.heldDark c := by
  have hsettled : (s.settleHalo s.ix c).haloCh c = _ := State.haloCh_modHalo_same hc _ s
  rw [State.heldDark, State.haloCh_pwmBegins hc, hsettled]
  rfl

theorem exec_pwmPeriod_dark (m : SinkReading) {e : EphHaloCh} (he : s.haloEntry? c = some e) (hd : s.heldDark c = true) :
    exec (.pwmPeriod c m) s = .next (s.pwmBegins c) := by
  rw [← State.heldDark_pwmBegins hc] at hd
  exact (if_neg (by rw [he]; exact Bool.false_ne_true)).trans (if_pos hd)

theorem exec_pwmPeriod_lit (m : SinkReading) {e : EphHaloCh} (he : s.haloEntry? c = some e) (hd : s.heldDark c = false) :
    exec (.pwmPeriod c m) s = .next (((s.pwmBegins c).noteStrobe c m).pwmPulse (s.wireHigh c) c m) := by
  rw [← State.heldDark_pwmBegins hc] at hd
  refine (if_neg (by rw [he]; exact Bool.false_ne_true)).trans ((if_neg (Bool.eq_false_iff.1 hd)).trans ?_)
  exact Eq.trans rfl (apply_ite Host.Outcome.next _ _ _).symm

/-! ## The pulse -/

theorem State.haloCh_noteSink (m : SinkReading) :
    (s.noteSink c m).haloCh c = { s.haloCh c with vsink := BitVec.ofNat 16 m.mv } :=
  State.haloCh_modHalo_same hc _ s

/-- A check changes of its channel what R355 says, and nothing of its drive. -/
theorem State.haloCh_checkPulse (m : SinkReading) : ∃ p n x, (s.checkPulse c m).haloCh c =
    { s.haloCh c with lastCheck := some s.ix, lastPass := p, fails := n, fault := x } := by
  obtain h | h : s.checkPulse c m = _ ∨ s.checkPulse c m = _ := ite_eq_or_eq _ _ _ <;> rw [h]
  · rw [State.haloCh_congr (State.record_management_halo 0x0090 [] _)]
    exact ⟨_, _, _, State.haloCh_modHalo_same hc _ s⟩
  · exact ⟨_, _, _, State.haloCh_modHalo_same hc _ s⟩

omit hc in
theorem State.checkPulse_stretchCnt (m : SinkReading) : (s.checkPulse c m).halo.stretchCnt = s.halo.stretchCnt := by
  obtain h | h : s.checkPulse c m = _ ∨ s.checkPulse c m = _ := ite_eq_or_eq _ _ _ <;> rw [h]
  · rw [State.record_management_halo]
    rfl
  · rfl

/-- What a channel drives, and the count of stretched pulses. -/
def State.drive (c : Nat) (s : State) : Nat × Nat × Option Nat × Option Nat × List (Nat × Nat) × Bool × Counter :=
  let h := s.haloCh c
  (h.dutyNow, h.current, h.nextDuty, h.nextCurrent, h.pulses, h.stretchDue, s.halo.stretchCnt)

theorem State.noteSink_drive (m : SinkReading) : (s.noteSink c m).drive c = s.drive c := by
  rw [State.drive, State.haloCh_noteSink hc]
  rfl

theorem State.checkPulse_drive (m : SinkReading) : (s.checkPulse c m).drive c = s.drive c := by
  obtain ⟨p, n, x, h⟩ := State.haloCh_checkPulse (s := s) hc m
  rw [State.drive, h, State.checkPulse_stretchCnt]
  rfl

theorem State.noteStrobe_drive (m : SinkReading) : (s.noteStrobe c m).drive c = s.drive c := by
  unfold State.noteStrobe
  split
  · exact State.noteSink_drive hc m
  · rfl

theorem State.readPulse_drive (lit : Bool) (n : Nat) (m : SinkReading) :
    (s.readPulse lit c n m).drive c = s.drive c := by
  unfold State.readPulse
  split
  · rfl
  · split
    · rw [State.checkPulse_drive hc, State.noteSink_drive hc]
    · exact State.noteSink_drive hc m

theorem State.haloCh_countStretch : (s.countStretch c).haloCh c = { s.haloCh c with stretchDue := false } :=
  State.haloCh_modHalo_same hc _ s

theorem State.haloCh_takeStretch : (s.takeStretch c).haloCh c =
    if s.stretches c then { s.haloCh c with stretchDue := false } else s.haloCh c := by
  unfold State.takeStretch
  split
  · exact State.haloCh_countStretch hc
  · rfl

omit hc in
theorem State.takeStretch_clock : (s.takeStretch c).ix = s.ix ∧ (s.takeStretch c).pulseStart c = s.pulseStart c := by
  unfold State.takeStretch
  split <;> exact ⟨rfl, rfl⟩

/-- The drive after a period's pulse: `n` counts where they are not 0, and the count of a stretch. -/
def State.pulsedDrive (c : Nat) (s : State) :
    Nat × Nat × Option Nat × Option Nat × List (Nat × Nat) × Bool × Counter :=
  let h := s.haloCh c
  (h.dutyNow, h.current, h.nextDuty, h.nextCurrent,
    if s.pulseCounts c = 0 then h.pulses else
      h.pulses ++ [(10 * s.ix + s.pulseStart c, 10 * s.ix + s.pulseStart c + s.pulseCounts c)],
    h.stretchDue && !s.stretches c, if s.stretches c then s.halo.stretchCnt.inc else s.halo.stretchCnt)

theorem State.takeStretch_drive : (s.takeStretch c).drive c = ((s.haloCh c).dutyNow, (s.haloCh c).current,
    (s.haloCh c).nextDuty, (s.haloCh c).nextCurrent, (s.haloCh c).pulses, (s.haloCh c).stretchDue && !s.stretches c,
    if s.stretches c then s.halo.stretchCnt.inc else s.halo.stretchCnt) := by
  rw [State.drive, State.haloCh_takeStretch hc, State.takeStretch]
  split
  next h => simp [h, State.countStretch, State.modHalo]
  next h => simp [h]

theorem State.pwmPulse_drive (lit : Bool) (m : SinkReading) : (s.pwmPulse lit c m).drive c = s.pulsedDrive c := by
  obtain ⟨hix, hstart⟩ := s.takeStretch_clock (c := c)
  have htaken := State.takeStretch_drive (s := s) hc
  unfold State.pwmPulse State.pulsedDrive
  split
  next h => rw [htaken]
  next h =>
    rw [State.readPulse_drive hc, State.drive, State.setPulse, State.haloCh_modHalo_same hc, hix, hstart]
    simp only [State.drive, Prod.mk.injEq] at htaken ⊢
    obtain ⟨hd, hcur, hnd, hnc, hp, hsd, hcnt⟩ := htaken
    exact ⟨hd, hcur, hnd, hnc, by rw [hp], hsd, hcnt⟩

theorem State.noteStrobe_pulsedDrive (m : SinkReading) : (s.noteStrobe c m).pulsedDrive c = s.pulsedDrive c := by
  unfold State.noteStrobe
  split
  · simp only [State.pulsedDrive, State.pulseCounts, State.stretches, State.haloCh_noteSink hc]
    rfl
  · rfl

omit hc in
theorem State.pwmBegins_sinks : SinksOnly s (s.pwmBegins c) := (s.modHalo_sinks c _).trans (State.modHalo_sinks _ _ _)

omit hc in
theorem State.pwmPulse_sinks (lit : Bool) (m : SinkReading) : SinksOnly s (s.pwmPulse lit c m) := by
  have hstretch : SinksOnly s (s.takeStretch c) :=
    .ite ((s.modHalo_sinks c _).trans (State.withHalo_sinks _ rfl rfl)) (.refl s)
  have hread (u : State) (n : Nat) : SinksOnly u (u.readPulse lit c n m) :=
    .ite (.refl u) (.ite ((u.noteSink_sinks c m).trans (State.checkPulse_sinks c m _)) (u.noteSink_sinks c m))
  exact .ite hstretch ((hstretch.trans (State.modHalo_sinks c _ _)).trans (hread _ _))

/-- In a strobe, which is checked at its end, a period checks nothing. -/
theorem State.pwmPulse_unchecked (m : SinkReading) : ((s.pwmPulse true c m).haloCh c).lastCheck = (s.haloCh c).lastCheck ∧
    ((s.pwmPulse true c m).haloCh c).fault = (s.haloCh c).fault := by
  have htaken : ((s.takeStretch c).haloCh c).lastCheck = (s.haloCh c).lastCheck ∧
      ((s.takeStretch c).haloCh c).fault = (s.haloCh c).fault := by
    rw [State.haloCh_takeStretch hc]
    split <;> exact ⟨rfl, rfl⟩
  unfold State.pwmPulse
  split
  · exact htaken
  · rw [State.readPulse, if_pos rfl, State.setPulse, State.haloCh_modHalo_same hc]
    exact htaken

/-- Outside a strobe a pulse of 2 us and more is measured and checked. -/
theorem State.pwmPulse_checked (m : SinkReading) (hn : 80 ≤ s.pulseCounts c) :
    ((s.pwmPulse false c m).haloCh c).lastCheck = some s.ix ∧
    ((s.pwmPulse false c m).haloCh c).vsink = BitVec.ofNat 16 m.mv := by
  obtain ⟨hix, -⟩ := s.takeStretch_clock (c := c)
  rw [State.pwmPulse, if_neg (by omega), State.readPulse, if_neg Bool.false_ne_true, if_pos hn]
  obtain ⟨p, n, x, hch⟩ := State.haloCh_checkPulse (c := c) hc m
    (s := ((s.takeStretch c).setPulse c (s.pulseCounts c)).noteSink c m)
  rw [hch, State.haloCh_noteSink hc]
  exact ⟨congrArg some hix, rfl⟩

end

/-- A period of a channel held dark: what waits applies, and no pulse is set. -/
theorem pwmPeriod_dark {s : State} {c : Nat} (hc : c < 24) (m : SinkReading) {e : EphHaloCh} (he : s.haloEntry? c = some e)
    (hd : s.heldDark c = true) : ∃ t, exec (.pwmPeriod c m) s = .next t ∧ SameBut [.halo, .tail] s t ∧
      t.haloCh c = ((s.settleHalo s.ix c).haloCh c).takeWaiting ∧ t.halo.vledMeasured = s.halo.vledMeasured :=
  ⟨_, exec_pwmPeriod_dark hc m he hd, State.pwmBegins_sinks.1, State.haloCh_pwmBegins hc, rfl⟩

/-! ## Strobes (R353) -/

/-- A window that is near stays near for a longer lead. -/
theorem State.windowNear_mono {s : State} {i k a b : Nat} (hab : a ≤ b) (h : s.windowNear i k a = true) :
    s.windowNear i k b = true := by
  have hwin (x : Nat) (hx : decide (x ≤ k + a) = true) : decide (x ≤ k + b) = true :=
    decide_eq_true ((of_decide_eq_true hx).trans (by omega))
  unfold State.windowNear at h ⊢
  rw [Bool.or_eq_true, Bool.and_eq_true] at h ⊢
  refine h.imp (fun hw => ?_) fun ⟨hc, he⟩ => ⟨hc, ?_⟩
  · obtain ⟨w, hm, hw⟩ := List.any_eq_true.1 hw
    exact List.any_eq_true.2 ⟨w, hm, hwin _ hw⟩
  · obtain ⟨x, hm, hx⟩ := List.any_eq_true.1 he
    exact List.any_eq_true.2 ⟨x, hm, hwin _ hx⟩

/-- The sensor exposes. -/
def State.exposes (i : Nat) (s : State) : State :=
  { s with halo := { s.halo with exposing := s.halo.exposing ||| BitVec.ofNat 32 (2 ^ i) } }

/-- The sensor's wires are high. -/
def State.wiresUp (i : Nat) (s : State) : State :=
  { s with halo := { s.halo with strobing := s.halo.strobing ||| BitVec.ofNat 32 (2 ^ i) } }

/-- The strobe of channel `c` begins at sample `k`. -/
def State.strobeBegins (k : Nat) (s : State) (c : Nat) : State :=
  (s.modHalo c fun h => { h with wireSince := h.wireSince <|> some k }).strobeOn k c

/-- The sensor's channels are counted, its wires rise, and its strobes begin. -/
def State.strobeRises (i k : Nat) (s : State) : State :=
  let chs := (List.range 24).filter (s.strobes i)
  chs.foldl (State.strobeBegins k) ((chs.foldl (fun s c => s.settleHalo k c) s).wiresUp i)

theorem exec_strobeStart_far {s : State} {i : Nat} (h : s.windowNear i (s.ix + 1) 40 = false) :
    exec (.strobeStart i) s = .next s := by
  have hfar : s.windowNear i (s.ix + 1) 4 = false := by
    by_contra hnear
    exact Bool.false_ne_true (h.symm.trans (State.windowNear_mono (by omega) (Bool.eq_true_of_not_eq_false hnear)))
  show execStrobeStart i s = _
  simp [execStrobeStart, h, hfar]

theorem exec_strobeStart_near {s : State} {i : Nat} (h : s.windowNear i (s.ix + 1) 40 = true) :
    exec (.strobeStart i) s = .next (if (s.windowNear i (s.ix + 1) 4 && !bitOf s.halo.strobing i) = true
      then (s.exposes i).strobeRises i (s.ix + 1) else s.exposes i) := by
  show execStrobeStart i s = _
  unfold execStrobeStart
  simp only [h, if_true]
  rfl

theorem bitOf_or_self {i : Nat} (hi : i < 32) (w : W32) : bitOf (w ||| BitVec.ofNat 32 (2 ^ i)) i = true := by
  rw [bitOf, BitVec.getLsbD_or, BitVec.getLsbD_ofNat, Nat.testBit_two_pow_self, decide_eq_true hi]
  simp

/-- The frame of a rising strobe, and the wires after it. -/
theorem State.strobeRises_wires (i k : Nat) (s : State) : SameBut [.halo] s (s.strobeRises i k) ∧
    (s.strobeRises i k).wires = (s.halo.exposing, s.halo.strobing ||| BitVec.ofNat 32 (2 ^ i)) := by
  have hbegins (u : State) (c : Nat) : SameBut [.halo] u (u.strobeBegins k c) ∧ (u.strobeBegins k c).wires = u.wires := by
    unfold State.strobeBegins State.strobeOn
    split
    · exact ⟨u.modHalo_sameBut c _, rfl⟩
    · exact ⟨(u.modHalo_sameBut c _).trans (State.modHalo_sameBut c _ _), rfl⟩
  refine ⟨((SameBut.foldl (fun u c => u.modHalo_sameBut c _) _ s).trans (sameBut_halo _ _)).trans
    (SameBut.foldl (fun u c => (hbegins u c).1) _ _), ?_⟩
  refine (foldl_keep State.wires _ (fun u c => (hbegins u c).2) _ _).trans ?_
  have hsettled := foldl_keep State.wires (fun (u : State) c => u.settleHalo k c) (fun _ _ => by rfl)
    ((List.range 24).filter (s.strobes i)) s
  obtain ⟨hexp, hstr⟩ := Prod.mk.inj hsettled
  exact Prod.ext hexp (congrArg (· ||| BitVec.ofNat 32 (2 ^ i)) hstr)

/-- The wire of a channel that strobes with a sensor whose wires are high. -/
theorem State.wireHigh_of_strobing {s t : State} (hsame : SameBut [.halo] s t) {i c : Nat} (hi : i < 8)
    (hb : bitOf t.halo.strobing i = true) (hc : s.strobes i c = true) : t.wireHigh c = true := by
  have heph : t.eph = s.eph := hsame .eph (by simp)
  refine List.any_eq_true.2 ⟨i, List.mem_range.2 hi, ?_⟩
  rw [hb, Bool.true_and, State.strobes, State.sensorEntry?, heph]
  exact hc

theorem strobeStart_raises {s : State} {i : Nat} (hi : i < 8) (h : s.windowNear i (s.ix + 1) 40 = true) :
    ∃ t, exec (.strobeStart i) s = .next t ∧ SameBut [.halo] s t ∧ bitOf t.halo.exposing i = true ∧
      (s.windowNear i (s.ix + 1) 4 = true → bitOf t.halo.strobing i = true ∧
        ∀ c, c < 24 → s.strobes i c = true → t.wireHigh c = true) := by
  have hexposes : SameBut [.halo] s (s.exposes i) := sameBut_halo s _
  refine ⟨_, exec_strobeStart_near h, ?_⟩
  split
  next hrise =>
    obtain ⟨hsame, hwires⟩ := (s.exposes i).strobeRises_wires i (s.ix + 1)
    obtain ⟨hexp, hstr⟩ := Prod.mk.inj hwires
    have hbit := hstr ▸ bitOf_or_self (i := i) (by omega) _
    refine ⟨hexposes.trans hsame, hexp ▸ bitOf_or_self (by omega) _, fun _ => ⟨hbit, fun c _ hc => ?_⟩⟩
    exact State.wireHigh_of_strobing (hexposes.trans hsame) hi hbit hc
  next hstay =>
    refine ⟨hexposes, bitOf_or_self (by omega) _, fun hnear => ?_⟩
    have hbit : bitOf s.halo.strobing i = true := by
      rw [hnear, Bool.true_and] at hstay
      simpa using hstay
    exact ⟨hbit, fun c _ hc => State.wireHigh_of_strobing hexposes hi hbit hc⟩

/-- A period of a channel that may draw: its drive, and what is measured of it. -/
theorem pwmPeriod_pulses {s : State} {c : Nat} (hc : c < 24) (m : SinkReading) {e : EphHaloCh}
    (he : s.haloEntry? c = some e) (hd : s.heldDark c = false) :
    ∃ t, exec (.pwmPeriod c m) s = .next t ∧ SameBut [.halo, .tail] s t ∧
      t.drive c = (s.pwmBegins c).pulsedDrive c ∧
      (s.wireHigh c = false → 80 ≤ (s.pwmBegins c).pulseCounts c → (t.haloCh c).lastCheck = some s.ix ∧
        (t.haloCh c).vsink = BitVec.ofNat 16 m.mv) ∧
      (s.wireHigh c = true → (t.haloCh c).lastCheck = (s.haloCh c).lastCheck ∧
        (t.haloCh c).fault = (s.haloCh c).fault) := by
  have hbegun : ((s.pwmBegins c).haloCh c).lastCheck = (s.haloCh c).lastCheck ∧
      ((s.pwmBegins c).haloCh c).fault = (s.haloCh c).fault := by
    have hsettled : (s.settleHalo s.ix c).haloCh c = _ := State.haloCh_modHalo_same hc _ s
    rw [State.haloCh_pwmBegins hc, hsettled]
    exact ⟨rfl, rfl⟩
  refine ⟨_, exec_pwmPeriod_lit hc m he hd, ?_, (State.pwmPulse_drive hc _ m).trans (State.noteStrobe_pulsedDrive hc m),
    fun hw hn => ?_, fun hw => ?_⟩
  · have hnote : SinksOnly (s.pwmBegins c) ((s.pwmBegins c).noteStrobe c m) :=
      .ite (State.noteSink_sinks c m _) (.refl _)
    exact ((State.pwmBegins_sinks.trans hnote).trans (State.pwmPulse_sinks _ m)).1
  · have hlow : (s.pwmBegins c).wireHigh c = false := hw
    have hdark : (s.pwmBegins c).noteStrobe c m = s.pwmBegins c := if_neg (Bool.eq_false_iff.1 hlow)
    rw [hdark, hw]
    exact State.pwmPulse_checked hc m hn
  · have hlit : (s.pwmBegins c).noteStrobe c m = (s.pwmBegins c).noteSink c m := if_pos hw
    rw [hlit, hw]
    obtain ⟨hl, hf⟩ := State.pwmPulse_unchecked (s := (s.pwmBegins c).noteSink c m) hc m
    rw [hl, hf, State.haloCh_noteSink hc]
    exact hbegun

/-- Settles O39, from what a period leaves of its channel's drive, and from the wires that a strobe raises. -/
theorem pwmPeriodsAndStrobesDriveTheSinks : Obligations.PwmPeriodsAndStrobesDriveTheSinks := by
  refine ⟨fun s c m hc he => ?period, fun s c m he => if_pos (by rw [he]; rfl),
    fun s i hi => ⟨exec_strobeStart_far, strobeStart_raises hi⟩⟩
  obtain ⟨e, he⟩ := Option.isSome_iff_exists.1 he
  have hsettled : (s.settleHalo s.ix c).haloCh c = _ := State.haloCh_modHalo_same hc _ s
  cases hd : s.heldDark c with
  | true =>
    obtain ⟨t, hrun, hsame, hch, hvled⟩ := pwmPeriod_dark hc m he hd
    have hall := hch.trans (congrArg HaloCh.takeWaiting hsettled)
    refine ⟨t, hrun, hsame, by rw [hall]; rfl, by rw [hall]; rfl, by rw [hall]; rfl, by rw [hall]; rfl,
      fun _ => ⟨by rw [hch]; rfl, hvled⟩, nofun, nofun, nofun, fun _ => ?_⟩
    rw [hall]
    exact ⟨rfl, rfl⟩
  | false =>
    obtain ⟨t, hrun, hsame, hdrive, hchecked, hlit⟩ := pwmPeriod_pulses hc m he hd
    simp only [State.drive, State.pulsedDrive, Prod.mk.injEq] at hdrive
    obtain ⟨hduty, hcur, hnd, hnc, hpulses, hdue, hcnt⟩ := hdrive
    have hbegun := (State.haloCh_pwmBegins (s := s) hc).trans (congrArg HaloCh.takeWaiting hsettled)
    have hnow : ((s.pwmBegins c).haloCh c).dutyNow = (t.haloCh c).dutyNow := hduty.symm
    have hstretch : (s.pwmBegins c).stretches c = ((s.haloCh c).stretchDue && s.halo.exposing == 0 &&
        (t.haloCh c).dutyNow != 0 && decide (s.onCounts (t.haloCh c).dutyNow < 80)) := by
      rw [State.stretches, hnow, hbegun]
      rfl
    have hplain (h : (s.pwmBegins c).stretches c = false) :
        (s.pwmBegins c).pulseCounts c = s.onCounts (t.haloCh c).dutyNow := by
      rw [State.pulseCounts, h, hnow]
      rfl
    refine ⟨t, hrun, hsame, hduty.trans (by rw [hbegun]; rfl), hcur.trans (by rw [hbegun]; rfl),
      hnd.trans (by rw [hbegun]; rfl), hnc.trans (by rw [hbegun]; rfl), nofun, fun _ hno => ?_, fun _ hd he hn h80 => ?_,
      fun _ hw h80 => ?_, hlit⟩
    · have hnone : (s.pwmBegins c).stretches c = false := by
        simp only [hstretch, Bool.and_eq_false_iff, beq_eq_false_iff_ne, bne_eq_false_iff_eq, decide_eq_false_iff_not,
          Nat.not_lt, or_assoc]
        exact hno
      rw [hpulses, hcnt, hplain hnone, hnone, State.haloCh_pwmBegins hc]
      exact ⟨rfl, rfl⟩
    · have hyes : (s.pwmBegins c).stretches c = true := by
        rw [hstretch]
        simp [hd, he, hn, h80]
      rw [hpulses, hdue, hcnt, State.pulseCounts, hyes, State.haloCh_pwmBegins hc, Bool.not_true, Bool.and_false]
      exact ⟨rfl, rfl, rfl⟩
    · refine hchecked hw ?_
      rw [hplain (by rw [hstretch]; simp [Nat.not_lt.2 h80])]
      exact h80

end Sys2Proof.Machine
end

section
/-!
The Orbit ring: what each operation on frames makes of the ports and the duplicate table, and what of machine time it
leaves alone (R364–R371).
-/

namespace Sys2Proof.Machine

/-! ## Ports -/

theorem State.ringPort_modRing_same {p : Nat} (hp : p < 2) (f : RingPort → RingPort) (s : State) :
    (s.modRing p f).ringPort p = f (s.ringPort p) :=
  nth_upd_same _ _ f hp

theorem State.ringPort_modRing_other {p q : Nat} (h : q ≠ p) (f : RingPort → RingPort) (s : State) :
    (s.modRing p f).ringPort q = s.ringPort q :=
  nth_upd_other _ _ f h

theorem State.modRing_sameBut (p : Nat) (f : RingPort → RingPort) (s : State) : SameBut [.time] s (s.modRing p f) :=
  sameBut_time s _

theorem State.outbox_sameBut (o : Out) (s : State) : SameBut [.outbox] s (s.send o) := sameBut_outbox s _

/-! ## Machine time apart from the ring's frames -/

/-- Machine time, the servo and the path delays: all that a frame of the ring does not touch. -/
def TimeState.steering (x : TimeState) : TimeState :=
  { x with
    ports := x.ports.map fun p => { meanDelay := p.meanDelay }
    dupTable := [], resid := [], hsrSeq := 0, rxSup := 0, rxOther := 0 }

/-- Machine time, the servo and the path delays of a state. -/
def State.steering (s : State) : TimeState := s.time.steering

theorem State.domain_of_steering {s t : State} (h : t.steering = s.steering) (d : Nat) : t.domain d = s.domain d :=
  (congrArg (fun x : TimeState => nth ({} : PtpDomain) x.domains d) h :)

theorem State.t_of_steering {s t : State} (h : t.steering = s.steering) : t.time.t = s.time.t :=
  (congrArg TimeState.t h :)

theorem State.meanDelay_of_steering {s t : State} (h : t.steering = s.steering) (p : Nat) :
    (t.ringPort p).meanDelay = (s.ringPort p).meanDelay := by
  have hport (x : TimeState) : (nth ({} : RingPort) x.ports p).meanDelay = (nth ({} : RingPort) x.steering.ports p).meanDelay := by
    simp only [nth, TimeState.steering, Vector.getElem?_map]
    cases x.ports[p]? <;> rfl
  exact (hport t.time).trans ((congrArg (fun x : TimeState => (nth ({} : RingPort) x.ports p).meanDelay) h).trans
    (hport s.time).symm)

theorem State.modRing_steering {f : RingPort → RingPort} (h : ∀ x, (f x).meanDelay = x.meanDelay) (p : Nat) (s : State) :
    (s.modRing p f).steering = s.steering := by
  have hports := map_upd (f := f) (g := fun x => ({ meanDelay := x.meanDelay } : RingPort)) (fun x => by rw [h]) s.time.ports p
  simp only [State.steering, TimeState.steering, State.modRing, hports]

theorem State.ringOther_sameBut (s : State) : SameBut [.time] s s.ringOther := sameBut_time s _

theorem State.ringOther_steering (s : State) : s.ringOther.steering = s.steering := rfl

theorem State.ringSend_sameBut (p bits : Nat) (o : Nat → Out) (s : State) :
    SameBut [.time, .outbox] s (s.ringSend p bits o) := by
  have hport (q : Nat) (f : RingPort → RingPort) : SameBut [.time, .outbox] s (s.modRing q f) :=
    (s.modRing_sameBut q f).mono (by simp)
  exact .ite (.refl _ s) (.ite (hport p _) ((hport _ _).trans ((State.outbox_sameBut _ _).mono (by simp))))

theorem State.ringSend_steering (p bits : Nat) (o : Nat → Out) (s : State) : (s.ringSend p bits o).steering = s.steering := by
  unfold State.ringSend
  dsimp only
  split
  · rfl
  · split
    · exact State.modRing_steering (f := fun x => { x with drop := x.drop.inc }) (fun _ => rfl) p s
    · exact State.modRing_steering (f := fun x => { x with queueBits := (s.ringPort (1 - p)).queueBits + bits })
        (fun _ => rfl) (1 - p) s

/-! ## A frame enters (R366) -/

/-- The ring has shown this frame in direction `d`. -/
def State.seenFrom (s : State) (mac : Nat) (seq : W16) (d : Nat) : Prop :=
  ∃ e ∈ s.dupLive, e.mac = mac ∧ e.seq = seq ∧ e.dir = d

section
variable {s : State} {p mac : Nat} {seq : W16}

theorem State.ringEnter_of_plain (h : s.ringMode ≠ 1) : s.ringEnter p mac seq = (s, false, true) := if_pos h

theorem State.seenFrom_iff : s.seenFrom mac seq p ↔
    ((s.dupLive.filter fun e => e.mac == mac && e.seq == seq).any fun e => e.dir == p) = true := by
  simp only [State.seenFrom, List.any_eq_true, List.mem_filter, Bool.and_eq_true, beq_iff_eq]
  exact ⟨fun ⟨e, he, hm, hq, hd⟩ => ⟨e, ⟨he, hm, hq⟩, hd⟩, fun ⟨e, ⟨he, hm, hq⟩, hd⟩ => ⟨e, he, hm, hq, hd⟩⟩

theorem State.ringEnter_of_seen (hmode : s.ringMode = 1) (h : s.seenFrom mac seq p) :
    s.ringEnter p mac seq = (s.modRing p fun x => { x with dup := x.dup.inc }, false, false) :=
  (if_neg (not_not.2 hmode)).trans (if_pos (State.seenFrom_iff.1 h))

theorem State.ringEnter_of_new (hmode : s.ringMode = 1) (h : ¬ s.seenFrom mac seq p) :
    s.ringEnter p mac seq = (s.noteDup { mac := mac, seq := seq, dir := p, at_ := s.time.t }, mac != s.ownMac,
      (s.dupLive.filter fun e => e.mac == mac && e.seq == seq).isEmpty) :=
  (if_neg (not_not.2 hmode)).trans (if_neg fun hit => h (State.seenFrom_iff.2 hit))

theorem State.noteDup_sameBut (e : DupEntry) (s : State) : SameBut [.time] s (s.noteDup e) := sameBut_time s _

theorem State.ringEnter_sameBut (p mac : Nat) (seq : W16) (s : State) : SameBut [.time] s (s.ringEnter p mac seq).1 := by
  by_cases hmode : s.ringMode = 1
  · by_cases h : s.seenFrom mac seq p
    · rw [State.ringEnter_of_seen hmode h]
      exact s.modRing_sameBut p _
    · rw [State.ringEnter_of_new hmode h]
      exact s.noteDup_sameBut _
  · rw [State.ringEnter_of_plain hmode]
    exact .refl _ s

theorem State.ringEnter_steering (p mac : Nat) (seq : W16) (s : State) : (s.ringEnter p mac seq).1.steering = s.steering := by
  by_cases hmode : s.ringMode = 1
  · by_cases h : s.seenFrom mac seq p
    · rw [State.ringEnter_of_seen hmode h]
      exact State.modRing_steering (f := fun x => { x with dup := x.dup.inc }) (fun _ => rfl) p s
    · rw [State.ringEnter_of_new hmode h]
      rfl
  · rw [State.ringEnter_of_plain hmode]

end

/-! ## PTP messages go on (R370) -/

theorem State.ptpSend_sameBut (p : Nat) (m : PtpMsg) (add : Int) (s : State) :
    SameBut [.time, .outbox] s (s.ptpSend p m add) := s.ringSend_sameBut p _ _

theorem State.ptpSend_steering (p : Nat) (m : PtpMsg) (add : Int) (s : State) :
    (s.ptpSend p m add).steering = s.steering := s.ringSend_steering p _ _

theorem State.ptpOther_sameBut (fwd : Bool) (s : State) : SameBut [.time] s (s.ptpOther fwd) :=
  .ite (.refl _ s) s.ringOther_sameBut

theorem State.ptpOther_steering (fwd : Bool) (s : State) : (s.ptpOther fwd).steering = s.steering := by
  obtain h | h : s.ptpOther fwd = s ∨ s.ptpOther fwd = s.ringOther := ite_eq_or_eq _ _ _ <;> rw [h]
  exact s.ringOther_steering

/-- A forwarded Sync with its residence noted for the Follow_Up. -/
def State.noteResid (r : Resid) (others : List Resid) (s : State) : State :=
  { s with time := { s.time with resid := r :: others } }

theorem State.transit_sameBut (p : Nat) (m : PtpMsg) (s : State) : SameBut [.freeCtr] s (s.transit p m).2 :=
  s.drawIn_sameBut 0 (600 * 65536 + (s.ringPort (1 - p)).queueBits * 6554)

theorem State.forwardSync_sameBut (p : Nat) (m : PtpMsg) (s : State) :
    SameBut [.time, .outbox, .freeCtr] s (s.forwardSync p m) := by
  have hsend (add : Int) (u : State) : SameBut [.time, .outbox, .freeCtr] u (u.ptpSend p m add) :=
    (u.ptpSend_sameBut p m add).mono (by simp)
  have htransit : SameBut [.time, .outbox, .freeCtr] s (s.transit p m).2 := (s.transit_sameBut p m).mono (by simp)
  exact .ite (hsend 0 s) (.ite ((htransit.trans ((sameBut_time _ _).mono (by simp))).trans (hsend 0 _))
    (htransit.trans (hsend _ _)))

theorem State.forwardSync_steering (p : Nat) (m : PtpMsg) (s : State) : (s.forwardSync p m).steering = s.steering := by
  unfold State.forwardSync
  split
  · exact s.ptpSend_steering p m 0
  · dsimp only
    split
    · exact (State.ptpSend_steering p m 0 _).trans rfl
    · exact (State.ptpSend_steering p m _ _).trans rfl

theorem State.forwardFollowUp_sameBut (p : Nat) (m : PtpMsg) (s : State) :
    SameBut [.time, .outbox] s (s.forwardFollowUp p m) :=
  ((sameBut_time _ _).mono (by simp)).trans (State.ptpSend_sameBut p m _ _)

theorem State.forwardFollowUp_steering (p : Nat) (m : PtpMsg) (s : State) :
    (s.forwardFollowUp p m).steering = s.steering := (State.ptpSend_steering p m _ _).trans rfl

/-! ## The device's own frames (R364, R368) -/

/-- One frame of the device's own on port `p`; in MODE 1 with the HSR tag of number `n`. -/
def State.ownFrame (etherType dst : Nat) (seq : Nat → Nat) (corr : Int) (tagged : Bool) (n : W16) (s : State) (p : Nat) :
    State :=
  let r := s.draw 4096
  let tag := if tagged then some { path := p, seq := n, lsdu := r.1 } else none
  (if tagged then r.2 else s).send (.ringOwn p etherType dst (seq p) s.ownVlan corr tag)

theorem State.ringOwn_eq (ps : List Nat) (etherType dst : Nat) (seq : Nat → Nat) (corr : Int) (s : State) :
    s.ringOwn ps etherType dst seq corr =
      let u := ps.foldl (State.ownFrame etherType dst seq corr (s.ringMode == 1) s.time.hsrSeq) s
      if (s.ringMode == 1) && ps != [] then { u with time := { u.time with hsrSeq := s.time.hsrSeq + 1 } } else u := rfl

section
variable {etherType dst : Nat} {seq : Nat → Nat} {corr : Int} {tagged : Bool} {n : W16} {s : State} {p : Nat}

theorem State.ownFrame_sameBut : SameBut [.time, .outbox, .freeCtr] s (s.ownFrame etherType dst seq corr tagged n p) :=
  (SameBut.ite ((s.draw_sameBut 4096).mono (by simp)) (.refl _ s)).trans ((State.outbox_sameBut _ _).mono (by simp))

theorem State.ownFrame_time : (s.ownFrame etherType dst seq corr tagged n p).time = s.time := by cases tagged <;> rfl

theorem State.ownFrame_eph : (s.ownFrame etherType dst seq corr tagged n p).eph = s.eph := by cases tagged <;> rfl

theorem State.ownFrame_outbox : ∃ x, (s.ownFrame etherType dst seq corr tagged n p).outbox =
    .ringOwn p etherType dst (seq p) s.ownVlan corr (if tagged then some { path := p, seq := n, lsdu := x } else none) ::
      s.outbox := by
  cases tagged
  · exact ⟨0, rfl⟩
  · exact ⟨_, rfl⟩

theorem State.ringOwn_sameBut (ps : List Nat) :
    SameBut [.time, .outbox, .freeCtr] s (s.ringOwn ps etherType dst seq corr) := by
  rw [State.ringOwn_eq]
  have hframes (tagged : Bool) (n : W16) := SameBut.foldl
    (fun (u : State) p => State.ownFrame_sameBut (etherType := etherType) (dst := dst) (seq := seq) (corr := corr)
      (tagged := tagged) (n := n) (s := u) (p := p)) ps s
  exact .ite ((hframes _ _).trans ((sameBut_time _ _).mono (by simp))) (hframes _ _)

end

end Sys2Proof.Machine
end

section
/-!
O48: the frames of the ring (R364–R369).
-/

namespace Sys2Proof

/-- The frame is damaged or of a wrong length (R365). -/
def RingFrame.bad (f : RingFrame) : Bool := !f.fcsOk || decide (f.length < 64) || decide (1528 < f.length)

/-- The frame as it leaves by port `q`. -/
def RingFrame.out (f : RingFrame) (q : Nat) : Machine.Out :=
  .ring q f.etherType f.src f.dst f.seq.toNat 0 f.bad

/-- The frame's entry in the duplicate table. -/
def RingFrame.entry (f : RingFrame) (p t : Nat) : Machine.DupEntry :=
  { mac := f.src, seq := f.seq, dir := p, at_ := t }

end Sys2Proof

namespace Sys2Proof.Machine

/-! ## A field of a port -/

theorem State.ringPort_modRing_keep {α : Type} {g : RingPort → α} {f : RingPort → RingPort} (h : ∀ x, g (f x) = g x)
    (p q : Nat) (s : State) : g ((s.modRing p f).ringPort q) = g (s.ringPort q) := by
  have hport (v : Vector RingPort 2) : g (nth {} v q) = nth (g {}) (v.map g) q := by
    simp only [nth, Vector.getElem?_map]
    cases v[q]? <;> rfl
  exact (hport _).trans ((congrArg (fun v => nth (g {}) v q) (map_upd h s.time.ports p)).trans (hport _).symm)

theorem State.ringEnter_port_keep {α : Type} {g : RingPort → α} (h : ∀ x : RingPort, g { x with dup := x.dup.inc } = g x)
    (p mac : Nat) (seq : W16) (q : Nat) (s : State) : g ((s.ringEnter p mac seq).1.ringPort q) = g (s.ringPort q) := by
  by_cases hmode : s.ringMode = 1
  · by_cases hseen : s.seenFrom mac seq p
    · rw [State.ringEnter_of_seen hmode hseen]
      exact State.ringPort_modRing_keep h p q s
    · rw [State.ringEnter_of_new hmode hseen]
      rfl
  · rw [State.ringEnter_of_plain hmode]

/-- The first copy of a frame: the ring has shown it in neither direction. -/
theorem State.ringEnter_first_iff {s : State} {p mac : Nat} {seq : W16} (hmode : s.ringMode = 1) :
    (s.ringEnter p mac seq).2.2 = true ↔ ∀ e ∈ s.dupLive, ¬ (e.mac = mac ∧ e.seq = seq) := by
  by_cases hseen : s.seenFrom mac seq p
  · rw [State.ringEnter_of_seen hmode hseen]
    obtain ⟨e, he, hm, hq, -⟩ := hseen
    exact ⟨fun h => Bool.noConfusion h, fun h => (h e he ⟨hm, hq⟩).elim⟩
  · rw [State.ringEnter_of_new hmode hseen]
    simp [List.filter_eq_nil_iff]

/-! ## RING_FRAME in parts -/

/-- A damaged frame counted at its port. -/
def State.fcsNoted (p : Nat) (f : RingFrame) (s : State) : State :=
  if f.bad then s.modRing p fun x => { x with fcs := x.fcs.inc } else s

/-- What the device does with the first copy: it counts a sound supervision frame (R368). -/
def State.consume (f : RingFrame) (s : State) : State :=
  if f.bad then s
  else if f.dst == supervisionMac then { s with time := { s.time with rxSup := s.time.rxSup + 1 } }
  else s

/-- What the duplicate table says of the frame (R366). -/
def State.ringJudged (p : Nat) (f : RingFrame) (s : State) : State × Bool × Bool :=
  (s.fcsNoted p f).ringEnter p f.src f.seq

/-- The state once a frame has come in. -/
def State.entered (p : Nat) (f : RingFrame) (s : State) : State :=
  if (s.ringJudged p f).2.2 then (s.ringJudged p f).1.consume f else (s.ringJudged p f).1

section
variable {s : State} {p : Nat} {f : RingFrame}

theorem execRingFrame_of_down (h : s.ringUp p = false) : exec (.ringFrame p f) s = .next s :=
  congrArg Host.Outcome.next (if_pos (by rw [h]; rfl))

theorem execRingFrame_of_forward (hup : s.ringUp p = true) (hfwd : (s.ringJudged p f).2.1 = true) (hdst : f.dst ≠ s.ownMac) :
    exec (.ringFrame p f) s = .next ((s.entered p f).ringSend p (8 * f.length) f.out) :=
  congrArg Host.Outcome.next ((if_neg (by rw [hup]; decide)).trans
    (if_pos (Bool.and_eq_true_iff.2 ⟨hfwd, by rw [beq_eq_false_iff_ne.2 hdst]; rfl⟩)))

/-- A frame that is not sent on ends with what its entry did, or is counted as another one (R368). -/
theorem execRingFrame_of_kept (hup : s.ringUp p = true) (h : (s.ringJudged p f).2.1 = false ∨ f.dst = s.ownMac) :
    exec (.ringFrame p f) s = .next (s.entered p f) ∨ exec (.ringFrame p f) s = .next (s.entered p f).ringOther := by
  have hfwd : ((s.ringJudged p f).2.1 && !(f.dst == s.ownMac)) = false := by
    obtain h | h := h <;> simp [h]
  have hstep (t : State) (h : (if (s.entered p f).ringMode = 1 ∧ f.src ≠ (s.entered p f).ownMac ∧ !(f.dst == s.ownMac)
      then s.entered p f
      else if ((s.ringJudged p f).2.1 || (s.ringJudged p f).2.2 || f.src == (s.entered p f).ownMac) &&
        !(f.dst == supervisionMac) && !f.bad && (f.dst == s.ownMac || groupMac f.dst)
      then (s.entered p f).ringOther else s.entered p f) = t) : exec (.ringFrame p f) s = .next t :=
    congrArg Host.Outcome.next ((if_neg (by rw [hup]; decide)).trans ((if_neg (ne_of_eq_of_ne hfwd Bool.false_ne_true)).trans h))
  split at hstep
  · exact .inl (hstep _ rfl)
  · split at hstep
    · exact .inr (hstep _ rfl)
    · exact .inl (hstep _ rfl)

theorem State.fcsNoted_eq : s.fcsNoted p f = s ∨ s.fcsNoted p f = s.modRing p fun x => { x with fcs := x.fcs.inc } :=
  (ite_eq_or_eq _ _ _).symm

theorem State.fcsNoted_sameBut : SameBut [.time] s (s.fcsNoted p f) := .ite (s.modRing_sameBut p _) (.refl _ s)

theorem State.fcsNoted_fcs (hp : p < 2) :
    ((s.fcsNoted p f).ringPort p).fcs = if f.bad = true then (s.ringPort p).fcs.inc else (s.ringPort p).fcs := by
  unfold State.fcsNoted
  split
  · rw [State.ringPort_modRing_same hp]
  · rfl

theorem State.fcsNoted_port_keep {α : Type} {g : RingPort → α} (h : ∀ x : RingPort, g { x with fcs := x.fcs.inc } = g x)
    (q : Nat) : g ((s.fcsNoted p f).ringPort q) = g (s.ringPort q) := by
  obtain heq | heq := State.fcsNoted_eq (s := s) (p := p) (f := f) <;> rw [heq]
  exact State.ringPort_modRing_keep h p q s

/-- What a count in the port leaves alone, the noted frame leaves alone. -/
theorem State.fcsNoted_keep {α : Type} {g : State → α} (h : g (s.modRing p fun x => { x with fcs := x.fcs.inc }) = g s) :
    g (s.fcsNoted p f) = g s := by
  obtain heq | heq := State.fcsNoted_eq (s := s) (p := p) (f := f) <;> rw [heq]
  exact h

theorem State.fcsNoted_dupLive : (s.fcsNoted p f).dupLive = s.dupLive := State.fcsNoted_keep (g := State.dupLive) rfl

theorem State.fcsNoted_mode : (s.fcsNoted p f).ringMode = s.ringMode := State.fcsNoted_keep (g := State.ringMode) rfl

theorem State.fcsNoted_ownMac : (s.fcsNoted p f).ownMac = s.ownMac := State.fcsNoted_keep (g := State.ownMac) rfl

theorem State.fcsNoted_t : (s.fcsNoted p f).time.t = s.time.t := State.fcsNoted_keep (g := fun s => s.time.t) rfl

theorem State.fcsNoted_dupTable : (s.fcsNoted p f).time.dupTable = s.time.dupTable :=
  State.fcsNoted_keep (g := fun s => s.time.dupTable) rfl

theorem State.fcsNoted_rxSup : (s.fcsNoted p f).time.rxSup = s.time.rxSup :=
  State.fcsNoted_keep (g := fun s => s.time.rxSup) rfl

theorem State.seenFrom_fcsNoted {mac : Nat} {seq : W16} {d : Nat} :
    (s.fcsNoted p f).seenFrom mac seq d ↔ s.seenFrom mac seq d := by
  simp only [State.seenFrom, State.fcsNoted_dupLive]

theorem State.ringJudged_of_plain (h : s.ringMode ≠ 1) : s.ringJudged p f = (s.fcsNoted p f, false, true) :=
  State.ringEnter_of_plain (by rwa [State.fcsNoted_mode])

theorem State.ringJudged_of_seen (hmode : s.ringMode = 1) (h : s.seenFrom f.src f.seq p) : s.ringJudged p f =
    ((s.fcsNoted p f).modRing p fun x => { x with dup := x.dup.inc }, false, false) :=
  State.ringEnter_of_seen (by rwa [State.fcsNoted_mode]) (State.seenFrom_fcsNoted.2 h)

theorem State.ringJudged_of_new (hmode : s.ringMode = 1) (h : ¬ s.seenFrom f.src f.seq p) :
    (s.ringJudged p f).1 = (s.fcsNoted p f).noteDup (f.entry p s.time.t) ∧
      (s.ringJudged p f).2.1 = (f.src != s.ownMac) := by
  have heq := State.ringEnter_of_new (s := s.fcsNoted p f) (p := p) (mac := f.src) (seq := f.seq)
    (by rwa [State.fcsNoted_mode]) (State.seenFrom_fcsNoted.not.2 h)
  rw [State.fcsNoted_t, State.fcsNoted_ownMac] at heq
  exact ⟨congrArg Prod.fst heq, congrArg (fun r => r.2.1) heq⟩

theorem State.ringJudged_first_iff (hmode : s.ringMode = 1) :
    (s.ringJudged p f).2.2 = true ↔ ∀ e ∈ s.dupLive, ¬ (e.mac = f.src ∧ e.seq = f.seq) := by
  rw [← State.fcsNoted_dupLive (p := p) (f := f)]
  exact State.ringEnter_first_iff (by rwa [State.fcsNoted_mode])

theorem State.consume_sameBut : SameBut [.time] s (s.consume f) := .ite (.refl _ s) (.ite (sameBut_time s _) (.refl _ s))

theorem State.consume_eq : s.consume f = s ∨ s.consume f = { s with time := { s.time with rxSup := s.time.rxSup + 1 } } := by
  obtain h | h : s.consume f = s ∨ s.consume f = ite _ _ _ := ite_eq_or_eq _ _ _
  · exact .inl h
  · rw [h]
    exact (ite_eq_or_eq _ _ _).symm

theorem State.entered_sameBut : SameBut [.time] s (s.entered p f) := by
  have h : SameBut [.time] s (s.ringJudged p f).1 := State.fcsNoted_sameBut.trans (State.ringEnter_sameBut _ _ _ _)
  exact .ite (h.trans State.consume_sameBut) h

theorem State.entered_outbox : (s.entered p f).outbox = s.outbox := State.entered_sameBut .outbox (by simp)

/-- Ports and table of a frame that has come in are those that its judgement leaves. -/
theorem State.entered_ports : (s.entered p f).time.ports = (s.ringJudged p f).1.time.ports ∧
    (s.entered p f).time.dupTable = (s.ringJudged p f).1.time.dupTable := by
  unfold State.entered
  split
  · obtain h | h := State.consume_eq (s := (s.ringJudged p f).1) (f := f) <;> rw [h] <;> exact ⟨rfl, rfl⟩
  · exact ⟨rfl, rfl⟩

theorem State.entered_port (q : Nat) : (s.entered p f).ringPort q = (s.ringJudged p f).1.ringPort q :=
  congrArg (fun v => nth ({} : RingPort) v q) State.entered_ports.1

theorem State.entered_fcs (hp : p < 2) :
    ((s.entered p f).ringPort p).fcs = if f.bad = true then (s.ringPort p).fcs.inc else (s.ringPort p).fcs :=
  (congrArg RingPort.fcs (State.entered_port p)).trans ((State.ringEnter_port_keep (g := RingPort.fcs) (fun _ => rfl) p
    f.src f.seq p _).trans (State.fcsNoted_fcs hp))

/-- Nothing that comes in touches what the ports have queued, have dropped or are. -/
theorem State.entered_port_keep {α : Type} {g : RingPort → α} (hfcs : ∀ x : RingPort, g { x with fcs := x.fcs.inc } = g x)
    (hdup : ∀ x : RingPort, g { x with dup := x.dup.inc } = g x) (q : Nat) :
    g ((s.entered p f).ringPort q) = g (s.ringPort q) := by
  exact (congrArg g (State.entered_port q)).trans ((State.ringEnter_port_keep hdup p f.src f.seq q _).trans
    (State.fcsNoted_port_keep hfcs q))

theorem State.entered_rxSup_seen (h : (s.ringJudged p f).2.2 = false) : (s.entered p f).time.rxSup = s.time.rxSup := by
  have hjudged : (s.ringJudged p f).1.time.rxSup = (s.fcsNoted p f).time.rxSup := by
    by_cases hmode : s.ringMode = 1
    · by_cases hseen : s.seenFrom f.src f.seq p
      · rw [State.ringJudged_of_seen hmode hseen]
        rfl
      · rw [(State.ringJudged_of_new hmode hseen).1]
        rfl
    · rw [State.ringJudged_of_plain hmode]
  rw [State.entered, if_neg (by rw [h]; decide), hjudged, State.fcsNoted_rxSup]

theorem State.entered_rxSup_first (hmode : s.ringMode = 1) (hsup : f.dst = supervisionMac) (hbad : f.bad = false)
    (h : ∀ e ∈ s.dupLive, ¬ (e.mac = f.src ∧ e.seq = f.seq)) : (s.entered p f).time.rxSup = s.time.rxSup + 1 := by
  have hnew : ¬ s.seenFrom f.src f.seq p := fun ⟨e, he, hm, hq, _⟩ => h e he ⟨hm, hq⟩
  rw [State.entered, if_pos ((State.ringJudged_first_iff hmode).2 h), (State.ringJudged_of_new hmode hnew).1,
    State.consume, if_neg (by rw [hbad]; decide), if_pos (by rw [hsup]; rfl)]
  exact congrArg (· + 1) State.fcsNoted_rxSup

end

/-! ## A frame is sent on (R365) -/

section
variable {s : State} {p bits : Nat} {o : Nat → Out}

theorem State.ringSend_of_oos (h : (s.ringPort (1 - p)).oos = true) : s.ringSend p bits o = s := if_pos h

theorem State.ringSend_of_full (hoos : (s.ringPort (1 - p)).oos = false)
    (h : ¬ ((s.ringPort (1 - p)).queueBits = 0 ∨ (s.ringPort (1 - p)).queueBits + bits ≤ 16384 * 8)) :
    s.ringSend p bits o = s.modRing p fun x => { x with drop := x.drop.inc } :=
  (if_neg (by rw [hoos]; decide)).trans (if_pos ⟨fun h0 => h (.inl h0), not_le.1 fun hle => h (.inr hle)⟩)

theorem State.ringSend_of_room (hoos : (s.ringPort (1 - p)).oos = false)
    (h : (s.ringPort (1 - p)).queueBits = 0 ∨ (s.ringPort (1 - p)).queueBits + bits ≤ 16384 * 8) :
    s.ringSend p bits o = (s.modRing (1 - p) fun x =>
      { x with queueBits := (s.ringPort (1 - p)).queueBits + bits }).send (o (1 - p)) :=
  (if_neg (by rw [hoos]; decide)).trans (if_neg fun ⟨hne, hlt⟩ => h.elim hne fun hle => absurd hlt (not_lt.2 hle))

theorem State.ringSend_fcs : ((s.ringSend p bits o).ringPort p).fcs = (s.ringPort p).fcs := by
  unfold State.ringSend
  dsimp only
  split
  · rfl
  · split
    · exact State.ringPort_modRing_keep (g := RingPort.fcs)
        (f := fun x : RingPort => { x with drop := x.drop.inc }) (fun _ => rfl) p p s
    · exact State.ringPort_modRing_keep (g := RingPort.fcs)
        (f := fun x : RingPort => { x with queueBits := (s.ringPort (1 - p)).queueBits + bits }) (fun _ => rfl) (1 - p) p s

theorem State.ringSend_dupTable : (s.ringSend p bits o).time.dupTable = s.time.dupTable := by
  unfold State.ringSend
  dsimp only
  split
  · rfl
  · split <;> rfl

/-- Sending a frame leaves the count of supervision frames. -/
theorem State.ringSend_rxSup : (s.ringSend p bits o).time.rxSup = s.time.rxSup := by
  unfold State.ringSend
  dsimp only
  split
  · rfl
  · split <;> rfl

end

/-! ## What RING_FRAME makes of a frame -/

section
variable {s : State} {p : Nat} {f : RingFrame}

/-- Whatever becomes of the frame, the count of supervision frames is that of its entry. -/
theorem execRingFrame_rxSup (hup : s.ringUp p = true) :
    ∃ t, exec (.ringFrame p f) s = .next t ∧ t.time.rxSup = (s.entered p f).time.rxSup := by
  by_cases h : (s.ringJudged p f).2.1 = true ∧ f.dst ≠ s.ownMac
  · exact ⟨_, execRingFrame_of_forward hup h.1 h.2, State.ringSend_rxSup⟩
  · have hkept : (s.ringJudged p f).2.1 = false ∨ f.dst = s.ownMac := by
      by_contra hno
      exact h ⟨by simpa using not_or.1 hno |>.1, (not_or.1 hno).2⟩
    obtain hexec | hexec := execRingFrame_of_kept hup hkept <;> exact ⟨_, hexec, rfl⟩

/-- A frame that is kept changes nothing but the ring's part of machine time, and counts its FCS. -/
theorem execRingFrame_kept (hp : p < 2) (hup : s.ringUp p = true) (h : (s.ringJudged p f).2.1 = false ∨ f.dst = s.ownMac) :
    ∃ t, exec (.ringFrame p f) s = .next t ∧ SameBut [.time] s t ∧
      (t.ringPort p).fcs = (if f.bad = true then (s.ringPort p).fcs.inc else (s.ringPort p).fcs) ∧
      t.time.ports = (s.ringJudged p f).1.time.ports ∧ t.time.dupTable = (s.ringJudged p f).1.time.dupTable := by
  have hfcs := State.entered_fcs (s := s) (f := f) hp
  obtain ⟨hports, htable⟩ := State.entered_ports (s := s) (p := p) (f := f)
  obtain hexec | hexec := execRingFrame_of_kept hup h
  · exact ⟨_, hexec, State.entered_sameBut, hfcs, hports, htable⟩
  · exact ⟨_, hexec, State.entered_sameBut.trans (State.ringOther_sameBut _), hfcs, hports, htable⟩

theorem execRingFrame_seen (hp : p < 2) (hup : s.ringUp p = true) (hmode : s.ringMode = 1)
    (h : s.seenFrom f.src f.seq p) : ∃ t, exec (.ringFrame p f) s = .next t ∧ SameBut [.time] s t ∧
      (t.ringPort p).fcs = (if f.bad = true then (s.ringPort p).fcs.inc else (s.ringPort p).fcs) ∧
      (t.ringPort p).dup = (s.ringPort p).dup.inc ∧ t.time.dupTable = s.time.dupTable := by
  have hjudged := State.ringJudged_of_seen hmode h
  obtain ⟨t, hexec, hsame, hfcs, hports, htable⟩ := execRingFrame_kept hp hup (.inl (congrArg (fun r => r.2.1) hjudged))
  rw [hjudged] at hports htable
  refine ⟨t, hexec, hsame, hfcs, ?_, htable.trans State.fcsNoted_dupTable⟩
  have hport : t.ringPort p = { (s.fcsNoted p f).ringPort p with dup := ((s.fcsNoted p f).ringPort p).dup.inc } :=
    (congrArg (fun v => nth ({} : RingPort) v p) hports).trans (State.ringPort_modRing_same hp _ _)
  rw [hport]
  exact congrArg Counter.inc (State.fcsNoted_port_keep (g := RingPort.dup) (fun _ => rfl) p)

theorem execRingFrame_own (hp : p < 2) (hup : s.ringUp p = true) (hmode : s.ringMode = 1)
    (h : f.src = s.ownMac ∨ f.dst = s.ownMac) : ∃ t, exec (.ringFrame p f) s = .next t ∧ SameBut [.time] s t := by
  have hkept : (s.ringJudged p f).2.1 = false ∨ f.dst = s.ownMac := by
    refine h.imp_left fun hsrc => ?_
    by_cases hseen : s.seenFrom f.src f.seq p
    · rw [State.ringJudged_of_seen hmode hseen]
    · rw [(State.ringJudged_of_new hmode hseen).2, hsrc]
      exact bne_self_eq_false _
  obtain ⟨t, hexec, hsame, -⟩ := execRingFrame_kept hp hup hkept
  exact ⟨t, hexec, hsame⟩

/-- A new frame for another device goes to `ringSend` once it is noted. -/
theorem execRingFrame_new (hup : s.ringUp p = true) (hmode : s.ringMode = 1) (h : ¬ s.seenFrom f.src f.seq p)
    (hsrc : f.src ≠ s.ownMac) (hdst : f.dst ≠ s.ownMac) :
    exec (.ringFrame p f) s = .next ((s.entered p f).ringSend p (8 * f.length) f.out) :=
  execRingFrame_of_forward hup (by rw [(State.ringJudged_of_new hmode h).2]; simpa using hsrc) hdst

theorem State.entered_dupTable_new (hmode : s.ringMode = 1) (h : ¬ s.seenFrom f.src f.seq p) :
    (s.entered p f).time.dupTable = (f.entry p s.time.t :: s.dupLive).take 1024 := by
  rw [State.entered_ports.2, (State.ringJudged_of_new hmode h).1]
  exact congrArg (fun l => (f.entry p s.time.t :: l).take 1024) State.fcsNoted_dupLive

theorem execRingFrame_room (hp : p < 2) (hup : s.ringUp p = true) (hmode : s.ringMode = 1)
    (h : ¬ s.seenFrom f.src f.seq p) (hsrc : f.src ≠ s.ownMac) (hdst : f.dst ≠ s.ownMac)
    (hoos : (s.ringPort (1 - p)).oos = false)
    (hroom : (s.ringPort (1 - p)).queueBits = 0 ∨ (s.ringPort (1 - p)).queueBits + 8 * f.length ≤ 16384 * 8) :
    ∃ t, exec (.ringFrame p f) s = .next t ∧ SameBut [.time, .outbox] s t ∧
      (t.ringPort p).fcs = (if f.bad = true then (s.ringPort p).fcs.inc else (s.ringPort p).fcs) ∧
      t.outbox = f.out (1 - p) :: s.outbox ∧ t.time.dupTable.head? = some (f.entry p s.time.t) ∧
      t.time.dupTable.length ≤ 1024 := by
  have hqueue := State.entered_port_keep (s := s) (p := p) (f := f) (g := RingPort.queueBits) (fun _ => rfl) (fun _ => rfl) (1 - p)
  have hup' := State.entered_port_keep (s := s) (p := p) (f := f) (g := RingPort.oos) (fun _ => rfl) (fun _ => rfl) (1 - p)
  have hsend := State.ringSend_of_room (s := s.entered p f) (p := p) (bits := 8 * f.length) (o := f.out)
    (hup'.trans hoos) (by rwa [hqueue])
  refine ⟨_, execRingFrame_new hup hmode h hsrc hdst,
    (State.entered_sameBut.mono (by simp)).trans (State.ringSend_sameBut _ _ _ _),
    State.ringSend_fcs.trans (State.entered_fcs hp), ?_, ?_, ?_⟩
  · rw [hsend]
    exact congrArg (f.out (1 - p) :: ·) State.entered_outbox
  · rw [State.ringSend_dupTable, State.entered_dupTable_new hmode h]
    rfl
  · rw [State.ringSend_dupTable, State.entered_dupTable_new hmode h]
    exact List.length_take_le _ _

theorem execRingFrame_full (hup : s.ringUp p = true) (hp : p < 2) (hmode : s.ringMode = 1)
    (h : ¬ s.seenFrom f.src f.seq p) (hsrc : f.src ≠ s.ownMac) (hdst : f.dst ≠ s.ownMac)
    (hoos : (s.ringPort (1 - p)).oos = false)
    (hfull : ¬ ((s.ringPort (1 - p)).queueBits = 0 ∨ (s.ringPort (1 - p)).queueBits + 8 * f.length ≤ 16384 * 8)) :
    ∃ t, exec (.ringFrame p f) s = .next t ∧ SameBut [.time] s t ∧ (t.ringPort p).drop = (s.ringPort p).drop.inc := by
  have hqueue := State.entered_port_keep (s := s) (p := p) (f := f) (g := RingPort.queueBits) (fun _ => rfl) (fun _ => rfl) (1 - p)
  have hup' := State.entered_port_keep (s := s) (p := p) (f := f) (g := RingPort.oos) (fun _ => rfl) (fun _ => rfl) (1 - p)
  have hexec := execRingFrame_new hup hmode h hsrc hdst
  rw [State.ringSend_of_full (hup'.trans hoos) (by rwa [hqueue])] at hexec
  refine ⟨_, hexec, State.entered_sameBut.trans (State.modRing_sameBut _ _ _), ?_⟩
  rw [State.ringPort_modRing_same hp]
  exact congrArg Counter.inc (State.entered_port_keep (g := RingPort.drop) (fun _ => rfl) (fun _ => rfl) p)

theorem execRingFrame_oos (hup : s.ringUp p = true) (hmode : s.ringMode = 1)
    (h : ¬ s.seenFrom f.src f.seq p) (hsrc : f.src ≠ s.ownMac) (hdst : f.dst ≠ s.ownMac)
    (hoos : (s.ringPort (1 - p)).oos = true) : ∃ t, exec (.ringFrame p f) s = .next t ∧ SameBut [.time] s t := by
  have hup' := State.entered_port_keep (s := s) (p := p) (f := f) (g := RingPort.oos) (fun _ => rfl) (fun _ => rfl) (1 - p)
  have hexec := execRingFrame_new hup hmode h hsrc hdst
  rw [State.ringSend_of_oos (hup'.trans hoos)] at hexec
  exact ⟨_, hexec, State.entered_sameBut⟩

theorem execRingFrame_supervision (hup : s.ringUp p = true) (hmode : s.ringMode = 1)
    (hsup : f.dst = supervisionMac) (hbad : f.bad = false) : ∃ t, exec (.ringFrame p f) s = .next t ∧
      (s.seenFrom f.src f.seq 0 ∨ s.seenFrom f.src f.seq 1 → t.time.rxSup = s.time.rxSup) ∧
      ((∀ e ∈ s.dupLive, ¬ (e.mac = f.src ∧ e.seq = f.seq)) → t.time.rxSup = s.time.rxSup + 1) := by
  obtain ⟨t, hexec, hcount⟩ := execRingFrame_rxSup (f := f) hup
  refine ⟨t, hexec, fun hseen => ?_, fun hfirst => hcount.trans (State.entered_rxSup_first hmode hsup hbad hfirst)⟩
  have hentry : ∃ e ∈ s.dupLive, e.mac = f.src ∧ e.seq = f.seq := by
    obtain ⟨e, he, hm, hq, -⟩ | ⟨e, he, hm, hq, -⟩ := hseen <;> exact ⟨e, he, hm, hq⟩
  obtain ⟨e, he, hkey⟩ := hentry
  exact hcount.trans (State.entered_rxSup_seen (Bool.eq_false_iff.2 fun hfirst =>
    (State.ringJudged_first_iff hmode).1 hfirst e he hkey))

theorem execRingFrame_plain (hp : p < 2) (hup : s.ringUp p = true) (hmode : s.ringMode ≠ 1) :
    ∃ t, exec (.ringFrame p f) s = .next t ∧ SameBut [.time] s t ∧
      (t.ringPort p).fcs = (if f.bad = true then (s.ringPort p).fcs.inc else (s.ringPort p).fcs) := by
  obtain ⟨t, hexec, hsame, hfcs, -⟩ := execRingFrame_kept (f := f) hp hup (.inl (by rw [State.ringJudged_of_plain hmode]))
  exact ⟨t, hexec, hsame, hfcs⟩

end

/-! ## The supervision timer and the block lock -/

/-- The supervision frame on port `p`. -/
def State.supervision (s : State) (p x : Nat) : Out :=
  .ringOwn p 0x892F supervisionMac s.time.hsrSeq.toNat s.ownVlan 0 (some { path := p, seq := s.time.hsrSeq, lsdu := x })

/-- The ports in service. -/
def State.portsInService (s : State) : List Nat := [0, 1].filter fun p => !(s.ringPort p).oos

section
variable {s : State} {p : Nat} {g : Bool}

theorem execSupervisionTimer_of_idle (h : s.ringMode ≠ 1 ∨ s.power.core = false) :
    exec .supervisionTimer s = .next s :=
  congrArg Host.Outcome.next (if_pos (h.imp_right fun hcore => by rw [hcore]; rfl))

theorem execSupervisionTimer_of_running (hmode : s.ringMode = 1) (hcore : s.power.core = true) :
    exec .supervisionTimer s =
      .next (s.ringOwn s.portsInService 0x892F supervisionMac (fun _ => s.time.hsrSeq.toNat) 0) :=
  congrArg Host.Outcome.next (if_neg (by simp [hmode, hcore]))

theorem execSupervisionTimer_out (h0 : (s.ringPort 0).oos = true) (h1 : (s.ringPort 1).oos = true) :
    exec .supervisionTimer s = .next s := by
  by_cases h : s.ringMode = 1 ∧ s.power.core = true
  · have hnone : s.portsInService = [] := by simp [State.portsInService, h0, h1]
    rw [execSupervisionTimer_of_running h.1 h.2, hnone, State.ringOwn_eq]
    simp
  · exact execSupervisionTimer_of_idle ((not_and_or.1 h).imp_right Bool.eq_false_iff.2)

theorem execSupervisionTimer_both (hmode : s.ringMode = 1) (hcore : s.power.core = true)
    (h0 : (s.ringPort 0).oos = false) (h1 : (s.ringPort 1).oos = false) :
    ∃ (t : State) (x y : Nat), exec .supervisionTimer s = .next t ∧ SameBut [.time, .outbox, .freeCtr] s t ∧
      t.time.hsrSeq = s.time.hsrSeq + 1 ∧ t.outbox = s.supervision 1 y :: s.supervision 0 x :: s.outbox := by
  have hboth : s.portsInService = [0, 1] := by simp [State.portsInService, h0, h1]
  refine ⟨_, (s.draw 4096).1, ((s.draw 4096).2.draw 4096).1, execSupervisionTimer_of_running hmode hcore,
    State.ringOwn_sameBut _, ?_, ?_⟩
  · rw [State.ringOwn_eq, hboth, hmode]
    rfl
  · rw [State.ringOwn_eq, hboth, hmode]
    rfl

theorem execSupervisionTimer_one (hp : p < 2) (hmode : s.ringMode = 1) (hcore : s.power.core = true)
    (hin : (s.ringPort p).oos = false) (hout : (s.ringPort (1 - p)).oos = true) :
    ∃ (t : State) (x : Nat), exec .supervisionTimer s = .next t ∧ SameBut [.time, .outbox, .freeCtr] s t ∧
      t.time.hsrSeq = s.time.hsrSeq + 1 ∧ t.outbox = s.supervision p x :: s.outbox := by
  have hone : s.portsInService = [p] := by
    obtain rfl | rfl : p = 0 ∨ p = 1 := by omega
    all_goals simp_all [State.portsInService]
  refine ⟨_, (s.draw 4096).1, execSupervisionTimer_of_running hmode hcore, State.ringOwn_sameBut _, ?_, ?_⟩
  · rw [State.ringOwn_eq, hone, hmode]
    rfl
  · rw [State.ringOwn_eq, hone, hmode]
    rfl

theorem execRingBlockLock_of_used (hp : p < 2) (hcore : s.power.core = true) (hused : s.ringPortUsed p = true)
    (hin : (s.ringPort p).oos = false) : ∃ t, exec (.ringBlockLock p g) s = .next t ∧ SameBut [.time] s t ∧
      t.ringPort p = { s.ringPort p with blockLock := g } :=
  ⟨s.modRing p fun x => { x with blockLock := g },
    congrArg Host.Outcome.next (if_neg (by rw [hcore, hused, hin]; decide)), s.modRing_sameBut p _,
    State.ringPort_modRing_same hp _ _⟩

theorem execRingBlockLock_of_unused (h : s.power.core = false ∨ s.ringPortUsed p = false ∨ (s.ringPort p).oos = true) :
    exec (.ringBlockLock p g) s = .next s :=
  congrArg Host.Outcome.next (if_pos (by obtain h | h | h := h <;> simp [h]))

end

/-- Settles O48: the frame's entry, what the duplicate table says of it and what the other port's queue makes of it;
then the timer by the ports that are in service. -/
theorem ringFramesAreForwardedTakenOrDropped : Obligations.RingFramesAreForwardedTakenOrDropped := by
  refine ⟨fun s p f => execRingFrame_of_down, fun s p f hp hup => ⟨fun hmode => ⟨?_, ?_, ?_, ?_⟩, ?_⟩, fun s => ⟨?_, ?_, ?_, ?_⟩,
    fun s p g hp => ⟨?_, ?_⟩⟩
  · exact fun hit => execRingFrame_seen hp hup hmode hit
  · exact fun hnew hsrc hdst => ⟨fun hoos hroom => execRingFrame_room hp hup hmode hnew hsrc hdst hoos hroom,
      fun hoos hfull => execRingFrame_full hup hp hmode hnew hsrc hdst hoos hfull,
      fun hoos => execRingFrame_oos hup hmode hnew hsrc hdst hoos⟩
  · exact fun hown => execRingFrame_own hp hup hmode hown
  · exact fun hsup hbad => execRingFrame_supervision hup hmode hsup hbad
  · exact fun hmode => execRingFrame_plain hp hup hmode
  · exact execSupervisionTimer_of_idle
  · exact execSupervisionTimer_out
  · exact execSupervisionTimer_both
  · exact fun p hp => execSupervisionTimer_one hp
  · exact execRingBlockLock_of_used hp
  · exact execRingBlockLock_of_unused

end Sys2Proof.Machine
end

section
/-!
The servo (R376–R382): what a rate, a switch of domains and HOLDOVER make of machine time, for O49 and O50.
-/

namespace Sys2Proof.Machine

/-! ## The rate (R376, R378) -/

section
variable {s : State} {α : Type} {g : TimeState → α}

/-- A new rate leaves what reads neither the rate, the phase nor the estimate. -/
theorem State.setRate_keep (h : ∀ (x : TimeState) (r p e : Rat), g { x with rate := r, phaseLeft := p, estimate := e } = g x) :
    g s.setRate.time = g s.time := by
  unfold State.setRate
  dsimp only
  split
  · exact h _ _ s.time.phaseLeft _
  · split
    · exact h _ _ _ s.time.estimate
    · exact h _ _ _ s.time.estimate

theorem State.setRate_sameBut : SameBut [.time] s s.setRate :=
  .ite (sameBut_time s _) (.ite (sameBut_time s _) (sameBut_time s _))

/-- A servo that steers keeps the offset it still has to slew. -/
theorem State.setRate_phaseLeft (h : s.time.state = .acquiring ∨ s.time.state = .locked) :
    s.setRate.time.phaseLeft = s.time.phaseLeft := by
  unfold State.setRate
  dsimp only
  rw [if_pos h]

/-- A servo that does not steer slews nothing out. -/
theorem State.setRate_phaseLeft_zero (h : ¬ (s.time.state = .acquiring ∨ s.time.state = .locked)) :
    s.setRate.time.phaseLeft = 0 := by
  unfold State.setRate
  dsimp only
  rw [if_neg h]
  split <;> rfl

theorem PtpDomain.lockState_steers (d : PtpDomain) : d.lockState = .acquiring ∨ d.lockState = .locked :=
  (ite_eq_or_eq _ _ _).symm

theorem State.record_time {type : Nat} {plane : Plane} {payload : List Byte} : (s.record type plane payload).time = s.time :=
  State.record_sameBut type plane payload s .time (by simp)

/-! ## HOLDOVER and the switch of domains (R381, R382) -/

/-- HOLDOVER begins. -/
def TimeState.holding (x : TimeState) : TimeState :=
  { x with state := .holdover, phaseLeft := 0, holdSince := x.t, holdoverCnt := x.holdoverCnt.inc }

/-- Domain `d` is selected, and its offset `o` slewed out. -/
def TimeState.switched (d : Nat) (dom : PtpDomain) (x : TimeState) : TimeState :=
  { x with selected := d == 1, state := dom.lockState, phaseLeft := (dom.offset : Rat) / 65536, switchCnt := x.switchCnt.inc }

theorem State.enterHoldover_keep
    (h : ∀ (x : TimeState) (r p e : Rat), g { x with rate := r, phaseLeft := p, estimate := e } = g x) :
    g s.enterHoldover.time = g s.time.holding :=
  (State.setRate_keep h).trans (congrArg g State.record_time)

theorem State.enterHoldover_phaseLeft : s.enterHoldover.time.phaseLeft = 0 :=
  State.setRate_phaseLeft_zero (by
    rw [State.record_time]
    exact of_decide_eq_false rfl)

theorem State.enterHoldover_sameBut : SameBut [.time, .mem, .tail] s s.enterHoldover :=
  (((sameBut_time s _).mono (by simp)).trans ((State.record_sameBut _ _ _ _).mono (by simp))).trans
    (State.setRate_sameBut.mono (by simp))

theorem State.selectDomain_keep {d : Nat}
    (h : ∀ (x : TimeState) (r p e : Rat), g { x with rate := r, phaseLeft := p, estimate := e } = g x) :
    g (s.selectDomain d).time = g (s.time.switched d (s.domain d)) :=
  (State.setRate_keep h).trans (congrArg g State.record_time)

theorem State.selectDomain_phaseLeft {d : Nat} : (s.selectDomain d).time.phaseLeft = ((s.domain d).offset : Rat) / 65536 :=
  (State.setRate_phaseLeft (by
    rw [State.record_time]
    exact (s.domain d).lockState_steers)).trans (congrArg TimeState.phaseLeft State.record_time)

theorem State.selectDomain_sameBut {d : Nat} : SameBut [.time, .mem, .tail] s (s.selectDomain d) :=
  (((sameBut_time s _).mono (by simp)).trans ((State.record_sameBut _ _ _ _).mono (by simp))).trans
    (State.setRate_sameBut.mono (by simp))

/-! ## Steering (R378–R380) -/

/-- The servo takes domain `d` without a slew. -/
def State.taking (d : Nat) (s : State) : State :=
  { s with time := { s.time with state := (s.domain d).lockState, selected := d == 1 } }

/-- The servo takes domain `d` and slews its offset out. -/
def State.slewing (d : Nat) (s : State) : State :=
  { s with time := { s.time with
      state := (s.domain d).lockState, selected := d == 1, phaseLeft := ((s.domain d).offset : Rat) / 65536 } }

section
variable {d : Nat}

theorem State.steer_of_step (hidle : s.planes.data = .idle) (h : 65536000 < (s.domain d).offset.natAbs) :
    s.steer d = ((s.taking d).planStep (s.domain d).offset).setRate :=
  (if_pos hidle).trans (if_pos (by exact_mod_cast h))

theorem State.steer_of_slew (h : s.planes.data = .idle ∧ (s.domain d).offset.natAbs ≤ 65536000 ∨
      s.planes.data ≠ .idle ∧ ((s.domain d).offset.natAbs : Int) ≤ s.switchLimit) :
    s.steer d = (s.slewing d).setRate := by
  obtain ⟨hidle, h⟩ | ⟨hidle, h⟩ := h
  · exact (if_pos hidle).trans (if_neg (by push Not; exact_mod_cast h))
  · exact (if_neg hidle).trans (if_neg (not_lt.2 h))

theorem State.steer_of_far (hidle : s.planes.data ≠ .idle) (h : s.switchLimit < ((s.domain d).offset.natAbs : Int)) :
    s.steer d = (s.record 0x00A1 .data []).enterHoldover :=
  (if_neg hidle).trans (if_pos h)

/-- Steering does one of three things. -/
theorem State.steer_cases : s.steer d = ((s.taking d).planStep (s.domain d).offset).setRate ∨
    s.steer d = (s.slewing d).setRate ∨ s.steer d = (s.record 0x00A1 .data []).enterHoldover := by
  by_cases hidle : s.planes.data = .idle
  · by_cases h : 65536000 < (s.domain d).offset.natAbs
    · exact .inl (State.steer_of_step hidle h)
    · exact .inr (.inl (State.steer_of_slew (.inl ⟨hidle, not_lt.1 h⟩)))
  · by_cases h : s.switchLimit < ((s.domain d).offset.natAbs : Int)
    · exact .inr (.inr (State.steer_of_far hidle h))
    · exact .inr (.inl (State.steer_of_slew (.inr ⟨hidle, not_lt.1 h⟩)))

theorem State.steer_sameBut : SameBut [.time, .mem, .tail] s (s.steer d) := by
  obtain h | h | h := State.steer_cases (s := s) (d := d) <;> rw [h]
  · exact (((sameBut_time s _).trans (sameBut_time _ _)).trans State.setRate_sameBut).mono (by simp)
  · exact ((sameBut_time s _).trans State.setRate_sameBut).mono (by simp)
  · exact ((State.record_sameBut _ _ _ s).mono (by simp)).trans State.enterHoldover_sameBut

theorem State.enterHoldover_domains : s.enterHoldover.time.domains = s.time.domains :=
  State.enterHoldover_keep fun _ _ _ _ => rfl

theorem State.selectDomain_domains : (s.selectDomain d).time.domains = s.time.domains :=
  State.selectDomain_keep fun _ _ _ _ => rfl

theorem State.steer_domains : (s.steer d).time.domains = s.time.domains := by
  obtain h | h | h := State.steer_cases (s := s) (d := d) <;> rw [h]
  · exact State.setRate_keep fun _ _ _ _ => rfl
  · exact State.setRate_keep fun _ _ _ _ => rfl
  · exact State.enterHoldover_domains.trans (congrArg TimeState.domains State.record_time)

/-- A Sync makes the servo steer, select its domain or do nothing. -/
theorem State.servoSync_cases : s.servoSync d = s.steer d ∨ s.servoSync d = s.selectDomain d ∨ s.servoSync d = s := by
  unfold State.servoSync
  dsimp only
  split
  · exact (ite_eq_or_eq _ _ _).imp_right .inr
  · exact (ite_eq_or_eq _ _ _).imp_right .inr
  · split
    · exact .inl rfl
    · exact .inr (ite_eq_or_eq _ _ _)
  · split
    · exact .inl rfl
    · exact .inr (ite_eq_or_eq _ _ _)
  · exact .inr (ite_eq_or_eq _ _ _)

theorem State.servoSync_of_steered (h : d = s.selectedDomain ∧ (s.time.state = .acquiring ∨ s.time.state = .locked) ∨
      (s.time.state = .unset ∨ s.time.state = .freeRun) ∧
        (s.planes.data = .idle ∨ ((s.domain d).offset.natAbs : Int) ≤ s.switchLimit)) :
    s.servoSync d = s.steer d := by
  unfold State.servoSync
  obtain ⟨hd, hs | hs⟩ | ⟨hs | hs, h⟩ := h <;> simp only [hs]
  · exact if_pos hd
  · exact if_pos hd
  · exact if_pos (by simpa using h)
  · exact if_pos (by simpa using h)

theorem State.servoSync_sameBut : SameBut [.time, .mem, .tail] s (s.servoSync d) := by
  obtain h | h | h := State.servoSync_cases (s := s) (d := d) <;> rw [h]
  · exact State.steer_sameBut
  · exact State.selectDomain_sameBut
  · exact .refl _ s

theorem State.servoSync_domains : (s.servoSync d).time.domains = s.time.domains := by
  obtain h | h | h := State.servoSync_cases (s := s) (d := d) <;> rw [h]
  · exact State.steer_domains
  · exact State.selectDomain_domains

/-! ## What steering gives -/

theorem State.steer_step (hidle : s.planes.data = .idle) (h : 65536000 < (s.domain d).offset.natAbs) :
    (s.steer d).time.setTo = some ((s.nextStart s.time.t : Nat) - (s.domain d).offset).toNat ∧
      (s.steer d).time.state = (s.domain d).lockState := by
  rw [State.steer_of_step hidle h]
  exact ⟨State.setRate_keep (g := TimeState.setTo) fun _ _ _ _ => rfl,
    State.setRate_keep (g := TimeState.state) fun _ _ _ _ => rfl⟩

theorem State.steer_slew (h : s.planes.data = .idle ∧ (s.domain d).offset.natAbs ≤ 65536000 ∨
      s.planes.data ≠ .idle ∧ ((s.domain d).offset.natAbs : Int) ≤ s.switchLimit) :
    (s.steer d).time.phaseLeft = ((s.domain d).offset : Rat) / 65536 ∧
      (s.steer d).time.state = (s.domain d).lockState ∧ (s.steer d).time.setTo = s.time.setTo := by
  rw [State.steer_of_slew h]
  exact ⟨State.setRate_phaseLeft (s.domain d).lockState_steers,
    State.setRate_keep (g := TimeState.state) fun _ _ _ _ => rfl,
    State.setRate_keep (g := TimeState.setTo) fun _ _ _ _ => rfl⟩

theorem State.steer_far (hidle : s.planes.data ≠ .idle) (h : s.switchLimit < ((s.domain d).offset.natAbs : Int)) :
    (s.steer d).time.state = .holdover ∧ (s.steer d).time.holdoverCnt = s.time.holdoverCnt.inc ∧
      (s.steer d).time.phaseLeft = 0 := by
  rw [State.steer_of_far hidle h]
  exact ⟨State.enterHoldover_keep (g := TimeState.state) fun _ _ _ _ => rfl,
    (State.enterHoldover_keep (g := TimeState.holdoverCnt) fun _ _ _ _ => rfl).trans
      (congrArg (fun x : TimeState => x.holdoverCnt.inc) State.record_time),
    State.enterHoldover_phaseLeft⟩

end
end

end Sys2Proof.Machine
end

section
/-!
O49: Sync and Follow_Up (R370, R377).
-/

namespace Sys2Proof.Machine

/-! ## Domains by their number -/

theorem State.domainOf?_of_eph {s t : State} (h : t.eph = s.eph) (n : Nat) : t.domainOf? n = s.domainOf? n := by
  simp only [State.domainOf?, State.domainNo?, State.ringSect?, h]

theorem State.domainOf?_lt {s : State} {n d : Nat} (h : s.domainOf? n = some d) : d < 2 := by
  have hmem : d ∈ [0, 1] := List.mem_of_find?_eq_some h
  obtain rfl | rfl : d = 0 ∨ d = 1 := by simpa using hmem
  · decide
  · decide

theorem State.domain_modDomain_same {d : Nat} (hd : d < 2) (f : PtpDomain → PtpDomain) (s : State) :
    (s.modDomain d f).domain d = f (s.domain d) := nth_upd_same _ _ f hd

theorem State.domain_modDomain_other {d e : Nat} (h : e ≠ d) (f : PtpDomain → PtpDomain) (s : State) :
    (s.modDomain d f).domain e = s.domain e := nth_upd_other _ _ f h

theorem State.modDomain_sameBut (d : Nat) (f : PtpDomain → PtpDomain) (s : State) : SameBut [.time] s (s.modDomain d f) :=
  sameBut_time s _

/-! ## A Sync measured (R377) -/

/-- The frequency estimate with a new pair of times, `sum` the rate summed so far. -/
def PtpDomain.freqWith (sum : Rat) (t1 t2 : Int) (x : PtpDomain) : Rat :=
  match x.prev with
  | none => x.freq
  | some (p1, p2) =>
    if t2 ≤ p2 then x.freq
    else
      let span : Rat := ((t2 - p2 : Int) : Rat)
      let ran := (sum - x.prevSum) * (sampleTime : Rat) / span
      let meas := (((t1 - p1) - (t2 - p2) : Int) : Rat) / span * 100000000000 + ran
      x.freq + (meas - x.freq) / 16

/-- A domain after a valid Sync. -/
def PtpDomain.measured (sum : Rat) (t1 t2 : Int) (x : PtpDomain) : PtpDomain :=
  let o := t2 - t1
  { x with
    offset := o, freq := x.freqWith sum t1 t2, prev := some (t1, t2), prevSum := sum, lastSync := some t2.toNat
    syncValid := true, waiting := none, run := min 0xFFFF (x.run + 1)
    near := if o.natAbs ≤ 6553600 then min 0xFFFF (x.near + 1) else 0 }

theorem State.measure_eq (d : Nat) (t1 t2 : Int) (s : State) :
    s.measure d t1 t2 = (s.modDomain d (PtpDomain.measured s.time.rateSum t1 t2)).servoSync d := by
  refine congrArg (fun f => (s.modDomain d f).servoSync d) (funext fun x => ?_)
  unfold PtpDomain.measured PtpDomain.freqWith
  rcases x.prev with - | ⟨p1, p2⟩ <;> rfl

theorem PtpDomain.freqWith_of_prev {x : PtpDomain} {sum : Rat} {t1 t2 p1 p2 : Int} (hprev : x.prev = some (p1, p2))
    (h : p2 < t2) : x.freqWith sum t1 t2 = x.freq +
      (((((t1 - p1) - (t2 - p2) : Int) : Rat) / ((t2 - p2 : Int) : Rat) * 100000000000 +
        (sum - x.prevSum) * (sampleTime : Rat) / ((t2 - p2 : Int) : Rat)) - x.freq) / 16 := by
  unfold PtpDomain.freqWith
  rw [hprev]
  exact if_neg (not_le.2 h)

theorem State.measure_domain {d : Nat} (hd : d < 2) (t1 t2 : Int) (s : State) :
    (s.measure d t1 t2).domain d = (s.domain d).measured s.time.rateSum t1 t2 := by
  rw [State.measure_eq]
  exact (congrArg (fun v => nth ({} : PtpDomain) v d) State.servoSync_domains).trans (State.domain_modDomain_same hd _ s)

/-! ## What a measurement reads of a state -/

/-- Servo and domain `d` stand in `t` as in `s`, but for the sequence number and the Sync that waits. -/
structure SameServo (d : Nat) (s t : State) : Prop where
  state : t.time.state = s.time.state
  selected : t.time.selected = s.time.selected
  rateSum : t.time.rateSum = s.time.rateSum
  setTo : t.time.setTo = s.time.setTo
  holdoverCnt : t.time.holdoverCnt = s.time.holdoverCnt
  now : t.time.t = s.time.t
  run : (t.domain d).run = (s.domain d).run
  near : (t.domain d).near = (s.domain d).near
  freq : (t.domain d).freq = (s.domain d).freq
  prev : (t.domain d).prev = (s.domain d).prev
  prevSum : (t.domain d).prevSum = (s.domain d).prevSum

theorem SameServo.of_steering {d : Nat} {s t : State} (h : t.steering = s.steering) : SameServo d s t where
  state := (congrArg TimeState.state h :)
  selected := (congrArg TimeState.selected h :)
  rateSum := (congrArg TimeState.rateSum h :)
  setTo := (congrArg TimeState.setTo h :)
  holdoverCnt := (congrArg TimeState.holdoverCnt h :)
  now := State.t_of_steering h
  run := congrArg PtpDomain.run (State.domain_of_steering h d)
  near := congrArg PtpDomain.near (State.domain_of_steering h d)
  freq := congrArg PtpDomain.freq (State.domain_of_steering h d)
  prev := congrArg PtpDomain.prev (State.domain_of_steering h d)
  prevSum := congrArg PtpDomain.prevSum (State.domain_of_steering h d)

/-- The sequenceId of a Sync noted at its domain. -/
def State.noteSeq (d : Nat) (seq : W16) (s : State) : State := s.modDomain d fun x => { x with lastSeq := some seq }

theorem SameServo.noteSeq {d : Nat} {s t : State} (hd : d < 2) (h : SameServo d s t) (seq : W16) :
    SameServo d s (t.noteSeq d seq) := by
  have hdom : (t.noteSeq d seq).domain d = { t.domain d with lastSeq := some seq } := State.domain_modDomain_same hd _ t
  constructor
  case run => exact (congrArg PtpDomain.run hdom).trans h.run
  case near => exact (congrArg PtpDomain.near hdom).trans h.near
  case freq => exact (congrArg PtpDomain.freq hdom).trans h.freq
  case prev => exact (congrArg PtpDomain.prev hdom).trans h.prev
  case prevSum => exact (congrArg PtpDomain.prevSum hdom).trans h.prevSum
  case state => exact h.state
  case selected => exact h.selected
  case rateSum => exact h.rateSum
  case setTo => exact h.setTo
  case holdoverCnt => exact h.holdoverCnt
  case now => exact h.now

/-! ## What a measurement gives -/

/-- The parts that PTP messages may change. -/
abbrev ptpParts : List Part := [.time, .outbox, .freeCtr, .mem, .tail]

/-- The servo steers to domain `d` with the offset `o` (R376, R380). -/
def State.steersTo (s : State) (d : Nat) (o : Int) : Prop :=
  d = s.selectedDomain ∧ (s.time.state = .acquiring ∨ s.time.state = .locked) ∨
    (s.time.state = .unset ∨ s.time.state = .freeRun) ∧ (s.planes.data = .idle ∨ (o.natAbs : Int) ≤ s.switchLimit)

/-- What the offset `o` makes of the servo that steers to domain `d` (R376–R381). -/
def State.steered (s : State) (d : Nat) (o : Int) (t : State) : Prop :=
  let st : ServoState := if 8 ≤ (t.domain d).near then .locked else .acquiring
  (s.planes.data = .idle → 65536000 < o.natAbs →
    t.time.setTo = some ((s.nextStart s.time.t : Nat) - o).toNat ∧ t.time.state = st) ∧
  (s.planes.data = .idle → o.natAbs ≤ 65536000 → t.time.phaseLeft = (o : Rat) / 65536 ∧ t.time.state = st ∧
    t.time.setTo = s.time.setTo) ∧
  (s.planes.data ≠ .idle → s.switchLimit < (o.natAbs : Int) → t.time.state = .holdover ∧
    t.time.holdoverCnt = s.time.holdoverCnt.inc ∧ t.time.phaseLeft = 0) ∧
  (s.planes.data ≠ .idle → (o.natAbs : Int) ≤ s.switchLimit → t.time.phaseLeft = (o : Rat) / 65536 ∧ t.time.state = st)

theorem State.steer_steered (d : Nat) (s : State) : s.steered d (s.domain d).offset (s.steer d) := by
  have hlock : (if 8 ≤ ((s.steer d).domain d).near then ServoState.locked else .acquiring) = (s.domain d).lockState :=
    congrArg (fun v => (nth ({} : PtpDomain) v d).lockState) State.steer_domains
  unfold State.steered
  rw [hlock]
  exact ⟨State.steer_step, fun hidle h => State.steer_slew (.inl ⟨hidle, h⟩), State.steer_far,
    fun hidle h => (State.steer_slew (.inr ⟨hidle, h⟩)).imp_right And.left⟩

/-- A state with the same servo, planes and grid of samples is steered alike. -/
theorem State.steered_of_same {d : Nat} {o : Int} {s u t : State} (hsame : SameBut [.time, .outbox, .freeCtr] s u)
    (h : SameServo d s u) (hsteered : u.steered d o t) : s.steered d o t := by
  have hplanes : u.planes = s.planes := hsame .planes (by simp)
  have heph : u.eph = s.eph := hsame .eph (by simp)
  have hlimit : u.switchLimit = s.switchLimit := congrArg (fun e : EphState =>
    (((e.eph.map (·.ring)).elim 0 (·.switchNs) : Nat) : Int) * 65536) heph
  have hstart (x : Nat) : u.nextStart x = s.nextStart x := by
    simp only [State.nextStart, State.epoch, State.ringSect?, heph]
  simp only [State.steered, hplanes, hlimit, hstart, h.now, h.setTo, h.holdoverCnt] at hsteered
  exact hsteered

/-- A measured Sync of domain `d` with the offset `o`, received at `t2` (R377). -/
def State.measured (s : State) (d : Nat) (o t2 : Int) (t : State) : Prop :=
  SameBut ptpParts s t ∧ (t.domain d).offset = o ∧ (t.domain d).lastSync = some t2.toNat ∧
  (t.domain d).syncValid = true ∧ (t.domain d).waiting = none ∧ (t.domain d).run = min 0xFFFF ((s.domain d).run + 1) ∧
  (t.domain d).near = (if o.natAbs ≤ 6553600 then min 0xFFFF ((s.domain d).near + 1) else 0) ∧
  (∀ t1 p1 p2 : Int, o = t2 - t1 → (s.domain d).prev = some (p1, p2) → p2 < t2 → (t.domain d).freq = (s.domain d).freq +
    (((((t1 - p1) - (t2 - p2) : Int) : Rat) / ((t2 - p2 : Int) : Rat) * 100000000000 +
      (s.time.rateSum - (s.domain d).prevSum) * (sampleTime : Rat) / ((t2 - p2 : Int) : Rat)) - (s.domain d).freq) / 16) ∧
  (s.steersTo d o → s.steered d o t)

theorem State.measure_sameBut (d : Nat) (t1 t2 : Int) (s : State) : SameBut [.time, .mem, .tail] s (s.measure d t1 t2) := by
  rw [State.measure_eq]
  exact ((s.modDomain_sameBut d _).mono (by simp)).trans State.servoSync_sameBut

/-- A measurement of a state that reads as `s` gives what R377 to R381 say of `s`. -/
theorem State.measure_measured {d : Nat} {s u : State} (hd : d < 2) (hsame : SameBut [.time, .outbox, .freeCtr] s u)
    (h : SameServo d s u) (t1 t2 : Int) : s.measured d (t2 - t1) t2 (u.measure d t1 t2) := by
  have hdom := State.measure_domain hd t1 t2 u
  refine ⟨(hsame.mono (by simp)).trans ((u.measure_sameBut d t1 t2).mono (by simp)), ?_, ?_, ?_, ?_, ?_, ?_, ?_, fun hsteers => ?_⟩
  · rw [hdom]; rfl
  · rw [hdom]; rfl
  · rw [hdom]; rfl
  · rw [hdom]; rfl
  · rw [hdom, ← h.run]; rfl
  · rw [hdom, ← h.near]; rfl
  · intro t1' p1 p2 ho hprev hlt
    obtain rfl : t1 = t1' := by omega
    rw [hdom, ← h.freq, ← h.prevSum, ← h.rateSum]
    exact PtpDomain.freqWith_of_prev (h.prev.trans hprev) hlt
  · have hplanes : u.planes = s.planes := hsame .planes (by simp)
    have heph : u.eph = s.eph := hsame .eph (by simp)
    have hlimit : u.switchLimit = s.switchLimit := congrArg (fun e : EphState =>
      (((e.eph.map (·.ring)).elim 0 (·.switchNs) : Nat) : Int) * 65536) heph
    have hnew : (u.modDomain d (PtpDomain.measured u.time.rateSum t1 t2)).domain d =
        (u.domain d).measured u.time.rateSum t1 t2 := State.domain_modDomain_same hd _ u
    have hoffset : ((u.modDomain d (PtpDomain.measured u.time.rateSum t1 t2)).domain d).offset = t2 - t1 := by
      rw [hnew]
      rfl
    have hsync : (u.modDomain d (PtpDomain.measured u.time.rateSum t1 t2)).steersTo d
        ((u.modDomain d (PtpDomain.measured u.time.rateSum t1 t2)).domain d).offset := by
      rw [hoffset]
      obtain ⟨hsel, hstate⟩ | ⟨hstate, hlim⟩ := hsteers
      · exact .inl ⟨hsel.trans (congrArg b1 h.selected.symm), by rwa [← h.state] at hstate⟩
      · exact .inr ⟨by rwa [← h.state] at hstate, by rwa [← hplanes, ← hlimit] at hlim⟩
    have hsteered := State.steer_steered d (u.modDomain d (PtpDomain.measured u.time.rateSum t1 t2))
    rw [← State.servoSync_of_steered hsync, ← State.measure_eq, hoffset] at hsteered
    exact State.steered_of_same hsame h hsteered

end Sys2Proof.Machine
end

section
/-!
O49 (continued): which Syncs and Follow_Ups are measured.
-/

namespace Sys2Proof.Machine

/-- A Sync has entered and, where the ring has it forwarded, gone on. -/
def State.syncEntered (p : Nat) (m : PtpMsg) (s : State) : State :=
  let r := s.ringEnter p m.src m.hsrSeq
  if r.2.1 then r.1.forwardSync p m else r.1

/-- A Follow_Up has entered and, where the ring has it forwarded, gone on. -/
def State.followUpEntered (p : Nat) (m : PtpMsg) (s : State) : State :=
  let r := s.ringEnter p m.src m.hsrSeq
  if r.2.1 then r.1.forwardFollowUp p m else r.1

/-- The first copy of a message of the source that domain `d` takes its time from. -/
def State.takes (s : State) (p d : Nat) (m : PtpMsg) : Prop :=
  (s.ringEnter p m.src m.hsrSeq).2.2 = true ∧ s.fromParent d m = true

/-- A message that changes no domain, nor the servo or the clock. -/
def State.unmoved (s t : State) : Prop :=
  SameBut ptpParts s t ∧ t.time.domains = s.time.domains ∧ t.time.state = s.time.state ∧ t.time.clock = s.time.clock

section
variable {s : State} {p d : Nat} {m : PtpMsg}

theorem State.syncEntered_sameBut : SameBut [.time, .outbox, .freeCtr] s (s.syncEntered p m) := by
  have h : SameBut [.time, .outbox, .freeCtr] s (s.ringEnter p m.src m.hsrSeq).1 :=
    (State.ringEnter_sameBut p m.src m.hsrSeq s).mono (by simp)
  exact .ite (h.trans (State.forwardSync_sameBut p m _)) h

theorem State.syncEntered_steering : (s.syncEntered p m).steering = s.steering := by
  have h := State.ringEnter_steering p m.src m.hsrSeq s
  obtain heq | heq : s.syncEntered p m = _ ∨ s.syncEntered p m = _ := ite_eq_or_eq _ _ _ <;> rw [heq]
  · exact (State.forwardSync_steering p m _).trans h
  · exact h

theorem State.followUpEntered_sameBut : SameBut [.time, .outbox, .freeCtr] s (s.followUpEntered p m) := by
  have h : SameBut [.time, .outbox, .freeCtr] s (s.ringEnter p m.src m.hsrSeq).1 :=
    (State.ringEnter_sameBut p m.src m.hsrSeq s).mono (by simp)
  exact .ite (h.trans ((State.forwardFollowUp_sameBut p m _).mono (by simp))) h

theorem State.followUpEntered_steering : (s.followUpEntered p m).steering = s.steering := by
  have h := State.ringEnter_steering p m.src m.hsrSeq s
  obtain heq | heq : s.followUpEntered p m = _ ∨ s.followUpEntered p m = _ := ite_eq_or_eq _ _ _ <;> rw [heq]
  · exact (State.forwardFollowUp_steering p m _).trans h
  · exact h

theorem State.syncEntered_domainOf? (n : Nat) : (s.syncEntered p m).domainOf? n = s.domainOf? n :=
  State.domainOf?_of_eph (State.syncEntered_sameBut .eph (by simp)) n

theorem State.followUpEntered_domainOf? (n : Nat) : (s.followUpEntered p m).domainOf? n = s.domainOf? n :=
  State.domainOf?_of_eph (State.followUpEntered_sameBut .eph (by simp)) n

theorem State.fromParent_of_steering {t : State} (h : t.steering = s.steering) : t.fromParent d m = s.fromParent d m := by
  unfold State.fromParent
  rw [State.domain_of_steering h]

/-- A state that reads as `s` is one that the message leaves unmoved. -/
theorem State.unmoved_of_steering {t : State} (hsame : SameBut [.time, .outbox, .freeCtr] s t)
    (h : t.steering = s.steering) : s.unmoved t :=
  ⟨hsame.mono (by simp), (congrArg TimeState.domains h :), (congrArg TimeState.state h :), (congrArg TimeState.clock h :)⟩

/-! ## Sync -/

theorem execSync_of_down (h : s.ringUp p = false) : exec (.sync p m) s = .next s :=
  congrArg Host.Outcome.next (if_pos (by rw [h]; rfl))

/-- What a Sync of a declared domain does once it has entered. -/
def State.takeSync (first : Bool) (p d : Nat) (m : PtpMsg) (s : State) : State :=
  let diff := (s.domain d).lastSeq.elim 1 fun l => seqDiff 16 m.seq.toNat l.toNat
  if !first || !s.fromParent d m then s
  else if diff ≤ 0 then { s with time := { s.time with seqErr := s.time.seqErr.inc } }
  else
    let s := s.noteSeq d m.seq
    let t2 : Int := ((s.time.t + m.sub : Nat) : Int)
    if m.twoStep then
      s.modDomain d fun x => { x with waiting := some { seq := m.seq, port := p, t2 := t2, corr := m.correction } }
    else s.measure d (m.origin + m.correction + (s.ringPort p).meanDelay) t2

theorem execSync_of_declared (hup : s.ringUp p = true) (hd : s.domainOf? m.domain = some d) :
    exec (.sync p m) s = .next ((s.syncEntered p m).takeSync (s.ringEnter p m.src m.hsrSeq).2.2 p d m) := by
  refine congrArg Host.Outcome.next ((if_neg (by rw [hup]; decide)).trans ?_)
  have hentered := (State.syncEntered_domainOf? (s := s) (p := p) (m := m) m.domain).trans hd
  unfold State.syncEntered at hentered
  dsimp only at hentered ⊢
  rw [hentered]
  rfl

theorem execSync_of_undeclared (hup : s.ringUp p = true) (hd : s.domainOf? m.domain = none) :
    exec (.sync p m) s = .next ((s.syncEntered p m).ptpOther (s.ringEnter p m.src m.hsrSeq).2.1) := by
  refine congrArg Host.Outcome.next ((if_neg (by rw [hup]; decide)).trans ?_)
  have hentered := (State.syncEntered_domainOf? (s := s) (p := p) (m := m) m.domain).trans hd
  unfold State.syncEntered at hentered
  dsimp only at hentered ⊢
  rw [hentered]
  rfl

theorem execSync_unmoved (hup : s.ringUp p = true) (hd : s.domainOf? m.domain = some d) (h : ¬ s.takes p d m) :
    ∃ t, exec (.sync p m) s = .next t ∧ s.unmoved t ∧ t.time.seqErr = s.time.seqErr := by
  have hpass : (s.syncEntered p m).takeSync (s.ringEnter p m.src m.hsrSeq).2.2 p d m = s.syncEntered p m := by
    refine if_pos ?_
    rw [State.fromParent_of_steering State.syncEntered_steering]
    by_contra hno
    exact h (by simpa [State.takes] using hno)
  refine ⟨_, (execSync_of_declared hup hd).trans (congrArg _ hpass),
    State.unmoved_of_steering State.syncEntered_sameBut State.syncEntered_steering,
    (congrArg TimeState.seqErr State.syncEntered_steering :)⟩

section
variable {u : State} {first : Bool}

theorem State.takeSync_late (hfirst : first = true) (hparent : u.fromParent d m = true) {l : W16}
    (hl : (u.domain d).lastSeq = some l) (h : seqDiff 16 m.seq.toNat l.toNat ≤ 0) :
    u.takeSync first p d m = { u with time := { u.time with seqErr := u.time.seqErr.inc } } :=
  (if_neg (by rw [hfirst, hparent]; decide)).trans (if_pos (by rw [hl]; exact h))

/-- The sequenceId `m.seq` is later than the last one of domain `d`. -/
def State.laterSeq (s : State) (d : Nat) (m : PtpMsg) : Prop :=
  (s.domain d).lastSeq = none ∨ ∃ l, (s.domain d).lastSeq = some l ∧ 0 < seqDiff 16 m.seq.toNat l.toNat

theorem State.takeSync_later (hfirst : first = true) (hparent : u.fromParent d m = true) (h : u.laterSeq d m) :
    u.takeSync first p d m = if m.twoStep then
      (u.noteSeq d m.seq).modDomain d fun x => { x with
        waiting := some { seq := m.seq, port := p, t2 := ((u.time.t + m.sub : Nat) : Int), corr := m.correction } }
      else (u.noteSeq d m.seq).measure d (m.origin + m.correction + (u.ringPort p).meanDelay) ((u.time.t + m.sub : Nat) : Int) :=
  (if_neg (by rw [hfirst, hparent]; decide)).trans (if_neg (by
    obtain hl | ⟨l, hl, h⟩ := h <;> rw [hl]
    · exact of_decide_eq_false rfl
    · exact not_le.2 h))

end

theorem execSync_late (hup : s.ringUp p = true) (hd : s.domainOf? m.domain = some d) (htake : s.takes p d m) {l : W16}
    (hl : (s.domain d).lastSeq = some l) (h : seqDiff 16 m.seq.toNat l.toNat ≤ 0) :
    ∃ t, exec (.sync p m) s = .next t ∧ s.unmoved t ∧ t.time.seqErr = s.time.seqErr.inc := by
  have hst := State.syncEntered_steering (s := s) (p := p) (m := m)
  have hlate := State.takeSync_late (p := p) (u := s.syncEntered p m) htake.1
    ((State.fromParent_of_steering hst).trans htake.2) (by rw [State.domain_of_steering hst]; exact hl) h
  obtain ⟨hsame, hdomains, hstate, hclock⟩ := State.unmoved_of_steering State.syncEntered_sameBut hst
  exact ⟨_, (execSync_of_declared hup hd).trans (congrArg _ hlate),
    ⟨hsame.trans ((sameBut_time _ _).mono (by simp)), hdomains, hstate, hclock⟩,
    (congrArg (fun x : TimeState => x.seqErr.inc) hst :)⟩

theorem State.laterSeq_of_steering {t : State} (h : t.steering = s.steering) (hlater : s.laterSeq d m) : t.laterSeq d m := by
  unfold State.laterSeq
  rw [State.domain_of_steering h]
  exact hlater

theorem State.domain_noteSeq (hd : d < 2) (seq : W16) : (s.noteSeq d seq).domain d = { s.domain d with lastSeq := some seq } :=
  State.domain_modDomain_same hd _ s

theorem execSync_oneStep (hup : s.ringUp p = true) (hd : s.domainOf? m.domain = some d) (htake : s.takes p d m)
    (hlater : s.laterSeq d m) (hstep : m.twoStep = false) :
    ∃ t, exec (.sync p m) s = .next t ∧ (t.domain d).lastSeq = some m.seq ∧
      s.measured d (((s.time.t + m.sub : Nat) : Int) - (m.origin + m.correction + (s.ringPort p).meanDelay))
        ((s.time.t + m.sub : Nat) : Int) t := by
  have hst := State.syncEntered_steering (s := s) (p := p) (m := m)
  have hlt := State.domainOf?_lt hd
  have htaken := State.takeSync_later (p := p) (u := s.syncEntered p m) htake.1
    ((State.fromParent_of_steering hst).trans htake.2) (State.laterSeq_of_steering hst hlater)
  rw [if_neg (by rw [hstep]; decide), State.meanDelay_of_steering hst, State.t_of_steering hst] at htaken
  refine ⟨_, (execSync_of_declared hup hd).trans (congrArg _ htaken), ?_, ?_⟩
  · rw [State.measure_domain hlt, State.domain_noteSeq hlt]
    rfl
  · exact State.measure_measured hlt (State.syncEntered_sameBut.trans ((State.modDomain_sameBut d _ _).mono (by simp)))
      ((SameServo.of_steering hst).noteSeq hlt m.seq) _ _

theorem execSync_twoStep (hup : s.ringUp p = true) (hd : s.domainOf? m.domain = some d) (htake : s.takes p d m)
    (hlater : s.laterSeq d m) (hstep : m.twoStep = true) :
    ∃ t, exec (.sync p m) s = .next t ∧ SameBut ptpParts s t ∧ t.domain d = { s.domain d with
      lastSeq := some m.seq
      waiting := some { seq := m.seq, port := p, t2 := ((s.time.t + m.sub : Nat) : Int), corr := m.correction } } := by
  have hst := State.syncEntered_steering (s := s) (p := p) (m := m)
  have hlt := State.domainOf?_lt hd
  have htaken := State.takeSync_later (p := p) (u := s.syncEntered p m) htake.1
    ((State.fromParent_of_steering hst).trans htake.2) (State.laterSeq_of_steering hst hlater)
  rw [if_pos hstep, State.t_of_steering hst] at htaken
  refine ⟨_, (execSync_of_declared hup hd).trans (congrArg _ htaken), ?_, ?_⟩
  · exact ((State.syncEntered_sameBut.mono (by simp)).trans ((State.modDomain_sameBut d _ _).mono (by simp))).trans
      ((State.modDomain_sameBut d _ _).mono (by simp))
  · rw [State.domain_modDomain_same hlt, State.domain_noteSeq hlt, State.domain_of_steering hst]

/-! ## Follow_Up -/

theorem execFollowUp_of_down (h : s.ringUp p = false) : exec (.followUp p m) s = .next s :=
  congrArg Host.Outcome.next (if_pos (by rw [h]; rfl))

/-- What a Follow_Up of a declared domain does once it has entered. -/
def State.takeFollowUp (first : Bool) (d : Nat) (m : PtpMsg) (s : State) : State :=
  match (s.domain d).waiting with
  | some w =>
    if w.seq = m.seq ∧ first ∧ s.fromParent d m then
      s.measure d (m.origin + w.corr + m.correction + (s.ringPort w.port).meanDelay) w.t2
    else s
  | none => s

theorem execFollowUp_of_declared (hup : s.ringUp p = true) (hd : s.domainOf? m.domain = some d) :
    exec (.followUp p m) s = .next ((s.followUpEntered p m).takeFollowUp (s.ringEnter p m.src m.hsrSeq).2.2 d m) := by
  refine congrArg Host.Outcome.next ((if_neg (by rw [hup]; decide)).trans ?_)
  have hentered := (State.followUpEntered_domainOf? (s := s) (p := p) (m := m) m.domain).trans hd
  unfold State.followUpEntered at hentered
  dsimp only at hentered ⊢
  rw [hentered]
  rfl

theorem execFollowUp_of_undeclared (hup : s.ringUp p = true) (hd : s.domainOf? m.domain = none) :
    exec (.followUp p m) s = .next ((s.followUpEntered p m).ptpOther (s.ringEnter p m.src m.hsrSeq).2.1) := by
  refine congrArg Host.Outcome.next ((if_neg (by rw [hup]; decide)).trans ?_)
  have hentered := (State.followUpEntered_domainOf? (s := s) (p := p) (m := m) m.domain).trans hd
  unfold State.followUpEntered at hentered
  dsimp only at hentered ⊢
  rw [hentered]
  rfl

/-- A Follow_Up that no Sync waits for, or that is not taken, moves nothing. -/
theorem execFollowUp_unmoved (hup : s.ringUp p = true) (hd : s.domainOf? m.domain = some d)
    (h : ¬ s.takes p d m ∨ ∀ w : TwoStep, (s.domain d).waiting = some w → w.seq ≠ m.seq) :
    ∃ t, exec (.followUp p m) s = .next t ∧ s.unmoved t := by
  have hst := State.followUpEntered_steering (s := s) (p := p) (m := m)
  have hpass : (s.followUpEntered p m).takeFollowUp (s.ringEnter p m.src m.hsrSeq).2.2 d m = s.followUpEntered p m := by
    unfold State.takeFollowUp
    split
    next w hw =>
      rw [State.domain_of_steering hst] at hw
      rw [State.fromParent_of_steering hst]
      exact if_neg fun ⟨hseq, hfirst, hparent⟩ => h.elim (fun hno => hno ⟨hfirst, hparent⟩) fun hno => hno w hw hseq
    next => rfl
  exact ⟨_, (execFollowUp_of_declared hup hd).trans (congrArg _ hpass),
    State.unmoved_of_steering State.followUpEntered_sameBut hst⟩

theorem execFollowUp_measured (hup : s.ringUp p = true) (hd : s.domainOf? m.domain = some d) (htake : s.takes p d m)
    {w : TwoStep} (hw : (s.domain d).waiting = some w) (hseq : w.seq = m.seq) :
    ∃ t, exec (.followUp p m) s = .next t ∧
      s.measured d (w.t2 - (m.origin + w.corr + m.correction + (s.ringPort w.port).meanDelay)) w.t2 t := by
  have hst := State.followUpEntered_steering (s := s) (p := p) (m := m)
  have hwaits : ((s.followUpEntered p m).domain d).waiting = some w := by rw [State.domain_of_steering hst, hw]
  have htaken : (s.followUpEntered p m).takeFollowUp (s.ringEnter p m.src m.hsrSeq).2.2 d m = (s.followUpEntered p m).measure d
      (m.origin + w.corr + m.correction + (s.ringPort w.port).meanDelay) w.t2 := by
    rw [← State.meanDelay_of_steering hst, State.takeFollowUp, hwaits]
    exact if_pos ⟨hseq, htake.1, (State.fromParent_of_steering hst).trans htake.2⟩
  exact ⟨_, (execFollowUp_of_declared hup hd).trans (congrArg _ htaken),
    State.measure_measured (State.domainOf?_lt hd) State.followUpEntered_sameBut (SameServo.of_steering hst) _ _⟩

/-! ## Messages of no declared domain -/

theorem exec_undeclared {c : Instr} (hup : s.ringUp p = true) (hd : s.domainOf? m.domain = none)
    (hc : c = .sync p m ∨ c = .followUp p m) : ∃ t, exec c s = .next t ∧ SameBut [.time, .outbox, .freeCtr] s t ∧
      t.time.domains = s.time.domains ∧ t.time.state = s.time.state ∧ t.time.clock = s.time.clock := by
  have hpassed {u : State} (hsame : SameBut [.time, .outbox, .freeCtr] s u) (h : u.steering = s.steering) (fwd : Bool) :
      SameBut [.time, .outbox, .freeCtr] s (u.ptpOther fwd) ∧ (u.ptpOther fwd).time.domains = s.time.domains ∧
        (u.ptpOther fwd).time.state = s.time.state ∧ (u.ptpOther fwd).time.clock = s.time.clock :=
    ⟨hsame.trans ((u.ptpOther_sameBut fwd).mono (by simp)),
      (State.unmoved_of_steering (hsame.trans ((u.ptpOther_sameBut fwd).mono (by simp)))
        ((u.ptpOther_steering fwd).trans h)).2⟩
  obtain rfl | rfl := hc
  · exact ⟨_, execSync_of_undeclared hup hd, hpassed State.syncEntered_sameBut State.syncEntered_steering _⟩
  · exact ⟨_, execFollowUp_of_undeclared hup hd, hpassed State.followUpEntered_sameBut State.followUpEntered_steering _⟩

end

/-- Settles O49: entering and forwarding a message leaves the servo as it is; a taken Sync is then measured, and the
servo steered by the offset. -/
theorem syncsMeasureAndSteerTheServo : Obligations.SyncsMeasureAndSteerTheServo := by
  refine ⟨fun s p m h => ⟨execSync_of_down h, execFollowUp_of_down h⟩, fun s p m c _ hup hd hc => exec_undeclared hup hd hc,
    fun s p d m _ hup hd => ⟨?_, ?_, ?_, ?_, ?_⟩⟩
  · exact fun htake => ⟨execSync_unmoved hup hd htake, execFollowUp_unmoved hup hd (.inl htake)⟩
  · exact fun htake l hl h => execSync_late hup hd htake hl h
  · exact fun htake hlater => ⟨execSync_oneStep hup hd htake hlater, execSync_twoStep hup hd htake hlater⟩
  · exact fun w htake hw hseq => execFollowUp_measured hup hd htake hw hseq
  · exact fun hnone => execFollowUp_unmoved hup hd (.inr hnone)

end Sys2Proof.Machine
end

section
/-!
O50: Announce, lost domains and the path delay (R364, R370, R381, R382).
-/

namespace Sys2Proof.Machine

/-! ## Announce -/

section
variable {s : State} {p d : Nat} {m : PtpMsg} {a : Announce}

/-- An Announce has entered and, where the ring has it forwarded, gone on. -/
def State.announceEntered (p : Nat) (m : PtpMsg) (s : State) : State :=
  let r := s.ringEnter p m.src m.hsrSeq
  if r.2.1 then r.1.ptpSend p m 0 else r.1

theorem State.announceEntered_sameBut : SameBut [.time, .outbox] s (s.announceEntered p m) := by
  have h : SameBut [.time, .outbox] s (s.ringEnter p m.src m.hsrSeq).1 :=
    (State.ringEnter_sameBut p m.src m.hsrSeq s).mono (by simp)
  exact .ite (h.trans (State.ptpSend_sameBut p m 0 _)) h

theorem State.announceEntered_steering : (s.announceEntered p m).steering = s.steering := by
  have h := State.ringEnter_steering p m.src m.hsrSeq s
  obtain heq | heq : s.announceEntered p m = _ ∨ s.announceEntered p m = _ := ite_eq_or_eq _ _ _ <;> rw [heq]
  · exact (State.ptpSend_steering p m 0 _).trans h
  · exact h

theorem State.announceEntered_domainOf? (n : Nat) : (s.announceEntered p m).domainOf? n = s.domainOf? n :=
  State.domainOf?_of_eph (State.announceEntered_sameBut .eph (by simp)) n

theorem execAnnounce_of_down (h : s.ringUp p = false) : exec (.announce p ⟨m, a⟩) s = .next s :=
  congrArg Host.Outcome.next (if_pos (by rw [h]; rfl))

theorem execAnnounce_of_undeclared (hup : s.ringUp p = true) (hd : s.domainOf? m.domain = none) :
    exec (.announce p ⟨m, a⟩) s = .next ((s.announceEntered p m).ptpOther (s.ringEnter p m.src m.hsrSeq).2.1) := by
  refine congrArg Host.Outcome.next ((if_neg (by rw [hup]; decide)).trans ?_)
  have hentered := (State.announceEntered_domainOf? (s := s) (p := p) (m := m) m.domain).trans hd
  unfold State.announceEntered at hentered
  dsimp only at hentered ⊢
  rw [hentered]
  rfl

theorem execAnnounce_of_declared (hup : s.ringUp p = true) (hd : s.domainOf? m.domain = some d) :
    exec (.announce p ⟨m, a⟩) s = .next (if (s.ringEnter p m.src m.hsrSeq).2.2 then
      (s.announceEntered p m).modDomain d (PtpDomain.announce (s.announceEntered p m).time.t m.source a)
      else s.announceEntered p m) := by
  refine congrArg Host.Outcome.next ((if_neg (by rw [hup]; decide)).trans ?_)
  have hentered := (State.announceEntered_domainOf? (s := s) (p := p) (m := m) m.domain).trans hd
  unfold State.announceEntered at hentered
  dsimp only at hentered ⊢
  rw [hentered]
  rfl

/-- The Announce of a new best source. -/
def PtpDomain.taken (x : PtpDomain) (t source : Nat) (a : Announce) : PtpDomain :=
  { x with announceValid := true, best := a, parent := source, announceAt := t, lastSeq := none, waiting := none, prev := none }

section
variable {x : PtpDomain} {t source : Nat}

theorem PtpDomain.announce_of_parent (hvalid : x.announceValid = true) (h : source = x.parent) :
    x.announce t source a = { x with best := a, announceAt := t } := if_pos (by simp [hvalid, h])

theorem PtpDomain.announce_of_better (h : x.announceValid = false ∨ source ≠ x.parent ∧ a.better x.best = true) :
    x.announce t source a = x.taken t source a := by
  obtain h | ⟨hparent, h⟩ := h
  · exact (if_neg (by simp [h])).trans (if_pos (by simp [h]))
  · exact (if_neg (by simp [hparent])).trans (if_pos (by simp [h]))

theorem PtpDomain.announce_of_worse (hvalid : x.announceValid = true) (hparent : source ≠ x.parent)
    (h : a.better x.best = false) : x.announce t source a = x :=
  (if_neg (by simp [hparent])).trans (if_neg (by simp [hvalid, h]))

end

/-- The first copy of an Announce of domain `d` gives it `PtpDomain.announce`. -/
theorem execAnnounce_first (hup : s.ringUp p = true) (hd : s.domainOf? m.domain = some d)
    (hfirst : (s.ringEnter p m.src m.hsrSeq).2.2 = true) : ∃ t, exec (.announce p ⟨m, a⟩) s = .next t ∧
      SameBut [.time, .outbox] s t ∧ t.domain d = (s.domain d).announce s.time.t m.source a := by
  have hst := State.announceEntered_steering (s := s) (p := p) (m := m)
  refine ⟨_, (execAnnounce_of_declared hup hd).trans (congrArg _ (if_pos hfirst)),
    State.announceEntered_sameBut.trans ((State.modDomain_sameBut d _ _).mono (by simp)), ?_⟩
  rw [State.domain_modDomain_same (State.domainOf?_lt hd), State.domain_of_steering hst, State.t_of_steering hst]

/-- A later copy, or an Announce of no declared domain, changes no domain. -/
theorem execAnnounce_passed (hup : s.ringUp p = true)
    (h : s.domainOf? m.domain = none ∨ (s.ringEnter p m.src m.hsrSeq).2.2 = false) :
    ∃ t, exec (.announce p ⟨m, a⟩) s = .next t ∧ SameBut [.time, .outbox] s t ∧ t.time.domains = s.time.domains := by
  have hst := State.announceEntered_steering (s := s) (p := p) (m := m)
  cases hd : s.domainOf? m.domain with
  | none =>
    exact ⟨_, execAnnounce_of_undeclared hup hd, State.announceEntered_sameBut.trans ((State.ptpOther_sameBut _ _).mono (by simp)),
      (congrArg TimeState.domains ((State.ptpOther_steering _ _).trans hst) :)⟩
  | some d =>
    have hcopy : ¬ (s.ringEnter p m.src m.hsrSeq).2.2 = true := by
      rw [h.resolve_left (by rw [hd]; exact Option.some_ne_none d)]
      exact Bool.false_ne_true
    exact ⟨_, (execAnnounce_of_declared hup hd).trans (congrArg _ (if_neg hcopy)), State.announceEntered_sameBut,
      (congrArg TimeState.domains hst :)⟩

theorem execAnnounce_of_up (hup : s.ringUp p = true) : ∃ t, exec (.announce p ⟨m, a⟩) s = .next t ∧
    SameBut [.time, .outbox] s t ∧
    (s.domainOf? m.domain = none ∨ (s.ringEnter p m.src m.hsrSeq).2.2 = false → t.time.domains = s.time.domains) ∧
    ∀ d, s.domainOf? m.domain = some d → (s.ringEnter p m.src m.hsrSeq).2.2 = true →
      ((s.domain d).announceValid = true → m.source = (s.domain d).parent →
        t.domain d = { s.domain d with best := a, announceAt := s.time.t }) ∧
      ((s.domain d).announceValid = false ∨ m.source ≠ (s.domain d).parent ∧ a.better (s.domain d).best = true →
        t.domain d = (s.domain d).taken s.time.t m.source a) ∧
      ((s.domain d).announceValid = true → m.source ≠ (s.domain d).parent → a.better (s.domain d).best = false →
        t.domain d = s.domain d) := by
  by_cases h : s.domainOf? m.domain = none ∨ (s.ringEnter p m.src m.hsrSeq).2.2 = false
  · obtain ⟨t, hexec, hsame, hdomains⟩ := execAnnounce_passed (a := a) hup h
    refine ⟨t, hexec, hsame, fun _ => hdomains, fun d hd hfirst => ?_⟩
    obtain h | h := h
    · exact absurd (hd.symm.trans h) (Option.some_ne_none d)
    · exact absurd (hfirst.symm.trans h) Bool.noConfusion
  · obtain ⟨d, hd⟩ := Option.ne_none_iff_exists'.1 (not_or.1 h).1
    obtain ⟨t, hexec, hsame, hdom⟩ := execAnnounce_first (a := a) hup hd (Bool.not_eq_false _ |>.mp (not_or.1 h).2)
    refine ⟨t, hexec, hsame, fun hno => absurd hno h, fun e he _ => ?_⟩
    obtain rfl : d = e := Option.some.inj (hd.symm.trans he)
    rw [hdom]
    exact ⟨PtpDomain.announce_of_parent, PtpDomain.announce_of_better, PtpDomain.announce_of_worse⟩

/-! ## Lost domains (R381, R382) -/

theorem State.loseSelected_of_switch (h : s.time.state = .acquiring ∨ s.time.state = .locked)
    (hfresh : s.domainFresh (1 - s.selectedDomain) = true)
    (hnear : ((s.domain (1 - s.selectedDomain)).offset.natAbs : Int) ≤ s.switchLimit) :
    s.loseSelected = s.selectDomain (1 - s.selectedDomain) :=
  (if_neg fun ⟨ha, hl⟩ => h.elim ha hl).trans (if_pos ⟨hfresh, hnear⟩)

theorem State.loseSelected_of_holdover (h : s.time.state = .acquiring ∨ s.time.state = .locked)
    (hnot : s.domainFresh (1 - s.selectedDomain) = false ∨
      s.switchLimit < ((s.domain (1 - s.selectedDomain)).offset.natAbs : Int)) :
    s.loseSelected = s.enterHoldover :=
  (if_neg fun ⟨ha, hl⟩ => h.elim ha hl).trans (if_neg fun ⟨hfresh, hnear⟩ =>
    hnot.elim (fun hno => absurd (hfresh.symm.trans hno) Bool.noConfusion) fun hfar => absurd hnear (not_le.2 hfar))

theorem State.loseSelected_cases : s.loseSelected = s ∨ s.loseSelected = s.selectDomain (1 - s.selectedDomain) ∨
    s.loseSelected = s.enterHoldover := by
  obtain h | h : s.loseSelected = s ∨ s.loseSelected = ite _ _ _ := ite_eq_or_eq _ _ _
  · exact .inl h
  · exact .inr (h ▸ ite_eq_or_eq _ _ _)

theorem State.loseSelected_sameBut : SameBut [.time, .mem, .tail] s s.loseSelected := by
  obtain h | h | h := State.loseSelected_cases (s := s) <;> rw [h]
  · exact .refl _ s
  · exact State.selectDomain_sameBut
  · exact State.enterHoldover_sameBut

theorem State.loseSelected_domains : s.loseSelected.time.domains = s.time.domains := by
  obtain h | h | h := State.loseSelected_cases (s := s) <;> rw [h]
  · exact State.selectDomain_domains
  · exact State.enterHoldover_domains

/-- Domain `d` changes by `f` as it is lost, and with the selected one the servo (R381). -/
def State.lose (d : Nat) (f : PtpDomain → PtpDomain) (s : State) : State :=
  let s := s.modDomain d f
  if d = s.selectedDomain then s.loseSelected else s

/-- What the loss of domain `d` does to the servo (R381, R382). -/
def State.lost (s : State) (d : Nat) (t : State) : Prop :=
  SameBut [.time, .mem, .tail] s t ∧
  (d ≠ s.selectedDomain → t.time.state = s.time.state ∧ t.time.selected = s.time.selected ∧
    t.domain (1 - d) = s.domain (1 - d)) ∧
  (d = s.selectedDomain → s.time.state = .acquiring ∨ s.time.state = .locked →
    (s.domainFresh (1 - d) = true → ((s.domain (1 - d)).offset.natAbs : Int) ≤ s.switchLimit →
      t.selectedDomain = 1 - d ∧ t.time.phaseLeft = ((s.domain (1 - d)).offset : Rat) / 65536 ∧
      t.time.switchCnt = s.time.switchCnt.inc) ∧
    (s.domainFresh (1 - d) = false ∨ s.switchLimit < ((s.domain (1 - d)).offset.natAbs : Int) →
      t.time.state = .holdover ∧ t.time.holdSince = s.time.t ∧ t.time.holdoverCnt = s.time.holdoverCnt.inc))

theorem State.lose_domain (hd : d < 2) (f : PtpDomain → PtpDomain) : (s.lose d f).domain d = f (s.domain d) := by
  refine Eq.trans ?_ (State.domain_modDomain_same hd f s)
  obtain h | h : s.lose d f = (s.modDomain d f).loseSelected ∨ s.lose d f = s.modDomain d f := ite_eq_or_eq _ _ _ <;> rw [h]
  exact congrArg (fun v => nth ({} : PtpDomain) v d) State.loseSelected_domains

theorem State.b1_beq_one (hd : d < 2) : b1 (d == 1) = d := by
  obtain rfl | rfl : d = 0 ∨ d = 1 := by omega
  · rfl
  · rfl

theorem State.lose_lost (hd : d < 2) (f : PtpDomain → PtpDomain) : s.lost d (s.lose d f) := by
  have hother : (s.modDomain d f).domain (1 - d) = s.domain (1 - d) := State.domain_modDomain_other (by omega) f s
  have hfresh : (s.modDomain d f).domainFresh (1 - d) = s.domainFresh (1 - d) := by
    unfold State.domainFresh
    rw [hother]
    rfl
  have hframe := s.modDomain_sameBut d f
  refine ⟨?_, fun hsel => ?_, fun hsel hstate => ?_⟩
  · exact .ite ((hframe.mono (by simp)).trans State.loseSelected_sameBut) (hframe.mono (by simp))
  · have hlose : s.lose d f = s.modDomain d f := if_neg hsel
    rw [hlose]
    exact ⟨rfl, rfl, hother⟩
  · have hlose : s.lose d f = (s.modDomain d f).loseSelected := if_pos hsel
    have hd' : (s.modDomain d f).selectedDomain = d := hsel.symm
    constructor
    · intro hf hnear
      have heq : s.lose d f = (s.modDomain d f).selectDomain (1 - d) := by
        rw [hlose, State.loseSelected_of_switch (s := s.modDomain d f) hstate (by rw [hd', hfresh, hf]) (by rw [hd', hother]; exact hnear), hd']
      rw [heq]
      refine ⟨?_, ?_, ?_⟩
      · exact (congrArg b1 (State.selectDomain_keep (g := TimeState.selected) fun _ _ _ _ => rfl)).trans
          (State.b1_beq_one (by omega))
      · rw [State.selectDomain_phaseLeft, hother]
      · exact State.selectDomain_keep (g := TimeState.switchCnt) fun _ _ _ _ => rfl
    · intro hnot
      have heq : s.lose d f = (s.modDomain d f).enterHoldover := by
        rw [hlose, State.loseSelected_of_holdover (s := s.modDomain d f) hstate (by rw [hd', hfresh, hother]; exact hnot)]
      rw [heq]
      exact ⟨State.enterHoldover_keep (g := TimeState.state) fun _ _ _ _ => rfl,
        State.enterHoldover_keep (g := TimeState.holdSince) fun _ _ _ _ => rfl,
        State.enterHoldover_keep (g := TimeState.holdoverCnt) fun _ _ _ _ => rfl⟩

theorem execAnnounceTimeout_of_due (hd : d < 2) (hvalid : (s.domain d).announceValid = true)
    (h : (s.domain d).announceAt + (s.domain d).announceWindow ≤ s.time.t) :
    ∃ t, exec (.announceTimeout d) s = .next t ∧ s.lost d t ∧ (t.domain d).announceValid = false :=
  ⟨s.lose d fun x => { x with announceValid := false, best := {} },
    congrArg Host.Outcome.next (if_neg (by simp [hvalid, h])), State.lose_lost hd _,
    congrArg PtpDomain.announceValid (State.lose_domain hd _)⟩

theorem execAnnounceTimeout_of_not_due
    (h : (s.domain d).announceValid = false ∨ s.time.t < (s.domain d).announceAt + (s.domain d).announceWindow) :
    exec (.announceTimeout d) s = .next s := congrArg Host.Outcome.next (if_pos (by simpa using h))

theorem execDomainLost_of_stale (hd : d < 2) (hvalid : (s.domain d).syncValid = true) (h : s.domainFresh d = false) :
    ∃ t, exec (.domainLost d) s = .next t ∧ s.lost d t ∧
      (t.domain d).syncValid = false ∧ (t.domain d).run = 0 ∧ (t.domain d).near = 0 := by
  have hdom := State.lose_domain (s := s) hd fun x => { x with syncValid := false, run := 0, near := 0 }
  exact ⟨_, congrArg Host.Outcome.next (if_neg (by simp [hvalid, h])), State.lose_lost hd _,
    congrArg PtpDomain.syncValid hdom, congrArg PtpDomain.run hdom, congrArg PtpDomain.near hdom⟩

theorem execDomainLost_of_fresh (h : (s.domain d).syncValid = false ∨ s.domainFresh d = true) :
    exec (.domainLost d) s = .next s := congrArg Host.Outcome.next (if_pos (by simpa using h))

/-- HOLDOVER has ended: the last estimate runs on (R382). -/
def State.freeRunning (s : State) : State :=
  (({ s with time := { s.time with state := .freeRun } }).record 0x00A4 .data []).setRate

theorem execHoldoverExpiry_of_due {r : EphRing} (hr : s.ringSect? = some r) (hstate : s.time.state = .holdover)
    (h : s.time.holdSince + r.holdover * 65536000000 ≤ s.time.t) : ∃ t, exec .holdoverExpiry s = .next t ∧
      SameBut [.time, .mem, .tail] s t ∧ t.time.state = .freeRun ∧ t.time.clock = s.time.clock := by
  refine ⟨s.freeRunning, congrArg Host.Outcome.next (if_pos ⟨hstate, by rw [hr]; exact h⟩), ?_, ?_, ?_⟩
  · exact (((sameBut_time s _).mono (by simp)).trans ((State.record_sameBut _ _ _ _).mono (by simp))).trans
      (State.setRate_sameBut.mono (by simp))
  · exact (State.setRate_keep (g := TimeState.state) fun _ _ _ _ => rfl).trans (congrArg TimeState.state State.record_time)
  · refine (State.setRate_keep (g := TimeState.clock) fun _ _ _ _ => rfl).trans ?_
    rw [State.record_time]

theorem execHoldoverExpiry_of_other (h : s.time.state ≠ .holdover) : exec .holdoverExpiry s = .next s :=
  congrArg Host.Outcome.next (if_neg fun hdue => h hdue.1)

end

end Sys2Proof.Machine
end

section
/-!
O50 (continued): the path delay (R364, R370).
-/

namespace Sys2Proof.Machine

section
variable {s : State} {p : Nat} {m : PtpMsg}

/-! ## Requests -/

theorem execPdelayReq_of_passed {seq src : Nat} (h : s.ringUp p = false ∨ src = s.ownMac) :
    exec (.pdelayReq p seq src) s = .next s := congrArg Host.Outcome.next (if_pos (by simpa using h))

theorem execPdelayReq_of_up {seq src : Nat} (hup : s.ringUp p = true) (hsrc : src ≠ s.ownMac) :
    exec (.pdelayReq p seq src) s = .next ((s.draw (2 ^ 32)).2.ringOwn [p] ptpType ptpPeerMac (fun _ => seq)
      (s.draw (2 ^ 32)).1) := congrArg Host.Outcome.next (if_neg (by simp [hup, hsrc]))

theorem State.draw_lt {n : Nat} (hn : 0 < n) : (s.draw n).1 < n :=
  (congrArg (· < n) (if_neg hn.ne')).mpr (Nat.mod_lt _ hn)

/-- One frame of the device's own, with the HSR tag of MODE 1. -/
theorem State.ringOwn_one {etherType dst : Nat} {seq : Nat → Nat} {corr : Int} : ∃ tag,
    (s.ringOwn [p] etherType dst seq corr).outbox = .ringOwn p etherType dst (seq p) s.ownVlan corr tag :: s.outbox ∧
    (s.ringMode ≠ 1 → tag = none ∧ (s.ringOwn [p] etherType dst seq corr).time.hsrSeq = s.time.hsrSeq) ∧
    (s.ringMode = 1 → (s.ringOwn [p] etherType dst seq corr).time.hsrSeq = s.time.hsrSeq + 1 ∧
      ∃ x, tag = some { path := p, seq := s.time.hsrSeq, lsdu := x }) := by
  rw [State.ringOwn_eq]
  by_cases hmode : s.ringMode = 1
  · rw [beq_iff_eq.2 hmode]
    exact ⟨_, rfl, fun hno => absurd hmode hno, fun _ => ⟨rfl, (s.draw 4096).1, rfl⟩⟩
  · rw [beq_eq_false_iff_ne.2 hmode]
    exact ⟨none, rfl, fun _ => ⟨rfl, rfl⟩, fun h => absurd h hmode⟩

theorem execPdelayReq_answered {seq src : Nat} (hup : s.ringUp p = true) (hsrc : src ≠ s.ownMac) :
    ∃ (t : State) (v : Nat) (tag : Option HsrTag), exec (.pdelayReq p seq src) s = .next t ∧ v < 2 ^ 32 ∧
      SameBut [.time, .outbox, .freeCtr] s t ∧
      t.outbox = .ringOwn p 0x88F7 0x0180C200000E seq s.ownVlan v tag :: s.outbox ∧
      (s.ringMode ≠ 1 → tag = none ∧ t.time.hsrSeq = s.time.hsrSeq) ∧
      (s.ringMode = 1 → t.time.hsrSeq = s.time.hsrSeq + 1 ∧ ∃ x, tag = some { path := p, seq := s.time.hsrSeq, lsdu := x }) := by
  obtain ⟨tag, hout, hplain, hring⟩ := State.ringOwn_one (s := (s.draw (2 ^ 32)).2) (p := p) (etherType := ptpType)
    (dst := ptpPeerMac) (seq := fun _ => seq) (corr := (s.draw (2 ^ 32)).1)
  exact ⟨_, (s.draw (2 ^ 32)).1, tag, execPdelayReq_of_up hup hsrc, State.draw_lt (by decide),
    ((s.draw_sameBut _).mono (by simp)).trans (State.ringOwn_sameBut _), hout, hplain, hring⟩

/-! ## The timer -/

/-- The next request of port `p` noted with its departure `t1`. -/
def State.noteRequest (t1 : Int) (s : State) (p : Nat) : State :=
  s.modRing p fun x => { x with pdelay := { seq := x.pdelay.seq + 1, t1 := some t1, resp := none } }

/-- The requests of all ports that are up noted. -/
def State.requestsNoted (s : State) : State :=
  ([0, 1].filter s.ringUp).foldl (State.noteRequest ((s.time.t : Nat) : Int)) s

theorem execPdelayTimer_eq : exec .pdelayTimer s = .next (s.requestsNoted.ringOwn ([0, 1].filter s.ringUp) ptpType
    ptpPeerMac (fun p => (s.requestsNoted.ringPort p).pdelay.seq.toNat) 0) := rfl

theorem execPdelayTimer_of_down (h0 : s.ringUp 0 = false) (h1 : s.ringUp 1 = false) : exec .pdelayTimer s = .next s := by
  have hnone : [0, 1].filter s.ringUp = [] := by simp [h0, h1]
  rw [execPdelayTimer_eq, State.requestsNoted, hnone, State.ringOwn_eq]
  simp

/-- The device's own frames change no port. -/
theorem State.ringOwn_ports (ps : List Nat) (etherType dst : Nat) (seq : Nat → Nat) (corr : Int) :
    (s.ringOwn ps etherType dst seq corr).time.ports = s.time.ports := by
  have hframes (tagged : Bool) (n : W16) : ((ps.foldl (State.ownFrame etherType dst seq corr tagged n) s).time).ports =
      s.time.ports :=
    foldl_keep (fun u : State => u.time.ports) _ (fun _ _ => congrArg TimeState.ports State.ownFrame_time) ps s
  rw [State.ringOwn_eq]
  dsimp only
  split
  · exact hframes _ _
  · exact hframes _ _

/-- Each port that is up has sent its next request. -/
theorem State.requestsNoted_port (hp : p < 2) (hup : s.ringUp p = true) :
    (s.requestsNoted.ringPort p).pdelay = { seq := (s.ringPort p).pdelay.seq + 1, t1 := some (s.time.t : Int), resp := none } := by
  have hmem : p ∈ [0, 1].filter s.ringUp := List.mem_filter.2 ⟨by simp; omega, hup⟩
  have hnodup : ([0, 1].filter s.ringUp).Nodup := List.Nodup.filter _ (by decide)
  exact foldl_once (P := fun u : State => (u.ringPort p).pdelay.seq = (s.ringPort p).pdelay.seq)
    (Q := fun u => (u.ringPort p).pdelay =
      { seq := (s.ringPort p).pdelay.seq + 1, t1 := some (s.time.t : Int), resp := none })
    (fun u q hq h => by rwa [State.noteRequest, State.ringPort_modRing_other (Ne.symm hq)])
    (fun u h => by rw [State.noteRequest, State.ringPort_modRing_same hp, h])
    (fun u q hq h => by rwa [State.noteRequest, State.ringPort_modRing_other (Ne.symm hq)]) hnodup hmem rfl

theorem execPdelayTimer_of_up (hp : p < 2) (hup : s.ringUp p = true) : ∃ t, exec .pdelayTimer s = .next t ∧
    SameBut [.time, .outbox, .freeCtr] s t ∧
    (t.ringPort p).pdelay = { seq := (s.ringPort p).pdelay.seq + 1, t1 := some (s.time.t : Int), resp := none } := by
  refine ⟨_, execPdelayTimer_eq, ?_, ?_⟩
  · exact (SameBut.foldl (fun u q => (u.modRing_sameBut q _).mono (by simp)) _ s).trans (State.ringOwn_sameBut _)
  · exact (congrArg (fun v => (nth ({} : RingPort) v p).pdelay) (State.ringOwn_ports _ _ _ _ _)).trans
      (State.requestsNoted_port hp hup)

/-! ## Responses -/

theorem execPdelayResp_of_down (h : s.ringUp p = false) : exec (.pdelayResp p m) s = .next s :=
  congrArg Host.Outcome.next (if_pos (by rw [h]; rfl))

/-- A response to no request of the port, or a Follow_Up of no response, changes nothing. -/
theorem execPdelayResp_of_unasked (h : (s.ringPort p).pdelay.t1 = none ∨ (s.ringPort p).pdelay.seq ≠ m.seq ∨
      m.followUp = true ∧ (s.ringPort p).pdelay.resp = none) : exec (.pdelayResp p m) s = .next s := by
  obtain hup | hup := Bool.eq_false_or_eq_true (s.ringUp p) |>.symm
  · exact execPdelayResp_of_down hup
  refine congrArg Host.Outcome.next ((if_neg (by rw [hup]; decide)).trans ?_)
  dsimp only
  cases ht : (s.ringPort p).pdelay.t1 with
  | none => rfl
  | some t1 =>
    obtain h | h | ⟨hfollow, h⟩ := h
    · exact absurd (ht.symm.trans h) (Option.some_ne_none t1)
    · exact if_pos h
    · dsimp only
      rw [if_pos hfollow, h, ite_self]

section
variable {t1 : Int}

/-- A one-step response (R370). -/
theorem execPdelayResp_oneStep (hp : p < 2) (hup : s.ringUp p = true) (ht : (s.ringPort p).pdelay.t1 = some t1)
    (hseq : (s.ringPort p).pdelay.seq = m.seq) (hfollow : m.followUp = false) (hstep : m.twoStep = false) :
    ∃ t, exec (.pdelayResp p m) s = .next t ∧ SameBut [.time] s t ∧
      (t.ringPort p).meanDelay = max 0 (((((s.time.t + m.sub : Nat) : Int) - t1) - m.correction) / 2) ∧
      (t.ringPort p).pdelay.t1 = none := by
  refine ⟨s.modRing p fun y => { y with
    meanDelay := max 0 (((((s.time.t + m.sub : Nat) : Int) - t1) - m.correction) / 2)
    pdelay := { y.pdelay with t1 := none, resp := none } }, ?_, s.modRing_sameBut p _, ?_, ?_⟩
  · refine congrArg Host.Outcome.next ((if_neg (by rw [hup]; decide)).trans ?_)
    dsimp only
    rw [ht]
    exact (if_neg (not_not.2 hseq)).trans ((if_neg (by rw [hfollow]; decide)).trans (if_neg (by rw [hstep]; decide)))
  · rw [State.ringPort_modRing_same hp]
  · rw [State.ringPort_modRing_same hp]

/-- A two-step response waits for its Follow_Up (R370). -/
theorem execPdelayResp_twoStep (hp : p < 2) (hup : s.ringUp p = true) (ht : (s.ringPort p).pdelay.t1 = some t1)
    (hseq : (s.ringPort p).pdelay.seq = m.seq) (hfollow : m.followUp = false) (hstep : m.twoStep = true) :
    ∃ t, exec (.pdelayResp p m) s = .next t ∧ SameBut [.time] s t ∧
      (t.ringPort p).pdelay.resp = some (((s.time.t + m.sub : Nat) : Int), m.origin - m.correction) ∧
      (t.ringPort p).meanDelay = (s.ringPort p).meanDelay := by
  refine ⟨s.modRing p fun y => { y with
    pdelay := { y.pdelay with resp := some (((s.time.t + m.sub : Nat) : Int), m.origin - m.correction) } }, ?_,
    s.modRing_sameBut p _, ?_, ?_⟩
  · refine congrArg Host.Outcome.next ((if_neg (by rw [hup]; decide)).trans ?_)
    dsimp only
    rw [ht]
    exact (if_neg (not_not.2 hseq)).trans ((if_neg (by rw [hfollow]; decide)).trans (if_pos hstep))
  · rw [State.ringPort_modRing_same hp]
  · rw [State.ringPort_modRing_same hp]

/-- The Follow_Up of a response (R370). -/
theorem execPdelayResp_followUp {r4 r2 : Int} (hp : p < 2) (hup : s.ringUp p = true)
    (ht : (s.ringPort p).pdelay.t1 = some t1) (hseq : (s.ringPort p).pdelay.seq = m.seq) (hfollow : m.followUp = true)
    (hresp : (s.ringPort p).pdelay.resp = some (r4, r2)) :
    ∃ t, exec (.pdelayResp p m) s = .next t ∧ SameBut [.time] s t ∧
      (t.ringPort p).meanDelay = max 0 (((r4 - t1) - (m.origin + m.correction - r2)) / 2) := by
  refine ⟨s.modRing p fun y => { y with
    meanDelay := max 0 (((r4 - t1) - (m.origin + m.correction - r2)) / 2)
    pdelay := { y.pdelay with t1 := none, resp := none } }, ?_, s.modRing_sameBut p _, ?_⟩
  · refine congrArg Host.Outcome.next ((if_neg (by rw [hup]; decide)).trans ?_)
    dsimp only
    rw [ht, hresp]
    exact (if_neg (not_not.2 hseq)).trans (if_pos hfollow)
  · rw [State.ringPort_modRing_same hp]

end

end

/-- Settles O50: an Announce by what it is to the domain's best one, a loss by whether the domain is the selected one,
and a response by the request of its port. -/
theorem domainsAreLostAndPathDelaysMeasured : Obligations.DomainsAreLostAndPathDelaysMeasured := by
  refine ⟨fun s p m a => execAnnounce_of_down, fun s p m a _ => execAnnounce_of_up, fun s d hd => ⟨?_, ?_, ?_, ?_⟩,
    fun s => ⟨fun r => execHoldoverExpiry_of_due, execHoldoverExpiry_of_other⟩, fun s p seq src m h => ?_,
    fun s => execPdelayTimer_of_down, fun s p hp hup => ⟨?_, ?_, ?_, fun m t1 ht hseq => ⟨?_, ?_, ?_⟩⟩⟩
  · exact execAnnounceTimeout_of_due hd
  · exact execAnnounceTimeout_of_not_due
  · exact execDomainLost_of_stale hd
  · exact execDomainLost_of_fresh
  · exact ⟨execPdelayReq_of_passed h, execPdelayResp_of_down⟩
  · exact fun seq src => execPdelayReq_answered hup
  · exact execPdelayTimer_of_up hp hup
  · exact fun m => execPdelayResp_of_unasked
  · exact execPdelayResp_oneStep hp hup ht hseq
  · exact execPdelayResp_twoStep hp hup ht hseq
  · exact fun r4 r2 => execPdelayResp_followUp hp hup ht hseq

end Sys2Proof.Machine
end

section
/-!
O40: refresh, scrub passes, frequency switches, check values and memory tests (R394–R409).
-/

namespace Sys2Proof.Machine

/-! ## Refresh and polls (R394, R395) -/

section
variable {s : State} {b : Bool}

theorem execRefresh_of_off (h : s.power.core = false ∨ s.mem.trained = false) : exec .refresh s = .next s :=
  congrArg Host.Outcome.next (if_pos (by obtain h | h := h <;> simp [h]))

theorem execMr4Poll_of_off (h : s.power.core = false ∨ s.mem.trained = false) : exec (.mr4Poll b) s = .next s :=
  congrArg Host.Outcome.next (if_pos (by obtain h | h := h <;> simp [h]))

theorem execRefresh_counts (hcore : s.power.core = true) (htrained : s.mem.trained = true) :
    ∃ t, exec .refresh s = .next t ∧ t.mem.refreshes = stat s.mem.refreshes 1 ∧
      (s.mem.nrK = 0 → t.mem.nr = s.mem.nr) ∧ SameBut [.mem, .freeCtr] s t := by
  refine ⟨_, congrArg Host.Outcome.next (if_neg (by rw [hcore, htrained]; decide)), rfl, fun hk => ?_, ?_⟩
  · have hpairs : (if s.mem.nrK = 0 then 0 else (s.draw 65536).1) = 0 := if_pos hk
    refine (congrArg (stat s.mem.nr) hpairs).trans ?_
    simp [stat]
  · exact (((s.draw_sameBut 65536).mono (by simp)).trans ((State.draw_sameBut (2 ^ 32) _).mono (by simp))).trans
      ((sameBut_mem _ _).mono (by simp))

theorem execMr4Poll_sets (hcore : s.power.core = true) (htrained : s.mem.trained = true) :
    ∃ t, exec (.mr4Poll b) s = .next t ∧ SameBut [.mem] s t ∧ t.mem = { s.mem with
      derate := b, derateCnt := if b = true ∧ s.mem.derate = false then s.mem.derateCnt.inc else s.mem.derateCnt } := by
  refine ⟨_, congrArg Host.Outcome.next (if_neg (by rw [hcore, htrained]; decide)), sameBut_mem s _, ?_⟩
  simp

/-! ## Scrub passes (R398, R399) -/

theorem State.dramError_counts (l : LineUe) (s : State) : ∃ n, (s.dramError l).mem =
    { s.mem with
      dramUe := s.mem.dramUe.inc, ueValid := true, ueChannel := l.channel, ueAddr := BitVec.ofNat 32 l.addr
      poison := if s.mem.poison.any (fun p => p.1 == l.channel && p.2 == l.addr) then s.mem.poison
        else (l.channel, l.addr) :: s.mem.poison
      crcBytes := n } :=
  State.record_mem 0x00B1 .control [] _

/-- The lines of a pass counted and recorded one after another. -/
def State.linesLost (ues : List LineUe) (s : State) : State := ues.foldl (fun s l => s.dramError l) s

theorem State.linesLost_sameBut (ues : List LineUe) (s : State) : SameBut [.mem, .tail] s (s.linesLost ues) :=
  SameBut.foldl (fun t l => t.dramError_sameBut l) ues s

theorem State.linesLost_dramUe (ues : List LineUe) (s : State) :
    (s.linesLost ues).mem.dramUe = ues.foldl (fun c _ => c.inc) s.mem.dramUe := by
  induction ues generalizing s with
  | nil => rfl
  | cons l ues ih => exact (ih _).trans (congrArg (fun c => ues.foldl (fun c _ => Counter.inc c) c) (s.dramError_mem l).1)

/-- What no line error touches, a pass's lines leave alone. -/
theorem State.linesLost_keep {α : Type} {g : Memory → α} (h : ∀ (s : State) l, g (s.dramError l).mem = g s.mem)
    (ues : List LineUe) (s : State) : g (s.linesLost ues).mem = g s.mem :=
  foldl_keep (fun t : State => g t.mem) _ (fun t l => h t l) ues s

theorem State.dramError_keep {α : Type} {g : Memory → α}
    (h : ∀ (m : Memory) c n a p u v,
      g { m with dramUe := u, ueValid := v, ueChannel := c, ueAddr := a, poison := p, crcBytes := n } = g m)
    (l : LineUe) (s : State) : g (s.dramError l).mem = g s.mem := by
  obtain ⟨n, hn⟩ := s.dramError_counts l
  rw [hn]
  exact h _ _ _ _ _ _ _

/-- The last line of a pass is the one that the registers show. -/
theorem State.linesLost_last (ues : List LineUe) (s : State) : ∀ l ∈ ues.getLast?,
    (s.linesLost ues).mem.ueValid = true ∧ (s.linesLost ues).mem.ueChannel = l.channel ∧
      (s.linesLost ues).mem.ueAddr = BitVec.ofNat 32 l.addr := by
  intro l hl
  obtain ⟨init, rfl⟩ := List.getLast?_eq_some_iff.1 hl
  obtain ⟨n, hn⟩ := (s.linesLost init).dramError_counts l
  rw [State.linesLost, List.foldl_concat]
  exact hn ▸ ⟨rfl, rfl, rfl⟩

theorem execDramScrubPass_of_idle {k : Nat} {ues : List LineUe} (h : s.power.core = false ∨ s.mem.scrubRun = false) :
    exec (.dramScrubPass k ues) s = .next s :=
  congrArg Host.Outcome.next (if_pos (by obtain h | h := h <;> simp [h]))

theorem execDramScrubPass_ends (k : Nat) (ues : List LineUe) (hcore : s.power.core = true) (hrun : s.mem.scrubRun = true) :
    ∃ t, exec (.dramScrubPass k ues) s = .next t ∧ SameBut [.mem, .tail] s t ∧
      t.mem.dramCe = s.mem.dramCe.add k ∧ t.mem.dramPass = s.mem.dramPass.inc ∧ t.mem.scrubRun = false ∧
      t.mem.passAge = some 0 ∧ t.mem.dramUe = ues.foldl (fun c _ => c.inc) s.mem.dramUe ∧
      ∀ l ∈ ues.getLast?, t.mem.ueValid = true ∧ t.mem.ueChannel = l.channel ∧ t.mem.ueAddr = BitVec.ofNat 32 l.addr := by
  refine ⟨_, congrArg Host.Outcome.next (if_neg (by rw [hcore, hrun]; decide)),
    (s.linesLost_sameBut ues).trans ((sameBut_mem _ _).mono (by simp)), ?_, ?_, rfl, rfl, s.linesLost_dramUe ues,
    s.linesLost_last ues⟩
  · exact congrArg (fun c : Counter => c.add k) (State.linesLost_keep (g := Memory.dramCe)
      (fun t l => t.dramError_keep (fun _ _ _ _ _ _ _ => rfl) l) ues s)
  · exact congrArg Counter.inc (State.linesLost_keep (g := Memory.dramPass)
      (fun t l => t.dramError_keep (fun _ _ _ _ _ _ _ => rfl) l) ues s)

/-! ## Frequency switches (R400) -/

theorem execFspSwitchDown_starts (hfsp : s.mem.fsp = .atRate) (hidle : s.planes.data = .idle) (hcore : s.power.core = true)
    (hon : s.mem.fspOn = true) (h : 4000000 ≤ s.mem.idleFor + 1) : ∃ t, exec .fspSwitchDown s = .next t ∧ SameBut [.mem] s t ∧
      t.mem = { s.mem with
        fsp := .switching, fspTo := .low, selfRefresh := s.mem.selfRefresh ||| 3, fspCnt := s.mem.fspCnt.inc } :=
  ⟨s.startFsp .low, congrArg Host.Outcome.next (if_pos ⟨hfsp, hidle, hcore, hon, h⟩), sameBut_mem s _, rfl⟩

theorem execFspSwitchDown_of_not_due (h : s.mem.fsp ≠ .atRate ∨ s.planes.data ≠ .idle ∨ s.power.core = false ∨
      s.mem.fspOn = false ∨ s.mem.idleFor + 1 < 4000000) : exec .fspSwitchDown s = .next s := by
  refine congrArg Host.Outcome.next (if_neg fun ⟨hfsp, hidle, hcore, hon, hdue⟩ => ?_)
  obtain h | h | h | h | h := h
  · exact h hfsp
  · exact h hidle
  · exact Bool.noConfusion (h.symm.trans hcore)
  · exact Bool.noConfusion (h.symm.trans hon)
  · exact absurd hdue (not_le.2 h)

/-- The memory with the switch of channels 0 and 1 over. -/
def Memory.switched (m : Memory) : Memory :=
  { m with fsp := m.fspTo, fspUp := false, selfRefresh := m.selfRefresh &&& ~~~3 }

/-- A switch ends, and one back up starts where it is wanted. -/
theorem State.fspDone_eq (h : s.mem.fsp = .switching) : s.fspDone =
    if s.mem.fspUp = true ∧ s.planes.data = .idle then ({ s with mem := s.mem.switched } : State).fspUp
    else { s with mem := s.mem.switched } :=
  if_neg (not_not.2 h)

theorem State.fspDone_mem (h : s.mem.fsp = .switching) : s.fspDone.mem =
    if s.mem.fspUp = true ∧ s.planes.data = .idle ∧ s.mem.fspTo = .low then { s.mem.switched with
      fsp := .switching, fspTo := .atRate, selfRefresh := s.mem.switched.selfRefresh ||| 3, fspCnt := s.mem.fspCnt.inc }
    else s.mem.switched := by
  rw [State.fspDone_eq h]
  by_cases hup : s.mem.fspUp = true ∧ s.planes.data = .idle
  · rw [if_pos hup]
    by_cases hlow : s.mem.fspTo = .low
    · rw [if_pos ⟨hup.1, hup.2, hlow⟩]
      exact congrArg State.mem (if_pos hlow)
    · rw [if_neg fun hall => hlow hall.2.2]
      exact congrArg State.mem ((if_neg hlow).trans (if_neg fun hagain => hlow hagain.2))
  · rw [if_neg hup, if_neg fun hall => hup ⟨hall.1, hall.2.1⟩]

theorem State.fspDone_sameBut : SameBut [.mem] s s.fspDone :=
  .ite (.refl _ s) (.ite ((sameBut_mem s _).trans (State.fspUp_sameBut _)) (sameBut_mem s _))

theorem execFspSwitchDone_of_other (h : s.mem.fsp ≠ .switching) : exec .fspSwitchDone s = .next s :=
  congrArg Host.Outcome.next (if_pos h)

theorem execFspSwitchDone_ends (h : s.mem.fsp = .switching) (hwait : s.job.waitingOpen = none) :
    ∃ t, exec .fspSwitchDone s = .next t ∧ SameBut [.mem] s t ∧ t.mem =
      if s.mem.fspUp = true ∧ s.planes.data = .idle ∧ s.mem.fspTo = .low then { s.mem.switched with
        fsp := .switching, fspTo := .atRate, selfRefresh := s.mem.switched.selfRefresh ||| 3, fspCnt := s.mem.fspCnt.inc }
      else s.mem.switched := by
  have hjob : s.fspDone.job = s.job := State.fspDone_sameBut .job (by simp)
  have hopen : s.fspDone.tryOpen = s.fspDone := State.tryOpen_of_none (by rw [hjob, hwait])
  exact ⟨s.fspDone, congrArg Host.Outcome.next ((if_neg (not_not.2 h)).trans hopen), State.fspDone_sameBut, State.fspDone_mem h⟩

theorem execFspSwitchDone_opens (h : s.mem.fsp = .switching) {f : Nat} {l : Layer} (hwait : s.job.waitingOpen = some (f, l))
    (htests : s.mem.tests = []) (hto : s.mem.fspTo = .atRate) : exec .fspSwitchDone s =
      .next (({ s with mem := s.mem.switched, job := { s.job with waitingOpen := none } } : State).openLayer f l) := by
  have hdone : s.fspDone = { s with mem := s.mem.switched } := by
    have hup : ({ s with mem := s.mem.switched } : State).fspUp = { s with mem := s.mem.switched } := by
      simp [State.fspUp, Memory.switched, hto]
    rw [State.fspDone_eq h, hup, ite_self]
  refine congrArg Host.Outcome.next ((if_neg (not_not.2 h)).trans ?_)
  rw [hdone]
  exact State.tryOpen_of_ready hwait htests hto

/-! ## Check values (R405–R408) -/

theorem execDiagCrc_checks {e : Entry} {t : State} {f : Flight} (h : Dispatched 0x0F01 e s f t) (hflags : e.u 0x19 1 ≤ 3)
    (hz : (e.zeroFrom 0x1A 6).1 = false) (hz' : (e.zeroFrom 0x2C 4).1 = false) (hz'' : (e.zeroFrom 0x38 8).1 = false)
    (halg : e.u 0x18 1 ≤ 2) (hbase : e.u 0x18 1 < 2 → (BitVec.ofNat 64 (e.u 0x30 8)).toNat < 2 ^ 32) (hlen : e.dataLen ≠ 0)
    (hinline : e.inline = true → e.dataLen ≤ 1344) (hunit : ∃ i, i < 4 ∧ nth 0 t.mem.crcOwner (4 + i) = 0) :
    exec (.diagCrc e) s = .next
      (let base := BitVec.ofNat 64 (e.u 0x30 8)
       let seed := if (e.u 0x19 1).testBit 1 then base
         else checkSeed (e.u 0x18 1) base (BitVec.ofNat 64 (e.u 0x20 8)) (BitVec.ofNat 32 (e.u 0x28 4))
       let reg := checkReg (e.u 0x18 1) seed (e.data.take e.dataLen)
       ({ t with mem := { t.mem with crcBytes := stat t.mem.crcBytes e.dataLen } } : State).ok f
        (if e.u 0x18 1 = 2 ∨ (e.u 0x19 1).testBit 0 then reg else reg ^^^ 0xFFFFFFFF).toNat seed.toNat []) := by
  refine (command_of_dispatched h _).trans (congrArg Host.Outcome.next (checked_of_none ?_ _ t))
  have hfree : ((List.range 4).all fun i => nth 0 t.mem.crcOwner (4 + i) != 0) = false := by
    obtain ⟨i, hi, h0⟩ := hunit
    exact List.all_eq_false.2 ⟨i, List.mem_range.2 hi, by rw [h0]; decide⟩
  have hbad : (decide (e.u 0x18 1 < 2) && decide (2 ^ 32 ≤ (BitVec.ofNat 64 (e.u 0x30 8)).toNat)) = false := by
    rw [Bool.and_eq_false_iff, decide_eq_false_iff_not, decide_eq_false_iff_not]
    by_cases hlt : e.u 0x18 1 < 2
    · exact .inr (not_le.2 (hbase hlt))
    · exact .inl hlt
  have hsize : (decide (e.dataLen = 0) || (e.inline && decide (1344 < e.dataLen))) = false := by
    cases hi : e.inline
    · simp [hlen]
    · simp [hlen, hinline hi]
  rw [firstBad_cons_of_pass (decide_eq_false (not_lt.2 hflags)), firstBad_cons_of_pass hz, firstBad_cons_of_pass hz',
    firstBad_cons_of_pass hz'', firstBad_cons_of_pass (decide_eq_false (not_lt.2 halg)), firstBad_cons_of_pass hbad,
    firstBad_cons_of_pass hsize, firstBad_cons_of_pass hfree]
  rfl

/-! ## Memory tests (R409) -/

theorem State.wipeAreas_sameBut (w : W32) (s : State) : SameBut [.camera, .engines] s (s.wipeAreas w) := by
  have hcam (x : Camera) : SameBut [.camera, .engines] s { s with camera := x } := (sameBut_camera s x).mono (by simp)
  exact .ite ((hcam _).trans ((sameBut_engines _ _).mono (by simp))) (hcam _)

theorem execDiagMemTest_starts {e : Entry} {t : State} {f : Flight} (h : Dispatched 0x0F40 e s f t) (hlo : 1 ≤ e.u 0x18 1)
    (hhi : e.u 0x18 1 ≤ 31) (hpattern : e.u 0x19 1 ≤ 1) (hz : allZero (e.bytes 0x1A 38) = true) (hbuild : t.inBuild = false) :
    ∃ u, exec (.diagMemTest e) s = .next u ∧ SameBut [.host, .camera, .engines, .mem] t u ∧
      u.mem = { t.mem with tests := t.mem.tests ++ [{
        flight := f.id, targets := BitVec.ofNat 32 (e.u 0x18 1), pattern := e.u 0x19 1 }] } := by
  have hwiped : SameBut [.host, .camera, .engines] t ((t.launch f).wipeAreas (BitVec.ofNat 32 (e.u 0x18 1))) :=
    ((t.launch_sameBut f).mono (by simp)).trans ((State.wipeAreas_sameBut _ _).mono (by simp))
  have hmem : ((t.launch f).wipeAreas (BitVec.ofNat 32 (e.u 0x18 1))).mem = t.mem := hwiped .mem (by simp)
  refine ⟨_, (command_of_dispatched h _).trans (congrArg Host.Outcome.next (checked_of_none ?_ _ t)),
    (hwiped.mono (by simp)).trans ((sameBut_mem _ _).mono (by simp)), ?_⟩
  · have htargets : (decide (e.u 0x18 1 = 0) || decide (31 < e.u 0x18 1)) = false := by
      simp
      omega
    rw [firstBad_cons_of_pass htargets, firstBad_cons_of_pass (decide_eq_false (not_lt.2 hpattern)),
      firstBad_cons_of_pass (by rw [hz]; rfl), firstBad_cons_of_pass hbuild]
    rfl
  · dsimp only
    rw [hmem]

end

/-- Settles O40: each event by whether the unit runs; a scrub pass by its lines, the last of which the registers show. -/
theorem memoryIsRefreshedScrubbedAndChecked : Obligations.MemoryIsRefreshedScrubbedAndChecked := by
  refine ⟨fun s hcore htrained => ⟨execRefresh_counts hcore htrained, fun b => execMr4Poll_sets hcore htrained⟩,
    fun s b h => ⟨execRefresh_of_off h, execMr4Poll_of_off h⟩, fun s k ues => execDramScrubPass_ends k ues,
    fun s k ues => execDramScrubPass_of_idle, fun s => ⟨execFspSwitchDown_starts, execFspSwitchDown_of_not_due⟩,
    fun s => ⟨execFspSwitchDone_of_other, fun h => ⟨execFspSwitchDone_ends h, fun f l hwait htests hto =>
      execFspSwitchDone_opens h hwait htests hto⟩⟩, ?_, fun e s t f => execDiagMemTest_starts⟩
  rintro e s t f _ _ _ rfl rfl rfl h hflags hz hz' hz'' halg hbase hlen hinline hunit
  exact ⟨_, sameBut_mem t _, rfl, execDiagCrc_checks h hflags hz hz' hz'' halg hbase hlen hinline hunit⟩

end Sys2Proof.Machine
end

section
/-!
O51: the display link and its frames (R412–R420).
-/

namespace Sys2Proof.Machine

/-! ## A frame start (R415, R419) -/

section
variable {d : Display} {ns : Nat}

/-- A frame starts from what adoption and commit leave to it. -/
theorem Display.startFrame_cases : ∃ live bg next, d.startFrame ns = { d with
    live := live, background := bg, bgNext := next, commit := false
    frame := d.frame + 1, frameAt := ns, running := true, video := true, quiet := (d.startFrame ns).quiet
    applied := d.commit, touched := false, edges := 0, lost := [], static_ := (d.startFrame ns).static_ } ∧
    (d.bgNext = none → live = if d.commit = true then d.shadow else d.live) := by
  cases hnext : d.bgNext with
  | none =>
    cases hcommit : d.commit
    · exact ⟨d.live, d.background, none, by simp [Display.startFrame, hnext, hcommit], by simp⟩
    · exact ⟨d.shadow, d.background, none, by simp [Display.startFrame, hnext, hcommit], by simp⟩
  | some x =>
    cases hcommit : d.commit
    · exact ⟨{ d.live with staticDiv := x.1 }, x.2, none, by simp [Display.startFrame, hnext, hcommit], by simp⟩
    · exact ⟨d.shadow, x.2, none, by simp [Display.startFrame, hnext, hcommit], by simp⟩

theorem Display.startFrame_sets : (d.startFrame ns).frame = d.frame + 1 ∧ (d.startFrame ns).running = true ∧
    (d.startFrame ns).frameAt = ns ∧ (d.startFrame ns).commit = false := by
  obtain ⟨_, _, _, h, -⟩ := Display.startFrame_cases (d := d) (ns := ns)
  rw [h]
  exact ⟨rfl, rfl, rfl, rfl⟩

theorem Display.startFrame_live (hnext : d.bgNext = none) :
    (d.startFrame ns).live = if d.commit = true then d.shadow else d.live := by
  obtain ⟨_, _, _, h, hlive⟩ := Display.startFrame_cases (d := d) (ns := ns)
  rw [h]
  exact hlive hnext

theorem Display.startFrame_edge : (d.startFrame ns).lastEdge = d.lastEdge ∧ (d.startFrame ns).syncLost = d.syncLost ∧
    (d.startFrame ns).period = d.period := by
  obtain ⟨_, _, _, h, -⟩ := Display.startFrame_cases (d := d) (ns := ns)
  rw [h]
  exact ⟨rfl, rfl, rfl⟩

theorem Display.startFrame_counts : (d.startFrame ns).underrun = d.underrun ∧ (d.startFrame ns).syncMiss = d.syncMiss ∧
    (d.startFrame ns).backlight = d.backlight := by
  obtain ⟨_, _, _, h, -⟩ := Display.startFrame_cases (d := d) (ns := ns)
  rw [h]
  exact ⟨rfl, rfl, rfl⟩

/-! ## An accepted edge (R417, R419) -/

/-- The refresh is lowered: the edge is passed over. -/
def Display.lowered (d : Display) : Prop :=
  (d.static_ = true ∨ (d.running = false ∧ 2 ≤ d.passed)) ∧ d.maySlow = true ∧ d.commit = false ∧
    d.touched = false ∧ d.edges + 1 < d.live.staticDiv

theorem Display.lowered_iff : d.lowered ↔ ((d.static_ || (!d.running && decide (2 ≤ d.passed))) && d.maySlow && !d.commit &&
    !d.touched && decide (d.edges + 1 < d.live.staticDiv)) = true := by
  simp only [Display.lowered, Bool.and_eq_true, Bool.or_eq_true, Bool.not_eq_true', decide_eq_true_iff, and_assoc]

theorem Display.edgeFrame_of_lowered (h : d.lowered) : d.edgeFrame ns = { d with edges := d.edges + 1, static_ := true } :=
  if_pos (Display.lowered_iff.1 h)

theorem Display.edgeFrame_of_running (h : ¬ d.lowered) (hrun : d.running = true) :
    d.edgeFrame ns = { d with edgeWaits := true } :=
  (if_neg (Display.lowered_iff.not.1 h)).trans (if_pos hrun)

theorem Display.edgeFrame_of_free (h : ¬ d.lowered) (hrun : d.running = false) : d.edgeFrame ns = d.startFrame ns :=
  (if_neg (Display.lowered_iff.not.1 h)).trans (if_neg (by rw [hrun]; decide))

/-- No edge changes what the edges are measured by. -/
theorem Display.edgeFrame_edge : (d.edgeFrame ns).lastEdge = d.lastEdge ∧ (d.edgeFrame ns).syncLost = d.syncLost ∧
    (d.edgeFrame ns).period = d.period := by
  by_cases h : d.lowered
  · rw [Display.edgeFrame_of_lowered h]
    exact ⟨rfl, rfl, rfl⟩
  · cases hrun : d.running with
    | true =>
      rw [Display.edgeFrame_of_running h hrun]
      exact ⟨rfl, rfl, rfl⟩
    | false =>
      rw [Display.edgeFrame_of_free h hrun]
      exact Display.startFrame_edge

/-- An accepted edge noted. -/
def Display.edgeNoted (ns : Nat) (d : Display) : Display :=
  { d with period := d.lastEdge.elim d.period fun l => BitVec.ofNat 32 (ns - l), lastEdge := some ns, syncLost := false }

theorem Display.lowered_edgeNoted : (d.edgeNoted ns).lowered ↔ d.lowered := Iff.rfl

/-- The display after an accepted edge. -/
def Display.edgeTaken (ns : Nat) (d : Display) : Display :=
  if (d.edgeNoted ns).link = .active then (d.edgeNoted ns).edgeFrame ns else d.edgeNoted ns

theorem Display.edgeTaken_of_active (h : d.link = .active) : d.edgeTaken ns = (d.edgeNoted ns).edgeFrame ns := if_pos h

theorem Display.edgeTaken_of_inactive (h : d.link ≠ .active) : d.edgeTaken ns = d.edgeNoted ns := if_neg h

theorem Display.edgeTaken_edge : (d.edgeTaken ns).lastEdge = some ns ∧ (d.edgeTaken ns).syncLost = false ∧
    (d.edgeTaken ns).period = d.lastEdge.elim d.period fun l => BitVec.ofNat 32 (ns - l) := by
  obtain h | h : d.edgeTaken ns = _ ∨ d.edgeTaken ns = _ := ite_eq_or_eq _ _ _ <;> rw [h]
  · exact Display.edgeFrame_edge (d := d.edgeNoted ns)
  · exact ⟨rfl, rfl, rfl⟩

end

/-! ## Bring-up (R412) -/

section
variable {s : State}

/-- Bring-up has failed, with its record. -/
def State.linkFailed (s t : State) : Prop :=
  t.disp.link = .failed ∧ t.disp.video = false ∧ t.disp.running = false ∧ t.disp.trainFail = s.disp.trainFail.inc ∧
    SameBut [.disp, .mem, .tail] s t

theorem State.dispFail_failed : s.linkFailed s.dispFail := by
  have hrecord := State.record_sameBut 0x00C0 .control [] (s.modDisp fun d => { d.stopVideo with
    link := .failed, trainFail := d.trainFail.inc })
  have hdisp : s.dispFail.disp = { s.disp.stopVideo with link := .failed, trainFail := s.disp.trainFail.inc } :=
    hrecord .disp (by simp)
  rw [State.linkFailed, hdisp]
  exact ⟨rfl, rfl, rfl, rfl, ((sameBut_disp s _).mono (by simp)).trans (hrecord.mono (by simp))⟩

variable {lanes link : Nat} {a : Bool}

theorem execHpdAssert_of_none (h : s.display? = none) : exec (.hpdAssert lanes link a) s = .next s :=
  congrArg Host.Outcome.next (by rw [h])

section
variable {e : EphDisplay}

theorem execHpdAssert_of_other (h : s.display? = some e) (hlink : s.disp.link ≠ .awaitHpd) :
    exec (.hpdAssert lanes link a) s = .next s :=
  congrArg Host.Outcome.next (by rw [h]; exact if_pos hlink)

theorem execHpdAssert_trains (h : s.display? = some e) (hlink : s.disp.link = .awaitHpd) (hlanes : e.lanes ≤ lanes)
    (hrate : e.link ≤ link) :
    exec (.hpdAssert lanes link a) s = .next (s.modDisp fun d => { d with link := .training, asyncOk := a }) :=
  congrArg Host.Outcome.next (by
    rw [h]
    exact (if_neg (not_not.2 hlink)).trans (if_neg (not_or.2 ⟨not_lt.2 hlanes, not_lt.2 hrate⟩)))

theorem execHpdAssert_fails (h : s.display? = some e) (hlink : s.disp.link = .awaitHpd)
    (hless : lanes < e.lanes ∨ link < e.link) : exec (.hpdAssert lanes link a) s = .next s.dispFail :=
  congrArg Host.Outcome.next (by
    rw [h]
    exact (if_neg (not_not.2 hlink)).trans (if_pos hless))

end

theorem execHpdWaitTimeout_of_early (h : s.disp.link ≠ .awaitHpd ∨ s.time.t / 65536 + 250 < s.disp.waitFrom + 200000000) :
    exec .hpdWaitTimeout s = .next s :=
  congrArg Host.Outcome.next (if_neg fun ⟨hlink, hdue⟩ => h.elim (fun hno => hno hlink) fun hlt => absurd hdue (not_le.2 hlt))

theorem execHpdWaitTimeout_fails (hlink : s.disp.link = .awaitHpd) (h : s.disp.waitFrom + 200000000 ≤ s.time.t / 65536 + 250) :
    exec .hpdWaitTimeout s = .next s.dispFail := congrArg Host.Outcome.next (if_pos ⟨hlink, h⟩)

theorem execLinkTrainingDone_of_other {ok : Bool} (h : s.disp.link ≠ .training) : exec (.linkTrainingDone ok) s = .next s :=
  congrArg Host.Outcome.next (if_pos h)

theorem execLinkTrainingDone_fails (h : s.disp.link = .training) : exec (.linkTrainingDone false) s = .next s.dispFail :=
  congrArg Host.Outcome.next ((if_neg (not_not.2 h)).trans (if_neg Bool.false_ne_true))

theorem execLinkTrainingDone_good (h : s.disp.link = .training) :
    exec (.linkTrainingDone true) s = .next (s.modDisp fun d => { d with link := .active, frameAt := s.ns }) :=
  congrArg Host.Outcome.next ((if_neg (not_not.2 h)).trans (if_pos rfl))

theorem execHpdIrq_of_other {b : Bool} (h : s.disp.link ≠ .active ∨ b = false) : exec (.hpdIrq b) s = .next s :=
  congrArg Host.Outcome.next (if_neg fun ⟨hlink, hb⟩ => h.elim (fun hno => hno hlink) fun hf =>
    Bool.noConfusion (hf.symm.trans hb))

theorem execHpdIrq_retrains (h : s.disp.link = .active) :
    exec (.hpdIrq true) s = .next (s.modDisp fun d => { d.stopVideo with link := .training }) :=
  congrArg Host.Outcome.next (if_pos ⟨h, rfl⟩)

theorem execHpdLoss_of_other (htrain : s.disp.link ≠ .training) (hactive : s.disp.link ≠ .active)
    (hfailed : s.disp.link ≠ .failed) : exec .hpdLoss s = .next s :=
  congrArg Host.Outcome.next (if_neg fun h => h.elim htrain fun h => h.elim hactive hfailed)

theorem execHpdLoss_waits (h : s.disp.link = .training ∨ s.disp.link = .active ∨ s.disp.link = .failed) :
    exec .hpdLoss s = .next (s.modDisp (Display.awaits s.ns)) := congrArg Host.Outcome.next (if_pos h)

/-! ## Sync edges (R417, R418) -/

/-- The last edge lies less than `k` before `ns`. -/
theorem any_within_iff {o : Option Nat} {ns k : Nat} :
    (o.any fun l => decide (ns < l + k)) = true ↔ ∃ l, o = some l ∧ ns < l + k := by
  cases o <;> simp

variable {ns : Nat}

theorem execDispSyncEdge_of_off (h : s.display? = none ∨ s.power.core = false) : exec (.dispSyncEdge ns) s = .next s :=
  congrArg Host.Outcome.next (if_pos (by simpa using h))

section
variable {e : EphDisplay}

theorem execDispSyncEdge_missed (h : s.display? = some e) (hcore : s.power.core = true) {l : Nat}
    (hl : s.disp.lastEdge = some l) (hns : ns < l + 13333000) :
    exec (.dispSyncEdge ns) s = .next (s.modDisp fun d => { d with syncMiss := d.syncMiss.inc }) :=
  congrArg Host.Outcome.next ((if_neg (by simp [h, hcore])).trans (if_pos (any_within_iff.2 ⟨l, hl, hns⟩)))

theorem execDispSyncEdge_taken (h : s.display? = some e) (hcore : s.power.core = true)
    (hns : ∀ l, s.disp.lastEdge = some l → l + 13333000 ≤ ns) :
    exec (.dispSyncEdge ns) s = .next (s.modDisp (Display.edgeTaken ns)) :=
  congrArg Host.Outcome.next ((if_neg (by simp [h, hcore])).trans (if_neg fun hany => by
    obtain ⟨l, hl, hlt⟩ := any_within_iff.1 hany
    exact absurd (hns l hl) (not_le.2 hlt)))

/-- What an accepted edge does (R417–R419). -/
theorem execDispSyncEdge_accepted (h : s.display? = some e) (hcore : s.power.core = true)
    (hns : ∀ l, s.disp.lastEdge = some l → l + 13333000 ≤ ns) :
    ∃ t, exec (.dispSyncEdge ns) s = .next t ∧ SameBut [.disp] s t ∧
      t.disp.lastEdge = some ns ∧ t.disp.syncLost = false ∧
      (∀ l, s.disp.lastEdge = some l → t.disp.period = BitVec.ofNat 32 (ns - l)) ∧
      (s.disp.link ≠ .active → t.disp.frame = s.disp.frame ∧ t.disp.live = s.disp.live) ∧
      (s.disp.link = .active → s.disp.lowered → t.disp.frame = s.disp.frame ∧ t.disp.edges = s.disp.edges + 1 ∧
        t.disp.running = s.disp.running) ∧
      (s.disp.link = .active → ¬ s.disp.lowered → s.disp.running = true → t.disp.edgeWaits = true ∧
        t.disp.frame = s.disp.frame) ∧
      (s.disp.link = .active → ¬ s.disp.lowered → s.disp.running = false → t.disp.frame = s.disp.frame + 1 ∧
        t.disp.running = true ∧ t.disp.frameAt = ns ∧ t.disp.commit = false ∧
        (s.disp.bgNext = none → t.disp.live = if s.disp.commit = true then s.disp.shadow else s.disp.live)) := by
  obtain ⟨hedge, hlost, hperiod⟩ := Display.edgeTaken_edge (d := s.disp) (ns := ns)
  refine ⟨_, execDispSyncEdge_taken h hcore hns, sameBut_disp s _, hedge, hlost, fun l hl => ?_, fun hlink => ?_,
    fun hlink hlow => ?_, fun hlink hlow hrun => ?_, fun hlink hlow hrun => ?_⟩
  · exact hperiod.trans (by rw [hl]; rfl)
  · have heq : (s.modDisp (Display.edgeTaken ns)).disp = s.disp.edgeNoted ns := Display.edgeTaken_of_inactive hlink
    rw [heq]
    exact ⟨rfl, rfl⟩
  · have heq : (s.modDisp (Display.edgeTaken ns)).disp = { s.disp.edgeNoted ns with edges := s.disp.edges + 1, static_ := true } :=
      (Display.edgeTaken_of_active hlink).trans (Display.edgeFrame_of_lowered (Display.lowered_edgeNoted.2 hlow))
    rw [heq]
    exact ⟨rfl, rfl, rfl⟩
  · have heq : (s.modDisp (Display.edgeTaken ns)).disp = { s.disp.edgeNoted ns with edgeWaits := true } :=
      (Display.edgeTaken_of_active hlink).trans (Display.edgeFrame_of_running (Display.lowered_edgeNoted.not.2 hlow) hrun)
    rw [heq]
    exact ⟨rfl, rfl⟩
  · have heq : (s.modDisp (Display.edgeTaken ns)).disp = (s.disp.edgeNoted ns).startFrame ns :=
      (Display.edgeTaken_of_active hlink).trans (Display.edgeFrame_of_free (Display.lowered_edgeNoted.not.2 hlow) hrun)
    obtain ⟨hframe, hruns, hat, hcommit⟩ := Display.startFrame_sets (d := s.disp.edgeNoted ns) (ns := ns)
    rw [heq]
    exact ⟨hframe, hruns, hat, hcommit, fun hnext => Display.startFrame_live (d := s.disp.edgeNoted ns) hnext⟩

/-! ## Frames without an edge (R418) -/

theorem execSyncTimeout_of_none (h : s.display? = none) : exec (.syncTimeout ns) s = .next s :=
  congrArg Host.Outcome.next (by rw [h])

theorem execSyncTimeout_of_not_due (h : s.display? = some e) (hnot : s.disp.link ≠ .active ∨ s.disp.running = true ∨
      ns < s.disp.frameAt + (if s.disp.syncLost then 1000000000 / e.syncHz else 50000000) ∨
      (s.disp.syncLost = false ∧ ∃ l, s.disp.lastEdge = some l ∧ ns < l + 50000000)) :
    exec (.syncTimeout ns) s = .next s := by
  refine congrArg Host.Outcome.next ?_
  rw [h]
  by_cases hearly : s.disp.link ≠ .active ∨ s.disp.running = true ∨
      ns < s.disp.frameAt + (if s.disp.syncLost then 1000000000 / e.syncHz else 50000000)
  · exact if_pos hearly
  · obtain hno | hno | hno | ⟨hlost, l, hl, hlt⟩ := hnot
    · exact absurd (.inl hno) hearly
    · exact absurd (.inr (.inl hno)) hearly
    · exact absurd (.inr (.inr hno)) hearly
    · refine (if_neg hearly).trans (if_pos ?_)
      rw [hlost]
      exact any_within_iff.2 ⟨l, hl, hlt⟩

theorem execSyncTimeout_of_due (h : s.display? = some e) (hlink : s.disp.link = .active) (hrun : s.disp.running = false)
    (hdue : s.disp.frameAt + (if s.disp.syncLost then 1000000000 / e.syncHz else 50000000) ≤ ns)
    (hedge : s.disp.syncLost = false → ∀ l, s.disp.lastEdge = some l → l + 50000000 ≤ ns) :
    exec (.syncTimeout ns) s = .next { s with disp := (if s.disp.syncLost then s.disp
      else { s.disp with syncLost := true, syncMiss := s.disp.syncMiss.inc }).startFrame ns } := by
  refine congrArg Host.Outcome.next ?_
  rw [h]
  refine (if_neg ?_).trans (if_neg ?_)
  · rintro (hno | hno | hno)
    · exact hno hlink
    · exact Bool.noConfusion (hrun.symm.trans hno)
    · exact absurd hdue (not_le.2 hno)
  · rw [Bool.and_eq_true, Bool.not_eq_true']
    rintro ⟨hlost, hany⟩
    obtain ⟨l, hl, hlt⟩ := any_within_iff.1 hany
    exact absurd (hedge hlost l hl) (not_le.2 hlt)

theorem execSyncTimeout_loses (h : s.display? = some e) (hlink : s.disp.link = .active) (hrun : s.disp.running = false)
    (hlost : s.disp.syncLost = false) (hdue : s.disp.frameAt + 50000000 ≤ ns)
    (hedge : ∀ l, s.disp.lastEdge = some l → l + 50000000 ≤ ns) :
    ∃ t, exec (.syncTimeout ns) s = .next t ∧ SameBut [.disp] s t ∧ t.disp.syncLost = true ∧
      t.disp.syncMiss = s.disp.syncMiss.inc ∧ t.disp.frame = s.disp.frame + 1 ∧ t.disp.frameAt = ns := by
  have hexec := execSyncTimeout_of_due (ns := ns) h hlink hrun (by rw [hlost]; exact hdue) fun _ => hedge
  rw [if_neg (by rw [hlost]; decide)] at hexec
  exact ⟨_, hexec, sameBut_disp s _, Display.startFrame_edge.2.1, Display.startFrame_counts.2.1, Display.startFrame_sets.1,
    Display.startFrame_sets.2.2.1⟩

theorem execSyncTimeout_free (h : s.display? = some e) (hlink : s.disp.link = .active) (hrun : s.disp.running = false)
    (hlost : s.disp.syncLost = true) (hdue : s.disp.frameAt + 1000000000 / e.syncHz ≤ ns) :
    ∃ t, exec (.syncTimeout ns) s = .next t ∧ SameBut [.disp] s t ∧ t.disp.syncMiss = s.disp.syncMiss ∧
      t.disp.frame = s.disp.frame + 1 ∧ t.disp.frameAt = ns := by
  have hexec := execSyncTimeout_of_due (ns := ns) h hlink hrun (by rw [hlost]; exact hdue) fun hno =>
    Bool.noConfusion (hno.symm.trans hlost)
  rw [if_pos hlost] at hexec
  exact ⟨_, hexec, sameBut_disp s _, Display.startFrame_counts.2.1, Display.startFrame_sets.1, Display.startFrame_sets.2.2.1⟩

/-! ## The end of the active area (R412, R417, R420) -/

theorem execActiveAreaEnd_of_none (h : s.display? = none) : exec (.activeAreaEnd ns) s = .next s :=
  congrArg Host.Outcome.next (by rw [h])

theorem execActiveAreaEnd_of_dark (h : s.display? = some e) (hrun : s.disp.running = false) :
    exec (.activeAreaEnd ns) s = .next s :=
  congrArg Host.Outcome.next (by
    rw [h]
    exact if_pos (by rw [hrun]; rfl))

/-- The frame on the output has ended. -/
def State.frameEnded (e : EphDisplay) (s : State) : Display :=
  { s.disp with
    running := false, backlight := true, syncOver := s.underrun e
    underrun := if s.underrun e then s.disp.underrun.add e.height else s.disp.underrun }

/-- The display after the end of an active area. -/
def State.areaEnded (ns : Nat) (e : EphDisplay) (s : State) : Display :=
  if s.disp.edgeWaits then
    { (s.frameEnded e).startFrame ns with edgeWaits := false, slip := s.disp.slip.inc }
  else s.frameEnded e

theorem execActiveAreaEnd_of_running (h : s.display? = some e) (hrun : s.disp.running = true) :
    exec (.activeAreaEnd ns) s =
      .next ((s.send (.panel s.disp.frame (s.panelRows e))).modDisp fun _ => s.areaEnded ns e) := by
  refine congrArg Host.Outcome.next ?_
  rw [h]
  exact (if_neg (by rw [hrun]; decide)).trans rfl

/-- The end of an active area shows the frame, and starts the one that waits (R412, R417, R420). -/
theorem execActiveAreaEnd_shows (h : s.display? = some e) (hrun : s.disp.running = true) :
    ∃ t, exec (.activeAreaEnd ns) s = .next t ∧ SameBut [.disp, .outbox] s t ∧
      t.outbox = .panel s.disp.frame (s.panelRows e) :: s.outbox ∧ t.disp.backlight = true ∧
      t.disp.underrun = (if s.underrun e = true then s.disp.underrun.add e.height else s.disp.underrun) ∧
      (s.disp.edgeWaits = false → t.disp.running = false ∧ t.disp.frame = s.disp.frame ∧ t.disp.slip = s.disp.slip) ∧
      (s.disp.edgeWaits = true → t.disp.running = true ∧ t.disp.edgeWaits = false ∧ t.disp.frame = s.disp.frame + 1 ∧
        t.disp.slip = s.disp.slip.inc) := by
  obtain ⟨hunder, -, hlight⟩ := Display.startFrame_counts (d := s.frameEnded e) (ns := ns)
  refine ⟨_, execActiveAreaEnd_of_running h hrun,
    ((State.outbox_sameBut _ s).mono (by simp)).trans ((sameBut_disp _ _).mono (by simp)), rfl, ?_⟩
  cases hwait : s.disp.edgeWaits with
  | false =>
    have hdisp : s.areaEnded ns e = s.frameEnded e := if_neg (by rw [hwait]; decide)
    dsimp only [State.modDisp]
    rw [hdisp]
    exact ⟨rfl, rfl, fun _ => ⟨rfl, rfl, rfl⟩, Bool.noConfusion⟩
  | true =>
    have hdisp : s.areaEnded ns e = { (s.frameEnded e).startFrame ns with
        edgeWaits := false, slip := s.disp.slip.inc } := if_pos hwait
    obtain ⟨hframe, hruns, -, -⟩ := Display.startFrame_sets (d := s.frameEnded e) (ns := ns)
    dsimp only [State.modDisp]
    rw [hdisp]
    exact ⟨hlight, hunder, Bool.noConfusion, fun _ => ⟨hruns, rfl, hframe, rfl⟩⟩

end
end

/-- Settles O51: bring-up by the link's state, an edge by what the refresh and the frame on the output make of it. -/
theorem displayComesUpAndSendsFrames : Obligations.DisplayComesUpAndSendsFrames := by
  refine ⟨fun s lanes link ns a h => ⟨execHpdAssert_of_none h, execDispSyncEdge_of_off (.inl h), execSyncTimeout_of_none h,
      execActiveAreaEnd_of_none h⟩,
    fun s => ⟨execHpdWaitTimeout_of_early, fun ok => execLinkTrainingDone_of_other, fun b => execHpdIrq_of_other,
      execHpdLoss_of_other⟩, fun s e h => ⟨?_, ?_, ?_, ?_, ?_, ?_, ?_, ?_, ?_, ?_, ?_, ?_⟩⟩
  · exact fun lanes link a => execHpdAssert_of_other h
  · exact fun lanes link a hlink => ⟨fun hlanes hrate => ⟨_, execHpdAssert_trains h hlink hlanes hrate, sameBut_disp s _, rfl⟩,
      fun hless => ⟨_, execHpdAssert_fails h hlink hless, State.dispFail_failed⟩⟩
  · exact fun hlink hdue => ⟨_, execHpdWaitTimeout_fails hlink hdue, State.dispFail_failed⟩
  · exact fun hlink => ⟨⟨_, execLinkTrainingDone_fails hlink, State.dispFail_failed⟩,
      ⟨_, execLinkTrainingDone_good hlink, sameBut_disp s _, rfl⟩⟩
  · exact fun hlink => ⟨_, execHpdIrq_retrains hlink, sameBut_disp s _, rfl, rfl⟩
  · exact fun hlink => ⟨_, execHpdLoss_waits hlink, sameBut_disp s _, rfl, rfl, rfl⟩
  · exact fun ns hcore => execDispSyncEdge_of_off (.inr hcore)
  · exact fun ns hcore => ⟨fun ⟨l, hl, hns⟩ => ⟨_, execDispSyncEdge_missed h hcore hl hns, sameBut_disp s _, rfl⟩,
      execDispSyncEdge_accepted h hcore⟩
  · exact fun ns => execSyncTimeout_of_not_due h
  · exact fun ns hlink hrun => ⟨execSyncTimeout_loses h hlink hrun, execSyncTimeout_free h hlink hrun⟩
  · exact fun ns => execActiveAreaEnd_of_dark h
  · exact fun ns => execActiveAreaEnd_shows h

end Sys2Proof.Machine
end

section
/-!
The revert of an activation (R479): its steps, and what each of them leaves alone; for O52, O57 and O60.
-/

namespace Sys2Proof.Machine

/-! ## Parts of a revert -/

section
variable {s : State}

theorem State.extend_sameBut (n : Nat) (v : Digest) (s : State) : SameBut [.boot] s (s.extend n v) := sameBut_boot s _

theorem State.extend_mr_same {n : Nat} (hn : n < 8) (v : Digest) (s : State) :
    nth 0 (s.extend n v).boot.mr n = extendMr (nth 0 s.boot.mr n) v := nth_upd_same _ _ _ hn

theorem State.extend_mr_other {n k : Nat} (h : k ≠ n) (v : Digest) (s : State) :
    nth 0 (s.extend n v).boot.mr k = nth 0 s.boot.mr k := nth_upd_other _ _ _ h

theorem State.extendData_sameBut (d : BankDigests) (s : State) : SameBut [.boot] s (s.extendData d) :=
  SameBut.foldl (fun t _ => t.extend_sameBut 4 _) _ s

/-- The digests of the data-plane images go to MR4 alone (R467). -/
theorem State.extendData_boot (d : BankDigests) (s : State) :
    ∃ mr, (s.extendData d).boot = { s.boot with mr := mr } ∧ ∀ k, k ≠ 4 → nth 0 mr k = nth 0 s.boot.mr k := by
  refine List.foldlRecOn (motive := fun t : State => ∃ mr, t.boot = { s.boot with mr := mr } ∧
    ∀ k, k ≠ 4 → nth 0 mr k = nth 0 s.boot.mr k) _ _ ⟨s.boot.mr, rfl, fun _ _ => rfl⟩ ?_
  rintro t ⟨mr, hboot, hmr⟩ i -
  refine ⟨(t.extend 4 (d.images.getD (i + 2) 0)).boot.mr, ?_, fun k hk => ?_⟩
  · exact congrArg (fun b : Boot => { b with mr := (t.extend 4 (d.images.getD (i + 2) 0)).boot.mr }) hboot
  · exact (State.extend_mr_other hk _ t).trans ((congrArg (fun b : Boot => nth 0 b.mr k) hboot).trans (hmr k hk))

theorem State.revertSettled_sameBut (s : State) : SameBut [.boot] s s.revertSettled :=
  .ite (sameBut_boot s _) (.refl _ s)

/-- A management core that restarts keeps the revert from being over. -/
theorem State.revertSettled_of_restarting (h : s.planes.mgmt = .restarting) : s.revertSettled = s :=
  if_neg fun ⟨_, _, hno, _⟩ => hno h

/-- The data-plane images of the CONFIRMED bank are back, but for the end of the revert. -/
def State.imagesBack (d : BankDigests) (s : State) : State :=
  { s.extendData d with boot := { (s.extendData d).boot with
      dataBank := (s.extendData d).boot.confirmed, inForce := some d, revertPending := none } }

theorem State.revertData_eq (d : BankDigests) (s : State) : s.revertData d = (s.imagesBack d).revertSettled := rfl

theorem State.imagesBack_sameBut (d : BankDigests) (s : State) : SameBut [.boot] s (s.imagesBack d) :=
  (s.extendData_sameBut d).trans (sameBut_boot _ _)

theorem State.clearTrial_of_open (h : s.power.nvOpen = true) : s.clearTrial =
    { s.writeHeader fun h => { h with trial := none } with boot := { s.boot with trial := false, trialWaits := false } } :=
  if_pos h

theorem State.clearTrial_of_closed (h : s.power.nvOpen = false) :
    s.clearTrial = { s with boot := { s.boot with trialWaits := true } } := if_neg (by rw [h]; decide)

theorem State.clearTrial_sameBut (s : State) : SameBut [.boot, .flash] s s.clearTrial :=
  .ite (((s.writeHeader_sameBut _).mono (by simp)).trans ((sameBut_boot _ _).mono (by simp)))
    ((sameBut_boot s _).mono (by simp))

/-- TRIAL apart, clearing it leaves the boot registers. -/
theorem State.clearTrial_boot (s : State) :
    ∃ trial waits, s.clearTrial.boot = { s.boot with trial := trial, trialWaits := waits } := by
  cases h : s.power.nvOpen with
  | true =>
    rw [State.clearTrial_of_open h]
    exact ⟨false, false, rfl⟩
  | false =>
    rw [State.clearTrial_of_closed h]
    exact ⟨s.boot.trial, true, rfl⟩

/-! ## The steps of a revert -/

/-- The firmware of the CONFIRMED bank is measured anew (R467, R479). -/
def State.measuredBack (a : Activation) (s : State) : State :=
  ((s.extend 1 (a.old.images.getD 0 0)).extend 2 (a.old.images.getD 1 0)).extend 6 a.old.manifest

/-- The measurement registers, the boot registers and the management core go back. -/
def State.revertBegun (a : Activation) (s : State) : State :=
  let s := s.measuredBack a
  { s with
    boot := { s.boot with
      activation := none, updResult := 2, updState := 7, windowFor := none, ctlBank := s.boot.confirmed }
    planes := { s.planes with mgmt := .restarting } }

/-- TRIAL is cleared and the revert recorded. -/
def State.revertNoted (check : Nat) (s : State) : State := s.clearTrial.record 0x0101 .management (u32s [check])

/-- The control pair switches back where it has switched. -/
def State.revertPair (a : Activation) (s : State) : State :=
  if a.phase = .window ∧ s.planes.ctl = .running then s.beginTransit 0x0B08 else s.event 5 0x0B08 0

/-- The standby that did not synchronise has failed. -/
def State.revertStandby (a : Activation) (s : State) : State :=
  if a.phase = .control then { s with planes := { s.planes with standby := .failed } } else s

/-- The data-plane images go back, now or when the build lets them. -/
def State.revertImages (a : Activation) (s : State) : State :=
  if a.phase = .window ∧ ¬(s.planes.data = .idle ∨ s.job.ending) then
    { s with boot := { s.boot with revertPending := some a.old } }
  else s.revertData a.old

/-- The command that waits for the activation completes. -/
def State.revertReplied (a : Activation) (s : State) : State :=
  a.flight.elim s fun id => s.finishId id 0x0B08 0 0 true []

theorem State.revert_of_fails {a : Activation} {check : Nat} (h : s.boot.activation = some a)
    (hfails : healthFails a.phase check = true) : s.revert check =
      (((((s.revertBegun a).revertNoted check).revertPair a).revertStandby a).revertImages a).revertReplied a := by
  unfold State.revert
  rw [h]
  exact (if_neg (by rw [hfails]; decide)).trans rfl

theorem State.revert_of_passes {a : Activation} {check : Nat} (h : s.boot.activation = some a)
    (hpasses : healthFails a.phase check = false) : s.revert check = s := by
  unfold State.revert
  rw [h]
  exact if_pos (by rw [hpasses]; rfl)

theorem State.revert_of_none {check : Nat} (h : s.boot.activation = none) : s.revert check = s :=
  State.healthFail_of_no_activation check h

theorem healthFails_iff {phase : ActPhase} {check : Nat} : healthFails phase check = true ↔
    phase = .management ∧ check = 3 ∨ phase = .control ∧ check = 5 ∨ phase = .window ∧ check ≠ 5 := by
  cases phase <;> simp [healthFails]

/-! ## What a revert changes -/

theorem State.measuredBack_sameBut (a : Activation) (s : State) : SameBut [.boot] s (s.measuredBack a) :=
  ((s.extend_sameBut 1 _).trans (State.extend_sameBut 2 _ _)).trans (State.extend_sameBut 6 _ _)

theorem sameBut_boot_planes (s : State) (x : Boot) (y : Planes) :
    SameBut [.boot, .planes] s { s with boot := x, planes := y } :=
  ((sameBut_boot s x).mono (by simp)).trans ((sameBut_planes { s with boot := x } y).mono (by simp))

theorem State.revertBegun_sameBut (a : Activation) (s : State) : SameBut [.boot, .planes] s (s.revertBegun a) :=
  ((s.measuredBack_sameBut a).mono (by simp)).trans (sameBut_boot_planes (s.measuredBack a) _ _)

theorem State.revertNoted_sameBut (check : Nat) (s : State) : SameBut [.boot, .flash, .tail] s (s.revertNoted check) :=
  (s.clearTrial_sameBut.mono (by simp)).trans ((State.record_management_sameBut _ _ _).mono (by simp))

theorem State.revertPair_sameBut (a : Activation) (s : State) : SameBut [.planes, .host, .outbox] s (s.revertPair a) :=
  .ite ((sameBut_planes s _).mono (by simp)) ((s.event_sameBut _ _ _).mono (by simp))

theorem State.revertStandby_sameBut (a : Activation) (s : State) : SameBut [.planes] s (s.revertStandby a) :=
  .ite (sameBut_planes s _) (.refl _ s)

theorem State.revertImages_sameBut (a : Activation) (s : State) : SameBut [.boot] s (s.revertImages a) :=
  .ite (sameBut_boot s _) ((s.imagesBack_sameBut a.old).trans (State.revertSettled_sameBut _))

theorem State.revertReplied_sameBut (a : Activation) (s : State) : SameBut [.host, .outbox] s (s.revertReplied a) := by
  unfold State.revertReplied
  cases a.flight with
  | none => exact .refl _ s
  | some id => exact s.finishId_sameBut _ _ _ _ _ _

/-- What a revert may change. -/
abbrev revertParts : List Part := [.boot, .planes, .flash, .tail, .host, .outbox]

theorem State.revert_sameBut (check : Nat) (s : State) : SameBut revertParts s (s.revert check) := by
  cases h : s.boot.activation with
  | none =>
    rw [State.revert_of_none h]
    exact .refl _ s
  | some a =>
    cases hfails : healthFails a.phase check with
    | false =>
      rw [State.revert_of_passes h hfails]
      exact .refl _ s
    | true =>
      rw [State.revert_of_fails h hfails]
      exact ((((((s.revertBegun_sameBut a).mono (by simp)).trans ((State.revertNoted_sameBut check _).mono (by simp))).trans
        ((State.revertPair_sameBut a _).mono (by simp))).trans ((State.revertStandby_sameBut a _).mono (by simp))).trans
        ((State.revertImages_sameBut a _).mono (by simp))).trans ((State.revertReplied_sameBut a _).mono (by simp))

end

/-! ## The registers after a revert -/

/-- The boot registers that a revert sets, whatever becomes of TRIAL, the images and the registers MR2 to MR7. -/
structure Reverted (s : State) (a : Activation) (t : State) : Prop where
  activation : t.boot.activation = none
  result : t.boot.updResult = 2
  updState : t.boot.updState = 7
  windowFor : t.boot.windowFor = none
  ctlBank : t.boot.ctlBank = s.boot.confirmed
  confirmed : t.boot.confirmed = s.boot.confirmed
  mgmt : t.planes.mgmt = .restarting
  mr1 : nth 0 t.boot.mr 1 = extendMr (nth 0 s.boot.mr 1) (a.old.images.getD 0 0)

theorem Reverted.of_begun (a : Activation) (s : State) : Reverted s a (s.revertBegun a) where
  activation := rfl
  result := rfl
  updState := rfl
  windowFor := rfl
  ctlBank := rfl
  confirmed := rfl
  mgmt := rfl
  mr1 := (State.extend_mr_other (by decide) _ _).trans
    ((State.extend_mr_other (by decide) _ _).trans (State.extend_mr_same (by decide) _ s))

/-- What leaves the boot registers and MGMT_STATE keeps a revert. -/
theorem Reverted.of_same {s t u : State} {a : Activation} (h : Reverted s a t) (hboot : u.boot = t.boot)
    (hmgmt : u.planes.mgmt = t.planes.mgmt) : Reverted s a u := by
  obtain ⟨h1, h2, h3, h4, h5, h6, h7, h8⟩ := h
  rw [← hboot] at h1 h2 h3 h4 h5 h6 h8
  exact ⟨h1, h2, h3, h4, h5, h6, hmgmt.trans h7, h8⟩

theorem Reverted.noted {s t : State} {a : Activation} (h : Reverted s a t) (check : Nat) :
    Reverted s a (t.revertNoted check) := by
  obtain ⟨trial, waits, hboot⟩ := t.clearTrial_boot
  have hcleared : Reverted s a t.clearTrial := by
    obtain ⟨h1, h2, h3, h4, h5, h6, h7, h8⟩ := h
    have hmgmt : t.clearTrial.planes = t.planes := t.clearTrial_sameBut .planes (by simp)
    refine ⟨?_, ?_, ?_, ?_, ?_, ?_, (congrArg Planes.mgmt hmgmt).trans h7, ?_⟩ <;> rw [hboot] <;> assumption
  have hrecord := State.record_management_sameBut 0x0101 (u32s [check]) t.clearTrial
  exact hcleared.of_same (hrecord .boot (by simp)) (congrArg Planes.mgmt (hrecord .planes (by simp)))

theorem Reverted.pair {s t : State} {a : Activation} (h : Reverted s a t) : Reverted s a (t.revertPair a) := by
  refine h.of_same ((t.revertPair_sameBut a) .boot (by simp)) ?_
  obtain heq | heq : t.revertPair a = _ ∨ t.revertPair a = _ := ite_eq_or_eq _ _ _ <;> rw [heq]
  · rfl
  · exact congrArg Planes.mgmt ((t.event_sameBut 5 0x0B08 0) .planes (by simp))

theorem Reverted.standby {s t : State} {a : Activation} (h : Reverted s a t) : Reverted s a (t.revertStandby a) := by
  obtain heq | heq : t.revertStandby a = _ ∨ t.revertStandby a = _ := ite_eq_or_eq _ _ _ <;> rw [heq]
  · exact h.of_same rfl rfl
  · exact h

theorem State.imagesBack_boot (d : BankDigests) (s : State) : ∃ mr, (s.imagesBack d).boot = { s.boot with
    mr := mr, dataBank := s.boot.confirmed, inForce := some d, revertPending := none } ∧
      ∀ k, k ≠ 4 → nth 0 mr k = nth 0 s.boot.mr k := by
  obtain ⟨mr, hboot, hmr⟩ := s.extendData_boot d
  refine ⟨mr, ?_, hmr⟩
  unfold State.imagesBack
  dsimp only
  rw [hboot]

theorem Reverted.images {s t : State} {a : Activation} (h : Reverted s a t) : Reverted s a (t.revertImages a) := by
  have hmgmt := h.mgmt
  obtain heq | heq : t.revertImages a = _ ∨ t.revertImages a = _ := ite_eq_or_eq _ _ _ <;> rw [heq]
  · exact ⟨h.activation, h.result, h.updState, h.windowFor, h.ctlBank, h.confirmed, hmgmt, h.mr1⟩
  · have hplanes : (t.imagesBack a.old).planes = t.planes := (t.imagesBack_sameBut a.old) .planes (by simp)
    obtain ⟨mr, hboot, hmr⟩ := t.imagesBack_boot a.old
    rw [State.revertData_eq, State.revertSettled_of_restarting ((congrArg Planes.mgmt hplanes).trans hmgmt)]
    refine ⟨?_, ?_, ?_, ?_, ?_, ?_, (congrArg Planes.mgmt hplanes).trans hmgmt, ?_⟩ <;> rw [hboot]
    · exact h.activation
    · exact h.result
    · exact h.updState
    · exact h.windowFor
    · exact h.ctlBank
    · exact h.confirmed
    · exact (hmr 1 (by decide)).trans h.mr1

theorem State.revert_reverted {s : State} {a : Activation} {check : Nat} (h : s.boot.activation = some a)
    (hfails : healthFails a.phase check = true) : Reverted s a (s.revert check) := by
  rw [State.revert_of_fails h hfails]
  have hreply := State.revertReplied_sameBut a
    (((((s.revertBegun a).revertNoted check).revertPair a).revertStandby a).revertImages a)
  exact (((((Reverted.of_begun a s).noted check).pair).standby).images).of_same (hreply .boot (by simp))
    (congrArg Planes.mgmt (hreply .planes (by simp)))

/-- A failure of the health window switches the running pair back. -/
theorem State.revert_pause {s : State} {a : Activation} {check : Nat} (h : s.boot.activation = some a)
    (hfails : healthFails a.phase check = true) (hphase : a.phase = .window) (hctl : s.planes.ctl = .running) :
    (s.revert check).planes.ctl = .pause ∧ (s.revert check).planes.transitCode = 0x0B08 := by
  rw [State.revert_of_fails h hfails]
  have hnoted : ((s.revertBegun a).revertNoted check).planes.ctl = .running :=
    (congrArg Planes.ctl ((State.revertNoted_sameBut check _) .planes (by simp))).trans hctl
  have hpair : ((s.revertBegun a).revertNoted check).revertPair a =
      ((s.revertBegun a).revertNoted check).beginTransit 0x0B08 := if_pos ⟨hphase, hnoted⟩
  have hstandby (t : State) : t.revertStandby a = t := if_neg (by rw [hphase]; decide)
  rw [hpair, hstandby]
  have himages := State.revertImages_sameBut a (((s.revertBegun a).revertNoted check).beginTransit 0x0B08) .planes (by simp)
  have hreply := State.revertReplied_sameBut a
    ((((s.revertBegun a).revertNoted check).beginTransit 0x0B08).revertImages a) .planes (by simp)
  rw [hreply, himages]
  exact ⟨rfl, rfl⟩

end Sys2Proof.Machine
end

section
/-!
O60: faults of the planes and their restarts (R514, R515).
-/

namespace Sys2Proof.Machine

/-! ## Commands in flight and what a Transit pause holds -/

/-- What a Transit pause holds, and the commands in flight. -/
def State.waitlists (s : State) : List Held × List Flight := (s.host.held, s.host.flights)

theorem State.waitlists_of_host {s t : State} (h : t.host = s.host) : t.waitlists = s.waitlists :=
  congrArg (fun x : HostState => (x.held, x.flights)) h

section
variable {s : State}

theorem State.raiseVector_waitlists (port vector : Nat) (s : State) : (s.raiseVector port vector).waitlists = s.waitlists := by
  unfold State.raiseVector
  split <;> rfl

theorem State.postCq_waitlists (q port : Nat) (c : Cpl) (irq : Bool) (s : State) :
    (s.postCq q port c irq).waitlists = s.waitlists := by
  cases irq
  · rfl
  · exact State.raiseVector_waitlists _ _ _

theorem State.eventTo_waitlists (i type : Nat) (status : Code) (r1 : W64) (s : State) :
    (s.eventTo i type status r1).waitlists = s.waitlists := by
  have hslot (f : Slot → Slot) (t : State) : (t.modSlot i f).waitlists = t.waitlists := rfl
  unfold State.eventTo
  dsimp only
  split
  · rfl
  · split
    · split
      · rw [hslot, State.postCq_waitlists]
      · exact hslot _ s
    · split
      · rfl
      · exact hslot _ s

theorem State.eventBut_waitlists (hctl : s.planes.ctl ≠ .pause) (skip : Nat → Bool) (type : Nat) (status : Code) (r1 : W64) :
    (s.eventBut skip type status r1).waitlists = s.waitlists := by
  refine (List.foldlRecOn (motive := fun t : State => t.planes.ctl ≠ .pause ∧ t.waitlists = s.waitlists) _ _ ⟨hctl, rfl⟩
    fun t ⟨ht, hsame⟩ i _ => ?_).2
  rw [if_neg ht]
  exact ⟨by rwa [State.eventTo_sameBut i type status r1 t .planes (by simp)], (State.eventTo_waitlists ..).trans hsame⟩

/-- A completion goes to ring `q` or joins those that wait there, its data to the buffer. -/
def State.toRing (q : Nat) (f : Flight) (c : Cpl) (data : List Byte) (s : State) : State :=
  let s := if data.isEmpty then s else s.send (.buffer f.port f.bufAddr data)
  if (s.queue q).cqFull || !(s.queue q).waiting.isEmpty then
    s.modQueue q fun q => { q with waiting := q.waiting ++ [(c, f.irq)] }
  else s.postCq q f.port c f.irq

theorem State.post_eq (f : Flight) (status : Code) (r0 r1 : W64) (sample : W32) (late : Bool) (data : List Byte) (s : State) :
    s.post f status r0 r1 sample late data =
      if f.lost then (s.landed f).modPort f.port fun p => { p with lostCpl := satAdd p.lostCpl 1 }
      else match f.origin with
        | .queue q => (s.landed f).toRing q f (f.cpl status r0 r1 sample late) data
        | .frame h => (s.landed f).reply h (.completion { f.cpl status r0 r1 sample late with phase := true } data) := by
  unfold State.post
  cases f.origin <;> rfl

theorem State.toRing_waitlists (q : Nat) (f : Flight) (c : Cpl) (data : List Byte) (s : State) :
    (s.toRing q f c data).waitlists = s.waitlists := by
  have hring (t : State) : (if (t.queue q).cqFull || !(t.queue q).waiting.isEmpty
      then t.modQueue q fun q => { q with waiting := q.waiting ++ [(c, f.irq)] }
      else t.postCq q f.port c f.irq).waitlists = t.waitlists := by
    split
    · rfl
    · exact State.postCq_waitlists ..
  unfold State.toRing
  cases data.isEmpty
  · exact hring _
  · exact hring _

theorem State.toRing_sameRoles (q : Nat) (f : Flight) (c : Cpl) (data : List Byte) (s : State) :
    SameRoles s (s.toRing q f c data) := by
  have hring (t : State) : SameRoles t (if (t.queue q).cqFull || !(t.queue q).waiting.isEmpty
      then t.modQueue q fun q => { q with waiting := q.waiting ++ [(c, f.irq)] }
      else t.postCq q f.port c f.irq) := .ite (.of_slots rfl) (t.postCq_sameRoles _ _ _ _)
  unfold State.toRing
  cases data.isEmpty
  · exact hring _
  · exact hring _

theorem State.post_waitlists (f : Flight) (status : Code) (r0 r1 : W64) (sample : W32) (late : Bool) (data : List Byte)
    (s : State) : (s.post f status r0 r1 sample late data).waitlists =
      (s.host.held, s.host.flights.filter fun g => g.id != f.id) := by
  rw [State.post_eq]
  split
  · rfl
  · split
    · exact State.toRing_waitlists ..
    · rfl

theorem State.id_of_find {l : List Flight} {id : Nat} {f : Flight} (h : l.find? (fun g => g.id == id) = some f) : f.id = id := by
  have hf := List.find?_some h
  exact beq_iff_eq.1 hf

theorem State.finish_waitlists (hctl : s.planes.ctl ≠ .pause) (f : Flight) (status : Code) (r0 r1 : W64) (late : Bool)
    (data : List Byte) : (s.finish f status r0 r1 late data).waitlists =
      (s.host.held, s.host.flights.filter fun g => g.id != f.id) := by
  have hid : ((s.host.flights.find? fun g => g.id == f.id).getD f).id = f.id := by
    cases h : s.host.flights.find? fun g => g.id == f.id with
    | none => rfl
    | some g => exact State.id_of_find h
  refine (congrArg State.waitlists (if_neg hctl)).trans ((State.post_waitlists ..).trans ?_)
  rw [hid]

/-- A command that finishes is no longer in flight. -/
theorem State.finishId_waitlists (hctl : s.planes.ctl ≠ .pause) (id : Nat) (status : Code) (r0 r1 : W64) (late : Bool)
    (data : List Byte) : (s.finishId id status r0 r1 late data).waitlists =
      (s.host.held, s.host.flights.filter fun g => g.id != id) := by
  unfold State.finishId
  split
  next f h => rw [State.finish_waitlists hctl, State.id_of_find h]
  next h =>
    have hall : s.host.flights.filter (fun g => g.id != id) = s.host.flights :=
      List.filter_eq_self.2 fun g hg => by simpa using List.find?_eq_none.1 h g hg
    rw [hall]
    rfl

theorem State.post_sameRoles (f : Flight) (status : Code) (r0 r1 : W64) (sample : W32) (late : Bool) (data : List Byte)
    (s : State) : SameRoles s (s.post f status r0 r1 sample late data) := by
  have hlanded : SameRoles s (s.landed f) := .of_slots rfl
  rw [State.post_eq]
  refine .ite (.of_slots rfl) ?_
  split
  · exact hlanded.trans (State.toRing_sameRoles _ _ _ _ _)
  · exact hlanded.trans (State.reply_sameRoles _ _ _)

theorem State.finishId_sameRoles (id : Nat) (status : Code) (r0 r1 : W64) (late : Bool) (data : List Byte) (s : State) :
    SameRoles s (s.finishId id status r0 r1 late data) := by
  unfold State.finishId
  split
  · exact .ite (.of_slots rfl) (State.post_sameRoles _ _ _ _ _ _ _ s)
  · exact .refl s

/-! ## Nothing is held -/

/-- No Transit pause runs, and nothing is held. -/
def State.quiet (s : State) : Prop := s.planes.ctl ≠ .pause ∧ s.host.held = []

theorem State.quiet_of_same {t : State} (hctl : t.planes.ctl = s.planes.ctl) (hlists : t.waitlists.1 = s.waitlists.1)
    (h : s.quiet) : t.quiet := ⟨by rw [hctl]; exact h.1, hlists.trans h.2⟩

theorem State.quiet_eventBut (h : s.quiet) (skip : Nat → Bool) (type : Nat) (status : Code) (r1 : W64) :
    (s.eventBut skip type status r1).quiet :=
  State.quiet_of_same (congrArg (fun x => x.2.1.ctl) (State.eventBut_trunk skip type status r1 s))
    (congrArg Prod.fst (State.eventBut_waitlists h.1 skip type status r1)) h

theorem State.quiet_record (h : s.quiet) (type : Nat) (plane : Plane) (payload : List Byte) :
    (s.record type plane payload).quiet :=
  State.quiet_of_same (congrArg Planes.ctl (State.record_sameBut type plane payload s .planes (by simp)))
    (congrArg Prod.fst (State.waitlists_of_host (State.record_sameBut type plane payload s .host (by simp)))) h

theorem State.quiet_cancelCommit (h : s.quiet) (status : Code) : (s.cancelCommit status).quiet := by
  unfold State.cancelCommit
  split
  · exact h
  · exact State.quiet_eventBut (s := { s with eph := { s.eph with pendingSlot := none, commit := .cancelled } }) h _ _ _ _

theorem State.quiet_dropRoles (h : s.quiet) (i : Nat) (m : BitVec 4) : (s.dropRoles i m).quiet := by
  have hslot : (s.modSlot i fun sl => { sl with held := sl.held &&& ~~~m }).quiet := h
  unfold State.dropRoles State.pilotLost
  dsimp only
  split
  · split
    · exact State.quiet_cancelCommit (State.quiet_record hslot _ _ _) _
    · exact hslot
  · exact hslot

/-- A slot that goes down leaves nothing held where nothing was. -/
theorem State.quiet_slotDown (h : s.quiet) (i : Nat) : (s.slotDown i).quiet := by
  unfold State.slotDown
  dsimp only
  refine State.quiet_eventBut (State.quiet_record ?_ _ _ _) _ _ _ _
  have hqueues (qs : List Nat) (t : State) (ht : t.quiet) :
      (qs.foldl (fun s q => s.modQueue q (Queue.restart false)) t).quiet :=
    List.foldlRecOn (motive := State.quiet) qs _ ht fun u hu q _ => hu
  obtain ⟨hctl, hheld⟩ := hqueues (((List.range (s.slot i).cfg.qCount).map ((s.slot i).cfg.qFirst + ·)).filter fun q =>
    (s.slot i).cfg.owns q && (((s.dropRoles i 0xF).queue q).enable || !((s.dropRoles i 0xF).queue q).waiting.isEmpty))
    _ (State.quiet_dropRoles h i 0xF)
  exact ⟨hctl, List.map_eq_nil_iff.2 hheld⟩

/-! ## CTL_FAULT (R514) -/

variable {cause : Nat} {good : Bool}

theorem execCtlFault_of_off (h : s.power.core = false ∨ (s.planes.ctl ≠ .running ∧ s.planes.ctl ≠ .pause)) :
    exec (.ctlFault cause good) s = .next s := congrArg Host.Outcome.next (if_pos h)

/-- The record of a control-plane fault: the standby takes over, or the record is good, or it is not. -/
def State.faultNoted (cause case : Nat) (s : State) : State :=
  s.record 0x0032 .control (u32s [cause, case, b1 (s.planes.pair.getD false)])

theorem State.faultNoted_sameBut (cause case : Nat) (s : State) : SameBut [.tail, .mem] s (s.faultNoted cause case) :=
  s.record_sameBut _ _ _

/-- The standby takes over, in a Transit of its own or in that of a revert. -/
def State.takenOver (s : State) : State := if s.planes.ctl = .pause then s else s.beginTransit 0

theorem execCtlFault_of_ready (hcore : s.power.core = true) (hctl : s.planes.ctl = .running) (hready : s.planes.standby = .ready) :
    exec (.ctlFault cause good) s = .next ((s.faultNoted cause 1).healthFail (ctlCheck cause)).takenOver := by
  refine congrArg Host.Outcome.next ((if_neg ?_).trans ?_)
  · rintro (h | ⟨h, -⟩)
    · exact Bool.noConfusion (h.symm.trans hcore)
    · exact h hctl
  · have hboth : (s.planes.standby == .ready && s.planes.ctl == .running) = true := by rw [hready, hctl]; rfl
    dsimp only
    rw [hboth]
    rfl

/-- The control plane boots, with its record good or not. -/
def State.pairLost (cause : Nat) (good : Bool) (s : State) : State :=
  let s := (s.trigger allCh 6 0x0B07).faultNoted cause (if good then 2 else 3)
  { s with planes := { s.planes with ctl := .booting, restart := some good } }

theorem execCtlFault_of_alone (hcore : s.power.core = true) (hctl : s.planes.ctl = .running ∨ s.planes.ctl = .pause)
    (halone : s.planes.standby ≠ .ready ∨ s.planes.ctl = .pause) :
    exec (.ctlFault cause good) s = .next ((s.pairLost cause good).healthFail (ctlCheck cause)) := by
  refine congrArg Host.Outcome.next ((if_neg ?_).trans ?_)
  · rintro (h | ⟨hr, hp⟩)
    · exact Bool.noConfusion (h.symm.trans hcore)
    · exact hctl.elim hr hp
  · have hboth : (s.planes.standby == .ready && s.planes.ctl == .running) = false := by
      obtain h | h := halone
      · rw [beq_false_of_ne h]
        rfl
      · rw [h]
        exact Bool.and_false _
    dsimp only
    rw [hboth]
    rfl

theorem ctlCheck_fails_iff {phase : ActPhase} {cause : Nat} : healthFails phase (ctlCheck cause) = true ↔ phase = .window := by
  have hcheck : ctlCheck cause = 1 ∨ ctlCheck cause = 6 := ite_eq_or_eq _ _ _
  rw [healthFails_iff]
  obtain h | h := hcheck <;> simp [h]

/-- Outside a health window a control fault fails no activation. -/
theorem State.healthFail_ctlCheck (h : ∀ a, s.boot.activation = some a → a.phase ≠ .window) :
    s.healthFail (ctlCheck cause) = s := by
  cases hact : s.boot.activation with
  | none => exact State.healthFail_of_no_activation _ hact
  | some a => exact State.revert_of_passes hact (Bool.eq_false_iff.2 fun hfails => h a hact (ctlCheck_fails_iff.1 hfails))

theorem execCtlFault_reverts {a : Activation} (hcore : s.power.core = true) (hctl : s.planes.ctl = .running)
    (hready : s.planes.standby = .ready) (hact : s.boot.activation = some a) (hphase : a.phase = .window) :
    ∃ t, exec (.ctlFault cause good) s = .next t ∧ t.planes.ctl = .pause ∧ t.planes.transitCode = 0x0B08 ∧
      t.boot.activation = none ∧ t.boot.updResult = 2 := by
  have hnoted := s.faultNoted_sameBut cause 1
  have hact' : (s.faultNoted cause 1).boot.activation = some a := by rw [hnoted .boot (by simp), hact]
  have hfails : healthFails a.phase (ctlCheck cause) = true := ctlCheck_fails_iff.2 hphase
  have hreverted := State.revert_reverted hact' hfails
  obtain ⟨hpause, hcode⟩ := State.revert_pause hact' hfails hphase (by rw [hnoted .planes (by simp), hctl])
  have hover : ((s.faultNoted cause 1).healthFail (ctlCheck cause)).takenOver = (s.faultNoted cause 1).revert (ctlCheck cause) :=
    if_pos hpause
  exact ⟨_, (execCtlFault_of_ready hcore hctl hready).trans (congrArg _ hover), hpause, hcode, hreverted.activation,
    hreverted.result⟩

theorem execCtlFault_takesOver (hcore : s.power.core = true) (hact : ∀ a, s.boot.activation = some a → a.phase ≠ .window)
    (hready : s.planes.standby = .ready) (hctl : s.planes.ctl = .running) : ∃ t, exec (.ctlFault cause good) s = .next t ∧
      SameBut [.planes, .tail, .mem] s t ∧ t.planes = { s.planes with ctl := .pause, transitCode := 0 } := by
  have hnoted := s.faultNoted_sameBut cause 1
  have hplanes : (s.faultNoted cause 1).planes = s.planes := hnoted .planes (by simp)
  have hover : ((s.faultNoted cause 1).healthFail (ctlCheck cause)).takenOver = (s.faultNoted cause 1).beginTransit 0 := by
    rw [State.healthFail_ctlCheck (by rwa [hnoted .boot (by simp)])]
    exact if_neg (by rw [hplanes, hctl]; decide)
  refine ⟨_, (execCtlFault_of_ready hcore hctl hready).trans (congrArg _ hover),
    (hnoted.mono (by simp)).trans ((sameBut_planes _ _).mono (by simp)), ?_⟩
  exact congrArg (fun x : Planes => { x with ctl := .pause, transitCode := 0 }) hplanes

theorem execCtlFault_boots (hcore : s.power.core = true) (hctl : s.planes.ctl = .running ∨ s.planes.ctl = .pause)
    (hact : ∀ a, s.boot.activation = some a → a.phase ≠ .window) (halone : s.planes.standby ≠ .ready ∨ s.planes.ctl = .pause) :
    ∃ t, exec (.ctlFault cause good) s = .next t ∧ t.planes.ctl = .booting ∧ t.planes.restart = some good ∧
      ∀ n, n < 32 → s.declared n = true → t.eclipsed n = true := by
  have htrigger := State.trigger_sameBut allCh 6 0x0B07 s
  have hnoted := (s.trigger allCh 6 0x0B07).faultNoted_sameBut cause (if good then 2 else 3)
  have hboot : (s.pairLost cause good).boot = s.boot :=
    Eq.trans (b := (s.trigger allCh 6 0x0B07).boot) (hnoted .boot (by simp)) (htrigger .boot (by simp))
  refine ⟨s.pairLost cause good, (execCtlFault_of_alone hcore hctl halone).trans
    (congrArg _ (State.healthFail_ctlCheck (by rwa [hboot]))), rfl, rfl, fun n hn hd => ?_⟩
  have heclipse : (s.pairLost cause good).eclipse = (s.trigger allCh 6 0x0B07).eclipse := hnoted .eclipse (by simp)
  have heclipsed : (s.pairLost cause good).eclipsed n = (s.trigger allCh 6 0x0B07).eclipsed n :=
    congrArg (fun x : Eclipse => (nth ({} : EclipseCh) x.ch n).inEclipse) heclipse
  rw [heclipsed]
  exact State.trigger_eclipsed 6 0x0B07 hn hd rfl

/-! ## CONTROL_RESTART_DONE (R514) -/

theorem execControlRestartDone_of_none (h : s.planes.restart = none) : exec .controlRestartDone s = .next s :=
  congrArg Host.Outcome.next (by rw [h])

/-- The pair runs again, and what it held has been posted. -/
def State.pairBack (s : State) : State :=
  State.releaseHeld { s with planes := { s.planes with ctl := .running, restart := none, transitCode := 0 } }

/-- The slots have lost their roles where the control record was bad. -/
def State.rolesLeft (good : Bool) (s : State) : State := if good then s else (List.range 8).foldl (fun s i => s.slotDown i) s

/-- What was in flight completes with WATCHDOG. -/
def State.flightsEnded (s : State) : State := s.host.flights.foldl (fun s f => s.finishId f.id 0x0B07 0 0 true []) s

theorem execControlRestartDone_of_some (h : s.planes.restart = some good) :
    exec .controlRestartDone s = .next (s.pairBack.rolesLeft good).flightsEnded :=
  congrArg Host.Outcome.next (by rw [h]; rfl)

theorem State.releaseHeld_trunk (s : State) : s.releaseHeld.trunk = s.trunk := by
  refine foldl_keep State.trunk _ (fun t h => ?_) s.host.held _
  cases h
  · exact State.post_trunk ..
  · exact State.eventTo_trunk ..

/-- What is released is not held again. -/
theorem State.releaseHeld_held (s : State) : s.releaseHeld.host.held = [] := by
  refine foldl_keep (fun t : State => t.host.held) _ (fun t h => ?_) s.host.held _
  cases h
  · exact congrArg Prod.fst (State.post_waitlists ..)
  · exact congrArg Prod.fst (State.eventTo_waitlists ..)

theorem State.pairBack_planes (s : State) :
    s.pairBack.planes = { s.planes with ctl := .running, restart := none, transitCode := 0 } :=
  State.planes_of_trunk (State.releaseHeld_trunk _)

theorem State.pairBack_quiet (s : State) : s.pairBack.quiet := by
  refine ⟨?_, State.releaseHeld_held _⟩
  rw [State.pairBack_planes]
  exact of_decide_eq_true rfl

theorem State.rolesLeft_planes (good : Bool) (s : State) : (s.rolesLeft good).planes = s.planes := by
  cases good
  · exact foldl_keep State.planes _ (fun t i => State.planes_of_trunk (State.slotDown_trunk i t)) _ s
  · rfl

theorem State.rolesLeft_quiet (good : Bool) (h : s.quiet) : (s.rolesLeft good).quiet := by
  cases good
  · exact List.foldlRecOn (motive := State.quiet) _ _ h fun t ht i _ => State.quiet_slotDown ht i
  · exact h

theorem State.rolesLeft_held (s : State) {i : Nat} (hi : i < 8) : ((s.rolesLeft false).slot i).held = 0 := by
  have h := foldl_once (f := fun s i => State.slotDown i s) (P := fun _ => True) (Q := fun t : State => (t.slot i).held = 0)
    (fun _ _ _ _ => trivial) (fun t _ => State.held_slotDown_same i t)
    (fun t j hj ht => (State.held_slotDown_other (Ne.symm hj) t).trans ht) (l := List.range 8) List.nodup_range
    (List.mem_range.2 hi) (b := s) trivial
  exact h

theorem State.finishId_planes (id : Nat) (status : Code) (r0 r1 : W64) (late : Bool) (data : List Byte) (s : State) :
    (s.finishId id status r0 r1 late data).planes = s.planes :=
  State.finishId_sameBut id status r0 r1 late data s .planes (by simp)

/-- Commands that are finished one after another leave nothing held and only the others in flight. -/
theorem State.finishAll_waitlists (l : List Flight) (status : Code) {s : State} (h : s.quiet) :
    (l.foldl (fun s f => s.finishId f.id status 0 0 true []) s).waitlists =
      ([], s.host.flights.filter fun g => l.all fun f => g.id != f.id) := by
  induction l generalizing s with
  | nil =>
    rw [List.foldl_nil, State.waitlists, h.2]
    simp
  | cons f l ih =>
    have hlists := State.finishId_waitlists h.1 f.id status 0 0 true []
    have hquiet : (s.finishId f.id status 0 0 true []).quiet :=
      State.quiet_of_same (congrArg Planes.ctl (State.finishId_planes ..)) (congrArg Prod.fst hlists :) h
    rw [List.foldl_cons, ih hquiet]
    have hflights : (s.finishId f.id status 0 0 true []).host.flights = s.host.flights.filter fun g => g.id != f.id :=
      congrArg Prod.snd hlists
    rw [hflights, List.filter_filter]
    refine congrArg _ (List.filter_congr fun g _ => ?_)
    rw [List.all_cons, Bool.and_comm]

theorem State.flightsEnded_waitlists (h : s.quiet) : s.flightsEnded.waitlists = ([], []) := by
  rw [State.flightsEnded, State.finishAll_waitlists _ _ h]
  refine congrArg _ (List.filter_eq_nil_iff.2 fun g hg hall => ?_)
  simpa using List.all_eq_true.1 hall g hg

theorem State.flightsEnded_planes (s : State) : s.flightsEnded.planes = s.planes :=
  foldl_keep State.planes _ (fun _ _ => State.finishId_planes ..) _ s

theorem State.flightsEnded_held (s : State) (i : Nat) : (s.flightsEnded.slot i).held = (s.slot i).held :=
  SameRoles.foldl (fun t (f : Flight) => t.finishId_sameRoles f.id 0x0B07 0 0 true []) s.host.flights s i

theorem execControlRestartDone_restarts (h : s.planes.restart = some good) : ∃ t, exec .controlRestartDone s = .next t ∧
    t.planes.ctl = .running ∧ t.planes.restart = none ∧ t.host.flights = [] ∧ t.host.held = [] ∧
    (good = false → ∀ i, i < 8 → (t.slot i).held = 0) := by
  have hplanes : (s.pairBack.rolesLeft good).flightsEnded.planes =
      { s.planes with ctl := .running, restart := none, transitCode := 0 } :=
    (State.flightsEnded_planes _).trans ((State.rolesLeft_planes good _).trans s.pairBack_planes)
  have hlists := State.flightsEnded_waitlists (State.rolesLeft_quiet good s.pairBack_quiet)
  refine ⟨_, execControlRestartDone_of_some h, congrArg Planes.ctl hplanes, congrArg Planes.restart hplanes,
    congrArg Prod.snd hlists, congrArg Prod.fst hlists, fun hbad i hi => ?_⟩
  rw [State.flightsEnded_held, hbad]
  exact State.rolesLeft_held _ hi

/-! ## MGMT_FAULT (R515) -/

theorem execMgmtFault_of_down (h : s.planes.mgmt ≠ .running) : exec (.mgmtFault cause) s = .next s :=
  congrArg Host.Outcome.next (if_pos h)

/-- The management core restarts, with a record in the companion-die buffer. -/
def State.mgmtLost (cause : Nat) (s : State) : State :=
  let s := s.recordIn false 0x0033 .management (u32s [cause, b1 s.boot.running])
  { s with planes := { s.planes with mgmt := .restarting } }

theorem execMgmtFault_of_running (h : s.planes.mgmt = .running) : exec (.mgmtFault cause) s =
    .next (if cause = 1 then (s.mgmtLost cause).healthFail 3 else s.mgmtLost cause) :=
  congrArg Host.Outcome.next (if_neg (not_not.2 h))

/-- A record in the companion-die buffer leaves the stage. -/
theorem State.recordIn_buffer (type : Nat) (payload : List Byte) (s : State) :
    SameBut [.tail] s (s.recordIn false type .management payload) ∧
      (s.recordIn false type .management payload).tail.stage = s.tail.stage := by
  unfold State.recordIn
  generalize (if s.time.state = .unset then none else some s.time.t) = time
  unfold State.recordAt
  dsimp only
  split
  · exact ⟨sameBut_tail s _, rfl⟩
  · rw [if_neg Bool.false_ne_true]
    split
    · exact ⟨sameBut_tail s _, rfl⟩
    · exact ⟨sameBut_tail s _, rfl⟩

theorem State.mgmtLost_sameBut (cause : Nat) (s : State) : SameBut [.planes, .tail] s (s.mgmtLost cause) :=
  ((s.recordIn_buffer _ _).1.mono (by simp)).trans ((sameBut_planes _ _).mono (by simp))

theorem State.mgmtLost_planes (cause : Nat) (s : State) :
    (s.mgmtLost cause).planes = { s.planes with mgmt := .restarting } :=
  congrArg (fun x : Planes => { x with mgmt := .restarting }) ((s.recordIn_buffer _ _).1 .planes (by simp))

theorem State.mgmtLost_boot (cause : Nat) (s : State) : (s.mgmtLost cause).boot = s.boot :=
  s.mgmtLost_sameBut cause .boot (by simp)

theorem execMgmtFault_restarts (h : s.planes.mgmt = .running)
    (hpass : cause ≠ 1 ∨ ∀ a, s.boot.activation = some a → a.phase ≠ .management ∧ a.phase ≠ .window) :
    ∃ t, exec (.mgmtFault cause) s = .next t ∧ SameBut [.planes, .tail] s t ∧
      t.planes = { s.planes with mgmt := .restarting } ∧ t.tail.stage = s.tail.stage := by
  have heq : (if cause = 1 then (s.mgmtLost cause).healthFail 3 else s.mgmtLost cause) = s.mgmtLost cause := by
    by_cases hcause : cause = 1
    · rw [if_pos hcause]
      have hphase := hpass.resolve_left (not_not.2 hcause)
      cases hact : s.boot.activation with
      | none => exact State.healthFail_of_no_activation 3 (by rw [State.mgmtLost_boot, hact])
      | some a =>
        have hfails : healthFails a.phase 3 = false := Bool.eq_false_iff.2 fun hf => by
          obtain ⟨hmgmt, hwindow⟩ := hphase a hact
          simp [healthFails_iff, hmgmt, hwindow] at hf
        exact State.revert_of_passes (by rw [State.mgmtLost_boot, hact]) hfails
    · exact if_neg hcause
  exact ⟨_, (execMgmtFault_of_running h).trans (congrArg _ heq), s.mgmtLost_sameBut cause, s.mgmtLost_planes cause,
    (s.recordIn_buffer _ _).2⟩

theorem execMgmtFault_reverts {a : Activation} (h : s.planes.mgmt = .running) (hcause : cause = 1)
    (hact : s.boot.activation = some a) (hphase : a.phase = .management ∨ a.phase = .window) :
    ∃ t, exec (.mgmtFault cause) s = .next t ∧ t.planes.mgmt = .restarting ∧ t.boot.activation = none ∧
      t.boot.updResult = 2 := by
  have hfails : healthFails a.phase 3 = true := by
    obtain hp | hp := hphase <;> simp [healthFails_iff, hp]
  have hreverted := State.revert_reverted (s := s.mgmtLost cause) (by rw [State.mgmtLost_boot, hact]) hfails
  exact ⟨_, (execMgmtFault_of_running h).trans (congrArg _ (if_pos hcause)), hreverted.mgmt, hreverted.activation,
    hreverted.result⟩

end

/-- Settles O60: a control fault by whether the standby can take over, a restart by what it finds in flight, a management
fault by the phase of the activation. -/
theorem planesRestartAfterFaults : Obligations.PlanesRestartAfterFaults := by
  refine ⟨fun s cause good => ⟨execCtlFault_of_off, fun a => execCtlFault_reverts⟩,
    fun s cause good hcore hctl hact => ⟨fun hready hrun => execCtlFault_takesOver hcore hact hready hrun,
      execCtlFault_boots hcore hctl hact⟩, fun s => execControlRestartDone_of_none,
    fun s good => execControlRestartDone_restarts, fun s cause => execMgmtFault_of_down,
    fun s cause h => ⟨execMgmtFault_restarts h, fun a => execMgmtFault_reverts h⟩⟩

end Sys2Proof.Machine
end

section
/-!
O57: the update commands and the manifest checks (R463, R473, R474, R482).
-/

namespace Sys2Proof.Machine

section
variable {e : Entry} {s t : State} {f : Flight}

/-! ## UPD_STATUS and UPD_WRITE -/

theorem exec_updStatus (h : Dispatched 0x0D00 e s f t) (hz : (e.zeroFrom 0x18 40).1 = false) :
    exec (.updStatus e) s = .next (t.ok f (t.updStatusWord.toNat + t.bootStatusWord.toNat * 2 ^ 32) 0 []) :=
  (command_of_dispatched h _).trans (congrArg Host.Outcome.next (checked_of_none (by rw [firstBad_cons_of_pass hz]; rfl) _ t))

theorem State.activationOn_eq_false (h : t.boot.activation = none) : t.activationOn = false := by
  rw [State.activationOn, h]
  rfl

/-- The bank that is not confirmed with `d` at offset `o`, erased before the first bytes. -/
def State.bankWritten (o : Nat) (d : List Byte) (s : State) : State :=
  (if o = 0 then s.flashErase (bankOfs (!s.boot.confirmed)) bankBytes else s).flashWrite (bankOfs (!s.boot.confirmed) + o) d

theorem State.bankWritten_sameBut (o : Nat) (d : List Byte) (s : State) : SameBut [.flash] s (s.bankWritten o d) :=
  (SameBut.ite (sameBut_flash s _) (.refl _ s)).trans (sameBut_flash _ _)

theorem State.bankWritten_flash (o : Nat) (d : List Byte) (s : State) : (s.bankWritten o d).flash =
    sbulk flashErased (if o = 0 then serase s.flash (bankOfs (!s.boot.confirmed)) 6291456 else s.flash)
      (bankOfs (!s.boot.confirmed) + o) d := by
  by_cases h : o = 0
  · rw [State.bankWritten, if_pos h, if_pos h]
    rfl
  · rw [State.bankWritten, if_neg h, if_neg h]
    rfl

/-- UPD_STATE 1: a write. -/
def State.updWriting (s : State) : State := { s with boot := { s.boot with updState := 1 } }

theorem State.flashJob_boot (f : Flight) (r0 : Nat) (s : State) :
    (s.flashJob f r0).boot = { s.boot with flashJobs := s.boot.flashJobs ++ [{ flight := f.id, r0 := r0 }] } := by
  have h : (s.launch f).boot = s.boot := s.launch_sameBut f .boot (by simp)
  unfold State.flashJob
  dsimp only
  rw [h]

theorem exec_updWrite (h : Dispatched 0x0D40 e s f t) (hz : (e.zeroFrom 0x20 32).1 = false)
    (hend : e.u 0x18 4 + e.u 0x1C 4 ≤ 6291456) (hlo : 8 ≤ e.u 0x1C 4)
    (hhi : e.u 0x1C 4 ≤ (if e.inline = true then 1344 else 65536)) (hlen : e.dataLen = e.u 0x1C 4)
    (hnv : t.power.nvOpen = true) (hact : t.boot.activation = none) : exec (.updWrite e) s =
      .next (((t.bankWritten (e.u 0x18 4) (slice e.data 0 (e.u 0x1C 4))).updWriting).flashJob f 0) := by
  refine (command_of_dispatched h _).trans (congrArg Host.Outcome.next (checked_of_none ?_ _ t))
  have hsize : (decide (e.u 0x1C 4 < 8 ∨ (if e.inline then 1344 else 65536) < e.u 0x1C 4) ||
      e.dataLen != e.u 0x1C 4) = false := by
    rw [hlen, bne_self_eq_false, Bool.or_false]
    exact decide_eq_false (not_or.2 ⟨not_lt.2 hlo, not_lt.2 hhi⟩)
  rw [firstBad_cons_of_pass hz, firstBad_cons_of_pass (decide_eq_false (not_lt.2 hend)), firstBad_cons_of_pass hsize,
    firstBad_cons_of_pass (by rw [hnv]; rfl), firstBad_cons_of_pass (State.activationOn_eq_false hact)]
  rfl

theorem exec_updWrite_writes (h : Dispatched 0x0D40 e s f t) (hz : (e.zeroFrom 0x20 32).1 = false)
    (hend : e.u 0x18 4 + e.u 0x1C 4 ≤ 6291456) (hlo : 8 ≤ e.u 0x1C 4)
    (hhi : e.u 0x1C 4 ≤ (if e.inline = true then 1344 else 65536)) (hlen : e.dataLen = e.u 0x1C 4)
    (hnv : t.power.nvOpen = true) (hact : t.boot.activation = none) :
    ∃ u : State, exec (.updWrite e) s = .next u ∧ SameBut [.flash, .boot, .host] t u ∧ u.boot.updState = 1 ∧
      u.boot.flashJobs = t.boot.flashJobs ++ [{ flight := f.id }] ∧
      u.flash = sbulk flashErased (if e.u 0x18 4 = 0 then serase t.flash (bankOfs (!t.boot.confirmed)) 6291456 else t.flash)
        (bankOfs (!t.boot.confirmed) + e.u 0x18 4) (slice e.data 0 (e.u 0x1C 4)) := by
  have hwritten := t.bankWritten_sameBut (e.u 0x18 4) (slice e.data 0 (e.u 0x1C 4))
  have hboot := hwritten .boot (by simp)
  refine ⟨_, exec_updWrite h hz hend hlo hhi hlen hnv hact, ?_, ?_, ?_, ?_⟩
  · exact ((hwritten.mono (by simp)).trans ((sameBut_boot _ _).mono (by simp))).trans
      ((State.flashJob_sameBut f 0 _).mono (by simp))
  · rw [State.flashJob_boot]
    rfl
  · rw [State.flashJob_boot]
    exact congrArg (fun b : Boot => b.flashJobs ++ [{ flight := f.id }]) hboot
  · rw [State.flashJob_flash]
    exact t.bankWritten_flash _ _

/-! ## UPD_VERIFY and UPD_ACTIVATE -/

theorem State.startCheck_sameBut (f : Flight) (activate : Bool) (s : State) :
    SameBut [.boot, .host] s (s.startCheck f activate) :=
  ((s.launch_sameBut f).mono (by simp)).trans ((sameBut_boot _ _).mono (by simp))

theorem State.startCheck_boot (f : Flight) (activate : Bool) (s : State) : (s.startCheck f activate).boot =
    { s.boot with checks := s.boot.checks ++ [{ flight := f.id, slot := f.slot, activate := activate }] } := by
  have h : (s.launch f).boot = s.boot := s.launch_sameBut f .boot (by simp)
  unfold State.startCheck
  dsimp only
  rw [h]

theorem exec_updVerify (h : Dispatched 0x0D41 e s f t) (hz : (e.zeroFrom 0x18 40).1 = false)
    (hact : t.boot.activation = none) : ∃ u : State, exec (.updVerify e) s = .next u ∧ SameBut [.boot, .host] t u ∧
      u.boot = { t.boot with checks := t.boot.checks ++ [{ flight := f.id, slot := f.slot, activate := false }] } := by
  refine ⟨_, (command_of_dispatched h _).trans (congrArg Host.Outcome.next (checked_of_none ?_ _ t)),
    t.startCheck_sameBut f false, t.startCheck_boot f false⟩
  rw [firstBad_cons_of_pass hz, firstBad_cons_of_pass (State.activationOn_eq_false hact)]
  rfl

theorem exec_updActivate (h : Dispatched 0x0D42 e s f t) (hz : (e.zeroFrom 0x18 40).1 = false) : exec (.updActivate e) s =
    .next (if t.activationOn then t.activateRefused.reject f { code := 0x0409 }
      else if !t.power.nvOpen then t.activateRefused.reject f { code := 0x0801 }
      else t.startCheck f true) :=
  (command_of_dispatched h _).trans (congrArg Host.Outcome.next (checked_of_none (by rw [firstBad_cons_of_pass hz]; rfl) _ t))

theorem exec_updActivate_starts (h : Dispatched 0x0D42 e s f t) (hz : (e.zeroFrom 0x18 40).1 = false)
    (hact : t.boot.activation = none) (hnv : t.power.nvOpen = true) : ∃ u : State, exec (.updActivate e) s = .next u ∧
      SameBut [.boot, .host] t u ∧
      u.boot = { t.boot with checks := t.boot.checks ++ [{ flight := f.id, slot := f.slot, activate := true }] } := by
  refine ⟨_, (exec_updActivate h hz).trans (congrArg Host.Outcome.next ((if_neg ?_).trans (if_neg ?_))),
    t.startCheck_sameBut f true, t.startCheck_boot f true⟩
  · rw [State.activationOn_eq_false hact]
    decide
  · rw [hnv]
    decide

theorem exec_updActivate_closed (h : Dispatched 0x0D42 e s f t) (hz : (e.zeroFrom 0x18 40).1 = false)
    (hact : t.boot.activation = none) (hnv : t.power.nvOpen = false) : ∃ u : State, SameBut [.boot] t u ∧
      u.boot = { t.boot with updResult := 4 } ∧ exec (.updActivate e) s = .next (u.reject f { code := 0x0801 }) := by
  refine ⟨t.activateRefused, sameBut_boot t _, rfl,
    (exec_updActivate h hz).trans (congrArg Host.Outcome.next ((if_neg ?_).trans (if_pos ?_)))⟩
  · rw [State.activationOn_eq_false hact]
    decide
  · rw [hnv]
    rfl

theorem exec_updActivate_again (h : Dispatched 0x0D42 e s f t) (hz : (e.zeroFrom 0x18 40).1 = false)
    (hact : t.boot.activation.isSome = true) : ∃ u : State, SameBut [.boot] t u ∧
      u.boot = { t.boot with updResult := 4 } ∧ exec (.updActivate e) s = .next (u.reject f { code := 0x0409 }) :=
  ⟨t.activateRefused, sameBut_boot t _, rfl, (exec_updActivate h hz).trans (congrArg Host.Outcome.next (if_pos hact))⟩

/-! ## UPD_MGMT_ADDR and UPD_NADIR -/

theorem exec_updMgmtAddr (h : Dispatched 0x0D43 e s f t) (hz : (e.zeroFrom 0x1D 35).1 = false) (hlo : 8 ≤ e.u 0x1C 1)
    (hhi : e.u 0x1C 1 ≤ 30) (haddr : addrBad (beNat (e.bytes 0x18 4)) (e.u 0x1C 1) = false) (hnv : t.power.nvOpen = true) :
    ∃ u : State, exec (.updMgmtAddr e) s = .next u ∧ SameBut [.flash, .boot, .host] t u ∧
      u.boot = { t.boot with flashJobs := t.boot.flashJobs ++ [{ flight := f.id }] } ∧
      u.flash = (t.writeHeader fun h =>
        { h with ipv4 := BitVec.ofNat 32 (beNat (e.bytes 0x18 4)), prefixLen := e.u 0x1C 1 }).flash := by
  refine ⟨_, (command_of_dispatched h _).trans (congrArg Host.Outcome.next (checked_of_none ?_ _ t)),
    ((t.writeHeader_sameBut _).mono (by simp)).trans ((State.flashJob_sameBut f 0 _).mono (by simp)), ?_,
    State.flashJob_flash f 0 _⟩
  · rw [firstBad_cons_of_pass hz, firstBad_cons_of_pass (by rw [min_eq_left hhi]; exact haddr),
      firstBad_cons_of_pass (decide_eq_false (not_or.2 ⟨not_lt.2 hlo, not_lt.2 hhi⟩)),
      firstBad_cons_of_pass (by rw [hnv]; rfl)]
    rfl
  · rw [State.flashJob_boot]
    rfl

/-- The registers of Nadir mode, on a state whose core die has gone off (R482). -/
def State.nadirSet (cause : Nat) (s : State) : State :=
  { s with
    eph := { s.eph with eph := none, container := [] }
    planes := { s.planes with mgmt := .nadir }
    boot := { s.boot with
      nadir := { cause := cause }, activation := none, updState := 0, windowFor := none, revertPending := none }
    host := { s.host with slots := s.host.slots.map fun x => { x with session := none }, heldFrames := [] }
    power := { s.power with umbra := .awake } }

/-- The slots of the management port lose their roles. -/
def State.mgmtRolesLost (s : State) : State :=
  (List.range 8).foldl (fun s i => if s.portOf i = 2 then s.dropRoles i 0xF else s) s

/-- The core die off for Nadir mode, with its mark in MR6. -/
def State.nadirCore (s : State) : State := s.mgmtRolesLost.coreLost.extend 6 nadirMark

theorem State.enterNadir_eq (cause : Nat) (s : State) : s.enterNadir cause = (s.nadirCore.nadirSet cause).bypCheck := by
  unfold State.enterNadir State.nadirSet State.nadirCore State.mgmtRolesLost
  rfl

theorem State.nadirCore_core (s : State) : s.nadirCore.power.core = false := by
  have hpower : s.nadirCore.power = s.mgmtRolesLost.coreLost.power := rfl
  rw [hpower, State.coreLost_power]

theorem State.nadirSet_session (cause i : Nat) (s : State) : ((s.nadirSet cause).slot i).session = none := by
  change ((s.host.slots.map fun x => { x with session := none })[i]?.getD Slot.empty).session = none
  rw [List.getElem?_map]
  cases s.host.slots[i]? <;> rfl

/-- Nadir mode: the core die is off, and no session is open (R482). -/
theorem State.enterNadir_off (cause : Nat) (s : State) :
    (s.enterNadir cause).power.core = false ∧ ∀ i, ((s.enterNadir cause).slot i).session = none := by
  rw [State.enterNadir_eq]
  have hbyp := (s.nadirCore.nadirSet cause).bypCheck_sameBut
  have hhost : (s.nadirCore.nadirSet cause).bypCheck.host = (s.nadirCore.nadirSet cause).host := hbyp .host (by simp)
  have hpower : (s.nadirCore.nadirSet cause).bypCheck.power = (s.nadirCore.nadirSet cause).power := hbyp .power (by simp)
  refine ⟨?_, fun i => ?_⟩
  · rw [hpower]
    exact s.nadirCore_core
  · rw [State.slot, hhost]
    exact s.nadirCore.nadirSet_session cause i

theorem State.ok_sameBut (f : Flight) (r0 r1 : Nat) (data : List Byte) (s : State) :
    SameBut [.host, .outbox] s (s.ok f r0 r1 data) := s.finish_sameBut _ _ _ _ _ _

theorem exec_updNadir (h : Dispatched 0x0D44 e s f t) (hz : (e.zeroFrom 0x18 40).1 = false) (hidle : t.planes.data = .idle) :
    ∃ u : State, exec (.updNadir e) s = .next u ∧ u.planes.mgmt = .nadir ∧ u.boot.nadir.cause = 3 ∧
      u.power.core = false ∧ u.flash = t.flash ∧ nth 0 u.boot.mr 6 = extendMr (nth 0 t.boot.mr 6) nadirMark ∧
      ∀ i, i < 8 → (u.slot i).session = none := by
  have hok := t.ok_sameBut f 0 0 []
  have hboot := hok .boot (by simp)
  have hflash := hok .flash (by simp)
  obtain ⟨hmgmt, hcause, -, -⟩ := (t.ok f 0 0 []).enterNadir_boot 3
  obtain ⟨hcore, hsession⟩ := (t.ok f 0 0 []).enterNadir_off 3
  refine ⟨(t.ok f 0 0 []).enterNadir 3,
    (command_of_dispatched h _).trans (congrArg Host.Outcome.next (checked_of_none ?_ _ t)),
    hmgmt, hcause, hcore, (State.enterNadir_flash 3 _).trans hflash, ?_, fun i _ => hsession i⟩
  · rw [firstBad_cons_of_pass hz, firstBad_cons_of_pass (by rw [hidle]; rfl)]
    rfl
  · rw [((t.ok f 0 0 []).enterNadir_mr 3).2]
    exact congrArg (fun b : Boot => extendMr (nth 0 b.mr 6) nadirMark) hboot

end

/-! ## Manifest checks (R463, R474) -/

section
variable {s : State} {c : UpdCheck} {r : List UpdCheck}

theorem execUpdChecksDone_of_none (h : s.boot.checks = []) : exec .updChecksDone s = .next s :=
  congrArg Host.Outcome.next (by rw [h])

/-- The oldest check is over. -/
def State.checkEnded (r : List UpdCheck) (s : State) : State := { s with boot := { s.boot with checks := r } }

theorem execUpdChecksDone_fails (h : s.boot.checks = c :: r) {x : Bad}
    (hx : checkManifest (s.bankRead (!s.boot.confirmed)) = .error x) : ∃ u : State, SameBut [.boot] s u ∧
      u.boot = { s.boot with checks := r, updResult := if c.activate = true then 4 else s.boot.updResult } ∧
      exec .updChecksDone s = .next (u.rejectId c.flight x) := by
  have hexec : exec .updChecksDone s = .next (if c.activate then (s.checkEnded r).activateRefused.rejectId c.flight x
      else (s.checkEnded r).rejectId c.flight x) := by
    refine congrArg Host.Outcome.next ?_
    rw [h]
    change (match checkManifest (s.bankRead (!s.boot.confirmed)) with | .error _ => _ | .ok _ => _) = _
    rw [hx]
    rfl
  cases hact : c.activate with
  | true =>
    rw [hact] at hexec
    exact ⟨(s.checkEnded r).activateRefused, (sameBut_boot s _).trans (sameBut_boot _ _), rfl, hexec⟩
  | false =>
    rw [hact] at hexec
    exact ⟨s.checkEnded r, sameBut_boot s _, rfl, hexec⟩

theorem execUpdChecksDone_good (h : s.boot.checks = c :: r) {d : BankDigests}
    (hd : checkManifest (s.bankRead (!s.boot.confirmed)) = .ok d) : exec .updChecksDone s = .next (
      if !c.activate then State.finishId c.flight 0 0 0 false [] { s with boot := { s.boot with
        checks := r, updState := if s.activationOn then s.boot.updState else 2 } }
      else if s.activationOn then (s.checkEnded r).activateRefused.rejectId c.flight { code := 0x0409 }
      else (s.checkEnded r).activate c (!s.boot.confirmed) d) := by
  refine congrArg Host.Outcome.next ?_
  rw [h]
  change (match checkManifest (s.bankRead (!s.boot.confirmed)) with | .error _ => _ | .ok _ => _) = _
  rw [hd]
  rfl

theorem execUpdChecksDone_verified (h : s.boot.checks = c :: r) {d : BankDigests}
    (hd : checkManifest (s.bankRead (!s.boot.confirmed)) = .ok d) (hverify : c.activate = false) :
    ∃ u : State, SameBut [.boot] s u ∧ u.boot = { s.boot with
        checks := r, updState := if s.boot.activation.isSome = true then s.boot.updState else 2 } ∧
      exec .updChecksDone s = .next (u.finishId c.flight 0 0 0 false []) :=
  ⟨_, sameBut_boot s _, rfl, (execUpdChecksDone_good h hd).trans (congrArg _ (if_pos (by rw [hverify]; rfl)))⟩

theorem execUpdChecksDone_refused (h : s.boot.checks = c :: r) {d : BankDigests}
    (hd : checkManifest (s.bankRead (!s.boot.confirmed)) = .ok d) (hactivate : c.activate = true)
    (hact : s.boot.activation.isSome = true) : ∃ u : State, SameBut [.boot] s u ∧
      u.boot = { s.boot with checks := r, updResult := 4 } ∧
      exec .updChecksDone s = .next (u.rejectId c.flight { code := 0x0409 }) :=
  ⟨(s.checkEnded r).activateRefused, (sameBut_boot s _).trans (sameBut_boot _ _), rfl,
    (execUpdChecksDone_good h hd).trans (congrArg _ ((if_neg (by rw [hactivate]; decide)).trans (if_pos hact)))⟩

/-- Phase 1 of an activation (R475): TRIAL, MR1 and MR6, and the management core. -/
theorem State.activate_sets (c : UpdCheck) (b : Bool) (d : BankDigests) (s : State) : ∃ a : Activation,
    SameBut [.boot, .planes, .flash] s (s.activate c b d) ∧
    (s.activate c b d).planes = { s.planes with mgmt := .restarting } ∧
    (s.activate c b d).boot.updState = 3 ∧ (s.activate c b d).boot.trial = true ∧
    (s.activate c b d).boot.activation = some a ∧ a.bank = b ∧ a.phase = .management ∧ a.flight = some c.flight ∧
    a.digests = d ∧ nth 0 (s.activate c b d).boot.mr 1 = extendMr (nth 0 s.boot.mr 1) (d.images.getD 0 0) ∧
    nth 0 (s.activate c b d).boot.mr 6 = extendMr (nth 0 s.boot.mr 6) d.manifest := by
  have hheader := s.writeHeader_sameBut fun h => { h with trial := some b }
  refine ⟨_, ?_, rfl, rfl, rfl, rfl, rfl, rfl, rfl, rfl, ?_, ?_⟩
  · exact ((hheader.mono (by simp)).trans ((State.extend_sameBut 1 _ _).mono (by simp))).trans
      (((State.extend_sameBut 6 _ _).mono (by simp)).trans ((sameBut_boot_planes _ _ _).mono (by simp)))
  · exact (State.extend_mr_other (by decide) _ _).trans (State.extend_mr_same (by decide) _ _)
  · exact (State.extend_mr_same (by decide) _ _).trans
      (congrArg (extendMr · d.manifest) (State.extend_mr_other (by decide) _ _))

theorem execUpdChecksDone_activates (h : s.boot.checks = c :: r) {d : BankDigests}
    (hd : checkManifest (s.bankRead (!s.boot.confirmed)) = .ok d) (hactivate : c.activate = true)
    (hact : s.boot.activation = none) : ∃ (u : State) (a : Activation), exec .updChecksDone s = .next u ∧
      SameBut [.boot, .planes, .flash] s u ∧ u.planes = { s.planes with mgmt := .restarting } ∧
      u.boot.updState = 3 ∧ u.boot.trial = true ∧ u.boot.activation = some a ∧ a.bank = (!s.boot.confirmed) ∧
      a.phase = .management ∧ a.flight = some c.flight ∧ a.digests = d ∧
      nth 0 u.boot.mr 1 = extendMr (nth 0 s.boot.mr 1) (d.images.getD 0 0) ∧
      nth 0 u.boot.mr 6 = extendMr (nth 0 s.boot.mr 6) d.manifest := by
  obtain ⟨a, hsame, hrest⟩ := (s.checkEnded r).activate_sets c (!s.boot.confirmed) d
  refine ⟨_, a, (execUpdChecksDone_good h hd).trans (congrArg _ ((if_neg ?_).trans (if_neg ?_))),
    ((sameBut_boot s _).mono (by simp)).trans hsame, hrest⟩
  · rw [hactivate]
    decide
  · rw [State.activationOn_eq_false hact]
    decide

end

end Sys2Proof.Machine
end

section
/-!
O57 (continued): the phases of an activation, its revert and its confirmation (R475–R480).
-/

namespace Sys2Proof.Machine

section
variable {s : State} {a : Activation}

/-! ## The management core is back (R475, R479) -/

theorem execMgmtRestartDone_of_up (h : s.planes.mgmt ≠ .restarting) : exec .mgmtRestartDone s = .next s :=
  congrArg Host.Outcome.next (if_pos h)

theorem execMgmtRestartDone_of_restarting (h : s.planes.mgmt = .restarting) :
    exec .mgmtRestartDone s = .next s.mgmtBack.answerHeld := congrArg Host.Outcome.next (if_neg (not_not.2 h))

/-- The management core runs. -/
def State.mgmtUp (s : State) : State := { s with planes := { s.planes with mgmt := .running } }

theorem State.mgmtBack_of_activation (h : s.boot.activation = some a) : s.mgmtBack =
    if a.phase = .management then
      { s with
        boot := { s.boot with running := a.bank, activation := some { a with phase := .control } }
        planes := { s.planes with mgmt := .running, standby := .synchronising } }
    else s.mgmtUp := by
  unfold State.mgmtBack
  dsimp only
  rw [h]
  rfl

theorem State.mgmtBack_management (h : s.boot.activation = some a) (hphase : a.phase = .management) :
    SameBut [.boot, .planes] s s.mgmtBack ∧
      s.mgmtBack.planes = { s.planes with mgmt := .running, standby := .synchronising } ∧
      s.mgmtBack.boot = { s.boot with running := a.bank, activation := some { a with phase := .control } } := by
  rw [State.mgmtBack_of_activation h, if_pos hphase]
  exact ⟨sameBut_boot_planes s _ _, rfl, rfl⟩

theorem State.mgmtBack_other (h : s.boot.activation = some a) (hphase : a.phase ≠ .management) :
    SameBut [.planes] s s.mgmtBack ∧ s.mgmtBack.planes = { s.planes with mgmt := .running } := by
  rw [State.mgmtBack_of_activation h, if_neg hphase]
  exact ⟨sameBut_planes s _, rfl⟩

theorem State.mgmtBack_of_none (h : s.boot.activation = none) : s.mgmtBack =
    if s.boot.updState = 7 then
      State.revertSettled { s with
        planes := { s.planes with mgmt := .running }, boot := { s.boot with running := s.boot.confirmed } }
    else s.mgmtUp := by
  unfold State.mgmtBack
  dsimp only
  rw [h]
  rfl

theorem State.mgmtBack_plain (h : s.boot.activation = none) (hstate : s.boot.updState ≠ 7) :
    SameBut [.planes] s s.mgmtBack ∧ s.mgmtBack.planes = { s.planes with mgmt := .running } := by
  rw [State.mgmtBack_of_none h, if_neg hstate]
  exact ⟨sameBut_planes s _, rfl⟩

/-- The end of a revert is where images and pair are back too. -/
theorem State.revertSettled_of_reverting (h : s.boot.updState = 7) (hmgmt : s.planes.mgmt ≠ .restarting) :
    s.revertSettled.boot = { s.boot with
      updState := if s.boot.revertPending = none ∧ s.planes.ctl ≠ .pause then 0 else 7 } := by
  by_cases hdone : s.boot.revertPending = none ∧ s.planes.ctl ≠ .pause
  · rw [if_pos hdone]
    exact congrArg State.boot (if_pos ⟨h, Option.isNone_iff_eq_none.2 hdone.1, hmgmt, hdone.2⟩)
  · rw [if_neg hdone]
    refine (congrArg State.boot (if_neg fun ⟨_, hnone, _, hctl⟩ => hdone ⟨Option.isNone_iff_eq_none.1 hnone, hctl⟩)).trans ?_
    rw [← h]

theorem State.mgmtBack_reverted (h : s.boot.activation = none) (hstate : s.boot.updState = 7) :
    SameBut [.planes, .boot] s s.mgmtBack ∧ s.mgmtBack.planes = { s.planes with mgmt := .running } ∧
      s.mgmtBack.boot.running = s.boot.confirmed ∧
      s.mgmtBack.boot.updState = if s.boot.revertPending = none ∧ s.planes.ctl ≠ .pause then 0 else 7 := by
  rw [State.mgmtBack_of_none h, if_pos hstate]
  have hsettled := State.revertSettled_of_reverting (s := { s with
    planes := { s.planes with mgmt := .running }, boot := { s.boot with running := s.boot.confirmed } }) hstate
    (by exact of_decide_eq_false rfl)
  have hframe := State.revertSettled_sameBut { s with
    planes := { s.planes with mgmt := .running }, boot := { s.boot with running := s.boot.confirmed } }
  exact ⟨((sameBut_boot_planes s _ _).mono (by simp)).trans (hframe.mono (by simp)), hframe .planes (by simp),
    congrArg Boot.running hsettled, congrArg Boot.updState hsettled⟩

/-! ## The standby is ready (R475) -/

theorem execStandbyReady_of_other (h : ¬ (s.planes.standby = .synchronising ∧ s.planes.ctl = .running)) :
    exec .standbyReady s = .next s := congrArg Host.Outcome.next (if_pos (not_and_or.1 h))

/-- The standby pair is ready. -/
def State.standbyUp (s : State) : State := { s with planes := { s.planes with standby := .ready } }

theorem execStandbyReady_of_synchronising (hstandby : s.planes.standby = .synchronising) (hctl : s.planes.ctl = .running) :
    exec .standbyReady s = .next (match s.boot.activation with
      | some a =>
        if a.phase = .control then
          State.beginTransit 0 { s.standbyUp.extend 2 (a.digests.images.getD 1 0) with boot :=
            { (s.standbyUp.extend 2 (a.digests.images.getD 1 0)).boot with activation := some { a with phase := .transit } } }
        else s.standbyUp
      | none => s.standbyUp) := by
  refine congrArg Host.Outcome.next ((if_neg ?_).trans ?_)
  · rintro (h | h)
    · exact h hstandby
    · exact h hctl
  · dsimp only
    cases s.boot.activation <;> rfl

theorem execStandbyReady_plain (hstandby : s.planes.standby = .synchronising) (hctl : s.planes.ctl = .running)
    (hact : ∀ a, s.boot.activation = some a → a.phase ≠ .control) : ∃ t, exec .standbyReady s = .next t ∧
      SameBut [.planes] s t ∧ t.planes = { s.planes with standby := .ready } := by
  refine ⟨s.standbyUp, (execStandbyReady_of_synchronising hstandby hctl).trans (congrArg _ ?_), sameBut_planes s _, rfl⟩
  cases h : s.boot.activation with
  | none => rfl
  | some a => exact if_neg (hact a h)

theorem execStandbyReady_transit (hstandby : s.planes.standby = .synchronising) (hctl : s.planes.ctl = .running)
    (hact : s.boot.activation = some a) (hphase : a.phase = .control) : ∃ t, exec .standbyReady s = .next t ∧
      SameBut [.boot, .planes] s t ∧ t.planes.ctl = .pause ∧ t.boot.activation = some { a with phase := .transit } ∧
      nth 0 t.boot.mr 2 = extendMr (nth 0 s.boot.mr 2) (a.digests.images.getD 1 0) := by
  have hexec := execStandbyReady_of_synchronising hstandby hctl
  rw [hact] at hexec
  refine ⟨_, hexec.trans (congrArg _ (if_pos hphase)), ?_, rfl, rfl, ?_⟩
  · have hup : SameBut [.boot, .planes] s s.standbyUp := (sameBut_planes s _).mono (by simp)
    exact (hup.trans ((State.extend_sameBut 2 _ _).mono (by simp))).trans
      (((sameBut_boot _ _).mono (by simp)).trans ((sameBut_planes _ _).mono (by simp)))
  · exact State.extend_mr_same (by decide) _ s.standbyUp

/-! ## The end of a Transit (R124, R475, R477) -/

theorem execTransitPauseEnd_of_other (h : s.planes.ctl ≠ .pause) : exec .transitPauseEnd s = .next s :=
  congrArg Host.Outcome.next (if_pos h)

/-- The activation whose Transit this is. -/
def State.transitNext (s : State) : Option Activation := s.boot.activation.filter fun a => a.phase == .transit

/-- The other pair runs. -/
def State.pairSwitching (s : State) : State :=
  { s with planes := { s.planes with
    ctl := .running, pair := s.planes.pair.map (!·), transitCode := 0
    standby := if s.transitNext.isSome then .ready else .synchronising } }

/-- What waited is posted, and the TRANSIT event after it. -/
def State.pairSwitched (s : State) : State := s.pairSwitching.releaseHeld.event 5 s.planes.transitCode 0

theorem execTransitPauseEnd_of_pause (h : s.planes.ctl = .pause) : exec .transitPauseEnd s =
    .next (match s.transitNext with
      | some a => s.pairSwitched.controlDone a
      | none => s.pairSwitched.revertSettled) := by
  refine congrArg Host.Outcome.next ((if_neg (not_not.2 h)).trans ?_)
  dsimp only
  unfold State.pairSwitched State.pairSwitching State.transitNext
  rfl

theorem State.pairSwitched_trunk (s : State) : s.pairSwitched.trunk = s.pairSwitching.trunk :=
  (State.event_trunk ..).trans (State.releaseHeld_trunk _)

theorem State.pairSwitched_boot (s : State) : s.pairSwitched.boot = s.boot :=
  Eq.trans (b := s.pairSwitching.boot) (State.boot_of_trunk s.pairSwitched_trunk) rfl

theorem State.pairSwitched_planes (s : State) : s.pairSwitched.planes = s.pairSwitching.planes :=
  State.planes_of_trunk s.pairSwitched_trunk

theorem State.pairSwitched_quiet (s : State) : s.pairSwitched.quiet := by
  have hplanes : s.pairSwitching.releaseHeld.planes = s.pairSwitching.planes :=
    State.planes_of_trunk (State.releaseHeld_trunk _)
  refine State.quiet_eventBut ⟨?_, State.releaseHeld_held _⟩ _ _ _ _
  rw [hplanes]
  exact of_decide_eq_true rfl

/-- A command that finishes outside a pause holds nothing. -/
theorem State.quiet_finishId {t : State} (h : t.quiet) (id : Nat) (status : Code) (r0 r1 : W64) (late : Bool)
    (data : List Byte) : (t.finishId id status r0 r1 late data).quiet :=
  State.quiet_of_same (congrArg Planes.ctl (State.finishId_planes ..))
    (congrArg Prod.fst (State.finishId_waitlists h.1 id status r0 r1 late data) :) h

/-- The new control bank is in force. -/
def State.ctlSwitched (a : Activation) (s : State) : State :=
  { s with boot := { s.boot with
    ctlBank := a.bank, updState := 4, activation := some { a with phase := .data, flight := none, atEnd := s.finalNow } } }

theorem State.ctlSwitched_dataBank (a : Activation) (s : State) : (s.ctlSwitched a).boot.dataBank = s.boot.dataBank := rfl

theorem State.controlDone_building (h : s.planes.data ≠ .idle) : s.controlDone a =
    if a.flight.isSome then (s.ctlSwitched a).finishId (a.flight.getD 0) 0x0A00 ((s.ctlSwitched a).firstLayer 4) 0 false []
    else s.ctlSwitched a := if_neg h

theorem State.controlDone_idle (h : s.planes.data = .idle) : s.controlDone a =
    if a.flight.isSome then (s.ctlSwitched a).swapImages.finishId (a.flight.getD 0) 0 0 0 false []
    else (s.ctlSwitched a).swapImages := if_pos h

/-- The new data-plane images are in force, and the health window begins (R475, R478). -/
def State.imagesSwapped (b : Activation) (s : State) : State :=
  { s.extendData b.digests with boot := { (s.extendData b.digests).boot with
    dataBank := b.bank, inForce := some b.digests, updState := 5, windowFor := some 0
    activation := some { b with phase := .window } } }

theorem State.swapImages_of_ready {b : Activation} (h : s.boot.activation = some b) (hphase : b.phase = .data)
    (happly : s.mayApply b.atEnd = true) : s.swapImages = s.imagesSwapped b := by
  unfold State.swapImages
  rw [h]
  exact if_pos ⟨hphase, happly⟩

theorem State.imagesSwapped_boot (b : Activation) (s : State) : ∃ mr, (s.imagesSwapped b).boot = { s.boot with
    mr := mr, dataBank := b.bank, inForce := some b.digests, updState := 5, windowFor := some 0
    activation := some { b with phase := .window } } := by
  obtain ⟨mr, hboot, -⟩ := s.extendData_boot b.digests
  refine ⟨mr, ?_⟩
  unfold State.imagesSwapped
  dsimp only
  rw [hboot]

theorem State.swapImages_sameBut (s : State) : SameBut [.boot] s s.swapImages := by
  unfold State.swapImages
  split
  · exact .ite ((State.extendData_sameBut _ s).trans (sameBut_boot _ _)) (.refl _ s)
  · exact .refl _ s

theorem State.quiet_of_sameBut {w : List Part} {t u : State} (h : SameBut w t u) (hhost : .host ∉ w) (hplanes : .planes ∉ w)
    (hq : t.quiet) : u.quiet := by
  have hh : u.host = t.host := h .host hhost
  have hp : u.planes = t.planes := h .planes hplanes
  exact ⟨by rw [hp]; exact hq.1, by rw [hh]; exact hq.2⟩

/-- The commands that complete leave boot registers and planes. -/
theorem State.finishIf_sameBut (c : Bool) (id : Nat) (status : Code) (r0 : W64) (t : State) :
    SameBut [.host, .outbox] t (if c then t.finishId id status r0 0 false [] else t) :=
  .ite (State.finishId_sameBut id status r0 0 false [] t) (.refl _ t)

theorem State.quiet_finishIf (c : Bool) (id : Nat) (status : Code) (r0 : W64) {t : State} (h : t.quiet) :
    (if c then t.finishId id status r0 0 false [] else t).quiet := by
  cases c
  · exact h
  · exact State.quiet_finishId h _ _ _ _ _ _

theorem State.controlDone_of_building (h : s.planes.data ≠ .idle) (hq : s.quiet) :
    (s.controlDone a).quiet ∧ (s.controlDone a).planes = s.planes ∧ (s.controlDone a).boot = (s.ctlSwitched a).boot := by
  rw [State.controlDone_building h]
  have hframe := State.finishIf_sameBut a.flight.isSome (a.flight.getD 0) 0x0A00 ((s.ctlSwitched a).firstLayer 4)
    (s.ctlSwitched a)
  exact ⟨State.quiet_finishIf _ _ _ _ (State.quiet_of_sameBut (w := [.boot]) (sameBut_boot s _) (by simp) (by simp) hq),
    hframe .planes (by simp), hframe .boot (by simp)⟩

theorem State.controlDone_of_idle (h : s.planes.data = .idle) (hq : s.quiet) :
    (s.controlDone a).quiet ∧ (s.controlDone a).planes = s.planes ∧
      (s.controlDone a).boot = (s.ctlSwitched a).swapImages.boot := by
  rw [State.controlDone_idle h]
  have hswapped : SameBut [.boot] s (s.ctlSwitched a).swapImages :=
    (sameBut_boot s _).trans (State.swapImages_sameBut (s.ctlSwitched a))
  have hframe := State.finishIf_sameBut a.flight.isSome (a.flight.getD 0) 0 0 (s.ctlSwitched a).swapImages
  exact ⟨State.quiet_finishIf _ _ _ _ (State.quiet_of_sameBut hswapped (by simp) (by simp) hq),
    Eq.trans (b := (s.ctlSwitched a).swapImages.planes) (hframe .planes (by simp)) (hswapped .planes (by simp)),
    hframe .boot (by simp)⟩

/-- In DATA_STATE 1 the new images follow the new control bank at once. -/
theorem State.ctlSwitched_swapped (h : s.planes.data = .idle) : (s.ctlSwitched a).swapImages.boot.ctlBank = a.bank ∧
    (s.ctlSwitched a).swapImages.boot.updState = 5 ∧ (s.ctlSwitched a).swapImages.boot.dataBank = a.bank ∧
    (s.ctlSwitched a).swapImages.boot.windowFor = some 0 := by
  have hidle : (s.ctlSwitched a).planes.data = .idle := h
  have happly (b : Activation) : (s.ctlSwitched a).mayApply b.atEnd = true := by
    rw [State.mayApply, hidle]
    exact Bool.or_true _
  rw [State.swapImages_of_ready (s := s.ctlSwitched a) rfl rfl (happly _)]
  obtain ⟨mr, hboot⟩ := (s.ctlSwitched a).imagesSwapped_boot
    { a with phase := .data, flight := none, atEnd := s.finalNow }
  rw [hboot]
  exact ⟨rfl, rfl, rfl, rfl⟩

theorem execTransitPauseEnd_takeover (h : s.planes.ctl = .pause)
    (hact : ∀ a, s.boot.activation = some a → a.phase ≠ .transit) : ∃ t, exec .transitPauseEnd s = .next t ∧
      t.quiet ∧ t.planes.ctl = .running ∧ t.planes.pair = s.planes.pair.map (!·) ∧ t.planes.standby = .synchronising := by
  have hnone : s.transitNext = none := by
    unfold State.transitNext
    cases hs : s.boot.activation with
    | none => rfl
    | some a =>
      rw [Option.filter_some, if_neg]
      simpa using hact a hs
  have hexec := execTransitPauseEnd_of_pause h
  rw [hnone] at hexec
  have hplanes : s.pairSwitched.revertSettled.planes = s.pairSwitched.planes :=
    State.revertSettled_sameBut _ .planes (by simp)
  refine ⟨_, hexec, State.quiet_of_sameBut (State.revertSettled_sameBut _) (by simp) (by simp) s.pairSwitched_quiet, ?_⟩
  rw [hplanes, State.pairSwitched_planes, State.pairSwitching, hnone]
  exact ⟨rfl, rfl, rfl⟩

theorem execTransitPauseEnd_activation (h : s.planes.ctl = .pause) (hact : s.boot.activation = some a)
    (hphase : a.phase = .transit) : ∃ t, exec .transitPauseEnd s = .next t ∧ t.quiet ∧ t.planes.ctl = .running ∧
      t.planes.pair = s.planes.pair.map (!·) ∧ t.planes.standby = .ready ∧ t.boot.ctlBank = a.bank ∧
      (s.planes.data ≠ .idle → t.boot.updState = 4 ∧ t.boot.dataBank = s.boot.dataBank) ∧
      (s.planes.data = .idle → t.boot.updState = 5 ∧ t.boot.dataBank = a.bank ∧ t.boot.windowFor = some 0) := by
  have hnext : s.transitNext = some a := by
    unfold State.transitNext
    rw [hact, Option.filter_some, if_pos (by rw [hphase]; rfl)]
  have hexec := execTransitPauseEnd_of_pause h
  rw [hnext] at hexec
  have hplanes := s.pairSwitched_planes
  rw [State.pairSwitching, hnext] at hplanes
  have hdata : s.pairSwitched.planes.data = s.planes.data := (congrArg Planes.data hplanes :)
  by_cases hidle : s.planes.data = .idle
  · obtain ⟨hquiet, hsame, hboot⟩ := State.controlDone_of_idle (a := a) (hdata.trans hidle) s.pairSwitched_quiet
    obtain ⟨hctl, hstate, hbank, hwindow⟩ := State.ctlSwitched_swapped (a := a) (hdata.trans hidle)
    refine ⟨_, hexec, hquiet, ?_⟩
    rw [hsame, hplanes, hboot]
    exact ⟨rfl, rfl, rfl, hctl, fun hno => absurd hidle hno, fun _ => ⟨hstate, hbank, hwindow⟩⟩
  · obtain ⟨hquiet, hsame, hboot⟩ := State.controlDone_of_building (a := a) (by rwa [hdata]) s.pairSwitched_quiet
    have hbank := s.pairSwitched.ctlSwitched_dataBank a
    rw [s.pairSwitched_boot] at hbank
    refine ⟨_, hexec, hquiet, ?_⟩
    rw [hsame, hplanes, hboot]
    exact ⟨rfl, rfl, rfl, rfl, fun _ => ⟨rfl, hbank⟩, fun h => absurd h hidle⟩

/-! ## HEALTH_FAILURE (R478, R479) -/

variable {k : Nat}

theorem execHealthFailure_passes (h : ∀ a, s.boot.activation = some a →
      ¬ (a.phase = .management ∧ k = 3 ∨ a.phase = .control ∧ k = 5 ∨ a.phase = .window ∧ k ≠ 5)) :
    exec (.healthFailure k) s = .next s := by
  refine congrArg Host.Outcome.next ?_
  cases hact : s.boot.activation with
  | none => exact State.healthFail_of_no_activation k hact
  | some a => exact State.revert_of_passes hact (Bool.eq_false_iff.2 fun hfails => h a hact (healthFails_iff.1 hfails))

/-- With the window shut a revert leaves the flash. -/
theorem State.revert_flash (hnv : s.power.nvOpen = false) : (s.revert k).flash = s.flash := by
  cases hact : s.boot.activation with
  | none => rw [State.revert_of_none hact]
  | some a =>
    cases hfails : healthFails a.phase k with
    | false => rw [State.revert_of_passes hact hfails]
    | true =>
      rw [State.revert_of_fails hact hfails]
      have hbegun : (s.revertBegun a).flash = s.flash := s.revertBegun_sameBut a .flash (by simp)
      have hnoted : ((s.revertBegun a).revertNoted k).flash = (s.revertBegun a).flash := by
        have hpower : (s.revertBegun a).power = s.power := s.revertBegun_sameBut a .power (by simp)
        have hrecord := State.record_management_sameBut 0x0101 (u32s [k]) (s.revertBegun a).clearTrial
        refine Eq.trans (b := (s.revertBegun a).clearTrial.flash) (hrecord .flash (by simp)) ?_
        rw [State.clearTrial_of_closed (by rw [hpower, hnv])]
      have hrest := ((((State.revertPair_sameBut a ((s.revertBegun a).revertNoted k)).mono
        (w := [.boot, .planes, .host, .outbox]) (by simp)).trans ((State.revertStandby_sameBut a _).mono (by simp))).trans
        ((State.revertImages_sameBut a _).mono (by simp))).trans ((State.revertReplied_sameBut a _).mono (by simp))
      exact Eq.trans (b := ((s.revertBegun a).revertNoted k).flash) (hrest .flash (by simp)) (hnoted.trans hbegun)

/-- What the images of a revert are decided in: phase, DATA_STATE and build are those of its beginning. -/
def State.revertMid (s : State) (a : Activation) (k : Nat) : State :=
  (((s.revertBegun a).revertNoted k).revertPair a).revertStandby a

theorem State.revert_eq_mid (hact : s.boot.activation = some a) (hfails : healthFails a.phase k = true) :
    s.revert k = ((s.revertMid a k).revertImages a).revertReplied a := State.revert_of_fails hact hfails

theorem State.revertMid_reverted : Reverted s a (s.revertMid a k) :=
  (((Reverted.of_begun a s).noted k).pair).standby

theorem State.revertMid_job : (s.revertMid a k).job = s.job := by
  have h : SameBut revertParts s (s.revertMid a k) :=
    ((((s.revertBegun_sameBut a).mono (by simp)).trans ((State.revertNoted_sameBut k _).mono (by simp))).trans
      ((State.revertPair_sameBut a _).mono (by simp))).trans ((State.revertStandby_sameBut a _).mono (by simp))
  exact h .job (by simp)

theorem State.revertPair_data (a : Activation) (t : State) : (t.revertPair a).planes.data = t.planes.data := by
  have hevent : (t.event 5 0x0B08 0).planes = t.planes := t.event_sameBut 5 0x0B08 0 .planes (by simp)
  obtain heq | heq : t.revertPair a = t.beginTransit 0x0B08 ∨ t.revertPair a = t.event 5 0x0B08 0 := ite_eq_or_eq _ _ _
  · rw [heq]
    rfl
  · rw [heq, hevent]

theorem State.revertStandby_data (a : Activation) (t : State) : (t.revertStandby a).planes.data = t.planes.data := by
  obtain heq | heq : t.revertStandby a = _ ∨ t.revertStandby a = _ := ite_eq_or_eq _ _ _ <;> rw [heq]

theorem State.revertNoted_dataBank (t : State) : (t.revertNoted k).boot.dataBank = t.boot.dataBank := by
  obtain ⟨trial, waits, hboot⟩ := t.clearTrial_boot
  have hrecord : (t.revertNoted k).boot = t.clearTrial.boot := State.record_management_sameBut _ _ _ .boot (by simp)
  rw [hrecord, hboot]

/-- DATA_STATE and the bank of the images stay as they are until the images go back. -/
theorem State.revertMid_data : (s.revertMid a k).planes.data = s.planes.data := by
  have hnoted : ((s.revertBegun a).revertNoted k).planes = (s.revertBegun a).planes :=
    State.revertNoted_sameBut k _ .planes (by simp)
  rw [State.revertMid, State.revertStandby_data, State.revertPair_data, hnoted]
  rfl

theorem State.revertMid_dataBank : (s.revertMid a k).boot.dataBank = s.boot.dataBank := by
  have hstandby : (s.revertMid a k).boot = (((s.revertBegun a).revertNoted k).revertPair a).boot :=
    State.revertStandby_sameBut a _ .boot (by simp)
  have hpair : (((s.revertBegun a).revertNoted k).revertPair a).boot = ((s.revertBegun a).revertNoted k).boot :=
    State.revertPair_sameBut a _ .boot (by simp)
  rw [hstandby, hpair, State.revertNoted_dataBank]
  rfl

theorem State.revertMid_standby (hphase : a.phase = .control) : (s.revertMid a k).planes.standby = .failed := by
  have heq : s.revertMid a k = { ((s.revertBegun a).revertNoted k).revertPair a with planes :=
      { (((s.revertBegun a).revertNoted k).revertPair a).planes with standby := .failed } } := if_pos hphase
  rw [heq]

/-- In a build the images of a failed health window wait (R479). -/
theorem State.revert_waits (hact : s.boot.activation = some a) (hfails : healthFails a.phase k = true)
    (hphase : a.phase = .window) (hdata : s.planes.data ≠ .idle) (hbuild : s.job.ending = false) :
    (s.revert k).boot.revertPending = some a.old ∧ (s.revert k).boot.dataBank = s.boot.dataBank := by
  have hwaits : (s.revertMid a k).revertImages a = { s.revertMid a k with boot :=
      { (s.revertMid a k).boot with revertPending := some a.old } } := by
    refine if_pos ⟨hphase, ?_⟩
    rw [State.revertMid_data, State.revertMid_job, hbuild]
    simpa using hdata
  have hreply : (s.revert k).boot = ((s.revertMid a k).revertImages a).boot := by
    rw [State.revert_eq_mid hact hfails]
    exact State.revertReplied_sameBut a _ .boot (by simp)
  rw [hreply, hwaits]
  exact ⟨rfl, State.revertMid_dataBank⟩

/-- In DATA_STATE 1 the images go back at once (R479). -/
theorem State.revert_dataBank (hact : s.boot.activation = some a) (hfails : healthFails a.phase k = true)
    (hdata : s.planes.data = .idle) : (s.revert k).boot.dataBank = s.boot.confirmed := by
  have hback : (s.revertMid a k).revertImages a = (s.revertMid a k).imagesBack a.old := by
    have hmgmt := (State.revertMid_reverted (s := s) (a := a) (k := k)).mgmt
    have hplanes : ((s.revertMid a k).imagesBack a.old).planes = (s.revertMid a k).planes :=
      State.imagesBack_sameBut a.old _ .planes (by simp)
    have hrestarts : ((s.revertMid a k).imagesBack a.old).planes.mgmt = .restarting := by rw [hplanes, hmgmt]
    refine (if_neg fun ⟨_, hno⟩ => hno (.inl ?_)).trans (State.revertSettled_of_restarting hrestarts)
    rw [State.revertMid_data, hdata]
  have hreply : (s.revert k).boot = ((s.revertMid a k).revertImages a).boot := by
    rw [State.revert_eq_mid hact hfails]
    exact State.revertReplied_sameBut a _ .boot (by simp)
  obtain ⟨mr, hboot, -⟩ := (s.revertMid a k).imagesBack_boot a.old
  rw [hreply, hback, hboot]
  exact State.revertMid_reverted.confirmed

theorem State.revert_standby (hact : s.boot.activation = some a) (hfails : healthFails a.phase k = true)
    (hphase : a.phase = .control) : (s.revert k).planes.standby = .failed := by
  have himages : ((s.revertMid a k).revertImages a).planes = (s.revertMid a k).planes :=
    State.revertImages_sameBut a _ .planes (by simp)
  have hreply : (s.revert k).planes = ((s.revertMid a k).revertImages a).planes := by
    rw [State.revert_eq_mid hact hfails]
    exact State.revertReplied_sameBut a _ .planes (by simp)
  rw [hreply, himages, State.revertMid_standby hphase]

/-! ## The end of the health window (R480) -/

/-- The health window is over. -/
def State.windowOver (a : Activation) (s : State) : State :=
  { s with boot := { s.boot with
    updState := 6, windowFor := none, activation := some { a with phase := .confirming } } }

theorem execHealthWindowEnd_of_early (h : ∀ a w, s.boot.activation = some a → s.boot.windowFor = some w →
      a.phase ≠ .window ∨ w + 1 < 2400000000) : exec .healthWindowEnd s = .next s := by
  refine congrArg Host.Outcome.next ?_
  split
  next a w hact hwindow => exact if_pos (h a w hact hwindow)
  next => rfl

theorem execHealthWindowEnd_of_due (hact : s.boot.activation = some a) (hphase : a.phase = .window) {w : Nat}
    (hwindow : s.boot.windowFor = some w) (hdue : 2400000000 ≤ w + 1) : exec .healthWindowEnd s =
      .next (if s.power.nvOpen then (s.windowOver a).confirmUpdate else s.windowOver a) := by
  refine congrArg Host.Outcome.next ?_
  rw [hact, hwindow]
  exact if_neg (not_or.2 ⟨not_not.2 hphase, not_lt.2 hdue⟩)

/-- The bank of activation `b` is confirmed, but for the record. -/
def State.confirmed (b : Activation) (s : State) : State :=
  let s := s.writeHeader fun h => { h with confirmed := b.bank, trial := none }
  { s with boot := { s.boot with
    confirmed := b.bank, trial := false, trialWaits := false, updResult := 1, updState := 0, activation := none, windowFor := none } }

theorem State.confirmUpdate_of_some {b : Activation} (h : s.boot.activation = some b) :
    s.confirmUpdate = (s.confirmed b).record 0x0102 .management [] := by
  unfold State.confirmUpdate
  rw [h]
  rfl

theorem execHealthWindowEnd_confirms (hact : s.boot.activation = some a) (hphase : a.phase = .window) {w : Nat}
    (hwindow : s.boot.windowFor = some w) (hdue : 2400000000 ≤ w + 1) : ∃ t, exec .healthWindowEnd s = .next t ∧
      SameBut [.boot, .flash, .tail] s t ∧ t.boot.windowFor = none ∧
      (s.power.nvOpen = true → t.boot.confirmed = a.bank ∧ t.boot.updResult = 1 ∧ t.boot.updState = 0 ∧
        t.boot.activation = none ∧
        t.flash = (s.writeHeader fun h => { h with confirmed := a.bank, trial := none }).flash) ∧
      (s.power.nvOpen = false → t.boot.updState = 6 ∧ t.boot.confirmed = s.boot.confirmed ∧
        t.boot.activation = some { a with phase := .confirming }) := by
  have hexec := execHealthWindowEnd_of_due hact hphase hwindow hdue
  have hover : SameBut [.boot, .flash, .tail] s (s.windowOver a) := (sameBut_boot s _).mono (by simp)
  cases hnv : s.power.nvOpen with
  | false =>
    rw [hnv] at hexec
    exact ⟨s.windowOver a, hexec, hover, rfl, Bool.noConfusion, fun _ => ⟨rfl, rfl, rfl⟩⟩
  | true =>
    rw [hnv, if_pos rfl, State.confirmUpdate_of_some (s := s.windowOver a) rfl] at hexec
    have hrecord := State.record_management_sameBut 0x0102 [] ((s.windowOver a).confirmed { a with phase := .confirming })
    have hconfirmed : SameBut [.boot, .flash, .tail] (s.windowOver a)
        ((s.windowOver a).confirmed { a with phase := .confirming }) :=
      ((State.writeHeader_sameBut _ _).mono (by simp)).trans ((sameBut_boot _ _).mono (by simp))
    have hboot := hrecord .boot (by simp)
    refine ⟨_, hexec, (hover.trans hconfirmed).trans (hrecord.mono (by simp)), congrArg Boot.windowFor hboot,
      fun _ => ⟨congrArg Boot.confirmed hboot, congrArg Boot.updResult hboot, congrArg Boot.updState hboot,
        congrArg Boot.activation hboot, hrecord .flash (by simp)⟩, Bool.noConfusion⟩

end

/-- Settles O57: the commands by their checks, each completion row by the activation it finds, and a revert step by
step. -/
theorem updatesAreWrittenCheckedAndActivated : Obligations.UpdatesAreWrittenCheckedAndActivated := by
  refine ⟨fun e s t f => ⟨exec_updStatus, ?_, exec_updVerify, fun h hz => ⟨exec_updActivate_starts h hz,
      exec_updActivate_closed h hz, exec_updActivate_again h hz⟩, ?_, exec_updNadir⟩,
    fun s c r h => ⟨fun x => execUpdChecksDone_fails h, fun d hd => ⟨execUpdChecksDone_verified h hd,
      execUpdChecksDone_refused h hd, execUpdChecksDone_activates h hd⟩⟩,
    fun s => execUpdChecksDone_of_none, fun s => execMgmtRestartDone_of_up,
    fun s h => ⟨execMgmtRestartDone_of_restarting h, fun a => State.mgmtBack_management, fun a => State.mgmtBack_other,
      State.mgmtBack_plain, State.mgmtBack_reverted⟩,
    fun s => execStandbyReady_of_other, fun s hstandby hctl => ⟨execStandbyReady_plain hstandby hctl,
      fun a => execStandbyReady_transit hstandby hctl⟩,
    fun s => execTransitPauseEnd_of_other, fun s h => ?_, fun s k => execHealthFailure_passes, fun s a k hact hphase => ?_,
    fun s => execHealthWindowEnd_of_early, fun s a hact hphase w => execHealthWindowEnd_confirms hact hphase⟩
  · rintro _ _ rfl rfl h hz hend hlo hhi hlen hnv hact
    exact exec_updWrite_writes h hz hend hlo hhi hlen hnv hact
  · rintro _ _ rfl rfl h hz hlo hhi haddr hnv
    exact exec_updMgmtAddr h hz hlo hhi haddr hnv
  · by_cases htransit : ∃ a, s.boot.activation = some a ∧ a.phase = .transit
    · obtain ⟨a, hact, hphase⟩ := htransit
      obtain ⟨t, hexec, ⟨-, hheld⟩, hctl, hpair, hstandby, hrest⟩ := execTransitPauseEnd_activation h hact hphase
      refine ⟨t, hexec, hctl, hpair, hheld, fun hno => absurd hphase (hno a hact), fun b hb _ => ?_⟩
      obtain rfl : a = b := Option.some.inj (hact.symm.trans hb)
      exact ⟨hstandby, hrest⟩
    · have hno (a : Activation) (ha : s.boot.activation = some a) : a.phase ≠ .transit := fun hphase => htransit ⟨a, ha, hphase⟩
      obtain ⟨t, hexec, ⟨-, hheld⟩, hctl, hpair, hstandby⟩ := execTransitPauseEnd_takeover h hno
      exact ⟨t, hexec, hctl, hpair, hheld, fun _ => hstandby, fun a ha hphase => absurd hphase (hno a ha)⟩
  · have hfails := healthFails_iff.2 hphase
    obtain ⟨hnone, hresult, hstate, hwindow, hbank, -, hmgmt, hmr⟩ := State.revert_reverted hact hfails
    exact ⟨s.revert k, rfl, s.revert_sameBut k, hnone, hresult, hstate, hwindow, hbank, hmgmt, hmr, State.revert_flash,
      State.revert_standby hact hfails, State.revert_pause hact hfails, State.revert_waits hact hfails,
      State.revert_dataBank hact hfails⟩

end Sys2Proof.Machine
end

section
/-!
O54: temperatures (R439–R442, R485): what a breach does to its entry, the limits, a conversion, and the second.
-/

namespace Sys2Proof.Machine

/-! ## Entries -/

theorem State.thm_of_power {s t : State} (h : t.power.thm = s.power.thm) (i : Nat) : t.thm i = s.thm i := by
  rw [State.thm, h]
  rfl

theorem State.thm_modThm_same {i : Nat} (hi : i < 22) (f : ThmEntry → ThmEntry) (s : State) :
    (s.modThm i f).thm i = f (s.thm i) := nth_upd_same _ _ _ hi

theorem State.thm_modThm_other {i k : Nat} (h : k ≠ i) (f : ThmEntry → ThmEntry) (s : State) :
    (s.modThm i f).thm k = s.thm k := nth_upd_other _ _ _ h

theorem State.modThm_sameBut (i : Nat) (f : ThmEntry → ThmEntry) (s : State) : SameBut [.power] s (s.modThm i f) :=
  sameBut_power s _

/-! ## A limit (R441) -/

theorem Limit.step_beyond {l : Limit} (hrun : l.run = 0) (hlive : l.live = false) (b : Bool) :
    l.step true b = { live := false, run := 1 } := by
  simp [Limit.step, hrun, hlive]

theorem Limit.step_back {l : Limit} (hrun : l.run = 0) (hlive : l.live = true) (b : Bool) :
    l.step b true = { live := true, run := 1 } := by
  simp [Limit.step, hrun, hlive]

/-- The second of two readings in a row counts, the first alone does not. -/
theorem Limit.two_in_a_row {l : Limit} (hrun : l.run = 0) :
    (l.live = false → (∀ b, (l.step true b).live = false ∧ ((l.step true b).step true b).live = true ∧
      ((l.step true b).step false b).run = 0 ∧ ((l.step true b).step false b).live = false)) ∧
    (l.live = true → ∀ b, (l.step b true).live = true ∧ ((l.step b true).step b true).live = false) := by
  refine ⟨fun hlive b => ?_, fun hlive b => ?_⟩
  · rw [Limit.step_beyond hrun hlive]
    exact ⟨rfl, rfl, rfl, rfl⟩
  · rw [Limit.step_back hrun hlive]
    exact ⟨rfl, rfl⟩

/-! ## A breach (R442) -/

/-- A breach of limit `limit` is latched and counted. -/
def ThmEntry.noteBreach (limit : Nat) (t : ThmEntry) : ThmEntry :=
  { t with latched := t.latched ||| ((1 : W32) <<< limit), breach := t.breach.inc }

/-- The parts that a breach changes: its entry, its record, and what its trigger changes. -/
def breachParts : List Part :=
  [.power, .eclipse, .engines, .arb, .tail, .mem, .job, .recoat, .host, .outbox]

/-- A breach is recorded. -/
def State.breachNoted (i limit : Nat) (s : State) : State :=
  let s := s.modThm i (ThmEntry.noteBreach limit)
  s.record 0x00E0 .management (u32s [i, limit, unsignedOf 32 (s.thm i).reading])

/-- The code of a breach. -/
def breachCode (limit : Nat) : Code := if limit = 1 then 0x0803 else if limit = 2 then 0x0804 else 0x0802

/-- While the core die is powered a breach brings the entry's channels into Eclipse. -/
theorem State.breach_eq (i limit : Nat) (x : EphTherm) (s : State) : s.breach i limit x =
    if (s.breachNoted i limit).power.core then
      (s.breachNoted i limit).trigger (fun n => x.eclipseAll || bitOf x.eclipseMask n) 3 (breachCode limit)
    else s.breachNoted i limit := by
  unfold State.breach State.breachNoted breachCode
  rfl

section
variable (i limit : Nat) (x : EphTherm) (s : State)

theorem State.breachNoted_sameBut : SameBut [.power, .tail] s (s.breachNoted i limit) :=
  ((s.modThm_sameBut i _).mono (by simp)).trans ((State.record_management_sameBut _ _ _).mono (by simp))

theorem State.breachNoted_power :
    (s.breachNoted i limit).power = (s.modThm i (ThmEntry.noteBreach limit)).power :=
  State.record_management_sameBut _ _ _ .power (by simp)

theorem State.breach_sameBut : SameBut breachParts s (s.breach i limit x) := by
  have hnoted : SameBut breachParts s (s.breachNoted i limit) :=
    (s.breachNoted_sameBut i limit).mono (by simp [breachParts])
  rw [State.breach_eq]
  exact .ite (hnoted.trans ((State.trigger_sameBut _ _ _ _).mono (by simp [breachParts]))) hnoted

theorem State.breach_power :
    (s.breach i limit x).power = (s.modThm i (ThmEntry.noteBreach limit)).power := by
  rw [← State.breachNoted_power, State.breach_eq]
  exact ite_power (State.power_of_trunk (State.trigger_trunk ..)) rfl

theorem State.breach_thm_same (hi : i < 22) : (s.breach i limit x).thm i = (s.thm i).noteBreach limit := by
  rw [State.thm, State.breach_power]
  exact State.thm_modThm_same hi _ s

variable {i} in
theorem State.breach_thm_other {k : Nat} (h : k ≠ i) : (s.breach i limit x).thm k = s.thm k := by
  rw [State.thm, State.breach_power]
  exact State.thm_modThm_other h _ s

end

/-- A breach of an entry with ECLIPSE_ALL brings every declared channel into Eclipse (R442). -/
theorem State.breach_eclipses {s : State} {x : EphTherm} (hall : x.eclipseAll = true) (hcore : s.power.core = true)
    (i limit : Nat) {n : Nat} (hn : n < 32) (hd : s.declared n = true) : (s.breach i limit x).eclipsed n = true := by
  have heph : (s.breachNoted i limit).eph = s.eph := s.breachNoted_sameBut i limit .eph (by simp)
  have hdecl : (s.breachNoted i limit).declared n = true := (State.declared_congr heph n).trans hd
  have hon : (s.breachNoted i limit).power.core = true := by
    rw [State.breachNoted_power]
    exact hcore
  rw [State.breach_eq, if_pos hon]
  exact State.trigger_eclipsed 3 _ hn hdecl (by rw [hall]; rfl)

/-! ## The limits of an entry (R441) -/

/-- HIGH of an entry after a reading. -/
def EphTherm.judgeHigh (x : EphTherm) (r : Int) (l : Limit) : Limit :=
  l.step (decide (x.high < r)) (decide (r ≤ x.high - 128))

/-- LOW of an entry after a reading. -/
def EphTherm.judgeLow (x : EphTherm) (r : Int) (l : Limit) : Limit :=
  l.step (decide (r < x.low)) (decide (x.low + 128 ≤ r))

/-- Both limits are judged. -/
def State.judged (i : Nat) (x : EphTherm) (r : Int) (s : State) : State :=
  s.modThm i fun t => { t with high := x.judgeHigh r (s.thm i).high, low := x.judgeLow r (s.thm i).low }

/-- A limit that goes live is a breach. -/
def State.breachIf (c : Bool) (i limit : Nat) (x : EphTherm) (s : State) : State :=
  if c then s.breach i limit x else s

/-- What a breach leaves of an entry. -/
def ThmEntry.shown (t : ThmEntry) : Int × Bool × Bool × Limit × Limit := (t.reading, t.valid, t.fault, t.high, t.low)

section
variable {i : Nat} {x : EphTherm} {r : Int} {s : State}

theorem State.breachIf_sameBut (c : Bool) (limit : Nat) : SameBut breachParts s (s.breachIf c i limit x) :=
  .ite (s.breach_sameBut i limit x) (.refl _ s)

theorem State.breachIf_thm_other (c : Bool) (limit : Nat) {k : Nat} (h : k ≠ i) :
    (s.breachIf c i limit x).thm k = s.thm k := by
  cases c
  · rfl
  · exact State.breach_thm_other limit x s h

theorem State.breachIf_shown (hi : i < 22) (c : Bool) (limit : Nat) :
    ((s.breachIf c i limit x).thm i).shown = (s.thm i).shown := by
  cases c
  · rfl
  · exact (congrArg ThmEntry.shown (State.breach_thm_same i limit x s hi) :)

theorem State.limits_eq : s.limits i x r =
    ((s.judged i x r).breachIf ((x.judgeHigh r (s.thm i).high).live && !(s.thm i).high.live) i 0 x).breachIf
      ((x.judgeLow r (s.thm i).low).live && !(s.thm i).low.live) i 1 x := rfl

theorem State.limits_sameBut : SameBut breachParts s (s.limits i x r) := by
  rw [State.limits_eq]
  exact (((s.modThm_sameBut i _).mono (by simp [breachParts])).trans (State.breachIf_sameBut _ 0)).trans
    (State.breachIf_sameBut _ 1)

theorem State.limits_thm_other {k : Nat} (h : k ≠ i) : (s.limits i x r).thm k = s.thm k := by
  rw [State.limits_eq, State.breachIf_thm_other _ _ h, State.breachIf_thm_other _ _ h]
  exact State.thm_modThm_other h _ s

theorem State.limits_shown (hi : i < 22) : ((s.limits i x r).thm i).shown =
    ((s.thm i).reading, (s.thm i).valid, (s.thm i).fault, x.judgeHigh r (s.thm i).high, x.judgeLow r (s.thm i).low) := by
  rw [State.limits_eq, State.breachIf_shown hi, State.breachIf_shown hi]
  exact congrArg ThmEntry.shown (State.thm_modThm_same hi _ s)

/-- A limit that stays as it is, or ends, breaches nothing. -/
theorem not_goes_live {l m : Limit} (h : l.live = m.live) : (l.live && !m.live) = false := by
  rw [h]
  exact Bool.and_not_self _

theorem State.limits_quiet (hhigh : (x.judgeHigh r (s.thm i).high).live = (s.thm i).high.live)
    (hlow : (x.judgeLow r (s.thm i).low).live = (s.thm i).low.live) : s.limits i x r = s.judged i x r := by
  rw [State.limits_eq, not_goes_live hhigh, not_goes_live hlow]
  rfl

theorem State.limits_breach (hgoes : (x.judgeHigh r (s.thm i).high).live = true) (hwas : (s.thm i).high.live = false)
    (hlow : (x.judgeLow r (s.thm i).low).live = (s.thm i).low.live) :
    s.limits i x r = (s.judged i x r).breach i 0 x := by
  rw [State.limits_eq, not_goes_live hlow, hgoes, hwas]
  rfl

end

/-! ## What a conversion is followed by -/

theorem State.flushHeader_sameBut (s : State) : SameBut [.boot, .flash] s s.flushHeader := by
  unfold State.flushHeader
  split
  · exact .ite ((s.writeHeader_sameBut _).mono (by simp) |>.trans ((sameBut_boot _ _).mono (by simp))) (.refl _ s)
  · exact .refl _ s

theorem State.confirmUpdate_sameBut (s : State) : SameBut [.boot, .flash, .tail] s s.confirmUpdate := by
  cases h : s.boot.activation with
  | none =>
    unfold State.confirmUpdate
    rw [h]
    exact .refl _ s
  | some a =>
    rw [State.confirmUpdate_of_some h]
    exact (((s.writeHeader_sameBut _).mono (by simp)).trans ((sameBut_boot _ _).mono (by simp))).trans
      ((State.record_management_sameBut _ _ _).mono (by simp))

theorem State.nvWork_sameBut (s : State) : SameBut [.boot, .flash, .tail] s s.nvWork := by
  unfold State.nvWork
  refine .ite (.refl _ s) ((s.flushHeader_sameBut.mono (by simp)).trans ?_)
  have htrial (t : State) : SameBut [.boot, .flash, .tail] t (if t.boot.trialWaits then t.clearTrial else t) :=
    .ite (t.clearTrial_sameBut.mono (by simp)) (.refl _ t)
  exact (htrial _).trans (.ite (State.confirmUpdate_sameBut _) (.refl _ _))

theorem State.modCal_sameBut (i : Nat) (f : CalSubject → CalSubject) (s : State) : SameBut [.cal] s (s.modCal i f) :=
  sameBut_cal s _

theorem State.calDue_sameBut (s : State) : SameBut [.cal] s s.calDue :=
  .foldl (fun t i => .ite (t.modCal_sameBut i _) (.refl _ t)) _ s

/-- The parts that the NV window's work and the calibrations change after a conversion. -/
def settleParts : List Part := [.power, .boot, .flash, .tail, .cal, .host, .outbox]

/-- The NV window is judged, and what waited for it is done; a core-die or companion-die reading may make a calibration
due. -/
def State.settled (i : Nat) (s : State) : State :=
  if 16 ≤ i then s.nvCheck.nvWork.calDue.calStart else s.nvCheck.nvWork

section
variable (i : Nat) (s : State)

theorem State.settled_sameBut : SameBut settleParts s (s.settled i) := by
  have hwork : SameBut settleParts s s.nvCheck.nvWork :=
    ((sameBut_power s _).mono (by simp [settleParts])).trans (s.nvCheck.nvWork_sameBut.mono (by simp [settleParts]))
  exact .ite ((hwork.trans ((State.calDue_sameBut _).mono (by simp [settleParts]))).trans
    ((State.calStart_step _).frame.mono (by simp [settleParts]))) hwork

theorem State.settled_power : (s.settled i).power = s.nvCheck.power := by
  unfold State.settled
  split
  · rw [State.power_of_trunk ((State.calStart_trunk _).trans (State.calDue_trunk _)), State.nvWork_power]
  · rw [State.nvWork_power]

theorem State.settled_thm (k : Nat) : (s.settled i).thm k = s.thm k :=
  State.thm_of_power (by rw [State.settled_power]; rfl) k

theorem State.settled_eclipsed (n : Nat) : (s.settled i).eclipsed n = s.eclipsed n := by
  have h : (s.settled i).eclipse = s.eclipse := s.settled_sameBut i .eclipse (by simp [settleParts])
  rw [State.eclipsed, h]
  rfl

end

/-! ## A conversion (R439, R440) -/

section
variable {i : Nat} {s : State}

/-- A reading is stored. -/
def State.readingTaken (i : Nat) (r : Int) (s : State) : State := s.clockMgmt.modThm i (ThmEntry.note r)

/-- No reading is to be had: of a remote sensor that is a fault. -/
def State.readingLost (i : Nat) (s : State) : State :=
  s.clockMgmt.modThm i fun t => { t with valid := false, fault := decide (i < 16) }

theorem State.convert_ignored (h : 22 ≤ i ∨ (i < 16 ∧ (s.power.vin = false ∨ s.thmEntry? i = none)))
    (reading : Option Int) : s.convert i reading = s := by
  refine if_pos ?_
  obtain hi | ⟨hi, hvin | hnone⟩ := h
  · exact .inl hi
  · exact .inr (.inl (by rw [hvin]; rfl))
  · exact .inr (.inr ⟨hi, by rw [hnone]; rfl⟩)

/-- An entry that is read: a remote sensor that is used, a powered core die, the companion die. -/
def State.thmRead (i : Nat) (s : State) : Prop :=
  i < 22 ∧ s.power.vin = true ∧ (i < 16 → (s.thmEntry? i).isSome = true) ∧ (i < 16 ∨ 20 ≤ i ∨ s.power.core = true)

theorem State.thmRead.listened (h : s.thmRead i) :
    ¬ (22 ≤ i ∨ (!s.power.vin) = true ∨ (i < 16 ∧ (s.thmEntry? i).isNone = true)) := by
  obtain ⟨hi, hvin, hused, -⟩ := h
  rintro (hno | hno | ⟨hlt, hno⟩)
  · omega
  · simp [hvin] at hno
  · exact absurd (hused hlt) (by simpa using hno)

theorem State.thmRead.powered (h : s.thmRead i) :
    ¬ ((decide (16 ≤ i) && decide (i < 20) && !s.power.core) = true) := by
  obtain ⟨-, -, -, hcore⟩ := h
  simp only [Bool.and_eq_true, decide_eq_true_eq, Bool.not_eq_true']
  rintro ⟨⟨hlo, hhi⟩, hoff⟩
  obtain hno | hno | hno := hcore
  · omega
  · omega
  · rw [hno] at hoff
    cases hoff

theorem State.convert_reading (h : s.thmRead i) (r : Int) : s.convert i (some r) =
    (match s.thmEntry? i with
    | some x => (s.readingTaken i r).limits i x r
    | none => s.readingTaken i r).settled i :=
  (if_neg h.listened).trans (if_neg h.powered)

theorem State.convert_none (h : s.thmRead i) : s.convert i none =
    (match s.thmEntry? i with
    | some x => (s.readingLost i).breachIf (decide (i < 16) && !(s.thm i).fault) i 3 x
    | none => s.readingLost i).settled i :=
  (if_neg h.listened).trans (if_neg h.powered)

theorem State.convert_core_off (hlo : 16 ≤ i) (hhi : i < 20) (hvin : s.power.vin = true) (hcore : s.power.core = false)
    (reading : Option Int) : s.convert i reading = s.modThm i fun t => { t with valid := false } := by
  refine (if_neg ?_).trans (if_pos ?_)
  · rintro (hno | hno | ⟨hno, -⟩)
    · omega
    · simp [hvin] at hno
    · omega
  · simp [hlo, hhi, hcore]

/-- Below the trip levels, and for an entry that has none, nothing trips (R443). -/
theorem State.trips_of_none {r : Int} (h : i < 16 ∨ 22 ≤ i ∨ r < 8000) : s.trips i r = s := by
  refine (if_neg ?_).trans (if_neg ?_)
  · rintro ⟨hlo, hhi, hr, -⟩
    omega
  · rintro ⟨hlo, hr, -⟩
    omega

theorem exec_sensorConversion {reading : Option Int} {t : State} (hconvert : s.convert i reading = t)
    (h : ∀ r, reading = some r → t.trips i r = t) : exec (.sensorConversion i reading) s = .next t := by
  subst hconvert
  cases reading with
  | none => rfl
  | some r => exact congrArg Host.Outcome.next (h r rfl)

theorem exec_sensorConversion_low {r : Int} (h : i < 16 ∨ r < 8000) :
    exec (.sensorConversion i (some r)) s = .next (s.convert i (some r)) :=
  congrArg Host.Outcome.next (State.trips_of_none (h.imp_right .inr))

end

section
variable {i : Nat} {x : EphTherm} {r : Int} {s : State}

theorem State.readingTaken_thm (hi : i < 22) : (s.readingTaken i r).thm i = (s.thm i).note r :=
  State.thm_modThm_same hi (ThmEntry.note r) s.clockMgmt

theorem State.readingTaken_thm_other {k : Nat} (h : k ≠ i) : (s.readingTaken i r).thm k = s.thm k :=
  State.thm_modThm_other h (ThmEntry.note r) s.clockMgmt

theorem State.readingTaken_sameBut : SameBut [.power] s (s.readingTaken i r) :=
  (sameBut_power s _).trans (s.clockMgmt.modThm_sameBut i _)

/-- HIGH and LOW of the entry, as a reading leaves them. -/
theorem State.thmRead.judges (h : s.thmRead i) (hentry : s.thmEntry? i = some x) :
    let t := s.convert i (some r)
    (t.thm i).shown = (r, true, false, x.judgeHigh r (s.thm i).high, x.judgeLow r (s.thm i).low) ∧
      ∀ k, k ≠ i → t.thm k = s.thm k := by
  obtain ⟨hi, -⟩ := id h
  have hnote := State.readingTaken_thm (s := s) (r := r) hi
  dsimp only
  rw [State.convert_reading h, hentry]
  refine ⟨?_, fun k hk => ?_⟩
  · rw [State.settled_thm, State.limits_shown hi, hnote]
    rfl
  · rw [State.settled_thm, State.limits_thm_other hk, State.readingTaken_thm_other hk]

theorem State.judged_thm (hi : i < 22) : (s.judged i x r).thm i = { s.thm i with
    high := x.judgeHigh r (s.thm i).high, low := x.judgeLow r (s.thm i).low } := State.thm_modThm_same hi _ s

theorem State.thmRead.quiet (h : s.thmRead i) (hentry : s.thmEntry? i = some x)
    (hhigh : (x.judgeHigh r (s.thm i).high).live = (s.thm i).high.live)
    (hlow : (x.judgeLow r (s.thm i).low).live = (s.thm i).low.live) :
    let t := s.convert i (some r)
    (t.thm i).breach = (s.thm i).breach ∧ (t.thm i).latched = (s.thm i).latched ∧ t.eclipse = s.eclipse := by
  obtain ⟨hi, -⟩ := id h
  have hnote := State.readingTaken_thm (s := s) (r := r) hi
  have hquiet : (s.readingTaken i r).limits i x r = (s.readingTaken i r).judged i x r :=
    State.limits_quiet (by rw [hnote]; exact hhigh) (by rw [hnote]; exact hlow)
  dsimp only
  rw [State.convert_reading h, hentry]
  dsimp only
  rw [hquiet, State.settled_thm, State.judged_thm hi, hnote]
  exact ⟨rfl, rfl, State.settled_sameBut i _ .eclipse (by simp [settleParts])⟩

theorem State.thmRead.breaches (h : s.thmRead i) (hentry : s.thmEntry? i = some x)
    (hgoes : (x.judgeHigh r (s.thm i).high).live = true) (hwas : (s.thm i).high.live = false)
    (hlow : (x.judgeLow r (s.thm i).low).live = (s.thm i).low.live) :
    let t := s.convert i (some r)
    (t.thm i).breach = (s.thm i).breach.inc ∧ (t.thm i).latched = (s.thm i).latched ||| 1 ∧
      (x.eclipseAll = true → s.power.core = true → ∀ n, n < 32 → s.declared n = true → t.eclipsed n = true) := by
  obtain ⟨hi, -⟩ := id h
  have hnote := State.readingTaken_thm (s := s) (r := r) hi
  have hbreach : (s.readingTaken i r).limits i x r = ((s.readingTaken i r).judged i x r).breach i 0 x :=
    State.limits_breach (by rw [hnote]; exact hgoes) (by rw [hnote]; exact hwas) (by rw [hnote]; exact hlow)
  dsimp only
  rw [State.convert_reading h, hentry]
  dsimp only
  rw [hbreach, State.settled_thm, State.breach_thm_same _ _ _ _ hi, State.judged_thm hi, hnote]
  refine ⟨rfl, rfl, fun hall hcore n hn hd => ?_⟩
  have hpower : ((s.readingTaken i r).judged i x r).power.core = s.power.core := rfl
  have hdecl := State.declared_congr (s := s) (t := (s.readingTaken i r).judged i x r) rfl n
  rw [State.settled_eclipsed]
  exact State.breach_eclipses hall (hpower.trans hcore) i 0 hn (hdecl.trans hd)

/-- A reading of an entry that is not declared is only stored. -/
theorem State.thmRead.stores (h : s.thmRead i) (hentry : s.thmEntry? i = none) :
    let t := s.convert i (some r)
    (t.thm i).reading = r ∧ (t.thm i).valid = true ∧ (t.thm i).breach = (s.thm i).breach ∧ t.eclipse = s.eclipse := by
  obtain ⟨hi, -⟩ := id h
  dsimp only
  rw [State.convert_reading h, hentry]
  dsimp only
  rw [State.settled_thm, State.readingTaken_thm hi]
  exact ⟨rfl, rfl, rfl, State.settled_sameBut i _ .eclipse (by simp [settleParts])⟩

theorem State.readingLost_thm (hi : i < 22) : (s.readingLost i).thm i = { s.thm i with
    valid := false, fault := decide (i < 16) } := State.thm_modThm_same hi _ s.clockMgmt

/-- A remote sensor that cannot be read is at fault, which breaches once. -/
theorem State.thmRead.faults (h : s.thmRead i) (hremote : i < 16) (hentry : s.thmEntry? i = some x) :
    let t := s.convert i none
    (t.thm i).valid = false ∧ (t.thm i).fault = true ∧ (t.thm i).reading = (s.thm i).reading ∧
      ((s.thm i).fault = false → (t.thm i).breach = (s.thm i).breach.inc ∧ bitOf (t.thm i).latched 3 = true) ∧
      ((s.thm i).fault = true → (t.thm i).breach = (s.thm i).breach) := by
  obtain ⟨hi, -⟩ := id h
  dsimp only
  rw [State.convert_none h, hentry]
  dsimp only
  rw [State.settled_thm, decide_eq_true hremote, Bool.true_and]
  cases hfault : (s.thm i).fault with
  | true =>
    have heq : (s.readingLost i).breachIf (!true) i 3 x = s.readingLost i := rfl
    rw [heq, State.readingLost_thm hi]
    exact ⟨rfl, decide_eq_true hremote, rfl, Bool.noConfusion, fun _ => rfl⟩
  | false =>
    have heq : (s.readingLost i).breachIf (!false) i 3 x = (s.readingLost i).breach i 3 x := rfl
    rw [heq, State.breach_thm_same _ _ _ _ hi, State.readingLost_thm hi]
    refine ⟨rfl, decide_eq_true hremote, rfl, fun _ => ⟨rfl, ?_⟩, Bool.noConfusion⟩
    simp [ThmEntry.noteBreach, bitOf]

/-- An entry of the dies that has no reading is invalid, without a breach. -/
theorem State.thmRead.invalid (h : s.thmRead i) (hdie : 16 ≤ i) :
    ((s.convert i none).thm i).valid = false ∧ (s.convert i none).eclipse = s.eclipse := by
  obtain ⟨hi, -⟩ := id h
  have hlost : s.convert i none = (s.readingLost i).settled i := by
    rw [State.convert_none h, decide_eq_false (by omega : ¬ i < 16)]
    cases s.thmEntry? i <;> rfl
  rw [hlost, State.settled_thm, State.readingLost_thm hi]
  exact ⟨rfl, State.settled_sameBut i _ .eclipse (by simp [settleParts])⟩

end

/-! ## The second (R441, R485) -/

/-- What a second's rise makes of an entry declared as `x`. -/
def ThmEntry.risen (x : EphTherm) (q : Int) (t : ThmEntry) : ThmEntry :=
  let u := { t with rise := q, riseLive := decide ((x.riseMax : Int) < q) }
  if decide ((x.riseMax : Int) < q) && !t.riseLive then u.noteBreach 2 else u

/-- The rise of an entry, where it has one. -/
def ThmEntry.evaluated (decl : Option EphTherm) (t : ThmEntry) : ThmEntry :=
  match decl with
  | none => t
  | some x => match t.riseOver x.riseWin with
    | none => t
    | some q => t.risen x q

/-- The second's reading is kept. -/
def ThmEntry.remember (t : ThmEntry) : ThmEntry :=
  { t with history := ((if t.valid then some t.reading else none) :: t.history).take 60 }

/-- The rise of entry `i` evaluated. -/
def State.riseEvaluated (i : Nat) (s : State) : State :=
  match s.thmEntry? i with
  | none => s
  | some x => match (s.thm i).riseOver x.riseWin with
    | none => s
    | some q => (s.modThm i fun t => { t with rise := q, riseLive := decide ((x.riseMax : Int) < q) }).breachIf
        (decide ((x.riseMax : Int) < q) && !(s.thm i).riseLive) i 2 x

section
variable {i : Nat} {s : State}

theorem State.riseOne_eq : s.riseOne i = (s.riseEvaluated i).modThm i ThmEntry.remember := by
  unfold State.riseOne State.riseEvaluated
  cases s.thmEntry? i with
  | none => rfl
  | some x =>
    dsimp only
    cases (s.thm i).riseOver x.riseWin <;> rfl

theorem State.riseEvaluated_sameBut : SameBut breachParts s (s.riseEvaluated i) := by
  unfold State.riseEvaluated
  split
  · exact .refl _ s
  · split
    · exact .refl _ s
    · exact ((s.modThm_sameBut i _).mono (by simp [breachParts])).trans (State.breachIf_sameBut _ 2)

theorem State.riseEvaluated_thm_other {k : Nat} (h : k ≠ i) : (s.riseEvaluated i).thm k = s.thm k := by
  unfold State.riseEvaluated
  split
  · rfl
  · split
    · rfl
    · rw [State.breachIf_thm_other _ _ h, State.thm_modThm_other h]

theorem State.breachIf_thm_same (hi : i < 22) (c : Bool) (limit : Nat) (x : EphTherm) :
    (s.breachIf c i limit x).thm i = if c then (s.thm i).noteBreach limit else s.thm i := by
  cases c
  · rfl
  · exact State.breach_thm_same i limit x s hi

theorem State.riseEvaluated_thm (hi : i < 22) : (s.riseEvaluated i).thm i = (s.thm i).evaluated (s.thmEntry? i) := by
  unfold State.riseEvaluated ThmEntry.evaluated
  split
  · rfl
  · split
    · rfl
    · rw [State.breachIf_thm_same hi, State.thm_modThm_same hi]
      rfl

theorem State.riseOne_sameBut (i : Nat) (s : State) : SameBut breachParts s (s.riseOne i) := by
  rw [State.riseOne_eq]
  exact State.riseEvaluated_sameBut.trans ((State.modThm_sameBut i _ _).mono (by simp [breachParts]))

theorem State.riseOne_thm_other {k : Nat} (h : k ≠ i) : (s.riseOne i).thm k = s.thm k := by
  rw [State.riseOne_eq, State.thm_modThm_other h, State.riseEvaluated_thm_other h]

theorem State.riseOne_thm (hi : i < 22) :
    (s.riseOne i).thm i = ((s.thm i).evaluated (s.thmEntry? i)).remember := by
  rw [State.riseOne_eq, State.thm_modThm_same hi, State.riseEvaluated_thm hi]

/-- The rises of every entry. -/
def State.rises (s : State) : State := (List.range 22).foldl (fun s i => s.riseOne i) s

theorem State.rises_sameBut : SameBut breachParts s s.rises := .foldl (fun t i => t.riseOne_sameBut i) _ s

theorem State.thmEntry?_of_eph {t : State} (h : t.eph = s.eph) : t.thmEntry? i = s.thmEntry? i := by
  rw [State.thmEntry?, h]
  rfl

/-- Every entry is evaluated once a second. -/
theorem State.rises_thm (hi : i < 22) :
    s.rises.thm i = ((s.thm i).evaluated (s.thmEntry? i)).remember := by
  refine foldl_once (f := fun (t : State) j => t.riseOne j) (P := fun t : State => t.thm i = s.thm i ∧ t.eph = s.eph)
    (Q := fun t : State => t.thm i = ((s.thm i).evaluated (s.thmEntry? i)).remember)
    (fun t j hj ⟨ht, heph⟩ => ⟨(State.riseOne_thm_other hj.symm).trans ht, ?_⟩) (fun t ⟨ht, heph⟩ => ?_)
    (fun t j hj ht => (State.riseOne_thm_other hj.symm).trans ht) List.nodup_range (List.mem_range.2 hi) ⟨rfl, rfl⟩
  · have hone : (t.riseOne j).eph = t.eph := t.riseOne_sameBut j .eph (by simp [breachParts])
    exact hone.trans heph
  · rw [State.riseOne_thm hi, ht, State.thmEntry?_of_eph heph]

end

section
variable {x : EphTherm} {t : ThmEntry} {old : Int}

theorem ThmEntry.riseOver_of_old (hvalid : t.valid = true) {w : Nat} (hold : t.history[w - 1]? = some (some old)) :
    t.riseOver w = some ((t.reading - old).tdiv w) := by
  rw [ThmEntry.riseOver, hold]
  exact if_pos hvalid

/-- An evaluation leaves the reading and its history. -/
theorem ThmEntry.evaluated_kept (decl : Option EphTherm) :
    (t.evaluated decl).reading = t.reading ∧ (t.evaluated decl).valid = t.valid ∧ (t.evaluated decl).history = t.history := by
  unfold ThmEntry.evaluated
  split
  · exact ⟨rfl, rfl, rfl⟩
  · split
    · exact ⟨rfl, rfl, rfl⟩
    · unfold ThmEntry.risen
      dsimp only
      split <;> exact ⟨rfl, rfl, rfl⟩

theorem ThmEntry.risen_shows (q : Int) : (t.risen x q).rise = q ∧
    (t.risen x q).riseLive = decide ((x.riseMax : Int) < q) ∧
    ((x.riseMax : Int) < q → t.riseLive = false → (t.risen x q).breach = t.breach.inc) := by
  unfold ThmEntry.risen
  refine ⟨?_, ?_, fun hover hwas => ?_⟩
  · dsimp only
    split <;> rfl
  · dsimp only
    split <;> rfl
  · rw [hwas, decide_eq_true hover]
    rfl

end

/-- The clocks of the scrubbers (R390, R399). -/
theorem State.scrubClocks_sameBut (s : State) : SameBut [.mem] s s.scrubSecond.sramSecond := by
  have hstart (t : State) : SameBut [.mem] t t.startScrub := .ite (.refl _ t) (sameBut_mem t _)
  have hscrub : SameBut [.mem] s s.scrubSecond :=
    .ite (.refl _ s) ((sameBut_mem s _).trans (.ite (hstart _) (.refl _ _)))
  exact hscrub.trans (.ite (.refl _ _) (sameBut_mem _ _))

/-- An operating second counts (R485). -/
def State.secondCounted (s : State) : State := { s with boot := { s.boot with opsec := (s.boot.opsec + 1) % 2 ^ 40 } }

theorem execRiseEvaluation_on {s : State} (h : s.power.vin = true) :
    exec .riseEvaluation s = .next s.secondCounted.rises.scrubSecond.sramSecond :=
  congrArg Host.Outcome.next (if_neg (by simp [h]))

/-- The operating second, and what it makes of every entry. -/
theorem execRiseEvaluation_evaluates {s : State} (h : s.power.vin = true) : ∃ t, exec .riseEvaluation s = .next t ∧
    t.boot.opsec = (s.boot.opsec + 1) % 2 ^ 40 ∧
    ∀ i, i < 22 → t.thm i = ((s.thm i).evaluated (s.thmEntry? i)).remember := by
  have hclock := State.scrubClocks_sameBut s.secondCounted.rises
  have hboot : s.secondCounted.rises.boot = s.secondCounted.boot := State.rises_sameBut .boot (by simp [breachParts])
  have hpower : s.secondCounted.rises.scrubSecond.sramSecond.power = s.secondCounted.rises.power :=
    hclock .power (by simp)
  have hafter : s.secondCounted.rises.scrubSecond.sramSecond.boot = s.secondCounted.rises.boot := hclock .boot (by simp)
  refine ⟨_, execRiseEvaluation_on h, ?_, fun i hi => ?_⟩
  · rw [hafter, hboot]
    rfl
  · rw [State.thm, hpower]
    exact State.rises_thm (s := s.secondCounted) hi

/-- Settles O54: the limits by their counting, a conversion by what it finds, the second entry by entry. -/
theorem temperaturesAreJudgedAndBreachesAct : Obligations.TemperaturesAreJudgedAndBreachesAct := by
  refine ⟨fun l => Limit.two_in_a_row, fun s i x r hi hvin hentry hcore hr => ?_,
    fun s i x hi hvin hentry => ?_, fun s i r hlo hhi hvin hcore hr hentry => ?_, fun s i hlo hhi hvin hcore => ?_,
    fun s i r hlo hhi hr => ?_, fun s i r h => ?_, fun s hvin => ?_, fun s i r hlo hhi hvin hcore => ?_, fun s hvin => ?_⟩
  · have hread : s.thmRead i := ⟨hi, hvin, fun _ => by rw [hentry]; rfl, hcore⟩
    obtain ⟨hshown, hothers⟩ := hread.judges (r := r) hentry
    simp only [ThmEntry.shown, Prod.mk.injEq] at hshown
    obtain ⟨hreading, hvalid, hfault, hhigh, hlow⟩ := hshown
    exact ⟨_, exec_sensorConversion_low hr, hreading, hvalid, hfault, hhigh, hlow, fun k _ => hothers k,
      hread.quiet hentry, hread.breaches hentry⟩
  · have hread : s.thmRead i := ⟨by omega, hvin, fun _ => by rw [hentry]; rfl, .inl hi⟩
    exact ⟨s.convert i none, rfl, hread.faults hi hentry⟩
  · have hread : s.thmRead i := ⟨hhi, hvin, fun _ => by omega, .inr hcore⟩
    exact ⟨_, exec_sensorConversion_low (.inr hr), hread.stores hentry⟩
  · have hread : s.thmRead i := ⟨hhi, hvin, fun _ => by omega, .inr hcore⟩
    exact ⟨s.convert i none, rfl, hread.invalid hlo⟩
  · exact (congrArg Host.Outcome.next (if_pos ⟨hlo, hhi, hr⟩)).symm
  · exact exec_sensorConversion (State.convert_ignored h r) fun r _ => State.trips_of_none (by omega)
  · exact congrArg Host.Outcome.next (if_pos (by rw [hvin]; rfl))
  · exact ⟨_, exec_sensorConversion (State.convert_core_off hlo hhi hvin hcore r) fun r _ => State.trips_of_dark hhi _ hcore,
      s.modThm_sameBut i _, State.thm_modThm_same (by omega) _ s, fun k _ hk => State.thm_modThm_other hk _ s⟩
  · obtain ⟨t, hexec, hopsec, hthm⟩ := execRiseEvaluation_evaluates hvin
    refine ⟨t, hexec, hopsec, fun i hi => ?_⟩
    rw [hthm i hi]
    obtain ⟨hreading, hkept, hhistory⟩ := ThmEntry.evaluated_kept (t := s.thm i) (s.thmEntry? i)
    refine ⟨by rw [ThmEntry.remember, hreading, hkept, hhistory], hreading, fun x old hentry hvalid hold => ?_⟩
    have heval : (s.thm i).evaluated (s.thmEntry? i) = (s.thm i).risen x (((s.thm i).reading - old).tdiv x.riseWin) := by
      rw [hentry, ThmEntry.evaluated, ThmEntry.riseOver_of_old hvalid hold]
    rw [heval]
    exact ThmEntry.risen_shows _

end Sys2Proof.Machine
end

section
/-!
O56: TRUST_EXTEND, TRUST_QUOTE, QUOTE_SIGNED and TRUST_CERT (R467, R470–R472).
-/

namespace Sys2Proof.Machine

section
variable {e : Entry} {s t : State} {f : Flight}

/-- MR7 is extended with `d`, which the Tail records. -/
def State.trustExtended (f : Flight) (d : Digest) (s : State) : State :=
  (s.extend 7 d).record 0x0103 .management (u32s [f.slot] ++ (digestBytes d).take 16)

theorem State.trustExtended_boot (f : Flight) (d : Digest) (s : State) :
    (s.trustExtended f d).boot = (s.extend 7 d).boot :=
  State.record_management_sameBut _ _ _ .boot (by simp)

theorem exec_trustExtend (h : Dispatched 0x0C40 e s f t) (hz : (e.zeroFrom 0x18 40).1 = false) (hlo : 1 ≤ e.dataLen)
    (hhi : e.dataLen ≤ 65536) : ∃ u : State, exec (.trustExtend e) s = .next (u.ok f 0 0 []) ∧ SameBut [.boot, .tail] t u ∧
      nth 0 u.boot.mr 7 = extendMr (nth 0 t.boot.mr 7) (sha384 (slice e.data 0 e.dataLen)) ∧
      ∀ k, k < 7 → nth 0 u.boot.mr k = nth 0 t.boot.mr k := by
  refine ⟨t.trustExtended f (sha384 (slice e.data 0 e.dataLen)),
    (command_of_dispatched h _).trans (congrArg Host.Outcome.next (checked_of_none ?_ _ t)), ?_, ?_, fun k hk => ?_⟩
  · rw [firstBad_cons_of_pass hz, firstBad_cons_of_pass (decide_eq_false (by omega))]
    rfl
  · exact ((t.extend_sameBut 7 _).mono (by simp)).trans ((State.record_management_sameBut _ _ _).mono (by simp))
  · rw [State.trustExtended_boot]
    exact State.extend_mr_same (by decide) _ t
  · rw [State.trustExtended_boot]
    exact State.extend_mr_other (by omega) _ t

/-- The body of a quote (R470). -/
def quoteBody (e : Entry) (f : Flight) (b : Boot) : List Byte :=
  [0x51#8, 0x55#8, 0x4F#8, 0x54#8] ++ leBytes 2 1 ++ leBytes 1 f.slot ++ leBytes 1 0 ++ e.bytes 0x18 32 ++
    leBytes 4 b.pwrCycles.toNat ++ leBytes 8 b.opsec ++ leBytes 4 0 ++ b.mr.toList.flatMap digestBytes

/-- The quote that TRUST_QUOTE takes. -/
def quoteOf (e : Entry) (f : Flight) (b : Boot) : Quote where
  flight := f.id
  slot := f.slot
  port := f.port
  body := quoteBody e f b
  addr := e.bufAddr
  toBuffer := e.inline || e.bufLen == 536

/-- Quote `q` waits for its signature. -/
def State.quoting (q : Quote) (s : State) : State := { s with boot := { s.boot with quotes := s.boot.quotes ++ [q] } }

theorem exec_trustQuote (h : Dispatched 0x0C00 e s f t) (hz : (e.zeroFrom 0x38 8).1 = false)
    (hlen : e.bufLen = 0 ∨ e.bufLen = 536) :
    exec (.trustQuote e) s = .next ((t.launch f).quoting (quoteOf e f t.boot)) := by
  refine (command_of_dispatched h _).trans (congrArg Host.Outcome.next (checked_of_none ?_ _ t))
  rw [firstBad_cons_of_pass hz, firstBad_cons_of_pass (by obtain h | h := hlen <;> rw [h] <;> rfl)]
  rfl

theorem exec_trustQuote_waits (h : Dispatched 0x0C00 e s f t) (hz : (e.zeroFrom 0x38 8).1 = false)
    (hlen : e.bufLen = 0 ∨ e.bufLen = 536) : ∃ (u : State) (q : Quote), exec (.trustQuote e) s = .next u ∧
      SameBut [.boot, .host] t u ∧ u.boot = { t.boot with quotes := t.boot.quotes ++ [q] } ∧ q.flight = f.id ∧
      q.port = f.port ∧ q.toBuffer = (e.inline || e.bufLen == 536) ∧ q.body = quoteBody e f t.boot := by
  have hlaunch := t.launch_sameBut f
  have hboot : (t.launch f).boot = t.boot := hlaunch .boot (by simp)
  refine ⟨_, quoteOf e f t.boot, exec_trustQuote h hz hlen, (hlaunch.mono (by simp)).trans ((sameBut_boot _ _).mono (by simp)),
    ?_, rfl, rfl, rfl, rfl⟩
  rw [State.quoting, hboot]

theorem exec_trustCert (h : Dispatched 0x0C01 e s f t) (hz : (e.zeroFrom 0x18 40).1 = false)
    (hroom : (Config.certificate.take 1280).length ≤ e.room) : exec (.trustCert e) s =
      .next (t.ok f (Config.certificate.take 1280).length 0 (Config.certificate.take 1280)) := by
  refine (command_of_dispatched h _).trans (congrArg Host.Outcome.next (checked_of_none ?_ _ t))
  rw [firstBad_cons_of_pass hz, firstBad_cons_of_pass (decide_eq_false (not_lt.2 hroom))]
  rfl

end

section
variable {s : State}

theorem execQuoteSigned_of_idle (h : s.boot.quotes = [] ∨ s.planes.mgmt ≠ .running) : exec .quoteSigned s = .next s := by
  refine congrArg Host.Outcome.next ?_
  split
  next => rfl
  next q r hq =>
    have hmgmt : s.planes.mgmt ≠ .running := h.resolve_left (by rw [hq]; exact List.cons_ne_nil q r)
    exact if_pos (by simpa using hmgmt)

/-- The oldest quote leaves, with its signed bytes in the window of its port. -/
def State.quoteTaken (q : Quote) (r : List Quote) (d : List Byte) (s : State) : State :=
  State.modPort q.port (fun p => { p with quote := d }) { s with boot := { s.boot with quotes := r } }

theorem execQuoteSigned_of_cons {q : Quote} {r : List Quote} (hq : s.boot.quotes = q :: r) (hmgmt : s.planes.mgmt = .running) :
    let g := Config.quoteSign (sha384 q.body)
    let d := q.body ++ beBytes 48 g.1 ++ beBytes 48 g.2
    exec .quoteSigned s = .next ((s.quoteTaken q r d).finishId q.flight 0 0 0 false (if q.toBuffer = true then d else [])) := by
  refine congrArg Host.Outcome.next ?_
  rw [hq]
  exact if_neg (by rw [hmgmt]; decide)

end

/-- Settles O56: each command by its checks, and the signature by the oldest quote. -/
theorem trustCommandsExtendAndQuote : Obligations.TrustCommandsExtendAndQuote := by
  refine ⟨fun e s t f => ⟨exec_trustExtend, exec_trustQuote_waits, exec_trustCert⟩, fun s => execQuoteSigned_of_idle,
    fun s q r hq hmgmt => ⟨_, execQuoteSigned_of_cons hq hmgmt, ?_, rfl, fun hp => ?_⟩⟩
  · exact ((sameBut_boot s _).mono (by simp)).trans ((sameBut_host _ _).mono (by simp))
  · exact congrArg Port.quote (State.port_modPort_same hp _ _)

end Sys2Proof.Machine
end

section
/-!
O58: Nadir mode (R463, R482–R484): which frames are served, what each operation answers, and the reboot.
-/

namespace Sys2Proof.Machine

/-! ## Which frames are served -/

/-- The SEQ of a frame is later than the highest seen. -/
def NadirFrame.later (f : NadirFrame) (n : Nadir) : Bool :=
  match n.lastSeq with
  | none => true
  | some q => decide (0 < seqDiff 32 f.seq.toNat q.toNat)

theorem NadirFrame.later_of_new {f : NadirFrame} {n : Nadir}
    (h : n.lastSeq = none ∨ ∃ q, n.lastSeq = some q ∧ 0 < seqDiff 32 f.seq.toNat q.toNat) : f.later n = true := by
  unfold NadirFrame.later
  obtain h | ⟨q, h, hq⟩ := h
  · rw [h]
  · rw [h]
    exact decide_eq_true hq

theorem NadirFrame.later_of_old {f : NadirFrame} {n : Nadir} {q : W32} (h : n.lastSeq = some q)
    (hq : seqDiff 32 f.seq.toNat q.toNat ≤ 0) : f.later n = false := by
  rw [NadirFrame.later, h]
  exact decide_eq_false (not_lt.2 hq)

/-- The zero bytes of a frame are zero, and its LENGTH is that of its data. -/
def NadirFrame.wellFormed (f : NadirFrame) : Prop :=
  uAt f.bytes 5 1 = 0 ∧ uAt f.bytes 18 2 = 0 ∧ f.length = f.data.length ∧ f.length ≤ 1024

/-- A frame of operation `op` that Nadir mode takes up. -/
def State.nadirTakes (s : State) (f : NadirFrame) (op : Nat) : Prop :=
  s.planes.mgmt = .nadir ∧ f.crcOk = true ∧ f.op = op

/-- What a frame of operation `op` answers, of the state that its work leaves. -/
def NadirFrame.reply (f : NadirFrame) (op : Nat) (x : State × Code × W32 × List Byte) : State :=
  x.1.nadirReply { op := op, status := x.2.1, seq := f.seq, arg := x.2.2.1, data := x.2.2.2 }

section
variable {s : State} {f : NadirFrame} {op : Nat} {bad : List (Bool × Code)} {k : State → State × Code × W32 × List Byte}

theorem State.nadirFrame_of_dropped (h : f.crcOk = false ∨ s.planes.mgmt ≠ .nadir ∨ f.op ≠ op) :
    s.nadirFrame op f bad k = .next s := by
  refine congrArg Host.Outcome.next (if_pos ?_)
  obtain h | h | h := h <;> simp [h]

theorem State.nadirTakes.not_dropped (h : s.nadirTakes f op) :
    ¬ ((s.planes.mgmt != .nadir || !f.crcOk || f.op != op) = true) := by
  obtain ⟨hmgmt, hcrc, hop⟩ := h
  rw [hmgmt, hcrc, hop]
  simp

theorem State.nadirFrame_of_taken (h : s.nadirTakes f op) : s.nadirFrame op f bad k = .next (
    if !f.later s.boot.nadir then
      match s.boot.nadir.replies.find? fun r => r.seq == f.seq with
      | some r => s.send (.nadir r.bytes)
      | none => s
    else f.reply op (match (f.formBad ++ bad).find? (·.1) with
      | some (_, c) => (s, c, f.arg, [])
      | none => k s)) :=
  congrArg Host.Outcome.next (if_neg h.not_dropped)

theorem State.nadirFrame_of_repeated (h : s.nadirTakes f op) (hold : f.later s.boot.nadir = false) {r : NadirReply}
    (hr : s.boot.nadir.replies.find? (fun x => x.seq == f.seq) = some r) :
    s.nadirFrame op f bad k = .next { s with outbox := .nadir r.bytes :: s.outbox } := by
  rw [State.nadirFrame_of_taken h, hold, hr]
  rfl

theorem State.nadirFrame_of_forgotten (h : s.nadirTakes f op) (hold : f.later s.boot.nadir = false)
    (hr : s.boot.nadir.replies.find? (fun x => x.seq == f.seq) = none) : s.nadirFrame op f bad k = .next s := by
  rw [State.nadirFrame_of_taken h, hold, hr]
  rfl

theorem State.nadirFrame_rejects (h : s.nadirTakes f op) (hnew : f.later s.boot.nadir = true) {b : Bool} {c : Code}
    (hbad : (f.formBad ++ bad).find? (·.1) = some (b, c)) :
    s.nadirFrame op f bad k = .next (s.nadirReply { op := op, status := c, seq := f.seq, arg := f.arg, data := [] }) := by
  rw [State.nadirFrame_of_taken h, hnew, hbad]
  rfl

theorem State.nadirFrame_runs (h : s.nadirTakes f op) (hnew : f.later s.boot.nadir = true)
    (hgood : (f.formBad ++ bad).find? (·.1) = none) : s.nadirFrame op f bad k = .next (f.reply op (k s)) := by
  rw [State.nadirFrame_of_taken h, hnew, hgood]
  rfl

/-! ## The checks of a frame -/

theorem NadirFrame.wellFormed.formBad (h : f.wellFormed) : f.formBad = [(false, 0x0205), (false, 0x0206)] := by
  obtain ⟨h5, h18, hdata, hlen⟩ := h
  rw [NadirFrame.formBad, h5, h18, ← hdata, decide_eq_false (not_lt.2 hlen), bne_self_eq_false]
  simp only [bne_self_eq_false, Bool.or_self]

theorem NadirFrame.wellFormed.find (h : f.wellFormed) : (f.formBad ++ bad).find? (·.1) = bad.find? (·.1) := by
  rw [h.formBad]
  rfl

theorem NadirFrame.formBad_zero (h : uAt f.bytes 5 1 ≠ 0 ∨ uAt f.bytes 18 2 ≠ 0) :
    (f.formBad ++ bad).find? (·.1) = some (true, 0x0205) := by
  have hset : (uAt f.bytes 5 1 != 0 || uAt f.bytes 18 2 != 0) = true := by simpa using h
  rw [NadirFrame.formBad, hset]
  rfl

theorem NadirFrame.formBad_length (h5 : uAt f.bytes 5 1 = 0) (h18 : uAt f.bytes 18 2 = 0)
    (h : 1024 < f.length ∨ f.length ≠ f.data.length) : (f.formBad ++ bad).find? (·.1) = some (true, 0x0206) := by
  have hset : (decide (1024 < f.length) || f.length != f.data.length) = true := by simpa using h
  rw [NadirFrame.formBad, hset, h5, h18]
  rfl

theorem nadirPlain_of_plain (harg : f.arg = 0) (hdata : f.data = []) :
    nadirPlain f = [(false, 0x0204), (false, 0x0206)] := by
  rw [nadirPlain, harg, hdata]
  rfl

/-- ARG and data of an operation that takes only an ARG. -/
theorem argOnly_of_legal {p : Prop} [Decidable p] {c : Code} {l : List (Bool × Code)} (harg : ¬ p) (hdata : f.data = []) :
    ((decide p, c) :: (!f.data.isEmpty, 0x0206) :: l).find? (·.1) = l.find? (·.1) := by
  rw [decide_eq_false harg, hdata]
  rfl

end

/-! ## The operations (R483) -/

/-- The Nadir registers of `s` are `n`. -/
def State.withNadir (n : Nadir) (s : State) : State := { s with boot := { s.boot with nadir := n } }

theorem State.withNadir_sameBut (n : Nadir) (s : State) (w : List Part) : SameBut (.boot :: w) s (s.withNadir n) :=
  (sameBut_boot s _).mono (by simp)

/-- The staged image stands in bank `b`, which the boot header confirms. -/
def State.imageWritten (b : Bool) (s : State) : State :=
  ((s.flashErase (bankOfs b) bankBytes).flashWrite (bankOfs b) (s.stagingRead 0 (uAt (s.stagingRead 0 576) 0x10 4))).writeHeader
    fun h => { h with confirmed := b }

/-- The device confirms that bank, too. -/
def State.imageConfirmed (b : Bool) (s : State) : State :=
  { s.imageWritten b with boot := { (s.imageWritten b).boot with confirmed := b } }

theorem State.imageWritten_sameBut (b : Bool) (s : State) : SameBut [.flash] s (s.imageWritten b) :=
  ((sameBut_flash s _).trans (sameBut_flash _ _)).trans (State.writeHeader_sameBut _ _)

theorem State.imageConfirmed_nadir (b : Bool) (s : State) : (s.imageConfirmed b).boot.nadir = s.boot.nadir := by
  have hboot : (s.imageWritten b).boot = s.boot := s.imageWritten_sameBut b .boot (by simp)
  rw [State.imageConfirmed, hboot]

theorem State.imageConfirmed_sameBut (b : Bool) (s : State) : SameBut [.boot, .flash] s (s.imageConfirmed b) :=
  ((s.imageWritten_sameBut b).mono (by simp)).trans ((sameBut_boot _ _).mono (by simp))

section
variable (f : NadirFrame) (s : State)

theorem execNadirStatus_eq : exec (.nadirStatus f) s = s.nadirFrame 1 f (nadirPlain f) fun s =>
    (s, 0, f.arg, u32s [s.boot.nadir.cause, s.bootStatusWord.toNat, s.boot.nadir.lastTest.toNat]) := rfl

theorem execNadirLoad_eq : exec (.nadirLoad f) s =
    s.nadirFrame 2 f [(decide (bankBytes < f.arg.toNat + f.data.length), 0x0204)] fun s =>
      (s.withNadir { s.boot.nadir with
        staging := sbulk 0 s.boot.nadir.staging f.arg.toNat f.data, verified := false }, 0, f.arg, []) := rfl

theorem execNadirVerify_eq : exec (.nadirVerify f) s = s.nadirFrame 3 f (nadirPlain f) fun s =>
    let t := s.withNadir { s.boot.nadir with verified := (checkManifest s.stagingRead).toBool }
    match checkManifest s.stagingRead with
    | .ok _ => (t, 0, f.arg, [])
    | .error b => (t, b.code, f.arg, []) := rfl

theorem execNadirProgram_eq : exec (.nadirProgram f) s = s.nadirFrame 4 f [(decide (1 < f.arg.toNat), 0x0204),
    (!f.data.isEmpty, 0x0206), (!s.boot.nadir.verified, 0x0507), (!s.power.nvOpen, 0x0801)] fun s =>
      (s.imageConfirmed (f.arg == 1), 0, f.arg, []) := rfl

theorem execNadirMemtest_eq (defect : Option Nat) : exec (.nadirMemtest f defect) s =
    s.nadirFrame 5 f [(decide (1 < f.arg.toNat), 0x0204), (!f.data.isEmpty, 0x0206)] fun s =>
      (s.withNadir { s.boot.nadir with lastTest := if defect.isSome then 0x0B0A else 0 },
        if defect.isSome then 0x0B0A else 0, defect.elim f.arg (BitVec.ofNat 32), []) := rfl

theorem execNadirTailRead_eq : exec (.nadirTailRead f) s =
    s.nadirFrame 6 f [(decide (tailBytes < f.arg.toNat + 1024), 0x0204), (!f.data.isEmpty, 0x0206)] fun s =>
      (s, 0, f.arg, s.flashRead (tailOfs + f.arg.toNat) 1024) := rfl

end

/-! ## Answers -/

theorem State.nadirReply_sameBut (r : NadirReply) (s : State) : SameBut [.boot, .outbox] s (s.nadirReply r) :=
  ((sameBut_boot s _).mono (by simp)).trans ((sameBut_outbox _ _).mono (by simp))

/-- Command `c` answers frame `f` with the stored reply `r`; only the parts `w` change besides, and `p` holds then. -/
def NadirAnswers (s : State) (f : NadirFrame) (c : Instr) (r : NadirReply) (w : List Part) (p : State → Prop) : Prop :=
  ∃ t, exec c s = .next t ∧ t.outbox = .nadir r.bytes :: s.outbox ∧ SameBut ([.boot, .outbox] ++ w) s t ∧ r.seq = f.seq ∧
    t.boot.nadir.lastSeq = some f.seq ∧ t.boot.nadir.replies = (r :: s.boot.nadir.replies).take 32 ∧ p t

/-- A reply to state `u`, which the work of the command has left. -/
theorem NadirAnswers.of_reply {s u : State} {f : NadirFrame} {c : Instr} {r : NadirReply} {w : List Part} {p : State → Prop}
    (hexec : exec c s = .next (u.nadirReply r)) (hsame : SameBut (.boot :: w) s u) (houtbox : .outbox ∉ w)
    (hreplies : u.boot.nadir.replies = s.boot.nadir.replies) (hseq : r.seq = f.seq) (hp : p (u.nadirReply r)) :
    NadirAnswers s f c r w p := by
  have hout : u.outbox = s.outbox := hsame .outbox (by simp [houtbox])
  refine ⟨_, hexec, ?_, ?_, hseq, congrArg some hseq, ?_, hp⟩
  · rw [← hout]
    rfl
  · refine (hsame.mono fun q hq => ?_).trans ((State.nadirReply_sameBut r u).mono fun q hq => ?_)
    · obtain rfl | hq := List.mem_cons.1 hq
      · simp
      · simp [hq]
    · exact List.mem_append_left _ hq
  · rw [← hreplies]
    rfl

/-- A frame whose checks pass is answered with what its work returns. -/
theorem NadirAnswers.of_runs {s u : State} {f : NadirFrame} {i : Instr} {op : Nat} {bad : List (Bool × Code)}
    {k : State → State × Code × W32 × List Byte} {c : Code} {arg : W32} {d : List Byte} {w : List Part} {p : State → Prop}
    (hexec : exec i s = s.nadirFrame op f bad k) (h : s.nadirTakes f op) (hf : f.wellFormed)
    (hnew : f.later s.boot.nadir = true) (hbad : bad.find? (·.1) = none) (hk : k s = (u, c, arg, d))
    (hsame : SameBut (.boot :: w) s u) (houtbox : .outbox ∉ w)
    (hreplies : u.boot.nadir.replies = s.boot.nadir.replies)
    (hp : p (u.nadirReply { op := op, status := c, seq := f.seq, arg := arg, data := d })) :
    NadirAnswers s f i { op := op, status := c, seq := f.seq, arg := arg, data := d } w p := by
  refine .of_reply (hexec.trans ((State.nadirFrame_runs h hnew (hf.find.trans hbad)).trans ?_)) hsame houtbox hreplies rfl hp
  rw [hk]
  rfl

section
variable {s : State} {f : NadirFrame}

theorem nadirPlain_find (harg : f.arg = 0) (hdata : f.data = []) : (nadirPlain f).find? (·.1) = none := by
  rw [nadirPlain_of_plain harg hdata]
  rfl

/-- STATUS. -/
theorem exec_nadirStatus (h : s.nadirTakes f 1) (hf : f.wellFormed) (hnew : f.later s.boot.nadir = true) (harg : f.arg = 0)
    (hdata : f.data = []) : NadirAnswers s f (.nadirStatus f) {
      op := 1, status := 0, seq := f.seq, arg := 0
      data := u32s [s.boot.nadir.cause, s.bootStatusWord.toNat, s.boot.nadir.lastTest.toNat] } [] fun _ => True := by
  have hanswer : NadirAnswers s f (.nadirStatus f) _ [] fun _ => True :=
    .of_runs (execNadirStatus_eq f s) h hf hnew (nadirPlain_find harg hdata) rfl (.refl _ s) (by simp) rfl trivial
  rwa [harg] at hanswer

theorem exec_nadirStatus_arg (h : s.nadirTakes f 1) (hf : f.wellFormed) (hnew : f.later s.boot.nadir = true)
    (harg : f.arg ≠ 0) : NadirAnswers s f (.nadirStatus f)
      { op := 1, status := 0x0204, seq := f.seq, arg := f.arg, data := [] } [] fun t =>
      t.boot.nadir.staging = s.boot.nadir.staging := by
  have hbad : (f.formBad ++ nadirPlain f).find? (·.1) = some (true, 0x0204) := by
    rw [hf.find, nadirPlain, bne_iff_ne.2 harg]
    rfl
  exact .of_reply ((execNadirStatus_eq f s).trans (State.nadirFrame_rejects h hnew hbad)) (.refl _ s) (by simp) rfl rfl rfl

/-- LOAD. -/
theorem exec_nadirLoad (h : s.nadirTakes f 2) (hf : f.wellFormed) (hnew : f.later s.boot.nadir = true)
    (hfits : f.arg.toNat + f.data.length ≤ bankBytes) : NadirAnswers s f (.nadirLoad f)
      { op := 2, status := 0, seq := f.seq, arg := f.arg, data := [] } [] fun t =>
        t.boot.nadir.staging = sbulk 0 s.boot.nadir.staging f.arg.toNat f.data ∧ t.boot.nadir.verified = false := by
  have hgood : [(decide (bankBytes < f.arg.toNat + f.data.length), (0x0204 : Code))].find? (·.1) = none := by
    rw [decide_eq_false (not_lt.2 hfits)]
    rfl
  exact .of_runs (u := s.withNadir { s.boot.nadir with
    staging := sbulk 0 s.boot.nadir.staging f.arg.toNat f.data, verified := false }) (execNadirLoad_eq f s) h hf hnew hgood rfl
    (s.withNadir_sameBut _ []) (by simp) rfl ⟨rfl, rfl⟩

/-- VERIFY, of an image that stands the checks of R463. -/
theorem exec_nadirVerify_good (h : s.nadirTakes f 3) (hf : f.wellFormed) (hnew : f.later s.boot.nadir = true)
    (harg : f.arg = 0) (hdata : f.data = []) {d : BankDigests} (hd : checkManifest s.stagingRead = .ok d) :
    NadirAnswers s f (.nadirVerify f) { op := 3, status := 0, seq := f.seq, arg := 0, data := [] } [] fun t =>
      t.boot.nadir.verified = true := by
  have hanswer : NadirAnswers s f (.nadirVerify f) _ [] fun t => t.boot.nadir.verified = true :=
    .of_runs (u := s.withNadir { s.boot.nadir with verified := true }) (c := 0) (arg := f.arg) (d := [])
      (execNadirVerify_eq f s) h hf hnew (nadirPlain_find harg hdata) (by dsimp only; rw [hd]; rfl) (s.withNadir_sameBut _ []) (by simp) rfl rfl
  rwa [harg] at hanswer

theorem exec_nadirVerify_bad (h : s.nadirTakes f 3) (hf : f.wellFormed) (hnew : f.later s.boot.nadir = true)
    (harg : f.arg = 0) (hdata : f.data = []) {b : Bad} (hb : checkManifest s.stagingRead = .error b) :
    NadirAnswers s f (.nadirVerify f) { op := 3, status := b.code, seq := f.seq, arg := 0, data := [] } [] fun t =>
      t.boot.nadir.verified = false := by
  have hanswer : NadirAnswers s f (.nadirVerify f) _ [] fun t => t.boot.nadir.verified = false :=
    .of_runs (u := s.withNadir { s.boot.nadir with verified := false }) (c := b.code) (arg := f.arg) (d := [])
      (execNadirVerify_eq f s) h hf hnew (nadirPlain_find harg hdata) (by dsimp only; rw [hb]; rfl) (s.withNadir_sameBut _ []) (by simp) rfl rfl
  rwa [harg] at hanswer

/-- PROGRAM of a verified image. -/
theorem exec_nadirProgram (h : s.nadirTakes f 4) (hf : f.wellFormed) (hnew : f.later s.boot.nadir = true)
    (harg : f.arg.toNat ≤ 1) (hdata : f.data = []) (hverified : s.boot.nadir.verified = true)
    (hnv : s.power.nvOpen = true) : NadirAnswers s f (.nadirProgram f)
      { op := 4, status := 0, seq := f.seq, arg := f.arg, data := [] } [.flash] fun t =>
        t.boot.confirmed = (f.arg == 1) ∧ t.boot.nadir.staging = s.boot.nadir.staging := by
  have hgood : [(decide (1 < f.arg.toNat), (0x0204 : Code)), (!f.data.isEmpty, 0x0206),
      (!s.boot.nadir.verified, 0x0507), (!s.power.nvOpen, 0x0801)].find? (·.1) = none := by
    rw [argOnly_of_legal (not_lt.2 harg) hdata, hverified, hnv]
    rfl
  have hnadir := s.imageConfirmed_nadir (f.arg == 1)
  exact .of_runs (u := s.imageConfirmed (f.arg == 1)) (execNadirProgram_eq f s) h hf hnew hgood rfl
    (s.imageConfirmed_sameBut _) (by simp) (congrArg Nadir.replies hnadir)
    ⟨rfl, (congrArg Nadir.staging hnadir :)⟩

/-- MEMTEST. -/
theorem exec_nadirMemtest (h : s.nadirTakes f 5) (hf : f.wellFormed) (hnew : f.later s.boot.nadir = true)
    (harg : f.arg.toNat ≤ 1) (hdata : f.data = []) (defect : Option Nat) : NadirAnswers s f (.nadirMemtest f defect)
      { op := 5, status := if defect.isSome then 0x0B0A else 0, seq := f.seq
        arg := defect.elim f.arg (BitVec.ofNat 32), data := [] } [] fun t =>
        t.boot.nadir.lastTest = if defect.isSome then 0x0B0A else 0 := by
  have hgood : [(decide (1 < f.arg.toNat), (0x0204 : Code)), (!f.data.isEmpty, 0x0206)].find? (·.1) = none := by
    rw [argOnly_of_legal (not_lt.2 harg) hdata]
    rfl
  exact .of_runs (u := s.withNadir { s.boot.nadir with lastTest := if defect.isSome then 0x0B0A else 0 })
    (execNadirMemtest_eq f s defect) h hf hnew hgood rfl (s.withNadir_sameBut _ []) (by simp) rfl rfl

/-- TAIL_READ. -/
theorem exec_nadirTailRead (h : s.nadirTakes f 6) (hf : f.wellFormed) (hnew : f.later s.boot.nadir = true)
    (harg : f.arg.toNat + 1024 ≤ tailBytes) (hdata : f.data = []) : NadirAnswers s f (.nadirTailRead f)
      { op := 6, status := 0, seq := f.seq, arg := f.arg, data := s.flashRead (tailOfs + f.arg.toNat) 1024 } []
      fun _ => True := by
  have hgood : [(decide (tailBytes < f.arg.toNat + 1024), (0x0204 : Code)), (!f.data.isEmpty, 0x0206)].find? (·.1) =
      none := by
    rw [argOnly_of_legal (not_lt.2 harg) hdata]
    rfl
  exact .of_runs (u := s) (execNadirTailRead_eq f s) h hf hnew hgood rfl (.refl _ s) (by simp) rfl trivial

/-! ## REBOOT (R483) -/

/-- Boot from step 2: the power-cycle count stays, and the strap or the confirmed bank decides (R464). -/
theorem State.bootFrom2_decides (env : BootEnv) (s : State) : (s.bootFrom2 env).boot.pwrCycles = s.boot.pwrCycles ∧
    (env.strap = true → (s.bootFrom2 env).planes.mgmt = .nadir ∧ (s.bootFrom2 env).boot.nadir.cause = 1) ∧
    (env.strap = false → manifestBad (s.bankRead s.heldHeader.confirmed 0 576) = none →
      (s.bootFrom2 env).planes.mgmt = .running ∧ (s.bootFrom2 env).boot.running = s.heldHeader.confirmed) := by
  rw [State.bootFrom2_eq]
  cases env.strap with
  | true =>
    rw [if_pos rfl]
    obtain ⟨hmgmt, hcause, hcycles, -⟩ := s.takeHeader.enterNadir_boot 1
    exact ⟨hcycles, fun _ => ⟨hmgmt, hcause⟩, Bool.noConfusion⟩
  | false =>
    obtain ⟨hcycles, -⟩ := State.of_bootKey s.takeHeader.noteTrial_bootKey
    have hread (b : Bool) : s.takeHeader.noteTrial.bankRead b 0 576 = s.bankRead b 0 576 :=
      State.bankRead_congr (by rw [State.noteTrial_flash, State.takeHeader_flash]) ..
    rw [if_neg Bool.false_ne_true, State.pickBank]
    simp only [State.noteTrial_confirmed, State.takeHeader_confirmed, hread, Option.isNone_iff_eq_none]
    have hboots (b fallback : Bool) := State.of_bootKey (s.takeHeader.noteTrial.bankBoot_bootKey env b fallback)
    split
    case isTrue hgood =>
      obtain ⟨h1, -, hrun, -, hmgmt⟩ := hboots s.heldHeader.confirmed false
      exact ⟨h1.trans hcycles, Bool.noConfusion, fun _ _ => ⟨hmgmt, hrun⟩⟩
    case isFalse hbad =>
      refine ⟨?_, Bool.noConfusion, fun _ hgood => absurd hgood hbad⟩
      split
      · obtain ⟨h1, -⟩ := hboots (!s.heldHeader.confirmed) true
        exact h1.trans hcycles
      · obtain ⟨-, -, h1, -⟩ := s.takeHeader.noteTrial.enterNadir_boot 2
        exact h1.trans hcycles

/-- What a reboot begins from. -/
def State.rebooting (s : State) : State :=
  { s.powerReset false with tail := s.tail, boot := { (s.powerReset false).boot with mr := s.boot.mr } }

/-- REBOOT is served as a frame, and then the device boots. -/
def State.rebootGoes (s : State) (f : NadirFrame) : Bool :=
  s.planes.mgmt == .nadir && f.crcOk && f.op == 7 && (f.formBad ++ nadirPlain f).all (!·.1) && f.later s.boot.nadir

theorem exec_nadirReboot_stays (env : BootEnv) (h : s.rebootGoes f = false) :
    exec (.nadirReboot f env) s = s.nadirFrame 7 f (nadirPlain f) fun s => (s, 0, f.arg, []) :=
  congrArg Host.Outcome.next (if_pos (by rw [Bool.not_eq_true']; exact h))

theorem exec_nadirReboot (env : BootEnv) (h : s.nadirTakes f 7) (hf : f.wellFormed) (hnew : f.later s.boot.nadir = true)
    (harg : f.arg = 0) (hdata : f.data = []) :
    exec (.nadirReboot f env) s = .next ((f.reply 7 (s, 0, f.arg, [])).rebooting.bootFrom2 env) := by
  have hgo : s.rebootGoes f = true := by
    obtain ⟨hmgmt, hcrc, hop⟩ := h
    rw [State.rebootGoes, hmgmt, hcrc, hop, hf.formBad, nadirPlain_of_plain harg hdata, hnew]
    rfl
  have hrun := State.nadirFrame_runs (k := fun s => (s, 0, f.arg, [])) h hnew (hf.find.trans (nadirPlain_find harg hdata))
  unfold exec execNadirReboot
  dsimp only
  rw [hrun]
  exact congrArg Host.Outcome.next (if_neg (by rw [Bool.not_eq_true', Bool.not_eq_false]; exact hgo))

/-- What the power cycle keeps of flash and boot registers goes into the boot. -/
theorem NadirFrame.reply_rebooting (x : Code × W32 × List Byte) :
    (f.reply 7 (s, x)).rebooting.flash = s.flash ∧ (f.reply 7 (s, x)).rebooting.boot.pwrCycles = s.boot.pwrCycles :=
  ⟨rfl, rfl⟩

theorem exec_nadirReboot_boots (env : BootEnv) (h : s.nadirTakes f 7) (hf : f.wellFormed)
    (hnew : f.later s.boot.nadir = true) (harg : f.arg = 0) (hdata : f.data = []) :
    ∃ t, exec (.nadirReboot f env) s = .next t ∧ t.boot.pwrCycles = s.boot.pwrCycles ∧
      (env.strap = true → t.planes.mgmt = .nadir ∧ t.boot.nadir.cause = 1) ∧
      (∀ b, env.strap = false → b = ((s.header?.map (·.1)).getD BootHeader.blank).confirmed →
        manifestBad (s.bankRead b 0 576) = none → t.planes.mgmt = .running ∧ t.boot.running = b) := by
  obtain ⟨hflash, hpwr⟩ := NadirFrame.reply_rebooting (s := s) (f := f) (0, f.arg, [])
  obtain ⟨hcycles, hstrap, hbank⟩ := State.bootFrom2_decides env (f.reply 7 (s, 0, f.arg, [])).rebooting
  have hheader : (f.reply 7 (s, 0, f.arg, [])).rebooting.heldHeader = s.heldHeader := by
    rw [State.heldHeader, State.header?_congr hflash]
    rfl
  rw [hheader, State.bankRead_congr hflash] at hbank
  refine ⟨_, exec_nadirReboot env h hf hnew harg hdata, hcycles.trans hpwr, hstrap, ?_⟩
  rintro _ hno rfl hgood
  exact hbank hno hgood

/-! ## Frames that Nadir mode does not run -/

/-- What does not reboot is a frame like any other. -/
theorem nadirCommand_frame {x : Option Nat} {env : BootEnv} {n : Nat} {c : Instr}
    (hc : (n, c) ∈ [(1, Instr.nadirStatus f), (2, .nadirLoad f), (3, .nadirVerify f), (4, .nadirProgram f),
      (5, .nadirMemtest f x), (6, .nadirTailRead f), (7, .nadirReboot f env)])
    (hgo : n = 7 → s.rebootGoes f = false) : ∃ bad k, exec c s = s.nadirFrame n f bad k := by
  simp only [List.mem_cons, Prod.mk.injEq, List.not_mem_nil, or_false] at hc
  obtain ⟨rfl, rfl⟩ | ⟨rfl, rfl⟩ | ⟨rfl, rfl⟩ | ⟨rfl, rfl⟩ | ⟨rfl, rfl⟩ | ⟨rfl, rfl⟩ | ⟨rfl, rfl⟩ := hc
  · exact ⟨_, _, execNadirStatus_eq f s⟩
  · exact ⟨_, _, execNadirLoad_eq f s⟩
  · exact ⟨_, _, execNadirVerify_eq f s⟩
  · exact ⟨_, _, execNadirProgram_eq f s⟩
  · exact ⟨_, _, execNadirMemtest_eq f s x⟩
  · exact ⟨_, _, execNadirTailRead_eq f s⟩
  · exact ⟨_, _, exec_nadirReboot_stays env (hgo rfl)⟩

theorem rebootGoes_of_dropped (h : f.crcOk = false ∨ s.planes.mgmt ≠ .nadir ∨ f.op ≠ 7) : s.rebootGoes f = false := by
  unfold State.rebootGoes
  obtain h | h | h := h
  · rw [h, Bool.and_false, Bool.false_and, Bool.false_and, Bool.false_and]
  · rw [beq_eq_false_iff_ne.2 h, Bool.false_and, Bool.false_and, Bool.false_and, Bool.false_and]
  · rw [beq_eq_false_iff_ne.2 h, Bool.and_false, Bool.false_and, Bool.false_and]

theorem rebootGoes_of_bad {b : Bool × Code} (h : (f.formBad ++ nadirPlain f).find? (·.1) = some b) :
    s.rebootGoes f = false := by
  have hall : (f.formBad ++ nadirPlain f).all (!·.1) = false := by
    refine List.all_eq_false.2 ⟨b, List.mem_of_find?_eq_some h, ?_⟩
    simpa using List.find?_some h
  unfold State.rebootGoes
  rw [hall, Bool.and_false, Bool.false_and]

theorem rebootGoes_of_old (h : f.later s.boot.nadir = false) : s.rebootGoes f = false := by
  unfold State.rebootGoes
  rw [h, Bool.and_false]

end

/-- Settles O58: each operation of a new frame, and the frames that are dropped, refused or repeated. -/
theorem nadirFramesAreServed : Obligations.NadirFramesAreServed := by
  refine ⟨fun s f hmgmt hcrc h5 h18 hdata hlen hnew => ?_, fun s f x env n c hc => ⟨fun hdropped => ?_,
    fun hcrc hmgmt hop hnew => ⟨fun hzero => ?_, fun h5 h18 hlen => ?_⟩, fun q hcrc hmgmt hop hlast hold => ?_⟩⟩
  · have hf : f.wellFormed := ⟨h5, h18, hdata, hlen⟩
    have hlater := NadirFrame.later_of_new hnew
    exact ⟨fun hop => exec_nadirStatus ⟨hmgmt, hcrc, hop⟩ hf hlater,
      fun hop => exec_nadirStatus_arg ⟨hmgmt, hcrc, hop⟩ hf hlater,
      fun hop => exec_nadirLoad ⟨hmgmt, hcrc, hop⟩ hf hlater,
      fun hop harg hdata => ⟨fun d => exec_nadirVerify_good ⟨hmgmt, hcrc, hop⟩ hf hlater harg hdata,
        fun b => exec_nadirVerify_bad ⟨hmgmt, hcrc, hop⟩ hf hlater harg hdata⟩,
      fun hop => exec_nadirProgram ⟨hmgmt, hcrc, hop⟩ hf hlater,
      fun hop harg hdata => ⟨exec_nadirMemtest ⟨hmgmt, hcrc, hop⟩ hf hlater harg hdata none,
        fun o => exec_nadirMemtest ⟨hmgmt, hcrc, hop⟩ hf hlater harg hdata (some o)⟩,
      fun hop => exec_nadirTailRead ⟨hmgmt, hcrc, hop⟩ hf hlater,
      fun env hop => exec_nadirReboot_boots env ⟨hmgmt, hcrc, hop⟩ hf hlater⟩
  · obtain ⟨bad, k, hexec⟩ := nadirCommand_frame (s := s) hc fun h7 => rebootGoes_of_dropped (h7 ▸ hdropped)
    exact hexec.trans (State.nadirFrame_of_dropped hdropped)
  · obtain ⟨bad, k, hexec⟩ := nadirCommand_frame (s := s) hc fun _ => rebootGoes_of_bad (NadirFrame.formBad_zero hzero)
    exact hexec.trans (State.nadirFrame_rejects ⟨hmgmt, hcrc, hop⟩ (NadirFrame.later_of_new hnew)
      (NadirFrame.formBad_zero hzero))
  · obtain ⟨bad, k, hexec⟩ := nadirCommand_frame (s := s) hc fun _ =>
      rebootGoes_of_bad (NadirFrame.formBad_length h5 h18 hlen)
    exact hexec.trans (State.nadirFrame_rejects ⟨hmgmt, hcrc, hop⟩ (NadirFrame.later_of_new hnew)
      (NadirFrame.formBad_length h5 h18 hlen))
  · have hlater := NadirFrame.later_of_old hlast hold
    obtain ⟨bad, k, hexec⟩ := nadirCommand_frame (s := s) hc fun _ => rebootGoes_of_old hlater
    exact ⟨fun r hr => hexec.trans (State.nadirFrame_of_repeated ⟨hmgmt, hcrc, hop⟩ hlater hr),
      fun hr => hexec.trans (State.nadirFrame_of_forgotten ⟨hmgmt, hcrc, hop⟩ hlater hr)⟩

end Sys2Proof.Machine
end

section
/-!
O59: the Tail recorder (R488–R499): its commands, the two steps of a record, the erase, the windows and the hold.
-/

namespace Sys2Proof.Machine

/-! ## FULL, FREEZE and the waiting freezes (R493, R495, R496) -/

/-- FULL is noted. -/
theorem State.noteFull_tail (s : State) : s.noteFull.tail =
    { s.tail with full := s.tail.full || s.tail.noRoom (s.tailNext.elim 44 (·.length)) } := by
  unfold State.noteFull
  cases s.tail.noRoom (s.tailNext.elim 44 (·.length))
  · rw [Bool.or_false]
    rfl
  · rw [Bool.or_true]
    rfl

theorem State.noteFull_tailNext (s : State) : s.noteFull.tailNext = s.tailNext := by
  have hpower : s.noteFull.power = s.power := s.noteFull_sameBut .power (by simp)
  rw [State.tailNext, State.noteFull_tail, hpower]
  rfl

/-- While nothing is programmed FREEZE takes effect at once. -/
theorem State.setFreeze_of_idle {s : State} (h : s.tail.busy = none) (on : Bool) :
    s.setFreeze on = { s with tail := { s.tail with freeze := on } } := by
  unfold State.setFreeze
  dsimp only
  rw [h]

/-- What waiting freezes leave of the Tail while nothing is programmed. -/
def Tail.unfrozen (t : Tail) : Tail := { t with freeze := false, freezeWaits := [] }

theorem State.tailFrozen_unfrozen {s : State} (h : s.tail.busy = none) :
    s.tailFrozen.tail.unfrozen = s.tail.unfrozen ∧ s.tailFrozen.tail.freezeWaits = [] := by
  refine List.foldlRecOn (motive := fun t : State =>
    t.tail.unfrozen = s.tail.unfrozen ∧ t.tail.freezeWaits = []) _ _ ⟨rfl, rfl⟩ fun t ⟨ht, hwaits⟩ w _ => ?_
  have hsame : t.tail.unfrozen.busy = s.tail.unfrozen.busy := congrArg Tail.busy ht
  have hbusy : t.tail.busy = none := hsame.trans h
  have hframe : ((t.setFreeze w.2).finishId w.1 0 0 0 false []).tail = (t.setFreeze w.2).tail :=
    State.finishId_sameBut _ _ _ _ _ _ _ .tail (by simp)
  rw [hframe, State.setFreeze_of_idle hbusy]
  exact ⟨ht, hwaits⟩

theorem State.tailFrozen_sameBut (s : State) : SameBut [.tail, .host, .outbox] s s.tailFrozen :=
  ((sameBut_tail s _).mono (by simp)).trans (.foldl (fun (t : State) (w : Nat × Bool) =>
    ((t.setFreeze_sameBut w.2).mono (by simp)).trans ((State.finishId_sameBut _ _ _ _ _ _ _).mono (by simp))) _ _)

/-! ## Commands (R498, R499) -/

section
variable {e : Entry} {s t : State} {f : Flight}

theorem exec_tailStatus (h : Dispatched 0x0B00 e s f t) (hz : (e.zeroFrom 0x18 40).1 = false) :
    exec (.tailStatus e) s = .next (t.ok f (t.tailStatusWord.toNat + t.tail.wpos * 2 ^ 32)
      (t.tail.first.toNat + t.tail.seqNext.toNat * 2 ^ 32) []) := by
  refine (command_of_dispatched h _).trans (congrArg Host.Outcome.next (checked_of_none ?_ _ t))
  rw [firstBad_cons_of_pass hz]
  rfl

theorem exec_tailFreeze (h : Dispatched 0x0B40 e s f t) (hon : e.u 0x18 1 ≤ 1) (hz : (e.zeroFrom 0x19 39).1 = false) :
    exec (.tailFreeze e) s = .next (if t.tail.busy.isSome then
      { t.launch f with tail := { (t.launch f).tail with
        freezeWaits := (t.launch f).tail.freezeWaits ++ [(f.id, e.u 0x18 1 == 1)] } }
      else (t.setFreeze (e.u 0x18 1 == 1)).ok f 0 0 []) := by
  refine (command_of_dispatched h _).trans (congrArg Host.Outcome.next (checked_of_none ?_ _ t))
  rw [firstBad_cons_of_pass (decide_eq_false (not_lt.2 hon)), firstBad_cons_of_pass hz]
  rfl

theorem exec_tailFreeze_idle (h : Dispatched 0x0B40 e s f t) (hon : e.u 0x18 1 ≤ 1) (hz : (e.zeroFrom 0x19 39).1 = false)
    (hbusy : t.tail.busy = none) : ∃ u : State, exec (.tailFreeze e) s = .next (u.ok f 0 0 []) ∧ SameBut [.tail] t u ∧
      u.tail = { t.tail with freeze := e.u 0x18 1 == 1 } := by
  refine ⟨t.setFreeze (e.u 0x18 1 == 1), (exec_tailFreeze h hon hz).trans (congrArg _ (if_neg ?_)),
    t.setFreeze_sameBut _, ?_⟩
  · rw [hbusy]
    exact Bool.false_ne_true
  · rw [State.setFreeze_of_idle hbusy]

theorem exec_tailFreeze_busy (h : Dispatched 0x0B40 e s f t) (hon : e.u 0x18 1 ≤ 1) (hz : (e.zeroFrom 0x19 39).1 = false)
    (hbusy : t.tail.busy.isSome = true) : ∃ u : State, exec (.tailFreeze e) s = .next u ∧ SameBut [.tail, .host] t u ∧
      u.tail = { t.tail with freezeWaits := t.tail.freezeWaits ++ [(f.id, e.u 0x18 1 == 1)] } := by
  have hlaunch := t.launch_sameBut f
  have htail : (t.launch f).tail = t.tail := hlaunch .tail (by simp)
  refine ⟨_, (exec_tailFreeze h hon hz).trans (congrArg _ (if_pos hbusy)),
    (hlaunch.mono (by simp)).trans ((sameBut_tail _ _).mono (by simp)), ?_⟩
  rw [htail]

/-- Every record takes the next SEQ, whether it finds room or not. -/
theorem State.recordAt_seqNext (time : Option Nat) (stage : Bool) (type : Nat) (plane : Plane) (payload : List Byte)
    (s : State) : (s.recordAt time stage type plane payload).tail.seqNext = s.tail.seqNext + 1 := by
  unfold State.recordAt
  dsimp only
  split
  · rfl
  · split
    · split
      · split <;> rfl
      · rfl
    · split <;> rfl

theorem State.record_seqNext (type : Nat) (plane : Plane) (payload : List Byte) (s : State) :
    (s.record type plane payload).tail.seqNext = s.tail.seqNext + 1 := s.recordAt_seqNext _ _ _ _ _

theorem exec_tailNote (h : Dispatched 0x0B41 e s f t) (hz : (e.zeroFrom 0x18 40).1 = false) (hlo : 12 ≤ e.dataLen)
    (hhi : e.dataLen ≤ 1020) (hfour : e.dataLen % 4 = 0) (hfull : t.tail.full = false) : ∃ u : State,
      exec (.tailNote e) s = .next (u.ok f t.tail.seqNext.toNat 0 []) ∧ SameBut [.tail, .mem] t u ∧
      u.tail.seqNext = t.tail.seqNext + 1 := by
  refine ⟨t.record 0x0002 .control (u32s [f.slot] ++ slice e.data 0 e.dataLen),
    (command_of_dispatched h _).trans (congrArg Host.Outcome.next (checked_of_none ?_ _ t)),
    t.record_sameBut _ _ _, t.record_seqNext _ _ _⟩
  rw [firstBad_cons_of_pass hz, firstBad_cons_of_pass (decide_eq_false (by omega)), firstBad_cons_of_pass hfull]
  rfl

/-- The erase that a TAIL_CLEAR starts. -/
def Tail.clearing (f : Flight) (t : Tail) : TailErase where
  flights := [f.id]
  slot := f.slot
  first := t.first
  last := t.lastValid.getD (t.seqNext - 1)

/-- An erase begins. -/
def State.eraseBegun (f : Flight) (s : State) : State :=
  { s with tail := { s.tail with erase := some (s.tail.clearing f) } }

theorem exec_tailClear (h : Dispatched 0x0B42 e s f t) (hz : (e.zeroFrom 0x18 40).1 = false)
    (hnv : t.power.nvOpen = true) : exec (.tailClear e) s = .next (match (t.launch f).tail.erase with
      | some x => { t.launch f with tail := { (t.launch f).tail with erase := some { x with flights := x.flights ++ [f.id] } } }
      | none => (t.launch f).tailMark.eraseBegun f) := by
  refine (command_of_dispatched h _).trans (congrArg Host.Outcome.next (checked_of_none ?_ _ t))
  rw [firstBad_cons_of_pass hz, firstBad_cons_of_pass (by rw [hnv]; rfl)]
  rfl

theorem State.tailMark_of_idle (h : s.tail.busy = none) : s.tailMark = s := by
  rw [State.tailMark, h]

theorem exec_tailClear_idle (h : Dispatched 0x0B42 e s f t) (hz : (e.zeroFrom 0x18 40).1 = false)
    (hnv : t.power.nvOpen = true) (herase : t.tail.erase = none) (hbusy : t.tail.busy = none) : ∃ u : State,
      exec (.tailClear e) s = .next u ∧ SameBut [.tail, .host] t u ∧
      u.tail = { t.tail with erase := some (t.tail.clearing f) } := by
  have hlaunch := t.launch_sameBut f
  have htail : (t.launch f).tail = t.tail := hlaunch .tail (by simp)
  have hexec := exec_tailClear h hz hnv
  rw [htail, herase] at hexec
  dsimp only at hexec
  rw [State.tailMark_of_idle (by rw [htail, hbusy])] at hexec
  refine ⟨_, hexec, (hlaunch.mono (by simp)).trans ((sameBut_tail _ _).mono (by simp)), ?_⟩
  rw [State.eraseBegun, htail]

theorem exec_tailClear_joins (h : Dispatched 0x0B42 e s f t) (hz : (e.zeroFrom 0x18 40).1 = false)
    (hnv : t.power.nvOpen = true) {x : TailErase} (herase : t.tail.erase = some x) : ∃ u : State,
      exec (.tailClear e) s = .next u ∧ SameBut [.tail, .host] t u ∧
      u.tail = { t.tail with erase := some { x with flights := x.flights ++ [f.id] } } := by
  have hlaunch := t.launch_sameBut f
  have htail : (t.launch f).tail = t.tail := hlaunch .tail (by simp)
  have hexec := exec_tailClear h hz hnv
  rw [htail, herase] at hexec
  exact ⟨_, hexec, (hlaunch.mono (by simp)).trans ((sameBut_tail _ _).mono (by simp)), rfl⟩

/-! ## A record gets its MARK (R488) -/

/-- The Tail when record `r` at offset `o` has its MARK. -/
def Tail.marked (r : TailRec) (o : Nat) (t : Tail) : Tail :=
  { t with
    busy := none, wpos := o + r.length, firstSeq := if t.lastValid.isNone then r.seq else t.firstSeq
    lastValid := some r.seq }

/-- Record `r` at offset `o` has its MARK, and FULL is noted. -/
def State.markWritten (r : TailRec) (o : Nat) (s : State) : State :=
  State.noteFull { s.flashWrite (tailOfs + o) (leBytes 2 0xA55A) with tail := s.tail.marked r o }

theorem State.tailMark_of_busy {r : TailRec} {o k : Nat} (h : s.tail.busy = some (r, o, k)) :
    s.tailMark = (s.markWritten r o).tailFrozen := by
  rw [State.tailMark, h]
  rfl

theorem State.markWritten_sameBut (r : TailRec) (o : Nat) (s : State) : SameBut [.tail, .flash] s (s.markWritten r o) :=
  (((sameBut_flash s _).mono (by simp)).trans ((sameBut_tail _ _).mono (by simp))).trans
    ((State.noteFull_sameBut _).mono (by simp))

theorem State.markWritten_flash (r : TailRec) (o : Nat) (s : State) :
    (s.markWritten r o).flash = sbulk flashErased s.flash (0x2000000 + o) [0x5A#8, 0xA5#8] :=
  State.noteFull_flash _

theorem State.markWritten_tail (r : TailRec) (o : Nat) (s : State) : (s.markWritten r o).tail =
    { s.tail.marked r o with full := s.tail.full || (s.tail.marked r o).noRoom (s.tailNext.elim 44 (·.length)) } :=
  State.noteFull_tail _

theorem exec_tailClear_marks (h : Dispatched 0x0B42 e s f t) (hz : (e.zeroFrom 0x18 40).1 = false)
    (hnv : t.power.nvOpen = true) {r : TailRec} {o k : Nat} (herase : t.tail.erase = none)
    (hbusy : t.tail.busy = some (r, o, k)) : ∃ (u : State) (x : TailErase), exec (.tailClear e) s = .next u ∧
      u.flash = sbulk flashErased t.flash (0x2000000 + o) [0x5A#8, 0xA5#8] ∧ u.tail.busy = none ∧
      u.tail.freezeWaits = [] ∧ u.tail.erase = some x ∧ x.flights = [f.id] ∧ x.slot = f.slot ∧ x.last = r.seq := by
  have hlaunch := t.launch_sameBut f
  have htail : (t.launch f).tail = t.tail := hlaunch .tail (by simp)
  have hflash : (t.launch f).flash = t.flash := hlaunch .flash (by simp)
  have hexec := exec_tailClear h hz hnv
  rw [htail, herase] at hexec
  dsimp only at hexec
  rw [State.tailMark_of_busy (s := t.launch f) (by rw [htail, hbusy])] at hexec
  have hmarked := (t.launch f).markWritten_tail r o
  obtain ⟨hsame, hwaits⟩ := State.tailFrozen_unfrozen (s := (t.launch f).markWritten r o) (by rw [hmarked]; rfl)
  have hfrozen := ((t.launch f).markWritten r o).tailFrozen_flash
  rw [hmarked] at hsame
  refine ⟨_, _, hexec, ?_, congrArg Tail.busy hsame, hwaits, rfl, rfl, rfl, ?_⟩
  · exact hfrozen.trans (((t.launch f).markWritten_flash r o).trans (by rw [hflash]))
  · have hlast : ((t.launch f).markWritten r o).tailFrozen.tail.lastValid = some r.seq := congrArg Tail.lastValid hsame
    rw [Tail.clearing, hlast]
    rfl

end

/-! ## TAIL_FLUSH (R488, R492, R493) -/

section
variable {s : State} {r : TailRec}

theorem execTailFlush_marks {o k : Nat} (h : s.tail.busy = some (r, o, k)) :
    exec .tailFlush s = .next (s.markWritten r o).tailFrozen := by
  rw [← State.tailMark_of_busy h]
  exact congrArg Host.Outcome.next (if_pos (by rw [h]; rfl))

/-- The step that gives the record in progress its MARK. -/
theorem execTailFlush_busy {o k : Nat} (h : s.tail.busy = some (r, o, k)) : ∃ t : State,
    exec .tailFlush s = .next t.tailFrozen ∧ SameBut [.tail, .flash] s t ∧
      t.flash = sbulk flashErased s.flash (0x2000000 + o) [0x5A#8, 0xA5#8] ∧ t.tail.busy = none ∧
      t.tail.wpos = o + r.length ∧ t.tail.lastValid = some r.seq ∧ t.tail.freezeWaits = s.tail.freezeWaits ∧
      t.tail.full = (s.tail.full || t.tail.noRoom (t.tailNext.elim 44 (·.length))) := by
  have htail := s.markWritten_tail r o
  have hnext : (s.markWritten r o).tailNext = s.tailNext := State.noteFull_tailNext _
  refine ⟨s.markWritten r o, execTailFlush_marks h, s.markWritten_sameBut r o, s.markWritten_flash r o, ?_⟩
  rw [hnext, htail]
  exact ⟨rfl, rfl, rfl, rfl, rfl⟩

theorem execTailFlush_idle (hbusy : s.tail.busy = none) (h : s.tailFree = false ∨ s.tailNext = none) :
    exec .tailFlush s = .next s := by
  refine congrArg Host.Outcome.next ((if_neg (by rw [hbusy]; exact Bool.false_ne_true)).trans ?_)
  cases hfree : s.tailFree with
  | false => rfl
  | true =>
    have hnext : s.tailNext = none := h.resolve_left (by rw [hfree]; exact Bool.noConfusion)
    dsimp only
    rw [hnext]
    rfl

/-- The record that goes next leaves the place where it waited. -/
def Tail.taken (t : Tail) : Tail :=
  if t.buffer.isEmpty then { t with stage := t.stage.tail } else { t with buffer := t.buffer.tail }

theorem execTailFlush_free (hbusy : s.tail.busy = none) (hfree : s.tailFree = true) (hnext : s.tailNext = some r) :
    exec .tailFlush s = .next (if s.tail.noRoom r.length then { s with tail := { s.tail with full := true } }
      else State.tailBegin r { s with tail := s.tail.taken }) := by
  refine congrArg Host.Outcome.next ((if_neg (by rw [hbusy]; exact Bool.false_ne_true)).trans ((if_neg ?_).trans ?_))
  · rw [hfree]
    exact Bool.false_ne_true
  · dsimp only
    rw [hnext]
    rfl

/-- The companion-die buffer goes before the stage. -/
theorem State.tailNext_of_oldest
    (h : (∃ l, s.tail.buffer = r :: l) ∨ (s.tail.buffer = [] ∧ s.power.core = true ∧ ∃ l, s.tail.stage = r :: l)) :
    s.tailNext = some r := by
  unfold State.tailNext
  obtain ⟨l, hl⟩ | ⟨hbuffer, hcore, l, hl⟩ := h
  · rw [hl]
    rfl
  · rw [hbuffer, hcore, hl]
    rfl

theorem Tail.taken_place (t : Tail) (n : Nat) : t.taken.place n = t.place n := by
  unfold Tail.taken
  split <;> rfl

theorem Tail.taken_records {t : Tail} : t.taken.buffer ++ t.taken.stage = (t.buffer ++ t.stage).tail := by
  unfold Tail.taken
  cases h : t.buffer with
  | nil =>
    rw [if_pos (by rfl)]
    rfl
  | cons r l =>
    rw [if_neg (by exact Bool.false_ne_true)]
    rfl

theorem execTailFlush_begins (hbusy : s.tail.busy = none) (hfree : s.tailFree = true) (hnext : s.tailNext = some r)
    (hroom : s.tail.place r.length + r.length ≤ tailBytes) : ∃ t, exec .tailFlush s = .next t ∧
      SameBut [.tail, .flash] s t ∧ t.tail.busy = some (r, s.tail.place r.length, s.ix) ∧
      t.flash = sbulk flashErased s.flash (tailOfs + s.tail.place r.length) (r.bytes 0xFFFF) ∧
      t.tail.buffer ++ t.tail.stage = (s.tail.buffer ++ s.tail.stage).tail := by
  refine ⟨_, (execTailFlush_free hbusy hfree hnext).trans (congrArg _ (if_neg ?_)), ?_, ?_, ?_, Tail.taken_records⟩
  · rw [Tail.noRoom, decide_eq_false (not_lt.2 hroom)]
    exact Bool.false_ne_true
  · exact ((sameBut_tail s _).mono (by simp)).trans (((sameBut_flash _ _).mono (by simp)).trans
      ((sameBut_tail _ _).mono (by simp)))
  · exact congrArg (fun o => some (r, o, s.ix)) (s.tail.taken_place r.length)
  · exact congrArg (fun o => sbulk flashErased s.flash (tailOfs + o) (r.bytes 0xFFFF)) (s.tail.taken_place r.length)

theorem execTailFlush_full (hbusy : s.tail.busy = none) (hfree : s.tailFree = true) (hnext : s.tailNext = some r)
    (hroom : tailBytes < s.tail.place r.length + r.length) : ∃ t, exec .tailFlush s = .next t ∧ SameBut [.tail] s t ∧
      t.tail = { s.tail with full := true } :=
  ⟨_, (execTailFlush_free hbusy hfree hnext).trans (congrArg _ (if_pos (decide_eq_true hroom))), sameBut_tail s _, rfl⟩

/-! ## TAIL_ERASE_DONE (R499) -/

theorem execTailEraseDone_waits (h : s.tail.erase = none ∨ s.power.nvOpen = false ∨ s.planes.mgmt = .nadir) :
    exec .tailEraseDone s = .next s := by
  refine congrArg Host.Outcome.next ?_
  split
  next => rfl
  next x hx =>
    refine if_pos ?_
    obtain h | h | h := h
    · rw [hx] at h
      cases h
    · rw [h]
      rfl
    · rw [h]
      exact Bool.or_true _

/-- The CLEAR record of erase `x`. -/
def State.clearRecord (x : TailErase) (s : State) : TailRec where
  type := 0x0001
  plane := .management
  opsec := s.boot.opsec
  cycles := s.boot.pwrCycles
  seq := s.tail.seqNext
  sample := s.sample
  time := if s.time.state = .unset then none else some s.time.t
  payload := padPayload (u32s [x.slot, x.first.toNat, x.last.toNat])

/-- The Tail when a region erased is left with record `r`. -/
def Tail.cleared (r : TailRec) (t : Tail) : Tail :=
  { t with
    erase := none, full := false, wpos := r.length, seqNext := r.seq + 1, clear := t.clear.inc, firstSeq := r.seq
    lastValid := some r.seq }

/-- The region holds record `r` alone. -/
def State.regionCleared (r : TailRec) (s : State) : State :=
  { (s.flashErase tailOfs tailBytes).flashWrite tailOfs (r.bytes 0xA55A) with tail := s.tail.cleared r }

theorem execTailEraseDone_of_erase {x : TailErase} (h : s.tail.erase = some x) (hnv : s.power.nvOpen = true)
    (hmgmt : s.planes.mgmt ≠ .nadir) : exec .tailEraseDone s =
      .next (x.flights.foldl (fun s id => s.finishId id 0 0 0 false []) (s.regionCleared (s.clearRecord x))) := by
  refine congrArg Host.Outcome.next ?_
  rw [h]
  exact if_neg (by rw [hnv, beq_eq_false_iff_ne.2 hmgmt]; exact Bool.false_ne_true)

theorem State.regionCleared_sameBut (r : TailRec) (s : State) : SameBut [.tail, .flash] s (s.regionCleared r) :=
  (((sameBut_flash s _).trans (sameBut_flash _ _)).mono (by simp)).trans ((sameBut_tail _ _).mono (by simp))

theorem execTailEraseDone_clears {x : TailErase} (h : s.tail.erase = some x) (hnv : s.power.nvOpen = true)
    (hmgmt : s.planes.mgmt ≠ .nadir) : ∃ (t : State) (r : TailRec), exec .tailEraseDone s = .next t ∧
      SameBut [.tail, .flash, .host, .outbox] s t ∧ r.type = 1 ∧ r.seq = s.tail.seqNext ∧
      r.payload = padPayload (u32s [x.slot, x.first.toNat, x.last.toNat]) ∧
      t.flash = sbulk flashErased (serase s.flash 0x2000000 33554432) 0x2000000 (r.bytes 0xA55A) ∧
      t.tail = { s.tail with
        erase := none, full := false, wpos := r.length, seqNext := s.tail.seqNext + 1, clear := s.tail.clear.inc
        firstSeq := r.seq, lastValid := some r.seq } := by
  have hdone : SameBut [.host, .outbox] (s.regionCleared (s.clearRecord x))
      (x.flights.foldl (fun s id => s.finishId id 0 0 0 false []) (s.regionCleared (s.clearRecord x))) :=
    .foldl (fun t id => State.finishId_sameBut _ _ _ _ _ _ t) _ _
  refine ⟨_, s.clearRecord x, execTailEraseDone_of_erase h hnv hmgmt,
    ((s.regionCleared_sameBut _).mono (by simp)).trans (hdone.mono (by simp)), rfl, rfl, rfl, ?_, ?_⟩
  · exact hdone .flash (by simp)
  · exact hdone .tail (by simp)

/-! ## Windows, and the hold of TAIL_STATUS (R496, R497) -/

theorem execWindowLoadDone_idle {p : Nat} (h : (s.port p).loading = false) : exec (.windowLoadDone p) s = .next s :=
  congrArg Host.Outcome.next (if_neg (by rw [h]; exact Bool.false_ne_true))

theorem execWindowLoadDone_loads {p : Nat} (hp : p < 3) (h : (s.port p).loading = true) :
    ∃ t, exec (.windowLoadDone p) s = .next t ∧ SameBut [.host] s t ∧ t.port p = { s.port p with
      loading := false, ready := true, window := s.flashRead (0x2000000 + 4096 * (s.port p).cursor) 4096 } :=
  ⟨_, congrArg Host.Outcome.next (if_pos h), sameBut_host s _, State.port_modPort_same hp _ s⟩

theorem exec_tailStatusRead {a : RegAccess} {u : State} {x : RegPlace} {i : Nat} (h : Reaches a s u)
    (hn : a.narrow = false) (hr : u.reach a.origin.port a.addr = .ok (x, i)) (hreg : x.reg = .tailStatus) :
    exec (.tailStatusRead a) s = .next ((u.readAt a.origin.port a.addr).2.answerRead a
      (u.regValue a.origin.port i .tailStatus) 0) := by
  have hrow : (!a.narrow && ((regAt a.addr).map fun x => x.1.reg) == some .tailStatus) = true := by
    rw [hn, State.regAt_of_reach hr, Option.map_some, hreg]
    rfl
  have hlive : latched x.reg i = false := by
    rw [hreg]
    rfl
  have hvalue : (u.readAt a.origin.port a.addr).1 = u.regValue a.origin.port i .tailStatus := by
    rw [State.readAt_of_live hr hlive, hreg]
  refine (if_pos hrow).trans ((State.access_of_reaches h _ _).trans (congrArg Host.Outcome.next ?_))
  rw [State.readReg, hn, ← hvalue]
  rfl

/-- A read that finds BUSY 0 holds the writer off. -/
theorem State.readAt_holds {p a i : Nat} {x : RegPlace} (hr : s.reach p a = .ok (x, i)) (hreg : x.reg = .tailStatus) :
    (s.readAt p a).2.tail =
      if s.tail.busy.isSome = true then s.tail else { s.tail with holdUntil := s.ix + 40 } := by
  have hlive : latched x.reg i = false := by
    rw [hreg]
    rfl
  rw [State.readAt_of_live hr hlive, if_pos hreg]
  dsimp only
  unfold State.holdWriter
  split <;> rename_i hb
  · exact (if_pos hb).symm
  · exact (if_neg hb).symm

end

/-- Settles O59: the commands by their checks, the two steps of a record, the erase, the windows and the hold. -/
theorem tailRecordsAreWrittenFrozenAndCleared : Obligations.TailRecordsAreWrittenFrozenAndCleared := by
  refine ⟨fun e s t f => ⟨exec_tailStatus, fun h hon hz => ⟨exec_tailFreeze_idle h hon hz, exec_tailFreeze_busy h hon hz⟩,
      exec_tailNote, fun h hz hnv => ⟨exec_tailClear_idle h hz hnv, fun r o k => exec_tailClear_marks h hz hnv,
      fun x => exec_tailClear_joins h hz hnv⟩⟩,
    fun s r => ⟨fun o k => execTailFlush_busy, execTailFlush_idle, fun hbusy hfree holdest =>
      ⟨execTailFlush_begins hbusy hfree (State.tailNext_of_oldest holdest),
        execTailFlush_full hbusy hfree (State.tailNext_of_oldest holdest)⟩⟩,
    fun s => execTailEraseDone_waits, fun s x => execTailEraseDone_clears, fun s p => execWindowLoadDone_idle,
    fun s p => execWindowLoadDone_loads, fun a s u x i h hn hr hreg => ⟨_, exec_tailStatusRead h hn hr hreg,
      State.readAt_sameBut _ _ u, State.readAt_holds hr hreg⟩⟩

end Sys2Proof.Machine
end

section
/-!
O52: POWER_STATUS, entry into Umbra (R431–R434), and the wake events (R435, R437).
-/

namespace Sys2Proof.Machine

/-! ## Wake events -/

/-- From `s` to `t` a wake event of source `src` acts as the phase of `s` lets it. -/
def Wakes (src : Nat) (s t : State) : Prop :=
  SameBut [.power] s t ∧
  (s.power.umbra = .asleep → t.power.umbra = .leaving ∧ t.power.wakeSrc = src) ∧
  (s.power.umbra = .entering → s.power.abandon = false →
    t.power.umbra = .entering ∧ t.power.abandon = true ∧ t.power.wakeSrc = src) ∧
  (s.power.umbra = .entering → s.power.abandon = true →
    t.power.umbra = .entering ∧ t.power.wakeSrc = s.power.wakeSrc) ∧
  (s.power.umbra = .awake ∨ s.power.umbra = .leaving → t.power.umbra = s.power.umbra ∧
    t.power.wakeSrc = s.power.wakeSrc)

section
variable {s : State} {src : Nat}

theorem State.wake_of_asleep (h : s.power.umbra = .asleep) : s.wake src =
    { s.clockMgmt with power := { s.clockMgmt.power with umbra := .leaving, wakeSrc := src } } := by
  have hphase : s.clockMgmt.power.umbra = .asleep := h
  rw [State.wake, hphase]

theorem State.wake_of_entering (h : s.power.umbra = .entering) (ha : s.power.abandon = false) : s.wake src =
    { s.clockMgmt with power := { s.clockMgmt.power with abandon := true, wakeSrc := src } } := by
  have hphase : s.clockMgmt.power.umbra = .entering := h
  rw [State.wake, hphase]
  exact if_neg (by rw [show s.clockMgmt.power.abandon = s.power.abandon from rfl, ha]; exact Bool.false_ne_true)

theorem State.wake_of_abandoned (h : s.power.umbra = .entering) (ha : s.power.abandon = true) :
    s.wake src = s.clockMgmt := by
  have hphase : s.clockMgmt.power.umbra = .entering := h
  rw [State.wake, hphase]
  exact if_pos ha

theorem State.wake_of_awake (h : s.power.umbra = .awake ∨ s.power.umbra = .leaving) : s.wake src = s.clockMgmt := by
  obtain h | h := h
  · have hphase : s.clockMgmt.power.umbra = .awake := h
    rw [State.wake, hphase]
  · have hphase : s.clockMgmt.power.umbra = .leaving := h
    rw [State.wake, hphase]

theorem State.wake_sameBut (src : Nat) (s : State) : SameBut [.power] s (s.wake src) := by
  have hclock : SameBut [.power] s s.clockMgmt := sameBut_power s _
  cases h : s.power.umbra with
  | awake => rwa [State.wake_of_awake (.inl h)]
  | leaving => rwa [State.wake_of_awake (.inr h)]
  | asleep =>
    rw [State.wake_of_asleep h]
    exact hclock.trans (sameBut_power _ _)
  | entering =>
    cases ha : s.power.abandon with
    | true => rwa [State.wake_of_abandoned h ha]
    | false =>
      rw [State.wake_of_entering h ha]
      exact hclock.trans (sameBut_power _ _)

theorem Wakes.of_wake (src : Nat) (s : State) : Wakes src s (s.wake src) := by
  refine ⟨s.wake_sameBut src, fun h => ?_, fun h ha => ?_, fun h ha => ?_, fun h => ?_⟩
  · rw [State.wake_of_asleep h]
    exact ⟨rfl, rfl⟩
  · rw [State.wake_of_entering h ha]
    exact ⟨h, rfl, rfl⟩
  · rw [State.wake_of_abandoned h ha]
    exact ⟨h, rfl⟩
  · rw [State.wake_of_awake h]
    exact ⟨rfl, rfl⟩

/-- A wake event of a state that has the phase of `s`. -/
theorem Wakes.of_before {t u : State} (h : Wakes src t u) (hsame : SameBut [.power] s t)
    (humbra : t.power.umbra = s.power.umbra) (habandon : t.power.abandon = s.power.abandon)
    (hsrc : t.power.wakeSrc = s.power.wakeSrc) : Wakes src s u := by
  obtain ⟨hframe, hrest⟩ := h
  rw [humbra, habandon, hsrc] at hrest
  exact ⟨hsame.trans hframe, hrest⟩

theorem execPerstRelease_wakes (b : Bool) : ∃ t, exec (.perstRelease b) s = .next t ∧ Wakes (3 + b1 b) s t :=
  ⟨_, rfl, (Wakes.of_wake (3 + b1 b) _).of_before (sameBut_power s _) rfl rfl rfl⟩

theorem execWakeTimer_wakes (hms : s.power.wakeMs ≠ 0)
    (h : s.power.wakeFrom + s.power.wakeMs.toNat * 65536000000 ≤ s.time.t + sampleTime) :
    ∃ t, exec .wakeTimer s = .next t ∧ Wakes 5 s t :=
  ⟨s.wake 5, congrArg Host.Outcome.next (if_pos ⟨hms, h⟩), .of_wake 5 s⟩

theorem execWakeTimer_early (h : s.power.wakeMs = 0 ∨
    s.time.t + sampleTime < s.power.wakeFrom + s.power.wakeMs.toNat * 65536000000) : exec .wakeTimer s = .next s := by
  refine congrArg Host.Outcome.next (if_neg ?_)
  rintro ⟨hms, hdue⟩
  exact h.elim hms (not_lt.2 hdue)

end

/-! ## Commands (R431, R432, R435) -/

section
variable {e : Entry} {s t : State} {f : Flight}

theorem exec_powerStatus (h : Dispatched 0x0E00 e s f t) (hz : (e.zeroFrom 0x18 40).1 = false) :
    exec (.powerStatus e) s = .next (t.ok f (t.pwrStatusWord.toNat + t.planeStatusWord.toNat * 2 ^ 32)
      (t.umbraTimeWord.toNat + t.wakeLeft % 2 ^ 32 * 2 ^ 32) []) := by
  refine (command_of_dispatched h _).trans (congrArg Host.Outcome.next (checked_of_none ?_ _ t))
  rw [firstBad_cons_of_pass hz]
  rfl

/-- A frame is taken only while the management core answers. -/
theorem Dispatched.answers {op : W16} (h : Dispatched op e s f t) (hinline : e.inline = true) :
    s.planes.mgmt = .running := by
  obtain ⟨-, -, -, -, htaken⟩ := h
  unfold Taken at htaken
  unfold Entry.inline at hinline
  split at htaken
  next q hq =>
    rw [hq] at hinline
    cases hinline
  next x hx =>
    obtain ⟨hanswers, -⟩ := htaken
    exact eq_of_beq hanswers

theorem exec_powerWake {env : BootEnv} (h : Dispatched 0x0E41 e s f t) (hz : (e.zeroFrom 0x18 40).1 = false)
    (hkeeper : t.power.faultOff = true → (t.slot f.slot).held &&& roleKeeper ≠ 0) : exec (.powerWake e env) s =
      .next (if (t.ok f 0 0 []).power.faultOff then (t.ok f 0 0 []).coreRestart env else (t.ok f 0 0 []).wake 1) := by
  refine (if_neg ?_).trans ((command_of_dispatched h _).trans (congrArg Host.Outcome.next (checked_of_none ?_ _ t)))
  · rintro ⟨hrestarting, -, hinline⟩
    rw [h.answers hinline] at hrestarting
    cases hrestarting
  · have hrole : (t.power.faultOff && !((t.slot f.slot).held &&& roleKeeper != 0)) = false := by
      cases hoff : t.power.faultOff with
      | false => rfl
      | true => rw [bne_iff_ne.2 (hkeeper hoff)]; rfl
    rw [firstBad_cons_of_pass hz, firstBad_cons_of_pass hrole]
    rfl

theorem exec_powerWake_restarts {env : BootEnv} (h : Dispatched 0x0E41 e s f t) (hz : (e.zeroFrom 0x18 40).1 = false)
    (hoff : t.power.faultOff = true) (hkeeper : (t.slot f.slot).held &&& roleKeeper ≠ 0) :
    exec (.powerWake e env) s = .next ((t.ok f 0 0 []).coreRestart env) := by
  have hpower : (t.ok f 0 0 []).power = t.power := t.ok_sameBut f 0 0 [] .power (by simp)
  exact (exec_powerWake h hz fun _ => hkeeper).trans (congrArg _ (if_pos (by rw [hpower, hoff])))

theorem exec_powerWake_wakes {env : BootEnv} (h : Dispatched 0x0E41 e s f t) (hz : (e.zeroFrom 0x18 40).1 = false)
    (hoff : t.power.faultOff = false) : ∃ u : State, exec (.powerWake e env) s = .next u ∧
      SameBut [.power, .host, .outbox] t u ∧
      (t.power.umbra = .asleep → u.power.umbra = .leaving ∧ u.power.wakeSrc = 1) ∧
      (t.power.umbra = .awake → u.power.umbra = .awake ∧ u.power.wakeSrc = t.power.wakeSrc) ∧
      (t.power.umbra = .entering → u.power.umbra = .entering ∧ u.power.abandon = true) := by
  have hok := t.ok_sameBut f 0 0 []
  have hpower : (t.ok f 0 0 []).power = t.power := hok .power (by simp)
  obtain ⟨hframe, hasleep, hentering, -, hawake⟩ := Wakes.of_wake 1 (t.ok f 0 0 [])
  rw [hpower] at hasleep hentering hawake
  refine ⟨_, (exec_powerWake h hz fun hon => Bool.noConfusion (hon.symm.trans hoff)).trans
    (congrArg _ (if_neg ?_)), (hok.mono (by simp)).trans (hframe.mono (by simp)), hasleep, fun hu => ?_, fun hu => ?_⟩
  · rw [hpower, hoff]
    exact Bool.false_ne_true
  · rw [← hu]
    exact hawake (.inl hu)
  · cases ha : t.power.abandon with
    | false =>
      obtain ⟨hphase, habandon, -⟩ := hentering hu ha
      exact ⟨hphase, habandon⟩
    | true =>
      rw [State.wake_of_abandoned (by rw [hpower, hu]) (by rw [hpower, ha])]
      exact ⟨(congrArg Power.umbra hpower).trans hu, (congrArg Power.abandon hpower).trans ha⟩

end

/-! ## The entry (R433) -/

section
variable (s : State)

/-- Entry begins: its phase, and the timer. -/
def State.umbraBegun (ms : Nat) (s : State) : State :=
  { s with power := { s.power with
    umbra := .entering, abandon := false, wakeMs := BitVec.ofNat 32 ms, wakeFrom := s.time.t } }

/-- The hosts are told; the bypass holds no longer. -/
def State.umbraTold (s : State) : State := s.bypCheck.event 8 0 0

/-- Display, cameras and strobe wires are off. -/
def State.umbraDark (s : State) : State := s.umbraDisplay.umbraCameras.haloWiresLow

/-- Every Moonlink is off. -/
def State.moonlinksOff (s : State) : State :=
  (List.range 32).foldl (fun s m => s.toState m fun l => { l.unlock with state := .off }) s

/-- The ring ports are stopped. -/
def State.portsStopped (s : State) : State :=
  { s with time := { s.time with
    ports := s.time.ports.map fun p => { p with blockLock := false, queueBits := 0, pdelay := {} } } }

/-- The calibrations are abandoned, and the DRAM goes up to RATE. -/
def State.umbraSettled (s : State) : State := (s.calAbandon fun _ => true).fspUp

theorem State.enterUmbra_eq (ms : Nat) :
    s.enterUmbra ms = ((s.umbraBegun ms).umbraTold.umbraDark.linksOff).umbraSettled := rfl

theorem State.linksOff_eq : s.linksOff = s.moonlinksOff.portsStopped := by
  unfold State.linksOff State.moonlinksOff
  rfl

theorem State.umbraTold_sameBut : SameBut [.time, .host, .outbox] s s.umbraTold :=
  (s.bypCheck_sameBut.mono (by simp)).trans ((State.event_sameBut _ _ _ _).mono (by simp))

theorem State.umbraDark_sameBut : SameBut [.disp, .camera, .halo] s s.umbraDark :=
  (((sameBut_disp s _).mono (by simp)).trans ((sameBut_camera _ _).mono (by simp))).trans
    ((sameBut_halo _ _).mono (by simp))

theorem State.moonlinksOff_sameBut : SameBut [.links, .eph, .melt] s s.moonlinksOff :=
  .foldl (fun t m => t.toState_sameBut m _) _ s

theorem State.linksOff_sameBut : SameBut [.links, .eph, .melt, .time] s s.linksOff := by
  rw [State.linksOff_eq]
  exact (s.moonlinksOff_sameBut.mono (by simp)).trans ((sameBut_time s.moonlinksOff _).mono (by simp))

theorem State.calAbandon_sameBut (which : Nat → Bool) : SameBut [.cal, .host, .outbox] s (s.calAbandon which) :=
  .foldl (fun t i => .ite ((((t.modCal_sameBut i _).mono (by simp)).trans
    (.ite ((sameBut_cal _ _).mono (by simp)) (.refl _ _))).trans (State.calEnded_step i 3 _).frame) (.refl _ t)) _ s

theorem State.umbraSettled_sameBut : SameBut [.cal, .host, .outbox, .mem] s s.umbraSettled :=
  ((s.calAbandon_sameBut _).mono (by simp)).trans ((State.fspUp_sameBut _).mono (by simp))

/-- On its way into Umbra the device does not hold the bypass. -/
theorem State.umbraTold_bypHold (h : s.power.umbra ≠ .awake) : s.umbraTold.time.bypHold = false := by
  have hevent : s.umbraTold.time = s.bypCheck.time := State.event_sameBut 8 0 0 s.bypCheck .time (by simp)
  have hreleased : s.bypReleased = true := by
    simp [State.bypReleased, h]
  rw [hevent, State.bypCheck, if_pos hreleased]

theorem State.linksOff_links : s.linksOff.links = s.moonlinksOff.links := by
  rw [State.linksOff_eq]
  generalize s.moonlinksOff = t
  rfl

theorem State.linksOff_time : s.linksOff.time = { s.time with
    ports := s.time.ports.map fun p => { p with blockLock := false, queueBits := 0, pdelay := {} } } := by
  have h : s.moonlinksOff.time = s.time := s.moonlinksOff_sameBut .time (by simp)
  rw [State.linksOff_eq, State.portsStopped, h]

theorem State.linksOff_ringPort {p : Nat} (hp : p < 2) : (s.linksOff.ringPort p).blockLock = false := by
  rw [State.ringPort, State.linksOff_time]
  simp [nth, hp]

theorem State.link_toState_other {n m : Nat} (h : n ≠ m) (f : Link → Link) (t : State) :
    (t.toState m f).link n = t.link n := by
  have keep : (t.toState m f).links = (t.modLink m f).links := by
    unfold State.toState
    dsimp only
    split
    · exact State.linkSourcesLost_sameBut m _ .links (by simp)
    · rfl
  rw [State.link_congr keep, State.link_modLink_other h]

theorem State.linksOff_link {n : Nat} (hn : n < 32) : (s.linksOff.link n).state = .off := by
  have hoff : (s.moonlinksOff.link n).state = .off :=
    foldl_once (P := fun _ => True) (Q := fun t : State => (t.link n).state = .off)
      (f := fun (t : State) m => t.toState m fun l => { l.unlock with state := .off })
      (fun _ _ _ _ => trivial) (fun t _ => by rw [State.link_toState hn]) (fun t m hm ht => by
        rw [State.link_toState_other hm.symm, ht]) List.nodup_range (List.mem_range.2 hn) trivial
  rw [State.link_congr s.linksOff_links, hoff]

/-- Display off, and the strobe wires low. -/
theorem State.umbraDark_off : s.umbraDark.disp.link = .off ∧ s.umbraDark.disp.vdd = false ∧
    s.umbraDark.halo.strobing = 0 ∧ s.umbraDark.halo.exposing = 0 := ⟨rfl, rfl, rfl, rfl⟩

end

/-- What entry into Umbra leaves at once. -/
theorem State.enterUmbra_enters (ms : Nat) (s : State) :
    let u := s.enterUmbra ms
    u.power = { s.power with
      umbra := .entering, abandon := false, wakeMs := BitVec.ofNat 32 ms, wakeFrom := s.time.t } ∧
    u.time.bypHold = false ∧ u.disp.link = .off ∧ u.disp.vdd = false ∧ u.halo.strobing = 0 ∧ u.halo.exposing = 0 ∧
    (∀ n, n < 32 → (u.link n).state = .off) ∧ (∀ p, p < 2 → (u.ringPort p).blockLock = false) ∧
    SameBut [.host, .outbox, .power, .time, .disp, .camera, .halo, .links, .cal, .mem, .eph, .melt] s u := by
  have hbegun : SameBut [.power] s (s.umbraBegun ms) := sameBut_power s _
  have hpower : (s.umbraBegun ms).power = { s.power with
    umbra := .entering, abandon := false, wakeMs := BitVec.ofNat 32 ms, wakeFrom := s.time.t } := rfl
  have hbyp := (s.umbraBegun ms).umbraTold_bypHold (by exact Umbra.noConfusion)
  dsimp only
  rw [State.enterUmbra_eq]
  generalize s.umbraBegun ms = begun at *
  have htold := begun.umbraTold_sameBut
  generalize begun.umbraTold = told at *
  have hdark := told.umbraDark_sameBut
  obtain ⟨hlink, hvdd, hstrobing, hexposing⟩ := told.umbraDark_off
  generalize told.umbraDark = dark at *
  have hlinks := dark.linksOff_sameBut
  have hstate (n : Nat) := dark.linksOff_link (n := n)
  have hports (p : Nat) := dark.linksOff_ringPort (p := p)
  have htime := dark.linksOff_time
  generalize dark.linksOff = off at *
  have hsettled := off.umbraSettled_sameBut
  generalize off.umbraSettled = u at *
  have hlater : SameBut [.links, .eph, .melt, .time, .cal, .host, .outbox, .mem] dark u :=
    (hlinks.mono (by simp)).trans (hsettled.mono (by simp))
  have hall : SameBut [.host, .outbox, .time, .disp, .camera, .halo, .links, .cal, .mem, .eph, .melt] begun u :=
    ((htold.mono (by simp)).trans (hdark.mono (by simp))).trans (hlater.mono (by simp))
  have hsame : u.power = begun.power := hall .power (by simp)
  have hdisp : u.disp = dark.disp := hlater .disp (by simp)
  have hhalo : u.halo = dark.halo := hlater .halo (by simp)
  have hlast : u.time = off.time := hsettled .time (by simp)
  have hfirst : dark.time = told.time := hdark .time (by simp)
  have hmoon : u.links = off.links := hsettled .links (by simp)
  refine ⟨hsame.trans hpower, ?_, ?_, ?_, ?_, ?_, fun n hn => ?_, fun p hp => ?_,
    (hbegun.mono (by simp)).trans (hall.mono (by simp))⟩
  · rw [hlast, htime, hfirst]
    exact hbyp
  · rw [hdisp, hlink]
  · rw [hdisp, hvdd]
  · rw [hhalo, hstrobing]
  · rw [hhalo, hexposing]
  · rw [State.link_congr hmoon, hstate n hn]
  · rw [State.ringPort, hlast]
    exact hports p hp

section
variable {e : Entry} {s t : State} {f : Flight}

/-- Nothing that R432 names runs. -/
theorem State.umbraBusy_eq_false (haxes : ∀ a, a < 8 → (t.axis a).mode = .disabled ∨ (t.axis a).mode = .idle)
    (htests : t.mem.tests = []) (hreads : t.peri.reads = []) (hcopying : t.eph.copying = []) : t.umbraBusy = false := by
  have hstill : t.axes.any (fun x => x.mode != .disabled && x.mode != .idle) = false := by
    refine Vector.any_eq_false.2 fun i hi => ?_
    have hget : t.axis i = t.axes[i] := by simp [State.axis, nth, hi]
    obtain h | h := haxes i hi <;> rw [hget] at h <;> rw [h] <;> decide
  rw [State.umbraBusy, hstill, htests, hreads, hcopying]
  rfl

theorem exec_powerUmbra (h : Dispatched 0x0E40 e s f t) (hz : (e.zeroFrom 0x1C 36).1 = false)
    (hidle : t.planes.data = .idle) (hbusy : t.umbraBusy = false) (hact : t.boot.activation = none) :
    exec (.powerUmbra e) s = .next ((t.ok f 0 0 []).enterUmbra (e.u 0x18 4)) := by
  refine (command_of_dispatched h _).trans (congrArg Host.Outcome.next (checked_of_none ?_ _ t))
  rw [firstBad_cons_of_pass hz, firstBad_cons_of_pass (by rw [hidle]; rfl), firstBad_cons_of_pass hbusy,
    firstBad_cons_of_pass (State.activationOn_eq_false hact)]
  rfl

theorem exec_powerUmbra_enters (h : Dispatched 0x0E40 e s f t) (hz : (e.zeroFrom 0x1C 36).1 = false)
    (hidle : t.planes.data = .idle) (hbusy : t.umbraBusy = false) (hact : t.boot.activation = none) :
    ∃ u : State, exec (.powerUmbra e) s = .next u ∧ u.power.umbra = .entering ∧ u.power.abandon = false ∧
      u.power.wakeMs = BitVec.ofNat 32 (e.u 0x18 4) ∧ u.power.wakeFrom = t.time.t ∧ u.time.bypHold = false ∧
      u.disp.link = .off ∧ u.disp.vdd = false ∧ u.halo.strobing = 0 ∧ u.halo.exposing = 0 ∧
      (∀ n, n < 32 → (u.link n).state = .off) ∧ (∀ p, p < 2 → (u.ringPort p).blockLock = false) ∧
      SameBut [.host, .outbox, .power, .time, .disp, .camera, .halo, .links, .cal, .mem, .eph, .melt] t u := by
  have hok := t.ok_sameBut f 0 0 []
  have htime : (t.ok f 0 0 []).time = t.time := hok .time (by simp)
  obtain ⟨hpower, hbyp, hlink, hvdd, hstrobing, hexposing, hlinks, hports, hframe⟩ :=
    State.enterUmbra_enters (e.u 0x18 4) (t.ok f 0 0 [])
  refine ⟨_, exec_powerUmbra h hz hidle hbusy hact, congrArg Power.umbra hpower, congrArg Power.abandon hpower,
    congrArg Power.wakeMs hpower, ?_, hbyp, hlink, hvdd, hstrobing, hexposing, hlinks, hports,
    (hok.mono (by simp)).trans hframe⟩
  rw [hpower, htime]

end

end Sys2Proof.Machine
end

section
/-!
O52 (continued): the end of the entry and of the exit (R433, R436–R438), XTAL32 and the clock domains (R426, R430).
-/

namespace Sys2Proof.Machine

/-! ## The grid when the ports go down (R106, R433) -/

section
variable (s : State)

theorem State.eventBut_sameBut (skip : Nat → Bool) (type : Nat) (status : Code) (r1 : W64) :
    SameBut [.host, .outbox] s (s.eventBut skip type status r1) :=
  .foldl (fun t i => .ite ((sameBut_host t _).mono (by simp)) (t.eventTo_sameBut i type status r1)) _ s

theorem State.cancelCommit_peri (status : Code) : (s.cancelCommit status).peri = s.peri := by
  unfold State.cancelCommit
  split
  · rfl
  · exact State.event_sameBut _ _ _ _ .peri (by simp)

theorem State.dropRoles_peri (i : Nat) (m : BitVec 4) : (s.dropRoles i m).peri = s.peri := by
  have hpilot (t : State) : (t.pilotLost i).peri = t.peri := by
    have hrecord : (t.record 0x0011 .management []).peri = t.peri := t.record_management_sameBut _ _ .peri (by simp)
    unfold State.pilotLost
    split
    · rw [State.cancelCommit_peri, hrecord]
    · rfl
  unfold State.dropRoles
  dsimp only
  split
  · rw [hpilot]
    rfl
  · rfl

theorem State.slotDown_peri (i : Nat) : (s.slotDown i).peri = s.peri := by
  have hqueues (qs : List Nat) (t : State) :
      (qs.foldl (fun s q => s.modQueue q (Queue.restart false)) t).peri = t.peri :=
    foldl_keep State.peri _ (fun _ _ => by rfl) qs t
  have hevent (skip : Nat → Bool) (r1 : W64) (t : State) : (t.eventBut skip 1 0 r1).peri = t.peri :=
    t.eventBut_sameBut skip 1 0 r1 .peri (by simp)
  have hrecord (t : State) : (t.record 0x0020 .control []).peri = t.peri := t.record_sameBut _ _ _ .peri (by simp)
  have hslot (t : State) (f : Slot → Slot) : (t.modSlot i f).peri = t.peri := rfl
  unfold State.slotDown
  dsimp only
  rw [hevent, hrecord, hslot]
  dsimp only
  rw [State.modPort_peri, hqueues, State.dropRoles_peri]

theorem State.portDown_peri (p : Nat) : (s.portDown p).peri = s.peri := by
  have hslots (l : List Nat) (t : State) : (l.foldl (fun s i => s.slotDown i) t).peri = t.peri :=
    foldl_keep State.peri _ (fun t i => t.slotDown_peri i) l t
  unfold State.portDown
  dsimp only
  split
  · rw [hslots]
    rfl
  · rfl

theorem State.pcieDown_peri : s.pcieDown.peri = s.peri := by
  rw [State.pcieDown, State.portDown_peri, State.portDown_peri]

/-! ## The core die off (R433) -/

/-- The grid is saved to DRAM. -/
def State.gridSaved (s : State) : State :=
  { s with peri := { s.peri with saved := some (s.peri.abandon.base, s.peri.abandon.cells) } }

/-- What Umbra keeps of memory and time. -/
def State.umbraKept (s : State) : State := { s with mem := s.mem.umbra, time := s.time.umbra }

theorem State.coreSaved_eq : s.coreSaved = s.pcieDown.timeToAon.gridSaved.resetCore.resetCameras.umbraKept := by
  unfold State.coreSaved State.umbraKept State.gridSaved
  rfl

theorem State.timeToAon_trunk : s.timeToAon.trunk = s.trunk := rfl

theorem State.gridSaved_trunk : s.gridSaved.trunk = s.trunk := rfl

theorem State.resetCameras_trunk : s.resetCameras.trunk = s.trunk := rfl

theorem State.umbraKept_trunk : s.umbraKept.trunk = s.trunk := rfl

theorem State.coreSaved_trunk : s.coreSaved.trunk =
    (s.boot, { s.planes with pair := none, standby := .off, data := .off, ctl := .off, restart := none },
      { s.power with core := false, domains := s.power.domains &&& 3 }) := by
  have hdown : s.pcieDown.timeToAon.gridSaved.trunk = s.trunk := by
    rw [State.gridSaved_trunk, State.timeToAon_trunk, State.pcieDown_trunk]
  rw [State.coreSaved_eq, State.umbraKept_trunk, State.resetCameras_trunk, State.resetCore_trunk,
    State.boot_of_trunk hdown, State.planes_of_trunk hdown, State.power_of_trunk hdown]

theorem State.coreSaved_power : s.coreSaved.power = { s.power with core := false, domains := s.power.domains &&& 3 } :=
  congrArg (fun x => x.2.2) s.coreSaved_trunk

theorem State.coreSaved_planes : s.coreSaved.planes =
    { s.planes with pair := none, standby := .off, data := .off, ctl := .off, restart := none } :=
  congrArg (fun x => x.2.1) s.coreSaved_trunk

theorem State.coreSaved_boot : s.coreSaved.boot = s.boot := congrArg Prod.fst s.coreSaved_trunk

/-- What the core die's reset keeps of a grid that was saved. -/
theorem State.umbraKept_saved : s.timeToAon.gridSaved.resetCore.resetCameras.umbraKept.peri.saved =
    some (s.peri.abandon.base, s.peri.abandon.cells) := rfl

theorem State.coreSaved_peri : s.coreSaved.peri.saved = some (s.peri.abandon.base, s.peri.abandon.cells) := by
  rw [State.coreSaved_eq, State.umbraKept_saved, State.pcieDown_peri]

end

/-- The phase that the end of the entry leads to, and what it counts (R433, R437). -/
def State.umbraEntered (us : Nat) (next : Umbra) (s : State) : State :=
  { s with power := { s.power with
    umbra := next, abandon := false, entryUs := BitVec.ofNat 16 us, umbraCnt := s.power.umbraCnt.inc } }

section
variable {s : State} {us : Nat}

theorem execUmbraEntryDone_of_other (h : s.power.umbra ≠ .entering) : exec (.umbraEntryDone us) s = .next s :=
  congrArg Host.Outcome.next (if_pos h)

theorem execUmbraEntryDone_of_entering (h : s.power.umbra = .entering) : exec (.umbraEntryDone us) s =
    .next ((s.coreSaved.railsOff.umbraEntered us (if s.power.abandon then .leaving else .asleep)).record 0x00D1
      .management []) := congrArg Host.Outcome.next (if_neg (not_not.2 h))

/-- The rails leave everything but their own registers. -/
theorem State.railsOff_sameBut (s : State) : SameBut [.power] s s.railsOff :=
  ((sameBut_power s _).trans (sameBut_power _ _)).trans (sameBut_power _ _)

theorem State.railsOff_kept (s : State) : s.railsOff.power.core = s.power.core ∧
    s.railsOff.power.umbraCnt = s.power.umbraCnt := ⟨rfl, rfl⟩

theorem execUmbraEntryDone_enters (h : s.power.umbra = .entering) : ∃ t, exec (.umbraEntryDone us) s = .next t ∧
    t.power.core = false ∧ t.power.entryUs = BitVec.ofNat 16 us ∧
    t.power.umbra = (if s.power.abandon = true then .leaving else .asleep) ∧ t.planes.data = .off ∧
    t.planes.ctl = .off ∧ t.power.umbraCnt = s.power.umbraCnt.inc ∧ t.flash = s.flash ∧ t.boot = s.boot ∧
    t.peri.saved = some (s.peri.abandon.base, s.peri.abandon.cells) := by
  have hexec := execUmbraEntryDone_of_entering (us := us) h
  have hpower := s.coreSaved_power
  have hplanes := s.coreSaved_planes
  have hboot := s.coreSaved_boot
  have hsaved := s.coreSaved_peri
  have hflash := s.coreSaved_flash
  generalize s.coreSaved = saved at *
  have hrails := saved.railsOff_sameBut
  obtain ⟨hcore, hcnt⟩ := saved.railsOff_kept
  generalize saved.railsOff = off at *
  generalize (if s.power.abandon = true then Umbra.leaving else Umbra.asleep) = next at *
  have hrecord := (off.umbraEntered us next).record_management_sameBut 0x00D1 []
  have hpow : ((off.umbraEntered us next).record 0x00D1 .management []).power = (off.umbraEntered us next).power :=
    hrecord .power (by simp)
  have hall : SameBut [.power, .tail] saved ((off.umbraEntered us next).record 0x00D1 .management []) :=
    ((hrails.mono (by simp)).trans ((sameBut_power off _).mono (by simp))).trans (hrecord.mono (by simp))
  have hperi : ((off.umbraEntered us next).record 0x00D1 .management []).peri = saved.peri := hall .peri (by simp)
  have hfl : ((off.umbraEntered us next).record 0x00D1 .management []).flash = saved.flash := hall .flash (by simp)
  have hbt : ((off.umbraEntered us next).record 0x00D1 .management []).boot = saved.boot := hall .boot (by simp)
  have hpl : ((off.umbraEntered us next).record 0x00D1 .management []).planes = saved.planes := hall .planes (by simp)
  refine ⟨_, hexec, ?_, ?_, ?_, ?_, ?_, ?_, hfl.trans hflash, hbt.trans hboot, ?_⟩
  · rw [hpow]
    exact hcore.trans (congrArg Power.core hpower :)
  · rw [hpow]
    rfl
  · rw [hpow]
    rfl
  · rw [hpl, hplanes]
  · rw [hpl, hplanes]
  · rw [hpow]
    exact congrArg Counter.inc (hcnt.trans (congrArg Power.umbraCnt hpower :))
  · rw [hperi, hsaved]

/-! ## An abandoned entry (R437) -/

theorem execUmbraExitDone_of_other (h : s.power.umbra = .awake ∨ s.power.umbra = .asleep) :
    exec (.umbraExitDone us) s = .next s := by
  refine congrArg Host.Outcome.next ?_
  obtain h | h := h <;> rw [h]

theorem execUmbraExitDone_of_entering (h : s.power.umbra = .entering) :
    exec (.umbraExitDone us) s = .next (if s.power.abandon then s.undoUmbra us else s) := by
  refine congrArg Host.Outcome.next ?_
  rw [h]

/-- The entry is undone. -/
def State.umbraUndone (us : Nat) (s : State) : State :=
  { s with power := { s.power with
    umbra := .awake, abandon := false, exitUs := BitVec.ofNat 16 us, umbraCnt := s.power.umbraCnt.inc } }

theorem State.undoUmbra_power (us : Nat) (s : State) : (s.undoUmbra us).power = (s.umbraUndone us).power := by
  refine State.power_of_trunk (s := s.umbraUndone us) ?_
  have hlinks (t : State) : ((List.range 32).foldl (fun s m =>
      if (s.linkHead? m).isSome then s.toState m Link.restart else s) t).trunk = t.trunk :=
    foldl_keep State.trunk _ (fun t m => by split <;> simp) _ t
  unfold State.undoUmbra
  dsimp only
  rw [State.calStart_trunk, State.event_trunk]
  split
  · rw [State.modDisp_trunk, hlinks]
    rfl
  · rw [hlinks]
    rfl

theorem execUmbraExitDone_undoes (h : s.power.umbra = .entering) (ha : s.power.abandon = true) :
    ∃ t, exec (.umbraExitDone us) s = .next t ∧ t.power.umbra = .awake ∧ t.power.abandon = false ∧
      t.power.exitUs = BitVec.ofNat 16 us ∧ t.power.umbraCnt = s.power.umbraCnt.inc := by
  refine ⟨s.undoUmbra us, (execUmbraExitDone_of_entering h).trans (congrArg _ (if_pos ha)), ?_⟩
  rw [State.undoUmbra_power]
  exact ⟨rfl, rfl, rfl, rfl⟩

end

/-! ## The exit (R436, R438) -/

/-- The phase, the core die's power, and the time that the exit took. -/
def State.phase (s : State) : Umbra × Bool × W16 := (s.power.umbra, s.power.core, s.power.exitUs)

section
variable {s t : State}

theorem State.phase_of_power (h : t.power = s.power) : t.phase = s.phase := by
  rw [State.phase, h]
  rfl

theorem State.phase_of_trunk (h : t.trunk = s.trunk) : t.phase = s.phase := State.phase_of_power (State.power_of_trunk h)

theorem State.phase_of_sameBut {w : List Part} (h : SameBut w s t) (hw : .power ∉ w) : t.phase = s.phase :=
  State.phase_of_power (h .power hw)

end

section
variable (s : State)

theorem State.meetsPoison_phase (which : Nat → Bool) : (s.meetsPoison which).2.phase = s.phase := by
  unfold State.meetsPoison
  dsimp only
  split
  · rfl
  · exact rfl

theorem State.dramError_phase (l : LineUe) : (s.dramError l).phase = s.phase :=
  State.phase_of_sameBut (s.dramError_sameBut l) (by simp)

/-- A poisoned line that was met is counted. -/
theorem State.dramNoted_phase (x : Option LineUe) : (x.elim s fun l => s.dramError l).phase = s.phase := by
  cases x with
  | none => rfl
  | some l => exact s.dramError_phase l

theorem State.adoptThermal_phase (e : Eph) : (s.adoptThermal e).phase = s.phase := rfl

theorem State.swapEph_phase (k : AdoptKind) (e : Eph) (container : List Byte) :
    (s.swapEph k e container).phase = s.phase := by
  unfold State.swapEph
  dsimp only
  rw [State.phase_of_trunk ((State.adoptDisplay_trunk ..).trans (State.adoptCal_trunk ..)), State.adoptThermal_phase]
  exact State.phase_of_trunk (by simp)

theorem State.noteAdoption_phase (e : Eph) : (s.noteAdoption e).phase = s.phase := by
  unfold State.noteAdoption
  dsimp only
  rw [State.phase_of_power (State.flushHeader_power _),
    State.phase_of_trunk ((State.event_trunk ..).trans (State.record_trunk ..))]
  rfl

theorem State.adopt_umbra_phase (e : Eph) (container : List Byte) : (s.adopt .umbra e container).phase = s.phase := by
  have heq : s.adopt .umbra e container = (s.swapEph .umbra e container).noteAdoption e := rfl
  rw [heq, State.noteAdoption_phase, State.swapEph_phase]

theorem State.readopt_phase : s.readopt.phase = s.phase := by
  have hmet : ((s.meetsPoison (· == 0)).1.elim s fun l => (s.meetsPoison (· == 0)).2.dramError l).phase = s.phase := by
    cases (s.meetsPoison (· == 0)).1 with
    | none => rfl
    | some l => exact (State.dramError_phase _ l).trans (s.meetsPoison_phase _)
  have hreject (x : EphFail) (t : State) : (t.bootReject x).phase = t.phase :=
    State.phase_of_trunk (State.bootReject_trunk x t)
  unfold State.readopt
  dsimp only
  split
  · rw [hreject, hmet]
  · split
    · rfl
    · split
      · exact s.adopt_umbra_phase _ _
      · exact hreject _ s
    · exact hreject _ s

theorem State.periBack_phase : s.periBack.phase = s.phase := by
  unfold State.periBack
  split
  · rfl
  · exact (State.dramNoted_phase _ _).trans (s.meetsPoison_phase _)

theorem State.checkGrids_phase : s.checkGrids.phase = s.phase := by
  refine foldl_keep State.phase _ (fun t g => ?_) _ s
  split
  · rfl
  · exact (State.dramNoted_phase _ _).trans (t.meetsPoison_phase _)

theorem State.timeFromAon_phase : s.timeFromAon.phase = s.phase := by
  refine State.phase_of_trunk ?_
  unfold State.timeFromAon
  dsimp only
  rw [State.deriveIx_trunk, State.setRate_trunk]
  rfl

/-- The core die is powered for the exit. -/
def State.corePowered (s : State) : State :=
  let s := (s.planesUp .ready).coreSensors
  { s with mem := { s.mem with selfRefresh := 0 } }

/-- The ephemeris is in force again, and the channels are at RATE. -/
def State.ephBack (s : State) : State :=
  State.fspUp { s.readopt with peri := { s.readopt.peri with saved := s.peri.saved } }

theorem State.coreBack_eq : s.coreBack =
    s.corePowered.timeFromAon.engineHome.ephBack.periBack.gridsBack.restartDisplay.dueNtest := rfl

theorem State.corePowered_phase : s.corePowered.phase = (s.power.umbra, true, s.power.exitUs) := rfl

theorem State.ephBack_phase : s.ephBack.phase = s.phase := by
  unfold State.ephBack
  rw [State.phase_of_sameBut (State.fspUp_sameBut _) (by simp)]
  exact s.readopt_phase

theorem State.gridsBack_phase : s.gridsBack.phase = s.phase := State.checkGrids_phase _

theorem State.coreBack_phase : s.coreBack.phase = (s.power.umbra, true, s.power.exitUs) := by
  have hdisplay (t : State) : t.restartDisplay.phase = t.phase := rfl
  have hengines (t : State) : t.engineHome.phase = t.phase := rfl
  rw [State.coreBack_eq, State.phase_of_trunk (State.dueNtest_trunk _), hdisplay, State.gridsBack_phase,
    State.periBack_phase, State.ephBack_phase, hengines, State.timeFromAon_phase, State.corePowered_phase]

theorem State.ctlFault_phase (cause : Nat) (good : Bool) : (s.ctlFault cause good).phase = s.phase := by
  have hfail (t : State) : (t.healthFail (ctlCheck cause)).phase = t.phase :=
    State.phase_of_sameBut (t.revert_sameBut _) (by simp)
  have hnote (t : State) (p : List Byte) : (t.record 0x0032 .control p).phase = t.phase :=
    State.phase_of_trunk (State.record_trunk ..)
  unfold State.ctlFault
  dsimp only
  split
  · rfl
  · split
    · split
      · rw [hfail, hnote]
      · have hbegun (t : State) : (t.beginTransit 0).phase = t.phase := rfl
        rw [hbegun, hfail, hnote]
    · rw [hfail]
      exact (hnote _ _).trans (State.phase_of_trunk (State.trigger_trunk ..))

theorem State.controlBack_phase : s.controlBack.phase = s.phase := by
  unfold State.controlBack
  dsimp only
  cases (s.meetsPoison (· == 1)).1 with
  | none => exact s.meetsPoison_phase _
  | some l =>
    exact (State.ctlFault_phase _ 3 false).trans ((State.dramError_phase _ l).trans (s.meetsPoison_phase _))

/-- The exit ends awake. -/
def State.umbraLeft (us : Nat) (s : State) : State :=
  { s with power := { s.power with umbra := .awake, exitUs := BitVec.ofNat 16 us, wakeL := s.power.perst } }

/-- The core rails are up. -/
def State.coreRailsUp (s : State) : State := [0, 1, 2].foldl (fun s r => s.railNow r (railNominal r)) s

variable {s} in
theorem execUmbraExitDone_of_leaving (us : Nat) (h : s.power.umbra = .leaving) : exec (.umbraExitDone us) s = .next
    (((s.umbraLeft us).coreRailsUp.coreBack.controlBack.calDue.event 8 0 0).calStart) := by
  refine congrArg Host.Outcome.next ?_
  rw [h]
  rfl

variable {s} in
theorem execUmbraExitDone_leaves (us : Nat) (h : s.power.umbra = .leaving) : ∃ t, exec (.umbraExitDone us) s = .next t ∧
    t.power.umbra = .awake ∧ t.power.core = true ∧ t.power.exitUs = BitVec.ofNat 16 us := by
  have hrails : (s.umbraLeft us).coreRailsUp.power.umbra = .awake ∧
      (s.umbraLeft us).coreRailsUp.power.exitUs = BitVec.ofNat 16 us := ⟨rfl, rfl⟩
  obtain ⟨humbra, hexit⟩ := hrails
  have hphase : ((s.umbraLeft us).coreRailsUp.coreBack.controlBack.calDue.event 8 0 0).calStart.phase =
      (.awake, true, BitVec.ofNat 16 us) := by
    rw [State.phase_of_trunk ((State.calStart_trunk _).trans ((State.event_trunk ..).trans (State.calDue_trunk _))),
      State.controlBack_phase, State.coreBack_phase, humbra, hexit]
  simp only [State.phase, Prod.mk.injEq] at hphase
  exact ⟨_, execUmbraExitDone_of_leaving us h, hphase⟩

end

/-! ## XTAL32 and the clock domains (R426, R430) -/

section
variable {s : State}

theorem execXtal32Lost_noted (h : s.power.vin = true) : ∃ t, exec .xtal32Lost s = .next t ∧
    t.power = { s.power with xtal32Lost := true } ∧ SameBut [.power] s t :=
  ⟨_, congrArg Host.Outcome.next (if_pos h), rfl, sameBut_power s _⟩

theorem execXtal32Lost_of_off (h : s.power.vin = false) : exec .xtal32Lost s = .next s :=
  congrArg Host.Outcome.next (if_neg (by rw [h]; exact Bool.false_ne_true))

/-- Domain `d` has been idle for its time. -/
def State.domainIdle (s : State) (d : Nat) : Prop :=
  (d = 1 ∧ s.mgmtBusy = false ∧ 4000 ≤ s.power.mgmtIdle + 1) ∨ (d = 11 ∧ s.imgBusy = false ∧ 4000 ≤ s.power.imgIdle + 1)

/-- A domain that is stopped is off. -/
theorem bitOf_cleared {d : Nat} (hd : d < 32) (w : W32) : bitOf (w &&& ~~~((1 : W32) <<< d)) d = false := by
  simp [bitOf, hd]

theorem execDomainClockStop_stops {d : Nat} (hd : d < 32) (h : s.domainIdle d) : ∃ t,
    exec (.domainClockStop d) s = .next t ∧ SameBut [.power] s t ∧ bitOf t.power.domains d = false := by
  exact ⟨_, congrArg Host.Outcome.next (if_pos h), sameBut_power s _, bitOf_cleared hd s.power.domains⟩

theorem execDomainClockStop_waits {d : Nat} (hmgmt : d = 1 → s.mgmtBusy = true ∨ s.power.mgmtIdle + 1 < 4000)
    (himg : d = 11 → s.imgBusy = true ∨ s.power.imgIdle + 1 < 4000) : exec (.domainClockStop d) s = .next s := by
  refine congrArg Host.Outcome.next (if_neg ?_)
  rintro (⟨rfl, hidle, hlong⟩ | ⟨rfl, hidle, hlong⟩)
  · obtain hbusy | hshort := hmgmt rfl
    · exact Bool.noConfusion (hbusy.symm.trans hidle)
    · omega
  · obtain hbusy | hshort := himg rfl
    · exact Bool.noConfusion (hbusy.symm.trans hidle)
    · omega

end

/-- Settles O52: the commands, the wake events by the phase they find, the ends of entry and exit, and the clocks. -/
theorem umbraIsEnteredAndLeft : Obligations.UmbraIsEnteredAndLeft := by
  refine ⟨fun e s t f => ⟨exec_powerStatus, fun h hz hidle haxes htests hreads hcopying hact =>
      exec_powerUmbra_enters h hz hidle (State.umbraBusy_eq_false haxes htests hreads hcopying) hact,
      fun env h hz hoff => ?_, fun env h hz hoff => exec_powerWake_restarts h hz hoff⟩,
    fun s => ⟨⟨s.wake 2, rfl, Wakes.of_wake 2 s⟩, execPerstRelease_wakes, execWakeTimer_wakes, execWakeTimer_early,
      fun us => execUmbraEntryDone_of_other, fun us => execUmbraExitDone_of_other, fun us h =>
        ⟨execUmbraEntryDone_enters h, execUmbraExitDone_undoes h, fun ha =>
          (execUmbraExitDone_of_entering h).trans (congrArg _ (if_neg (by rw [ha]; exact Bool.false_ne_true)))⟩,
      execUmbraExitDone_leaves, execXtal32Lost_noted, execXtal32Lost_of_off,
      fun hidle hlong => execDomainClockStop_stops (by decide) (.inl ⟨rfl, hidle, hlong⟩),
      fun hidle hlong => execDomainClockStop_stops (by decide) (.inr ⟨rfl, hidle, hlong⟩),
      fun d => execDomainClockStop_waits⟩⟩
  obtain ⟨u, hexec, hframe, hasleep, hawake, hentering⟩ := exec_powerWake_wakes (env := env) h hz hoff
  refine ⟨fun hu => ⟨u, hexec, ?_⟩, fun hu => ⟨u, hexec, ?_⟩, fun hu => ⟨u, hexec, ?_⟩⟩
  · exact ⟨(hasleep hu).1, (hasleep hu).2, hframe⟩
  · exact ⟨(hawake hu).1, (hawake hu).2, hframe⟩
  · exact ⟨(hentering hu).1, (hentering hu).2, hframe⟩

end Sys2Proof.Machine
end
